-- ==== Sys2Proof/Word.lean ====
section
/-! DEFINITION. Word.lean: the words of the device (R3, R4) and the plainest arithmetic on them. -/

namespace Sys2Proof

/-- One byte. -/
abbrev Byte := BitVec 8
/-- A register word: every BAR0 register is 32 bits wide (R693). -/
abbrev W32 := BitVec 32
/-- A crossing-FIFO word (R547). -/
abbrev W64 := BitVec 64

/-- Device time in units of 2^-32 ns, the resolution of HTW128 (R42): `(SEC * 10^9 + NSEC) * 2^32 + FRAC`. -/
abbrev Time := Nat

/-- One nanosecond of device time. -/
def nsT : Nat := 4294967296
/-- One microsecond of device time. -/
def usT : Nat := 1000 * nsT
/-- One millisecond of device time. -/
def msT : Nat := 1000000 * nsT
/-- One second of device time. -/
def secT : Nat := 1000000000 * nsT

end Sys2Proof
end

