-- ==== Sys2Proof/Syntax.lean ====
section
/-! DEFINITION. Syntax.lean: the commands of the block, one constructor of `Instr` per row of
spec/opcode_table.json, and the operand records they carry. A row of the table names no operands; each
constructor carries what the row's rule needs and the device cannot know by itself. -/

namespace Sys2Proof

/-- A gPTP domain (Table 2.2). -/
inductive Dom where | a | b
  deriving DecidableEq, Repr, Inhabited

/-- The kind of an access, as Table 13.5 KINDS names it (R573). -/
inductive Kind where | read | write | command
  deriving DecidableEq, Repr, Inhabited

/-- What an on-die transaction addresses: a device address, a BAR0 offset, or a command port behind H37 (Table 13.4). -/
inductive Space where | dev | bar0 | port
  deriving DecidableEq, Repr, Inhabited

/-- One memory-mapped transaction on the on-die network (R10). `disagree`: the hurdle's two checkers differ (R575). -/
structure BusTxn where
  id : BitVec 10
  kind : Kind
  space : Space
  addr : BitVec 48
  len : Nat
  data : List Byte
  disagree : Bool
  deriving DecidableEq, Repr, Inhabited

/-- A Sync with its Follow_Up (R46, R58): origin time, correctionField in 2^-16 ns, the raw capture, and the header values used. -/
structure SyncMsg where
  port : Fin 12
  t1 : Time
  correction : Int
  raw : Time
  utcOffset : Int
  deriving DecidableEq, Repr, Inhabited

/-- An Announce: the priority vector of IEEE 802.1AS-2020 in comparison order, and the port it came on (R46, R65). -/
structure Announce where
  priority1 : BitVec 8
  clockClass : BitVec 8
  accuracy : BitVec 8
  variance : BitVec 16
  priority2 : BitVec 8
  identity : BitVec 64
  steps : BitVec 16
  port : Fin 12
  deriving DecidableEq, Repr, Inhabited

/-- The four capture times of a two-way delay exchange (R46, R601). -/
structure DelayTimes where
  t1 : Time
  t2 : Time
  t3 : Time
  t4 : Time
  deriving DecidableEq, Repr, Inhabited

/-- A received time block (R71 to R73): the sender's device time, its HOLDOVER and FREE_RUN bits, and the raw capture. -/
structure TimeBlock where
  sent : Time
  holdover : Bool
  freeRun : Bool
  raw : Time
  deriving DecidableEq, Repr, Inhabited

/-- The header of a CSI-2 short or unbound packet as received: its virtual channel, and whether its ECC corrected a bit (R84). -/
structure CsiHdr where
  vc : BitVec 4
  ecc1 : Bool
  deriving DecidableEq, Repr, Inhabited

/-- A CSI-2 long packet: data type, payload, and what the receiver's ECC and CRC said (R84, R85). -/
structure CsiLine where
  dt : BitVec 6
  data : List Byte
  ecc1 : Bool
  crcOk : Bool
  deriving DecidableEq, Repr, Inhabited

/-- What the SecY found in a MACsec frame (R96). -/
structure SecTag where
  channel : Fin 8
  an : BitVec 2
  pn : Nat
  icvOk : Bool
  deriving DecidableEq, Repr, Inhabited

/-- An Ethernet frame received on a switch port (R87 to R92, R96, R671, R750). -/
structure EthFrame where
  raw : Time
  dmac : BitVec 48
  smac : BitVec 48
  vlan : BitVec 12
  pcp : BitVec 3
  etype : BitVec 16
  udp : BitVec 16
  len : Nat
  fcsOk : Bool
  sec : Option SecTag
  rseq : Option (BitVec 16)
  payload : List Byte
  deriving DecidableEq, Repr, Inhabited

/-- A UDP datagram delivered to the switch intake (R104, R110): port, raw capture, source match values and payload. -/
structure Datagram where
  port : Fin 12
  raw : Time
  vlan : BitVec 12
  smac : BitVec 48
  udp : BitVec 16
  payload : List Byte
  deriving DecidableEq, Repr, Inhabited

/-- The frame formats of a CAN controller (R97). -/
inductive CanFmt where | classical | fd | xl
  deriving DecidableEq, Repr, Inhabited

/-- An accepted CAN message (R98, R99): raw capture of SOF and the fields the filters match. -/
structure CanMsg where
  raw : Time
  fmt : CanFmt
  id : BitVec 29
  sdt : BitVec 8
  vcid : BitVec 8
  af : BitVec 32
  data : List Byte
  deriving DecidableEq, Repr, Inhabited

/-- What a CAN controller was doing when an error frame came (R97; ISO 11898-1): transmitting, receiving, or receiving with a dominant bit
after its own error flag. -/
inductive CanErr where | tx | rx | rxFirst
  deriving DecidableEq, Repr, Inhabited

/-- An error frame on the bus of a CAN controller (R97, R126). -/
structure CanErrFrame where
  ctl : Fin 4
  err : CanErr
  deriving DecidableEq, Repr, Inhabited

/-- An edge of a DRDY pin: its direction and raw capture (R53, R101). -/
structure DrdyEdge where
  falling : Bool
  raw : Time
  deriving DecidableEq, Repr, Inhabited

/-- A unit that counts violations and can be held (Table 3.9, R128, R630). -/
inductive QUnit where
  | slot (s : BitVec 8)
  | csi (p : Fin 12)
  | eth (q : Fin 12)
  | can (n : Fin 4)
  | imu (n : Fin 2)
  | slk (p : Fin 6)
  deriving DecidableEq, Repr, Inhabited

/-- The two queues of a tile (R217). -/
inductive TileQueue where | stage | background
  deriving DecidableEq, Repr, Inhabited

/-- What the checking mechanisms of a tile or a lane found while a command or problem ran (R223 to R225, R435). -/
inductive EngineFault where | none | corrected | retried | uncorrectable
  deriving DecidableEq, Repr, Inhabited

/-- A physical fault while a tile command runs (R220 to R227): accumulators of output block `k` off by what is given (row, column and
difference, or for floats the bits flipped), a vector instruction `k` with bits of a lane flipped, or the store copies of block or vector `k`
unequal; `again`: the recomputation or replay meets it again. In a KERNEL `k` counts 65,536 for each command of its list. -/
inductive TileFault where
  | none
  | acc (k : Nat) (errs : List (Nat × Nat × Int)) (again : Bool)
  | instr (k : Nat) (lane : Nat) (mask : W32) (again : Bool)
  | copy (k : Nat) (again : Bool)
  deriving DecidableEq, Repr, Inhabited

/-- What befalls a tile command while it runs: a physical fault, and the output block in work when device time reaches its DEADLINE (R218,
R220 to R227). -/
structure TileEvents where
  fault : TileFault := .none
  late : Option Nat := none
  deriving DecidableEq, Repr, Inhabited

/-- How a solver problem came to its end: how many iterations it had completed when its batch's cut-off came (none: it ran to its own end
first; R428, R430), whether its input could not be read (R434), and what the lane's checks found (R435). -/
structure ProblemOutcome where
  cut : Option Nat
  badInput : Bool
  lane : EngineFault
  deriving DecidableEq, Repr, Inhabited

/-- What a camera network knows of a detection beside its record: the frame's t_mid(0), its image box in depth pixels (first and last column,
first and last row) and its range in mm (R363). -/
structure DetBox where
  frame : Nat
  u0 : Nat
  u1 : Nat
  v0 : Nat
  v1 : Nat
  range : Nat
  deriving DecidableEq, Repr, Inhabited

/-- A detection as a network hands it to FLD: the record of Table 8.2, and what is known of it beside (R23, R363). -/
structure NewDet where
  bytes : List Byte
  box : DetBox
  deriving DecidableEq, Repr, Inhabited

/-- What the engines reached of a stage when its window closed: auction phases completed (R383), tracks the Checker compared (R571). -/
structure StageWork where
  phases : Nat
  compared : Nat
  deriving DecidableEq, Repr, Inhabited

/-- What the window watchdog missed (Table 13.2, R566). -/
inductive WdSignal where | openSig | closeSig | completion
  deriving DecidableEq, Repr, Inhabited

/-- A location read by a scrubber: a DRAM line address, or an SRAM array and byte offset (R523, R524). -/
inductive MemLoc where
  | dram (line : Nat)
  | sram (array : Nat) (offset : Nat)
  deriving DecidableEq, Repr, Inhabited

/-- The crossing FIFO instances of Table 12.5. -/
inductive FifoId where
  | publish
  | sicCsi (p : Fin 12)
  | sicEth (q : Fin 12)
  | sicCan (n : Fin 4)
  | sicImu (n : Fin 2)
  | mboxFcu | mboxMotion | mboxPartner | mboxObserve | mboxVerdict
  deriving DecidableEq, Repr, Inhabited

/-- The two island pairs (Table 13.1). -/
inductive PairId where | a | b
  deriving DecidableEq, Repr, Inhabited

/-- A calibration estimate of six parameters (R178, R180): µrad and Q22.10 mm. -/
structure CalEst where
  rot : Int × Int × Int
  trans : Int × Int × Int
  deriving DecidableEq, Repr, Inhabited

/-- What the inputs gave a keyframe (R185 to R190): query points of the scan, each with its scanner slot, in the sensor frame of the previous
keyframe's scan (Q22.10 mm), and the displacements of the features tracked between frames of one camera, in 1/16 pixel. -/
structure KeyframeObs where
  queries : List (BitVec 8 × Int × Int × Int)
  flow : List (Int × Int)
  deriving DecidableEq, Repr, Inhabited

/-- A result of the smoother batch (R188): its status, whether the solution was shifted, the smoothed position (Q38.10 mm), velocity (mm/s),
attitude (roll, pitch and yaw, µrad) and biases of the newest keyframe, and the 15 components of the older ones. -/
structure SmootherResult where
  status : BitVec 8
  shifted : Bool
  older : List (List Int)
  pos : List Int
  vel : List Int
  att : List Int
  bias : List Int
  sigmaV : Nat
  deriving DecidableEq, Repr, Inhabited

/-- A wheel, steering or inertial sample for the fallback (Table 13.6). -/
structure MotionSample where
  slot : BitVec 8
  time : Nat
  speed : Option Int
  yawRate : Option Int
  deriving DecidableEq, Repr, Inhabited

/-- The header of a Salarur Link frame (Table 14.1) as received, with the outcome of its two CRCs and of the reserved-field check. -/
structure LinkHdr where
  flags : BitVec 8
  len : Nat
  srcDev : BitVec 6
  dstDev : BitVec 6
  all : Bool
  epoch : BitVec 32
  lseq : BitVec 32
  step : Nat
  hcrcOk : Bool
  pcrcOk : Bool
  reservedZero : Bool
  lenOk : Bool
  deriving DecidableEq, Repr, Inhabited

/-- The content of a LINK_CTL frame (R599). -/
structure LinkAck where
  nak : Bool
  upTo : BitVec 32
  deriving DecidableEq, Repr, Inhabited

/-- The content of a HELLO frame (Table 14.2). -/
structure Hello where
  dev : BitVec 6
  stepping : BitVec 8
  feats : BitVec 256
  digest : BitVec 384
  epoch : BitVec 32
  posX : Nat
  posY : Nat
  deriving DecidableEq, Repr, Inhabited

/-- The content of an EPOCH frame (Table 14.2). -/
structure EpochMsg where
  epoch : BitVec 32
  members : BitVec 64
  t0 : Time
  step : Nat
  deriving DecidableEq, Repr, Inhabited

/-- One changed Fold record of a delta (R609): the 256 bytes of Table 8.1 and the input digest. -/
structure DeltaRec where
  slot : BitVec 20
  bytes : List Byte
  digest : BitVec 32
  deriving DecidableEq, Repr, Inhabited

/-- One KV entry with its sequence (R609, R613, R626). -/
structure KvItem where
  slot : BitVec 20
  bytes : List Byte
  deriving DecidableEq, Repr, Inhabited

/-- One DELTA_SEQ item (R609). -/
structure SeqItem where
  slot : BitVec 20
  state : BitVec 4
  entries : Nat
  oldest : Nat
  deriving DecidableEq, Repr, Inhabited

/-- The STEP_END payload (Table 14.4). -/
structure StepEnd where
  ego : List Byte
  nrec : Nat
  nkv : Nat
  nseq : Nat
  level : BitVec 3
  seqs : List (BitVec 32)
  dcrc : BitVec 32
  flocks : List (Nat × Nat)
  deriving DecidableEq, Repr, Inhabited

/-- A full copy of one track: SYNC_DATA (R613) or HAND (R626). -/
structure TrackCopy where
  slot : BitVec 20
  bytes : List Byte
  entries : List (List Byte)
  step : Nat
  deriving DecidableEq, Repr, Inhabited

/-- One forwarded detection (R624) with its BORDER flag. -/
structure FwdDet where
  bytes : List Byte
  border : Bool
  deriving DecidableEq, Repr, Inhabited

/-- One claimed border detection (R625). -/
structure Claim where
  origin : BitVec 6
  slot : BitVec 8
  detNo : BitVec 16
  deriving DecidableEq, Repr, Inhabited

/-- What the steps of Table 15.3 found at boot (R634 to R641): the first failing halting step, and whether identity recovery failed. -/
structure BootOutcome where
  halt : Option (Fin 8)
  idFail : Bool
  tileFail : List (Fin 34)
  laneFail : List (Fin 32)
  deriving DecidableEq, Repr, Inhabited

/-- THE COMMANDS: one constructor per row of spec/opcode_table.json, in the table's order. -/
inductive Instr where
  | hostBar2Request (write : Bool) (off : BitVec 36) (len : Nat) (data : List Byte)
  | onDieTransaction (t : BusTxn)
  | registerWrite (write : Bool) (off : BitVec 25) (size : Nat) (data : BitVec 64)
  | gptpSync (m : SyncMsg)
  | gptpSyncMonitored (m : SyncMsg)
  | gptpAnnounce (dom : Dom) (a : Announce)
  | gptpPdelay (port : Fin 12) (x : DelayTimes)
  | syncReceiptTimeout
  | holdoverMaxExpiry
  | timeBlockSend
  | timeBlock (port : Fin 6) (b : TimeBlock)
  | timeBlockTimeout
  | delayRequestSend (port : Fin 6)
  | delayRequest (port : Fin 6) (rx : Time)
  | delayResponse (port : Fin 6) (x : DelayTimes)
  | ppsOutRise
  | ppsOutFall
  | ppsInEdge (raw : Time)
  | ppsInTimeout
  | timeSnapshot
  | timeSet
  | workDomWrite (dom : Dom)
  | tbuSrcWrite (src : BitVec 2)
  | csiFrameStart (p : Fin 12) (h : CsiHdr) (raw : Time)
  | csiImageLine (p : Fin 12) (vc : BitVec 4) (line : CsiLine)
  | csiEmbeddedData (p : Fin 12) (vc : BitVec 4) (line : CsiLine)
  | csiFrameEnd (p : Fin 12) (h : CsiHdr)
  | csiLineMarker (p : Fin 12) (h : CsiHdr) (isEnd : Bool)
  | csiUnboundPacket (p : Fin 12) (h : CsiHdr) (dt : BitVec 6)
  | csiBadHeader (p : Fin 12)
  | ethFrameReceived (q : Fin 12) (f : EthFrame)
  | ethFrameTransmit (q : Fin 12)
  | tasGateEvent (q : Fin 12)
  | pointPacket (d : Datagram)
  | partnerList (d : Datagram)
  | canMessage (n : Fin 4) (m : CanMsg)
  | canErrorFrame (e : CanErrFrame)
  | canBusOff (n : Fin 4)
  | canBusRecovery (n : Fin 4)
  | imuDrdyEdge (n : Fin 2) (e : DrdyEdge)
  | imuResponse (n : Fin 2) (data : List Byte)
  | imuDrdyMiss (n : Fin 2)
  | sqiDegraded (q : Fin 12) (sqi : BitVec 8)
  | slotSilence (slot : BitVec 8)
  | partnerLeave (slot : BitVec 8)
  | quarantineHoldEnd (u : QUnit)
  | admission (slot : BitVec 8)
  | slotRelease (slot : BitVec 8)
  | slotReadmit (slot : BitVec 8)
  | slotQuarantine (slot : BitVec 8)
  | patchDue (path : Nat)
  | patchInject (path : Nat)
  | patchEvaluation (path : Nat) (lost : Bool) (flip : BitVec 32)
  | fcuClusterEmit (slot : BitVec 8)
  | pointDeskew
  | deskewHoldResume
  | deskewExtrapolate
  | depthImageClose (cam : Fin 48)
  | gridFrameClose
  | calEstimate (slot : BitVec 8) (est : CalEst)
  | calReset (slot : BitVec 8)
  | freeze (slot : BitVec 8)
  | unfreeze (slot : BitVec 8)
  | egoKeyframe (k : KeyframeObs)
  | egoSmootherResult (r : SmootherResult)
  | egoHoldTimeout
  | egoRecordSnapshot
  | tileCommandEnqueue (tile : Fin 34) (q : TileQueue) (id : BitVec 10) (desc : List Byte)
  | matmul (tile : Fin 34) (e : TileEvents)
  | conv (tile : Fin 34) (e : TileEvents)
  | vector (tile : Fin 34) (e : TileEvents)
  | kernel (tile : Fin 34) (e : TileEvents)
  | attend (tile : Fin 34) (e : TileEvents)
  | sync (tile : Fin 34)
  | bist (tile : Fin 34) (passed : Bool)
  | tileCommandComplete (tile : Fin 34)
  | tileDeadline (tile : Fin 34)
  | tileHeartbeatMiss (tile : Fin 34)
  | spareWakeDone
  | spareBistDone (passed : Bool)
  | spareLoadDone
  | tileInject (tile : Fin 34) (w : W32)
  | tileDoorbell (tile : Fin 34)
  | offlineBistRequest (tile : BitVec 6)
  | offlineBistDone (passed : Bool)
  | descCreate (handle : BitVec 12)
  | descDestroy (handle : BitVec 12)
  | signalRaise (sig : BitVec 10) (inc : BitVec 16)
  | setTriggerIngress (set : Fin 16) (row : Nat) (item : List Byte)
  | setTriggerStep (set : Fin 16)
  | setTriggerSignal (set : Fin 16)
  | setTriggerOnce (set : Fin 16)
  | setTransferDone (set : Fin 16)
  | setTransferDeadline (set : Fin 16)
  | shadowWrite (set : Fin 16) (word : Fin 8) (v : W32)
  | setCommit (set : Fin 16)
  | programGo (ch : Fin 16)
  | programAbort (ch : Fin 16)
  | move (ch : Fin 16)
  | loop (ch : Fin 16)
  | wait (ch : Fin 16)
  | signal (ch : Fin 16)
  | fence (ch : Fin 16)
  | endProgram (ch : Fin 16)
  | moveDone (ch : Fin 16) (k : Fin 4)
  | waitTimeout (ch : Fin 16)
  | openSeq (id : BitVec 10) (slot : BitVec 20) (tid : W32) (flock : BitVec 12)
  | fallow (id : BitVec 10) (slot : BitVec 20)
  | activate (id : BitVec 10) (slot : BitVec 20)
  | close (id : BitVec 10) (slot : BitVec 20)
  | dropOldest (id : BitVec 10) (slot : BitVec 20) (count : BitVec 5)
  | dropAll (id : BitVec 10) (slot : BitVec 20)
  | addPage (id : BitVec 10) (slot : BitVec 20) (size : BitVec 5)
  | flockCreate (id : BitVec 10) (flock : BitVec 12) (pageQ : W32) (lim : W32)
  | setQuota (id : BitVec 10) (flock : BitVec 12) (pageQ : W32) (lim : W32)
  | disableFlock (id : BitVec 10) (flock : BitVec 12)
  | kvAppend (slot : BitVec 20) (time : Nat) (sensor : BitVec 8) (late : Bool)
  | reclaimer
  | walkStart (slot : BitVec 20) (tile : Fin 34) (ahead : Bool)
  | walkEnd (slot : BitVec 20)
  | ingestCutoff
  | detectionReady (d : NewDet)
  | trackConfirmTimeout (slot : BitVec 20)
  | trackCoastTimeout (slot : BitVec 20)
  | trackFallowTimeout (slot : BitVec 20)
  | fallowMaxTimeout (slot : BitVec 20)
  | kill (slot : BitVec 20)
  | clearContra (slot : BitVec 8)
  | contraDecay
  | batchSubmit (id : BitVec 10) (desc : List Byte)
  | bseDoorbell
  | problemStart (lane : Fin 32)
  | problemDone (lane : Fin 32) (r : ProblemOutcome)
  | batchCutoff (tag : BitVec 8)
  | batchDone (tag : BitVec 8)
  | bseInject (w : W32)
  | runStart
  | runStop
  | cycleStopped
  | stageOpen (k : Fin 5)
  | stageClose (k : Fin 5) (w : StageWork)
  | stageComplete (k : Fin 5)
  | windowWatchdogTimeout (k : Fin 5) (sig : WdSignal)
  | publicationStart
  | csSegmentSent
  | cadenceRequest (idx : BitVec 2)
  | cadenceSwitch
  | ringConsWrite (v : W32)
  | pfifoRead (wide : Bool)
  | load
  | loadEnd
  | abort
  | rbAdvance
  | rbAdvanceDone
  | unload
  | resumeDone
  | memFillDone (sram dram : Bool)
  | scrubRead (loc : MemLoc)
  | islandScrubRead (offset : Nat) (bits : Nat)
  | scrubAdaptPeriod
  | ceRateReport
  | retireAdd
  | memInject (w : W32)
  | fifoWrite (f : FifoId) (w : W64)
  | fifoFlush (f : FifoId)
  | fifoRead (f : FifoId)
  | lockstepMismatch (p : PairId)
  | pairRestartDone (p : PairId)
  | islandPairMiss (p : PairId)
  | conditionHoldExpiry (c : Fin 16)
  | force (level : BitVec 3)
  | release
  | restart
  | fbCluster (slot : BitVec 8)
  | fbMotionSample (m : MotionSample)
  | fbPartnerList (slot : BitVec 8) (bytes : List Byte)
  | fbTrackTimeout (n : BitVec 8)
  | hbToggle
  | safeReqChange (level : Bool)
  | linkLock (p : Fin 6)
  | linkCtl (p : Fin 6) (h : LinkHdr) (a : LinkAck)
  | linkReplayTimeout (p : Fin 6)
  | hello (p : Fin 6) (h : LinkHdr) (m : Hello)
  | echo (p : Fin 6) (h : LinkHdr) (reply : Bool) (crcOk : Bool)
  | feat (p : Fin 6) (h : LinkHdr) (feats : BitVec 256)
  | epoch (p : Fin 6) (h : LinkHdr) (m : EpochMsg)
  | deltaRec (p : Fin 6) (h : LinkHdr) (recs : List DeltaRec)
  | deltaKv (p : Fin 6) (h : LinkHdr) (items : List KvItem)
  | deltaSeq (p : Fin 6) (h : LinkHdr) (items : List SeqItem)
  | stepEnd (p : Fin 6) (h : LinkHdr) (m : StepEnd)
  | deltaAck (p : Fin 6) (h : LinkHdr)
  | syncData (p : Fin 6) (h : LinkHdr) (c : TrackCopy)
  | handoff (p : Fin 6) (h : LinkHdr) (k : Nat)
  | detFwd (p : Fin 6) (h : LinkHdr) (dets : List FwdDet)
  | detClaim (p : Fin 6) (h : LinkHdr) (claims : List Claim)
  | hand (p : Fin 6) (h : LinkHdr) (c : TrackCopy)
  | handAck (p : Fin 6) (h : LinkHdr) (globalId : BitVec 64) (status : BitVec 8)
  | handAbort (p : Fin 6) (h : LinkHdr) (globalId : BitVec 64)
  | listFrame (p : Fin 6) (h : LinkHdr) (bytes : List Byte)
  | stepEndTimeout
  | deltaAckTimeout
  | memberTimeout (dev : BitVec 6)
  | bellwetherTimeout
  | handAckDeadline (slot : BitVec 20)
  | handAbortDeadline (slot : BitVec 20)
  | handRetryExpiry (slot : BitVec 20)
  | borderHoldExpiry
  | switchover
  | handoffStep
  | resync
  | portReadmit (p : BitVec 3)
  | mringConsWrite (m : BitVec 6) (v : W32)
  | importKey
  | clearKey
  | bind
  | unbind
  | selectTx
  | challenge
  | unlock
  | revoke
  | reprovision
  | provision
  | attest
  | zeroise
  | secCommandComplete
  | alarmTrip (sources : BitVec 6)
  | trngHealthFail
  | alarmPolicyWrite (v : W32)
  | standby
  | wake
  | sentinel (dramKeep : Bool)
  | powerTransitionDone
  | tc10Wake
  | canWake (n : Fin 4) (us : Nat)
  | wakeTimerExpiry
  | warm
  | accel
  | tileReset (tile : BitVec 6)
  | porNAssert
  | porNRelease (bootSel : BitVec 2) (boot : BootOutcome)
  | warmNAssert (ns : Nat)
  | perstAssert
  | perstRelease
  | deviceReady
  | pllLock (n : Fin 8)
  | tileDomainReady (tile : Fin 34)
  | xtal32kStable
  | thermalNear (temp : BitVec 16)
  | go
  | featureUnlock
  | eventLogEntry
  | evtConsWrite (v : W32)
  | evtCfgWrite (v : W32)
  | evtLastSnapshot
  | sigmapWrite (v : Fin 56) (w : W32)
  | msixModerationEnd
  | msixUnmask (v : Fin 64)
  | busMasterEnable
  | d3hotEntry
  | d3hotExit
  | l1EntryRequest
  | functionLevelReset
  | pdelayReqSend (port : Fin 12)
  | gmSyncSend (dom : Dom)
  | linkDown (p : Fin 6)
  | ethLinkChange (q : Fin 12) (up : Bool)
  | pcieLinkUp
  | suppliesInRange
  | suppliesRemoved
  | fbDeadReckoningLost
  deriving DecidableEq, Repr, Inhabited

end Sys2Proof
end

