-- ==== Sys2Proof/Decode.lean ====
section
/-! DEFINITION. Decode.lean: the block fetches no instruction and spec/opcode_table.json gives none of its rows a bit, so no word spells a
command. -/

namespace Sys2Proof

/-- The command that a word spells by the table's bits: the table gives bits to no row. -/
def decodeTableWord (_nbits _w : Nat) : Option Instr := none

end Sys2Proof
end

