-- ==== Sys2Proof/Config.lean ====
section
/-! DEFINITION. Config.lean: what the manual leaves to the implementation, to standards it names, or open. Each constant below has no
body, so nothing can be proved of its value; log entries 6 and 9 to 12 say which point of the manual each one stands for. -/

namespace Sys2Proof

/-- An instruction of a vector program (R211 to R214, R222): registers of 64 lanes of 32 bits; `d` is written, `a`, `b`, `c` are read. The
manual gives the operations and not their encoding, which `Config.vecInstr` stands for (log entry 12). -/
inductive VecOp where
  /-- every lane the same word -/
  | const (d : Fin 32) (v : W32)
  /-- integer sum, difference and product: wrap, or saturate (R212) -/
  | iadd (d a b : Fin 32) (sat : Bool)
  | isub (d a b : Fin 32) (sat : Bool)
  | imul (d a b : Fin 32) (sat : Bool)
  /-- compare: 1 where a is greater (Table 5.2) -/
  | igt (d a b : Fin 32)
  /-- Qm.n product and sum (R212) -/
  | qmul (d a b : Fin 32) (n : Fin 32)
  | qadd (d a b : Fin 32)
  /-- FP32 sum, product, fused multiply-add a b + c, and compare (R213) -/
  | fadd (d a b : Fin 32)
  | fmul (d a b : Fin 32)
  | ffma (d a b c : Fin 32)
  | fgt (d a b : Fin 32)
  /-- special functions: 0 exp2, 1 log2, 2 reciprocal, 3 reciprocal square root (R213) -/
  | sfu (k : Fin 4) (d a : Fin 32)
  /-- reduction of a's lanes added to lane 0 of d, integer or FP32 (R214) -/
  | isum (d a : Fin 32) (sat : Bool)
  | fsum (d a : Fin 32)
  /-- the lanes of a go to the store path -/
  | emit (a : Fin 32)
  /-- what follows runs once, after the last vector -/
  | last
  deriving DecidableEq, Repr, Inhabited

/-- The element-wise functions of FUNC (Table 9.4). -/
inductive SolverFn where | sqrt | rsqrt | recip | sin | cos
  deriving DecidableEq, Repr, Inhabited

/-- An operation entry (R411): code of Table 9.4, dimensions, operand and result offsets in words of the work area, fraction bits of operands
and result, the pivot threshold τ and regulariser λ as mantissa and exponent, and what selects a transposed operand, a unit diagonal
or a function. The manual gives the entry's contents and not its layout, which `Config.opEntry` stands for (log entry 12). -/
structure OpEntry where
  code : Nat
  rows : Nat
  cols : Nat
  /-- inner dimension of a product; right-hand columns of a factorisation or substitution -/
  inner : Nat
  a : Nat
  b : Nat
  /-- the scalar of ADD, the permutation of LU, the time difference of SHIFT -/
  c : Nat
  dst : Nat
  fa : Nat
  fb : Nat
  fc : Nat
  fout : Nat
  tau : Nat × Int
  lam : Nat × Int
  transposed : Bool
  unitDiag : Bool
  fn : SolverFn
  deriving DecidableEq, Repr, Inhabited

/-- How FLD's batches run (Table 9.1): program, priority, pattern and order, transition, KAPPA, shifts permitted with their reserve in µs,
completion signal, and where the problem records and results stand (the Lath image's compiler chooses them; log entry 12). -/
structure FoldPlan where
  prog : Nat
  prio : Nat
  pattern : Nat
  order : Nat
  shiftEn : Bool
  trans : Nat
  kappa : Nat
  reserve : Nat
  sigDone : Nat
  src : Nat
  dst : Nat
  deriving DecidableEq, Repr, Inhabited

/-- Where a solver program keeps things in a lane's work area, as word offsets: the record's payload, X and SRI of a FOLD problem with their
fraction bits, the time from the previous solution to QTIME, the solution, the factor and the output with their lengths. -/
structure WorkLayout where
  payload : Nat
  x : Nat
  fx : Nat
  sri : Nat
  fsri : Nat
  dt : Nat
  sol : Nat × Nat
  fac : Nat × Nat
  out : Nat × Nat
  deriving DecidableEq, Repr, Inhabited

end Sys2Proof

namespace Sys2Proof.Config

/-- A free value: draws of SEC's DRBG and TRNG, and every value the manual leaves open (log entry 6). -/
opaque freeNat : Nat → Nat

/-- MACsec replay window of switch port `q` (R96: the manual gives no size; log entry 6). -/
opaque replayWindow : Nat → Nat

/-- The device knows a section layout: TYPE, SVER (R516 names no versions; log entry 17). -/
opaque sverKnown : Nat → Nat → Bool

/-- Highest FMT_MINOR a stepping knows (Table 11.10 gives none; log entry 17). -/
opaque fmtMinor : BitVec 8 → BitVec 8

/-- The 256-bit secret that the fuzzy extractor makes of the PUF array's power-up values with PUF_HELPER (R638; log entry 9). -/
opaque pufSecret : BitVec 2048 → List Byte

/-! Tables of which the manual gives only an error bound (log entry 11). -/

/-- Error of the table of cosine (false) or sine (true) for an angle in µrad; `cosQ30` and `sinQ30` hold it to the bound of R156. -/
opaque tableErr : Bool → Int → Nat
/-- Error of the table of cosine (false) or sine (true) for a phase in 2^-32 turns; `cosTurn` and `sinTurn` hold it to the bound of R336. -/
opaque turnErr : Bool → Nat → Nat
/-- Error of a special function of an FP32 word, 0 exp2, 1 log2, 2 reciprocal, 3 reciprocal square root; `sfu` holds it to 1 ulp (R213). -/
opaque sfuErr : Nat → Nat → Nat
/-- A special function where the exact result is no finite number: zero, negative, infinite and NaN operands (R213 states none). -/
opaque sfuOpen : Nat → Nat → BitVec 32
/-- Error of ELEV and AZIM of a Cartesian point; `polarOf` holds it to the unit of R144. -/
opaque polarErr : Int → Int → Int → Nat

/-! Numerics whose internal formats the manual does not give (log entry 12). -/

/-- Error of the deskew of a vehicle-frame point between two instants; `State.deskew` holds it to the bound of R160. -/
opaque deskewErr : Int → Int → Int × Int × Int → Int × Int × Int
/-- Row and column of the EGO range image of a scanner slot for ELEV and AZIM, and its rows and columns (R186: the Lath image sets them). -/
opaque egoRow : Nat → Int → Nat → Nat
opaque egoCol : Nat → Int → Nat → Nat
opaque egoRows : Nat → Nat
opaque egoCols : Nat → Nat
/-- Normal of the plane fitted through some points, Q1.30 (R186 names no fit). -/
opaque planeNormal : List (Int × Int × Int) → Int × Int × Int
/-- Angular rate in µrad/s and acceleration in mm/s² of an IMU response, by the slot descriptor's extension: six numbers (R102). -/
opaque imuValues : List Byte → List Byte → List Int
/-- Left and right driven wheel speeds in mm/s, steering angle in µrad and track width in mm, by the slot descriptor's extension and the
message's signals (Table 4.5). -/
opaque wheelOf : List Byte → List Int → Int × Int × Int × Int
/-- One inertial sample applied to EGO's state over a number of ns: position, quaternion, velocity, angular rate and acceleration; biases; the
sample's six numbers (R189 gives no mechanisation). -/
opaque imuStep : List Int → List Int → List Int → Int → List Int
/-- Prior on the next keyframe left by the keyframe that is marginalised (R187): its 15 components and the prior before. -/
opaque marginalise : List Int → List Int → List Int
/-- Batch descriptor of a smoother solve (R188): keyframes, prior, factors and noise of EGO_NOISEk; its DEADLINE is set by EGO. -/
opaque smootherBatch : List (List Int) → List Byte
/-- Height and vertical speed of a fallback track, mm and mm/s (R580 gives the fallback neither; Table 10.4 holds both). -/
opaque fbHeight : List Int → Int × Int
/-- Update of a fallback track by a measurement (R581): track numbers, measurement; new track numbers. -/
opaque fbUpdate : List Int → List Int → List Int
/-- Lower triangle of a square root of a fallback track's position covariance, mm: predicted state and covariance words (R580, R581 give the
filter no noise). -/
opaque fbCov : List Int → Int × Int × Int
/-- Squared distance of a fallback track and a measurement whose joint covariance is singular, Q16.16 (R581 states none). -/
opaque fbDist : List Int → List Int → Nat
/-- Innovation ν of a detection against a track predicted to its TIME, and S⁻¹, by the Gate program of the detection's measurement model
(R374): STATE_TIME, record and detection. -/
opaque innovation : Nat → List Byte → List Byte → List Rat × List (List Rat)
/-- Horizontal position of a track's record at an instant other than its STATE_TIME, Q22.10 mm (R374 names no motion): record, STATE_TIME, NS64. -/
opaque trackPos : List Byte → Nat → Nat → Int × Int
/-- Source MAC address of a switch port's own frames; and type of service, identification, fragment field and time to live of the controller
stream's IPv4 headers (R471 names none). -/
opaque portMac : Nat → BitVec 48
opaque ipFields : Nat → Nat × Nat × Nat × Nat
/-- Decoder output row of a decoded track: EXIST, CLASS, QSCALE and the 32 bytes of EMB (R369). -/
opaque decoderRow : List Byte → List Byte → List Byte
/-- Position of a detection in the gating frame, Q22.10 mm, by its measurement model (R374): detection, SLOTS record and ego record. -/
opaque detPos : List Byte → List Byte → Int × Int
/-- State, factor mantissas and exponents of a new track from the detection that starts it: detection, SLOTS record and ego record; ten,
55 and ten numbers (R372; log entry 12). -/
opaque birthState : List Byte → List Byte → List Int
/-- Cosine of two embeddings one of which is all zero, Q1.15 (R375 states none). -/
opaque zeroCos : List Int → List Int → Int
/-- First ε of an auction with EPS_DIV 0 (R380 states none). -/
opaque epsZero : Nat → Nat
/-- A track's footprint touches a rectangle: x, y, yaw, LEN, WID in mm and µrad; XMIN, XMAX, YMIN, YMAX (R396 states no shape). -/
opaque touches : List Int → Int × Int × Int × Int → Bool
/-- An operation entry of a solver program (R411) for a problem's N and M. -/
opaque opEntry : List Byte → Nat → Nat → OpEntry
/-- The work area of a solver program, given header and entries, for a problem's N and M (R411 names offsets, no layout). -/
opaque workLayout : List Byte → Nat → Nat → WorkLayout
/-- How FLD's update batches (false) and prediction-only batches (true) run. -/
opaque foldPlan : Bool → FoldPlan
/-- Payload of an update problem: the prior's STATE_TIME, the measurements in order, and the output instant (R384 gives no layout). -/
opaque updatePayload : Nat → List (List Byte) → Nat → List Byte
/-- Error of the solver's table of sine (true) or cosine (false) for a word with some fraction bits; `solverTrig` holds it to R413's bound. -/
opaque solverTrigErr : Bool → Int → Nat → Nat
/-- Result word of an operation on operands for which R411 to R417 state none: a zero divisor, a root of a negative number; code, numerator
and denominator of the operand. -/
opaque solverOpen : Nat → Int → Nat → Int
/-- The instruction that the next bytes of a vector program spell, and its length in bytes less one; none at the program's end (Table 5.6). -/
opaque vecInstr : List Byte → Option (VecOp × Nat)
/-- ARGS of a CONV: kernel width and height, strides, dilations, groups, and origin of the first tap, nine numbers (Table 5.6 gives no
layout). -/
opaque convArgs : List Byte → List Nat
/-- Sign of a NaN that arithmetic makes from two words, which the manual and IEEE 754 leave open. -/
opaque nanNeg : Nat → Nat → Bool
/-- An existing C element as an accumulator of the other kind, integer or float (R205 gives no conversion): format, word. -/
opaque accInit : Nat → Nat → Nat
/-- Check word and sample counter of an IMU response, by the slot descriptor's extension (R102: the manual gives the extension no layout). -/
opaque imuCheck : List Byte → List Byte → Bool
opaque imuCounter : List Byte → List Byte → Option Nat
/-- The bytes over which a patch path's CRC-32C is taken: kind of the slot, 0 for the FCU, and the records or rows of the path (R135 gives no
layout of them). -/
opaque patchLayout : Nat → List Byte → List Byte
/-- SPI mode, SCK rate in kHz, command bytes and response length of an IMU slot, by the slot descriptor's extension (R101). -/
opaque imuSpi : List Byte → Nat × Nat × List Byte × Nat
/-- The 1,024 bytes of PRBS31 of an ECHO frame, whose seed the manual does not give (Table 14.2). -/
opaque prbs31 : List Byte
/-- Detections of a partner list record and of a CAN object message (R111, R362): record and header, or signals; 128 bytes. -/
opaque partnerDet : List Byte → List Byte → Nat → List Byte
opaque canDet : List Int → Nat → Nat → List Byte

end Sys2Proof.Config
end

