-- ==== Sys2Proof/Machine/RegMap.lean ====
section
/-! DEFINITION. Machine/RegMap.lean: the register map of the seventeen blocks (R716 to R721, Tables 18.1 and 18.2), written from the
register index of each block's chapter: offset, repeats, access type, reset value, writable bits (R718) and stated ranges (R719, R720).
An offset that no row names is a reserved offset (R717). "Reset" 0 stands here for what Table 18.4 sets later: "From the image" (R725),
"From OTP", "Fixed", "Per power-on" and "From identity" (which `regRead` answers from their own homes), and "Mode-dependent" (log entry 4). -/

namespace Sys2Proof.Machine

/-- Access types (Table 0.4). -/
inductive Acc where | rw | ro | rov | w1c | wo | rwl | rws
  deriving DecidableEq, Repr

/-- A stated range, form or enumeration of a field (R719, R720): field position and width, then the bound; `le`: the first field is at most
the second. -/
inductive Chk where
  | range (lo w mn mx : Nat)
  | mult (lo w k : Nat)
  | pow2 (lo w mn mx : Nat)
  | le (lo w lo' w' : Nat)
  deriving DecidableEq, Repr

/-- A row of a register index: `n` repeats at `stride` of `words` words from BAR0 offset `base`; access type; reset value;
writable bits, the others being reserved (R718); stated ranges (R719, R720). -/
structure RegDef where
  base : Nat
  n : Nat
  stride : Nat
  words : Nat
  acc : Acc
  reset : W32
  mask : W32
  chks : List Chk
  deriving DecidableEq, Repr

/-- The row names the word at BAR0 offset `off`. -/
def RegDef.covers (d : RegDef) (off : Nat) : Bool :=
  d.base ≤ off && (off - d.base) / d.stride < d.n && (off - d.base) % d.stride < 4 * d.words && off % 4 == 0

/-- The value of a field of a word. -/
def fieldOf (v : W32) (lo w : Nat) : Nat := v.toNat / 2 ^ lo % 2 ^ w

/-- A written value keeps a stated range, form or enumeration (R719, R720). -/
def Chk.ok (v : W32) : Chk → Bool
  | .range lo w mn mx => mn ≤ fieldOf v lo w && fieldOf v lo w ≤ mx
  | .mult lo w k => fieldOf v lo w % k == 0
  | .pow2 lo w mn mx => mn ≤ fieldOf v lo w && fieldOf v lo w ≤ mx && 2 ^ (fieldOf v lo w).log2 == fieldOf v lo w
  | .le lo w lo' w' => fieldOf v lo w ≤ fieldOf v lo' w'


/-! BAR0 offsets of TBU (spec/02_time_base.md, R76) -/

/-- TBU_CTRL (R76). -/
abbrev Reg.TBU_CTRL : Nat := 0x200000
/-- TBU_STATUS (R76). -/
abbrev Reg.TBU_STATUS : Nat := 0x200004
/-- TBU_STATUS_W1C (R76). -/
abbrev Reg.TBU_STATUS_W1C : Nat := 0x200008
/-- TBU_TIME_SNAP0 to 3 (R76). -/
abbrev Reg.TBU_TIME_SNAP (j : Nat) : Nat := 0x200010 + 4 * j
/-- TBU_TIME_SET0 to 3 (R76). -/
abbrev Reg.TBU_TIME_SET (j : Nat) : Nat := 0x200020 + 4 * j
/-- TBU_SERVO_KP (R76). -/
abbrev Reg.TBU_SERVO_KP : Nat := 0x200030
/-- TBU_SERVO_KI (R76). -/
abbrev Reg.TBU_SERVO_KI : Nat := 0x200034
/-- TBU_FREQ_ADJ (R76). -/
abbrev Reg.TBU_FREQ_ADJ : Nat := 0x200038
/-- TBU_OFFSET (R76). -/
abbrev Reg.TBU_OFFSET : Nat := 0x20003C
/-- TBU_SLEW_LIMIT (R76). -/
abbrev Reg.TBU_SLEW_LIMIT : Nat := 0x200040
/-- TBU_LOCK_LIMIT (R76). -/
abbrev Reg.TBU_LOCK_LIMIT : Nat := 0x200044
/-- TBU_HOLDOVER_MAX (R76). -/
abbrev Reg.TBU_HOLDOVER_MAX : Nat := 0x200048
/-- TBU_JUMP_CNT (R76). -/
abbrev Reg.TBU_JUMP_CNT : Nat := 0x20004C
/-- TBU_DOMA_CFG (R76). -/
abbrev Reg.TBU_DOMA_CFG : Nat := 0x200050
/-- TBU_DOMB_CFG (R76). -/
abbrev Reg.TBU_DOMB_CFG : Nat := 0x200054
/-- TBU_DOM_DIFF (R76). -/
abbrev Reg.TBU_DOM_DIFF : Nat := 0x200058
/-- TBU_DOM_LIMIT (R76). -/
abbrev Reg.TBU_DOM_LIMIT : Nat := 0x20005C
/-- TBU_UTC_OFFSET (R76). -/
abbrev Reg.TBU_UTC_OFFSET : Nat := 0x200060
/-- TBU_PPS_CFG (R76). -/
abbrev Reg.TBU_PPS_CFG : Nat := 0x200064
/-- TBU_IMU_CFG (R76). -/
abbrev Reg.TBU_IMU_CFG : Nat := 0x200068
/-- TBU_CORRk_RX (R76). -/
abbrev Reg.TBU_CORR_RX (k : Nat) : Nat := 0x200200 + 16 * k
/-- TBU_CORRk_TX (R76). -/
abbrev Reg.TBU_CORR_TX (k : Nat) : Nat := 0x200204 + 16 * k
/-- TBU_CORRk_ASYM (R76). -/
abbrev Reg.TBU_CORR_ASYM (k : Nat) : Nat := 0x200208 + 16 * k
/-- TBU_CAMc_FSCORR (R76). -/
abbrev Reg.TBU_CAM_FSCORR (c : Nat) : Nat := 0x200600 + 16 * c
/-- TBU_CAMc_LINE (R76). -/
abbrev Reg.TBU_CAM_LINE (c : Nat) : Nat := 0x200604 + 16 * c
/-- TBU_CAMc_EXPCTL (R76). -/
abbrev Reg.TBU_CAM_EXPCTL (c : Nat) : Nat := 0x200608 + 16 * c
/-- TBU_CAMc_EXPFIX (R76). -/
abbrev Reg.TBU_CAM_EXPFIX (c : Nat) : Nat := 0x20060C + 16 * c

/-! BAR0 offsets of SIC (spec/03_sensor_ingress.md, R150) -/

/-- SIC_CTRL (R150). -/
abbrev Reg.SIC_CTRL : Nat := 0x300000
/-- SIC_STATUS (R150). -/
abbrev Reg.SIC_STATUS : Nat := 0x300004
/-- SIC_SLOT_CMD (R150). -/
abbrev Reg.SIC_SLOT_CMD : Nat := 0x300010
/-- SIC_SLOT_CMD_ST (R150). -/
abbrev Reg.SIC_SLOT_CMD_ST : Nat := 0x300014
/-- SIC_SLOT_STAGE0 to 15 (R150). -/
abbrev Reg.SIC_SLOT_STAGE (j : Nat) : Nat := 0x300020 + 4 * j
/-- SIC_VIOL (R150). -/
abbrev Reg.SIC_VIOL : Nat := 0x300060
/-- SIC_QUAR_HOLD (R150). -/
abbrev Reg.SIC_QUAR_HOLD : Nat := 0x300064
/-- SIC_READMIT_N (R150). -/
abbrev Reg.SIC_READMIT_N : Nat := 0x300068
/-- SIC_LEAVE_TO (R150). -/
abbrev Reg.SIC_LEAVE_TO : Nat := 0x30006C
/-- SIC_PATCH_PERIOD (R150). -/
abbrev Reg.SIC_PATCH_PERIOD : Nat := 0x300070
/-- SIC_PATCH_CNT (R150). -/
abbrev Reg.SIC_PATCH_CNT : Nat := 0x300074
/-- SIC_PORT_HELD (R150). -/
abbrev Reg.SIC_PORT_HELD : Nat := 0x300078
/-- SIC_SLOT_STATE0 to 31 (R150). -/
abbrev Reg.SIC_SLOT_STATE (j : Nat) : Nat := 0x300080 + 4 * j
/-- SIC_FCU_CTRL (R150). -/
abbrev Reg.SIC_FCU_CTRL : Nat := 0x300100
/-- SIC_FCU_STATUS (R150). -/
abbrev Reg.SIC_FCU_STATUS : Nat := 0x300104
/-- SIC_FCU_DROP (R150). -/
abbrev Reg.SIC_FCU_DROP : Nat := 0x300108
/-- SIC_FCU_CFGs (R150). -/
abbrev Reg.SIC_FCU_CFG (s : Nat) : Nat := 0x300140 + 4 * s
/-- SIC_SLOT_XSTAGE0 to 15 (R150). -/
abbrev Reg.SIC_SLOT_XSTAGE (j : Nat) : Nat := 0x300180 + 4 * j
/-- SIC_FCU_ELEVs (R150). -/
abbrev Reg.SIC_FCU_ELEV (s : Nat) : Nat := 0x3001C0 + 4 * s
/-- SIC_CSIp_STAT (R150). -/
abbrev Reg.SIC_CSI_STAT (p : Nat) : Nat := 0x300200 + 16 * p
/-- SIC_CSIp_ECC1 (R150). -/
abbrev Reg.SIC_CSI_ECC1 (p : Nat) : Nat := 0x300204 + 16 * p
/-- SIC_CSIp_UNBOUND (R150). -/
abbrev Reg.SIC_CSI_UNBOUND (p : Nat) : Nat := 0x300208 + 16 * p
/-- SIC_CSIp_OVERRUN (R150). -/
abbrev Reg.SIC_CSI_OVERRUN (p : Nat) : Nat := 0x30020C + 16 * p
/-- SIC_ETHq_STAT (R150). -/
abbrev Reg.SIC_ETH_STAT (q : Nat) : Nat := 0x300400 + 32 * q
/-- SIC_ETHq_FCS (R150). -/
abbrev Reg.SIC_ETH_FCS (q : Nat) : Nat := 0x300404 + 32 * q
/-- SIC_ETHq_POLICE (R150). -/
abbrev Reg.SIC_ETH_POLICE (q : Nat) : Nat := 0x300408 + 32 * q
/-- SIC_ETHq_MACSEC (R150). -/
abbrev Reg.SIC_ETH_MACSEC (q : Nat) : Nat := 0x30040C + 32 * q
/-- SIC_ETHq_ROGUE (R150). -/
abbrev Reg.SIC_ETH_ROGUE (q : Nat) : Nat := 0x300410 + 32 * q
/-- SIC_ETHq_UNBOUND (R150). -/
abbrev Reg.SIC_ETH_UNBOUND (q : Nat) : Nat := 0x300414 + 32 * q
/-- SIC_CANn_STAT (R150). -/
abbrev Reg.SIC_CAN_STAT (n : Nat) : Nat := 0x300800 + 16 * n
/-- SIC_IMUn_MISS (R150). -/
abbrev Reg.SIC_IMU_MISS (n : Nat) : Nat := 0x300900 + 16 * n
/-- SIC_SLOTs (R150). -/
abbrev Reg.SIC_SLOT (s j : Nat) : Nat := 0x310000 + 64 * s + 4 * j
/-- SIC_SLOTXs (R150). -/
abbrev Reg.SIC_SLOTX (s j : Nat) : Nat := 0x314000 + 64 * s + 4 * j
/-- SIC_SLOTSTATs (R150). -/
abbrev Reg.SIC_SLOTSTAT (s j : Nat) : Nat := 0x318000 + 16 * s + 4 * j

/-! BAR0 offsets of PAE (spec/04_projection_egomotion.md, R193) -/

/-- PAE_CTRL (R193). -/
abbrev Reg.PAE_CTRL : Nat := 0x400000
/-- PAE_STATUS (R193). -/
abbrev Reg.PAE_STATUS : Nat := 0x400004
/-- PAE_GRID_SIZE (R193). -/
abbrev Reg.PAE_GRID_SIZE : Nat := 0x400010
/-- PAE_GRID_CELL (R193). -/
abbrev Reg.PAE_GRID_CELL : Nat := 0x400014
/-- PAE_GRID_XMIN (R193). -/
abbrev Reg.PAE_GRID_XMIN : Nat := 0x400018
/-- PAE_GRID_YMIN (R193). -/
abbrev Reg.PAE_GRID_YMIN : Nat := 0x40001C
/-- PAE_GRID_TIME (R193). -/
abbrev Reg.PAE_GRID_TIME : Nat := 0x400020
/-- PAE_GRID_DST (R193). -/
abbrev Reg.PAE_GRID_DST : Nat := 0x400024
/-- PAE_DEPTH_WIN (R193). -/
abbrev Reg.PAE_DEPTH_WIN : Nat := 0x400028
/-- PAE_CLOSE (R193). -/
abbrev Reg.PAE_CLOSE : Nat := 0x40002C
/-- PAE_EXTRAP (R193). -/
abbrev Reg.PAE_EXTRAP : Nat := 0x400030
/-- PAE_CAL_RATE (R193). -/
abbrev Reg.PAE_CAL_RATE : Nat := 0x400034
/-- PAE_PTS_CNT (R193). -/
abbrev Reg.PAE_PTS_CNT : Nat := 0x400040
/-- PAE_DESKEW_OLD (R193). -/
abbrev Reg.PAE_DESKEW_OLD : Nat := 0x400044
/-- PAE_DESKEW_LATE (R193). -/
abbrev Reg.PAE_DESKEW_LATE : Nat := 0x400048
/-- PAE_LATE_PTS (R193). -/
abbrev Reg.PAE_LATE_PTS : Nat := 0x40004C
/-- PAE_SAT_CNT (R193). -/
abbrev Reg.PAE_SAT_CNT : Nat := 0x400050
/-- PAE_CAL_CMD (R193). -/
abbrev Reg.PAE_CAL_CMD : Nat := 0x400060
/-- PAE_CAL_CMD_ST (R193). -/
abbrev Reg.PAE_CAL_CMD_ST : Nat := 0x400064
/-- PAE_CAMc (R193). -/
abbrev Reg.PAE_CAM (c j : Nat) : Nat := 0x401000 + 64 * c + 4 * j
/-- PAE_CALs (R193). -/
abbrev Reg.PAE_CAL (s j : Nat) : Nat := 0x402000 + 32 * s + 4 * j

/-! BAR0 offsets of EGO (spec/04_projection_egomotion.md, R195) -/

/-- EGO_CTRL (R195). -/
abbrev Reg.EGO_CTRL : Nat := 0x500000
/-- EGO_STATUS (R195). -/
abbrev Reg.EGO_STATUS : Nat := 0x500004
/-- EGO_STATUS_W1C (R195). -/
abbrev Reg.EGO_STATUS_W1C : Nat := 0x500008
/-- EGO_KF_DT (R195). -/
abbrev Reg.EGO_KF_DT : Nat := 0x500010
/-- EGO_HOLD_MAX (R195). -/
abbrev Reg.EGO_HOLD_MAX : Nat := 0x500014
/-- EGO_IMU_SLOTS (R195). -/
abbrev Reg.EGO_IMU_SLOTS : Nat := 0x500018
/-- EGO_WHEEL_SLOT (R195). -/
abbrev Reg.EGO_WHEEL_SLOT : Nat := 0x50001C
/-- EGO_NOISEk (R195). -/
abbrev Reg.EGO_NOISE (k : Nat) : Nat := 0x500020 + 4 * k
/-- EGO_SHIFT_CNT (R195). -/
abbrev Reg.EGO_SHIFT_CNT : Nat := 0x500040
/-- EGO_RING_HEAD (R195). -/
abbrev Reg.EGO_RING_HEAD : Nat := 0x500044
/-- EGO_LAST_REC0 to 15 (R195). -/
abbrev Reg.EGO_LAST_REC (j : Nat) : Nat := 0x500080 + 4 * j

/-! BAR0 offsets of TCA (spec/05_tensor_compute_array.md, R241) -/

/-- TCA_Tn_STATUS (R241). -/
abbrev Reg.TCA_T_STATUS (n : Nat) : Nat := 0x600000 + 16384 * n
/-- TCA_Tn_STAGE (R241). -/
abbrev Reg.TCA_T_STAGE (n : Nat) : Nat := 0x600004 + 16384 * n
/-- TCA_Tn_CORR (R241). -/
abbrev Reg.TCA_T_CORR (n : Nat) : Nat := 0x600008 + 16384 * n
/-- TCA_Tn_RETRY (R241). -/
abbrev Reg.TCA_T_RETRY (n : Nat) : Nat := 0x60000C + 16384 * n
/-- TCA_Tn_UNCORR (R241). -/
abbrev Reg.TCA_T_UNCORR (n : Nat) : Nat := 0x600010 + 16384 * n
/-- TCA_Tn_HB (R241). -/
abbrev Reg.TCA_T_HB (n : Nat) : Nat := 0x600014 + 16384 * n
/-- TCA_Tn_SAT (R241). -/
abbrev Reg.TCA_T_SAT (n : Nat) : Nat := 0x600018 + 16384 * n
/-- TCA_Tn_DONE (R241). -/
abbrev Reg.TCA_T_DONE (n : Nat) : Nat := 0x60001C + 16384 * n
/-- TCA_Tn_FENCED (R241). -/
abbrev Reg.TCA_T_FENCED (n : Nat) : Nat := 0x600020 + 16384 * n
/-- TCA_Tn_INJ_CNT (R241). -/
abbrev Reg.TCA_T_INJ_CNT (n : Nat) : Nat := 0x600024 + 16384 * n
/-- TCA_Tn_INJECT (R241). -/
abbrev Reg.TCA_T_INJECT (n : Nat) : Nat := 0x600028 + 16384 * n
/-- TCA_Tn_CMD0 to 15 (R241). -/
abbrev Reg.TCA_T_CMD (n j : Nat) : Nat := 0x600040 + 16384 * n + 4 * j
/-- TCA_Tn_DOORBELL (R241). -/
abbrev Reg.TCA_T_DOORBELL (n : Nat) : Nat := 0x600080 + 16384 * n
/-- TCA_Tn_CMD_ST (R241). -/
abbrev Reg.TCA_T_CMD_ST (n : Nat) : Nat := 0x600084 + 16384 * n
/-- TCA_CTRL (R241). -/
abbrev Reg.TCA_CTRL : Nat := 0x690000
/-- TCA_SPARE_MAP0 (R241). -/
abbrev Reg.TCA_SPARE_MAP0 : Nat := 0x690004
/-- TCA_SPARE_MAP1 (R241). -/
abbrev Reg.TCA_SPARE_MAP1 : Nat := 0x690008
/-- TCA_DEAD_MAP0 (R241). -/
abbrev Reg.TCA_DEAD_MAP0 : Nat := 0x69000C
/-- TCA_DEAD_MAP1 (R241). -/
abbrev Reg.TCA_DEAD_MAP1 : Nat := 0x690010
/-- TCA_ABFT_TOL (R241). -/
abbrev Reg.TCA_ABFT_TOL : Nat := 0x690014
/-- TCA_SWAP_ST (R241). -/
abbrev Reg.TCA_SWAP_ST : Nat := 0x690018
/-- TCA_BIST_REQ (R241). -/
abbrev Reg.TCA_BIST_REQ : Nat := 0x69001C
/-- TCA_BIST_ST (R241). -/
abbrev Reg.TCA_BIST_ST : Nat := 0x690020

/-! BAR0 offsets of DML (spec/06_layout_and_data_movement.md, R293) -/

/-- DML_CTRL (R293). -/
abbrev Reg.DML_CTRL : Nat := 0x700000
/-- DML_STATUS (R293). -/
abbrev Reg.DML_STATUS : Nat := 0x700004
/-- DML_DESC_CMD (R293). -/
abbrev Reg.DML_DESC_CMD : Nat := 0x700010
/-- DML_DESC_CMD_ST (R293). -/
abbrev Reg.DML_DESC_CMD_ST : Nat := 0x700014
/-- DML_DESC_STAGE0 to 15 (R293). -/
abbrev Reg.DML_DESC_STAGE (j : Nat) : Nat := 0x700020 + 4 * j
/-- DML_DESC_FREE (R293). -/
abbrev Reg.DML_DESC_FREE : Nat := 0x700060
/-- DML_SAT (R293). -/
abbrev Reg.DML_SAT : Nat := 0x700070
/-- DML_IDX_OOR (R293). -/
abbrev Reg.DML_IDX_OOR : Nat := 0x700074
/-- DML_SIG_RAISE (R293). -/
abbrev Reg.DML_SIG_RAISE : Nat := 0x700080
/-- DML_SSs_ACT0 to 7 (R293). -/
abbrev Reg.DML_SS_ACT (s j : Nat) : Nat := 0x701000 + 128 * s + 4 * j
/-- DML_SSs_SHD0 to 7 (R293). -/
abbrev Reg.DML_SS_SHD (s j : Nat) : Nat := 0x701020 + 128 * s + 4 * j
/-- DML_SSs_COMMIT (R293). -/
abbrev Reg.DML_SS_COMMIT (s : Nat) : Nat := 0x701040 + 128 * s
/-- DML_SSs_ST (R293). -/
abbrev Reg.DML_SS_ST (s : Nat) : Nat := 0x701044 + 128 * s
/-- DML_SSs_CNT (R293). -/
abbrev Reg.DML_SS_CNT (s : Nat) : Nat := 0x701048 + 128 * s
/-- DML_SSs_LATE (R293). -/
abbrev Reg.DML_SS_LATE (s : Nat) : Nat := 0x70104C + 128 * s
/-- DML_PCn_PROG_LO (R293). -/
abbrev Reg.DML_PC_PROG_LO (n : Nat) : Nat := 0x702000 + 64 * n
/-- DML_PCn_PROG_HI (R293). -/
abbrev Reg.DML_PC_PROG_HI (n : Nat) : Nat := 0x702004 + 64 * n
/-- DML_PCn_CTRL (R293). -/
abbrev Reg.DML_PC_CTRL (n : Nat) : Nat := 0x702008 + 64 * n
/-- DML_PCn_ST (R293). -/
abbrev Reg.DML_PC_ST (n : Nat) : Nat := 0x70200C + 64 * n
/-- DML_PCn_L01 (R293). -/
abbrev Reg.DML_PC_L01 (n : Nat) : Nat := 0x702010 + 64 * n
/-- DML_PCn_L23 (R293). -/
abbrev Reg.DML_PC_L23 (n : Nat) : Nat := 0x702014 + 64 * n
/-- DML_SIGk (R293). -/
abbrev Reg.DML_SIG (k : Nat) : Nat := 0x704000 + 4 * k
/-- DML_DESCh (R293). -/
abbrev Reg.DML_DESC (h j : Nat) : Nat := 0x710000 + 64 * h + 4 * j

/-! BAR0 offsets of TAC (spec/07_track_attention_cache.md, R355) -/

/-- TAC_CTRL (R355). -/
abbrev Reg.TAC_CTRL : Nat := 0x800000
/-- TAC_STATUS (R355). -/
abbrev Reg.TAC_STATUS : Nat := 0x800004
/-- TAC_SEQ_BASE_LO (R355). -/
abbrev Reg.TAC_SEQ_BASE_LO : Nat := 0x800010
/-- TAC_SEQ_BASE_HI (R355). -/
abbrev Reg.TAC_SEQ_BASE_HI : Nat := 0x800014
/-- TAC_PTB_BASE_LO (R355). -/
abbrev Reg.TAC_PTB_BASE_LO : Nat := 0x800018
/-- TAC_PTB_BASE_HI (R355). -/
abbrev Reg.TAC_PTB_BASE_HI : Nat := 0x80001C
/-- TAC_POOL_BASE_LO (R355). -/
abbrev Reg.TAC_POOL_BASE_LO : Nat := 0x800020
/-- TAC_POOL_BASE_HI (R355). -/
abbrev Reg.TAC_POOL_BASE_HI : Nat := 0x800024
/-- TAC_POOL_SIZE (R355). -/
abbrev Reg.TAC_POOL_SIZE : Nat := 0x800028
/-- TAC_POOL_FREE (R355). -/
abbrev Reg.TAC_POOL_FREE : Nat := 0x80002C
/-- TAC_RESERVE (R355). -/
abbrev Reg.TAC_RESERVE : Nat := 0x800030
/-- TAC_FREEk (R355). -/
abbrev Reg.TAC_FREE (k : Nat) : Nat := 0x800040 + 4 * k
/-- TAC_ENTRY_CFG (R355). -/
abbrev Reg.TAC_ENTRY_CFG : Nat := 0x800060
/-- TAC_ACTIVE_MAX (R355). -/
abbrev Reg.TAC_ACTIVE_MAX : Nat := 0x800064
/-- TAC_ACTIVE_CNT (R355). -/
abbrev Reg.TAC_ACTIVE_CNT : Nat := 0x800068
/-- TAC_RECLAIM (R355). -/
abbrev Reg.TAC_RECLAIM : Nat := 0x80006C
/-- TAC_CACHE_CFG (R355). -/
abbrev Reg.TAC_CACHE_CFG : Nat := 0x800070
/-- TAC_CACHE_HIT (R355). -/
abbrev Reg.TAC_CACHE_HIT : Nat := 0x800074
/-- TAC_CACHE_MISS (R355). -/
abbrev Reg.TAC_CACHE_MISS : Nat := 0x800078
/-- TAC_STREAM (R355). -/
abbrev Reg.TAC_STREAM : Nat := 0x80007C
/-- TAC_WALKS (R355). -/
abbrev Reg.TAC_WALKS : Nat := 0x800080
/-- TAC_STARVED_CNT (R355). -/
abbrev Reg.TAC_STARVED_CNT : Nat := 0x800084
/-- TAC_TRUNC_CNT (R355). -/
abbrev Reg.TAC_TRUNC_CNT : Nat := 0x800088
/-- TAC_HOLE_CNT (R355). -/
abbrev Reg.TAC_HOLE_CNT : Nat := 0x80008C
/-- TAC_RECLAIM_CNT (R355). -/
abbrev Reg.TAC_RECLAIM_CNT : Nat := 0x800090
/-- TAC_FUTURE_CNT (R355). -/
abbrev Reg.TAC_FUTURE_CNT : Nat := 0x800094
/-- TAC_CMD_SEQ (R355). -/
abbrev Reg.TAC_CMD_SEQ : Nat := 0x8000A0
/-- TAC_CMD_SEQ_TID (R355). -/
abbrev Reg.TAC_CMD_SEQ_TID : Nat := 0x8000A4
/-- TAC_CMD_SEQ_FLOCK (R355). -/
abbrev Reg.TAC_CMD_SEQ_FLOCK : Nat := 0x8000A8
/-- TAC_CMD_SEQ_ST (R355). -/
abbrev Reg.TAC_CMD_SEQ_ST : Nat := 0x8000AC
/-- TAC_CMD_PGT_EDIT (R355). -/
abbrev Reg.TAC_CMD_PGT_EDIT : Nat := 0x8000B0
/-- TAC_CMD_PGT_ST (R355). -/
abbrev Reg.TAC_CMD_PGT_ST : Nat := 0x8000B4
/-- TAC_CMD_FLOCK (R355). -/
abbrev Reg.TAC_CMD_FLOCK : Nat := 0x8000C0
/-- TAC_CMD_FLOCK_Q (R355). -/
abbrev Reg.TAC_CMD_FLOCK_Q : Nat := 0x8000C4
/-- TAC_CMD_FLOCK_S (R355). -/
abbrev Reg.TAC_CMD_FLOCK_S : Nat := 0x8000C8
/-- TAC_CMD_FLOCK_ST (R355). -/
abbrev Reg.TAC_CMD_FLOCK_ST : Nat := 0x8000CC
/-- TAC_ROPEl_j (R355). -/
abbrev Reg.TAC_ROPE (l j : Nat) : Nat := 0x801000 + 128 * l + 4 * j
/-- TAC_FLOCKf_Q (R355). -/
abbrev Reg.TAC_FLOCK_Q (f : Nat) : Nat := 0x820000 + 16 * f
/-- TAC_FLOCKf_USED (R355). -/
abbrev Reg.TAC_FLOCK_USED (f : Nat) : Nat := 0x820004 + 16 * f
/-- TAC_FLOCKf_SEQ (R355). -/
abbrev Reg.TAC_FLOCK_SEQ (f : Nat) : Nat := 0x820008 + 16 * f
/-- TAC_FLOCKf_LIM (R355). -/
abbrev Reg.TAC_FLOCK_LIM (f : Nat) : Nat := 0x82000C + 16 * f

/-! BAR0 offsets of FLD (spec/08_fold_association.md, R402) -/

/-- FLD_CTRL (R402). -/
abbrev Reg.FLD_CTRL : Nat := 0x900000
/-- FLD_STATUS (R402). -/
abbrev Reg.FLD_STATUS : Nat := 0x900004
/-- FLD_FOLD_BASE_LO (R402). -/
abbrev Reg.FLD_FOLD_BASE_LO : Nat := 0x900010
/-- FLD_FOLD_BASE_HI (R402). -/
abbrev Reg.FLD_FOLD_BASE_HI : Nat := 0x900014
/-- FLD_PRICE_BASE_LO (R402). -/
abbrev Reg.FLD_PRICE_BASE_LO : Nat := 0x900018
/-- FLD_PRICE_BASE_HI (R402). -/
abbrev Reg.FLD_PRICE_BASE_HI : Nat := 0x90001C
/-- FLD_LIFE0 (R402). -/
abbrev Reg.FLD_LIFE0 : Nat := 0x900020
/-- FLD_LIFE1 (R402). -/
abbrev Reg.FLD_LIFE1 : Nat := 0x900024
/-- FLD_LIFE2 (R402). -/
abbrev Reg.FLD_LIFE2 : Nat := 0x900028
/-- FLD_BIRTH_MAX (R402). -/
abbrev Reg.FLD_BIRTH_MAX : Nat := 0x90002C
/-- FLD_RETAIN (R402). -/
abbrev Reg.FLD_RETAIN : Nat := 0x900030
/-- FLD_PAIR_K (R402). -/
abbrev Reg.FLD_PAIR_K : Nat := 0x900034
/-- FLD_C_NEW (R402). -/
abbrev Reg.FLD_C_NEW : Nat := 0x900038
/-- FLD_AUCTION (R402). -/
abbrev Reg.FLD_AUCTION : Nat := 0x90003C
/-- FLD_CONTRA (R402). -/
abbrev Reg.FLD_CONTRA : Nat := 0x900040
/-- FLD_CONTRA_CFG (R402). -/
abbrev Reg.FLD_CONTRA_CFG : Nat := 0x900044
/-- FLD_LATE_CFG (R402). -/
abbrev Reg.FLD_LATE_CFG : Nat := 0x900048
/-- FLD_REID (R402). -/
abbrev Reg.FLD_REID : Nat := 0x90004C
/-- FLD_GATEm_MAH (R402). -/
abbrev Reg.FLD_GATE_MAH (m : Nat) : Nat := 0x900050 + 16 * m
/-- FLD_GATEm_EMB (R402). -/
abbrev Reg.FLD_GATE_EMB (m : Nat) : Nat := 0x900054 + 16 * m
/-- FLD_GATEm_W (R402). -/
abbrev Reg.FLD_GATE_W (m : Nat) : Nat := 0x900058 + 16 * m
/-- FLD_GATEm_PRE (R402). -/
abbrev Reg.FLD_GATE_PRE (m : Nat) : Nat := 0x90005C + 16 * m
/-- FLD_CLASS_COMPATk (R402). -/
abbrev Reg.FLD_CLASS_COMPAT (k : Nat) : Nat := 0x9000D0 + 4 * k
/-- FLD_REID_MAX (R402). -/
abbrev Reg.FLD_REID_MAX : Nat := 0x900110
/-- FLD_PAIRS (R402). -/
abbrev Reg.FLD_PAIRS : Nat := 0x900120
/-- FLD_COMPONENTS (R402). -/
abbrev Reg.FLD_COMPONENTS : Nat := 0x900124
/-- FLD_CUT_CNT (R402). -/
abbrev Reg.FLD_CUT_CNT : Nat := 0x900128
/-- FLD_DET_DROP (R402). -/
abbrev Reg.FLD_DET_DROP : Nat := 0x90012C
/-- FLD_BIRTH_CNT (R402). -/
abbrev Reg.FLD_BIRTH_CNT : Nat := 0x900130
/-- FLD_BIRTH_REFUSED (R402). -/
abbrev Reg.FLD_BIRTH_REFUSED : Nat := 0x900134
/-- FLD_PARTIAL_CNT (R402). -/
abbrev Reg.FLD_PARTIAL_CNT : Nat := 0x900138
/-- FLD_WARM_ZEROED (R402). -/
abbrev Reg.FLD_WARM_ZEROED : Nat := 0x90013C
/-- FLD_LATE_CNT (R402). -/
abbrev Reg.FLD_LATE_CNT : Nat := 0x900140
/-- FLD_LATE_DROP (R402). -/
abbrev Reg.FLD_LATE_DROP : Nat := 0x900144
/-- FLD_APPEND_DROP (R402). -/
abbrev Reg.FLD_APPEND_DROP : Nat := 0x900148
/-- FLD_CONTESTED (R402). -/
abbrev Reg.FLD_CONTESTED : Nat := 0x90014C
/-- FLD_DEC_MISS_CNT (R402). -/
abbrev Reg.FLD_DEC_MISS_CNT : Nat := 0x900150
/-- FLD_CRC_FAIL (R402). -/
abbrev Reg.FLD_CRC_FAIL : Nat := 0x900154
/-- FLD_PUB_DROP (R402). -/
abbrev Reg.FLD_PUB_DROP : Nat := 0x900158
/-- FLD_CNT_LIVE (R402). -/
abbrev Reg.FLD_CNT_LIVE : Nat := 0x900160
/-- FLD_CNT_COAST (R402). -/
abbrev Reg.FLD_CNT_COAST : Nat := 0x900164
/-- FLD_CNT_FALLOW (R402). -/
abbrev Reg.FLD_CNT_FALLOW : Nat := 0x900168
/-- FLD_TRACK_CMD (R402). -/
abbrev Reg.FLD_TRACK_CMD : Nat := 0x900180
/-- FLD_TRACK_CMD_ST (R402). -/
abbrev Reg.FLD_TRACK_CMD_ST : Nat := 0x900184
/-- FLD_PUBf (R402). -/
abbrev Reg.FLD_PUB (f j : Nat) : Nat := 0x900800 + 32 * f + 4 * j
/-- FLD_CREDs (R402). -/
abbrev Reg.FLD_CRED (s : Nat) : Nat := 0x901000 + 4 * s
/-- FLD_CPw (R402). -/
abbrev Reg.FLD_CP (w : Nat) : Nat := 0x910000 + 4 * w

/-! BAR0 offsets of BSE (spec/09_batched_solver.md, R438) -/

/-- BSE_CTRL (R438). -/
abbrev Reg.BSE_CTRL : Nat := 0xA00000
/-- BSE_STATUS (R438). -/
abbrev Reg.BSE_STATUS : Nat := 0xA00004
/-- BSE_QUEUE (R438). -/
abbrev Reg.BSE_QUEUE : Nat := 0xA00008
/-- BSE_SAT_CNT (R438). -/
abbrev Reg.BSE_SAT_CNT : Nat := 0xA00010
/-- BSE_REG_CNT (R438). -/
abbrev Reg.BSE_REG_CNT : Nat := 0xA00014
/-- BSE_WARM_REJ (R438). -/
abbrev Reg.BSE_WARM_REJ : Nat := 0xA00018
/-- BSE_SHIFT_CNT (R438). -/
abbrev Reg.BSE_SHIFT_CNT : Nat := 0xA0001C
/-- BSE_PARTIAL_CNT (R438). -/
abbrev Reg.BSE_PARTIAL_CNT : Nat := 0xA00020
/-- BSE_ABANDON_CNT (R438). -/
abbrev Reg.BSE_ABANDON_CNT : Nat := 0xA00024
/-- BSE_DOUBT_CNT (R438). -/
abbrev Reg.BSE_DOUBT_CNT : Nat := 0xA00028
/-- BSE_MEAS_DROP (R438). -/
abbrev Reg.BSE_MEAS_DROP : Nat := 0xA0002C
/-- BSE_LANE_FAULT (R438). -/
abbrev Reg.BSE_LANE_FAULT : Nat := 0xA00030
/-- BSE_LANE_MAP (R438). -/
abbrev Reg.BSE_LANE_MAP : Nat := 0xA00034
/-- BSE_INJECT (R438). -/
abbrev Reg.BSE_INJECT : Nat := 0xA00038
/-- BSE_INJ_CNT (R438). -/
abbrev Reg.BSE_INJ_CNT : Nat := 0xA0003C
/-- BSE_PROG_CNT (R438). -/
abbrev Reg.BSE_PROG_CNT : Nat := 0xA00040
/-- BSE_LAST_DONE (R438). -/
abbrev Reg.BSE_LAST_DONE : Nat := 0xA00050
/-- BSE_BATCH_STAGE0 to 15 (R438). -/
abbrev Reg.BSE_BATCH_STAGE (j : Nat) : Nat := 0xA00080 + 4 * j
/-- BSE_DOORBELL (R438). -/
abbrev Reg.BSE_DOORBELL : Nat := 0xA000C0
/-- BSE_SUBMIT_ST (R438). -/
abbrev Reg.BSE_SUBMIT_ST : Nat := 0xA000C4

/-! BAR0 offsets of CSQ (spec/10_step_cycle_publishing.md, R479) -/

/-- CSQ_CTRL (R479). -/
abbrev Reg.CSQ_CTRL : Nat := 0xB00000
/-- CSQ_STATUS (R479). -/
abbrev Reg.CSQ_STATUS : Nat := 0xB00004
/-- CSQ_STEP_LO (R479). -/
abbrev Reg.CSQ_STEP_LO : Nat := 0xB00008
/-- CSQ_STEP_HI (R479). -/
abbrev Reg.CSQ_STEP_HI : Nat := 0xB0000C
/-- CSQ_T0_0 to 3 (R479). -/
abbrev Reg.CSQ_T0 (j : Nat) : Nat := 0xB00010 + 4 * j
/-- CSQ_CADENCE (R479). -/
abbrev Reg.CSQ_CADENCE : Nat := 0xB00020
/-- CSQ_CUTOFF (R479). -/
abbrev Reg.CSQ_CUTOFF : Nat := 0xB00024
/-- CSQ_CAD_REQ (R479). -/
abbrev Reg.CSQ_CAD_REQ : Nat := 0xB00028
/-- CSQ_CAD_ST (R479). -/
abbrev Reg.CSQ_CAD_ST : Nat := 0xB0002C
/-- CSQ_CAD_STEP (R479). -/
abbrev Reg.CSQ_CAD_STEP : Nat := 0xB00030
/-- CSQ_WINk_OPEN (R479). -/
abbrev Reg.CSQ_WIN_OPEN (k : Nat) : Nat := 0xB00040 + 16 * k
/-- CSQ_WINk_CLOSE (R479). -/
abbrev Reg.CSQ_WIN_CLOSE (k : Nat) : Nat := 0xB00044 + 16 * k
/-- CSQ_WINk_MIN (R479). -/
abbrev Reg.CSQ_WIN_MIN (k : Nat) : Nat := 0xB00048 + 16 * k
/-- CSQ_WINk_CNT (R479). -/
abbrev Reg.CSQ_WIN_CNT (k : Nat) : Nat := 0xB0004C + 16 * k
/-- CSQ_RING_BASE_LO (R479). -/
abbrev Reg.CSQ_RING_BASE_LO : Nat := 0xB00100
/-- CSQ_RING_BASE_HI (R479). -/
abbrev Reg.CSQ_RING_BASE_HI : Nat := 0xB00104
/-- CSQ_RING_SLOTS (R479). -/
abbrev Reg.CSQ_RING_SLOTS : Nat := 0xB00108
/-- CSQ_RING_SLOT_SIZE (R479). -/
abbrev Reg.CSQ_RING_SLOT_SIZE : Nat := 0xB0010C
/-- CSQ_RING_PROD (R479). -/
abbrev Reg.CSQ_RING_PROD : Nat := 0xB00110
/-- CSQ_RING_CONS (R479). -/
abbrev Reg.CSQ_RING_CONS : Nat := 0xB00114
/-- CSQ_RING_DROP (R479). -/
abbrev Reg.CSQ_RING_DROP : Nat := 0xB00118
/-- CSQ_RING_OVERRUN (R479). -/
abbrev Reg.CSQ_RING_OVERRUN : Nat := 0xB0011C
/-- CSQ_CS_CFG (R479). -/
abbrev Reg.CSQ_CS_CFG : Nat := 0xB00140
/-- CSQ_CS_VLAN (R479). -/
abbrev Reg.CSQ_CS_VLAN : Nat := 0xB00144
/-- CSQ_CS_DMAC_LO (R479). -/
abbrev Reg.CSQ_CS_DMAC_LO : Nat := 0xB00148
/-- CSQ_CS_DMAC_HI (R479). -/
abbrev Reg.CSQ_CS_DMAC_HI : Nat := 0xB0014C
/-- CSQ_CS_SIP (R479). -/
abbrev Reg.CSQ_CS_SIP : Nat := 0xB00150
/-- CSQ_CS_DIP (R479). -/
abbrev Reg.CSQ_CS_DIP : Nat := 0xB00154
/-- CSQ_CS_UDP (R479). -/
abbrev Reg.CSQ_CS_UDP : Nat := 0xB00158
/-- CSQ_CS_SENT (R479). -/
abbrev Reg.CSQ_CS_SENT : Nat := 0xB0015C
/-- CSQ_CS_LATE (R479). -/
abbrev Reg.CSQ_CS_LATE : Nat := 0xB00160
/-- CSQ_PF_COUNT (R479). -/
abbrev Reg.CSQ_PF_COUNT : Nat := 0xB00180
/-- CSQ_PF_DATA (R479). -/
abbrev Reg.CSQ_PF_DATA : Nat := 0xB00188
/-- CSQ_PF_DATA_HI (R479). -/
abbrev Reg.CSQ_PF_DATA_HI : Nat := 0xB0018C
/-- CSQ_PF_STATUS (R479). -/
abbrev Reg.CSQ_PF_STATUS : Nat := 0xB00190
/-- CSQ_PF_STATUS_W1C (R479). -/
abbrev Reg.CSQ_PF_STATUS_W1C : Nat := 0xB00194
/-- CSQ_PF_DROP (R479). -/
abbrev Reg.CSQ_PF_DROP : Nat := 0xB00198
/-- CSQ_SEQo (R479). -/
abbrev Reg.CSQ_SEQ (o : Nat) : Nat := 0xB001A0 + 4 * o
/-- CSQ_EPOCH (R479). -/
abbrev Reg.CSQ_EPOCH : Nat := 0xB001B0
/-- CSQ_START_ID (R479). -/
abbrev Reg.CSQ_START_ID : Nat := 0xB001B4
/-- CSQ_MASK0 to 63 (R479). -/
abbrev Reg.CSQ_MASK (j : Nat) : Nat := 0xB00200 + 4 * j

/-! BAR0 offsets of LTH (spec/11_lath_image.md, R519) -/

/-- LTH_CMD (R519). -/
abbrev Reg.LTH_CMD : Nat := 0xC00000
/-- LTH_CMD_ST (R519). -/
abbrev Reg.LTH_CMD_ST : Nat := 0xC00004
/-- LTH_REASON (R519). -/
abbrev Reg.LTH_REASON : Nat := 0xC00008
/-- LTH_SRC_LO (R519). -/
abbrev Reg.LTH_SRC_LO : Nat := 0xC00010
/-- LTH_SRC_HI (R519). -/
abbrev Reg.LTH_SRC_HI : Nat := 0xC00014
/-- LTH_LEN (R519). -/
abbrev Reg.LTH_LEN : Nat := 0xC00018
/-- LTH_STATE (R519). -/
abbrev Reg.LTH_STATE : Nat := 0xC00020
/-- LTH_ROLLBACK (R519). -/
abbrev Reg.LTH_ROLLBACK : Nat := 0xC00024
/-- LTH_IMAGE_ID_LO (R519). -/
abbrev Reg.LTH_IMAGE_ID_LO : Nat := 0xC00028
/-- LTH_IMAGE_ID_HI (R519). -/
abbrev Reg.LTH_IMAGE_ID_HI : Nat := 0xC0002C
/-- LTH_STEPPING (R519). -/
abbrev Reg.LTH_STEPPING : Nat := 0xC00030
/-- LTH_CYC_ID (R519). -/
abbrev Reg.LTH_CYC_ID : Nat := 0xC00034
/-- LTH_CYC_CRC (R519). -/
abbrev Reg.LTH_CYC_CRC : Nat := 0xC00038
/-- LTH_DEV_SERIAL_LO (R519). -/
abbrev Reg.LTH_DEV_SERIAL_LO : Nat := 0xC0003C
/-- LTH_DEV_SERIAL_HI (R519). -/
abbrev Reg.LTH_DEV_SERIAL_HI : Nat := 0xC00040
/-- LTH_SKIPPED (R519). -/
abbrev Reg.LTH_SKIPPED : Nat := 0xC00044
/-- LTH_RT_CNT (R519). -/
abbrev Reg.LTH_RT_CNT : Nat := 0xC00048
/-- LTH_LOAD_CNT (R519). -/
abbrev Reg.LTH_LOAD_CNT : Nat := 0xC0004C
/-- LTH_DIGEST0 to 11 (R519). -/
abbrev Reg.LTH_DIGEST (j : Nat) : Nat := 0xC00050 + 4 * j
/-- LTH_FITk (R519). -/
abbrev Reg.LTH_FIT (k : Nat) : Nat := 0xC00080 + 4 * k
/-- LTH_FIT_SUM (R519). -/
abbrev Reg.LTH_FIT_SUM : Nat := 0xC00094
/-- LTH_FIT_AHEAD (R519). -/
abbrev Reg.LTH_FIT_AHEAD : Nat := 0xC00098
/-- LTH_CYCe (R519). -/
abbrev Reg.LTH_CYC (e j : Nat) : Nat := 0xC10000 + 16 * e + 4 * j

/-! BAR0 offsets of MEM (spec/12_memory_integrity.md, R552) -/

/-- MEM_CTRL (R552). -/
abbrev Reg.MEM_CTRL : Nat := 0xD00000
/-- MEM_STATUS (R552). -/
abbrev Reg.MEM_STATUS : Nat := 0xD00004
/-- MEM_STATUS_W1C (R552). -/
abbrev Reg.MEM_STATUS_W1C : Nat := 0xD00008
/-- MEM_FILL_ST (R552). -/
abbrev Reg.MEM_FILL_ST : Nat := 0xD00010
/-- MEM_SCRUB_LAP (R552). -/
abbrev Reg.MEM_SCRUB_LAP : Nat := 0xD00020
/-- MEM_SCRUB_ADAPT (R552). -/
abbrev Reg.MEM_SCRUB_ADAPT : Nat := 0xD00024
/-- MEM_SCRUB_TARGET (R552). -/
abbrev Reg.MEM_SCRUB_TARGET : Nat := 0xD00028
/-- MEM_SKIM_LAST (R552). -/
abbrev Reg.MEM_SKIM_LAST : Nat := 0xD0002C
/-- MEM_SKIM_CNT (R552). -/
abbrev Reg.MEM_SKIM_CNT : Nat := 0xD00030
/-- MEM_SKIM_POS (R552). -/
abbrev Reg.MEM_SKIM_POS : Nat := 0xD00034
/-- MEM_CE_SRAM (R552). -/
abbrev Reg.MEM_CE_SRAM : Nat := 0xD00040
/-- MEM_CE_DRAM (R552). -/
abbrev Reg.MEM_CE_DRAM : Nat := 0xD00044
/-- MEM_UE_SRAM (R552). -/
abbrev Reg.MEM_UE_SRAM : Nat := 0xD00048
/-- MEM_UE_DRAM (R552). -/
abbrev Reg.MEM_UE_DRAM : Nat := 0xD0004C
/-- MEM_WB_DISCARD (R552). -/
abbrev Reg.MEM_WB_DISCARD : Nat := 0xD00050
/-- MEM_LOG_HEAD (R552). -/
abbrev Reg.MEM_LOG_HEAD : Nat := 0xD00060
/-- MEM_RET_CMD (R552). -/
abbrev Reg.MEM_RET_CMD : Nat := 0xD00080
/-- MEM_RET_ST (R552). -/
abbrev Reg.MEM_RET_ST : Nat := 0xD00084
/-- MEM_RET_STAGE_LO (R552). -/
abbrev Reg.MEM_RET_STAGE_LO : Nat := 0xD00088
/-- MEM_RET_STAGE_HI (R552). -/
abbrev Reg.MEM_RET_STAGE_HI : Nat := 0xD0008C
/-- MEM_RET_CNT (R552). -/
abbrev Reg.MEM_RET_CNT : Nat := 0xD00090
/-- MEM_SPARE_FREE (R552). -/
abbrev Reg.MEM_SPARE_FREE : Nat := 0xD00094
/-- MEM_SPARE_SEL (R552). -/
abbrev Reg.MEM_SPARE_SEL : Nat := 0xD00098
/-- MEM_INJECT (R552). -/
abbrev Reg.MEM_INJECT : Nat := 0xD000A0
/-- MEM_INJ_ADDR_LO (R552). -/
abbrev Reg.MEM_INJ_ADDR_LO : Nat := 0xD000A4
/-- MEM_INJ_ADDR_HI (R552). -/
abbrev Reg.MEM_INJ_ADDR_HI : Nat := 0xD000A8
/-- MEM_INJ_CNT (R552). -/
abbrev Reg.MEM_INJ_CNT : Nat := 0xD000AC
/-- MEM_LOGe (R552). -/
abbrev Reg.MEM_LOG (e j : Nat) : Nat := 0xD00100 + 32 * e + 4 * j
/-- MEM_RETr (R552). -/
abbrev Reg.MEM_RET (r j : Nat) : Nat := 0xD02000 + 8 * r + 4 * j

/-! BAR0 offsets of SAF (spec/13_safety.md, R593) -/

/-- SAF_CTRL (R593). -/
abbrev Reg.SAF_CTRL : Nat := 0xE00000
/-- SAF_STATUS (R593). -/
abbrev Reg.SAF_STATUS : Nat := 0xE00004
/-- SAF_COND (R593). -/
abbrev Reg.SAF_COND : Nat := 0xE00008
/-- SAF_COND_W1C (R593). -/
abbrev Reg.SAF_COND_W1C : Nat := 0xE0000C
/-- SAF_WIN32 (R593). -/
abbrev Reg.SAF_WIN32 : Nat := 0xE00010
/-- SAF_DOUBT_CNT (R593). -/
abbrev Reg.SAF_DOUBT_CNT : Nat := 0xE00014
/-- SAF_RESTART (R593). -/
abbrev Reg.SAF_RESTART : Nat := 0xE00018
/-- SAF_CMD (R593). -/
abbrev Reg.SAF_CMD : Nat := 0xE0001C
/-- SAF_CMD_ST (R593). -/
abbrev Reg.SAF_CMD_ST : Nat := 0xE00020
/-- SAF_FORCE (R593). -/
abbrev Reg.SAF_FORCE : Nat := 0xE00024
/-- SAF_CHK_LIM (R593). -/
abbrev Reg.SAF_CHK_LIM : Nat := 0xE00030
/-- SAF_CHK_POS (R593). -/
abbrev Reg.SAF_CHK_POS : Nat := 0xE00034
/-- SAF_CHK_VEL (R593). -/
abbrev Reg.SAF_CHK_VEL : Nat := 0xE00038
/-- SAF_CHK_KIN (R593). -/
abbrev Reg.SAF_CHK_KIN : Nat := 0xE0003C
/-- SAF_CHK_NEAR (R593). -/
abbrev Reg.SAF_CHK_NEAR : Nat := 0xE00040
/-- SAF_HOLD (R593). -/
abbrev Reg.SAF_HOLD : Nat := 0xE00044
/-- SAF_FB_CFG (R593). -/
abbrev Reg.SAF_FB_CFG : Nat := 0xE00050
/-- SAF_FB_GATE (R593). -/
abbrev Reg.SAF_FB_GATE : Nat := 0xE00054
/-- SAF_FB_SIGMA (R593). -/
abbrev Reg.SAF_FB_SIGMA : Nat := 0xE00058
/-- SAF_FB_ST (R593). -/
abbrev Reg.SAF_FB_ST : Nat := 0xE0005C
/-- SAF_FB_DROP (R593). -/
abbrev Reg.SAF_FB_DROP : Nat := 0xE00060
/-- SAF_FB_SEQ (R593). -/
abbrev Reg.SAF_FB_SEQ : Nat := 0xE00064
/-- SAF_CAN_CFG (R593). -/
abbrev Reg.SAF_CAN_CFG : Nat := 0xE00070
/-- SAF_CAN_CNT (R593). -/
abbrev Reg.SAF_CAN_CNT : Nat := 0xE00074
/-- SAF_WDk_CNT (R593). -/
abbrev Reg.SAF_WD_CNT (k : Nat) : Nat := 0xE00080 + 4 * k
/-- SAF_HURDLE_FAULT (R593). -/
abbrev Reg.SAF_HURDLE_FAULT : Nat := 0xE000A0
/-- SAF_FENCED (R593). -/
abbrev Reg.SAF_FENCED : Nat := 0xE000A4
/-- SAF_REFUSE_CNT (R593). -/
abbrev Reg.SAF_REFUSE_CNT : Nat := 0xE000A8
/-- SAF_MBOXm_ST (R593). -/
abbrev Reg.SAF_MBOX_ST (m : Nat) : Nat := 0xE000C0 + 4 * m
/-- SAF_REVOKEw (R593). -/
abbrev Reg.SAF_REVOKE (w : Nat) : Nat := 0xE00100 + 4 * w

/-! BAR0 offsets of SLK (spec/14_pair_and_drove.md, R631) -/

/-- SLK_CTRL (R631). -/
abbrev Reg.SLK_CTRL : Nat := 0x1000000
/-- SLK_STATUS (R631). -/
abbrev Reg.SLK_STATUS : Nat := 0x1000004
/-- SLK_DEVNO (R631). -/
abbrev Reg.SLK_DEVNO : Nat := 0x1000008
/-- SLK_EPOCH (R631). -/
abbrev Reg.SLK_EPOCH : Nat := 0x100000C
/-- SLK_PORT_CFG (R631). -/
abbrev Reg.SLK_PORT_CFG : Nat := 0x1000010
/-- SLK_TIMEOUTS (R631). -/
abbrev Reg.SLK_TIMEOUTS : Nat := 0x1000014
/-- SLK_HAND_CFG (R631). -/
abbrev Reg.SLK_HAND_CFG : Nat := 0x1000018
/-- SLK_SYNC_RATE (R631). -/
abbrev Reg.SLK_SYNC_RATE : Nat := 0x100001C
/-- SLK_CMD (R631). -/
abbrev Reg.SLK_CMD : Nat := 0x1000020
/-- SLK_CMD_ST (R631). -/
abbrev Reg.SLK_CMD_ST : Nat := 0x1000024
/-- SLK_MEMBERS_LO (R631). -/
abbrev Reg.SLK_MEMBERS_LO : Nat := 0x1000028
/-- SLK_MEMBERS_HI (R631). -/
abbrev Reg.SLK_MEMBERS_HI : Nat := 0x100002C
/-- SLK_FAILOVER (R631). -/
abbrev Reg.SLK_FAILOVER : Nat := 0x1000030
/-- SLK_STALE (R631). -/
abbrev Reg.SLK_STALE : Nat := 0x1000034
/-- SLK_HOT_MISMATCH (R631). -/
abbrev Reg.SLK_HOT_MISMATCH : Nat := 0x1000038
/-- SLK_DELTA_CNT (R631). -/
abbrev Reg.SLK_DELTA_CNT : Nat := 0x100003C
/-- SLK_HAND_CNT (R631). -/
abbrev Reg.SLK_HAND_CNT : Nat := 0x1000040
/-- SLK_HAND_FAIL (R631). -/
abbrev Reg.SLK_HAND_FAIL : Nat := 0x1000044
/-- SLK_FWD_CNT (R631). -/
abbrev Reg.SLK_FWD_CNT : Nat := 0x1000048
/-- SLK_FWD_DROP (R631). -/
abbrev Reg.SLK_FWD_DROP : Nat := 0x100004C
/-- SLK_MRING_BASE_LO (R631). -/
abbrev Reg.SLK_MRING_BASE_LO : Nat := 0x1000050
/-- SLK_MRING_BASE_HI (R631). -/
abbrev Reg.SLK_MRING_BASE_HI : Nat := 0x1000054
/-- SLK_MRING_SLOTS (R631). -/
abbrev Reg.SLK_MRING_SLOTS : Nat := 0x1000058
/-- SLK_MRING_DROP (R631). -/
abbrev Reg.SLK_MRING_DROP : Nat := 0x100005C
/-- SLK_Pp_STAT (R631). -/
abbrev Reg.SLK_P_STAT (p : Nat) : Nat := 0x1000100 + 32 * p
/-- SLK_Pp_CRC (R631). -/
abbrev Reg.SLK_P_CRC (p : Nat) : Nat := 0x1000104 + 32 * p
/-- SLK_Pp_REPLAY (R631). -/
abbrev Reg.SLK_P_REPLAY (p : Nat) : Nat := 0x1000108 + 32 * p
/-- SLK_Pp_VIOL (R631). -/
abbrev Reg.SLK_P_VIOL (p : Nat) : Nat := 0x100010C + 32 * p
/-- SLK_Pp_DELAY (R631). -/
abbrev Reg.SLK_P_DELAY (p : Nat) : Nat := 0x1000110 + 32 * p
/-- SLK_MRINGm_PROD (R631). -/
abbrev Reg.SLK_MRING_PROD (m : Nat) : Nat := 0x1001000 + 8 * m
/-- SLK_MRINGm_CONS (R631). -/
abbrev Reg.SLK_MRING_CONS (m : Nat) : Nat := 0x1001004 + 8 * m

/-! BAR0 offsets of SEC (spec/15_security.md, R662) -/

/-- SEC_STATUS (R662). -/
abbrev Reg.SEC_STATUS : Nat := 0xF00000
/-- SEC_LIFECYCLE (R662). -/
abbrev Reg.SEC_LIFECYCLE : Nat := 0xF00004
/-- SEC_SIGNERS (R662). -/
abbrev Reg.SEC_SIGNERS : Nat := 0xF00008
/-- SEC_REVOKED (R662). -/
abbrev Reg.SEC_REVOKED : Nat := 0xF0000C
/-- SEC_CMD (R662). -/
abbrev Reg.SEC_CMD : Nat := 0xF00010
/-- SEC_CMD_ST (R662). -/
abbrev Reg.SEC_CMD_ST : Nat := 0xF00014
/-- SEC_ARG (R662). -/
abbrev Reg.SEC_ARG : Nat := 0xF00018
/-- SEC_SRC_LO (R662). -/
abbrev Reg.SEC_SRC_LO : Nat := 0xF00020
/-- SEC_SRC_HI (R662). -/
abbrev Reg.SEC_SRC_HI : Nat := 0xF00024
/-- SEC_CHAL0 to 7 (R662). -/
abbrev Reg.SEC_CHAL (j : Nat) : Nat := 0xF00040 + 4 * j
/-- SEC_NONCE0 to 7 (R662). -/
abbrev Reg.SEC_NONCE (j : Nat) : Nat := 0xF00060 + 4 * j
/-- SEC_BOOT_NONCE_LO (R662). -/
abbrev Reg.SEC_BOOT_NONCE_LO : Nat := 0xF00080
/-- SEC_BOOT_NONCE_HI (R662). -/
abbrev Reg.SEC_BOOT_NONCE_HI : Nat := 0xF00084
/-- SEC_ID_PUB0 to 23 (R662). -/
abbrev Reg.SEC_ID_PUB (j : Nat) : Nat := 0xF00100 + 4 * j
/-- SEC_KEY_MAP0 to 7 (R662). -/
abbrev Reg.SEC_KEY_MAP (j : Nat) : Nat := 0xF00180 + 4 * j
/-- SEC_ALARM_POL (R662). -/
abbrev Reg.SEC_ALARM_POL : Nat := 0xF001A0
/-- SEC_ALARM_EFF (R662). -/
abbrev Reg.SEC_ALARM_EFF : Nat := 0xF001A4
/-- SEC_ALARM_CNTs (R662). -/
abbrev Reg.SEC_ALARM_CNT (s : Nat) : Nat := 0xF001A8 + 4 * s
/-- SEC_ALARM_LAST0 to 3 (R662). -/
abbrev Reg.SEC_ALARM_LAST (j : Nat) : Nat := 0xF001C0 + 4 * j
/-- SEC_AUTH_FAIL (R662). -/
abbrev Reg.SEC_AUTH_FAIL : Nat := 0xF001D0
/-- SEC_PN_EXHAUST (R662). -/
abbrev Reg.SEC_PN_EXHAUST : Nat := 0xF001D4

/-! BAR0 offsets of AON (spec/16_power_clocks_startup.md, R686) -/

/-- AON_PWR_STATE (R686). -/
abbrev Reg.AON_PWR_STATE : Nat := 0x100000
/-- AON_PWR_CMD (R686). -/
abbrev Reg.AON_PWR_CMD : Nat := 0x100004
/-- AON_PWR_CMD_ST (R686). -/
abbrev Reg.AON_PWR_CMD_ST : Nat := 0x100008
/-- AON_DOM0 to 3 (R686). -/
abbrev Reg.AON_DOM (j : Nat) : Nat := 0x100010 + 4 * j
/-- AON_STBY_KEEP (R686). -/
abbrev Reg.AON_STBY_KEEP : Nat := 0x100020
/-- AON_WAKE_CFG (R686). -/
abbrev Reg.AON_WAKE_CFG : Nat := 0x100024
/-- AON_WAKE_TIMER (R686). -/
abbrev Reg.AON_WAKE_TIMER : Nat := 0x100028
/-- AON_WAKE_SRC (R686). -/
abbrev Reg.AON_WAKE_SRC : Nat := 0x10002C
/-- AON_RST_CMD (R686). -/
abbrev Reg.AON_RST_CMD : Nat := 0x100030
/-- AON_RST_ST (R686). -/
abbrev Reg.AON_RST_ST : Nat := 0x100034
/-- AON_RST_CAUSE (R686). -/
abbrev Reg.AON_RST_CAUSE : Nat := 0x100038
/-- AON_PLL_ST (R686). -/
abbrev Reg.AON_PLL_ST : Nat := 0x100040
/-- AON_BOOT_TIME (R686). -/
abbrev Reg.AON_BOOT_TIME : Nat := 0x100044
/-- AON_TEMP (R686). -/
abbrev Reg.AON_TEMP : Nat := 0x100048
/-- AON_WAKE_DMAC_LO (R686). -/
abbrev Reg.AON_WAKE_DMAC_LO : Nat := 0x10004C
/-- AON_WAKE_DMAC_HI (R686). -/
abbrev Reg.AON_WAKE_DMAC_HI : Nat := 0x100050
/-- AON_WAKE_ETYPE (R686). -/
abbrev Reg.AON_WAKE_ETYPE : Nat := 0x100054

/-! BAR0 offsets of HIF (spec/17_host_interface.md, R714) -/

/-- HIF_ID (R714). -/
abbrev Reg.HIF_ID : Nat := 0x0
/-- HIF_STATUS (R714). -/
abbrev Reg.HIF_STATUS : Nat := 0x4
/-- HIF_STATUS_W1C (R714). -/
abbrev Reg.HIF_STATUS_W1C : Nat := 0x8
/-- HIF_FEAT_DEV0 to 7 (R714). -/
abbrev Reg.HIF_FEAT_DEV (j : Nat) : Nat := 0x10 + 4 * j
/-- HIF_FEAT_MAND0 to 7 (R714). -/
abbrev Reg.HIF_FEAT_MAND (j : Nat) : Nat := 0x30 + 4 * j
/-- HIF_FEAT_DRV0 to 7 (R714). -/
abbrev Reg.HIF_FEAT_DRV (j : Nat) : Nat := 0x50 + 4 * j
/-- HIF_FEAT_CTRL (R714). -/
abbrev Reg.HIF_FEAT_CTRL : Nat := 0x70
/-- HIF_FEAT_ST (R714). -/
abbrev Reg.HIF_FEAT_ST : Nat := 0x74
/-- HIF_EVT_BASE_LO (R714). -/
abbrev Reg.HIF_EVT_BASE_LO : Nat := 0x80
/-- HIF_EVT_BASE_HI (R714). -/
abbrev Reg.HIF_EVT_BASE_HI : Nat := 0x84
/-- HIF_EVT_SIZE (R714). -/
abbrev Reg.HIF_EVT_SIZE : Nat := 0x88
/-- HIF_EVT_CFG (R714). -/
abbrev Reg.HIF_EVT_CFG : Nat := 0x8C
/-- HIF_EVT_PROD (R714). -/
abbrev Reg.HIF_EVT_PROD : Nat := 0x90
/-- HIF_EVT_CONS (R714). -/
abbrev Reg.HIF_EVT_CONS : Nat := 0x94
/-- HIF_EVT_DROP (R714). -/
abbrev Reg.HIF_EVT_DROP : Nat := 0x98
/-- HIF_EVT_PEND (R714). -/
abbrev Reg.HIF_EVT_PEND : Nat := 0x9C
/-- HIF_EVT_LAST0 to 7 (R714). -/
abbrev Reg.HIF_EVT_LAST (j : Nat) : Nat := 0xA0 + 4 * j
/-- HIF_DARK_CNT (R714). -/
abbrev Reg.HIF_DARK_CNT : Nat := 0xC0
/-- HIF_SIGMAPv (R714). -/
abbrev Reg.HIF_SIGMAP (v : Nat) : Nat := 0x120 + 4 * v


/-- Rows of the register index of HIF. -/
def regDefsHIF0 : List RegDef :=
  [⟨0x0, 1, 4, 1, .ro, 0x0, 0xFFFFFFFF, []⟩,
   ⟨0x4, 1, 4, 1, .rov, 0x0, 0xFFFFFFFF, []⟩,
   ⟨0x8, 1, 4, 1, .w1c, 0x0, 0xF, []⟩,
   ⟨0x10, 1, 32, 8, .ro, 0x0, 0xFFFFFFFF, []⟩,
   ⟨0x30, 1, 32, 8, .ro, 0x0, 0xFFFFFFFF, []⟩,
   ⟨0x50, 1, 32, 8, .rw, 0x0, 0xFFFFFFFF, []⟩,
   ⟨0x70, 1, 4, 1, .wo, 0x0, 0x3, []⟩,
   ⟨0x74, 1, 4, 1, .rov, 0x0, 0xFFFFFFFF, []⟩,
   ⟨0x80, 1, 4, 1, .rw, 0x0, 0xFFFFFFFF, [.mult 0 32 4096]⟩,
   ⟨0x84, 1, 4, 1, .rw, 0x0, 0xFFFF, []⟩,
   ⟨0x88, 1, 4, 1, .rw, 0x400, 0xFFFFFFFF, [.pow2 0 32 128 65536]⟩,
   ⟨0x8C, 1, 4, 1, .rw, 0x640004, 0xFFFF0007, []⟩,
   ⟨0x90, 1, 4, 1, .rov, 0x0, 0xFFFFFFFF, []⟩,
   ⟨0x94, 1, 4, 1, .rw, 0x0, 0xFFFFFFFF, []⟩,
   ⟨0x98, 1, 4, 1, .rov, 0x0, 0xFFFFFFFF, []⟩,
   ⟨0x9C, 1, 4, 1, .rov, 0x0, 0xFFFFFFFF, []⟩,
   ⟨0xA0, 1, 32, 8, .rov, 0x0, 0xFFFFFFFF, []⟩,
   ⟨0xC0, 1, 4, 1, .rov, 0x0, 0xFFFFFFFF, []⟩,
   ⟨0x120, 56, 4, 1, .rw, 0x0, 0x103FF, []⟩]

/-- The register index of HIF. -/
def regDefsHIF : List RegDef := regDefsHIF0

/-- Rows of the register index of AON. -/
def regDefsAON0 : List RegDef :=
  [⟨0x100000, 1, 4, 1, .rov, 0x3, 0xFFFFFFFF, []⟩,
   ⟨0x100004, 1, 4, 1, .wo, 0x0, 0x107, []⟩,
   ⟨0x100008, 1, 4, 1, .rov, 0x0, 0xFFFFFFFF, []⟩,
   ⟨0x100010, 1, 16, 4, .rov, 0x0, 0xFFFFFFFF, []⟩,
   ⟨0x100020, 1, 4, 1, .rw, 0x0, 0xFFF, []⟩,
   ⟨0x100024, 1, 4, 1, .rw, 0x523, 0x3FFF, [.range 8 6 1 63]⟩,
   ⟨0x100028, 1, 4, 1, .rw, 0x0, 0xFFFFFFFF, []⟩,
   ⟨0x10002C, 1, 4, 1, .w1c, 0x0, 0xF, []⟩,
   ⟨0x100030, 1, 4, 1, .wo, 0x0, 0x3F03, []⟩,
   ⟨0x100034, 1, 4, 1, .rov, 0x0, 0xFFFFFFFF, []⟩,
   ⟨0x100038, 1, 4, 1, .w1c, 0x1, 0xFF, []⟩,
   ⟨0x100040, 1, 4, 1, .rov, 0x0, 0xFFFFFFFF, []⟩,
   ⟨0x100044, 1, 4, 1, .rov, 0x0, 0xFFFFFFFF, []⟩,
   ⟨0x100048, 1, 4, 1, .rov, 0x0, 0xFFFFFFFF, []⟩,
   ⟨0x10004C, 1, 4, 1, .rw, 0x0, 0xFFFFFFFF, []⟩,
   ⟨0x100050, 1, 4, 1, .rw, 0x0, 0xFFFF, []⟩,
   ⟨0x100054, 1, 4, 1, .rw, 0x0, 0x1FFFF, []⟩]

/-- The register index of AON. -/
def regDefsAON : List RegDef := regDefsAON0

/-- Rows of the register index of TBU. -/
def regDefsTBU0 : List RegDef :=
  [⟨0x200000, 1, 4, 1, .rw, 0x1, 0xF, []⟩,
   ⟨0x200004, 1, 4, 1, .rov, 0x0, 0xFFFFFFFF, []⟩,
   ⟨0x200008, 1, 4, 1, .w1c, 0x0, 0xFE, []⟩,
   ⟨0x200010, 1, 16, 4, .rov, 0x0, 0xFFFFFFFF, []⟩,
   ⟨0x200020, 1, 16, 4, .rw, 0x0, 0xFFFFFFFF, []⟩,
   ⟨0x200030, 1, 4, 1, .rwl, 0x5999A, 0xFFFFFFFF, []⟩,
   ⟨0x200034, 1, 4, 1, .rwl, 0x1999A, 0xFFFFFFFF, []⟩,
   ⟨0x200038, 1, 4, 1, .rov, 0x0, 0xFFFFFFFF, []⟩,
   ⟨0x20003C, 1, 4, 1, .rov, 0x0, 0xFFFFFFFF, []⟩,
   ⟨0x200040, 1, 4, 1, .rwl, 0x2710, 0xFFFFFFFF, []⟩,
   ⟨0x200044, 1, 4, 1, .rw, 0x64, 0xFFFFFFFF, []⟩,
   ⟨0x200048, 1, 4, 1, .rwl, 0xA, 0xFFFFFFFF, [.range 0 32 1 3600]⟩,
   ⟨0x20004C, 1, 4, 1, .rov, 0x0, 0xFFFFFFFF, []⟩,
   ⟨0x200050, 1, 4, 1, .rwl, 0xFF00, 0x1FFFF, [.range 0 8 0 127]⟩,
   ⟨0x200054, 1, 4, 1, .rwl, 0xFF01, 0x1FFFF, [.range 0 8 0 127]⟩,
   ⟨0x200058, 1, 4, 1, .rov, 0x0, 0xFFFFFFFF, []⟩,
   ⟨0x20005C, 1, 4, 1, .rw, 0x3E8, 0xFFFFFFFF, []⟩,
   ⟨0x200060, 1, 4, 1, .rov, 0x0, 0xFFFFFFFF, []⟩,
   ⟨0x200064, 1, 4, 1, .rw, 0x64, 0x1FFFF, [.range 0 16 1 999]⟩,
   ⟨0x200068, 1, 4, 1, .rw, 0x0, 0x3, []⟩]

/-- Rows of the register index of TBU. -/
def regDefsTBU1 : List RegDef :=
  [⟨0x200200, 38, 16, 1, .rw, 0x0, 0xFFFFFFFF, []⟩,
   ⟨0x200204, 38, 16, 1, .rw, 0x0, 0xFFFFFFFF, []⟩,
   ⟨0x200208, 12, 16, 1, .rw, 0x0, 0xFFFFFFFF, []⟩,
   ⟨0x200600, 48, 16, 1, .rw, 0x0, 0xFFFFFFFF, []⟩,
   ⟨0x200604, 48, 16, 1, .rw, 0x0, 0xFFFFFFFF, []⟩,
   ⟨0x200608, 48, 16, 1, .rw, 0x0, 0x8000FFFF, []⟩,
   ⟨0x20060C, 48, 16, 1, .rw, 0x0, 0xFFFFFFFF, []⟩]

/-- The register index of TBU. -/
def regDefsTBU : List RegDef := regDefsTBU0 ++ regDefsTBU1

/-- Rows of the register index of SIC. -/
def regDefsSIC0 : List RegDef :=
  [⟨0x300000, 1, 4, 1, .rwl, 0x0, 0x1F, []⟩,
   ⟨0x300004, 1, 4, 1, .rov, 0x0, 0xFFFFFFFF, []⟩,
   ⟨0x300010, 1, 4, 1, .wo, 0x0, 0x700FF, []⟩,
   ⟨0x300014, 1, 4, 1, .rov, 0x0, 0xFFFFFFFF, []⟩,
   ⟨0x300020, 1, 64, 16, .rw, 0x0, 0xFFFFFFFF, []⟩,
   ⟨0x300060, 1, 4, 1, .rwl, 0x3E80010, 0xFFFF00FF, [.range 0 8 1 255, .range 16 16 1 65535]⟩,
   ⟨0x300064, 1, 4, 1, .rwl, 0x3E8, 0xFFFFFFFF, []⟩,
   ⟨0x300068, 1, 4, 1, .rwl, 0xA, 0xFFFFFFFF, [.range 0 32 1 255]⟩,
   ⟨0x30006C, 1, 4, 1, .rwl, 0x1F4, 0xFFFFFFFF, [.range 0 32 10 60000]⟩,
   ⟨0x300070, 1, 4, 1, .rwl, 0x32, 0xFFFFFFFF, [.range 0 32 1 99]⟩,
   ⟨0x300074, 1, 4, 1, .rov, 0x0, 0xFFFFFFFF, []⟩,
   ⟨0x300078, 1, 4, 1, .rov, 0x0, 0xFFFFFFFF, []⟩,
   ⟨0x300080, 1, 128, 32, .rov, 0x0, 0xFFFFFFFF, []⟩,
   ⟨0x300100, 1, 4, 1, .rwl, 0x30F1414, 0xFFFFFFFF, []⟩,
   ⟨0x300104, 1, 4, 1, .rov, 0x0, 0xFFFFFFFF, []⟩,
   ⟨0x300108, 1, 4, 1, .rov, 0x0, 0xFFFFFFFF, []⟩,
   ⟨0x300140, 16, 4, 1, .rwl, 0x0, 0xFFFFFFF, [.range 0 8 0 128, .range 8 12 0 2048]⟩,
   ⟨0x300180, 1, 64, 16, .rw, 0x0, 0xFFFFFFFF, []⟩,
   ⟨0x3001C0, 16, 4, 1, .rwl, 0x0, 0xFFFFFFFF, []⟩,
   ⟨0x300200, 12, 16, 1, .rov, 0x0, 0xFFFFFFFF, []⟩]

/-- Rows of the register index of SIC. -/
def regDefsSIC1 : List RegDef :=
  [⟨0x300204, 12, 16, 1, .rov, 0x0, 0xFFFFFFFF, []⟩,
   ⟨0x300208, 12, 16, 1, .rov, 0x0, 0xFFFFFFFF, []⟩,
   ⟨0x30020C, 12, 16, 1, .rov, 0x0, 0xFFFFFFFF, []⟩,
   ⟨0x300400, 12, 32, 1, .rov, 0x0, 0xFFFFFFFF, []⟩,
   ⟨0x300404, 12, 32, 1, .rov, 0x0, 0xFFFFFFFF, []⟩,
   ⟨0x300408, 12, 32, 1, .rov, 0x0, 0xFFFFFFFF, []⟩,
   ⟨0x30040C, 12, 32, 1, .rov, 0x0, 0xFFFFFFFF, []⟩,
   ⟨0x300410, 12, 32, 1, .rov, 0x0, 0xFFFFFFFF, []⟩,
   ⟨0x300414, 12, 32, 1, .rov, 0x0, 0xFFFFFFFF, []⟩,
   ⟨0x300800, 3, 16, 1, .rov, 0x0, 0xFFFFFFFF, []⟩,
   ⟨0x300900, 2, 16, 1, .rov, 0x0, 0xFFFFFFFF, []⟩,
   ⟨0x310000, 256, 64, 16, .ro, 0x0, 0xFFFFFFFF, []⟩,
   ⟨0x314000, 256, 64, 16, .ro, 0x0, 0xFFFFFFFF, []⟩,
   ⟨0x318000, 256, 16, 4, .rov, 0x0, 0xFFFFFFFF, []⟩]

/-- The register index of SIC. -/
def regDefsSIC : List RegDef := regDefsSIC0 ++ regDefsSIC1

/-- Rows of the register index of PAE. -/
def regDefsPAE0 : List RegDef :=
  [⟨0x400000, 1, 4, 1, .rwl, 0x0, 0x7, []⟩,
   ⟨0x400004, 1, 4, 1, .rov, 0x0, 0xFFFFFFFF, []⟩,
   ⟨0x400010, 1, 4, 1, .rwl, 0x4000400, 0xFFF0FFF, [.range 0 12 64 2048, .range 16 12 64 2048, .mult 0 12 64, .mult 16 12 64]⟩,
   ⟨0x400014, 1, 4, 1, .rwl, 0xC8, 0xFFFFFFFF, [.range 0 32 50 800]⟩,
   ⟨0x400018, 1, 4, 1, .rwl, 0xFFFE7000, 0xFFFFFFFF, []⟩,
   ⟨0x40001C, 1, 4, 1, .rwl, 0xFFFE7000, 0xFFFFFFFF, []⟩,
   ⟨0x400020, 1, 4, 1, .rwl, 0x640064, 0xFFFFFFFF, [.range 0 16 10 200, .le 0 16 16 16]⟩,
   ⟨0x400024, 1, 4, 1, .rwl, 0x0, 0xFFFFFFFF, []⟩,
   ⟨0x400028, 1, 4, 1, .rwl, 0x64, 0xFFFFFFFF, [.range 0 32 1 200]⟩,
   ⟨0x40002C, 1, 4, 1, .rwl, 0x5, 0xFFFFFFFF, [.range 0 32 1 20]⟩,
   ⟨0x400030, 1, 4, 1, .rwl, 0x138803E8, 0xFFFFFFFF, []⟩,
   ⟨0x400034, 1, 4, 1, .rwl, 0x330014, 0xFFFFFFFF, []⟩,
   ⟨0x400040, 1, 4, 1, .rov, 0x0, 0xFFFFFFFF, []⟩,
   ⟨0x400044, 1, 4, 1, .rov, 0x0, 0xFFFFFFFF, []⟩,
   ⟨0x400048, 1, 4, 1, .rov, 0x0, 0xFFFFFFFF, []⟩,
   ⟨0x40004C, 1, 4, 1, .rov, 0x0, 0xFFFFFFFF, []⟩,
   ⟨0x400050, 1, 4, 1, .rov, 0x0, 0xFFFFFFFF, []⟩,
   ⟨0x400060, 1, 4, 1, .wo, 0x0, 0x7FF, []⟩,
   ⟨0x400064, 1, 4, 1, .rov, 0x0, 0xFFFFFFFF, []⟩,
   ⟨0x401000, 48, 64, 16, .ro, 0x0, 0xFFFFFFFF, []⟩]

/-- Rows of the register index of PAE. -/
def regDefsPAE1 : List RegDef :=
  [⟨0x402000, 256, 32, 8, .rov, 0x0, 0xFFFFFFFF, []⟩]

/-- The register index of PAE. -/
def regDefsPAE : List RegDef := regDefsPAE0 ++ regDefsPAE1

/-- Rows of the register index of EGO. -/
def regDefsEGO0 : List RegDef :=
  [⟨0x500000, 1, 4, 1, .rwl, 0xD, 0xF, []⟩,
   ⟨0x500004, 1, 4, 1, .rov, 0x0, 0xFFFFFFFF, []⟩,
   ⟨0x500008, 1, 4, 1, .w1c, 0x0, 0xF, []⟩,
   ⟨0x500010, 1, 4, 1, .rwl, 0x32, 0xFFFFFFFF, [.range 0 32 10 200]⟩,
   ⟨0x500014, 1, 4, 1, .rwl, 0xC8, 0xFFFFFFFF, [.range 0 32 10 1000]⟩,
   ⟨0x500018, 1, 4, 1, .rwl, 0x0, 0x3FFFF, []⟩,
   ⟨0x50001C, 1, 4, 1, .rwl, 0x0, 0x1FF, []⟩,
   ⟨0x500020, 1, 4, 1, .rwl, 0x640000, 0xFFFFFFFF, []⟩,
   ⟨0x500024, 1, 4, 1, .rwl, 0x20000, 0xFFFFFFFF, []⟩,
   ⟨0x500028, 1, 4, 1, .rwl, 0xA0000, 0xFFFFFFFF, []⟩,
   ⟨0x50002C, 1, 4, 1, .rwl, 0x8000, 0xFFFFFFFF, []⟩,
   ⟨0x500030, 1, 4, 1, .rwl, 0x320000, 0xFFFFFFFF, []⟩,
   ⟨0x500034, 1, 4, 1, .rwl, 0x7D00000, 0xFFFFFFFF, []⟩,
   ⟨0x500038, 1, 4, 1, .rwl, 0x1E0000, 0xFFFFFFFF, []⟩,
   ⟨0x50003C, 1, 4, 1, .rwl, 0x18000, 0xFFFFFFFF, []⟩,
   ⟨0x500040, 1, 4, 1, .rov, 0x0, 0xFFFFFFFF, []⟩,
   ⟨0x500044, 1, 4, 1, .rov, 0x0, 0xFFFFFFFF, []⟩,
   ⟨0x500080, 1, 64, 16, .rov, 0x0, 0xFFFFFFFF, []⟩]

/-- The register index of EGO. -/
def regDefsEGO : List RegDef := regDefsEGO0

/-- Rows of the register index of TCA. -/
def regDefsTCA0 : List RegDef :=
  [⟨0x600000, 34, 16384, 1, .rov, 0x0, 0xFFFFFFFF, []⟩,
   ⟨0x600004, 34, 16384, 1, .rov, 0xFF, 0xFFFFFFFF, []⟩,
   ⟨0x600008, 34, 16384, 1, .rov, 0x0, 0xFFFFFFFF, []⟩,
   ⟨0x60000C, 34, 16384, 1, .rov, 0x0, 0xFFFFFFFF, []⟩,
   ⟨0x600010, 34, 16384, 1, .rws, 0x0, 0xFFFFFFFF, []⟩,
   ⟨0x600014, 34, 16384, 1, .rov, 0x0, 0xFFFFFFFF, []⟩,
   ⟨0x600018, 34, 16384, 1, .rov, 0x0, 0xFFFFFFFF, []⟩,
   ⟨0x60001C, 34, 16384, 1, .rov, 0x0, 0xFFFFFFFF, []⟩,
   ⟨0x600020, 34, 16384, 1, .rws, 0x0, 0xFFFFFFFF, []⟩,
   ⟨0x600024, 34, 16384, 1, .rov, 0x0, 0xFFFFFFFF, []⟩,
   ⟨0x600028, 34, 16384, 1, .wo, 0x0, 0x3F03, []⟩,
   ⟨0x600040, 34, 16384, 16, .rw, 0x0, 0xFFFFFFFF, []⟩,
   ⟨0x600080, 34, 16384, 1, .wo, 0x0, 0x1, []⟩,
   ⟨0x600084, 34, 16384, 1, .rov, 0x0, 0xFFFFFFFF, []⟩,
   ⟨0x690000, 1, 4, 1, .rwl, 0x0, 0x1, []⟩,
   ⟨0x690004, 1, 4, 1, .rov, 0x0, 0xFFFFFFFF, []⟩,
   ⟨0x690008, 1, 4, 1, .rov, 0x3, 0xFFFFFFFF, []⟩,
   ⟨0x69000C, 1, 4, 1, .rws, 0x0, 0xFFFFFFFF, []⟩,
   ⟨0x690010, 1, 4, 1, .rws, 0x0, 0xFFFFFFFF, []⟩,
   ⟨0x690014, 1, 4, 1, .rwl, 0xC, 0xFFFFFFFF, [.range 0 32 8 20]⟩]

/-- Rows of the register index of TCA. -/
def regDefsTCA1 : List RegDef :=
  [⟨0x690018, 1, 4, 1, .rov, 0x0, 0xFFFFFFFF, []⟩,
   ⟨0x69001C, 1, 4, 1, .wo, 0x0, 0x13F, []⟩,
   ⟨0x690020, 1, 4, 1, .rov, 0x0, 0xFFFFFFFF, []⟩]

/-- The register index of TCA. -/
def regDefsTCA : List RegDef := regDefsTCA0 ++ regDefsTCA1

/-- Rows of the register index of DML. -/
def regDefsDML0 : List RegDef :=
  [⟨0x700000, 1, 4, 1, .rwl, 0x1, 0x1, []⟩,
   ⟨0x700004, 1, 4, 1, .rov, 0x0, 0xFFFFFFFF, []⟩,
   ⟨0x700010, 1, 4, 1, .wo, 0x0, 0x70FFF, []⟩,
   ⟨0x700014, 1, 4, 1, .rov, 0x0, 0xFFFFFFFF, []⟩,
   ⟨0x700020, 1, 64, 16, .rw, 0x0, 0xFFFFFFFF, []⟩,
   ⟨0x700060, 1, 4, 1, .rov, 0x1000, 0xFFFFFFFF, []⟩,
   ⟨0x700070, 1, 4, 1, .rov, 0x0, 0xFFFFFFFF, []⟩,
   ⟨0x700074, 1, 4, 1, .rov, 0x0, 0xFFFFFFFF, []⟩,
   ⟨0x700080, 1, 4, 1, .wo, 0x0, 0xFFFF03FF, []⟩,
   ⟨0x701000, 16, 128, 8, .rov, 0x0, 0xFFFFFFFF, []⟩,
   ⟨0x701020, 16, 128, 8, .rw, 0x0, 0xFFFFFFFF, []⟩,
   ⟨0x701040, 16, 128, 1, .wo, 0x0, 0x1, []⟩,
   ⟨0x701044, 16, 128, 1, .rov, 0x0, 0xFFFFFFFF, []⟩,
   ⟨0x701048, 16, 128, 1, .rov, 0x0, 0xFFFFFFFF, []⟩,
   ⟨0x70104C, 16, 128, 1, .rov, 0x0, 0xFFFFFFFF, []⟩,
   ⟨0x702000, 16, 64, 1, .rw, 0x0, 0xFFFFFFFF, [.mult 0 32 32]⟩,
   ⟨0x702004, 16, 64, 1, .rw, 0x0, 0xFFFF, []⟩,
   ⟨0x702008, 16, 64, 1, .wo, 0x0, 0x3, []⟩,
   ⟨0x70200C, 16, 64, 1, .rov, 0x0, 0xFFFFFFFF, []⟩,
   ⟨0x702010, 16, 64, 1, .rov, 0x0, 0xFFFFFFFF, []⟩]

/-- Rows of the register index of DML. -/
def regDefsDML1 : List RegDef :=
  [⟨0x702014, 16, 64, 1, .rov, 0x0, 0xFFFFFFFF, []⟩,
   ⟨0x704000, 1024, 4, 1, .rov, 0x0, 0xFFFFFFFF, []⟩,
   ⟨0x710000, 4096, 64, 16, .ro, 0x0, 0xFFFFFFFF, []⟩]

/-- The register index of DML. -/
def regDefsDML : List RegDef := regDefsDML0 ++ regDefsDML1

/-- Rows of the register index of TAC. -/
def regDefsTAC0 : List RegDef :=
  [⟨0x800000, 1, 4, 1, .rwl, 0x3, 0x3, []⟩,
   ⟨0x800004, 1, 4, 1, .rov, 0x0, 0xFFFFFFFF, []⟩,
   ⟨0x800010, 1, 4, 1, .rwl, 0x0, 0xFFFFFFFF, [.mult 0 32 67108864]⟩,
   ⟨0x800014, 1, 4, 1, .rwl, 0x0, 0xFFFF, []⟩,
   ⟨0x800018, 1, 4, 1, .rwl, 0x0, 0xFFFFFFFF, [.mult 0 32 1048576]⟩,
   ⟨0x80001C, 1, 4, 1, .rwl, 0x0, 0xFFFF, []⟩,
   ⟨0x800020, 1, 4, 1, .rwl, 0x0, 0xFFFFFFFF, [.mult 0 32 65536]⟩,
   ⟨0x800024, 1, 4, 1, .rwl, 0x0, 0xFFFF, []⟩,
   ⟨0x800028, 1, 4, 1, .rwl, 0x0, 0xFFFFFFFF, [.range 0 32 16 524288]⟩,
   ⟨0x80002C, 1, 4, 1, .rov, 0x0, 0xFFFFFFFF, []⟩,
   ⟨0x800030, 1, 4, 1, .rov, 0x0, 0xFFFFFFFF, []⟩,
   ⟨0x800040, 8, 4, 1, .rov, 0x0, 0xFFFFFFFF, []⟩,
   ⟨0x800060, 1, 4, 1, .rwl, 0x40401, 0x71773, [.range 0 2 0 2, .range 16 3 1 4]⟩,
   ⟨0x800064, 1, 4, 1, .rwl, 0x2000, 0xFFFFFFFF, [.range 0 32 1 8192]⟩,
   ⟨0x800068, 1, 4, 1, .rov, 0x0, 0xFFFFFFFF, []⟩,
   ⟨0x80006C, 1, 4, 1, .rwl, 0x10080100, 0xFFFFFFFF, [.range 0 16 1 65535]⟩,
   ⟨0x800070, 1, 4, 1, .rwl, 0x400100, 0x3FF1F1F, [.range 0 5 0 16, .range 8 5 0 16, .range 16 10 1 1023]⟩,
   ⟨0x800074, 1, 4, 1, .rov, 0x0, 0xFFFFFFFF, []⟩,
   ⟨0x800078, 1, 4, 1, .rov, 0x0, 0xFFFFFFFF, []⟩,
   ⟨0x80007C, 1, 4, 1, .rov, 0x0, 0xFFFFFFFF, []⟩]

/-- Rows of the register index of TAC. -/
def regDefsTAC1 : List RegDef :=
  [⟨0x800080, 1, 4, 1, .rov, 0x0, 0xFFFFFFFF, []⟩,
   ⟨0x800084, 1, 4, 1, .rov, 0x0, 0xFFFFFFFF, []⟩,
   ⟨0x800088, 1, 4, 1, .rov, 0x0, 0xFFFFFFFF, []⟩,
   ⟨0x80008C, 1, 4, 1, .rov, 0x0, 0xFFFFFFFF, []⟩,
   ⟨0x800090, 1, 4, 1, .rov, 0x0, 0xFFFFFFFF, []⟩,
   ⟨0x800094, 1, 4, 1, .rov, 0x0, 0xFFFFFFFF, []⟩,
   ⟨0x8000A0, 1, 4, 1, .wo, 0x0, 0x7FFFFF, []⟩,
   ⟨0x8000A4, 1, 4, 1, .rw, 0x0, 0xFFFFFFFF, []⟩,
   ⟨0x8000A8, 1, 4, 1, .rw, 0x0, 0xFFF, []⟩,
   ⟨0x8000AC, 1, 4, 1, .rov, 0x0, 0xFFFFFFFF, []⟩,
   ⟨0x8000B0, 1, 4, 1, .wo, 0x0, 0x1F7FFFFF, []⟩,
   ⟨0x8000B4, 1, 4, 1, .rov, 0x0, 0xFFFFFFFF, []⟩,
   ⟨0x8000C0, 1, 4, 1, .wo, 0x0, 0x7FFF, []⟩,
   ⟨0x8000C4, 1, 4, 1, .rw, 0x0, 0xFFFFFFFF, []⟩,
   ⟨0x8000C8, 1, 4, 1, .rw, 0x0, 0xFFFFFFF, []⟩,
   ⟨0x8000CC, 1, 4, 1, .rov, 0x0, 0xFFFFFFFF, []⟩,
   ⟨0x801000, 4, 128, 32, .rwl, 0x0, 0xFFFFFFFF, []⟩,
   ⟨0x820000, 4096, 16, 1, .ro, 0x0, 0xFFFFFFFF, []⟩,
   ⟨0x820004, 4096, 16, 1, .rov, 0x0, 0xFFFFFFFF, []⟩,
   ⟨0x820008, 4096, 16, 1, .rov, 0x0, 0xFFFFFFFF, []⟩]

/-- Rows of the register index of TAC. -/
def regDefsTAC2 : List RegDef :=
  [⟨0x82000C, 4096, 16, 1, .ro, 0x0, 0xFFFFFFFF, []⟩]

/-- The register index of TAC. -/
def regDefsTAC : List RegDef := regDefsTAC0 ++ regDefsTAC1 ++ regDefsTAC2

/-- Rows of the register index of FLD. -/
def regDefsFLD0 : List RegDef :=
  [⟨0x900000, 1, 4, 1, .rwl, 0x7, 0x7, []⟩,
   ⟨0x900004, 1, 4, 1, .rov, 0x0, 0xFFFFFFFF, []⟩,
   ⟨0x900010, 1, 4, 1, .rwl, 0x0, 0xFFFFFFFF, [.mult 0 32 268435456]⟩,
   ⟨0x900014, 1, 4, 1, .rwl, 0x0, 0xFFFF, []⟩,
   ⟨0x900018, 1, 4, 1, .rwl, 0x0, 0xFFFFFFFF, [.mult 0 32 8388608]⟩,
   ⟨0x90001C, 1, 4, 1, .rwl, 0x0, 0xFFFF, []⟩,
   ⟨0x900020, 1, 4, 1, .rwl, 0x9903012C, 0xFFFFFFFF, []⟩,
   ⟨0x900024, 1, 4, 1, .rwl, 0x7D000C8, 0xFFFFFFFF, []⟩,
   ⟨0x900028, 1, 4, 1, .rwl, 0x801A003C, 0xFFFFFFFF, []⟩,
   ⟨0x90002C, 1, 4, 1, .rwl, 0x100, 0xFFFFFFFF, [.range 0 32 1 4096]⟩,
   ⟨0x900030, 1, 4, 1, .rwl, 0xFA, 0xFFFFFFFF, [.range 0 32 1 1000]⟩,
   ⟨0x900034, 1, 4, 1, .rwl, 0x8, 0xFFFFFFFF, [.range 0 32 1 32]⟩,
   ⟨0x900038, 1, 4, 1, .rwl, 0x1000, 0xFFFFFFFF, [.range 0 32 1 65535]⟩,
   ⟨0x90003C, 1, 4, 1, .rwl, 0x2510, 0xFFFF, [.range 8 4 2 15]⟩,
   ⟨0x900040, 1, 4, 1, .rwl, 0x41008E6, 0xFFFFFFFF, []⟩,
   ⟨0x900044, 1, 4, 1, .rwl, 0x7D00064, 0xFFFFFFFF, []⟩,
   ⟨0x900048, 1, 4, 1, .rwl, 0x19, 0xFF, [.range 0 8 1 100]⟩,
   ⟨0x90004C, 1, 4, 1, .rwl, 0x326666, 0xFFFFFFFF, []⟩,
   ⟨0x900050, 8, 16, 1, .rwl, 0x0, 0xFFFFFFFF, []⟩,
   ⟨0x900054, 8, 16, 1, .rwl, 0x0, 0xFFFF, []⟩]

/-- Rows of the register index of FLD. -/
def regDefsFLD1 : List RegDef :=
  [⟨0x900058, 8, 16, 1, .rwl, 0x0, 0xFFFFFFFF, []⟩,
   ⟨0x90005C, 8, 16, 1, .rwl, 0x0, 0xFFFFFFFF, []⟩,
   ⟨0x9000D0, 16, 4, 1, .rwl, 0xFFFF, 0xFFFF, []⟩,
   ⟨0x900110, 1, 4, 1, .rwl, 0x1000, 0xFFFFFFFF, [.range 0 32 1 65535]⟩,
   ⟨0x900120, 1, 4, 1, .rov, 0x0, 0xFFFFFFFF, []⟩,
   ⟨0x900124, 1, 4, 1, .rov, 0x0, 0xFFFFFFFF, []⟩,
   ⟨0x900128, 1, 4, 1, .rov, 0x0, 0xFFFFFFFF, []⟩,
   ⟨0x90012C, 1, 4, 1, .rov, 0x0, 0xFFFFFFFF, []⟩,
   ⟨0x900130, 1, 4, 1, .rov, 0x0, 0xFFFFFFFF, []⟩,
   ⟨0x900134, 1, 4, 1, .rov, 0x0, 0xFFFFFFFF, []⟩,
   ⟨0x900138, 1, 4, 1, .rov, 0x0, 0xFFFFFFFF, []⟩,
   ⟨0x90013C, 1, 4, 1, .rov, 0x0, 0xFFFFFFFF, []⟩,
   ⟨0x900140, 1, 4, 1, .rov, 0x0, 0xFFFFFFFF, []⟩,
   ⟨0x900144, 1, 4, 1, .rov, 0x0, 0xFFFFFFFF, []⟩,
   ⟨0x900148, 1, 4, 1, .rov, 0x0, 0xFFFFFFFF, []⟩,
   ⟨0x90014C, 1, 4, 1, .rov, 0x0, 0xFFFFFFFF, []⟩,
   ⟨0x900150, 1, 4, 1, .rov, 0x0, 0xFFFFFFFF, []⟩,
   ⟨0x900154, 1, 4, 1, .rws, 0x0, 0xFFFFFFFF, []⟩,
   ⟨0x900158, 1, 4, 1, .rov, 0x0, 0xFFFFFFFF, []⟩,
   ⟨0x900160, 1, 4, 1, .rov, 0x0, 0xFFFFFFFF, []⟩]

/-- Rows of the register index of FLD. -/
def regDefsFLD2 : List RegDef :=
  [⟨0x900164, 1, 4, 1, .rov, 0x0, 0xFFFFFFFF, []⟩,
   ⟨0x900168, 1, 4, 1, .rov, 0x0, 0xFFFFFFFF, []⟩,
   ⟨0x900180, 1, 4, 1, .wo, 0x0, 0x7FFFFF, []⟩,
   ⟨0x900184, 1, 4, 1, .rov, 0x0, 0xFFFFFFFF, []⟩,
   ⟨0x900800, 3, 32, 8, .ro, 0x0, 0xFFFFFFFF, []⟩,
   ⟨0x901000, 256, 4, 1, .rov, 0x0, 0xFFFFFFFF, []⟩,
   ⟨0x910000, 32768, 4, 1, .rov, 0x0, 0xFFFFFFFF, []⟩]

/-- The register index of FLD. -/
def regDefsFLD : List RegDef := regDefsFLD0 ++ regDefsFLD1 ++ regDefsFLD2

/-- Rows of the register index of BSE. -/
def regDefsBSE0 : List RegDef :=
  [⟨0xA00000, 1, 4, 1, .rwl, 0x1, 0x1, []⟩,
   ⟨0xA00004, 1, 4, 1, .rov, 0x0, 0xFFFFFFFF, []⟩,
   ⟨0xA00008, 1, 4, 1, .rov, 0x0, 0xFFFFFFFF, []⟩,
   ⟨0xA00010, 1, 4, 1, .rov, 0x0, 0xFFFFFFFF, []⟩,
   ⟨0xA00014, 1, 4, 1, .rov, 0x0, 0xFFFFFFFF, []⟩,
   ⟨0xA00018, 1, 4, 1, .rov, 0x0, 0xFFFFFFFF, []⟩,
   ⟨0xA0001C, 1, 4, 1, .rov, 0x0, 0xFFFFFFFF, []⟩,
   ⟨0xA00020, 1, 4, 1, .rov, 0x0, 0xFFFFFFFF, []⟩,
   ⟨0xA00024, 1, 4, 1, .rov, 0x0, 0xFFFFFFFF, []⟩,
   ⟨0xA00028, 1, 4, 1, .rov, 0x0, 0xFFFFFFFF, []⟩,
   ⟨0xA0002C, 1, 4, 1, .rov, 0x0, 0xFFFFFFFF, []⟩,
   ⟨0xA00030, 1, 4, 1, .rws, 0x0, 0xFFFFFFFF, []⟩,
   ⟨0xA00034, 1, 4, 1, .rws, 0x0, 0xFFFFFFFF, []⟩,
   ⟨0xA00038, 1, 4, 1, .wo, 0x0, 0x31F, []⟩,
   ⟨0xA0003C, 1, 4, 1, .rov, 0x0, 0xFFFFFFFF, []⟩,
   ⟨0xA00040, 1, 4, 1, .ro, 0x0, 0xFFFFFFFF, []⟩,
   ⟨0xA00050, 1, 4, 1, .rov, 0x0, 0xFFFFFFFF, []⟩,
   ⟨0xA00080, 1, 64, 16, .rw, 0x0, 0xFFFFFFFF, []⟩,
   ⟨0xA000C0, 1, 4, 1, .wo, 0x0, 0x1, []⟩,
   ⟨0xA000C4, 1, 4, 1, .rov, 0x0, 0xFFFFFFFF, []⟩]

/-- The register index of BSE. -/
def regDefsBSE : List RegDef := regDefsBSE0

/-- Rows of the register index of CSQ. -/
def regDefsCSQ0 : List RegDef :=
  [⟨0xB00000, 1, 4, 1, .rw, 0xE, 0xF, []⟩,
   ⟨0xB00004, 1, 4, 1, .rov, 0x0, 0xFFFFFFFF, []⟩,
   ⟨0xB00008, 1, 4, 1, .rov, 0x0, 0xFFFFFFFF, []⟩,
   ⟨0xB0000C, 1, 4, 1, .rov, 0x0, 0xFFFFFFFF, []⟩,
   ⟨0xB00010, 1, 16, 4, .rwl, 0x0, 0xFFFFFFFF, []⟩,
   ⟨0xB00020, 1, 4, 1, .rov, 0x0, 0xFFFFFFFF, []⟩,
   ⟨0xB00024, 1, 4, 1, .rov, 0x0, 0xFFFFFFFF, []⟩,
   ⟨0xB00028, 1, 4, 1, .wo, 0x0, 0x3, []⟩,
   ⟨0xB0002C, 1, 4, 1, .rov, 0x0, 0xFFFFFFFF, []⟩,
   ⟨0xB00030, 1, 4, 1, .rov, 0x0, 0xFFFFFFFF, []⟩,
   ⟨0xB00040, 1, 16, 1, .rwl, 0xFFFFFD44, 0xFFFFFFFF, []⟩,
   ⟨0xB00050, 1, 16, 1, .rwl, 0xFFFFFDF8, 0xFFFFFFFF, []⟩,
   ⟨0xB00060, 1, 16, 1, .rwl, 0xFFFFFF24, 0xFFFFFFFF, []⟩,
   ⟨0xB00070, 1, 16, 1, .rwl, 0xFFFFFFA6, 0xFFFFFFFF, []⟩,
   ⟨0xB00080, 1, 16, 1, .rwl, 0xFFFFFFEC, 0xFFFFFFFF, []⟩,
   ⟨0xB00044, 1, 16, 1, .rwl, 0xFFFFFDF8, 0xFFFFFFFF, []⟩,
   ⟨0xB00054, 1, 16, 1, .rwl, 0xFFFFFF24, 0xFFFFFFFF, []⟩,
   ⟨0xB00064, 1, 16, 1, .rwl, 0xFFFFFFA6, 0xFFFFFFFF, []⟩,
   ⟨0xB00074, 1, 16, 1, .rwl, 0xFFFFFFEC, 0xFFFFFFFF, []⟩,
   ⟨0xB00084, 1, 16, 1, .rwl, 0x0, 0xFFFFFFFF, []⟩]

/-- Rows of the register index of CSQ. -/
def regDefsCSQ1 : List RegDef :=
  [⟨0xB00048, 1, 16, 1, .rwl, 0x5, 0xFFFFFFFF, []⟩,
   ⟨0xB00058, 1, 16, 1, .rwl, 0xA, 0xFFFFFFFF, []⟩,
   ⟨0xB00068, 1, 16, 1, .rwl, 0x5, 0xFFFFFFFF, []⟩,
   ⟨0xB00078, 1, 16, 1, .rwl, 0xA, 0xFFFFFFFF, []⟩,
   ⟨0xB00088, 1, 16, 1, .rwl, 0x2, 0xFFFFFFFF, []⟩,
   ⟨0xB0004C, 5, 16, 1, .rov, 0x0, 0xFFFFFFFF, []⟩,
   ⟨0xB00100, 1, 4, 1, .rwl, 0x0, 0xFFFFFFFF, [.mult 0 32 4096]⟩,
   ⟨0xB00104, 1, 4, 1, .rwl, 0x0, 0xFFFF, []⟩,
   ⟨0xB00108, 1, 4, 1, .rwl, 0x10, 0xFFFFFFFF, [.range 0 32 2 64]⟩,
   ⟨0xB0010C, 1, 4, 1, .ro, 0x0, 0xFFFFFFFF, []⟩,
   ⟨0xB00110, 1, 4, 1, .rov, 0x0, 0xFFFFFFFF, []⟩,
   ⟨0xB00114, 1, 4, 1, .rw, 0x0, 0xFFFFFFFF, []⟩,
   ⟨0xB00118, 1, 4, 1, .rov, 0x0, 0xFFFFFFFF, []⟩,
   ⟨0xB0011C, 1, 4, 1, .rov, 0x0, 0xFFFFFFFF, []⟩,
   ⟨0xB00140, 1, 4, 1, .rwl, 0x59, 0x7007F7F, [.range 0 7 1 89, .range 8 4 0 11]⟩,
   ⟨0xB00144, 1, 4, 1, .rwl, 0x0, 0xFFF, []⟩,
   ⟨0xB00148, 1, 4, 1, .rwl, 0x0, 0xFFFFFFFF, []⟩,
   ⟨0xB0014C, 1, 4, 1, .rwl, 0x0, 0xFFFF, []⟩,
   ⟨0xB00150, 1, 4, 1, .rwl, 0x0, 0xFFFFFFFF, []⟩,
   ⟨0xB00154, 1, 4, 1, .rwl, 0x0, 0xFFFFFFFF, []⟩]

/-- Rows of the register index of CSQ. -/
def regDefsCSQ2 : List RegDef :=
  [⟨0xB00158, 1, 4, 1, .rwl, 0x0, 0xFFFFFFFF, []⟩,
   ⟨0xB0015C, 1, 4, 1, .rov, 0x0, 0xFFFFFFFF, []⟩,
   ⟨0xB00160, 1, 4, 1, .rov, 0x0, 0xFFFFFFFF, []⟩,
   ⟨0xB00180, 1, 4, 1, .rov, 0x0, 0xFFFFFFFF, []⟩,
   ⟨0xB00188, 1, 4, 1, .rov, 0x0, 0xFFFFFFFF, []⟩,
   ⟨0xB0018C, 1, 4, 1, .rov, 0x0, 0xFFFFFFFF, []⟩,
   ⟨0xB00190, 1, 4, 1, .rov, 0x0, 0xFFFFFFFF, []⟩,
   ⟨0xB00194, 1, 4, 1, .w1c, 0x0, 0x1, []⟩,
   ⟨0xB00198, 1, 4, 1, .rov, 0x0, 0xFFFFFFFF, []⟩,
   ⟨0xB001A0, 3, 4, 1, .rov, 0x0, 0xFFFFFFFF, []⟩,
   ⟨0xB001B0, 1, 4, 1, .rov, 0x0, 0xFFFFFFFF, []⟩,
   ⟨0xB001B4, 1, 4, 1, .rov, 0x0, 0xFFFFFFFF, []⟩,
   ⟨0xB00200, 1, 256, 64, .rov, 0x0, 0xFFFFFFFF, []⟩]

/-- The register index of CSQ. -/
def regDefsCSQ : List RegDef := regDefsCSQ0 ++ regDefsCSQ1 ++ regDefsCSQ2

/-- Rows of the register index of LTH. -/
def regDefsLTH0 : List RegDef :=
  [⟨0xC00000, 1, 4, 1, .wo, 0x0, 0x7, []⟩,
   ⟨0xC00004, 1, 4, 1, .rov, 0x0, 0xFFFFFFFF, []⟩,
   ⟨0xC00008, 1, 4, 1, .rov, 0x0, 0xFFFFFFFF, []⟩,
   ⟨0xC00010, 1, 4, 1, .rw, 0x0, 0xFFFFFFFF, []⟩,
   ⟨0xC00014, 1, 4, 1, .rw, 0x0, 0xFFFF, []⟩,
   ⟨0xC00018, 1, 4, 1, .rw, 0x0, 0xFFFFFFFF, []⟩,
   ⟨0xC00020, 1, 4, 1, .rov, 0x0, 0xFFFFFFFF, []⟩,
   ⟨0xC00024, 1, 4, 1, .rov, 0x0, 0xFFFFFFFF, []⟩,
   ⟨0xC00028, 1, 4, 1, .rov, 0x0, 0xFFFFFFFF, []⟩,
   ⟨0xC0002C, 1, 4, 1, .rov, 0x0, 0xFFFFFFFF, []⟩,
   ⟨0xC00030, 1, 4, 1, .ro, 0x0, 0xFFFFFFFF, []⟩,
   ⟨0xC00034, 1, 4, 1, .ro, 0x0, 0xFFFFFFFF, []⟩,
   ⟨0xC00038, 1, 4, 1, .ro, 0x0, 0xFFFFFFFF, []⟩,
   ⟨0xC0003C, 1, 4, 1, .ro, 0x0, 0xFFFFFFFF, []⟩,
   ⟨0xC00040, 1, 4, 1, .ro, 0x0, 0xFFFFFFFF, []⟩,
   ⟨0xC00044, 1, 4, 1, .rov, 0x0, 0xFFFFFFFF, []⟩,
   ⟨0xC00048, 1, 4, 1, .rov, 0x0, 0xFFFFFFFF, []⟩,
   ⟨0xC0004C, 1, 4, 1, .rws, 0x0, 0xFFFFFFFF, []⟩,
   ⟨0xC00050, 1, 48, 12, .rov, 0x0, 0xFFFFFFFF, []⟩,
   ⟨0xC00080, 5, 4, 1, .rov, 0x0, 0xFFFFFFFF, []⟩]

/-- Rows of the register index of LTH. -/
def regDefsLTH1 : List RegDef :=
  [⟨0xC00094, 1, 4, 1, .rov, 0x0, 0xFFFFFFFF, []⟩,
   ⟨0xC00098, 1, 4, 1, .rov, 0x0, 0xFFFFFFFF, []⟩,
   ⟨0xC10000, 4096, 16, 4, .ro, 0x0, 0xFFFFFFFF, []⟩]

/-- The register index of LTH. -/
def regDefsLTH : List RegDef := regDefsLTH0 ++ regDefsLTH1

/-- Rows of the register index of MEM. -/
def regDefsMEM0 : List RegDef :=
  [⟨0xD00000, 1, 4, 1, .rwl, 0x3, 0x3, []⟩,
   ⟨0xD00004, 1, 4, 1, .rov, 0x0, 0xFFFFFFFF, []⟩,
   ⟨0xD00008, 1, 4, 1, .w1c, 0x0, 0x3, []⟩,
   ⟨0xD00010, 1, 4, 1, .rov, 0x0, 0xFFFFFFFF, []⟩,
   ⟨0xD00020, 1, 4, 1, .rwl, 0x5460, 0xFFFFFFFF, [.range 0 32 10 86400]⟩,
   ⟨0xD00024, 1, 4, 1, .rwl, 0x40, 0xFFFF, [.range 0 16 1 65535]⟩,
   ⟨0xD00028, 1, 4, 1, .rov, 0x5460, 0xFFFFFFFF, []⟩,
   ⟨0xD0002C, 1, 4, 1, .rov, 0x0, 0xFFFFFFFF, []⟩,
   ⟨0xD00030, 1, 4, 1, .rov, 0x0, 0xFFFFFFFF, []⟩,
   ⟨0xD00034, 1, 4, 1, .rov, 0x0, 0xFFFFFFFF, []⟩,
   ⟨0xD00040, 1, 4, 1, .rov, 0x0, 0xFFFFFFFF, []⟩,
   ⟨0xD00044, 1, 4, 1, .rov, 0x0, 0xFFFFFFFF, []⟩,
   ⟨0xD00048, 1, 4, 1, .rws, 0x0, 0xFFFFFFFF, []⟩,
   ⟨0xD0004C, 1, 4, 1, .rws, 0x0, 0xFFFFFFFF, []⟩,
   ⟨0xD00050, 1, 4, 1, .rov, 0x0, 0xFFFFFFFF, []⟩,
   ⟨0xD00060, 1, 4, 1, .rov, 0x0, 0xFFFFFFFF, []⟩,
   ⟨0xD00080, 1, 4, 1, .wo, 0x0, 0x7, []⟩,
   ⟨0xD00084, 1, 4, 1, .rov, 0x0, 0xFFFFFFFF, []⟩,
   ⟨0xD00088, 1, 4, 1, .rw, 0x0, 0xFFFFFFFF, []⟩,
   ⟨0xD0008C, 1, 4, 1, .rw, 0x0, 0xFFFFFFFF, []⟩]

/-- Rows of the register index of MEM. -/
def regDefsMEM1 : List RegDef :=
  [⟨0xD00090, 1, 4, 1, .rov, 0x0, 0xFFFFFFFF, []⟩,
   ⟨0xD00094, 1, 4, 1, .rov, 0x0, 0xFFFFFFFF, []⟩,
   ⟨0xD00098, 1, 4, 1, .rw, 0x0, 0x3F, [.range 0 6 0 38]⟩,
   ⟨0xD000A0, 1, 4, 1, .wo, 0x0, 0x10F, []⟩,
   ⟨0xD000A4, 1, 4, 1, .rw, 0x0, 0xFFFFFFFF, []⟩,
   ⟨0xD000A8, 1, 4, 1, .rw, 0x0, 0xFFFF, []⟩,
   ⟨0xD000AC, 1, 4, 1, .rov, 0x0, 0xFFFFFFFF, []⟩,
   ⟨0xD00100, 64, 32, 8, .ro, 0x0, 0xFFFFFFFF, []⟩,
   ⟨0xD02000, 1024, 8, 2, .ro, 0x0, 0xFFFFFFFF, []⟩]

/-- The register index of MEM. -/
def regDefsMEM : List RegDef := regDefsMEM0 ++ regDefsMEM1

/-- Rows of the register index of SAF. -/
def regDefsSAF0 : List RegDef :=
  [⟨0xE00000, 1, 4, 1, .rwl, 0x0, 0x7, [.range 0 2 0 1]⟩,
   ⟨0xE00004, 1, 4, 1, .rov, 0x0, 0xFFFFFFFF, []⟩,
   ⟨0xE00008, 1, 4, 1, .rov, 0x1, 0xFFFF, []⟩,
   ⟨0xE0000C, 1, 4, 1, .w1c, 0x0, 0xFFFF, []⟩,
   ⟨0xE00010, 1, 4, 1, .rov, 0x0, 0xFFFFFFFF, []⟩,
   ⟨0xE00014, 1, 4, 1, .rov, 0x0, 0xFFFFFFFF, []⟩,
   ⟨0xE00018, 1, 4, 1, .rws, 0x0, 0xFFFFFFFF, []⟩,
   ⟨0xE0001C, 1, 4, 1, .wo, 0x0, 0x707, []⟩,
   ⟨0xE00020, 1, 4, 1, .rov, 0x0, 0xFFFFFFFF, []⟩,
   ⟨0xE00024, 1, 4, 1, .rov, 0x4, 0xFFFFFFFF, []⟩,
   ⟨0xE00030, 1, 4, 1, .rwl, 0x3C0200, 0xFFFFFFFF, [.range 0 16 1 512]⟩,
   ⟨0xE00034, 1, 4, 1, .rwl, 0xBB803E8, 0xFFFFFFFF, []⟩,
   ⟨0xE00038, 1, 4, 1, .rwl, 0x5DC, 0xFFFF, []⟩,
   ⟨0xE0003C, 1, 4, 1, .rwl, 0x3A98EA60, 0xFFFFFFFF, []⟩,
   ⟨0xE00040, 1, 4, 1, .rwl, 0x7530, 0xFFFFFFFF, []⟩,
   ⟨0xE00044, 1, 4, 1, .rwl, 0x3E803E8, 0xFFFFFFFF, [.range 0 16 32 65535, .range 16 16 32 65535]⟩,
   ⟨0xE00050, 1, 4, 1, .rwl, 0x1F40503, 0xFFFFFFFF, []⟩,
   ⟨0xE00054, 1, 4, 1, .rwl, 0x935C3, 0xFFFFFFFF, []⟩,
   ⟨0xE00058, 1, 4, 1, .rwl, 0x1F40064, 0xFFFFFFFF, []⟩,
   ⟨0xE0005C, 1, 4, 1, .rov, 0x0, 0xFFFFFFFF, []⟩]

/-- Rows of the register index of SAF. -/
def regDefsSAF1 : List RegDef :=
  [⟨0xE00060, 1, 4, 1, .rov, 0x0, 0xFFFFFFFF, []⟩,
   ⟨0xE00064, 1, 4, 1, .rov, 0x0, 0xFFFFFFFF, []⟩,
   ⟨0xE00070, 1, 4, 1, .rwl, 0x140, 0xFFFF, [.range 0 8 1 64, .range 8 8 1 100]⟩,
   ⟨0xE00074, 1, 4, 1, .rov, 0x0, 0xFFFFFFFF, []⟩,
   ⟨0xE00080, 5, 4, 1, .rov, 0x0, 0xFFFFFFFF, []⟩,
   ⟨0xE000A0, 1, 4, 1, .rws, 0x0, 0xFFFFFFFF, []⟩,
   ⟨0xE000A4, 1, 4, 1, .rws, 0x0, 0xFFFFFFFF, []⟩,
   ⟨0xE000A8, 1, 4, 1, .rov, 0x0, 0xFFFFFFFF, []⟩,
   ⟨0xE000C0, 5, 4, 1, .rov, 0x0, 0xFFFFFFFF, []⟩,
   ⟨0xE00100, 32, 4, 1, .rws, 0x0, 0xFFFFFFFF, []⟩]

/-- The register index of SAF. -/
def regDefsSAF : List RegDef := regDefsSAF0 ++ regDefsSAF1

/-- Rows of the register index of SEC. -/
def regDefsSEC0 : List RegDef :=
  [⟨0xF00000, 1, 4, 1, .rov, 0x0, 0xFFFFFFFF, []⟩,
   ⟨0xF00004, 1, 4, 1, .ro, 0x0, 0xFFFFFFFF, []⟩,
   ⟨0xF00008, 1, 4, 1, .ro, 0x0, 0xFFFFFFFF, []⟩,
   ⟨0xF0000C, 1, 4, 1, .ro, 0x0, 0xFFFFFFFF, []⟩,
   ⟨0xF00010, 1, 4, 1, .wo, 0x0, 0xF, []⟩,
   ⟨0xF00014, 1, 4, 1, .rov, 0x0, 0xFFFFFFFF, []⟩,
   ⟨0xF00018, 1, 4, 1, .rw, 0x0, 0x3FFFF, []⟩,
   ⟨0xF00020, 1, 4, 1, .rw, 0x0, 0xFFFFFFFF, [.mult 0 32 64]⟩,
   ⟨0xF00024, 1, 4, 1, .rw, 0x0, 0xFFFF, []⟩,
   ⟨0xF00040, 1, 32, 8, .rov, 0x0, 0xFFFFFFFF, []⟩,
   ⟨0xF00060, 1, 32, 8, .rw, 0x0, 0xFFFFFFFF, []⟩,
   ⟨0xF00080, 1, 4, 1, .ro, 0x0, 0xFFFFFFFF, []⟩,
   ⟨0xF00084, 1, 4, 1, .ro, 0x0, 0xFFFFFFFF, []⟩,
   ⟨0xF00100, 1, 96, 24, .ro, 0x0, 0xFFFFFFFF, []⟩,
   ⟨0xF00180, 1, 32, 8, .rov, 0x0, 0xFFFFFFFF, []⟩,
   ⟨0xF001A0, 1, 4, 1, .rw, 0x256, 0xFFF, []⟩,
   ⟨0xF001A4, 1, 4, 1, .rov, 0x0, 0xFFFFFFFF, []⟩,
   ⟨0xF001A8, 6, 4, 1, .rws, 0x0, 0xFFFFFFFF, []⟩,
   ⟨0xF001C0, 1, 16, 4, .ro, 0x0, 0xFFFFFFFF, []⟩,
   ⟨0xF001D0, 1, 4, 1, .rws, 0x0, 0xFFFFFFFF, []⟩]

/-- Rows of the register index of SEC. -/
def regDefsSEC1 : List RegDef :=
  [⟨0xF001D4, 1, 4, 1, .rov, 0x0, 0xFFFFFFFF, []⟩]

/-- The register index of SEC. -/
def regDefsSEC : List RegDef := regDefsSEC0 ++ regDefsSEC1

/-- Rows of the register index of SLK. -/
def regDefsSLK0 : List RegDef :=
  [⟨0x1000000, 1, 4, 1, .rwl, 0x0, 0xF, [.range 1 2 0 2]⟩,
   ⟨0x1000004, 1, 4, 1, .rov, 0x0, 0xFFFFFFFF, []⟩,
   ⟨0x1000008, 1, 4, 1, .ro, 0x0, 0xFFFFFFFF, []⟩,
   ⟨0x100000C, 1, 4, 1, .rws, 0x0, 0xFFFFFFFF, []⟩,
   ⟨0x1000010, 1, 4, 1, .rwl, 0x105432, 0xFFFFFF, [.range 0 4 0 5, .range 4 4 0 5, .range 8 4 0 5, .range 12 4 0 5, .range 16 4 0 5, .range 20 4 0 5]⟩,
   ⟨0x1000014, 1, 4, 1, .rwl, 0x300FA, 0xFFFFFF, []⟩,
   ⟨0x1000018, 1, 4, 1, .rwl, 0x641E14, 0xFFFFFFFF, []⟩,
   ⟨0x100001C, 1, 4, 1, .rwl, 0x1770, 0xFFFFFFFF, [.range 0 32 100 10000]⟩,
   ⟨0x1000020, 1, 4, 1, .wo, 0x0, 0x707, []⟩,
   ⟨0x1000024, 1, 4, 1, .rov, 0x0, 0xFFFFFFFF, []⟩,
   ⟨0x1000028, 1, 4, 1, .rov, 0x0, 0xFFFFFFFF, []⟩,
   ⟨0x100002C, 1, 4, 1, .rov, 0x0, 0xFFFFFFFF, []⟩,
   ⟨0x1000030, 1, 4, 1, .rws, 0x0, 0xFFFFFFFF, []⟩,
   ⟨0x1000034, 1, 4, 1, .rov, 0x0, 0xFFFFFFFF, []⟩,
   ⟨0x1000038, 1, 4, 1, .rov, 0x0, 0xFFFFFFFF, []⟩,
   ⟨0x100003C, 1, 4, 1, .rov, 0x0, 0xFFFFFFFF, []⟩,
   ⟨0x1000040, 1, 4, 1, .rov, 0x0, 0xFFFFFFFF, []⟩,
   ⟨0x1000044, 1, 4, 1, .rov, 0x0, 0xFFFFFFFF, []⟩,
   ⟨0x1000048, 1, 4, 1, .rov, 0x0, 0xFFFFFFFF, []⟩,
   ⟨0x100004C, 1, 4, 1, .rov, 0x0, 0xFFFFFFFF, []⟩]

/-- Rows of the register index of SLK. -/
def regDefsSLK1 : List RegDef :=
  [⟨0x1000050, 1, 4, 1, .rwl, 0x0, 0xFFFFFFFF, [.mult 0 32 4096]⟩,
   ⟨0x1000054, 1, 4, 1, .rwl, 0x0, 0xFFFF, []⟩,
   ⟨0x1000058, 1, 4, 1, .rwl, 0x4, 0xFFFFFFFF, [.range 0 32 2 16]⟩,
   ⟨0x100005C, 1, 4, 1, .rov, 0x0, 0xFFFFFFFF, []⟩,
   ⟨0x1000100, 6, 32, 1, .rov, 0x0, 0xFFFFFFFF, []⟩,
   ⟨0x1000104, 6, 32, 1, .rov, 0x0, 0xFFFFFFFF, []⟩,
   ⟨0x1000108, 6, 32, 1, .rov, 0x0, 0xFFFFFFFF, []⟩,
   ⟨0x100010C, 6, 32, 1, .rov, 0x0, 0xFFFFFFFF, []⟩,
   ⟨0x1000110, 6, 32, 1, .rov, 0x0, 0xFFFFFFFF, []⟩,
   ⟨0x1001000, 64, 8, 1, .rov, 0x0, 0xFFFFFFFF, []⟩,
   ⟨0x1001004, 64, 8, 1, .rw, 0x0, 0xFFFFFFFF, []⟩]

/-- The register index of SLK. -/
def regDefsSLK : List RegDef := regDefsSLK0 ++ regDefsSLK1

/-- The register index of the block at BAR0 offset `b` MiB (Table 18.1). -/
def regDefsOf (b : Nat) : List RegDef :=
  match b with
  | 0 => regDefsHIF
  | 1 => regDefsAON
  | 2 => regDefsTBU
  | 3 => regDefsSIC
  | 4 => regDefsPAE
  | 5 => regDefsEGO
  | 6 => regDefsTCA
  | 7 => regDefsDML
  | 8 => regDefsTAC
  | 9 => regDefsFLD
  | 10 => regDefsBSE
  | 11 => regDefsCSQ
  | 12 => regDefsLTH
  | 13 => regDefsMEM
  | 14 => regDefsSAF
  | 15 => regDefsSEC
  | 16 => regDefsSLK
  | _ => []

/-- The row that names a word offset, if any (R717). -/
def regDef? (off : Nat) : Option RegDef := (regDefsOf (off / 0x100000)).find? (·.covers off)

/-- The reset value of the word at a BAR0 offset (R725); a reserved offset reads zero (R717). -/
def resetOf (off : Nat) : W32 :=
  match regDef? off with
  | some d => d.reset
  | none => 0

end Sys2Proof.Machine
end

