-- ==== Sys2Proof/Machine/SMap.lean ====
section
/-! DEFINITION. Machine/SMap.lean: sparse tables as lists of (key, value) with keys strictly rising, so that equal tables are equal data.
Memory (bytes by device address) and the register file (words by BAR0 offset) are such tables with a default value for an unlisted key. -/

namespace Sys2Proof.Machine

/-- A sparse table: keys strictly rising. -/
abbrev SMap (β : Type) := List (Nat × β)

/-- The value listed at a key. -/
def SMap.find? {β : Type} : SMap β → Nat → Option β
  | [], _ => none
  | (j, v) :: m, k => if k = j then some v else SMap.find? m k

/-- The value at a key, or the default of that key. -/
def SMap.get {β : Type} (d : β) (m : SMap β) (k : Nat) : β :=
  match SMap.find? m k with
  | some v => v
  | none => d

/-- List a value at a key, in place of any value listed there. -/
def SMap.insert {β : Type} : SMap β → Nat → β → SMap β
  | [], k, v => [(k, v)]
  | (j, w) :: m, k, v =>
    if k < j then (k, v) :: (j, w) :: m
    else if k = j then (k, v) :: m
    else (j, w) :: SMap.insert m k v

/-- List nothing at a key. -/
def SMap.erase {β : Type} (m : SMap β) (k : Nat) : SMap β := m.filter (fun p => p.1 ≠ k)

/-- Set the value at a key; a value equal to the default is not listed. -/
def SMap.put {β : Type} [DecidableEq β] (d : β) (m : SMap β) (k : Nat) (v : β) : SMap β :=
  if v = d then SMap.erase m k else SMap.insert m k v

/-- Keys strictly rise. -/
def SMap.sorted {β : Type} : SMap β → Bool
  | [] => true
  | [_] => true
  | (j, _) :: (k, v) :: m => decide (j < k) && SMap.sorted ((k, v) :: m)

/-- The canonical form: keys strictly rise and no listed value is its key's default. -/
def SMap.wf {β : Type} [DecidableEq β] (d : Nat → β) (m : SMap β) : Bool :=
  SMap.sorted m && m.all (fun p => p.2 ≠ d p.1)

/-- The listed keys. -/
def SMap.keys {β : Type} (m : SMap β) : List Nat := m.map (·.1)

/-- Change the value listed at a key, if one is. -/
def SMap.modify {β : Type} (m : SMap β) (k : Nat) (f : β → β) : SMap β :=
  m.map (fun p => if p.1 = k then (p.1, f p.2) else p)

end Sys2Proof.Machine
end

