-- ==== Sys2Proof/Machine/State.lean ====
section
/-! DEFINITION. Machine/State.lean: the state of the block as plain data, its reset value, and the ways a step can stop. Every register
lives in `State.regs` (or in the typed table of its block that `regRead` shows in the register's window); the records below hold what the
manual gives the machine beside its registers. The default of each field is its value after reset. -/

namespace Sys2Proof.Machine

/-- Why a step can fault. -/
inductive Fault where
  /-- Raised by nothing in this model: every bus error of the manual is a completion of the access (R37), an effect on State. Safe. -/
  | none
  deriving DecidableEq, Repr

/-- Why a command can be refused by the model (not by the device: those refusals are status codes, R37). -/
inductive Refusal where
  /-- The command has no meaning yet in this model; raised by `exec` only. Safe. -/
  | notModelled (mnemonic : String)
  deriving DecidableEq, Repr

/-- How a host request completes: Successful, Unsupported Request, Completer Abort, or nothing because it was a malformed TLP (R20). -/
inductive Cpl where | sc | ur | ca | malformed
  deriving DecidableEq, Repr, Inhabited

/-- One event raised by a block and on its way to HIF (Table 17.5). -/
structure Evt where
  time : Time
  source : Nat
  sev : Nat
  code : Nat
  status : Nat
  data : List Byte
  deriving DecidableEq, Repr, Inhabited

/-- A Salarur Link frame as the device sends it: type code of Table 14.2, destination device or all, and the payload bytes. -/
structure LinkOut where
  port : Nat
  type : Nat
  src : Nat
  dst : Nat
  epoch : Nat
  lseq : Nat
  step : Nat
  payload : List Byte
  flags : Nat := 0
  deriving DecidableEq, Repr, Inhabited

/-- What the device puts out at its boundary, in order. -/
inductive Out where
  /-- Completion of a host request with its read data. -/
  | host (c : Cpl) (data : List Byte)
  /-- An MSI-X message. -/
  | msix (v : Nat)
  /-- Completion of an on-die transaction at its initiator: ID, status code, read data. -/
  | bus (id : Nat) (status : Nat) (data : List Byte)
  /-- Completion of a command at its issuer: block code, initiator ID, status. -/
  | done (block : Nat) (id : Nat) (status : Nat)
  /-- A frame on a switch port: kind, and its bytes. -/
  | eth (port : Nat) (kind : Nat) (bytes : List Byte)
  /-- A CAN frame of controller 3 (Table 13.7). -/
  | can (bytes : List Byte)
  /-- A frame on a Salarur Link port. -/
  | link (f : LinkOut)
  /-- A delay request, delay response or time block on a Salarur Link port (R71, R601). -/
  | linkTime (port : Nat) (kind : Nat) (a : Nat) (b : Nat)
  /-- A pin edge: PPS_OUT, FLT_N, HB_OUT, WAKE_N by name code 0 to 3. -/
  | pin (p : Nat) (level : Bool)
  /-- A list published on an output (0 ring, 1 controller stream, 2 Publish FIFO, 3 fallback stream). -/
  | list (output : Nat) (step : Nat) (bytes : List Byte)
  /-- An SPI transfer of IMU port n: mode, SCK in kHz, command bytes and response length (R101). -/
  | spi (n : Nat) (mode : Nat) (sck : Nat) (cmd : List Byte) (len : Nat)
  deriving DecidableEq, Repr, Inhabited

/-! ### HIF and AON -/

/-- HIF state beside its registers (Chapter 17). -/
structure Hif where
  /-- events raised and not yet at HIF, oldest first (R707) -/
  wire : List Evt := []
  /-- pending buffer, at most 64 entries (R710) -/
  pend : List Evt := []
  /-- last severity 3 entry, eight words (R709); what a read of HIF_EVT_LAST0 latches -/
  last : List W32 := [0, 0, 0, 0, 0, 0, 0, 0]
  /-- MSI-X vector masks; masked after reset (PCI Express 4.0, log entry 7) -/
  masked : BitVec 64 := 0xFFFFFFFFFFFFFFFF
  /-- MSI-X pending bits (R689, R698) -/
  pba : BitVec 64 := 0
  /-- time of the last EVENT message, for moderation (R698) -/
  lastEvent : Option Time := none
  /-- an EVENT condition waits for the end of the moderation interval (R698) -/
  covered : Bool := false
  /-- PERST_N is low (R683) -/
  perstLow : Bool := true
  /-- PCIe link up (R675, R684) -/
  linkUp : Bool := false
  /-- AER has reported an advisory non-fatal error (R691) -/
  advisory : Bool := false
  /-- time of the last event 0x0004 (Table 17.8) -/
  aerLog : Option Time := none
  deriving DecidableEq, Repr, Inhabited

/-- The power transitions in progress (Table 16.3). -/
inductive PwrTo where | none | standby | idle | sentinel
  deriving DecidableEq, Repr, Inhabited

/-- AON state beside its registers (Chapters 16 and 19). -/
structure Aon where
  /-- supplies present and in range (R669, R735) -/
  supplies : Bool := true
  /-- POR_N is low (R679) -/
  porLow : Bool := true
  /-- start-up has completed: READY (R684) -/
  booting : Bool := true
  /-- time of POR_N release or of the last warm reset, for AON_BOOT_TIME (R684) -/
  bootFrom : Time := 0
  /-- BOOT_SEL as sampled at POR_N release (R637) -/
  bootSel : BitVec 2 := 0
  /-- transition in progress (R669) -/
  pwrTo : PwrTo := .none
  /-- DRAM_KEEP of the last SENTINEL (R674) -/
  dramKeep : Bool := false
  /-- a wake has come while Sentinel was being entered, or waits for the supplies: its source code (R675, R735) -/
  wakePend : Nat := 0
  /-- WAKE_N is low (R675) -/
  wakeLow : Bool := false
  /-- tiles that were ACTIVE on entry to Standby (R670, R672) -/
  wasActive : List Nat := []
  /-- 32.768 kHz oscillator stable (R732) -/
  xtalOk : Bool := false
  /-- time of the last THERMAL_NEAR entry (Table 16.9, rate) -/
  thermalAt : Option Time := none
  deriving DecidableEq, Repr, Inhabited

/-- Facts fixed in the part: grade, stepping and serial number (R1, R688, Table 15.1). -/
structure Part where
  /-- HF9640-I; the A grade otherwise (Table 0.2; log entry 5) -/
  gradeI : Bool := false
  /-- stepping (R688; log entry 5) -/
  stepping : BitVec 8 := 1
  /-- serial number (Table 15.1; log entry 5) -/
  serial : BitVec 64 := 0
  deriving DecidableEq, Repr, Inhabited

/-! ### TBU -/

/-- Per gPTP domain (Table 2.2). -/
structure GptpDom where
  /-- best announced grandmaster (BMCA) -/
  best : Option Announce := none
  /-- the device itself is the selected grandmaster (Table 2.2) -/
  self : Bool := false
  /-- last Sync, or the selection of the grandmaster (R65) -/
  lastSync : Time := 0
  /-- configured logSyncInterval, -5 to 0 (Table 2.2) -/
  logSync : Int := -3
  /-- configured syncReceiptTimeout, 2 to 10 (Table 2.2) -/
  receipt : Nat := 3
  /-- clockClass used when grandmaster capable (Table 2.2; 248 PRESUMED, log entry 8) -/
  clockClass : BitVec 8 := 248
  /-- external port configuration's receiving port, when that mode is chosen (Table 2.2) -/
  extPort : Option Nat := none
  /-- sequence number of the last Sync sent (IEEE 802.1AS) -/
  seq : BitVec 16 := 0
  /-- last Announce received on each switch port, for the port roles (IEEE 802.1AS) -/
  ports : SMap Announce := []
  /-- a Sync of the grandmaster in force has come and has not timed out (R65) -/
  heard : Bool := false
  deriving DecidableEq, Repr, Inhabited

/-- TBU state beside its registers (Chapter 2). -/
structure Tbu where
  /-- device time in 2^-32 ns (R42) -/
  now : Time := 0
  /-- part of a unit of `now` carried from cycle to cycle, in 2^-51 x 10^-9 units -/
  resid : Nat := 0
  /-- frequency adjustment y in 2^-51 ppb (R58) -/
  y : Int := 0
  /-- servo integral I in 2^-51 ppb (R58) -/
  i : Int := 0
  /-- domain A -/
  domA : GptpDom := {}
  /-- domain B -/
  domB : GptpDom := {}
  /-- logPdelayReqInterval, -3 to 3 (Table 2.2) -/
  logPdelay : Int := 0
  /-- meanLinkDelay of switch port q, 2^-32 ns (R46) -/
  linkDelay : SMap Int := []
  /-- time of the last Pdelay_Req sent on switch port q (Table 2.2) -/
  pdelayAt : SMap Time := []
  /-- consecutive samples within TBU_LOCK_LIMIT, up to 4 (R63) -/
  inLock : Nat := 0
  /-- run of agreeing held-back samples, newest first (R64) -/
  held : List Int := []
  /-- consecutive monitored offsets beyond TBU_DOM_LIMIT, up to 3 (R48) -/
  domOver : Nat := 0
  /-- consecutive monitored offsets within TBU_DOM_LIMIT, up to 3 (R48) -/
  domIn : Nat := 0
  /-- the source has delivered a first valid sample since the reset (R747) -/
  first : Bool := false
  /-- last offset of the domain that TBU_DOM_DIFF reports, 2^-32 ns (R47, R75, R748) -/
  domOffset : Int := 0
  /-- start of the present HOLDOVER (R67) -/
  holdFrom : Time := 0
  /-- instant at which R66 last made the monitored domain the working one (R69) -/
  autoAt : Option Time := none
  /-- instant of the last write of WORK_DOM (R69) -/
  domWrite : Option Time := none
  /-- last PPS_IN edge (R75) -/
  lastPps : Option Time := none
  /-- PPS_OUT is high (R74) -/
  ppsHigh : Bool := false
  /-- time PPS_OUT last rose (R74) -/
  ppsRise : Time := 0
  /-- upstream port of the time tree (R71) -/
  up : Option (Fin 6) := none
  /-- downstream ports of the time tree (R71) -/
  down : List (Fin 6) := []
  /-- last time block received (R72) or sent (R71) -/
  lastBlock : Time := 0
  /-- device time the last block received carried (Table 14.8, kind 0x67) -/
  lastSent : Time := 0
  /-- previous EXP of camera stream c, ps (R57) -/
  camExp : SMap Nat := []
  /-- consecutive stale frames of camera stream c (R57) -/
  camStale : SMap Nat := []
  deriving DecidableEq, Repr, Inhabited

/-! ### SIC -/

/-- Slot states (Table 3.7). -/
inductive SlotSt where | unbound | present | silent | quarantined | admitting | excluded
  deriving DecidableEq, Repr, Inhabited

/-- Violation record of a slot or port (R126 to R130). -/
structure VRec where
  /-- steps of the newest violations, newest first, at most 255 (R128) -/
  viols : List Nat := []
  /-- violations since binding, saturating (VIOL_TOTAL) -/
  total : Nat := 0
  /-- step of the last violation entry in the log (R127) -/
  logged : Option Nat := none
  /-- step in which the present hold of its own began (R130) -/
  hold : Option Nat := none
  deriving DecidableEq, Repr, Inhabited

/-- A sensor slot: its SLOTS record (Table 3.16) and what the SIC keeps for it. -/
structure Slot where
  /-- the 128-byte SLOTS record; empty while unbound -/
  record : List Byte := []
  /-- STATE (Table 3.7) -/
  st : SlotSt := .unbound
  /-- RUNTIME flag, set by the SIC (R751) -/
  runtime : Bool := false
  /-- LAST_STEP -/
  lastStep : Nat := 0
  /-- entered QUARANTINED with its port (R129, R130) -/
  byPort : Bool := false
  /-- consecutive consistent samples while ADMITTING (R123) -/
  good : Nat := 0
  /-- patch test of its path passed while ADMITTING (R123) -/
  patchOk : Bool := false
  /-- SEQ of the last judged packet (R109) -/
  seq : Option Nat := none
  /-- SEQ of the last judged partner list of each START_ID the slot has seen (R110) -/
  starts : SMap Nat := []
  /-- time of the last sample received (R115, R124) -/
  lastRx : Time := 0
  /-- time of the last DRDY edge (R103) -/
  drdy : Option Time := none
  /-- instant of the last miss counted since that edge (R103) -/
  missAt : Option Time := none
  /-- sample counter of the last IMU response (R102) -/
  imuCnt : Option Nat := none
  /-- the last DRDY edge came early; its sample is dropped (R103) -/
  early : Bool := false
  deriving DecidableEq, Repr, Inhabited

/-- A camera stream's frame being received (R54, R83, R85). -/
structure CamFrame where
  slot : Nat
  /-- camera stream, when PAE_CAMc names the slot -/
  cam : Option Nat
  /-- Frame Start capture after RX_CORR (R49) -/
  tfs : Time
  lines : Nat := 0
  /-- embedded line count read (R56) -/
  exp : Option Nat := none
  dropped : Bool := false
  deriving DecidableEq, Repr, Inhabited

/-- A CSI-2 (port, virtual channel): its streams differ in data type (R82). -/
structure CamVc where
  /-- a frame is open since the last Frame Start -/
  active : Bool := false
  frames : List CamFrame := []
  /-- line count of the frame before, by slot (R85) -/
  prev : SMap Nat := []
  /-- vertical blanking: a Frame End has come and no Frame Start since (Table 3.10) -/
  blank : Bool := false
  /-- dropping to the next Frame Start (R84) -/
  toFs : Bool := false
  deriving DecidableEq, Repr, Inhabited

/-- What the SIC hands on for a sample: a line, packet, list, message or inertial sample (R80, R277). -/
structure Item where
  slot : Nat
  row : Nat
  time : Time
  bytes : List Byte
  /-- initiator ID under which the port's traffic enters the network (R78, Table 3.1) -/
  id : Nat := 0
  deriving DecidableEq, Repr, Inhabited

/-- What a part's work is counted by (R502). -/
inductive Work where | fixed | updated | pairs | active | compared
  deriving DecidableEq, Repr, Inhabited

/-- A part of a stage or evaluation: its cycle-table entry, its work count, a multiplier, and the units of its engine (R501). -/
structure PartUse where
  part : Nat
  variant : Nat
  work : Work
  n : Nat
  units : Nat
  deriving DecidableEq, Repr, Inhabited

/-- A path under patch test (R134 to R141). -/
structure PatchPath where
  /-- golden patch bytes (PATCH section) -/
  patch : List Byte := []
  /-- golden CRC-32C (R135) -/
  golden : BitVec 32 := 0
  /-- slot of the path; none for the FCU path. A slot bound at run time names its path in PATCH_PATH -/
  slot : Option Nat := none
  /-- longest gap between opportunities, µs, and the cost of the evaluation (R137) -/
  gap : Nat := 0
  cost : List PartUse := []
  /-- start of the last completed test (R136) -/
  lastStart : Time := 0
  /-- test due (R136) -/
  due : Bool := false
  /-- time at which the present test was injected (R134) -/
  injected : Option Time := none
  /-- the patch is in its line buffer or receive buffer, where it stays until its test passes (R141) -/
  inBuf : Bool := false
  /-- step in which the evaluation was last planned (R139) -/
  tried : Option Nat := none
  /-- time at which the injected patch is complete; the manual gives no duration (drawn, log entry 6; R138) -/
  complete : Time := 0
  /-- consecutive deferrals (R140) -/
  defers : Nat := 0
  /-- consecutive mismatches (R142) -/
  bad : Nat := 0
  /-- retest in the next step (R141) -/
  retest : Bool := false
  /-- step of the mismatch -/
  badStep : Nat := 0
  deriving DecidableEq, Repr, Inhabited

/-- A partner template (R121): its SLOTS record of RKIND 2. -/
structure Template where
  /-- the 128-byte SLOTS record -/
  record : List Byte
  deriving DecidableEq, Repr, Inhabited

/-- The log of unadmitted sources (R121, R122): source key, step of its last entries. -/
structure Source where
  mac : BitVec 48
  vlan : BitVec 12
  udp : BitVec 16
  appear : Option Nat := none
  refused : Option Nat := none
  /-- an automatic admission was refused for want of a slot (R121) -/
  waitSlot : Bool := false
  deriving DecidableEq, Repr, Inhabited

/-- A cell of an FCU range image (R144). -/
structure FcuCell where
  range : Nat
  pos : Int × Int × Int
  time : Nat
  deriving DecidableEq, Repr, Inhabited

/-- FCU state of one scanner (R144 to R149). -/
structure Fcu where
  /-- range image, keyed by row x COLS + column -/
  cells : SMap FcuCell := []
  /-- incomplete column intervals (R149) -/
  gaps : List (Nat × Nat) := []
  /-- column of the last point received (R149) -/
  lastCol : Option Nat := none
  /-- a packet was dropped or lost since the last point (R149) -/
  loss : Bool := false
  /-- REV of the revolution being received (R144) -/
  rev : Option Nat := none
  /-- completed revolutions whose clusters are due: REV, cells, incomplete intervals (R147) -/
  ready : List (Nat × SMap FcuCell × List (Nat × Nat)) := []
  deriving DecidableEq, Repr, Inhabited

/-- A signal of a CAN slot: start bit, length, byte order, signedness, scale as signed Q16.16, offset (R99). -/
structure CanSignal where
  start : Nat
  len : Nat
  big : Bool
  signed : Bool
  scale : Int
  offset : Int
  deriving DecidableEq, Repr, Inhabited

/-- The signal table of a CAN slot: the message length its signals need and the signals, at most 32 (R99, R112). -/
structure CanTable where
  len : Nat
  sigs : List CanSignal
  /-- the message is an object message for FLD (R112) -/
  object : Bool
  deriving DecidableEq, Repr, Inhabited

/-- A CAN controller. -/
structure Can where
  /-- bus-off: port stopped (R100) -/
  off : Bool := false
  /-- transmit and receive error counters (R97; ISO 11898-1) -/
  txErr : Nat := 0
  rxErr : Nat := 0
  /-- CAN XL data phase: transceiver mode switching; otherwise error signalling (R97) -/
  xlSwitch : Bool := false
  deriving DecidableEq, Repr, Inhabited

/-- An acceptance filter of a CAN controller: identifier and mask, for CAN XL also SDT, VCID and AF where given, and its slot (R98). -/
structure CanFilter where
  ctl : Nat
  id : BitVec 29
  mask : BitVec 29
  sdt : Option (BitVec 8) := none
  vcid : Option (BitVec 8) := none
  af : Option (BitVec 32) := none
  slot : Nat
  deriving DecidableEq, Repr, Inhabited

/-- A switch port's gate list, MACsec and replication state (R87 to R96). -/
structure SwPort where
  /-- operative gate control list: (gate states, interval in ns) (R88) -/
  gcl : List (BitVec 8 × Nat) := []
  /-- base time of the list: T_0 plus this many cadences (R88) -/
  gclBase : Int := 0
  /-- index of the entry in force -/
  gclIdx : Nat := 0
  /-- end of the entry in force -/
  gclEnd : Time := 0
  /-- open gates, one bit per traffic class -/
  gates : BitVec 8 := 0xFF
  /-- PHY mode given by the SWITCH section (R758) -/
  phy : Bool := false
  /-- speed of that mode, Mb/s (R473) -/
  speed : Nat := 0
  /-- protection required by the port's SecY (R96) -/
  macsecReq : Bool := false
  /-- the SecY's cipher suite has extended packet numbers (R653) -/
  xpn : Bool := true
  /-- SCI of the port's transmit channel, from the switch tables (R652) -/
  sci : Nat := 0
  /-- SQI limit of the image (R93) -/
  sqiLim : Nat := 0
  /-- first step of the present run of steps with SQI below its limit (R93) -/
  sqiFrom : Option Nat := none
  /-- the run has reached 100 steps and has been logged (R93) -/
  sqiBad : Bool := false
  /-- frames waiting for transmission: traffic class and bytes -/
  txq : List (Nat × List Byte) := []
  deriving DecidableEq, Repr, Inhabited

/-- Stream identification (Table 3.3): null (destination MAC and VLAN), source MAC and VLAN, or IP: destination MAC, VLAN, addresses,
protocol and ports, each where given. -/
inductive StreamId where
  | null (dmac : BitVec 48) (vlan : BitVec 12)
  | src (smac : BitVec 48) (vlan : BitVec 12)
  | ip (dmac : BitVec 48) (vlan : BitVec 12) (saddr : Option Nat) (daddr : Option Nat) (proto : Option Nat) (sport : Option Nat)
      (dport : Option Nat)
  deriving DecidableEq, Repr, Inhabited

/-- Sequence generation on egress for a stream (Table 3.3): the next sequence number. -/
structure SeqGen where
  stream : StreamId
  next : BitVec 16 := 0
  deriving DecidableEq, Repr, Inhabited

/-- A stream gate (Table 3.3): the state it has without a list, and its control list of (open, ns) with a base time, from T_0 in cadences. -/
structure StreamGate where
  isOpen : Bool := true
  list : List (Bool × Nat) := []
  base : Int := 0
  deriving DecidableEq, Repr, Inhabited

/-- A frame-replication recovery function (R87, R91): its stream, the port of an individual recovery, and the vector or match algorithm. -/
structure Recov where
  stream : StreamId
  port : Option Nat := none
  vector : Bool := true
  hist : Nat
  last : Option Nat := none
  seen : List Nat := []
  deriving DecidableEq, Repr, Inhabited

/-- A Qci stream filter: the stream it identifies, its maximum SDU, its stream gate, StreamBlockedDueToOversizeFrame, and its two-rate
three-colour flow meter (R87, R90): committed and excess rate in bytes per ms and burst in bytes, and their tokens; both rates 0 for no
meter. -/
structure Qci where
  stream : StreamId
  maxSdu : Nat := 0
  gate : Option Nat := none
  blockOver : Bool := false
  blocked : Bool := false
  cir : Nat := 0
  cbs : Nat := 0
  eir : Nat := 0
  ebs : Nat := 0
  ctok : Nat := 0
  etok : Nat := 0
  last : Time := 0
  deriving DecidableEq, Repr, Inhabited

/-- SIC state beside its registers (Chapter 3). -/
structure Sic where
  /-- sensor slots 0 to 255 (R113) -/
  slots : SMap Slot := []
  /-- violation records by unit code: slots 0 to 255, CSI 256 + p, switch 272 + q, CAN 288 + n, IMU 296 + n, SLK 304 + p -/
  vrec : SMap VRec := []
  /-- held ports by unit code (R129) -/
  heldPorts : List Nat := []
  /-- CSI-2 (port, virtual channel), keyed 16 p + vc -/
  cam : SMap CamVc := []
  /-- partner templates by index (R121) -/
  templates : SMap Template := []
  /-- sources seen and not bound (R121, R122) -/
  sources : List Source := []
  /-- patch paths by index (R134) -/
  paths : SMap PatchPath := []
  /-- switch ports -/
  ports : SMap SwPort := []
  /-- recovery functions (R87) -/
  recov : List Recov := []
  /-- Qci stream filters by index (R87); a run-time allocation adds an entry (R89) -/
  qci : SMap Qci := []
  /-- stream gates by index (R87) -/
  sgates : SMap StreamGate := []
  /-- sequence generation functions (R87) -/
  seqGen : List SeqGen := []
  /-- Qci filters freed this step, available from the next (R89) -/
  qciFreed : List (Nat × Nat) := []
  /-- static filtering entries: (VLAN, destination MAC, ports) (R87) -/
  fdb : List (BitVec 12 × BitVec 48 × List Nat) := []
  /-- FCU per scanner 0 to 15 -/
  fcu : SMap Fcu := []
  /-- ground plane of the image: z = (a x + b y) / 2^30 + d, Q22.10 mm (R145) -/
  ground : Int × Int × Int := (0, 0, 0)
  /-- CAN controllers 0 to 3 -/
  can : SMap Can := []
  /-- CAN signal tables by the address that a slot descriptor's EXT gives (R99, Table 3.8) -/
  canSig : SMap CanTable := []
  /-- samples handed on in the present step, newest first, for DML, EGO and FLD (R80) -/
  items : List Item := []
  /-- CAN acceptance filters, at most 64 a controller (R98) -/
  canFilt : List CanFilter := []
  /-- a patch was forced in the present step, and in the last one (SIC_STATUS [3]) -/
  forced : Bool := false
  forcedLast : Bool := false
  /-- slots whose perception jobs are deferred to the next step (R140) -/
  deferred : List Nat := []
  /-- test-slot time used by evaluations in the present step, ns (R139) -/
  testUsed : Nat := 0
  /-- words of cluster records that wait for room in their crossing FIFO; none marks the flush after a revolution (R148) -/
  fcuOut : List (Option W64) := []
  deriving DecidableEq, Repr, Inhabited

/-! ### PAE and EGO -/

/-- A pose-ring entry (R159). -/
structure Pose where
  time : Nat
  /-- position, Q38.10 mm -/
  pos : Int × Int × Int
  /-- attitude quaternion, Q1.30 -/
  quat : Int × Int × Int × Int
  flags : BitVec 48
  deriving DecidableEq, Repr, Inhabited

/-- A decoded point on its way to PAE (R105, R156). `polar`: ELEV, AZIM, RANGE; otherwise sensor-frame mm. -/
structure Pt where
  slot : Nat
  time : Nat
  polar : Bool
  a : Int
  b : Int
  c : Int
  inten : Nat
  deriving DecidableEq, Repr, Inhabited

/-- A pixel of a depth image with the slot plane (R170). -/
structure Pix where
  depth : Nat
  inten : Nat
  slot : Nat
  deriving DecidableEq, Repr, Inhabited

/-- Calibration of a slot (R178 to R182). -/
structure Cal where
  rot : Int × Int × Int := (0, 0, 0)
  trans : Int × Int × Int := (0, 0, 0)
  /-- STATE of Table 4.4 -/
  st : Nat := 0
  frozen : Bool := false
  /-- accepted estimates, saturating -/
  accepted : Nat := 0
  /-- estimate towards which the correction moves (R179) -/
  target : Option CalEst := none
  /-- OP of a PAE_CAL_CMD that takes effect at the slot's next boundary (R183) -/
  cmd : Option Nat := none
  /-- consecutive estimates beyond a bound, beyond twice a bound, and within the bounds -/
  beyond : Nat := 0
  beyond2 : Nat := 0
  within : Nat := 0
  deriving DecidableEq, Repr, Inhabited

/-- A point written to a destination: its pixel or cell, its depth or height in mm, and DESKEW_EXTRAP (R162, R170, R175). -/
structure Put where
  p : Pt
  key : Nat
  val : Int
  extrap : Bool
  deriving DecidableEq, Repr, Inhabited

/-- An open depth image (R168). -/
structure DepthImg where
  cam : Nat
  /-- t_mid(0) and LINE_PS of the frame record (R55) -/
  tmid : Time
  line : Nat
  /-- t_mid(HEIGHT - 1) (R168) -/
  tlast : Time
  /-- points written, newest first -/
  puts : List Put := []
  /-- corrections in force when it opened (R179) -/
  cal : SMap Cal := []
  deriving DecidableEq, Repr, Inhabited

/-- A grid cell (Table 4.3). -/
structure GridCell where
  zmax : Int := -32768
  zmin : Int := 32767
  count : Nat := 0
  imax : Nat := 0
  tage : Nat := 255
  flags : Nat := 0
  deriving DecidableEq, Repr, Inhabited

/-- An open grid frame (R174). -/
structure GridFrame where
  k : Nat
  tref : Nat
  /-- points written, newest first -/
  puts : List Put := []
  /-- corrections in force when it opened (R179) -/
  cal : SMap Cal := []
  deriving DecidableEq, Repr, Inhabited

/-- PAE state beside its registers (Chapter 4). -/
structure Pae where
  /-- points waiting for projection, oldest first -/
  queue : List Pt := []
  /-- points held for a newer pose entry, with the time each hold began (R162) -/
  held : List (Pt × Time) := []
  /-- points of the last 400 ms, newest first, with DESKEW_EXTRAP: a depth image opens after the first points of its window have come
  (R162, R168) -/
  recent : List (Pt × Bool) := []
  /-- a destination that closed in the present step held an extrapolated point (Table 4.8) -/
  stepExtrap : Bool := false
  /-- open depth images -/
  images : List DepthImg := []
  /-- closed depth images handed to DML, by camera stream (R172) -/
  closed : List DepthImg := []
  /-- open grid frames -/
  grids : List GridFrame := []
  /-- grid frame closed last (R174) -/
  gridDone : Option Nat := none
  /-- calibration by slot (R178) -/
  cal : SMap Cal := []
  /-- scanner slots bound to camera stream c (R168) -/
  bind : SMap (List Nat) := []
  /-- nominal extrinsic of camera stream c (CAMERAS section): nine Q1.30 and three Q22.10 values (R157) -/
  camExt : SMap (List Int) := []
  /-- private patch buffer (R177): results of a path's PATCH points, by path -/
  patchBuf : SMap (List Int) := []
  /-- EGO range image of scanner slot s: cells row x 2048 + column with the sensor-frame point (R186) -/
  range : SMap (SMap (Int × Int × Int)) := []
  deriving DecidableEq, Repr, Inhabited

/-- A keyframe of the smoother: its time and its 15 variables (R184, R187). -/
structure Keyframe where
  time : Time
  vars : List Int
  deriving DecidableEq, Repr, Inhabited

/-- An inertial sample as EGO takes it: its time and six numbers, angular rate in µrad/s and acceleration in mm/s² (R185). -/
structure ImuSample where
  time : Time
  vals : List Int
  deriving DecidableEq, Repr, Inhabited

/-- EGO state beside its registers (Chapter 4). -/
structure Ego where
  /-- pose ring in the miscellaneous buffers, newest first, at most 1,024 entries (R159) -/
  ring : List Pose := []
  /-- smoothed position, velocity, attitude, gyroscope and accelerometer biases (R184) -/
  pos : List Int := [0, 0, 0]
  vel : List Int := [0, 0, 0]
  att : List Int := [0, 0, 0]
  bias : List Int := [0, 0, 0, 0, 0, 0]
  sigmaV : Nat := 0
  /-- time of the latest smoothed keyframe (R189) -/
  smoothed : Time := 0
  /-- IMU samples since the latest smoothed keyframe, newest first (R189) -/
  imu : List ImuSample := []
  /-- angular rate and acceleration at the last inertial sample or keyframe: six numbers (Table 4.6, Table 4.7) -/
  rate : List Int := [0, 0, 0, 0, 0, 0]
  /-- wheel odometry: time, forward speed in mm/s and yaw rate in µrad/s (Table 4.5) -/
  wheel : Option (Time × Int × Int) := none
  /-- keyframes in the smoother, newest first, at most 10 (R187) -/
  kf : List Keyframe := []
  /-- prior left by the marginalised keyframes; after INVALID the last valid state, weak (R187, R191) -/
  prior : List Int := []
  weak : Bool := false
  /-- factors of the keyframes: inertial 0, wheel 1, point to plane 2, flow 3, each with the keyframe's time (Table 4.5) -/
  factors : List (List Int) := []
  /-- range images as they were at the last keyframe (Table 4.5) -/
  scan : SMap (SMap (Int × Int × Int)) := []
  /-- a smoother batch is in flight (R188) -/
  solving : Bool := false
  /-- FLAGS of the last keyframe: IMU, WHEEL, SCAN, VISUAL contributions (Table 4.6) -/
  inputs : BitVec 4 := 0
  /-- HOLD since (R190) -/
  hold : Option Time := none
  /-- INVALID (R190) -/
  invalid : Bool := false
  /-- last smoother solution was shifted (R188) -/
  shifted : Bool := false
  /-- last ego record, 64 bytes (R189); what EGO_LAST_REC latches -/
  record : List Byte := []
  deriving DecidableEq, Repr, Inhabited

/-! ### TCA -/

/-- Tile states (Table 5.8). -/
inductive TileSt where | off | spare | waking | testing | active | dead
  deriving DecidableEq, Repr, Inhabited

/-- A queued tile command: descriptor of Table 5.5 and its issuer's initiator ID. -/
structure TileCmd where
  id : Nat
  desc : List Byte
  /-- order of acceptance over both queues of the tile (SYNC, Table 5.6) -/
  ord : Nat := 0
  deriving DecidableEq, Repr, Inhabited

/-- The command a tile is running, with what it has reached: status codes that apply so far (R40) and whether its work is done. -/
structure TileRun where
  cmd : TileCmd
  q : TileQueue
  codes : List Nat := []
  finished : Bool := false
  deriving DecidableEq, Repr, Inhabited

/-- A tile beside its registers (Chapter 5). -/
structure Tile where
  /-- STATE (Table 5.8) -/
  st : TileSt := .off
  /-- stage queue, 32 descriptors (R217) -/
  stageQ : List TileCmd := []
  /-- background queue, 32 descriptors (R217) -/
  bgQ : List TileCmd := []
  /-- running command (R217) -/
  run : Option TileRun := none
  /-- the signal that the front command of the stage queue, or of the background queue, waits for has been given to it (R272) -/
  stageGo : Bool := false
  bgGo : Bool := false
  /-- WINDOW: clocks enabled for a stage window -/
  window : Bool := false
  /-- commands accepted so far, for their order -/
  nextOrd : Nat := 0
  /-- the heartbeat of the present step has been missed (R229) -/
  missed : Bool := false
  /-- step of the last uncorrectable mismatch (R225) -/
  lastBad : Option Nat := none
  /-- step of the last retry entry in the log (R224) -/
  retryLog : Option Nat := none
  /-- armed injection: the value written (R227) -/
  inj : Option W32 := none
  /-- step of the last FENCED_SPEAKER entry (R232) -/
  fencedLog : Option Nat := none
  /-- stage of the plan that the tile serves, and the plan tile it stands in for (R234, R235) -/
  serves : Option Nat := none
  deriving DecidableEq, Repr, Inhabited

/-- A swap in progress (Table 5.9). -/
structure Swap where
  dead : Nat
  spare : Nat
  /-- 0 spare waking, 1 testing, 2 tested and granted, 3 loaded, 4 in the plan (Table 5.9) -/
  phase : Nat := 0
  deriving DecidableEq, Repr, Inhabited

/-- TCA state beside its registers (Chapter 5). -/
structure Tca where
  /-- tiles 0 to 33 -/
  tiles : SMap Tile := []
  /-- swap in progress (R235) -/
  swap : Option Swap := none
  /-- dead tiles waiting for a spare, ascending (R238) -/
  waiting : List Nat := []
  /-- plan tile n is served by another tile after a completed swap: (n, tile) (R235) -/
  subst : List (Nat × Nat) := []
  /-- stages on their short plan (R234) -/
  short : List Nat := []
  /-- offline BIST in progress (R239) -/
  bist : Option Nat := none
  /-- NO_SPARE condition (R237) -/
  noSpare : Bool := false
  /-- tiles whose image DML loads again at the next RUN (R682) -/
  reload : List Nat := []
  deriving DecidableEq, Repr, Inhabited

/-! ### DML -/

/-- A tensor descriptor in use (Table 6.1): its 64 bytes, references held, and RETIRING (R292). -/
structure Desc where
  bytes : List Byte
  refs : Nat := 0
  retiring : Bool := false
  deriving DecidableEq, Repr, Inhabited

/-- Who waits on a signal (R272, R274). -/
inductive Waiter where
  | tile (t : Nat) (q : TileQueue)
  | chan (n : Nat)
  | set (n : Nat)
  /-- a solver batch, by its order of acceptance -/
  | batch (seq : Nat)
  deriving DecidableEq, Repr, Inhabited

/-- A wait for `n` on a signal. -/
structure SigWait where
  id : Nat
  sig : Nat
  n : Nat
  who : Waiter
  deriving DecidableEq, Repr, Inhabited

/-- A streaming set beside its registers (R276 to R282). -/
structure StreamSet where
  /-- ingress queue, at most 8 items (R277) -/
  queue : List Item := []
  /-- running transfer: its trigger time and its item -/
  run : Option (Time × Option Item) := none
  /-- next destination row for items that are not camera lines (R277) -/
  row : Nat := 0
  /-- step of the last 0x0702 entry (R282) -/
  lateLog : Option Nat := none
  /-- the signal the set waits for has been given to it, at this time (R272) -/
  trig : Option Time := none
  /-- last step whose STEP trigger has come -/
  lastStep : Option Nat := none
  deriving DecidableEq, Repr, Inhabited

/-- A program channel beside its registers (R283 to R290). -/
structure Chan where
  /-- the validated program, 32 bytes an instruction -/
  prog : List (List Byte) := []
  /-- index of the next instruction -/
  pc : Nat := 0
  /-- loop registers L0 to L3 -/
  loops : List Nat := [0, 0, 0, 0]
  /-- MOVEs in flight, oldest first: instruction bytes and the loop value used (R287) -/
  moves : List (List Byte × Nat) := []
  /-- waiting on a signal since (R288) -/
  wait : Option Time := none
  /-- status codes that apply so far (R289) -/
  codes : List Nat := []
  /-- a MOVE failed with this status; the program ends when the others are complete (R288) -/
  failed : Option Nat := none
  deriving DecidableEq, Repr, Inhabited

/-- DML state beside its registers (Chapter 6). -/
structure Dml where
  /-- descriptors in use by handle (R245) -/
  descs : SMap Desc := []
  /-- waits on signals (R272) -/
  waits : List SigWait := []
  /-- streaming sets 0 to 15 -/
  sets : SMap StreamSet := []
  /-- program channels 0 to 15 -/
  chans : SMap Chan := []
  /-- owner of channel n: 0x0C0 host, 0x065 CSQ (R283) -/
  owner : SMap Nat := []
  /-- signal ranges granted: (initiator ID, first, last) (R273) -/
  ranges : List (Nat × Nat × Nat) := []
  /-- step of the last 0x0701 entry (R275) -/
  ovfLog : Option Nat := none
  /-- an ingress queue was full, or a set abandoned a transfer, in the present step; DML_STATUS shows the last step (Table 6.4) -/
  stepFull : Bool := false
  stepLate : Bool := false
  deriving DecidableEq, Repr, Inhabited

/-! ### TAC -/

/-- A walk in progress (R327): its sequence, the version and block it references, its tile, and the batch entries it staged. -/
structure Walk where
  slot : Nat
  version : Nat
  block : Nat
  tile : Nat
  ahead : Bool
  /-- the step it serves -/
  step : Nat := 0
  /-- addresses of the entries staged, oldest first, the new ones last -/
  staged : List Nat
  /-- new entries of this step among them -/
  new : Nat
  /-- walk record of Table 7.8 -/
  record : List Byte
  deriving DecidableEq, Repr, Inhabited

/-- What an edit removed, on the retire list under the old version (R326): block and pages (address, size code). -/
structure Retire where
  slot : Nat
  flock : Nat
  version : Nat
  block : Nat
  pages : List (Nat × Nat)
  deriving DecidableEq, Repr, Inhabited

/-- A sequence whose new entries wait for their ATTEND (R313): entry addresses, and the decode batch it is in. -/
structure NewEnt where
  slot : Nat
  addrs : List Nat
  deriving DecidableEq, Repr, Inhabited

/-- A page-table command that waits for a free block (R304, R356). -/
structure PgtWait where
  id : Nat
  slot : Nat
  op : Nat
  arg : Nat
  deriving DecidableEq, Repr, Inhabited

/-- TAC state beside its registers and its tables in DRAM (Chapter 7). -/
structure Tac where
  /-- free space of the page pool: disjoint intervals (first unit, length) of 512 B units, rising; the buddies follow from it (R303) -/
  free : List (Nat × Nat) := []
  /-- free blocks of the page-table block pool: intervals of 256 B blocks (R304) -/
  blocks : List (Nat × Nat) := []
  /-- retire lists (R326, R327) -/
  retire : List Retire := []
  /-- walks in progress, at most 1,024 (R329) -/
  walks : List Walk := []
  /-- walks ended whose ATTEND is with a tile: slot, tile, ahead (R327) -/
  decoding : List (Nat × Nat × Bool) := []
  /-- entries appended in the step and not yet VALID (R313) -/
  new : List NewEnt := []
  /-- appends of the present step by sequence (R312) -/
  appends : SMap Nat := []
  /-- pages in the track cache: DRAM address, size code, sequence, step of the last walk (R343, R344) -/
  cache : List (Nat × Nat × Nat × Nat) := []
  /-- RECLAIMED notices for FLD (R323) -/
  notices : List Nat := []
  /-- the reclaimer runs until free space reaches HIGH (R322) -/
  reclaiming : Bool := false
  /-- page-table commands waiting for a block (R304) -/
  waits : List PgtWait := []
  /-- flocks logged with 0x0802 while OVER_QUOTA (R351) -/
  stuck : List Nat := []
  /-- published step after which the reclaimer last ran (R322) -/
  reclaimed : Option Nat := none
  /-- in the present step: an append starved, a hole was made, 64 B units streamed; the registers show the last step (Table 7.12) -/
  stepStarved : Bool := false
  stepHole : Bool := false
  stepStream : Nat := 0
  deriving DecidableEq, Repr, Inhabited

/-! ### FLD -/

/-- A detection in the intake: the 128 bytes of Table 8.2 and its ready instant (R23). -/
structure Det where
  bytes : List Byte
  ready : Time
  /-- BORDER detection forwarded or held for a claim: origin device and step received (R624, R625) -/
  border : Option (Nat × Nat) := none
  /-- carries its LEVEL from a partner list (R111) -/
  level : Nat := 4
  /-- forwarded by another device of the drove (R624) -/
  fwd : Bool := false
  deriving DecidableEq, Repr, Inhabited

/-- A pair chosen by association: detection index in the step's list, Fold slot (R384). -/
structure Pair where
  det : Nat
  slot : Nat
  deriving DecidableEq, Repr, Inhabited

/-- A track command of the host waiting for C_i (R367). -/
inductive TrackCmd where
  | kill (slot : Nat)
  | clear (sensor : Nat)
  deriving DecidableEq, Repr, Inhabited

/-- FLD state beside its registers and the Fold in DRAM (Chapter 8). -/
structure Fld where
  /-- detections ready and not yet assigned to a step, oldest first (R22, R23) -/
  intake : List Det := []
  /-- measurements of the present step, fixed at C_i (R22) -/
  step : List Det := []
  /-- host commands received since the last cut-off (R367) -/
  cmds : List TrackCmd := []
  /-- measurement models that have a gate entry in the applied image (R362, R402) -/
  gates : List Nat := []
  /-- generation last used by Fold slot n (R372) -/
  gens : SMap Nat := []
  /-- Fold slots never used yet start here (R372) -/
  freeNext : Nat := 0
  /-- freed Fold slots, oldest first (R372) -/
  freed : List Nat := []
  /-- pairs applied in the present step (R384) -/
  pairs : List Pair := []
  /-- detections of the step unassigned after assignment (R372) -/
  unassigned : List Nat := []
  /-- tracks that re-identification matched in the step, born tracks: (slot, detection) (R372, R373) -/
  born : List Pair := []
  /-- lateness of the last 1,024 measurements by sensor slot, newest first (R391) -/
  late : SMap (List Bool) := []
  /-- CRED by sensor slot where below 255 (R395) -/
  cred : SMap Nat := []
  /-- detection EXIST that overrides a CONTESTED track's EXIST this step, by Fold slot (R393) -/
  contest : SMap Nat := []
  /-- last step in which sensor slot s was associated with a track: (s, TRACK_ID, step) (R394) -/
  seen : List (Nat × Nat × Nat) := []
  /-- contradicting pairs counted in the present step (R393) -/
  pairHit : List (Nat × Nat) := []
  /-- coverage cells UNRESOLVED in the present step (R396) -/
  unresolved : List Nat := []
  /-- STATE_TIME of a record, NS64, by Fold slot (R360) -/
  stateT : SMap Nat := []
  /-- time of the last measurement of a modality, NS64, by 4 x Fold slot + MODMASK bit (Table 8.1) -/
  mods : SMap Nat := []
  /-- step of the last CONTRA_DECAY (R393) -/
  decayAt : Nat := 0
  /-- time the present state was entered, by Fold slot (R366) -/
  entered : SMap Nat := []
  /-- slots logged with 0x0902 in the present step (R389) -/
  lateLog : List Nat := []
  /-- filtered lists for the seal: Fold slots in published order, and NPASSED, for outputs 0 to 2 (R398 to R401) -/
  lists : List (List Nat × Nat) := []
  deriving DecidableEq, Repr, Inhabited

/-! ### BSE -/

/-- What a problem has come to (R432): waiting, on a lane, or ended with a status code and its result header. -/
inductive ProbSt where
  | waiting
  | running (lane : Nat)
  | ended (status : Nat)
  deriving DecidableEq, Repr, Inhabited

/-- An accepted batch: descriptor of Table 9.1, submitter, tag, acceptance time and the state of each problem. -/
structure Batch where
  desc : List Byte
  id : Nat
  tag : Nat
  probs : List ProbSt
  /-- accepted order -/
  seq : Nat
  /-- its cut-off has passed (R424) -/
  cut : Bool := false
  /-- it has been given the signal it waits for (Table 9.1) -/
  go : Bool := false
  deriving DecidableEq, Repr, Inhabited

/-- A solver lane: what it runs, its last mismatch step, and its armed injection (R435, R436). -/
structure Lane where
  run : Option (Nat × Nat) := none
  lastBad : Option Nat := none
  inj : Option Nat := none
  deriving DecidableEq, Repr, Inhabited

/-- BSE state beside its registers (Chapter 9). Solver SRAM holds the four tables of the image. -/
structure Bse where
  /-- queued batches in order of acceptance, at most 8 (R407) -/
  batches : List Batch := []
  /-- tag of the next batch (BSE_SUBMIT_ST) -/
  nextTag : Nat := 0
  /-- batches accepted so far, for order -/
  accepted : Nat := 0
  /-- lanes 0 to 31 -/
  lanes : SMap Lane := []
  /-- program headers and operation entries by index (Table 9.3) -/
  progs : SMap (List Byte) := []
  /-- pattern table: 128-byte masks (R419) -/
  patterns : SMap (List Byte) := []
  /-- order table: 32-byte permutations (R419) -/
  orders : SMap (List Byte) := []
  /-- transition matrices row by row: dimension, fraction bits and entries (R425) -/
  trans : SMap (Nat × Nat × List Int) := []
  /-- a problem was shifted, or a doubt reported, in the present step; BSE_STATUS shows the last step (Table 9.10) -/
  stepShift : Bool := false
  stepDoubt : Bool := false
  deriving DecidableEq, Repr, Inhabited

/-! ### CSQ -/

/-- A schedule (R451): cadence and cut-off in µs, and OPEN, CLOSE, MIN of the five windows. -/
structure Sched where
  cadence : Nat
  cutoff : Nat
  win : List (Int × Int × Int)
  deriving DecidableEq, Repr, Inhabited

/-- What CSQ holds of the step it is working on. -/
structure StepSt where
  /-- step number i -/
  i : Nat := 0
  /-- cut off and not yet published -/
  active : Bool := false
  /-- stages opened, closed and completed -/
  opened : List Nat := []
  closed : List Nat := []
  completed : List Nat := []
  /-- a stage reached CLOSE unfinished (R448) -/
  late : Bool := false
  /-- service level of the verdict -/
  level : Nat := 0
  /-- HFLAGS of the verdict: CHECK_DOUBT -/
  checkDoubt : Bool := false
  /-- LIST_FALLBACK (R449) -/
  listFallback : Bool := false
  /-- the lists of the main outputs carry the fallback's tracks (R449, R560) -/
  fb : Bool := false
  /-- tracks to be substituted, with the fallback track that stands in, and tracks UNCONFIRMED (R449) -/
  subst : List (Nat × Nat) := []
  unconf : List Nat := []
  /-- fallback slots of the objects the verdict adds (R569) -/
  added : List Nat := []
  /-- window signals found missing or late: 3 k + 0 OPEN, 1 CLOSE, 2 completion; stages logged with 0x0E03 (R566) -/
  wd : List Nat := []
  wdLog : List Nat := []
  /-- published lists by output: records of Table 10.4, and NPASSED -/
  recs : List (List (List Byte) × Nat) := []
  deriving DecidableEq, Repr, Inhabited

/-- A controller-stream segment queued or in transmission (R474): step, SEG_IDX, bytes, and whether it has started. -/
structure Seg where
  step : Nat
  idx : Nat
  bytes : List Byte
  started : Bool
  deriving DecidableEq, Repr, Inhabited

/-- CSQ state beside its registers (Chapter 10). -/
structure Csq where
  /-- the cycle runs: CSQ_STATUS[0] (R443) -/
  running : Bool := false
  /-- RUN was written 0: the first step that does not run (R443) -/
  stopAt : Option Nat := none
  /-- next step to be cut off -/
  next : Nat := 0
  /-- step whose stages are being run -/
  cur : StepSt := {}
  /-- last step published -/
  pub : Option Nat := none
  /-- T_0 of the grid in force -/
  t0 : Time := 0
  /-- T_0 has been set (CSQ_T0 non-zero) -/
  t0Set : Bool := false
  /-- schedules 0 to 3 of the image -/
  scheds : SMap Sched := []
  /-- schedule in force -/
  sched : Nat := 0
  /-- accepted change: schedule and step k (R451) -/
  change : Option (Nat × Nat) := none
  /-- controller segments queued (R474) -/
  segs : List Seg := []
  /-- step in which the change was accepted (R452) -/
  changeAt : Nat := 0
  /-- coverage table: (cell, xmin, xmax, ymin, ymax, slots) (R396, R458) -/
  coverage : List (Nat × (Int × Int × Int × Int) × List Nat) := []
  /-- SOURCE of the image (Table 10.2) -/
  source : Nat := 0
  deriving DecidableEq, Repr, Inhabited

/-! ### SAF -/

/-- A track of the fallback function (R580 to R583): dead-reckoned frame values, Q22.10 mm, Q22.10 mm/s, µrad. -/
structure FbTrk where
  /-- 1 TENTATIVE, 2 CONFIRMED -/
  st : Nat
  gen : Nat
  x : Int
  y : Int
  speed : Int
  heading : Int
  yawRate : Int
  /-- covariance words of the filter -/
  cov : List Int := []
  born : Nat
  /-- time of the last update, NS64 -/
  last : Nat
  updates : Nat := 1
  /-- revolutions that have given it a cluster: (slot, REV) (R581) -/
  revs : List (Nat × Nat) := []
  modmask : Nat := 0
  /-- cluster extents of the last three updates (R583) -/
  ext : List (Nat × Nat × Nat) := []
  deriving DecidableEq, Repr, Inhabited

/-- A hurdle rule in force (Table 13.5), with the number of its hurdle. -/
structure Rule where
  h : Nat
  idLo : Nat
  idHi : Nat
  kinds : BitVec 3
  base : Nat
  limit : Nat
  deriving DecidableEq, Repr, Inhabited

/-- An island pair (Table 13.1). -/
structure IslPair where
  up : Bool := true
  /-- times it went down, newest first (R557) -/
  downs : List Time := []
  /-- consecutive steps missed as seen by the other pair (R557) -/
  missed : Nat := 0
  /-- step last missed -/
  missStep : Option Nat := none
  /-- stays down until a warm or power-on reset (R557) -/
  stuck : Bool := false
  deriving DecidableEq, Repr, Inhabited

/-- A word of a crossing FIFO with the bits damaged in it since it was written: none, one (corrected) or more (R547, R550). -/
structure FWord where
  w : W64
  err : Nat := 0
  deriving DecidableEq, Repr, Inhabited

/-- A crossing FIFO (R547 to R551): two banks of 128 words. -/
structure XFifo where
  /-- fill bank, oldest first -/
  fill : List FWord := []
  /-- drain bank, oldest first -/
  drain : List FWord := []
  /-- the writer has flushed the fill bank (R548) -/
  flushed : Bool := false
  /-- last value read (R550) -/
  last : W64 := 0
  /-- sticky OVERFLOW bit of the writer (R550) -/
  overflow : Bool := false
  /-- sticky UNDERRUN bit (R550) -/
  underrun : Bool := false
  /-- corrected words, 16 bits, saturating (R550) -/
  corr : Nat := 0
  deriving DecidableEq, Repr, Inhabited

/-- SAF state beside its registers (Chapter 13). -/
structure Saf where
  pairA : IslPair := {}
  pairB : IslPair := {}
  /-- hurdle rules of the image (R572); the built-in rules of R757 hold while `built` is set -/
  rules : List Rule := []
  /-- the built-in rules of R757 apply -/
  built : Bool := true
  /-- TRACK doubts for the next verdict: Fold slots (R558, R559) -/
  trackDoubt : List Nat := []
  /-- missing objects for the next verdict: fallback slots (R569) -/
  missing : List Nat := []
  /-- a STEP doubt for the next verdict (R558, R559) -/
  stepDoubt : Bool := false
  /-- numbers of the doubting steps among the last 32 (R561) -/
  win : List Nat := []
  /-- steps published since the STARTUP condition began (Table 13.3) -/
  startup : Nat := 0
  /-- consecutive steps with a count below 3 since CHECK began or was refreshed (Table 13.3) -/
  checkRun : Nat := 0
  /-- command waiting for the next verdict: OP and level (R564) -/
  cmd : Option (Nat × Nat) := none
  /-- cap of the SWAP condition: 3 or 2 (R578) -/
  swapCap : Nat := 3
  /-- SWAP_LEVEL of stage k in the SAFETY section (R578) -/
  swapLevel : SMap Nat := []
  /-- watchdog copy of each schedule's windows (R566): schedule, then (OPEN, CLOSE, MIN) -/
  windows : SMap (List (Int × Int × Int)) := []
  /-- consecutive failed and passed FCU patch tests (Table 13.3) -/
  fcuFail : Nat := 0
  fcuPass : Nat := 0
  /-- consecutive steps with the SQI of every port at or above its limit after PHY was set -/
  phyGood : Nat := 0
  /-- safe state in progress (R588) -/
  safeState : Bool := false
  /-- restart of R588: 0 none, 1 the triggering step is being published, 2 reset and resuming, 3 RUN written -/
  rsPhase : Nat := 0
  /-- step that completed the last restart (R589) -/
  restartStep : Option Nat := none
  /-- last step for which the safety channel has sent its frames (R586) -/
  chanStep : Option Nat := none
  /-- status-frame counter (Table 13.7) -/
  canSeq : Nat := 0
  /-- states of the tracks at the last output instant, by Fold slot (R570) -/
  prev : SMap (List Int) := []
  /-- FLT_N is pulled low (R584) -/
  fltLow : Bool := true
  /-- HB_OUT level (R585) -/
  hb : Bool := false
  /-- time HB_OUT last toggled -/
  hbAt : Time := 0
  /-- SAFE_REQ_N is low after filtering (R587) -/
  safeReq : Bool := false
  /-- fallback tracks by fallback slot (R580) -/
  fb : SMap FbTrk := []
  /-- generation last used by fallback slot (R580) -/
  fbGen : SMap Nat := []
  /-- dead-reckoned pose of the vehicle in the fallback frame: x, y (Q22.10 mm), heading (µrad), speed (Q22.10 mm/s), yaw rate (µrad/s) -/
  dr : List Int := [0, 0, 0, 0, 0]
  /-- time of the dead-reckoned pose, NS64 -/
  drTime : Nat := 0
  /-- last wheel or IMU sample (Table 13.3, EGO_LOST) -/
  motionAt : Time := 0
  /-- crossing FIFOs by instance code (Table 12.5) -/
  fifos : SMap XFifo := []
  /-- tracks the Checker confirmed in the present step: (Fold slot, fallback slot) (R568) -/
  confirmed : List (Nat × Nat) := []
  /-- counterpart of each compared track: (Fold slot, fallback slot) -/
  counter : List (Nat × Nat) := []
  /-- safety CAN frames waiting to start (R586) -/
  canq : List (List Byte) := []
  /-- 0x0E02 logged in the present step (R568) -/
  log02 : Bool := false
  /-- time of the last 0x0E0C entry by initiator ID (Table 13.11) -/
  refuseLog : SMap Time := []
  /-- step of the last 0x0E09 entry (Table 13.11) -/
  disLog : Option Nat := none
  deriving DecidableEq, Repr, Inhabited

/-! ### MEM -/

/-- Damage of a stored location (R526 to R532): symbols of a DRAM line, 0 to 63 of data and 64 to 71 of its check, or bits of an SRAM byte and
its check bits, each with what was flipped in it. -/
structure Damage where
  /-- 39 for DRAM, otherwise the array ID of Table 12.1 -/
  array : Nat
  /-- DRAM line number or SRAM byte offset -/
  loc : Nat
  syms : List (Nat × Byte)
  deriving DecidableEq, Repr, Inhabited

/-- MEM state beside its registers (Chapter 12). -/
structure MemSys where
  /-- damaged locations -/
  damage : List Damage := []
  /-- error log entries 0 to 63: 32 bytes each (Table 12.2) -/
  log : SMap (List Byte) := []
  /-- log entries not yet read, for the overwrite flag: entries made since power-on -/
  made : Nat := 0
  /-- retirement table: 8-byte entries (Table 12.4) -/
  retired : List Nat := []
  /-- armed injection: value written and address (R554) -/
  inj : Option (Nat × Nat) := none
  /-- location damaged by the last injection (R554) -/
  injLoc : Option (Nat × Nat) := none
  /-- corrected errors in the present 60 s period and in the present second (R540, R543) -/
  ce60 : Nat := 0
  ce1 : Nat := 0
  /-- start of the present 60 s period and second -/
  at60 : Time := 0
  at1 : Time := 0
  /-- scrubber position: lines and rows of the lap read, and the start of the lap (R538) -/
  pos : Nat := 0
  lapFrom : Time := 0
  /-- a 60 s period of the present lap exceeded THRESH (R540) -/
  exceeded : Bool := false
  /-- time of the last uncorrectable error (MEM_STATUS[2]) -/
  ueAt : Option Time := none
  /-- DRAM key handed to MEM (R533, R534) -/
  keyed : Bool := false
  /-- the XTS key; zero while none is held (R534) -/
  key : BitVec 512 := 0
  deriving DecidableEq, Repr, Inhabited

/-! ### LTH -/

/-- One tile plan of a stage: the tiles it uses (TILES section). -/
structure Plan where
  stage : Nat
  /-- full plan tiles -/
  tiles : List Nat
  deriving DecidableEq, Repr, Inhabited

/-- LTH state beside its registers (Chapter 11). -/
structure Lth where
  /-- the load in progress: its copy of the image (R488) -/
  img : List Byte := []
  /-- the applied image's copy, re-applied at a resume (R511) -/
  applied : List Byte := []
  /-- which half of the retained region is the applied half; the other is the staging half (11_lath_image.md, The load) -/
  half : Bool := false
  /-- an image has been applied since the last warm or power-on reset: RWL registers are locked (Table 0.4) -/
  rwl : Bool := false
  /-- command in progress: LTH_CMD OP (R520) -/
  busyOp : Nat := 0
  /-- weight blobs of the applied image: (address, length) (R499) -/
  blobs : List (Nat × Nat) := []
  /-- sum of DET_MAX over slots (R364) -/
  detSum : Nat := 0
  /-- FCLK in kHz: 1.05 GHz until a load sets it in phase 8 (R678) -/
  fclk : Nat := 1050000
  deriving DecidableEq, Repr, Inhabited

/-! ### SLK -/

/-- A Salarur Link port beside its registers (R596 to R603). -/
structure LinkPort where
  /-- all four lanes locked and deskewed -/
  up : Bool := false
  /-- bring-up phase of R602: 0 down, 1 locked, 2 HELLO done, 3 ECHO passed, 4 FEAT done, 5 epoch agreed -/
  phase : Nat := 0
  /-- held until a READMIT (R602), or by quarantine (R630) -/
  held : Bool := false
  /-- the hold is a quarantine's (R630) -/
  quar : Bool := false
  /-- device number of the peer's HELLO (SLK_Pp_STAT) -/
  peer : Nat := 0
  /-- next LSEQ to send, and the LSEQ expected next (R599) -/
  txSeq : Nat := 0
  rxSeq : Nat := 0
  /-- retry buffer: unacknowledged frames, oldest first (R599) -/
  retry : List LinkOut := []
  /-- frames that wait for room in the retry buffer, oldest first (R599) -/
  txq : List LinkOut := []
  /-- replays without progress (R599) -/
  replays : Nat := 0
  /-- time of the last acknowledgement or first unacknowledged frame (R599) -/
  ackAt : Time := 0
  /-- last 8 path delays, newest first, 2^-32 ns (R601) -/
  delays : List Int := []
  /-- time of the last delay request sent (R601) -/
  reqAt : Time := 0
  /-- peer's offered features and stored epoch from its HELLO (R602, R603, R604) -/
  peerFeats : BitVec 256 := 0
  peerEpoch : Nat := 0
  /-- device number the image names for the port and role (R602) -/
  expect : Nat := 0
  /-- consistent frames and HELLO, ECHO passed since a hold ended (R630) -/
  good : Nat := 0
  helloOk : Bool := false
  echoOk : Bool := false
  /-- the peer's FEAT has arrived, and the epoch is agreed (R602) -/
  featOk : Bool := false
  epochOk : Bool := false
  deriving DecidableEq, Repr, Inhabited

/-- A pasture (Table 14.6). -/
structure Pasture where
  dev : Nat
  xmin : Int
  ymin : Int
  xmax : Int
  ymax : Int
  deriving DecidableEq, Repr, Inhabited

/-- A hand-over in progress at the sender (R626 to R628): slot, global ID, target, step of the first HAND. -/
structure Handing where
  slot : Nat
  gid : Nat
  dev : Nat
  step : Nat
  acked : Bool := false
  deriving DecidableEq, Repr, Inhabited

/-- An install at the receiver that its sender may still replace or abort (R627, R628). -/
structure Install where
  gid : Nat
  slot : Nat
  src : Nat
  step : Nat
  deriving DecidableEq, Repr, Inhabited

/-- SLK state beside its registers (Chapter 14). -/
structure Slk where
  /-- ROLE (Table 14.3): 0 SINGLE, 1 FORMING, 2 PRIMARY, 3 MIRROR, 4 SYNCING, 5 BELLWETHER, 6 MEMBER, 7 JOINING -/
  role : Nat := 0
  ports : SMap LinkPort := []
  /-- GROUP_DIGEST of the image (R602) -/
  digest : BitVec 384 := 0
  /-- delta of the step being received: frames in LSEQ order (R610) -/
  recs : List DeltaRec := []
  kvs : List KvItem := []
  seqs : List SeqItem := []
  /-- payload bytes of the delta frames of the step, for DCRC (R610) -/
  deltaBytes : List Byte := []
  /-- last applied step, and the ego record and SEQ values of its STEP_END (R614, R615) -/
  lastStep : Option Nat := none
  lastEgo : List Byte := []
  lastSeqs : List Nat := []
  /-- steps since the last DELTA_ACK (R612) -/
  noAck : Nat := 0
  mirrorLost : Bool := false
  bellLost : Bool := false
  hotLimit : Bool := false
  /-- steps of the differences of R611, newest first -/
  diffs : List Nat := []
  /-- sequences marked for resynchronisation (R610, Table 14.8) -/
  resync : List Nat := []
  /-- SYNC_DATA copies held: (slot, step) (R613) -/
  copies : List (Nat × Nat) := []
  /-- the last SYNC_DATA copy has been applied (R613) -/
  syncDone : Bool := false
  /-- step k of a planned change of primary (R617) -/
  handoff : Option Nat := none
  /-- detections of the last 3 steps held by a mirror or syncing device: (step, detection) (R607) -/
  heldDets : List (Nat × Det) := []
  /-- pastures (R623) -/
  pastures : List Pasture := []
  /-- time the last frame arrived from device n (R621, R622) -/
  heard : SMap Time := []
  /-- hand-overs at the sender and installs at the receiver -/
  handing : List Handing := []
  installs : List Install := []
  /-- refused hand-overs: (slot, step after which to retry) (R627) -/
  retry : List (Nat × Nat) := []
  /-- unassigned BORDER detections held from births: (step, detection) (R625) -/
  borders : List (Nat × Det) := []
  /-- step of the last 0x1005 entry (Table 14.10) -/
  handLog : Option Nat := none
  /-- records and sequence contents as the last delta left them, by Fold slot: what the next one is taken against (R608, R609) -/
  base : SMap (List Byte) := []
  baseSeq : SMap (Nat × Nat × Bool) := []
  /-- payload bytes, records, entries and sequence items of the delta sent in the step (R609) -/
  sent : List Byte := []
  sentCnt : Nat × Nat × Nat := (0, 0, 0)
  /-- the other device of the pair is MIRROR, as far as its acknowledgements show (R612, R617) -/
  peerMirror : Bool := false
  /-- next Fold slot to copy to a syncing device (R613) -/
  copyNext : Option Nat := none
  /-- LIST bytes received so far, by member (R620) -/
  listBuf : SMap (List Byte) := []
  /-- step of the last vector 5 message (R697) -/
  mringStep : Option Nat := none
  deriving DecidableEq, Repr, Inhabited

/-! ### SEC -/

/-- A signer slot of the OTP array (Table 15.1). -/
structure Signer where
  digest : BitVec 384 := 0
  usage : BitVec 4 := 0
  revoked : Bool := false
  deriving DecidableEq, Repr, Inhabited

/-- The OTP array beside SERIAL (Table 15.1); blank fuses (log entry 5). -/
structure Otp where
  owned : Bool := false
  /-- LOCK_GEN fuses burned (R635) -/
  lockGen : Nat := 0
  /-- generation n whose ID_WRAP is written: its identity key, as the model's free-value index (R646, R647) -/
  idWraps : SMap Nat := []
  signers : SMap Signer := []
  /-- anti-rollback counter (R496) -/
  rollback : Nat := 0
  floors : BitVec 12 := 0
  debugCeil : Nat := 0
  /-- PUF_HELPER, written at Lannanen's test (R638) -/
  pufHelper : BitVec 2048 := 0
  deriving DecidableEq, Repr, Inhabited

/-- A MACsec association bound to a key slot (R652): port, transmit direction, channel, AN, next packet number. -/
structure Assoc where
  slot : Nat
  port : Nat
  tx : Bool
  chan : Nat
  an : Nat
  pn : Nat := 1
  near : Bool := false
  xpn : Bool := true
  deriving DecidableEq, Repr, Inhabited

/-- A long SEC command in progress (R664): OP, the record or blob read at SEC_SRC or the status of a failed read, and whether an alarm has
voided it (R659). -/
structure SecBusy where
  op : Nat
  bytes : List Byte := []
  err : Option Nat := none
  void : Bool := false
  deriving DecidableEq, Repr, Inhabited

/-- SEC state beside its registers (Chapter 15). -/
structure Sec where
  otp : Otp := {}
  /-- key RAM: numbered slots loaded, 64 bytes each (R642) -/
  keys : SMap (List Byte) := []
  /-- internal slots: the KEK and the identity key are present (R638, R640) -/
  kek : Bool := false
  /-- identity key drawn, as the model's free-value index (R646) -/
  ident : Option Nat := none
  /-- the challenge is present (R643) -/
  challenge : Bool := false
  /-- consecutive REFUSED_AUTH results (R644) -/
  authFails : Nat := 0
  /-- debug level (R654) -/
  debug : Nat := 0
  /-- FORCE at L0 held by debug until power-on reset (R655) -/
  debugForce : Bool := false
  /-- TRNG draws are stopped (R639) -/
  trngFail : Bool := false
  /-- key or identity recovery failed (R640) -/
  idFail : Bool := false
  /-- boot halted at this step (R641) -/
  halt : Option Nat := none
  /-- MACsec associations (R652) -/
  assocs : List Assoc := []
  /-- transmit AN selected by port (R652) -/
  txAn : SMap Nat := []
  /-- long command in progress -/
  busy : Option SecBusy := none
  /-- DRAM is being refilled after a zeroisation (R658) -/
  refill : Bool := false
  /-- time of the last 0x0F02 entry, and of LOG entries by source (Table 15.11) -/
  log02 : Option Time := none
  logSrc : SMap Time := []
  deriving DecidableEq, Repr, Inhabited

/-! ### The block -/

/-- THE STATE: the queue of waiting commands, the register file, device memory, and the state of each block beside its registers. -/
structure State where
  /-- waiting commands, first in, first out (the model's own host interface) -/
  pending : List Instr := []
  /-- register file by BAR0 offset; an unlisted register holds its reset value (`resetOf`) -/
  regs : SMap W32 := []
  /-- device memory by device address (R15); an unlisted byte reads zero (R535) -/
  mem : SMap Byte := []
  /-- everything put out at the device's boundary, oldest first -/
  out : List Out := []
  /-- the model's own counter of free values drawn (log entry 6) -/
  free : Nat := 0
  /-- grade, stepping, serial number -/
  part : Part := {}
  hif : Hif := {}
  aon : Aon := {}
  tbu : Tbu := {}
  sic : Sic := {}
  pae : Pae := {}
  ego : Ego := {}
  tca : Tca := {}
  dml : Dml := {}
  tac : Tac := {}
  fld : Fld := {}
  bse : Bse := {}
  csq : Csq := {}
  lth : Lth := {}
  msys : MemSys := {}
  saf : Saf := {}
  slk : Slk := {}
  sec : Sec := {}
  deriving DecidableEq, Repr, Inhabited

/-- The machine right after power-on reset, POR_N still low (R679, R747, Table 18.6): tiles 32 and 33 in SPARE (Table 5.10, R242). -/
def State.reset : State := { tca := { tiles := [(32, { st := .spare }), (33, { st := .spare })] } }

end Sys2Proof.Machine
end

