-- ==== Sys2Proof/Machine/Ops.lean ====
section
/-! DEFINITION. Machine/Ops.lean: the named operations every block uses: bytes and fields, memory, the register file, free values, output,
events, MSI-X and time. -/

namespace Sys2Proof.Machine

/-! ### Bytes (little-endian, R4) -/

/-- The unsigned value of little-endian bytes. -/
def leNat : List Byte → Nat
  | [] => 0
  | b :: bs => b.toNat + 256 * leNat bs

/-- `n` little-endian bytes of a value. -/
def leBytes : Nat → Nat → List Byte
  | 0, _ => []
  | n + 1, v => BitVec.ofNat 8 v :: leBytes n (v / 256)

/-- The signed value of a `w`-bit two's-complement field. -/
def toSigned (w v : Nat) : Int := if v < 2 ^ (w - 1) then (v : Int) else (v : Int) - 2 ^ w

/-- The `w`-bit two's-complement field of a value, wrapping. -/
def ofSigned (w : Nat) (v : Int) : Nat := (v % 2 ^ w).toNat

/-- Bytes `off` to `off + n - 1` of a record, unsigned. -/
def u (bs : List Byte) (off n : Nat) : Nat := leNat ((bs.drop off).take n)

/-- Bytes `off` to `off + n - 1` of a record, signed. -/
def i (bs : List Byte) (off n : Nat) : Int := toSigned (8 * n) (u bs off n)

/-- Every byte of a part of a record is zero. -/
def allZero (bs : List Byte) (off n : Nat) : Bool := ((bs.drop off).take n).all (· == 0)

/-- A record with bytes from `off` replaced. -/
def patch (bs : List Byte) (off : Nat) (new : List Byte) : List Byte := bs.take off ++ new ++ bs.drop (off + new.length)

/-- Bytes made up to a length with zeros, or cut to it. -/
def fit (n : Nat) (bs : List Byte) : List Byte := bs.take n ++ List.replicate (n - bs.length) 0

/-- Bit field [lo + w - 1 : lo] of a number. -/
def bits (v lo w : Nat) : Nat := v / 2 ^ lo % 2 ^ w

/-- A number with a bit field replaced. -/
def setBits (v lo w x : Nat) : Nat := v - bits v lo w * 2 ^ lo + x % 2 ^ w * 2 ^ lo

/-- Round an exact quotient to nearest, ties away from zero (R155, R413). -/
def roundAway (n : Int) (d : Nat) : Int :=
  if 0 ≤ n then (2 * n + d) / (2 * d) else -((2 * (-n) + d) / (2 * d))

/-- Round an exact quotient to nearest, ties to even (R203). -/
def roundEven (n : Int) (d : Nat) : Int :=
  let q := n / d
  let r := n % d
  if 2 * r < d then q else if 2 * r > d then q + 1 else if q % 2 = 0 then q else q + 1

/-- Saturate to a signed width (R155, R414). -/
def satInt (w : Nat) (v : Int) : Int :=
  if v < -(2 ^ (w - 1) : Int) then -(2 ^ (w - 1) : Int) else if v > 2 ^ (w - 1) - 1 then 2 ^ (w - 1) - 1 else v

/-- Saturating count in a `w`-bit field (R727). -/
def satAdd (w v n : Nat) : Nat := min (2 ^ w - 1) (v + n)

/-- Insert into a list sorted by a relation. -/
def insertBy {α : Type} (le : α → α → Bool) (x : α) : List α → List α
  | [] => [x]
  | y :: l => if le x y then x :: y :: l else y :: insertBy le x l

/-- Sort a list by a relation. -/
def sortBy {α : Type} (le : α → α → Bool) (l : List α) : List α := l.foldr (insertBy le) []

/-! ### Memory (R15; an unlisted byte reads zero, R535) -/

/-- One byte of device memory. -/
def State.byteAt (s : State) (a : Nat) : Byte := SMap.get 0 s.mem a

/-- `n` bytes of device memory from an address. -/
def State.bytesAt (s : State) (a : Nat) : Nat → List Byte
  | 0 => []
  | n + 1 => s.byteAt a :: s.bytesAt (a + 1) n

/-- The unsigned little-endian value of `n` bytes of device memory. -/
def State.peek (s : State) (a n : Nat) : Nat := leNat (s.bytesAt a n)

/-- Memory with bytes stored from an address. -/
def memStore (m : SMap Byte) (a : Nat) : List Byte → SMap Byte
  | [] => m
  | b :: bs => memStore (SMap.put 0 m a b) (a + 1) bs

/-- Store bytes in device memory. -/
def State.store (s : State) (a : Nat) (bs : List Byte) : State := { s with mem := memStore s.mem a bs }

/-- Store the `n` little-endian bytes of a value. -/
def State.poke (s : State) (a n v : Nat) : State := s.store a (leBytes n v)

/-- Memory with a range filled with zero. -/
def memZero (m : SMap Byte) (a n : Nat) : SMap Byte := m.filter (fun p => p.1 < a || a + n ≤ p.1)

/-- Fill a range of device memory with zero. -/
def State.zero (s : State) (a n : Nat) : State := { s with mem := memZero s.mem a n }

/-! ### The register file -/

/-- A register's stored word. -/
def State.reg (s : State) (off : Nat) : W32 := SMap.get (resetOf off) s.regs off

/-- Set a register's stored word. -/
def State.setReg (s : State) (off : Nat) (v : W32) : State := { s with regs := SMap.put (resetOf off) s.regs off v }

/-- A field of a register. -/
def State.fld' (s : State) (off lo w : Nat) : Nat := fieldOf (s.reg off) lo w

/-- Set a field of a register. -/
def State.setFld (s : State) (off lo w v : Nat) : State :=
  s.setReg off (BitVec.ofNat 32 (setBits (s.reg off).toNat lo w v))

/-- A register's value as a number. -/
def State.regN (s : State) (off : Nat) : Nat := (s.reg off).toNat

/-- A register's value as a signed number. -/
def State.regI (s : State) (off : Nat) : Int := (s.reg off).toInt

/-- One bit of a register. -/
def State.bit (s : State) (off b : Nat) : Bool := s.fld' off b 1 == 1

/-- Set one bit of a register. -/
def State.setBit (s : State) (off b : Nat) (v : Bool) : State := s.setFld off b 1 (if v then 1 else 0)

/-- Add to a saturating counter field (R727). -/
def State.countSat (s : State) (off lo w n : Nat) : State := s.setFld off lo w (satAdd w (s.fld' off lo w) n)

/-- Add to a wrapping counter field (R727). -/
def State.countWrap (s : State) (off lo w n : Nat) : State := s.setFld off lo w (s.fld' off lo w + n)

/-- A 64-bit register pair, low word first. -/
def State.reg64 (s : State) (off : Nat) : Nat := s.regN off + 2 ^ 32 * s.regN (off + 4)

/-- Set a 64-bit register pair. -/
def State.setReg64 (s : State) (off v : Nat) : State :=
  (s.setReg off (BitVec.ofNat 32 v)).setReg (off + 4) (BitVec.ofNat 32 (v / 2 ^ 32))

/-- The bytes of `n` consecutive registers. -/
def State.regBytes (s : State) (off : Nat) : Nat → List Byte
  | 0 => []
  | n + 1 => leBytes 4 (s.regN off) ++ s.regBytes (off + 4) n

/-- Set consecutive registers from bytes. -/
def State.setRegBytes (s : State) (off : Nat) : List Byte → State
  | a :: b :: c :: d :: bs => (s.setReg off (BitVec.ofNat 32 (leNat [a, b, c, d]))).setRegBytes (off + 4) bs
  | _ => s

/-! ### Status codes (Table 1.10) -/

abbrev DONE := 0x00
abbrev DONE_SHIFTED := 0x01
abbrev DONE_SUBSTITUTED := 0x02
abbrev DONE_REGULARISED := 0x03
abbrev DONE_PARTIAL := 0x04
abbrev DONE_WARM_REJECTED := 0x05
abbrev DONE_STARVED := 0x06
abbrev DONE_RANGE_SATURATED := 0x07
abbrev REFUSED_FIT := 0x10
abbrev REFUSED_AUTH := 0x11
abbrev REFUSED_FEATURE := 0x12
abbrev REFUSED_QUOTA := 0x13
abbrev REFUSED_DESCRIPTOR := 0x14
abbrev REFUSED_STATE := 0x15
abbrev BUS_ERROR_UNCORRECTABLE := 0x20
abbrev BUS_ERROR_HURDLE := 0x21
abbrev BUS_ERROR_FENCED := 0x22
abbrev DEADLINE_ABANDONED := 0x30
abbrev PARTNER_VIOLATION := 0x40

/-- The code a result reports when several apply: the numerically highest (R40). -/
def topCode (cs : List Nat) : Nat := cs.foldl max DONE

/-- A status in the Done class (R38). -/
def isDone (c : Nat) : Bool := c < 0x10

/-! ### Power domains (Table 16.1) -/

/-- Domain d is powered (AON_DOM). -/
def State.powered (s : State) (d : Nat) : Bool := s.bit (Reg.AON_DOM (d / 32)) (d % 32)

/-- Set a domain's power. -/
def State.setPower (s : State) (d : Nat) (on : Bool) : State := s.setBit (Reg.AON_DOM (d / 32)) (d % 32) on

/-! ### Free values, output, time -/

/-- Draw a fresh free value (log entry 6). -/
def State.draw (s : State) : Nat × State := (Config.freeNat s.free, { s with free := s.free + 1 })

/-- Put something out at the boundary. -/
def State.emit (s : State) (o : Out) : State := { s with out := s.out ++ [o] }

/-- A host request completes with Completer Abort or Unsupported Request, which AER reports as an advisory non-fatal error (R691). -/
def State.failHost (s : State) (c : Cpl) : State := { s with hif := { s.hif with advisory := true } }.emit (.host c [])

/-- Device time. -/
abbrev State.now (s : State) : Time := s.tbu.now

/-- Device time as an NS64 (R44). -/
def State.ns (s : State) : Nat := s.tbu.now / nsT

/-- Device time has reached an instant at which an event takes place (log entry 3). -/
def State.reach (s : State) (t : Time) : State := { s with tbu := { s.tbu with now := max s.tbu.now t } }

/-- The HTW128 of an instant as 16 little-endian bytes (R42). -/
def htw (t : Time) : List Byte :=
  leBytes 4 (t % nsT) ++ leBytes 4 (t / nsT % 1000000000) ++ leBytes 8 (t / secT)

/-- An instant from the 16 bytes of an HTW128; none when NSEC is out of range (R43). -/
def htwTime (bs : List Byte) : Option Time :=
  if u bs 4 4 < 1000000000 then some ((u bs 8 8 * 1000000000 + u bs 4 4) * nsT + u bs 0 4) else none

/-- One cycle of the 500 MHz time counter: 2 ns times 1 + y (R42, R58); nothing while domain 90, the TBU, is off (Table 16.1). -/
def State.tick (s : State) : State :=
  if !s.powered 90 then s else
  let n := (s.tbu.resid : Int) + s.tbu.y
  let one : Int := 2 ^ 18 * 1000000000
  { s with tbu := { s.tbu with now := s.tbu.now + (2 * (nsT : Int) + n / one).toNat, resid := (n % one).toNat } }

/-- An event with a rate limit is due again: at least `gap` since the last, or none yet. -/
def dueAfter (last : Option Nat) (gap now : Nat) : Bool :=
  match last with
  | none => true
  | some t => decide (t + gap ≤ now)

/-! ### Feature bits (R700 to R704) -/

/-- A feature set is locked (Table 17.10). -/
def State.locked (s : State) : Bool := s.bit Reg.HIF_FEAT_ST 17

/-- In a pair or drove a feature is one that every peer of the handshake accepted (R34, R603). -/
def State.groupFeat (s : State) (b : Nat) : Bool :=
  s.fld' Reg.SLK_CTRL 1 2 == 0 || s.slk.ports.all (fun p => !p.2.featOk || p.2.peerFeats.getLsbD b)

/-- A feature bit is locked, and agreed in the group; otherwise the feature is absent (R34, R703). -/
def State.feat (s : State) (b : Nat) : Bool := s.locked && s.bit (Reg.HIF_FEAT_DRV (b / 32)) (b % 32) && s.groupFeat b

/-! ### Events and MSI-X -/

/-- Raise an event; it reaches HIF in order (R705, R707). Data bytes not named are zero. -/
def State.event (s : State) (source sev code status : Nat) (data : List Byte) : State :=
  { s with hif := { s.hif with wire := s.hif.wire ++ [⟨s.now, source, sev, code, status, fit 10 data⟩] } }

/-- The function may send MSI-X messages: Bus Master Enable set, D0, link not held in PERST_N (R689, R690). -/
def State.mayPost (s : State) : Bool :=
  s.bit Reg.HIF_STATUS 9 && !s.bit Reg.HIF_STATUS 8 && !s.hif.perstLow

/-- Raise an MSI-X vector: a message when the vector is unmasked and the function may send, otherwise its PBA bit (R689, R690, R698). -/
def State.msix (s : State) (v : Nat) : State :=
  if s.hif.masked.getLsbD v || !s.mayPost then { s with hif := { s.hif with pba := s.hif.pba ||| BitVec.ofNat 64 (2 ^ v) } }
  else s.emit (.msix v)

/-- Send one message for each unmasked vector whose PBA bit is set and clear those bits (R689). -/
def State.flushMsix (s : State) : State :=
  (List.range 64).foldl (fun s v =>
    if s.hif.pba.getLsbD v && !s.hif.masked.getLsbD v && s.mayPost then
      { s with hif := { s.hif with pba := s.hif.pba &&& ~~~(BitVec.ofNat 64 (2 ^ v)) } }.emit (.msix v)
    else s) s

/-! ### Power state -/

/-- The power state code of Table 16.2. -/
def State.pwr (s : State) : Nat := s.fld' Reg.AON_PWR_STATE 0 3

/-- LTH state code of Table 11.5: 0 NONE, 1 LOADING, 2 APPLYING, 3 APPLIED, 4 RESUMING. -/
def State.lthState (s : State) : Nat := s.fld' Reg.LTH_STATE 0 3

/-! ### The step in force (R22, R127) -/

/-- Cadence in force in device-time units. -/
def State.cadence (s : State) : Nat := s.regN Reg.CSQ_CADENCE * usT

/-- Output instant T_i of step i (R21). -/
def State.tOf (s : State) (i : Nat) : Time := s.csq.t0 + i * s.cadence

/-- Cut-off C_i of step i. -/
def State.cOf (s : State) (i : Nat) : Time := s.tOf i - s.regN Reg.CSQ_CUTOFF * usT

/-- Number of the present step for counting violations: the next step to be cut off while the cycle runs, otherwise the present period of
1 ms of device time (R127). -/
def State.stepNo (s : State) : Nat := if s.csq.running then s.csq.next else s.now / msT

end Sys2Proof.Machine
end

