-- ==== Sys2Proof/Machine/Resets.lean ====
section
/-! DEFINITION. Machine/Resets.lean: the reset kinds of Table 16.5 and what each returns to its reset value (Table 18.6). A reset keeps the
queue of commands, what was put out, the pins, the fuses and the part, and the model's own counter of free values. -/

namespace Sys2Proof.Machine

/-- A sticky RWS register, kept by every reset but power-on (R726, Table 0.4). -/
def isRws (off : Nat) : Bool :=
  match regDef? off with
  | some d => d.acc == .rws
  | none => false

/-- The register file after a reset of the blocks `blk` (R726): RWS fields and the registers of `keep` stay. -/
def State.regsAfter (s : State) (blk : Nat → Bool) (keep : Nat → Bool) : SMap W32 :=
  s.regs.filter (fun p => !blk (p.1 / 0x100000) || isRws p.1 || keep p.1)

/-- First address of DRAM data space (Table 1.5). -/
abbrev dramBase : Nat := 0x1000000000
/-- Last address of DRAM data space (Table 1.5). -/
abbrev dramLast : Nat := 0x17FFFFFFFF
/-- First and last address of the track cache (Table 1.5). -/
abbrev cacheBase : Nat := 0x40000000
abbrev cacheLast : Nat := 0x41FFFFFF
/-- First address past the tile memories (Table 1.5). -/
abbrev tileEnd : Nat := 0x2200000

/-- SEC_ALARM_LAST lies in the AON domain and survives every reset while VDD_AON stays up (R660). -/
def isAlarmLast (off : Nat) : Bool := Reg.SEC_ALARM_LAST 0 ≤ off && off ≤ Reg.SEC_ALARM_LAST 3

/-- CSQ values that survive an accelerator-domain reset (R444): step number, sequence counters, START_ID, T_0, schedule in force. -/
def csqKept (off : Nat) : Bool :=
  off == Reg.CSQ_STEP_LO || off == Reg.CSQ_STEP_HI || (Reg.CSQ_SEQ 0 ≤ off && off ≤ Reg.CSQ_SEQ 2) || off == Reg.CSQ_START_ID ||
  (Reg.CSQ_T0 0 ≤ off && off ≤ Reg.CSQ_T0 3) || off == Reg.CSQ_CADENCE || off == Reg.CSQ_CUTOFF || off == Reg.CSQ_CAD_ST

/-- SEC values that survive an accelerator-domain or warm reset (Table 18.6, R650, R660). -/
def secKept (off : Nat) : Bool :=
  isAlarmLast off || off == Reg.SEC_BOOT_NONCE_LO || off == Reg.SEC_BOOT_NONCE_HI || (Reg.SEC_ID_PUB 0 ≤ off && off ≤ Reg.SEC_ID_PUB 23)

/-- A tile marked DEAD in TCA_DEAD_MAP (R244). -/
def State.deadBit (s : State) (t : Nat) : Bool := if t < 32 then s.bit Reg.TCA_DEAD_MAP0 t else s.bit Reg.TCA_DEAD_MAP1 (t - 32)

/-- Tile states after a reset, before an image is applied (R242, R244): DEAD stays DEAD, 32 and 33 SPARE, the others OFF. -/
def State.tilesFresh (s : State) : SMap Tile :=
  (List.range 34).foldl (fun m t =>
    let st : TileSt := if s.deadBit t then .dead else if t < 32 then .off else .spare
    SMap.put {} m t ({ st := st } : Tile)) []

/-- Power-on reset (Table 16.5): nothing is kept but the fuses and the part; SEC_ALARM_LAST stays when the reset is the device's own,
since VDD_AON stays up (R660; log entry 13). `cause` is the bit of AON_RST_CAUSE. -/
def State.powerOn (s : State) (pin : Bool) (cause : Nat) : State :=
  let t : State := { State.reset with
    pending := s.pending, out := s.out, free := s.free, part := s.part
    regs := if pin then [] else s.regs.filter (fun p => isAlarmLast p.1)
    sec := { otp := s.sec.otp }
    hif := { perstLow := s.hif.perstLow }
    saf := { safeReq := s.saf.safeReq }
    aon := { supplies := s.aon.supplies, porLow := pin, xtalOk := s.aon.xtalOk } }
  t.setReg Reg.AON_RST_CAUSE (BitVec.ofNat 32 (2 ^ cause))

/-- Warm reset (Table 16.5, Table 18.6, R681): keeps AON registers, SEC_ALARM_LAST, key RAM and the DRAM key, DRAM contents, island SRAM,
RWS fields and the retirement table. It records its cause (R680) and leaves LTH in NONE (R492). -/
def State.warm (s : State) (cause : Nat) : State :=
  let t : State := { State.reset with
    pending := s.pending, out := s.out, free := s.free, part := s.part
    regs := s.regsAfter (fun b => b != 1) secKept
    mem := memZero s.mem 0 dramBase
    sec := { otp := s.sec.otp, keys := s.sec.keys, kek := s.sec.kek, ident := s.sec.ident, idFail := s.sec.idFail,
             debugForce := s.sec.debugForce }
    hif := { perstLow := s.hif.perstLow }
    saf := { safeReq := s.saf.safeReq }
    msys := { keyed := s.msys.keyed, key := s.msys.key, retired := s.msys.retired, damage := s.msys.damage.filter (fun d => 38 ≤ d.array) }
    aon := { supplies := s.aon.supplies, porLow := false, xtalOk := s.aon.xtalOk, bootSel := s.aon.bootSel, wakeLow := s.aon.wakeLow } }
  let t := { t with tca := { t.tca with tiles := s.tilesFresh } }
  (t.setBit Reg.AON_RST_CAUSE cause true).setFld Reg.AON_PWR_STATE 0 9 3

/-- LTH's part of an accelerator-domain reset: a load in progress ends (R492), an applied image is resumed (R511). -/
def State.lthAccel (s : State) : State :=
  let endLoad (s : State) (status : Nat) : State :=
    ((((s.setFld Reg.LTH_CMD_ST 0 8 status).setBit Reg.LTH_CMD_ST 16 false).setReg Reg.LTH_REASON 0).countSat Reg.LTH_LOAD_CNT 16 16 1).msix 2
  let resume (s : State) : State := { s.setReg Reg.LTH_STATE 4 with lth := { s.lth with busyOp := 0, img := [] } }
  match s.lthState with
  | 1 => let s := endLoad s REFUSED_STATE
         if s.lth.applied.isEmpty then { s.setReg Reg.LTH_STATE 0 with lth := { s.lth with busyOp := 0, img := [] } } else resume s
  | 2 => { (endLoad s DEADLINE_ABANDONED).setReg Reg.LTH_STATE 0 with lth := { rwl := s.lth.rwl }, saf := { s.saf with built := true, rules := [] } }
  | 3 => resume s
  | 4 => resume s
  | _ => s

/-- Accelerator-domain reset (Table 16.5, Table 18.6): SIC, PAE, EGO, TCA, DML, TAC, FLD, BSE, CSQ, SLK, MEM and SEC registers return to
reset except what R444, R544, R650 and R660 keep; on-die SRAM is filled with zero (R536); DRAM, island, TBU and AON stay. The cycle ends with CSQ's
reset, so that the state is Idle (Table 16.3). -/
def State.accel (s : State) : State :=
  let tiles := s.tilesFresh
  let s := { s with
    regs := s.regsAfter (fun b => (3 ≤ b && b ≤ 11) || b == 13 || b == 15 || b == 16) (fun off => csqKept off || secKept off)
    mem := memZero s.mem 0 dramBase
    sic := {}, pae := {}, ego := {}
    tca := { tiles := tiles, noSpare := s.tca.noSpare }
    dml := {}, tac := {}, bse := {}
    fld := { gens := s.fld.gens }
    csq := { t0 := s.csq.t0, t0Set := s.csq.t0Set, sched := s.csq.sched, scheds := s.csq.scheds, pub := s.csq.pub, next := s.csq.next }
    slk := {}
    saf := { s.saf with fifos := s.saf.fifos.filter (fun p => 31 ≤ p.1) }
    sec := { s.sec with challenge := false, assocs := [], txAn := [], busy := none }
    msys := { keyed := s.msys.keyed, key := s.msys.key, retired := s.msys.retired, damage := s.msys.damage.filter (fun d => 38 ≤ d.array) } }
  (if s.pwr == 4 then s.setFld Reg.AON_PWR_STATE 0 3 3 else s).lthAccel

/-- PERST_N low or a Function Level Reset (R683, R691, R714): the PCIe endpoint and HIF return to reset, the feature set is unlocked;
HIF_EVT_LAST, HIF_EVT_PEND and the pending entries stay, and READY, a state the reset keeps (R726). -/
def State.endpointReset (s : State) : State :=
  let ready := s.bit Reg.HIF_STATUS 0
  { s with
    regs := s.regsAfter (fun b => b == 0) (fun off => Reg.HIF_EVT_LAST 0 ≤ off && off ≤ Reg.HIF_EVT_LAST 7)
    hif := { wire := s.hif.wire, pend := s.hif.pend, last := s.hif.last, perstLow := s.hif.perstLow } }.setBit Reg.HIF_STATUS 0 ready

end Sys2Proof.Machine
end

