-- ==== Sys2Proof/Machine/LineCode.lean ====
section
/-! DEFINITION. Machine/LineCode.lean: what a DRAM line holds: its encryption (R533) and its Reed–Solomon code (R526, R527). State keeps the plain
text of memory and, beside it, the damaged symbols of a line: the code corrects up to four of them (R528), so that plain text is what a
read delivers. `State.storedLine` is the line as the packages hold it. -/

namespace Sys2Proof.Machine

/-! ### GF(2^8) -/

/-- Twice an element of GF(2^8) modulo a polynomial. -/
def gfTwice (poly a : Nat) : Nat := if 256 ≤ 2 * a then (2 * a) ^^^ poly else 2 * a

/-- A product in GF(2^8) modulo a polynomial. -/
def gfMul (poly a b : Nat) : Nat :=
  (List.range 8).foldl (fun r k => if b.testBit (7 - k) then gfTwice poly r ^^^ a else gfTwice poly r) 0

/-- A power in GF(2^8). -/
def gfPow (poly a n : Nat) : Nat := (List.range n).foldl (fun r _ => gfMul poly r a) 1

/-! ### The code of a line (R526) -/

/-- The primitive polynomial x^8 + x^4 + x^3 + x^2 + 1. -/
abbrev linePoly : Nat := 0x11D

/-- The generator, the product of x - α^i for i = 0 to 7: coefficients, the highest power first. -/
def lineGen : List Nat :=
  (List.range 8).foldl (fun g i => List.zipWith (· ^^^ ·) (g ++ [0]) (0 :: g.map (gfMul linePoly (gfPow linePoly 2 i)))) [1]

/-- The eight check symbols of a message: its remainder by the generator. -/
def checkSyms (msg : List Nat) : List Nat :=
  msg.foldl (fun r m =>
    let f := m ^^^ r.headD 0
    List.zipWith (· ^^^ ·) (r.drop 1 ++ [0]) ((lineGen.drop 1).map (gfMul linePoly f))) (List.replicate 8 0)

/-- The virtual symbols of a line: bits [37:6] of its device address. -/
def addrSyms (line : Nat) : List Nat := (leBytes 4 (dramBase / 64 + line)).map (·.toNat)

/-- The codeword of a line: 4 virtual symbols, 64 data symbols, 8 check symbols. -/
def lineWord (line : Nat) (data : List Byte) : List Nat :=
  let msg := addrSyms line ++ (fit 64 data).map (·.toNat)
  msg ++ checkSyms msg

/-- The syndromes of a word, all zero exactly for a codeword. -/
def syndromes (w : List Nat) : List Nat :=
  (List.range 8).map (fun i => w.foldl (fun r m => gfMul linePoly r (gfPow linePoly 2 i) ^^^ m) 0)

/-- The pin of a stored symbol: data symbol 4 d + q on pin d; check symbol c of line j of its group is symbol 8 j + c of the check line
(R527). -/
def symPin (line sym : Nat) : Nat := if sym < 64 then sym / 4 else (8 * (line % 8) + (sym - 64)) / 4

/-- The pins of some stored symbols of a line, one bit per pin (Table 12.2). -/
def pinMask (line : Nat) (syms : List Nat) : Nat :=
  ((List.range 16).map (fun d => if syms.any (fun x => symPin line x == d) then 2 ^ d else 0)).sum

/-! ### AES-256-XTS (R533; FIPS 197, IEEE 1619) -/

/-- The AES polynomial x^8 + x^4 + x^3 + x + 1. -/
abbrev aesPoly : Nat := 0x11B

/-- The AES S-box: the inverse, then the affine map. -/
def aesSbox (a : Nat) : Nat :=
  let b := gfPow aesPoly a 254
  let rot (k : Nat) : Nat := (b * 2 ^ k) % 256 ^^^ b / 2 ^ (8 - k)
  b ^^^ rot 1 ^^^ rot 2 ^^^ rot 3 ^^^ rot 4 ^^^ 0x63

/-- Exclusive or of two lists of bytes. -/
def xorList (a b : List Nat) : List Nat := List.zipWith (· ^^^ ·) a b

/-- The 15 round keys of an AES-256 key of 32 bytes, 60 words of four bytes. -/
def aesWords (key : List Nat) : List (List Nat) :=
  (List.range 52).foldl (fun ws k =>
    let i := k + 8
    let t := ws.getD (i - 1) []
    let t := if i % 8 == 0 then xorList ((t.drop 1 ++ t.take 1).map aesSbox) [gfPow aesPoly 2 (i / 8 - 1), 0, 0, 0]
      else if i % 8 == 4 then t.map aesSbox else t
    ws ++ [xorList (ws.getD (i - 8) []) t]) ((List.range 8).map (fun j => (key.drop (4 * j)).take 4))

/-- One AES round on 16 bytes; the last leaves the columns unmixed. -/
def aesRound (rk : List Nat) (last : Bool) (b : List Nat) : List Nat :=
  let b := b.map aesSbox
  let b := (List.range 16).map (fun k => b.getD (4 * ((k / 4 + k % 4) % 4) + k % 4) 0)
  let mix (k : Nat) : Nat :=
    let x (j : Nat) : Nat := b.getD (k / 4 * 4 + (k + j) % 4) 0
    gfTwice aesPoly (x 0) ^^^ gfTwice aesPoly (x 1) ^^^ x 1 ^^^ x 2 ^^^ x 3
  xorList (if last then b else (List.range 16).map mix) rk

/-- AES-256 encryption of a block under the words of a key. -/
def aesBlock (ws : List (List Nat)) (b : List Nat) : List Nat :=
  let rk (r : Nat) : List Nat := ((ws.drop (4 * r)).take 4).flatten
  (List.range 14).foldl (fun b r => aesRound (rk (r + 1)) (r == 13) b) (xorList b (rk 0))

/-- The tweak of the next block: times α in GF(2^128). -/
def xtsNext (t : Nat) : Nat := (2 * t) % 2 ^ 128 ^^^ (if 2 ^ 127 ≤ t then 0x87 else 0)

/-- The cipher text of a 64-byte data unit: key of 64 bytes, tweak value. -/
def xtsUnit (key : List Nat) (tweak : Nat) (data : List Nat) : List Nat :=
  let k1 := aesWords (key.take 32)
  let t0 := leNat ((aesBlock (aesWords (key.drop 32)) ((leBytes 16 tweak).map (·.toNat))).map (BitVec.ofNat 8))
  ((List.range 4).foldl (fun (r : List Nat × Nat) j =>
    let t := (leBytes 16 r.2).map (·.toNat)
    (r.1 ++ xorList (aesBlock k1 (xorList ((data.drop (16 * j)).take 16) t)) t, xtsNext r.2)) ([], t0)).1

/-! ### A byte of SRAM (R521) -/

/-- Positions of the eight data bits among the twelve of the Hamming code; the powers of two hold the check bits. -/
abbrev hamming : List Nat := [3, 5, 6, 7, 9, 10, 11, 12]

/-- A byte as SRAM holds it: its bits in the positions 1 to 12 of the Hamming code, and the overall parity in bit 0. -/
def sramWord (b : Byte) : Nat :=
  let ones := ((List.range 8).filter (fun k => b.getLsbD k)).map (fun k => hamming.getD k 0)
  let chk := ones.foldl (· ^^^ ·) 0
  let w := (ones.map (fun p => 2 ^ p)).sum + ((List.range 4).map (fun k => if chk.testBit k then 2 ^ 2 ^ k else 0)).sum
  w + ((List.range 13).filter (fun k => w.testBit k)).length % 2

/-- A byte of device memory as its SRAM array holds it, with its damaged bits. -/
def State.storedByte (s : State) (array loc a : Nat) : Nat :=
  let bad := (s.msys.damage.find? (fun d => d.array == array && d.loc == loc)).map (·.syms) |>.getD []
  bad.foldl (fun w (x : Nat × Byte) => w ^^^ 2 ^ x.1) (sramWord (BitVec.ofNat 8 (s.peek a 1)))

/-! ### A line as stored -/

/-- A line as the packages hold it: 64 data and 8 check symbols of the encrypted line, with its damaged symbols (R526, R533). -/
def State.storedLine (s : State) (line : Nat) : List Nat :=
  let key := (leBytes 64 s.msys.key.toNat).map (·.toNat)
  let cipher := xtsUnit key (dramBase / 64 + line) ((s.bytesAt (dramBase + 64 * line) 64).map (·.toNat))
  let word := (lineWord line (cipher.map (BitVec.ofNat 8))).drop 4
  let bad := (s.msys.damage.find? (fun d => d.array == 39 && d.loc == line)).map (·.syms) |>.getD []
  (List.range 72).map (fun k => bad.foldl (fun v (x : Nat × Byte) => if x.1 == k then v ^^^ x.2.toNat else v) (word.getD k 0))

end Sys2Proof.Machine
end

