-- ==== Sys2Proof/Machine/Bus.lean ====
section
/-! DEFINITION. Machine/Bus.lean: the device address map (Table 1.5), the hurdles with their fixed, built-in and image rules (R572 to R577,
R757), the memory codes (R528 to R532) and the error log (R542), and the access operations every initiator uses. -/

namespace Sys2Proof.Machine

/-! ### Initiator IDs (Table 1.4) -/

abbrev idTac : Nat := 0x060
abbrev idFld : Nat := 0x061
abbrev idBse : Nat := 0x062
abbrev idPae : Nat := 0x063
abbrev idEgo : Nat := 0x064
abbrev idCsq : Nat := 0x065
abbrev idScrub : Nat := 0x080
abbrev idIslA : Nat := 0x090
abbrev idIslB : Nat := 0x091
abbrev idSec : Nat := 0x0A0
abbrev idLth : Nat := 0x0B0
abbrev idHost : Nat := 0x0C0

/-- The IDs in use (R12). -/
def idKnown (id : Nat) : Bool :=
  id ≤ 0x021 || (0x040 ≤ id && id ≤ 0x05F) || (0x060 ≤ id && id ≤ 0x065) || (0x070 ≤ id && id ≤ 0x080) ||
  id == 0x090 || id == 0x091 || id == 0x0A0 || id == 0x0B0 || id == 0x0C0 || (0x100 ≤ id && id ≤ 0x13F)

/-! ### The address map -/

/-- The hurdle in front of a device address (Table 13.4), when the address lies in a region of Table 1.5. -/
def hurdleOf (a : Nat) : Option Nat :=
  if a < tileEnd then some (a / 0x100000)
  else if cacheBase ≤ a && a ≤ cacheLast then some 34
  else if dramBase ≤ a && a ≤ dramLast then some 35
  else none

/-- A whole range lies in one region of Table 1.5. -/
def inRegion (a n : Nat) : Bool :=
  match hurdleOf a, hurdleOf (a + n - 1) with
  | some h, some k => h == k
  | _, _ => false

/-- The SRAM array ID of an address, or 39 for DRAM, and the location's number there: byte offset or line (Table 12.1, R524). -/
def locOf (a : Nat) : Nat × Nat :=
  if a < tileEnd then (a / 0x100000, a % 0x100000)
  else if cacheBase ≤ a && a ≤ cacheLast then (34, a - cacheBase)
  else (39, (a - dramBase) / 64)

/-- First address of the retained region (11_lath_image.md, The load). -/
abbrev retainedBase : Nat := 0x17F0000000

/-! ### Ranges the fixed rules close (R302, R342, R358, R487, R499) -/

/-- The sequence descriptor table, the page-table block pool and the Fold, while an image protects them (R302). -/
def State.tableAt (s : State) (lo hi size a n : Nat) : Bool :=
  let b := s.regN lo + 2 ^ 32 * s.regN hi
  decide (a < b + size) && decide (b < a + n)

/-- LTH state is APPLYING, APPLIED or RESUMING (R302, R358). -/
def State.protects (s : State) : Bool := 2 ≤ s.lthState

/-- Two ranges overlap. -/
def overlaps (a n b m : Nat) : Bool := decide (a < b + m) && decide (b < a + n)

/-- First scratch address of the track cache (R342). -/
def State.scratchBase (s : State) : Nat := cacheLast + 1 - s.fld' Reg.TAC_CACHE_CFG 0 5 * 0x100000

/-- A fixed rule closes an access to a device address range (R572). -/
def State.fixedDeny (s : State) (id : Nat) (write : Bool) (a n : Nat) : Bool :=
  (overlaps a n retainedBase 0x10000000 && id != idLth) ||
  (write && s.protects &&
    ((s.tableAt Reg.TAC_SEQ_BASE_LO Reg.TAC_SEQ_BASE_HI 0x4000000 a n && id != idTac && id != idLth) ||
     (s.tableAt Reg.TAC_PTB_BASE_LO Reg.TAC_PTB_BASE_HI ((0x100000 + 1024) * 256) a n && id != idTac && id != idLth) ||
     (s.tableAt Reg.FLD_FOLD_BASE_LO Reg.FLD_FOLD_BASE_HI 0x10000000 a n && id != idFld && id != idLth && id != idBse))) ||
  (write && id != idTac && overlaps a n cacheBase (s.scratchBase - cacheBase) && s.protects) ||
  (write && id != idLth && s.lth.blobs.any (fun b => overlaps a n b.1 b.2))

/-! ### Rules -/

/-- Bit of an access kind in KINDS (Table 13.5). -/
def kindBit : Kind → Nat
  | .read => 0
  | .write => 1
  | .command => 2

/-- The built-in rules of R757 for a device address. -/
def builtIn (id : Nat) (k : Kind) : Bool :=
  (id == idHost && k != .command) || id == idLth || id == idScrub || id == idSec || id == idIslA || id == idIslB

/-- An image rule covers an ID, kind and whole range of 4 KiB units (R573). -/
def Rule.covers (r : Rule) (h id : Nat) (k : Kind) (a n : Nat) : Bool :=
  r.h == h && r.idLo ≤ id && id ≤ r.idHi && r.kinds.getLsbD (kindBit k) && r.base ≤ a / 4096 && (a + n - 1) / 4096 ≤ r.limit

/-- The revocation bit of an ID (R576). -/
def State.revoked (s : State) (id : Nat) : Bool := s.bit (Reg.SAF_REVOKE (id / 32)) (id % 32)

/-- Set or clear a revocation bit (R576, R577). -/
def State.setRevoked (s : State) (id : Nat) (v : Bool) : State := s.setBit (Reg.SAF_REVOKE (id / 32)) (id % 32) v

/-- Units whose accesses their own chapters give them, whatever the image rules (R757, R487, R302, R358, R537). -/
def ownUnit (id : Nat) : Bool := id == idLth || id == idScrub || id == idSec || id == idIslA || id == idIslB

/-- A hurdle admits a device-address access (R572, R573, R757). -/
def State.admits (s : State) (id : Nat) (k : Kind) (a n : Nat) : Bool :=
  idKnown id && !s.revoked id && !s.fixedDeny id (k != .read) a n &&
  (match hurdleOf a with
   | none => false
   | some h => inRegion a n &&
       (if s.saf.built then builtIn id k
        else ownUnit id || s.saf.rules.any (fun r => r.covers h id k a n)))

/-- H36 admits a BAR0 access, or H37 a command-port access, by BAR0 offset (R572, R573, R757). -/
def State.admitsReg (s : State) (h id : Nat) (k : Kind) (off n : Nat) : Bool :=
  idKnown id && !s.revoked id &&
  (if s.saf.built then id == idHost || ownUnit id
   else ownUnit id || s.saf.rules.any (fun r => r.covers h id k off n))

/-! ### Refused accesses -/

/-- The tile whose revoked ID this is (R232). -/
def State.fencedTile (s : State) (id : Nat) : Option Nat := if id < 34 && s.revoked id then some id else none

/-- A transaction with a revoked tile ID: dropped, counted in TCA_Tn_FENCED, logged at most once per 1,000 steps per tile (R232, R576). -/
def State.fencedSpeaker (s : State) (t : Nat) : State :=
  let s := s.countSat (Reg.TCA_T_FENCED t) 0 32 1
  let tile := SMap.get {} s.tca.tiles t
  let s := s.countSat Reg.SAF_FENCED 0 32 1
  if dueAfter tile.fencedLog 1000 s.stepNo then
    { s with tca := { s.tca with tiles := SMap.put {} s.tca.tiles t { tile with fencedLog := some s.stepNo } } }.event 0x0E 2 0x0E04 0 []
  else s

/-- An access refused by hurdle `h` (none: an address outside the map): counted in SAF_REFUSE_CNT, event 0x0E0C at most once per
millisecond per ID; a revoked tile ID is the fenced speaker of R232 instead (R18, R20, R573, Table 13.11). -/
def State.refuseAccess (s : State) (h : Option Nat) (id : Nat) (k : Kind) (a : Nat) : State :=
  match s.fencedTile id with
  | some t => s.fencedSpeaker t
  | none =>
    let s := s.countSat Reg.SAF_REFUSE_CNT 0 32 1
    if dueAfter (SMap.find? s.saf.refuseLog id) msT s.now then
      { s with saf := { s.saf with refuseLog := SMap.insert s.saf.refuseLog id s.now } }.event 0x0E 2 0x0E0C BUS_ERROR_HURDLE
        (leBytes 2 id ++ [BitVec.ofNat 8 (h.getD 0xFF), BitVec.ofNat 8 (2 ^ kindBit k)] ++ leBytes 6 a)
    else s

/-- A STEP doubt is raised (R558). -/
def State.raiseStepDoubt (s : State) : State :=
  { s with saf := { s.saf with stepDoubt := true } }.countSat Reg.SAF_DOUBT_CNT 16 16 1

/-- A TRACK doubt names a Fold slot (R558). -/
def State.raiseTrackDoubt (s : State) (n : Nat) : State :=
  { s with saf := { s.saf with trackDoubt := if s.saf.trackDoubt.contains n then s.saf.trackDoubt else s.saf.trackDoubt ++ [n] } }.countSat
    Reg.SAF_DOUBT_CNT 0 16 1

/-- The two checkers of a hurdle disagree: refused, counted, logged at most once per step, and a STEP doubt (R575). -/
def State.checkersDisagree (s : State) : State :=
  let s := s.countSat Reg.SAF_HURDLE_FAULT 0 32 1
  let s := s.raiseStepDoubt
  if s.saf.disLog == some s.stepNo then s
  else { s with saf := { s.saf with disLog := some s.stepNo } }.event 0x0E 3 0x0E09 0 []

/-! ### The codes and the error log -/

/-- Damage stored at a location. -/
def State.damageAt (s : State) (array loc : Nat) : Nat :=
  match s.msys.damage.find? (fun d => d.array == array && d.loc == loc) with
  | some d => d.syms.length
  | none => 0

/-- Remove the damage of a location: it has been rewritten (R529, R532). -/
def State.heal (s : State) (array loc : Nat) : State :=
  { s with msys := { s.msys with damage := s.msys.damage.filter (fun d => !(d.array == array && d.loc == loc)) } }

/-- What a code can still correct: 1 bit of an SRAM byte, 4 symbols of a DRAM line (R521, R528). -/
def correctable (array count : Nat) : Bool := if array == 39 then count ≤ 4 else count ≤ 1

/-- Channel and bank of a DRAM line (R525). -/
def chanOf (line : Nat) : Nat := line / 64 % 16
def bankOf (line : Nat) : Nat := line / 0x2000000 % 16

/-- Enter an error in the log of R542: merge it into the newest entry when address, KIND and initiator match, otherwise a new entry. -/
def State.logError (s : State) (addr id kind nsym array bank dq : Nat) : State :=
  let head := s.fld' Reg.MEM_LOG_HEAD 0 6
  let newest := SMap.find? s.msys.log ((head + 63) % 64)
  let same := match newest with
    | some e => s.msys.made != 0 && u e 16 6 == addr && u e 22 2 == id && u e 24 1 == kind
    | none => false
  if same then
    match newest with
    | some e => { s with msys := { s.msys with log := SMap.insert s.msys.log ((head + 63) % 64) (patch e 30 (leBytes 2 (satAdd 16 (u e 30 2) 1))) } }
    | none => s
  else
    let e := htw s.now ++ leBytes 6 addr ++ leBytes 2 id ++ leBytes 1 kind ++ leBytes 1 nsym ++ leBytes 1 array ++ leBytes 1 bank
             ++ leBytes 2 dq ++ leBytes 2 1
    let s := { s with msys := { s.msys with log := SMap.insert s.msys.log head e, made := s.msys.made + 1 } }
    let s := if 64 < s.msys.made then s.setBit Reg.MEM_STATUS_W1C 1 true else s
    (s.setFld Reg.MEM_LOG_HEAD 0 6 (head + 1)).countWrap Reg.MEM_LOG_HEAD 16 16 1

/-- ADDR of a location in the error log: its device address, or the offset in an array that has none (Table 12.2). -/
def errorAddr (array loc : Nat) : Nat :=
  if array == 39 then dramBase + 64 * loc else if array < 34 then array * 0x100000 + loc else if array == 34 then cacheBase + loc else loc

/-- The damaged symbols of a location. -/
def State.damagedSyms (s : State) (array loc : Nat) : List Nat :=
  ((s.msys.damage.find? (fun d => d.array == array && d.loc == loc)).map (fun d => d.syms.map (·.1))).getD []

/-- A corrected error: counted, logged with the pins of its symbols, written back (R527, R529, R542). `kindX` adds KIND bits. -/
def State.corrected (s : State) (id array loc kindX : Nat) : State :=
  let n := s.damageAt array loc
  let dram := array == 39
  let pins := pinMask loc (s.damagedSyms array loc)
  let s := (s.heal array loc).countSat (if dram then Reg.MEM_CE_DRAM else Reg.MEM_CE_SRAM) 0 32 1
  let s := { s with msys := { s.msys with ce60 := s.msys.ce60 + 1, ce1 := s.msys.ce1 + 1 } }
  if dram then s.logError (errorAddr array loc) id (1 + kindX) n (chanOf loc) (bankOf loc) pins
  else s.logError (errorAddr array loc) id kindX 1 array 0 0

/-- An injected error was detected (R554): counted in MEM_INJ_CNT and not reported to SAF. -/
def State.isInjected (s : State) (array loc : Nat) : Bool :=
  match s.msys.injLoc with
  | some (x, y) => x == array && y == loc
  | none => false

/-- The initiators whose uncorrectable errors inside a stage window are a STEP doubt (Table 13.2). -/
def doubtfulId (id : Nat) : Bool := id == idFld || id == idBse || id == idTac || id == idCsq

/-- A stage window is open (R445). -/
def State.inWindow (s : State) : Bool := s.csq.cur.opened.any (fun k => !s.csq.cur.closed.contains k)

/-- An uncorrectable error: counted, logged, reported to SAF unless injected (R531, R532, R542, R543, R554, Table 13.2). -/
def State.uncorrectable (s : State) (id array loc kindX : Nat) : State :=
  let dram := array == 39
  let inj := s.isInjected array loc
  let s := s.countSat (if dram then Reg.MEM_UE_DRAM else Reg.MEM_UE_SRAM) 0 32 1
  let s := { s.setBit Reg.MEM_STATUS_W1C 0 true with msys := { s.msys with ueAt := some s.now } }
  let addr := errorAddr array loc
  let kind := (if dram then 1 else 0) + 2 + kindX
  let s := s.logError addr id kind 0 (if dram then chanOf loc else array) (if dram then bankOf loc else 0) 0
  let s := s.event 0x0D 3 0x0D02 0 (leBytes 6 addr ++ leBytes 2 id ++ leBytes 1 kind ++ leBytes 1 0)
  if !inj && doubtfulId id && s.inWindow then s.raiseStepDoubt else s

/-- The locations an access touches, as (array, number). -/
def locsOf (a n : Nat) : List (Nat × Nat) :=
  if n = 0 then []
  else if dramBase ≤ a then (List.range ((a + n - 1 - dramBase) / 64 + 1 - (a - dramBase) / 64)).map (fun k => (39, (a - dramBase) / 64 + k))
  else (List.range n).map (fun k => locOf (a + k))

/-- Check the codes of the locations read: damage is corrected, or the access is uncorrectable (R529, R531). -/
def State.checkRead (s : State) (id : Nat) (a n : Nat) (kindX : Nat) : Bool × State :=
  if s.msys.damage.isEmpty then (true, s)
  else (locsOf a n).foldl (fun (ok, s) (x, y) =>
    let d := s.damageAt x y
    if d = 0 then (ok, s)
    else
      let s := if s.isInjected x y then s.countSat Reg.MEM_INJ_CNT 0 32 1 else s
      if correctable x d then (ok, s.corrected id x y kindX) else (false, s.uncorrectable id x y kindX)) (true, s)

/-- A page of DRAM is retired (R545). -/
def State.retiredAt (s : State) (a n : Nat) : Bool :=
  dramBase ≤ a && s.msys.retired.any (fun e =>
    (bits e 62 2 == 1 && overlaps a n (bits e 12 36 * 4096) 4096) ||
    (bits e 62 2 == 3 && overlaps a n (dramBase + bits e 4 4 * 0x80000000) 0x80000000))

/-- DRAM is being refilled after a zeroisation (R658). -/
def State.dramLost (s : State) (a : Nat) : Bool := s.sec.refill && dramBase ≤ a

/-- MEM draws a new DRAM key, and DRAM is filled under it (R534, R535). -/
def State.newDramKey (s : State) : State :=
  let (v, s) := s.draw
  { s with
    msys := { s.msys with keyed := true, key := BitVec.ofNat 512 v, damage := s.msys.damage.filter (fun d => d.array != 39) }
    sec := { s.sec with refill := true } }

/-- Different symbols or bits of a location, `n` of `m`, with what is flipped in each: no rule says which an injection damages (log entry 6). -/
def State.drawSyms (s : State) (m : Nat) : Nat → List (Nat × Byte) × State
  | 0 => ([], s)
  | n + 1 =>
    let (l, s) := s.drawSyms m n
    let free := (List.range m).filter (fun k => !l.any (fun x => x.1 == k))
    let (v, s) := s.draw
    let (e, s) := s.draw
    ((free.getD (v % max 1 free.length) 0, BitVec.ofNat 8 (if m == 72 then 1 + e % 255 else 1)) :: l, s)

/-- Store bytes past the hurdles: damage of bytes and lines wholly replaced is gone (R532), a partial write to an uncorrectable line
ends with BUS_ERROR_UNCORRECTABLE (R532), and an armed injection damages the stored copy (R554). -/
def State.rawStore (s : State) (id : Nat) (a : Nat) (bs : List Byte) : Nat × State :=
  let n := bs.length
  let bad := !s.msys.damage.isEmpty && (locsOf a n).any (fun (x, y) =>
    x == 39 && !correctable x (s.damageAt x y) && !(a ≤ dramBase + 64 * y && dramBase + 64 * y + 64 ≤ a + n))
  if bad then
    ((BUS_ERROR_UNCORRECTABLE, ((s.checkRead id a n 0).2)))
  else
    let s := if s.msys.damage.isEmpty then s else (locsOf a n).foldl (fun s (x, y) => s.heal x y) s
    let s := s.store a bs
    match s.msys.inj with
    | some (v, ia) =>
      if a ≤ ia && ia < a + n then
        let (x, y) := locOf ia
        let (syms, s) := s.drawSyms (if x == 39 then 72 else 13) (bits v 1 3)
        (DONE, { s with msys := { s.msys with damage := ⟨x, y, syms⟩ :: s.msys.damage, inj := none, injLoc := some (x, y) } })
      else (DONE, s)
    | none => (DONE, s)

/-- The target is the memory of a DEAD tile: fenced (Table 1.10, Table 5.8). -/
def State.fencedTarget (s : State) (a : Nat) : Bool := decide (a < tileEnd) && s.deadBit (a / 0x100000)

/-- The target's power domain is off: tile memory or the track cache (Table 16.1). The manual states no answer: a read gives free values
and a write is lost (log entry 28). -/
def State.asleep (s : State) (a : Nat) : Bool :=
  (decide (a < tileEnd) && !s.powered (a / 0x100000)) || (decide (cacheBase ≤ a) && decide (a ≤ cacheLast) && !s.powered 34)

/-- `n` free bytes (log entry 6). -/
def State.drawBytes (s : State) (n : Nat) : List Byte × State :=
  ((List.range n).map (fun j => BitVec.ofNat 8 (Config.freeNat (s.free + j))), { s with free := s.free + n })

/-- A read by an initiator: bytes, or a bus error (R18, R529, R531, R545, R573, R658). -/
def State.busRead (s : State) (id a n : Nat) : Except Nat (List Byte) × State :=
  if !s.admits id .read a n || s.retiredAt a n then (.error BUS_ERROR_HURDLE, s.refuseAccess (hurdleOf a) id .read a)
  else if s.dramLost a then (.error BUS_ERROR_UNCORRECTABLE, s)
  else if s.fencedTarget a then (.error BUS_ERROR_FENCED, s)
  else if s.asleep a then (.ok (s.drawBytes n).1, (s.drawBytes n).2)
  else
    match s.checkRead id a n 0 with
    | (true, s) => (.ok (s.bytesAt a n), s)
    | (false, s) => (.error BUS_ERROR_UNCORRECTABLE, s)

/-- A write by an initiator (R18, R532, R545, R573, R658). -/
def State.busWrite (s : State) (id a : Nat) (bs : List Byte) : Nat × State :=
  if !s.admits id .write a bs.length || s.retiredAt a bs.length then (BUS_ERROR_HURDLE, s.refuseAccess (hurdleOf a) id .write a)
  else if s.dramLost a then (BUS_ERROR_UNCORRECTABLE, s)
  else if s.fencedTarget a then (BUS_ERROR_FENCED, s)
  else if s.asleep a then (DONE, s)
  else s.rawStore id a bs

end Sys2Proof.Machine
end

