-- ==== Sys2Proof/Machine/HostOps.lean ====
section
/-! DEFINITION. Machine/HostOps.lean: how a host access to BAR0 reaches a block: readiness, D3hot, a halted boot, hurdle H36, dark domains
and the freeze of R724. Every host command row goes through `hostCmd`, a write of its command register. -/

namespace Sys2Proof.Machine

/-- The function answers memory requests: ready (R684), link up, PERST_N high, and domain 91 powered (Table 16.1). -/
def State.hostUp (s : State) : Bool := s.bit Reg.HIF_STATUS 0 && s.hif.linkUp && !s.hif.perstLow && s.powered 91

/-- The power domain of a BAR0 offset for R694 (Table 18.1); none for AON. -/
def domainOf (off : Nat) : Option Nat :=
  let r := off % 0x100000
  match off / 0x100000 with
  | 0 => some 91
  | 2 => some 90
  | 3 => if 0x200 ≤ r && r < 0x2C0 then some (58 + (r - 0x200) / 16)
         else if 0x400 ≤ r && r < 0x580 then some (70 + (r - 0x400) / 32) else some 94
  | 4 => some 96
  | 5 => some 96
  | 6 => some 92
  | 7 => some 99
  | 8 => some 97
  | 9 => some 97
  | 10 => some 98
  | 11 => some 99
  | 12 => some 99
  | 13 => some 99
  | 14 => some 88
  | 15 => some 89
  | 16 => if 0x100 ≤ r && r < 0x1C0 then some (82 + (r - 0x100) / 32) else some 92
  | _ => none

/-- The domain behind a BAR0 offset is off (R694). -/
def State.dark (s : State) (off : Nat) : Bool :=
  match domainOf off with
  | some d => !s.powered d
  | none => false

/-- A request answered under R694: counted in HIF_DARK_CNT, and the sticky DARK bit set. -/
def State.darkAccess (s : State) : State := (s.countSat Reg.HIF_DARK_CNT 0 32 1).setBit Reg.HIF_STATUS_W1C 2 true

/-- Host writes to RW and RWL registers are ignored in the block of `off` while LTH is APPLYING or RESUMING (R724). -/
def State.frozen (s : State) (off : Nat) : Bool :=
  (s.lthState == 2 || s.lthState == 4) && !(off / 0x100000 == 0 || off / 0x100000 == 1 || off / 0x100000 == 15 || off / 0x100000 == 12)

/-- A host access of `n` bytes to BAR0 registers as far as its effect: D3hot (R690), a halted boot (R641), H36 (R573, R717), a dark domain
(R694). -/
def State.hostAccessN (s : State) (k : Kind) (off n : Nat) (f : State → State) : State :=
  if !s.hostUp then s
  else if s.bit Reg.HIF_STATUS 8 then s.failHost .ur
  else if s.sec.halt.isSome && !(k == .read && off / 0x100000 == 15) then s.failHost .ca
  else if !s.admitsReg 36 idHost k off n then (s.refuseAccess (some 36) idHost k off).failHost .ca
  else if s.dark off then (if k == .read then s.darkAccess.emit (.host .sc (leBytes n 0)) else s.darkAccess)
  else f s

/-- A host access to one BAR0 register. -/
def State.hostAccess (s : State) (k : Kind) (off : Nat) (f : State → State) : State := s.hostAccessN k off 4 f

/-- A host write of a command register (Table 18.7). -/
def State.hostCmd (s : State) (off : Nat) (f : State → State) : State := s.hostAccess .command off f

/-- A host write of an RW or RWL register whose own chapter judges it (R724). -/
def State.hostReg (s : State) (off : Nat) (f : State → State) : State :=
  s.hostAccess .write off (fun s => if s.frozen off then s else f s)

/-- A written word with the bits cleared that cannot be set while their feature is absent (R703, Table 17.4), or on the A grade
(Table 5.10). -/
def State.featBits (s : State) (off : Nat) (v : W32) : W32 :=
  let cut (b : Nat) (ok : Bool) (v : W32) : W32 := if ok then v else v &&& ~~~(BitVec.ofNat 32 (2 ^ b))
  if off == Reg.SIC_CTRL then cut 3 (s.feat 1) (cut 4 (s.feat 12) v)
  else if off == Reg.FLD_CTRL then cut 1 (s.feat 13) v
  else if off == Reg.CSQ_CTRL then cut 2 (s.feat 19) (cut 3 (s.feat 18) v)
  else if off == Reg.SLK_CTRL then cut 3 (s.feat 6) v
  else if off == Reg.TCA_CTRL then cut 0 s.part.gradeI v
  else v

/-- Set the status code of a command's status register (R729, Table 18.7). -/
def State.status (s : State) (off code : Nat) : State := s.setFld off 0 8 code

/-- A command with a busy bit: refused with REFUSED_STATE while it is set (R729). -/
def State.unlessBusy (s : State) (st busy : Nat) (f : State → State) : State :=
  if s.bit st busy then s.status st REFUSED_STATE else f s

end Sys2Proof.Machine
end

