-- ==== Sys2Proof/Machine/HostIf.lean ====
section
/-! DEFINITION. Machine/HostIf.lean: the HIF commands: the feature handshake (R700 to R704, R715), the event log (R705 to R711), MSI-X
moderation and masking (R689, R690, R697 to R699), and the endpoint's own events (R683, R691). -/

namespace Sys2Proof.Machine

/-! ### The feature handshake -/

/-- HIF_FEAT_DEV, the offered set (R700, Table 17.9). -/
def State.featDev (s : State) : Nat := if s.part.gradeI then 0x000FFFFF else 0x000E7FFF

/-- HIF_FEAT_MAND, the mandatory set (R700, Table 17.9). -/
def State.featMand (s : State) : Nat := if s.part.gradeI then 1 else 3

/-- The requested set in HIF_FEAT_DRV0 to 7 (R700). -/
def State.featDrv (s : State) : Nat := leNat (s.regBytes (Reg.HIF_FEAT_DRV 0) 8)

/-- FEAT_REQ of the applied image, bytes 32 to 63 of its header; zero with no image applied (R701). -/
def State.featReq (s : State) : Nat := if s.lth.applied.isEmpty then 0 else u s.lth.applied 32 32

/-- The lowest bit of `a` that is clear in `b`, below 256. -/
def lowestMissing (a b : Nat) : Option Nat := (List.range 256).find? (fun k => a.testBit k && !b.testBit k)

/-- FEAT_HOT asked for without FEAT_PAIR, the one requirement of Table 17.4. -/
def lowestUnmet (drv : Nat) : Option Nat := if drv.testBit 6 && !drv.testBit 5 then some 6 else none

/-- The four checks of R701 in order: the first that fails, and its lowest failing bit. -/
def State.featCheck (s : State) : Option (Nat × Nat) :=
  match lowestMissing s.featDrv s.featDev with
  | some b => some (1, b)
  | none =>
    match lowestMissing s.featMand s.featDrv with
    | some b => some (2, b)
    | none =>
      match lowestUnmet s.featDrv with
      | some b => some (3, b)
      | none => (lowestMissing s.featReq s.featDrv).map (fun b => (4, b))

/-- GO: judge the requested set and lock it, or refuse (R701, R702). -/
def State.doGo (s : State) : State :=
  if s.bit Reg.HIF_FEAT_ST 16 || s.locked then s.status Reg.HIF_FEAT_ST REFUSED_STATE
  else
    match s.featCheck with
    | some (c, b) =>
      ((s.status Reg.HIF_FEAT_ST REFUSED_FEATURE).setFld Reg.HIF_FEAT_ST 8 8 b).event 0x00 1 0x0002 0 (leBytes 1 c ++ leBytes 1 b)
    | none =>
      ((s.status Reg.HIF_FEAT_ST DONE).setBit Reg.HIF_FEAT_ST 17 true).event 0x00 0 0x0001 0 (s.regBytes (Reg.HIF_FEAT_DRV 0) 2)

/-- UNLOCK: only while LTH is in NONE (R702), and not while a handshake is busy (R729). -/
def State.doUnlockFeat (s : State) : State :=
  if s.bit Reg.HIF_FEAT_ST 16 || s.lthState != 0 then s.status Reg.HIF_FEAT_ST REFUSED_STATE
  else (s.status Reg.HIF_FEAT_ST DONE).setBit Reg.HIF_FEAT_ST 17 false

/-- GO row (R701). -/
def execGo (s : State) : Host.Outcome State Fault Refusal := .next (s.hostCmd Reg.HIF_FEAT_CTRL State.doGo)

/-- FEATURE_UNLOCK row (R702). -/
def execFeatureUnlock (s : State) : Host.Outcome State Fault Refusal := .next (s.hostCmd Reg.HIF_FEAT_CTRL State.doUnlockFeat)

/-! ### MSI-X -/

/-- Moderation interval MOD in device time (R698). -/
def State.modT (s : State) : Time := s.fld' Reg.HIF_EVT_CFG 16 16 * usT

/-- Raise vector 0 under moderation: at most one message per MOD; a masked vector sets its PBA bit (R697, R698). -/
def State.raiseEvent (s : State) : State :=
  if s.hif.masked.getLsbD 0 || !s.mayPost then s.msix 0
  else if dueAfter s.hif.lastEvent s.modT s.now then { s with hif := { s.hif with lastEvent := some s.now } }.msix 0
  else { s with hif := { s.hif with covered := true } }

/-- The moderation interval ends: one message covers the conditions (R698). -/
def State.moderationEnd (s : State) : State :=
  match s.hif.covered, s.hif.lastEvent with
  | true, some t =>
    let s := s.reach (t + s.modT)
    { s with hif := { s.hif with covered := false, lastEvent := some s.now } }.msix 0
  | _, _ => s

/-- MSIX_MODERATION_END row (R698). -/
def execMsixModerationEnd (s : State) : Host.Outcome State Fault Refusal := .next s.moderationEnd

/-- Unmask a vector: with its PBA bit set, one message is sent (R698), unless the function may not send (R689). -/
def State.unmask (s : State) (v : Nat) : State :=
  let s := { s with hif := { s.hif with masked := s.hif.masked &&& ~~~(BitVec.ofNat 64 (2 ^ v)) } }
  if s.hif.pba.getLsbD v && s.mayPost then
    { s with hif := { s.hif with pba := s.hif.pba &&& ~~~(BitVec.ofNat 64 (2 ^ v)) } }.emit (.msix v)
  else s

/-- MSIX_UNMASK row (R698): a host write to the vector's entry of the table in BAR4. -/
def execMsixUnmask (v : Fin 64) (s : State) : Host.Outcome State Fault Refusal :=
  .next (if s.hostUp && !s.bit Reg.HIF_STATUS 8 then s.unmask v else s)

/-- BUS_MASTER_ENABLE row: Bus Master Enable is set, and the pending messages of unmasked vectors are sent (R689). -/
def execBusMasterEnable (s : State) : Host.Outcome State Fault Refusal :=
  .next (if s.hostUp then (s.setBit Reg.HIF_STATUS 9 true).flushMsix else s)

/-- D3HOT_ENTRY row: memory requests are then answered with Unsupported Request and messages held (R690). -/
def execD3hotEntry (s : State) : Host.Outcome State Fault Refusal :=
  .next (if s.hostUp then s.setBit Reg.HIF_STATUS 8 true else s)

/-- D3HOT_EXIT row: back in D0, the pending messages of unmasked vectors are sent (R689). -/
def execD3hotExit (s : State) : Host.Outcome State Fault Refusal :=
  .next (if s.hostUp then (s.setBit Reg.HIF_STATUS 8 false).flushMsix else s)

/-- L1_ENTRY_REQUEST row: the device accepts (R690). The acceptance is what the boundary shows. -/
def execL1EntryRequest (s : State) : Host.Outcome State Fault Refusal :=
  .next (if s.hostUp then s.emit (.done 0x00 idHost DONE) else s)

/-! ### The event log -/

/-- The 32 bytes of an entry (Table 17.5). -/
def Evt.bytes (e : Evt) : List Byte :=
  htw e.time ++ leBytes 1 e.source ++ leBytes 1 e.sev ++ leBytes 2 e.code ++ leBytes 1 e.status ++ [0] ++ fit 10 e.data

/-- Eight little-endian words of 32 bytes. -/
def words8 (bs : List Byte) : List W32 := (List.range 8).map (fun k => BitVec.ofNat 32 (u bs (4 * k) 4))

/-- An entry dropped: counted, and the sticky EVT_DROPPED bit set (R709). -/
def State.dropEvt (s : State) : State := (s.countSat Reg.HIF_EVT_DROP 0 32 1).setBit Reg.HIF_STATUS_W1C 0 true

/-- Hold an entry in the pending buffer of 64, or drop it (R710). -/
def State.holdEvt (s : State) (e : Evt) : State :=
  if s.hif.pend.length < 64 then { s with hif := { s.hif with pend := s.hif.pend ++ [e] } } else s.dropEvt

/-- Set or clear HIF_EVT_CFG.EN with its copy in HIF_STATUS[10]. -/
def State.setEvtEn (s : State) (v : Bool) : State := (s.setBit Reg.HIF_EVT_CFG 0 v).setBit Reg.HIF_STATUS 10 v

/-- A severity 3 entry goes to HIF_EVT_LAST and raises vector 6 (R697, R709). -/
def State.lastEvt (s : State) (e : Evt) : State :=
  if e.sev == 3 then { s with hif := { s.hif with last := words8 e.bytes } }.msix 6 else s

/-- Entries in the log: PROD - CONS modulo 2^32. -/
def State.evtFill (s : State) : Nat := (s.regN Reg.HIF_EVT_PROD + 2 ^ 32 - s.regN Reg.HIF_EVT_CONS) % 2 ^ 32

/-- Address of log index PROD mod SIZE (R706). -/
def State.evtAddr (s : State) : Nat :=
  s.reg64 Reg.HIF_EVT_BASE_LO + 32 * (s.regN Reg.HIF_EVT_PROD % max 1 (s.regN Reg.HIF_EVT_SIZE))

/-- Write an entry into the log: dropped when it is full (R709); a hurdle's refusal clears EN, sets LOG_HURDLE and holds the entry with
event 0x0005 behind it (R711); otherwise PROD rises by 1, and vector 0 is raised at MSI_SEV or above (R697, R706). -/
def State.writeEvt (s : State) (e : Evt) : State :=
  if s.evtFill == s.regN Reg.HIF_EVT_SIZE then s.dropEvt
  else
    let (c, s) := s.busWrite idHost s.evtAddr e.bytes
    if c == BUS_ERROR_HURDLE then
      let s := (s.setEvtEn false).setBit Reg.HIF_STATUS_W1C 3 true
      let h : Evt := ⟨s.now, 0x00, 3, 0x0005, 0, fit 10 []⟩
      ((s.holdEvt e).lastEvt h).holdEvt h
    else if c == DONE then
      let s := s.countWrap Reg.HIF_EVT_PROD 0 32 1
      if s.fld' Reg.HIF_EVT_CFG 1 2 ≤ e.sev then s.raiseEvent else s
    else s.dropEvt

/-- An entry enters the log, or is held while EN is clear (R706, R710). -/
def State.enterEvt (s : State) (e : Evt) : State := if s.bit Reg.HIF_EVT_CFG 0 then s.writeEvt e else s.holdEvt e

/-- A pending entry enters the log once EN is set; one of severity 3 raises vector 6 as it enters (R697, R710). -/
def State.flushEvt (s : State) (e : Evt) : State :=
  let t := s.enterEvt e
  if e.sev == 3 && t.reg Reg.HIF_EVT_PROD != s.reg Reg.HIF_EVT_PROD then t.msix 6 else t

/-- The entry next to reach HIF: the oldest, and of entries of one instant the lowest SOURCE, then the lowest CODE (R707). -/
def nextEvt : List Evt → Option Evt
  | [] => none
  | e :: es => some (es.foldl (fun a b =>
      if b.time == e.time && (decide (b.source < a.source) || (b.source == a.source && decide (b.code < a.code))) then b else a) e)

/-- One entry reaches HIF (R706, R707, R709, R710). -/
def State.eventLogEntry (s : State) : State :=
  match nextEvt s.hif.wire with
  | none => s
  | some e => ({ s with hif := { s.hif with wire := s.hif.wire.erase e } }.lastEvt e).enterEvt e

/-- EVENT_LOG_ENTRY row (R706); nothing while domain 91 is off. -/
def execEventLogEntry (s : State) : Host.Outcome State Fault Refusal :=
  .next (if s.powered 91 then s.eventLogEntry else s)

/-- A consumer index write as R467 judges it: accepted from the present CONS to PROD, counted forward modulo 2^32. -/
def consOk (cons prod v : Nat) : Bool := decide ((v + 2 ^ 32 - cons) % 2 ^ 32 ≤ (prod + 2 ^ 32 - cons) % 2 ^ 32)

/-- A write of HIF_EVT_CONS (R708). -/
def State.evtCons (s : State) (v : W32) : State :=
  if consOk (s.regN Reg.HIF_EVT_CONS) (s.regN Reg.HIF_EVT_PROD) v.toNat then s.setReg Reg.HIF_EVT_CONS v
  else s.setBit Reg.HIF_STATUS_W1C 1 true

/-- EVT_CONS_WRITE row (R708). -/
def execEvtConsWrite (v : W32) (s : State) : Host.Outcome State Fault Refusal :=
  .next (s.hostReg Reg.HIF_EVT_CONS (fun s => s.evtCons v))

/-- A write of HIF_EVT_CFG: setting EN flushes the pending entries in their order (R710). Reserved bits [15:3] are ignored (R718). -/
def State.evtCfg (s : State) (v : W32) : State :=
  let was := s.bit Reg.HIF_EVT_CFG 0
  let s := (s.setReg Reg.HIF_EVT_CFG (v &&& 0xFFFF0007)).setEvtEn (v.getLsbD 0)
  if v.getLsbD 0 && !was then
    s.hif.pend.foldl State.flushEvt { s with hif := { s.hif with pend := [] } }
  else s

/-- EVT_CFG_WRITE row (R710). -/
def execEvtCfgWrite (v : W32) (s : State) : Host.Outcome State Fault Refusal :=
  .next (s.hostReg Reg.HIF_EVT_CFG (fun s => s.evtCfg v))

/-- Latch HIF_EVT_LAST0 to 7 (R709). -/
def State.latchLast (s : State) : State :=
  (List.range 8).foldl (fun s k => s.setReg (Reg.HIF_EVT_LAST k) (s.hif.last.getD k 0)) s

/-- EVT_LAST_SNAPSHOT row: a host read of HIF_EVT_LAST0 (R709). -/
def execEvtLastSnapshot (s : State) : Host.Outcome State Fault Refusal :=
  .next (s.hostAccess .read (Reg.HIF_EVT_LAST 0) (fun s =>
    let s := s.latchLast
    s.emit (.host .sc (leBytes 4 (s.regN (Reg.HIF_EVT_LAST 0))))))

/-! ### Signals mapped to vectors -/

/-- A signal lies in a range granted to an initiator ID (R273). -/
def State.sigGranted (s : State) (id sig : Nat) : Bool := s.dml.ranges.any (fun (j, lo, hi) => j == id && lo ≤ sig && sig ≤ hi)

/-- A write of HIF_SIGMAPv, v = 8 + j (R699). -/
def State.sigmap (s : State) (j : Nat) (w : W32) : State :=
  if s.sigGranted idHost (fieldOf w 0 10) then s.setReg (Reg.HIF_SIGMAP j) (w &&& 0x000103FF) else s

/-- SIGMAP_WRITE row (R699). -/
def execSigmapWrite (v : Fin 56) (w : W32) (s : State) : Host.Outcome State Fault Refusal :=
  .next (s.hostReg (Reg.HIF_SIGMAP v) (fun s => s.sigmap v w))

/-- A DML signal is raised: each vector mapped to it is raised once (R699). -/
def State.sigVectors (s : State) (sig : Nat) : State :=
  (List.range 56).foldl (fun s j =>
    if s.bit (Reg.HIF_SIGMAP j) 16 && s.fld' (Reg.HIF_SIGMAP j) 0 10 == sig then s.msix (8 + j) else s) s

/-! ### The endpoint -/

/-- FUNCTION_LEVEL_RESET row: the effect of a low PERST_N on the endpoint and HIF; the link itself stays (R691, log entry 14). -/
def execFunctionLevelReset (s : State) : Host.Outcome State Fault Refusal :=
  .next (if s.hostUp then
    let link := s.fld' Reg.HIF_STATUS 1 7
    let s := s.endpointReset.setFld Reg.HIF_STATUS 1 7 link
    { s with hif := { s.hif with linkUp := true } }.event 0x00 1 0x0003 0 []
  else s)

/-- PERST_ASSERT row: only the endpoint and HIF are reset (R683); where domain 91 is off only the pin changes. -/
def execPerstAssert (s : State) : Host.Outcome State Fault Refusal :=
  .next (let s := { s with hif := { s.hif with perstLow := true } }
    if s.powered 91 then s.endpointReset.event 0x00 1 0x0003 0 [] else s)

/-- PCIE_LINK_UP row: the link has trained at a speed and width that its partner decides (drawn, log entry 6); AON releases WAKE_N (R675). -/
def execPcieLinkUp (s : State) : Host.Outcome State Fault Refusal :=
  .next (if s.powered 91 && !s.hif.perstLow && !s.aon.porLow then
    let (v, s) := s.draw
    let s := (s.setFld Reg.HIF_STATUS 1 3 (1 + v % 4)).setFld Reg.HIF_STATUS 4 4 (2 ^ (v / 4 % 4))
    let s := { s with hif := { s.hif with linkUp := true } }
    if s.aon.wakeLow then { s with aon := { s.aon with wakeLow := false } }.emit (.pin 3 true) else s
  else s)

end Sys2Proof.Machine
end

