-- ==== Sys2Proof/Machine/Fifo.lean ====
section
/-! DEFINITION. Machine/Fifo.lean: the crossing FIFO block (R547 to R551). -/

namespace Sys2Proof.Machine

/-- Words of a bank (R547). -/
abbrev bankWords : Nat := 128

/-- Number of an instance of Table 12.5. -/
def FifoId.num : FifoId → Nat
  | .publish => 0
  | .sicCsi p => 1 + p
  | .sicEth q => 13 + q
  | .sicCan n => 25 + n
  | .sicImu n => 29 + n
  | .mboxFcu => 31
  | .mboxMotion => 32
  | .mboxPartner => 33
  | .mboxObserve => 34
  | .mboxVerdict => 35

/-- The writer's FULL: the fill bank is full, or flushed and waiting to swap (R548, R550). -/
def XFifo.full (f : XFifo) : Bool := f.flushed || decide (bankWords ≤ f.fill.length)

/-- The banks swap when the drain bank is empty and the fill bank is full or flushed (R548). -/
def XFifo.swap (f : XFifo) : XFifo :=
  if f.drain.isEmpty && f.full then { f with drain := f.fill, fill := [], flushed := false } else f

/-- Unread words: the drain bank's, and those of a fill bank that waits to swap (R549). -/
def XFifo.count (f : XFifo) : Nat := f.drain.length + (if f.full then f.fill.length else 0)

/-- A write; while FULL it is dropped and sets OVERFLOW (R550). -/
def XFifo.put (f : XFifo) (w : W64) : XFifo :=
  if f.full then { f with overflow := true } else XFifo.swap { f with fill := f.fill ++ [{ w := w }] }

/-- The writer flushes the fill bank (R548). -/
def XFifo.flush (f : XFifo) : XFifo := XFifo.swap { f with flushed := true }

/-- A read: the word taken, whether it was uncorrectable, and the FIFO after it (R550). -/
def XFifo.get (f : XFifo) : W64 × Bool × XFifo :=
  match f.drain with
  | [] => (f.last, false, { f with underrun := true })
  | x :: r =>
    if 2 ≤ x.err then (0, true, XFifo.swap { f with drain := r })
    else (x.w, false, XFifo.swap { f with drain := r, last := x.w, corr := if x.err = 1 then satAdd 16 f.corr 1 else f.corr })

/-- A crossing FIFO by instance number. -/
def State.fifo (s : State) (k : Nat) : XFifo := SMap.get {} s.saf.fifos k

/-- Set a crossing FIFO. -/
def State.setFifo (s : State) (k : Nat) (f : XFifo) : State := { s with saf := { s.saf with fifos := SMap.put {} s.saf.fifos k f } }

/-- Write a word. -/
def State.fifoPut (s : State) (k : Nat) (w : W64) : State := s.setFifo k ((s.fifo k).put w)

/-- Flush. -/
def State.fifoFlush (s : State) (k : Nat) : State := s.setFifo k (s.fifo k).flush

/-- The FCU's waiting words enter FIFO 31 as far as it has room; a flush follows the last word of a revolution (R148, R548). -/
def fcuFill (f : XFifo) : List (Option W64) → XFifo × List (Option W64)
  | [] => (f, [])
  | none :: l => if f.fill.isEmpty then fcuFill f l else if f.flushed then (f, none :: l) else fcuFill f.flush l
  | some w :: l => if f.full then (f, some w :: l) else fcuFill (f.put w) l

/-- The FCU writes what it can of its waiting words (R148). -/
def State.fcuPump (s : State) : State :=
  let (f, l) := fcuFill (s.fifo 31) s.sic.fcuOut
  { s with sic := { s.sic with fcuOut := l } }.setFifo 31 f

/-- The reader has taken a word: the FCU goes on writing into the room it made (R148). -/
def State.tookWord (s : State) (k : Nat) (f : XFifo) : State := if k == 31 then (s.setFifo k f).fcuPump else s.setFifo k f

/-- Read a word; an uncorrectable one is a bus error with its error-log entry and event 0x0D06 (R542, R550). -/
def State.fifoGet (s : State) (k id : Nat) : Except Nat W64 × State :=
  match (s.fifo k).get with
  | (w, false, f) => (.ok w, s.tookWord k f)
  | (_, true, f) =>
    let s := ((s.tookWord k f).logError 0 id 10 0 0 0 0).event 0x0D 3 0x0D06 0 (leBytes 6 0 ++ leBytes 2 id ++ leBytes 1 10 ++ leBytes 1 0)
    (.error BUS_ERROR_UNCORRECTABLE, s)

/-- Little-endian 64-bit words of bytes, the last filled with zero (Table 12.5, R475). -/
def words64 : List Byte → List W64
  | a :: b :: c :: d :: e :: f :: g :: h :: bs => BitVec.ofNat 64 (leNat [a, b, c, d, e, f, g, h]) :: words64 bs
  | [] => []
  | bs => [BitVec.ofNat 64 (leNat bs)]

/-- Write bytes as words. -/
def State.fifoBytes (s : State) (k : Nat) (bs : List Byte) : State := (words64 bs).foldl (fun s w => s.fifoPut k w) s

end Sys2Proof.Machine
end

