-- ==== Sys2Proof/Machine/Image.lean ====
section
/-! DEFINITION. Machine/Image.lean: the content of a Lath image and the fit check (11_lath_image.md). The header, the section table and the
DEVICE, REGS, SLOTS and WEIGHTS records have layouts in the manual and are read from the bytes; the records of the other sections have
none, and `Config.content` stands for what they say (log entry 17). The cycle tables are ROM of the stepping whose entries the manual does
not give (R500), and `Config.cycleTable` stands for them. -/

namespace Sys2Proof.Machine

/-- A cycle table entry (Table 11.7). -/
structure CycEntry where
  part : Nat
  variant : Nat
  cycles : Nat
  per : Nat
  island : Bool
  deriving DecidableEq, Repr, Inhabited

/-- A plan of the image for the fit check: for each stage its overhead and groups of parallel parts, and ahead decode (R503). -/
structure PlanCost where
  overhead : List PartUse
  groups : List (List (List PartUse))
  ahead : PartUse
  deriving DecidableEq, Repr, Inhabited

/-- What the sections of an image say. -/
structure Content where
  /-- SCHEDULE: schedules by index; an empty index has none (R451) -/
  scheds : SMap Sched := []
  /-- largest SHIFT_RES of the solver batches of each schedule, µs (R424, R503) -/
  shiftRes : List Nat := []
  /-- TILES: full plan of each stage, and its short plans (R234) -/
  full : List Plan := []
  short : List Plan := []
  /-- plan costs: full plan first, then short plans -/
  costs : List PlanCost := []
  aheadPredict : PartUse := default
  /-- tile images: tile, offset, bytes (R236) -/
  tileImg : List (Nat × Nat × List Byte) := []
  /-- HURDLES: rules and signal ranges (R273, R572) -/
  rules : List Rule := []
  ranges : List (Nat × Nat × Nat) := []
  /-- DESCRIPTORS: handle and 64 bytes -/
  descs : List (Nat × List Byte) := []
  /-- STREAMS: set, active record, shadow record (32 bytes each) -/
  streams : List (Nat × List Byte × List Byte) := []
  /-- owner of program channels (R283) -/
  chanOwner : SMap Nat := []
  /-- the ATTEND command of each history layer, as TAC issues it for one sequence (R330); TAC fills in DEADLINE and STEP -/
  attend : List (List Byte) := []
  /-- SWITCH -/
  ports : SMap SwPort := []
  recov : List Recov := []
  qci : SMap Qci := []
  fdb : List (BitVec 12 × BitVec 48 × List Nat) := []
  /-- CAN acceptance filters and signal tables (R98, R99) -/
  canFilt : List CanFilter := []
  can : SMap Can := []
  sgates : SMap StreamGate := []
  seqGen : List SeqGen := []
  /-- active lanes and skew calibration of a CSI-2 receiver (Table 3.13) -/
  csiLanes : SMap Nat := []
  canSig : SMap CanTable := []
  /-- SOLVER -/
  progs : SMap (List Byte) := []
  patterns : SMap (List Byte) := []
  orders : SMap (List Byte) := []
  trans : SMap (Nat × Nat × List Int) := []
  /-- CAMERAS: nominal extrinsic by camera stream, and the scanner slots bound to it -/
  camExt : SMap (List Int) := []
  camBind : SMap (List Nat) := []
  /-- CAMERAS: parameter block of a camera stream, 64 bytes of Table 4.2 -/
  camBlocks : SMap (List Byte) := []
  /-- FUSION: gate entries by model: MAH, EMB, W and PRE words; publication filters (Table 8.5) -/
  gates : SMap (List Nat) := []
  filters : List (List Byte) := []
  /-- FUSION: coverage table, flocks (flock, pages, LIM), U_MAX, SOURCE -/
  coverage : List (Nat × (Int × Int × Int × Int) × List Nat) := []
  flocks : List (Nat × Nat × Nat) := []
  uMax : Nat := 0
  source : Nat := 0
  /-- TIME: time tree, domain configuration -/
  up : Option (Fin 6) := none
  down : List (Fin 6) := []
  domA : GptpDom := {}
  domB : GptpDom := {}
  logPdelay : Int := 0
  /-- T_0, when the image gives one (R442, R507) -/
  t0 : Option Time := none
  /-- DROVE -/
  pastures : List Pasture := []
  /-- grid dimensions of the drove (Table 14.9) -/
  dimX : Nat := 1
  dimY : Nat := 1
  /-- device numbers the image names for each link port (R602) -/
  peers : SMap Nat := []
  /-- ground plane of the FCU (R145) -/
  ground : Int × Int × Int := (0, 0, 0)
  /-- PATCH -/
  paths : SMap PatchPath := []
  /-- tiles of the test slot, by the default partition 30 and 31 (R139) -/
  testTiles : List Nat := [30, 31]
  /-- SAFETY: swap levels by stage, the watchdog's windows by schedule, compared tracks (R566, R568, R578) -/
  swapLevel : SMap Nat := []
  windows : SMap (List (Int × Int × Int)) := []
  compared : Nat := 0
  /-- CYCLES: claims, in the order LTH compares them (R505) -/
  claims : List Nat := []
  /-- feature bits that the records of the sections need (R518) -/
  needs : List Nat := []
  /-- parts and variants that section records name, with the record's index (R500) -/
  named : List (Nat × PartUse) := []
  /-- TILES: bytes of buffers in each tile's memory beside its image (reason 0x0022) -/
  buffers : SMap Nat := []
  /-- signals the image uses (reason 0x0023) -/
  signals : Nat := 0
  /-- CYCLES: DRAM bytes per step under each schedule (reason 0x0025) -/
  traffic : SMap Nat := []
  /-- perception: tiles of its partition, the networks with their cost per frame and sensor slot, and the test slot's share in thousandths of a
  tile (reason 0x002C) -/
  perception : List Nat := List.range 20
  networks : List (PartUse × Nat) := []
  testShare : Nat := 960
  /-- SOLVER: SHIFT_RES of each batch, µs, and the time to shift and write min(COUNT, 32) problems on 32 lanes (reason 0x0033) -/
  shifts : List (Nat × PartUse) := []
  /-- DRAM regions the image places: first address, length (reason 0x0024) -/
  regions : List (Nat × Nat) := []
  /-- SAFETY: SAFE_MODE (R588) -/
  safeMode : Nat := 0
  /-- failures of checks whose records have no layout in the manual: phase, reason, index -/
  other : List (Nat × Nat × Nat) := []
  deriving DecidableEq, Repr, Inhabited

end Sys2Proof.Machine

namespace Sys2Proof.Config

/-- What the sections of an image (header and plain body) say where the manual gives their records no layout (log entry 17). -/
opaque content : List (BitVec 8) → Sys2Proof.Machine.Content

/-- The cycle table in ROM of a stepping, and its identifier (R500, log entry 17). -/
opaque cycleTable : BitVec 8 → List Sys2Proof.Machine.CycEntry
opaque cycId : BitVec 8 → BitVec 32

end Sys2Proof.Config

namespace Sys2Proof.Machine

/-! ### The header and the section table -/

/-- A section table entry (Table 11.2). -/
structure Sect where
  type : Nat
  opt : Bool
  off : Nat
  len : Nat
  crc : Nat
  sver : Nat
  deriving DecidableEq, Repr, Inhabited

/-- The device knows the TYPE and SVER of a section (R516); the manual gives no layout versions (log entry 17). -/
def Sect.known (t : Sect) : Bool := 1 ≤ t.type && t.type ≤ 0x13 && Config.sverKnown t.type t.sver

/-- The section table of an image (R482). -/
def sections (img : List Byte) : List Sect :=
  (List.range (u img 6 2)).map (fun k =>
    let o := 256 + 32 * k
    { type := u img o 2, opt := bits (u img (o + 2) 2) 0 1 == 1, off := u img (o + 4) 4, len := u img (o + 8) 4,
      crc := u img (o + 12) 4, sver := u img (o + 16) 4 })

/-- The records of a section: COUNT records of RECSIZE bytes after the 16-byte preamble (R484). -/
def records (img : List Byte) (type : Nat) : List (List Byte) :=
  match (sections img).find? (fun t => t.type == type && t.known) with
  | none => []
  | some t =>
    let o := 256 + t.off
    let n := u img o 4
    let sz := u img (o + 4) 4
    (List.range n).map (fun k => (img.drop (o + 16 + k * sz)).take sz)

/-- The DEVICE record (Table 11.4). -/
def deviceRec (img : List Byte) : List Byte := (records img 0x0001).headD []

/-- FCLK_KHZ of an image. -/
def fclk (img : List Byte) : Nat := u (deviceRec img) 0 4

/-- SPARELESS of an image (R29). -/
def spareless (img : List Byte) : Bool := bits (u img 12 4) 1 1 == 1

/-- CONFIG of an image: 0 single, 1 pair, 2 drove. -/
def configOf (img : List Byte) : Nat := bits (u img 12 4) 4 2

/-! ### Cost and time -/

/-- The work counts of R502. -/
structure Counts where
  updated : Nat
  pairs : Nat
  active : Nat
  compared : Nat
  deriving DecidableEq, Repr

/-- The count a part's work is taken from. -/
def Counts.of (c : Counts) : Work → Nat
  | .fixed => 1
  | .updated => c.updated
  | .pairs => c.pairs
  | .active => c.active
  | .compared => c.compared

/-- Quotient rounded up. -/
def ceilDiv (a b : Nat) : Nat := (a + b - 1) / b

/-- The cycle table entry of a part. -/
def cycEntry (tab : List CycEntry) (p : PartUse) : Option CycEntry := tab.find? (fun e => e.part == p.part && e.variant == p.variant)

/-- The cycles of a part, rounded up (R501). -/
def partCycles (tab : List CycEntry) (c : Counts) (p : PartUse) : Nat :=
  match cycEntry tab p with
  | none => 0
  | some e => ceilDiv (p.n * c.of p.work * e.cycles) (e.per * p.units)

/-- The time of a part in ns (R501): its cycles converted at the clock of its entry and rounded up. -/
def partNs (tab : List CycEntry) (f : Nat) (c : Counts) (p : PartUse) : Nat :=
  ceilDiv (partCycles tab c p * 1000000) (if (cycEntry tab p).any (·.island) then 600000 else f)

/-- The time of a stage under a plan and schedule (R503). -/
def stageNs (tab : List CycEntry) (f : Nat) (c : Counts) (shift : Nat) (p : PlanCost) (k : Nat) : Nat :=
  partNs tab f c (p.overhead.getD k default) +
  ((p.groups.getD k []).map (fun g => (g.map (partNs tab f c)).foldl max 0)).sum +
  (if k == 2 then shift * 1000 else 0)

/-- Stages in order. -/
abbrev stages : List Nat := [0, 1, 2, 3, 4]

/-- OPEN, CLOSE and MIN of a stage's window. -/
def Sched.w (d : Sched) (k : Nat) : Int × Int × Int := d.win.getD k (0, 0, 0)

/-- The windows of a schedule are well formed (R504). -/
def windowsOk (d : Sched) : Bool :=
  250 ≤ d.cadence && d.cadence ≤ 10000 &&
  (d.w 0).1 == -(d.cutoff : Int) &&
  stages.all (fun k => decide ((d.w k).1 < (d.w k).2.1) && decide ((d.w k).2.2 ≤ (d.w k).2.1 - (d.w k).1)) &&
  [0, 1, 2, 3].all (fun k => decide ((d.w k).2.1 ≤ (d.w (k + 1)).1)) &&
  (d.w 4).2.1 == 0 && d.cutoff + 25 ≤ d.cadence

/-- First of a list of optional failures. -/
def firstSome {α : Type} : List (Option α) → Option α
  | [] => none
  | some a :: _ => some a
  | none :: l => firstSome l

/-- The time checks of R503 over given schedules: reason and index of the first that fails. -/
def fitTime (ct : Content) (tab : List CycEntry) (f : Nat) (c : Counts) (scheds : List (Nat × Sched)) : Option (Nat × Nat) :=
  let plans := (List.range ct.costs.length).map (fun p => (p, ct.costs.getD p default))
  let each (g : Nat → Sched → Nat → PlanCost → Option (Nat × Nat)) : Option (Nat × Nat) :=
    firstSome (scheds.flatMap (fun (i, d) => plans.map (fun (p, pc) => g i d p pc)))
  let win (d : Sched) (k : Nat) : Nat := (((d.w k).2.1 - (d.w k).1) * 1000).toNat
  let t (i : Nat) (pc : PlanCost) (k : Nat) : Nat := stageNs tab f c (ct.shiftRes.getD i 0) pc k
  firstSome [
    firstSome (scheds.map (fun (i, d) => if windowsOk d then none else some (0x0028, 256 * i))),
    each (fun i d p pc => firstSome (stages.map (fun k => if t i pc k ≤ win d k then none else some (0x0029, 256 * i + 16 * p + k)))),
    each (fun i d p pc => if (stages.map (t i pc)).sum * 10 ≤ d.cadence * 1000 * 9 then none else some (0x002A, 256 * i + 16 * p)),
    each (fun i d p pc =>
      if d.cadence * 1000 < partNs tab f c pc.ahead + win d 1 then some (0x002B, 256 * i + 16 * p + 1)
      else if d.cadence * 1000 < partNs tab f c ct.aheadPredict + win d 2 then some (0x002B, 256 * i + 16 * p + 2)
      else none)]

/-! ### Runtime additions (R512 to R515) -/

/-- The content of the applied image; with none, nothing. -/
def State.content (s : State) : Content := if s.lth.applied.isEmpty then {} else Config.content s.lth.applied

/-- FLD_PAIR_K, and TAC_ACTIVE_MAX, the worst cases with which the limits are judged (R364, R502). -/
def State.counts (s : State) (extraDet : Nat) : Counts :=
  { updated := min s.content.uMax (s.regN Reg.TAC_ACTIVE_MAX), pairs := (s.lth.detSum + extraDet) * s.regN Reg.FLD_PAIR_K,
    active := s.regN Reg.TAC_ACTIVE_MAX, compared := s.content.compared }

/-- The schedules a runtime addition must fit: the one in force, and one requested and accepted (R514). -/
def State.fitScheds (s : State) : List (Nat × Sched) :=
  let get (i : Nat) : List (Nat × Sched) := ((SMap.find? s.csq.scheds i).map (fun d => (i, d))).toList
  get s.csq.sched ++ (match s.csq.change with
    | some (i, _) => if i == s.csq.sched then [] else get i
    | none => [])

/-- The runtime fit check of extra detections (R364, R512): the pair bound, then the time of the schedules given. -/
def State.fitNow (s : State) (extraDet : Nat) (scheds : List (Nat × Sched)) : Option (Nat × Nat) :=
  if 65536 < (s.counts extraDet).pairs then some (0x0027, 0)
  else fitTime s.content (Config.cycleTable s.part.stepping) s.lth.fclk (s.counts extraDet) scheds

/-- A runtime request is refused by the fit check: LTH_REASON reports it (R489, R512), and it is counted (LTH_RT_CNT). -/
def State.rtRefuse (s : State) (r : Nat × Nat) : State :=
  (s.setReg Reg.LTH_REASON (BitVec.ofNat 32 (r.1 + 65536 * r.2)))

/-- Count a runtime request accepted or refused (Table 11.10). -/
def State.rtCount (s : State) (ok : Bool) : State := s.countSat Reg.LTH_RT_CNT (if ok then 0 else 16) 16 1

end Sys2Proof.Machine
end

