-- ==== Sys2Proof/Machine/SicOps.lean ====
section
/-! DEFINITION. Machine/SicOps.lean: sensor slots, their records and states, violations, quarantine, exclusion, admission and release
(03_sensor_ingress.md), used by every ingress command and by the link ports of 14_pair_and_drove.md. -/

namespace Sys2Proof.Machine

/-! ### Records and slots -/

/-- Bytes of a record's descriptor (Table 3.8; the descriptor begins at byte 64 of the SLOTS record, Table 3.16). -/
def d (rec : List Byte) (off n : Nat) : Nat := u rec (64 + off) n

abbrev recKind (r : List Byte) : Nat := d r 0 1
abbrev recPort (r : List Byte) : Nat := d r 1 1
abbrev recVc (r : List Byte) : Nat := bits (d r 2 1) 0 4
abbrev recDt (r : List Byte) : Nat := d r 3 1
abbrev recFilter (r : List Byte) : Nat := d r 4 2
abbrev recUdp (r : List Byte) : Nat := d r 6 2
abbrev recMac (r : List Byte) : Nat := d r 8 6
abbrev recVlan (r : List Byte) : Nat := bits (d r 14 2) 0 12
abbrev recFlock (r : List Byte) : Nat := bits (d r 16 2) 0 12
abbrev recTol (r : List Byte) : Nat := d r 18 2
abbrev recPeriod (r : List Byte) : Nat := d r 20 4
abbrev recSource (r : List Byte) : Nat := d r 24 2
abbrev recPath (r : List Byte) : Nat := d r 26 1
abbrev recPrio (r : List Byte) : Nat := d r 27 1
abbrev recFlags (r : List Byte) : Nat := d r 28 1
abbrev recDetMax (r : List Byte) : Nat := u r 4 2

/-- Slot kinds (Table 3.8). -/
abbrev kCamera : Nat := 1
abbrev kScanner : Nat := 2
abbrev kPartner : Nat := 3
abbrev kCan : Nat := 4
abbrev kImu : Nat := 5

/-- A sensor slot. -/
def State.slot (s : State) (n : Nat) : Slot := SMap.get {} s.sic.slots n

/-- Set a sensor slot. -/
def State.setSlot (s : State) (n : Nat) (x : Slot) : State := { s with sic := { s.sic with slots := SMap.put {} s.sic.slots n x } }

/-- STATE code of Table 3.7. -/
def SlotSt.code : SlotSt → Nat
  | .unbound => 0
  | .present => 1
  | .silent => 2
  | .quarantined => 3
  | .admitting => 4
  | .excluded => 5

/-- A slot is bound. -/
def Slot.bound (x : Slot) : Bool := x.st != .unbound

/-- Initiator ID under which a slot's port enters the network (R78, Table 3.1): the CSI-2 receiver's, the switch intake's, CAN and IMU ports,
or the point-packet decoder's. -/
def slotId (r : List Byte) : Nat :=
  match recKind r with
  | 1 => 0x070 + recPort r
  | 2 => 0x07E
  | 3 => 0x07C
  | _ => 0x07D

/-- EXT of a record's descriptor, 16 bytes (Table 3.8). -/
def recExt (r : List Byte) : List Byte := (r.drop 112).take 16

/-- The bound slots, ascending. -/
def State.boundSlots (s : State) : List Nat := (s.sic.slots.filter (fun p => p.2.bound)).map (·.1)

/-- The lowest bound slot whose record meets a condition. -/
def State.findSlot (s : State) (f : List Byte → Bool) : Option Nat := s.boundSlots.find? (fun n => f (s.slot n).record)

/-- The unit code of the port a record names (Table 3.9 "Port"). -/
def recUnit (r : List Byte) : Nat :=
  match recKind r with
  | 1 => 256 + recPort r
  | 4 => 288 + recPort r
  | 5 => 296 + recPort r
  | _ => 272 + recPort r

/-- Unit code of a counting unit. -/
def QUnit.code : QUnit → Nat
  | .slot n => n.toNat
  | .csi p => 256 + p
  | .eth q => 272 + q
  | .can n => 288 + n
  | .imu n => 296 + n
  | .slk p => 304 + p

/-- Number of a unit within its kind (event data of Table 3.17). -/
def unitNo (k : Nat) : Nat :=
  if k < 256 then k else if k < 272 then k - 256 else if k < 288 then k - 272 else if k < 296 then k - 288 else if k < 304 then k - 296 else k - 304

/-- Two source matches are identical (R118, R756). -/
def sameSource (a b : List Byte) : Bool :=
  recKind a == recKind b &&
  (match recKind a with
   | 1 => recPort a == recPort b && recVc a == recVc b && recDt a == recDt b
   | 2 => recVlan a == recVlan b && recMac a == recMac b && recUdp a == recUdp b
   | 3 => recVlan a == recVlan b && recMac a == recMac b && recUdp a == recUdp b && recSource a == recSource b
   | 4 => recPort a == recPort b && recFilter a == recFilter b
   | _ => recPort a == recPort b)

/-! ### Steps as violations count them -/

/-- The present step reaches step `n`: steps move with the cycle while it runs, otherwise device time reaches the period (R127). -/
def State.reachStep (s : State) (n : Nat) : Option State :=
  if s.csq.running then (if n ≤ s.stepNo then some s else none) else some (s.reach (n * msT))

/-! ### Violations and quarantine -/

/-- The numbering of steps for violations changes with RUN (R127): the numbers kept move with it, so that the distances in steps stay. -/
def State.renumber (s : State) (old new : Nat) : State :=
  let m (n : Nat) : Nat := n + new - old
  let vrec := s.sic.vrec.map (fun (k, (v : VRec)) =>
    (k, { v with viols := v.viols.map m, logged := v.logged.map m, hold := v.hold.map m }))
  { s with sic := { s.sic with
      vrec := vrec
      sources := s.sic.sources.map (fun c => { c with appear := c.appear.map m, refused := c.refused.map m })
      qciFreed := s.sic.qciFreed.map (fun (f, n) => (f, m n))
      ports := s.sic.ports.map (fun (q, (x : SwPort)) => (q, { x with sqiFrom := x.sqiFrom.map m }))
      paths := s.sic.paths.map (fun (k, (x : PatchPath)) => (k, { x with badStep := m x.badStep, tried := x.tried.map m })) } }

/-- Violation record of a unit. -/
def State.vrec (s : State) (k : Nat) : VRec := SMap.get {} s.sic.vrec k

/-- Set a violation record. -/
def State.setVrec (s : State) (k : Nat) (v : VRec) : State := { s with sic := { s.sic with vrec := SMap.put {} s.sic.vrec k v } }

/-- Event 0x0383 with the unit's number (Table 3.17). -/
def State.quarEvent (s : State) (k : Nat) : State :=
  s.event 0x03 2 0x0383 0 [BitVec.ofNat 8 (unitNo k), if k < 256 then 0 else 1]

/-- A slot enters QUARANTINED for violations or a command of its own, and its hold starts (R129, R130, R152); an EXCLUDED one stays so
(R132). -/
def State.quarSlot (s : State) (n : Nat) : State :=
  let x := s.slot n
  if x.st == .excluded || x.st == .unbound then s
  else
    let s := s.setVrec n { s.vrec n with hold := some s.stepNo }
    (s.setSlot n { x with st := .quarantined, good := 0, patchOk := false }).quarEvent n

/-- A port is held, and every slot bound to it enters QUARANTINED with it (R129). -/
def State.quarPort (s : State) (k : Nat) : State :=
  let s := s.setVrec k { s.vrec k with hold := some s.stepNo }
  let s := { s with sic := { s.sic with heldPorts := if s.sic.heldPorts.contains k then s.sic.heldPorts else k :: s.sic.heldPorts } }
  let s := s.quarEvent k
  s.boundSlots.foldl (fun s n =>
    let x := s.slot n
    if recUnit x.record == k && x.st != .excluded && x.st != .quarantined then
      (s.setSlot n { x with st := .quarantined, byPort := true, good := 0, patchOk := false }).quarEvent n
    else if recUnit x.record == k && x.st == .quarantined then s.setSlot n { x with byPort := true }
    else s) s

/-- Quarantine of a link port holds it (R630). -/
def State.quarLink (s : State) (k : Nat) : State :=
  let s := s.setVrec k { s.vrec k with hold := some s.stepNo }
  let l : LinkPort := SMap.get {} s.slk.ports (k - 304)
  { s with slk := { s.slk with ports := SMap.put {} s.slk.ports (k - 304) { l with held := true, quar := true, good := 0, helloOk := false, echoOk := false } } }.quarEvent k

/-- Start a unit's hold. -/
def State.quarantine (s : State) (k : Nat) : State :=
  if k < 256 then s.quarSlot k else if k < 304 then s.quarPort k else s.quarLink k

/-- At least THRESH violations, the newest fewer than WINDOW steps after the oldest of the last THRESH (R128). -/
def State.overThresh (s : State) (v : VRec) : Bool :=
  let t := s.fld' Reg.SIC_VIOL 0 8
  match v.viols.head?, v.viols[t - 1]? with
  | some a, some b => decide (1 ≤ t) && decide (a < b + s.fld' Reg.SIC_VIOL 16 16)
  | _, _ => false

/-- A protocol violation is counted, logged at most once per unit and step, and judged for quarantine (R126 to R130, Table 3.9). -/
def State.violate (s : State) (k kind : Nat) : State :=
  let v := s.vrec k
  let step := s.stepNo
  let s := if v.logged == some step then s
    else s.event (if k < 304 then 0x03 else 0x10) 1 ((if k < 304 then 0x0300 else 0x1100) + kind) PARTNER_VIOLATION
      [BitVec.ofNat 8 (unitNo k), if k < 256 then 0 else 1]
  let v := { v with viols := (step :: v.viols).take 255, total := satAdd 32 v.total 1, logged := some step }
  let s := s.setVrec k v
  let s := if 304 ≤ k then s.countSat (Reg.SLK_P_VIOL (k - 304)) 0 32 1 else s
  if v.hold.isSome then s
  else if k < 256 && (s.slot k).st == .admitting then s.quarantine k
  else if s.overThresh v then s.quarantine k
  else s

/-- ADMITTING begins: the consistent samples, the patch test and the leave timeout count afresh (R123, R130, R131). -/
def State.startAdmitting (s : State) (n : Nat) : State :=
  (s.setVrec n { s.vrec n with hold := none }).setSlot n
    { s.slot n with st := .admitting, byPort := false, good := 0, patchOk := false, lastRx := s.now }

/-- The hold of a unit has lasted SIC_QUAR_HOLD steps and ends (R130, R630). -/
def State.endHold (s : State) (k : Nat) : State :=
  match (s.vrec k).hold with
  | none => s
  | some h =>
    match s.reachStep (h + s.regN Reg.SIC_QUAR_HOLD) with
    | none => s
    | some s =>
      let s := s.setVrec k { s.vrec k with hold := none }
      if k < 256 then
        let x := s.slot k
        if x.st == .quarantined && !(x.byPort && s.sic.heldPorts.contains (recUnit x.record)) then s.startAdmitting k else s
      else if k < 304 then
        let s := { s with sic := { s.sic with heldPorts := s.sic.heldPorts.filter (· != k) } }
        s.boundSlots.foldl (fun s n =>
          let x := s.slot n
          if x.st == .quarantined && x.byPort && recUnit x.record == k then
            if (s.vrec n).hold.isSome then s.setSlot n { x with byPort := false } else s.startAdmitting n
          else s) s
      else s

/-- A slot enters EXCLUDED (R132, R142, R180, R394, R395), with event 0x0384. -/
def State.exclude (s : State) (n cause : Nat) : State :=
  let x := s.slot n
  if x.st == .unbound || x.st == .excluded then s
  else
    let s := s.setVrec n { s.vrec n with hold := none }
    (s.setSlot n { x with st := .excluded, byPort := false, good := 0, patchOk := false }).event 0x03 2 0x0384 0
      [BitVec.ofNat 8 n, BitVec.ofNat 8 cause]

/-! ### Samples -/

/-- The slots a patch path tests: the image's, and those bound at run time whose PATCH_PATH names it (R123, Table 3.8). -/
def State.pathSlots (s : State) (k : Nat) (x : PatchPath) : List Nat :=
  match x.slot with
  | none => []
  | some n => s.boundSlots.filter (fun m => m == n || ((s.slot m).runtime && recPath (s.slot m).record == k))

/-- A patch not yet complete yields to real data: it is discarded and injected again; a retest does not yield (R138, R141). -/
def PatchPath.yielded (x : PatchPath) (now : Time) : PatchPath :=
  if x.injected.isSome && decide (now < x.complete) && !x.retest then { x with injected := none, inBuf := false } else x

/-- Real data of some slots reaches the insertion point: patches of their paths yield (R138). -/
def State.yieldPatch (s : State) (slots : List Nat) : State :=
  { s with sic := { s.sic with paths := s.sic.paths.map (fun (k, x) =>
      (k, if (s.pathSlots k x).any slots.contains then x.yielded s.now else x)) } }

/-- A real packet reaches the FCU: the patch of the FCU path yields (R138, Table 3.10). -/
def State.yieldFcu (s : State) : State :=
  { s with sic := { s.sic with paths := s.sic.paths.map (fun (k, x) => (k, if x.slot.isNone then x.yielded s.now else x)) } }

/-- The patch test runs: PATCH_EN set and FEAT_PATCH locked (R123). -/
def State.patchRuns (s : State) : Bool := s.bit Reg.SIC_CTRL 3 && s.feat 1

/-- An ADMITTING slot that has met its tests becomes PRESENT (R123). -/
def State.admitPass (s : State) (n : Nat) : State :=
  let x := s.slot n
  if x.st == .admitting && decide (s.regN Reg.SIC_READMIT_N ≤ x.good) && (x.patchOk || !s.patchRuns) then s.setSlot n { x with st := .present }
  else s

/-- A sample of the slot arrived (R115, R124). Every sample but a list at L0 restarts the silence time, a malformed or violating one too
(DESIGN CHOICE, log entry 34: R115 speaks of no sample and R111 excepts only the list). -/
def State.received (s : State) (n : Nat) : State := s.setSlot n { s.slot n with lastRx := s.now }

/-- A consistent sample: LAST_STEP, SILENT to PRESENT, and the count of R123 (R113, R116, Table 3.7). -/
def State.consistent (s : State) (n : Nat) : State :=
  let x := s.slot n
  let x := { x with lastStep := s.stepNo, st := if x.st == .silent then .present else x.st,
                    good := if x.st == .admitting then x.good + 1 else x.good }
  (s.setSlot n x).admitPass n

/-- A sample that is not consistent, and no violation either: the count of R123 starts again, for its samples are consecutive. -/
def State.inconsistent (s : State) (n : Nat) : State := s.setSlot n { s.slot n with good := 0 }

/-- A sample is forwarded only from a PRESENT slot (R80). -/
def State.forwards (s : State) (n : Nat) : Bool := (s.slot n).st == .present

/-- A sample goes on to DML, EGO and FLD under its port's initiator ID (R78, R80). -/
def State.handOn (s : State) (n row : Nat) (t : Time) (bs : List Byte) : State :=
  { s with sic := { s.sic with items := { slot := n, row := row, time := t, bytes := bs, id := slotId (s.slot n).record } :: s.sic.items } }

/-- A time lies within TIME_TOL of an arrival (R116): not after it, and not more than TIME_TOL before it. Both in ns. -/
def inTol (r : List Byte) (t arr : Int) : Bool := decide (t ≤ arr) && decide (arr - t ≤ recTol r * 100000)

/-! ### Binding, admission, release -/

/-- The form checks of R118 and R752 on a record of RKIND 1 for a slot. -/
def recordOk (r : List Byte) (slot : Nat) : Bool :=
  let k := recKind r
  r.length == 128 && u r 0 1 == 1 && bits (u r 1 1) 1 7 == 0 && u r 2 2 == slot && decide (slot < 256) &&
  u r 4 2 ≤ 4096 && u r 6 1 ≤ 7 && (k == kPartner || k == kCan || u r 6 1 == 0) && allZero r 7 9 &&
  (k == kScanner || allZero r 16 48) &&
  1 ≤ k && k ≤ 5 &&
  (match k with | 1 => decide (recPort r ≤ 11) | 4 => decide (recPort r ≤ 3) | 5 => decide (recPort r ≤ 1) | _ => decide (recPort r ≤ 11)) &&
  bits (d r 2 1) 4 4 == 0 && bits (d r 14 2) 12 4 == 0 && bits (d r 16 2) 12 4 == 0 && bits (recFlags r) 5 3 == 0 && d r 29 7 == 0 &&
  bits (d r 36 1) 4 4 == 0 && d r 37 3 == 0

/-- The record with the fields the SIC sets itself cleared and RUNTIME as given (R751, R752). -/
def ownFields (r : List Byte) (runtime : Bool) : List Byte :=
  let r := patch r (64 + 28) [BitVec.ofNat 8 (setBits (recFlags r) 0 1 (if runtime then 1 else 0))]
  patch (patch r (64 + 36) [0]) (64 + 40) (List.replicate 8 0)

/-- Number of bound slots of a kind. -/
def State.kindCount (s : State) (k : Nat) : Nat := (s.boundSlots.filter (fun n => recKind (s.slot n).record == k)).length

/-- FCU entry of a slot with ROWS, COLS and an elevation range (R753). -/
def State.fcuEntry (s : State) (slot : Nat) : Option Nat :=
  (List.range 16).find? (fun f =>
    let c := Reg.SIC_FCU_CFG f
    s.fld' c 20 8 == slot && s.fld' c 0 8 != 0 && s.fld' c 8 12 != 0 &&
    decide (toSigned 16 (s.fld' (Reg.SIC_FCU_ELEV f) 0 16) < toSigned 16 (s.fld' (Reg.SIC_FCU_ELEV f) 16 16)))

/-- A Qci filter of the 512 is free; one freed in the present step is available from the next (R89). -/
def State.qciFree (s : State) (f : Nat) : Bool :=
  decide (f < 512) && (SMap.find? s.sic.qci f).isNone && !s.sic.qciFreed.any (fun (g, k) => g == f && k == s.stepNo)

/-- The lowest free Qci filter (R89). -/
def State.freeQci (s : State) : Option Nat := (List.range 512).find? s.qciFree

/-- Partner slots charged to a flock (R119). -/
def State.partnerSlots (s : State) (flock : Nat) : Nat :=
  (s.boundSlots.filter (fun n => (s.slot n).runtime && recKind (s.slot n).record == kPartner && recFlock (s.slot n).record == flock)).length

/-- The limits of R119 and R753: reason and index of the first that an admission breaks. -/
def State.admitFit (s : State) (slot : Nat) (r : List Byte) : Option (Nat × Nat) :=
  if (recKind r == kCamera && 48 ≤ s.kindCount kCamera) || (recKind r == kScanner && 16 ≤ s.kindCount kScanner) ||
     ((recKind r == kScanner || recKind r == kPartner) && s.freeQci.isNone) ||
     (recKind r == kScanner && bits (recFlags r) 2 1 == 1 && (s.fcuEntry slot).isNone) then some (0x0026, slot)
  else s.fitNow (recDetMax r) s.fitScheds

/-- Every refusal that applies to an ADMIT (R118, R119, R152, R515, R752), DONE with none: the numerically highest is reported (R40). -/
def State.admitCode (s : State) (slot : Nat) (r : List Byte) : Nat :=
  topCode
    ((if recordOk r slot && !(recKind r == kCan && recPort r == 3) && !s.boundSlots.any (fun n => sameSource (s.slot n).record r) then [] else [REFUSED_DESCRIPTOR]) ++
     (if (s.slot slot).bound || s.lthState != 3 then [REFUSED_STATE] else []) ++
     (if recKind r == kPartner && decide (s.fld' (Reg.TAC_FLOCK_LIM (recFlock r)) 20 8 ≤ s.partnerSlots (recFlock r)) then [REFUSED_QUOTA] else []) ++
     (if (s.admitFit slot r).isSome then [REFUSED_FIT] else []))

/-- Camera streams start afresh: a stream's first frame after a binding has no previous exposure (R57). -/
def State.clearExp (s : State) : State :=
  { s with tbu := { s.tbu with camExp := [], camStale := [] } }.setBit Reg.TBU_STATUS 7 false

/-- The camera streams whose parameter block names a slot start afresh (R57, Table 4.2). -/
def State.clearSlotExp (s : State) (n : Nat) : State :=
  let keep (p : Nat × Nat) : Bool := u (s.regBytes (Reg.PAE_CAM p.1 0) 2) 6 1 != n
  let stale := s.tbu.camStale.filter keep
  { s with tbu := { s.tbu with camExp := s.tbu.camExp.filter keep, camStale := stale } }.setBit Reg.TBU_STATUS 7 (stale.any (fun p => p.2 != 0))

/-- Bind a record to a slot at run time: ADMITTING, RUNTIME set, its detections and Qci filter charged (R89, R114, R502, R751): the filter
its record names where that is free, otherwise the lowest free one (DESIGN CHOICE, log entry 29). -/
def State.bindRuntime (s : State) (slot : Nat) (r : List Byte) : State :=
  let r := ownFields r true
  let eth := recKind r == kScanner || recKind r == kPartner
  let f := if s.qciFree (recFilter r) then recFilter r else s.freeQci.getD 0
  let r := if eth then patch r (64 + 4) (leBytes 2 f) else r
  let flt : Qci := { stream := .src (BitVec.ofNat 48 (recMac r)) (BitVec.ofNat 12 (recVlan r)) }
  let s := if eth then { s with sic := { s.sic with qci := SMap.insert s.sic.qci f flt } } else s
  let s := (s.setSlot slot { record := r, st := .admitting, runtime := true, lastRx := s.now }).setVrec slot {}
  let s := if recKind r == kCamera then s.clearSlotExp slot else s
  { s with lth := { s.lth with detSum := s.lth.detSum + recDetMax r } }

/-- An ADMIT of a record to a slot is judged and carried out; its status code (R118, R119, R512). -/
def State.admitRec (s : State) (slot : Nat) (r : List Byte) : Nat × State :=
  let c := s.admitCode slot r
  if c == DONE then (DONE, (s.bindRuntime slot r).rtCount true)
  else
    let s := s.rtCount false
    (c, match s.admitFit slot r with
      | some f => s.rtRefuse f
      | none => s)

/-- Release a slot to UNBOUND: its counters are cleared, its Qci filter and budget returned (R124, R133, R152, R515); a
PAE_CAL_CMD that waits for its boundary ends with REFUSED_STATE (R194; DESIGN CHOICE, log entry 29). -/
def State.releaseSlot (s : State) (n : Nat) (log : Bool) : State :=
  let x := s.slot n
  let eth := recKind x.record == kScanner || recKind x.record == kPartner
  let waits := (SMap.get {} s.pae.cal n).cmd.isSome
  let s := (((s.setSlot n {}).setVrec n {}).setReg (Reg.SIC_SLOTSTAT n 0) 0).setReg (Reg.SIC_SLOTSTAT n 1) 0
  let s := if eth then { s with sic := { s.sic with qci := SMap.erase s.sic.qci (recFilter x.record),
                                                    qciFreed := (recFilter x.record, s.stepNo) :: s.sic.qciFreed } } else s
  let s := { s with lth := { s.lth with detSum := s.lth.detSum - recDetMax x.record },
                    pae := { s.pae with cal := SMap.erase s.pae.cal n },
                    sic := { s.sic with sources := s.sic.sources.map (fun c => { c with waitSlot := false }) } }
  let s := if waits then (s.setFld Reg.PAE_CAL_CMD_ST 0 8 REFUSED_STATE).setBit Reg.PAE_CAL_CMD_ST 16 false else s
  if log then s.event 0x03 0 0x0381 0 [BitVec.ofNat 8 n] else s

/-! ### What registers show of the slots -/

/-- The descriptor as SIC_SLOTs shows it, with the fields the SIC keeps (Table 3.8). An unbound slot reads zero throughout, as the register
index gives the window's reset (Table 3.13; Table 3.8 gives its TIME_TOL field 50: DESIGN CHOICE, log entry 34). -/
def State.slotDesc (s : State) (n : Nat) : List Byte :=
  let x := s.slot n
  if !x.bound then List.replicate 64 0
  else
    let b := patch (x.record.drop 64) 36 [BitVec.ofNat 8 x.st.code]
    patch b 40 (leBytes 4 (s.vrec n).total ++ leBytes 4 x.lastStep)

/-- SIC_STATUS (Table 3.13). -/
def State.sicStatus (s : State) : Nat :=
  (if s.sic.slots.any (fun p => p.2.st == .quarantined) then 1 else 0) + (if s.sic.slots.any (fun p => p.2.st == .excluded) then 2 else 0) +
  (if s.sic.heldPorts.isEmpty then 0 else 4) + (if s.sic.forcedLast then 8 else 0)

/-- SIC_PORT_HELD (Table 3.13). -/
def State.portHeld (s : State) : Nat :=
  (s.sic.heldPorts.map (fun k =>
    if k < 272 then 2 ^ (k - 256) else if k < 288 then 2 ^ (12 + (k - 272)) else if k < 296 then 2 ^ (24 + (k - 288)) else 2 ^ (27 + (k - 296)))).sum

end Sys2Proof.Machine
end

