-- ==== Sys2Proof/Machine/LinkOps.lean ====
section
/-! DEFINITION. Machine/LinkOps.lean: sending on the Salarur Link: roles, routes and the retry buffer (R597 to R600). The manual gives most
payloads no layout; the bytes sent are the fields of the frame in the order Table 14.2 and its rules name them (log entry 19). -/

namespace Sys2Proof.Machine

/-- Role of a link port (R597): 0 UNUSED, 1 PAIR, 2 TORUS_XP, 3 TORUS_XN, 4 TORUS_YP, 5 TORUS_YN. -/
def State.linkRole (s : State) (p : Nat) : Nat := s.fld' Reg.SLK_PORT_CFG (4 * p) 4

/-- A link port. -/
def State.linkPort (s : State) (p : Nat) : LinkPort := SMap.get {} s.slk.ports p

/-- Set a link port. -/
def State.setLinkPort (s : State) (p : Nat) (x : LinkPort) : State := { s with slk := { s.slk with ports := SMap.put {} s.slk.ports p x } }

/-- A port is powered and enabled: its PHY's domain 82 + p (Table 16.1) and SLK_CTRL.EN. -/
def State.linkOn (s : State) (p : Nat) : Bool := s.powered (82 + p) && s.powered 92 && s.bit Reg.SLK_CTRL 0

/-- Device number, CONFIG and the torus dimensions (Table 14.9). -/
def State.devNo (s : State) : Nat := s.fld' Reg.SLK_DEVNO 0 6
def State.slkConfig (s : State) : Nat := s.fld' Reg.SLK_CTRL 1 2
def State.dimX (s : State) : Nat := s.fld' Reg.SLK_DEVNO 8 3 + 1
def State.dimY (s : State) : Nat := s.fld' Reg.SLK_DEVNO 12 3 + 1

/-- The epoch held (R604). -/
def State.epoch (s : State) : Nat := s.regN Reg.SLK_EPOCH

/-- The port with a role. -/
def State.portOf (s : State) (role : Nat) : Option Nat := (List.range 6).find? (fun p => s.linkRole p == role)

/-- The port role that leads from a position `a` to `b` along a ring of `n`: the shorter way, ties positive. -/
def ringRole (a b n pos neg : Nat) : Option Nat :=
  let k := (b + n - a % n) % n
  if k == 0 then none else if 2 * k ≤ n then some pos else some neg

/-- The port towards a device: the pair port, or dimension-ordered in a torus (R600). -/
def State.routeTo (s : State) (n : Nat) : Option Nat :=
  if s.slkConfig == 1 then s.portOf 1
  else if s.slkConfig == 2 then
    let x := s.dimX
    let me := s.devNo
    match ringRole (me % x) (n % x) x 2 3 with
    | some r => s.portOf r
    | none =>
      match ringRole (me / x) (n / x) s.dimY 4 5 with
      | some r => s.portOf r
      | none => none
  else none

/-- The role of the local port over which frames of a device arrive (R600). -/
def State.arrivesOver (s : State) (src : Nat) : Option Nat :=
  if s.slkConfig == 1 then (if src == s.devNo then none else some 1)
  else
    let x := s.dimX
    let me := s.devNo
    match ringRole (src / x) (me / x) s.dimY 5 4 with
    | some r => some r
    | none => ringRole (src % x) (me % x) x 3 2

/-- A device is in the membership map (Table 14.9). -/
def State.member (s : State) (n : Nat) : Bool := s.bit (if n < 32 then Reg.SLK_MEMBERS_LO else Reg.SLK_MEMBERS_HI) (n % 32)

/-- Set or clear a member. -/
def State.setMember (s : State) (n : Nat) (v : Bool) : State :=
  s.setBit (if n < 32 then Reg.SLK_MEMBERS_LO else Reg.SLK_MEMBERS_HI) (n % 32) v

/-- The 32 bytes of a frame's header, its HCRC last (Table 14.1). -/
def LinkOut.header (f : LinkOut) : List Byte :=
  let b := leBytes 1 f.type ++ leBytes 1 f.flags ++ leBytes 2 f.payload.length ++ leBytes 1 (f.src % 64) ++ leBytes 1 (f.dst % 64) ++ [0, 0] ++
    leBytes 4 f.epoch ++ leBytes 4 f.lseq ++ leBytes 8 f.step ++ leBytes 4 0
  b ++ leBytes 4 (crc32c b).toNat

/-- A frame as it goes out: header, payload, CRC-32C of the payload (R598). -/
def LinkOut.bytes (f : LinkOut) : List Byte := f.header ++ f.payload ++ leBytes 4 (crc32c f.payload).toNat

/-- Size of a frame in the retry buffer. -/
def LinkOut.size (f : LinkOut) : Nat := f.bytes.length

/-- Frames of the pair and drove levels need a port that has come up in full and is not held; a held port sends LINK_CTL, HELLO and ECHO
only (R602, R630). -/
def LinkPort.sends (x : LinkPort) (type : Nat) : Bool :=
  x.up && (if x.held then type == 1 || type == 2 || type == 6 else if type < 0x10 then true else x.phase == 5)

/-- Bytes of whole 8-byte words (R598). -/
def pad8 (b : List Byte) : List Byte := b ++ List.replicate ((8 - b.length % 8) % 8) 0

/-- A LINK_CTL frame: 1 byte NAK, LSEQ (R599). It takes no LSEQ of its own (DESIGN CHOICE, log entry 19). -/
def State.linkCtl (s : State) (p : Nat) (nak : Bool) (lseq : Nat) : State :=
  s.emit (.link ⟨p, 1, s.devNo, 0, s.epoch, 0, 0, pad8 ([if nak then 1 else 0] ++ leBytes 4 lseq), 0⟩)

/-- Frames that wait move into the retry buffer of 128 KiB and leave while they fit (R599). -/
def State.linkPump (s : State) (p : Nat) : Nat → State
  | 0 => s
  | fuel + 1 =>
    let x := s.linkPort p
    match x.txq with
    | [] => s
    | f :: r =>
      if (x.retry.map LinkOut.size).sum + f.size ≤ 131072 then
        let f := { f with lseq := x.txSeq }
        let x := { x with txq := r, retry := x.retry ++ [f], txSeq := (x.txSeq + 1) % 2 ^ 32, ackAt := if x.retry.isEmpty then s.now else x.ackAt }
        ((s.setLinkPort p x).emit (.link f)).linkPump p fuel
      else s

/-- Queue a frame on its port. -/
def State.linkPost (s : State) (f : LinkOut) : State :=
  let x := s.linkPort f.port
  if s.linkOn f.port && x.sends f.type then
    (s.setLinkPort f.port { x with txq := x.txq ++ [f] }).linkPump f.port (x.txq.length + 1)
  else s

/-- Queue a frame on a port at the epoch held. -/
def State.linkSendFlags (s : State) (p type src dst step flags : Nat) (payload : List Byte) : State :=
  s.linkPost ⟨p, type, src, dst, s.epoch, 0, step, pad8 payload, flags⟩

/-- Queue a frame without flags. -/
def State.linkSendFrom (s : State) (p type src dst step : Nat) (payload : List Byte) : State := s.linkSendFlags p type src dst step 0 payload

/-- Send a frame of this device on a port. -/
def State.linkSend (s : State) (p type dst step : Nat) (payload : List Byte) : State := s.linkSendFrom p type s.devNo dst step payload

/-- The fields of a HELLO frame (Table 14.2): device number, stepping, 256-bit offered features, GROUP_DIGEST, stored epoch, torus position. -/
def State.helloBytes (s : State) : List Byte :=
  leBytes 1 s.devNo ++ leBytes 1 s.part.stepping.toNat ++ leBytes 32 s.featDev ++ (leBytes 48 s.slk.digest.toNat).reverse ++ leBytes 4 s.epoch ++
    leBytes 1 (s.devNo % s.dimX) ++ leBytes 1 (s.devNo / s.dimX)

/-- Send a HELLO; ACK_REQ asks the peer for its own (log entry 19). -/
def State.sendHello (s : State) (p : Nat) (ask : Bool) : State :=
  s.linkSendFlags p 2 s.devNo (s.linkPort p).expect 0 (if ask then 1 else 0) s.helloBytes

/-- Send an ECHO: 1,024 bytes of PRBS31, or their return with the CRC-32C (Table 14.2). -/
def State.sendEcho (s : State) (p : Nat) (reply : Bool) : State :=
  let b := fit 1024 Config.prbs31
  s.linkSend p 6 (s.linkPort p).expect 0 (if reply then b ++ leBytes 8 (crc32c b).toNat else b)

/-- Send a frame to a device over its route (R600). -/
def State.sendDev (s : State) (n type step : Nat) (payload : List Byte) : State :=
  match s.routeTo n with
  | some p => s.linkSend p type n step payload
  | none => s

/-- Send a frame to every other member of the pair or drove: one copy each (log entry 19). -/
def State.sendAll (s : State) (type step : Nat) (payload : List Byte) : State :=
  (List.range 64).foldl (fun s n => if s.member n && n != s.devNo then s.sendDev n type step payload else s) s

/-- Payload of an EPOCH frame: epoch, membership map, T_0 and the number of the next step (Table 14.2). -/
def State.epochBytes (s : State) : List Byte :=
  leBytes 4 s.epoch ++ s.regBytes Reg.SLK_MEMBERS_LO 2 ++ htw (if s.csq.t0Set then s.csq.t0 else 0) ++ leBytes 8 s.csq.next

/-- Send EPOCH to the peer of a port. -/
def State.sendEpoch (s : State) (p : Nat) : State := s.linkSend p 5 (s.linkPort p).expect 0 s.epochBytes

/-- Send EPOCH to every member. -/
def State.tellEpoch (s : State) : State := s.sendAll 5 0 s.epochBytes

/-- The role of the device (Table 14.3) by name. -/
abbrev roleSINGLE : Nat := 0
abbrev roleFORMING : Nat := 1
abbrev rolePRIMARY : Nat := 2
abbrev roleMIRROR : Nat := 3
abbrev roleSYNCING : Nat := 4
abbrev roleBELLWETHER : Nat := 5
abbrev roleMEMBER : Nat := 6
abbrev roleJOINING : Nat := 7

/-- Hot standby is on: SLK_CTRL.HOT with FEAT_HOT agreed (R34, Table 17.8). -/
def State.hot (s : State) : Bool := s.feat 6 && s.bit Reg.SLK_CTRL 3

/-- The device runs association, decode, solver update and Checker (Table 14.3). -/
def State.runsStages (s : State) : Bool :=
  oneRole [roleSINGLE, rolePRIMARY, roleBELLWETHER, roleMEMBER] s.slk.role || (s.slk.role == roleMIRROR && s.hot)
where
  /-- One of some roles. -/
  oneRole (l : List Nat) (r : Nat) : Bool := l.contains r

/-- The device publishes on the CSQ outputs (Table 14.3, R605). -/
def State.publishes (s : State) : Bool :=
  [roleSINGLE, rolePRIMARY, roleBELLWETHER, roleMEMBER].contains s.slk.role

end Sys2Proof.Machine
end

