-- ==== Sys2Proof/Machine/Intake.lean ====
section
/-! DEFINITION. Machine/Intake.lean: detections and the FLD intake (Table 8.2, R22, R23, R362), with forwarding between pastures (R624). -/

namespace Sys2Proof.Machine

abbrev dtTime (b : List Byte) : Nat := u b 0 8
abbrev dtSlot (b : List Byte) : Nat := u b 8 1
abbrev dtModel (b : List Byte) : Nat := u b 9 1
abbrev dtClass (b : List Byte) : Nat := u b 10 1
abbrev dtExist (b : List Byte) : Nat := u b 11 1
abbrev dtNo (b : List Byte) : Nat := u b 12 2
abbrev dtPass (b : List Byte) : Nat := u b 14 1
abbrev dtPassSlot (b : List Byte) : Nat := u b 15 1
/-- LEN, WID and HGT. -/
def dtExtent (b : List Byte) : List Byte := (b.drop 88).take 6
/-- EMB of a detection. -/
def dtEmb (b : List Byte) : List Int := (List.range 32).map (fun k => i b (96 + k) 1)

/-- The checks of R362: reserved bytes, a gate entry for MMODEL, ZN. -/
def State.detOk (s : State) (b : List Byte) : Bool :=
  b.length == 128 && allZero b 17 3 && allZero b 87 1 && allZero b 94 2 && 1 ≤ u b 16 1 && u b 16 1 ≤ 6 &&
  s.fld.gates.contains (dtModel b)

/-- Pre-gate position of a detection, Q22.10 mm (R374). -/
def State.detPos (s : State) (b : List Byte) : Int × Int := Config.detPos b ((s.slot (dtSlot b)).record ++ s.ego.record)

/-- A detection enters the intake, ready now (R23). -/
def State.detEnter (s : State) (x : Det) : State := { s with fld := { s.fld with intake := s.fld.intake ++ [x] } }

/-- Squared horizontal distance of a point (Q22.10 mm) from a pasture, in (mm / 1024)²; 0 inside it. -/
def Pasture.dist2 (p : Pasture) (x y : Int) : Int :=
  let out (lo hi v : Int) : Int := if v < lo * 1024 then lo * 1024 - v else if hi * 1024 ≤ v then v - hi * 1024 else 0
  let dx := out p.xmin p.xmax x
  let dy := out p.ymin p.ymax y
  dx * dx + dy * dy

/-- A point lies in a pasture: half-open (R623). -/
def Pasture.holds (p : Pasture) (x y : Int) : Bool :=
  decide (p.xmin * 1024 ≤ x) && decide (x < p.xmax * 1024) && decide (p.ymin * 1024 ≤ y) && decide (y < p.ymax * 1024)

/-- Forward a detection in DET_FWD to a pasture's owner, dropped and counted when that member is lost (R621, R624). -/
def State.detForward (s : State) (n : Nat) (b : List Byte) (border : Bool) : State :=
  if s.member n then
    (s.countWrap Reg.SLK_FWD_CNT 0 32 1).sendDev n 0x20 s.stepNo (b ++ leBytes 8 (if border then 1 else 0))
  else s.countSat Reg.SLK_FWD_DROP 0 32 1

/-- The device is a member of a drove. -/
def State.inDrove (s : State) : Bool := s.slk.role == roleBELLWETHER || s.slk.role == roleMEMBER

/-- A local detection in a drove goes to the pasture that holds it, with copies to those it lies close to (R624). -/
def State.detPasture (s : State) (x : Det) : State :=
  let (px, py) := s.detPos x.bytes
  let me := s.devNo
  match s.slk.pastures.find? (fun p => p.holds px py) with
  | none => s.countSat Reg.SLK_FWD_DROP 0 32 1
  | some p =>
    if p.dev != me then s.detForward p.dev x.bytes false
    else
      let m : Int := s.fld' Reg.SLK_HAND_CFG 8 8 * 100 * 1024
      let near := s.slk.pastures.filter (fun q => q.dev != me && decide (q.dist2 px py < m * m))
      let s := near.foldl (fun s q => s.detForward q.dev x.bytes true) s
      s.detEnter { x with border := if near.isEmpty then none else some (me, s.stepNo) }

/-- A detection of a local slot reaches FLD (R23, R113, R362, R624). -/
def State.detReady (s : State) (b : List Byte) (level : Nat) : State :=
  if !s.powered 97 || (s.slot (dtSlot b)).st != .present then s
  else if !s.detOk b then s.countSat Reg.FLD_DET_DROP 0 32 1
  else
    let x : Det := { bytes := b, ready := s.now, level := level }
    if s.inDrove then s.detPasture x else s.detEnter x

/-- A converted record carries its slot, the slot's MMODEL and its DET_NO, a ZN within 1 to 6, PASS_CNT and PASS_SLOT zero, and zero in its
reserved bytes (Table 8.2, R363, Table 3.16). -/
def State.asDet (s : State) (slot no : Nat) (b : List Byte) : List Byte :=
  let b := patch (fit 128 b) 8 (leBytes 1 slot ++ leBytes 1 (u (s.slot slot).record 6 1))
  let b := patch (patch b 12 (leBytes 2 no ++ [0, 0])) 16 (leBytes 1 (1 + u b 16 1 % 6) ++ [0, 0, 0])
  patch (patch b 87 [0]) 94 [0, 0]

end Sys2Proof.Machine
end

