-- ==== Sys2Proof/Machine/Geometry.lean ====
section
/-! DEFINITION. Machine/Geometry.lean: the geometry of 04_projection_egomotion.md on whole numbers: sines, angles, rotations and
quaternions. A value named Q62 is a real number times 2^62; its rounding error lies far below every bound the manual states. -/

namespace Sys2Proof.Machine

/-- A point in a frame. -/
abbrev P3 := Int × Int × Int

/-- A quaternion w, x, y, z. -/
abbrev Quat := Int × Int × Int × Int

/-! ### Roots, sines and angles -/

/-- Square root by its bits from the top: `k` bits are left below the root `r` so far. -/
def sqrtFrom : Nat → Nat → Nat → Nat
  | 0, _, r => r
  | k + 1, n, r => sqrtFrom k n (if (r + 2 ^ k) * (r + 2 ^ k) ≤ n then r + 2 ^ k else r)

/-- The square root of a number, rounded down. -/
def isqrt (n : Nat) : Nat := sqrtFrom (n.log2 / 2 + 1) n 0

/-- Alternating power series: term `t` of power `k`, each next term the last times -x² / ((k + 1) (k + 2)); Q62. -/
def trigSeries : Nat → Int → Int → Nat → Int
  | 0, _, _, _ => 0
  | n + 1, x2, t, k => t + trigSeries n x2 (-(t * x2 / (2 ^ 62 * ((k + 1) * (k + 2))))) (k + 2)

/-- An angle of `n / d` µrad in Q62, less whole turns. -/
def angleQ62 (n : Int) (d : Nat) : Int := n * 2 ^ 62 / (1000000 * d) % 28976077832308491370

/-- Sine and cosine of an angle in µrad, Q62. -/
def sinQ62 (a : Int) : Int := let x := angleQ62 a 1; trigSeries 30 (x * x / 2 ^ 62) x 1
def cosQ62 (a : Int) : Int := let x := angleQ62 a 1; trigSeries 30 (x * x / 2 ^ 62) (2 ^ 62) 0

/-- A number drawn from -n to n. -/
def within1 (n v : Nat) : Int := (v % (2 * n + 1) : Nat) - (n : Int)

/-- Sine and cosine of the engine's table for an angle in µrad, Q2.30: within 2^-28 of the true value, the error free within that bound
(R156, log entry 11). -/
def cosQ30 (a : Int) : Int := roundAway (cosQ62 a) (2 ^ 32) + within1 3 (Config.tableErr false a)
def sinQ30 (a : Int) : Int := roundAway (sinQ62 a) (2 ^ 32) + within1 3 (Config.tableErr true a)

/-- Arc tangent series of t, Q62: `p` is t^k. -/
def atanSeries : Nat → Int → Int → Nat → Int
  | 0, _, _, _ => 0
  | n + 1, t2, p, k => p / k - atanSeries n t2 (p * t2 / 2 ^ 62) (k + 2)

/-- Halve the angle of a direction (x, y), y not negative, `k` times. -/
def halveDir : Nat → Nat → Int → Nat × Int
  | 0, y, x => (y, x)
  | k + 1, y, x => halveDir k y (x + isqrt (y * y + x.natAbs * x.natAbs))

/-- atan2(y, x) for y not negative, Q62 rad. -/
def atan2Up (y : Nat) (x : Int) : Int :=
  if y == 0 then (if 0 ≤ x then 0 else 14488038916154245685)
  else
    let d := halveDir 4 (y * 2 ^ 64) (x * 2 ^ 64)
    let t : Int := (d.1 : Int) * 2 ^ 62 / d.2
    16 * atanSeries 24 (t * t / 2 ^ 62) t 1

/-- atan2(y, x), Q62 rad in -π to π. -/
def atan2 (y x : Int) : Int := if y < 0 then -atan2Up y.natAbs x else atan2Up y.natAbs x

/-- An angle of Q62 rad in µrad, rounded. -/
def toMicro (a : Int) : Int := roundAway (a * 1000000) (2 ^ 62)

/-- ELEV and AZIM of a Cartesian point in the units of Table 3.5, 50 µrad and µrad: within one unit of the true value, the error free within
that bound (R144, log entry 11). -/
def polarOf (x y z : Int) : Int × Nat :=
  let el := atan2 z (isqrt (x.natAbs * x.natAbs + y.natAbs * y.natAbs) : Nat)
  let az := atan2 y x
  let az := if az < 0 then az + 28976077832308491370 else az
  let e := Config.polarErr x y z
  (el * 20000 / 2 ^ 62 + (e % 2 : Nat), (az * 1000000 / 2 ^ 62).toNat + e / 2 % 2)

/-! ### Rotations -/

/-- Element `k` of a list of numbers, 0 beyond it. -/
def elem (e : List Int) (k : Nat) : Int := e.getD k 0

/-- The product of two rotation matrices of nine Q1.30 elements, rounded (R155). -/
def mulMat (a b : List Int) : List Int :=
  (List.range 9).map (fun k =>
    let i := k / 3 * 3
    let j := k % 3
    roundAway (elem a i * elem b j + elem a (i + 1) * elem b (3 + j) + elem a (i + 2) * elem b (6 + j)) (2 ^ 30))

/-- sin θ / θ and (1 - cos θ) / θ² of an angle whose square is given, Q62. -/
def sinc (n2 : Int) : Int := trigSeries 30 n2 (2 ^ 62) 1
def versc (n2 : Int) : Int := trigSeries 30 n2 (2 ^ 61) 2

/-- The rotation matrix of a rotation vector in µrad: nine Q1.30 elements, rounded (R154, R178). -/
def rotMat (r : P3) : List Int :=
  let n2 := (r.1 * r.1 + r.2.1 * r.2.1 + r.2.2 * r.2.2) * 2 ^ 62 / 1000000000000
  let a := sinc n2
  let b := versc n2
  let off (x y z : Int) : Int := roundAway (b * x * y + a * z * 1000000) (2 ^ 32 * 1000000000000)
  let diag (x y : Int) : Int := 2 ^ 30 - roundAway (b * (x * x + y * y)) (2 ^ 32 * 1000000000000)
  [diag r.2.1 r.2.2, off r.1 r.2.1 (-r.2.2), off r.1 r.2.2 r.2.1,
   off r.1 r.2.1 r.2.2, diag r.1 r.2.2, off r.2.1 r.2.2 (-r.1),
   off r.1 r.2.2 (-r.2.1), off r.2.1 r.2.2 r.1, diag r.1 r.2.1]

/-- A quaternion scaled to unit length, Q1.30; the identity for the zero quaternion. -/
def Quat.unit (q : Quat) : Quat :=
  let n := isqrt ((q.1.natAbs * q.1.natAbs + q.2.1.natAbs * q.2.1.natAbs + q.2.2.1.natAbs * q.2.2.1.natAbs +
    q.2.2.2.natAbs * q.2.2.2.natAbs) * 2 ^ 60)
  if n == 0 then (2 ^ 30, 0, 0, 0)
  else (roundAway (q.1 * 2 ^ 60) n, roundAway (q.2.1 * 2 ^ 60) n, roundAway (q.2.2.1 * 2 ^ 60) n, roundAway (q.2.2.2 * 2 ^ 60) n)

/-- The product of two unit quaternions, Q1.30. -/
def Quat.mul (a b : Quat) : Quat :=
  Quat.unit (a.1 * b.1 - a.2.1 * b.2.1 - a.2.2.1 * b.2.2.1 - a.2.2.2 * b.2.2.2,
    a.1 * b.2.1 + a.2.1 * b.1 + a.2.2.1 * b.2.2.2 - a.2.2.2 * b.2.2.1,
    a.1 * b.2.2.1 - a.2.1 * b.2.2.2 + a.2.2.1 * b.1 + a.2.2.2 * b.2.1,
    a.1 * b.2.2.2 + a.2.1 * b.2.2.1 - a.2.2.1 * b.2.1 + a.2.2.2 * b.1)

/-- The rotation matrix of a unit quaternion: nine Q1.30 elements. -/
def Quat.mat (q : Quat) : List Int :=
  let w := q.1
  let x := q.2.1
  let y := q.2.2.1
  let z := q.2.2.2
  let h (v : Int) : Int := roundAway (2 * v) (2 ^ 30)
  [2 ^ 30 - h (y * y + z * z), h (x * y - w * z), h (x * z + w * y),
   h (x * y + w * z), 2 ^ 30 - h (x * x + z * z), h (y * z - w * x),
   h (x * z - w * y), h (y * z + w * x), 2 ^ 30 - h (x * x + y * y)]

/-- The unit quaternion of a rotation vector in µrad. -/
def rotQuat (r : P3) : Quat :=
  let n2 := (r.1 * r.1 + r.2.1 * r.2.1 + r.2.2 * r.2.2) * 2 ^ 60 / 1000000000000
  let s := sinc n2
  let e (v : Int) : Int := roundAway (s * v) (2 ^ 33 * 1000000)
  Quat.unit (roundAway (trigSeries 30 n2 (2 ^ 62) 0) (2 ^ 32), e r.1, e r.2.1, e r.2.2)

/-- The attitude quaternion of roll, pitch and yaw in µrad (ISO 8855: yaw, then pitch, then roll). -/
def eulerQuat (a : P3) : Quat := ((rotQuat (0, 0, a.2.2)).mul (rotQuat (0, a.2.1, 0))).mul (rotQuat (a.1, 0, 0))

/-- Roll, pitch and yaw of a unit quaternion in µrad. -/
def Quat.euler (q : Quat) : P3 :=
  let m := q.mat
  let s := max (-(2 ^ 30)) (min (2 ^ 30) (-elem m 6))
  (toMicro (atan2 (elem m 7) (elem m 8)), toMicro (atan2 s (isqrt (2 ^ 60 - s.natAbs * s.natAbs) : Nat)), toMicro (atan2 (elem m 3) (elem m 0)))

/-! ### Transforms (R154, R155) -/

/-- A transform applied to a point: nine Q1.30 numbers and three Q22.10. -/
def applyExt (e : List Int) (p : P3) : P3 :=
  let row (k : Nat) : Int := roundAway (elem e (3 * k) * p.1 + elem e (3 * k + 1) * p.2.1 + elem e (3 * k + 2) * p.2.2) (2 ^ 30) + elem e (9 + k)
  (row 0, row 1, row 2)

/-- The inverse of a rigid transform applied to a point: the transposed rotation of the point less the translation. -/
def applyInv (e : List Int) (p : P3) : P3 :=
  let x := p.1 - elem e 9
  let y := p.2.1 - elem e 10
  let z := p.2.2 - elem e 11
  let col (k : Nat) : Int := roundAway (elem e k * x + elem e (3 + k) * y + elem e (6 + k) * z) (2 ^ 30)
  (col 0, col 1, col 2)

/-- A transform with a correction applied after it: the rotation vector in µrad, the translation in Q22.10 mm (R157, R178). -/
def composeExt (e : List Int) (rot trans : P3) : List Int :=
  let r := rotMat rot
  let t := applyExt (r ++ [trans.1, trans.2.1, trans.2.2]) (elem e 9, elem e 10, elem e 11)
  mulMat r (e.take 9) ++ [t.1, t.2.1, t.2.2]

end Sys2Proof.Machine
end

