-- ==== Sys2Proof/Machine/Pae.lean ====
section
/-! DEFINITION. Machine/Pae.lean: projection and alignment (04_projection_egomotion.md): deskew, depth images, the bird's-eye grid and online
calibration. Coordinates are Q22.10 mm. -/

namespace Sys2Proof.Machine

/-! ### Numbers (R154, R155) -/

/-- The point lies within the 32-bit container (R154). -/
def inQ (p : P3) : Bool := satInt 32 p.1 == p.1 && satInt 32 p.2.1 == p.2.1 && satInt 32 p.2.2 == p.2.2

/-- The nominal transform of a scanner: bytes 16 to 63 of its SLOTS record (R157, Table 3.16). -/
def nominal (r : List Byte) : List Int := (List.range 12).map (fun k => i r (16 + 4 * k) 4)

/-- A transform with a correction after it; a zero correction leaves it as it is (R157, R178). -/
def extOf (e : List Int) (c : Cal) : List Int :=
  if c.rot == (0, 0, 0) && c.trans == (0, 0, 0) then e else composeExt e c.rot c.trans

/-- The sensor-frame point (R156): a spherical point by the sine and cosine table, a Cartesian point as it stands. -/
def sensorPoint (p : Pt) : P3 :=
  if p.polar then
    let ce := cosQ30 (p.a * 50)
    let se := sinQ30 (p.a * 50)
    (roundAway (p.c * 1024 * ce * cosQ30 p.b) (2 ^ 60), roundAway (p.c * 1024 * ce * sinQ30 p.b) (2 ^ 60),
     roundAway (p.c * 1024 * se) (2 ^ 30))
  else (p.a * 1024, p.b * 1024, p.c * 1024)

/-! ### Deskew (R158 to R162) -/

/-- The two ring entries that bracket an instant in 2^-32 ns; past the newest, the newest two (R160, R162). -/
def bracket (ring : List Pose) (t : Int) : List Pose :=
  match ring.find? (fun p => decide ((p.time * nsT : Int) ≤ t)) with
  | none => ring.getLast?.toList
  | some a =>
    match (ring.filter (fun p => decide (t < (p.time * nsT : Int)))).getLast? with
    | some b => [a, b]
    | none => ring.take 2

/-- The pose on the line through two entries: position linear, attitude normalised linear (R160). Past the newest entry this is the newest
entry with the velocity and turn of the newest two: an entry holds neither (R162; DEDUCED, log entry 12). -/
def Pose.lerp (a b : Pose) (t : Int) : P3 × Quat :=
  if a.time == b.time then (a.pos, a.quat)
  else
    let flip : Int := if b.time < a.time then -1 else 1
    let d := (b.time - a.time : Int) * nsT * flip
    let n := (t - a.time * nsT) * flip
    let pos (x y : Int) : Int := x + roundAway ((y - x) * n) d.toNat
    let dot := a.quat.1 * b.quat.1 + a.quat.2.1 * b.quat.2.1 + a.quat.2.2.1 * b.quat.2.2.1 + a.quat.2.2.2 * b.quat.2.2.2
    let q (x y : Int) : Int := x * d + ((if dot < 0 then -y else y) - x) * n
    ((pos a.pos.1 b.pos.1, pos a.pos.2.1 b.pos.2.1, pos a.pos.2.2 b.pos.2.2),
      Quat.unit (q a.quat.1 b.quat.1, q a.quat.2.1 b.quat.2.1, q a.quat.2.2.1 b.quat.2.2.1, q a.quat.2.2.2 b.quat.2.2.2))

/-- The vehicle pose P(t) in the odometry frame (R158, R160, R162). -/
def poseAt (ring : List Pose) (t : Int) : P3 × Quat :=
  match bracket ring t with
  | a :: b :: _ => a.lerp b t
  | [a] => (a.pos, a.quat)
  | [] => ((0, 0, 0), (2 ^ 30, 0, 0, 0))

/-- A pose as a transform from the vehicle to the odometry frame. -/
def poseMat (p : P3 × Quat) : List Int := p.2.mat ++ [p.1.1, p.1.2.1, p.1.2.2]

/-- The deviation R160 allows a deskewed point: each axis within 295/1,024 mm, and so within 0.5 mm in all, for a point within 150 m; free
beyond (log entry 12). -/
def deskewDev (p e : P3) : P3 :=
  if p.1 * p.1 + p.2.1 * p.2.1 + p.2.2 * p.2.2 ≤ 153600000 ^ 2 then
    (max (-295) (min 295 e.1), max (-295) (min 295 e.2.1), max (-295) (min 295 e.2.2))
  else e

/-- A vehicle-frame point moved from its own time to a reference time, both in 2^-32 ns: P(t_ref)^-1 P(t_p) p, within the bound of R160
(R158); without motion it stays where it is. -/
def State.deskew (s : State) (t tref : Int) (p : P3) : P3 :=
  let ps := bracket s.ego.ring t ++ bracket s.ego.ring tref
  if ps.all (fun a => ps.all (fun b => a.pos == b.pos && a.quat == b.quat)) then p
  else
    let q := applyInv (poseMat (poseAt s.ego.ring tref)) (applyExt (poseMat (poseAt s.ego.ring t)) p)
    let e := deskewDev p (Config.deskewErr t tref p)
    (q.1 + e.1, q.2.1 + e.2.1, q.2.2 + e.2.2)

/-! ### Camera models (R164 to R167) -/

/-- Parameter block of a camera stream (Table 4.2). -/
def State.camBlock (s : State) (c : Nat) : List Byte := s.regBytes (Reg.PAE_CAM c 0) 16

/-- Pinhole projection (R165): u, v floored and the depth in mm rounded. -/
def pinhole (b : List Byte) (p : P3) : Option (Int × Int × Nat) :=
  let z := p.2.2
  if z < (u b 48 4 : Int) * 1024 || z ≤ 0 then none
  else
    let x := p.1
    let y := p.2.1
    let n := x * x + y * y
    let d := z * z
    let g := 2 ^ 28 * d ^ 3 + i b 24 4 * n * d ^ 2 + i b 28 4 * n ^ 2 * d + i b 32 4 * n ^ 3
    let xd := x * g + (2 * i b 36 4 * x * y + i b 40 4 * (n + 2 * x * x)) * z * d ^ 2
    let yd := y * g + (i b 36 4 * (n + 2 * y * y) + 2 * i b 40 4 * x * y) * z * d ^ 2
    let q := 2 ^ 28 * z * d ^ 3
    some ((i b 8 4 * xd + i b 16 4 * q) / (2 ^ 16 * q), (i b 12 4 * yd + i b 20 4 * q) / (2 ^ 16 * q), (roundAway z 1024).toNat)

/-- Fisheye projection (R166): u, v floored and the distance along the ray in mm, rounded. -/
def fisheye (b : List Byte) (p : P3) : Option (Int × Int × Nat) :=
  let n2 := p.1.natAbs * p.1.natAbs + p.2.1.natAbs * p.2.1.natAbs
  let d2 := n2 + p.2.2.natAbs * p.2.2.natAbs
  let rho := isqrt (n2 * 2 ^ 40)
  let th := atan2Up rho (p.2.2 * 2 ^ 20)
  if th * 1000000 > (u b 44 4 : Int) * 2 ^ 62 || decide (d2 < (u b 48 4 * 1024) ^ 2) then none
  else
    let depth := (roundAway (isqrt (d2 * 2 ^ 20) : Nat) (2 ^ 20)).toNat
    if rho == 0 then some (i b 16 4 / 65536, i b 20 4 / 65536, depth)
    else
      let t2 := th * th / 2 ^ 62
      let k (j : Nat) (g : Int) : Int := (i b (24 + 4 * j) 4 * 2 ^ 34 + g) * t2 / 2 ^ 62
      let td := th * (2 ^ 62 + k 0 (k 1 (k 2 (k 3 0)))) / 2 ^ 62
      let q : Int := (rho : Int) * 2 ^ 62
      some ((i b 8 4 * td * p.1 * 2 ^ 20 + i b 16 4 * q) / (2 ^ 16 * q), (i b 12 4 * td * p.2.1 * 2 ^ 20 + i b 20 4 * q) / (2 ^ 16 * q), depth)

/-- The pixel of a camera-frame point, when it lies in the image (R165 to R167). -/
def project (b : List Byte) (p : P3) : Option (Nat × Nat × Nat) :=
  match (if u b 4 1 == 0 then pinhole b p else fisheye b p) with
  | some (x, y, z) => if 0 ≤ x && 0 ≤ y && decide (x < u b 0 2) && decide (y < u b 2 2) then some (x.toNat, y.toNat, z) else none
  | none => none

/-! ### Destinations -/

/-- Half the depth window. -/
def State.halfWin (s : State) : Int := s.regN Reg.PAE_DEPTH_WIN * msT / 2

/-- Close delay. -/
def State.closeT (s : State) : Int := s.regN Reg.PAE_CLOSE * msT

/-- Row time t_mid(r) of a depth image, from t_mid(0) and LINE_PS of its frame record (R54, R55). -/
def rowAt (tmid : Time) (line r : Nat) : Time := tmid + r * line * nsT / 1000

/-- A point's time lies in the window of a depth image (R168). -/
def State.inImage (s : State) (g : DepthImg) (slot : Nat) (t : Nat) : Bool :=
  (SMap.get [] s.pae.bind g.cam).contains slot && decide ((g.tmid : Int) - s.halfWin ≤ t * nsT) && decide ((t * nsT : Int) ≤ g.tlast + s.halfWin)

/-- Whether the second pixel word takes the pixel from the first (R171). -/
def nearer (old new : Pix) : Bool :=
  new.depth < old.depth || (new.depth == old.depth && (old.inten < new.inten || (new.inten == old.inten && new.slot < old.slot)))

/-- Index in a depth image of a camera pixel with its depth (R168, R170). -/
def depthPixel (b : List Byte) (r : Nat × Nat × Nat) : Option (Nat × Nat) :=
  let ds := u b 5 1
  let w := u b 0 2 / 2 ^ ds
  if r.1 / 2 ^ ds < w && r.2.1 / 2 ^ ds < u b 2 2 / 2 ^ ds then some (r.2.1 / 2 ^ ds * w + r.1 / 2 ^ ds, r.2.2) else none

/-- The pixel index and depth a vehicle-frame point gives an image, with the points that must not saturate on the way (R155, R169, R170). -/
def State.imagePix (s : State) (g : DepthImg) (p : Pt) (v : P3) : List P3 × Option (Nat × Nat) :=
  let b := s.camBlock g.cam
  let e := extOf (SMap.get [] s.pae.camExt g.cam) (SMap.get {} g.cal (u b 6 1))
  let q0 := s.deskew (p.time * nsT) g.tmid v
  let c0 := applyInv e q0
  let fin (ps : List P3) (r : Option (Nat × Nat × Nat)) : List P3 × Option (Nat × Nat) := (ps, r.bind (depthPixel b))
  match project b c0 with
  | none => ([q0, c0], none)
  | some r =>
    if bits (u b 7 1) 0 1 == 0 then fin [q0, c0] (some r)
    else
      let q := s.deskew (p.time * nsT) (rowAt g.tmid g.line r.2.1) v
      let c := applyInv e q
      fin [q0, c0, q, c] (project b c)

/-- The pixel of a written point (R170). -/
def Put.pix (x : Put) : Pix := { depth := x.val.toNat % 2 ^ 24, inten := x.p.inten, slot := x.p.slot }

/-- The pixels of a depth image: the points in the order they were written, under R171. -/
def DepthImg.pix (g : DepthImg) : SMap Pix :=
  g.puts.reverse.foldl (fun m x =>
    match SMap.find? m x.key with
    | some old => if nearer old x.pix then SMap.insert m x.key x.pix else m
    | none => SMap.insert m x.key x.pix) []

/-- The image or grid frame has received an extrapolated point: DESKEW_EXTRAP of its frame record (R162). -/
def DepthImg.extrap (g : DepthImg) : Bool := g.puts.any (·.extrap)
def GridFrame.extrap (g : GridFrame) : Bool := g.puts.any (·.extrap)

/-- Grid period and span in ns. -/
def State.gridPeriod (s : State) : Nat := s.fld' Reg.PAE_GRID_TIME 0 16 * 1000000
def State.gridSpan (s : State) : Nat := s.fld' Reg.PAE_GRID_TIME 16 16 * 1000000

/-- Reference time of grid frame k in ns (R174). -/
def State.gridRef (s : State) (k : Nat) : Nat := s.csq.t0 / nsT + k * s.gridPeriod

/-- The grid frames that take a point of time t: t in (t_ref - GRID_SPAN, t_ref + PAE_CLOSE] (R174). -/
def State.gridFrames (s : State) (t : Nat) : List Nat :=
  let p := s.gridPeriod
  if p == 0 || !s.bit Reg.PAE_CTRL 2 then []
  else
    let lo : Int := ((t : Int) - s.closeT / nsT - s.gridRef 0 + p - 1) / p
    let hi : Int := ((t : Int) + s.gridSpan - s.gridRef 0 - 1) / p
    (List.range (hi + 1 - max lo 0).toNat).map (fun j => (max lo 0).toNat + j)

/-- The cell record of one point over an older one (Table 4.3, R175). -/
def GridCell.add (c : GridCell) (z : Int) (inten age : Nat) (extrap : Bool) : GridCell :=
  let zs := satInt 16 z
  { zmax := max c.zmax zs, zmin := min c.zmin zs, count := min 255 (c.count + 1), imax := max c.imax inten, tage := min c.tage age,
    flags := c.flags ||| ((if extrap then 1 else 0) + (if zs == z then 0 else 2)) }

/-- Index of the grid cell of a point, when it lies in the grid (R173). -/
def State.gridIndex (s : State) (q : P3) : Option Nat :=
  let cell : Int := s.regN Reg.PAE_GRID_CELL * 1024
  let ix := (q.1 - s.regI Reg.PAE_GRID_XMIN * 1024) / cell
  let iy := (q.2.1 - s.regI Reg.PAE_GRID_YMIN * 1024) / cell
  let nx := s.fld' Reg.PAE_GRID_SIZE 0 12
  if 0 ≤ ix && 0 ≤ iy && decide (ix < nx) && decide (iy < s.fld' Reg.PAE_GRID_SIZE 16 12) then some (iy.toNat * nx + ix.toNat) else none

/-- The cells of a grid frame (R175). -/
def GridFrame.cells (g : GridFrame) : SMap GridCell :=
  g.puts.reverse.foldl (fun m x =>
    let age := min 255 ((((g.tref : Int) - x.p.time) / 1000000).toNat)
    SMap.insert m x.key ((SMap.get {} m x.key).add x.val x.p.inten age x.extrap)) []

/-- The grid frame k, opened with the corrections in force when it does not exist yet (R174, R179). -/
def State.openGrid (s : State) (k : Nat) : State :=
  if s.pae.grids.any (fun g => g.k == k) then s
  else { s with pae := { s.pae with grids := s.pae.grids ++ [{ k := k, tref := s.gridRef k, cal := s.pae.cal }] } }

/-- Count a saturated point (R155). -/
def State.satPoint (s : State) : State := s.countSat Reg.PAE_SAT_CNT 0 32 1

/-- Vehicle-frame point of a sensor point under given corrections (R157). -/
def State.vehPoint (s : State) (cal : SMap Cal) (p : Pt) : P3 :=
  applyExt (extOf (nominal (s.slot p.slot).record) (SMap.get {} cal p.slot)) (sensorPoint p)

/-- What a point gives an image: whether it saturates nowhere, and what is written. -/
def State.toImage (s : State) (g : DepthImg) (p : Pt) (extrap : Bool) : Bool × Option Put :=
  let v := s.vehPoint g.cal p
  let (ps, r) := s.imagePix g p v
  if !(v :: ps).all inQ then (false, none)
  else (true, r.map (fun (k, z) => { p := p, key := k, val := z, extrap := extrap }))

/-- What a point gives a grid frame. -/
def State.toGrid (s : State) (g : GridFrame) (p : Pt) (extrap : Bool) : Bool × Option Put :=
  let v := s.vehPoint g.cal p
  let q := s.deskew (p.time * nsT) (g.tref * nsT) v
  if !(inQ v && inQ q) then (false, none)
  else (true, (s.gridIndex q).map (fun k => { p := p, key := k, val := roundAway q.2.2 1024, extrap := extrap }))

/-- Write a point, where it gives one, into an image or a grid frame. -/
def DepthImg.put (g : DepthImg) (x : Option Put) : DepthImg := { g with puts := x.toList ++ g.puts }
def GridFrame.put (g : GridFrame) (x : Option Put) : GridFrame := { g with puts := x.toList ++ g.puts }

/-- A point with no return: RANGE zero, or X, Y and Z zero (Tables 3.5 and 3.6). -/
def noReturn (p : Pt) : Bool := if p.polar then p.c == 0 else p.a == 0 && p.b == 0 && p.c == 0

/-- Rows and columns of the EGO range image of a scanner slot: up to 128 and 2,048 (R186). -/
def rangeRows (slot : Nat) : Nat := Config.egoRows slot % 128 + 1
def rangeCols (slot : Nat) : Nat := Config.egoCols slot % 2048 + 1

/-- Cell of the EGO range image of a scanner slot for ELEV and AZIM: row x 2048 + column (R186). -/
def rangeCell (slot : Nat) (d : Int × Nat) : Nat :=
  Config.egoRow slot d.1 d.2 % rangeRows slot * 2048 + Config.egoCol slot d.1 d.2 % rangeCols slot

/-- Put a point into EGO's range image of its scanner; a point with no return marks its cell empty (R156, R186). -/
def State.toRange (s : State) (p : Pt) : State :=
  let k := rangeCell p.slot (if p.polar then (p.a, p.b.toNat) else polarOf p.a p.b p.c)
  let m := SMap.get [] s.pae.range p.slot
  let m := if noReturn p then SMap.erase m k else SMap.insert m k (sensorPoint p)
  { s with pae := { s.pae with range := SMap.put [] s.pae.range p.slot m } }

/-- A point that saturates is counted and removed from every destination that is still open (R155). -/
def State.unproject (s : State) (p : Pt) : State :=
  let rid (l : List Put) : List Put := l.filter (fun x => x.p != p)
  let m := SMap.get [] s.pae.range p.slot
  let s := { s with pae := { s.pae with images := s.pae.images.map (fun (g : DepthImg) => { g with puts := rid g.puts })
                                        grids := s.pae.grids.map (fun (g : GridFrame) => { g with puts := rid g.puts })
                                        recent := s.pae.recent.filter (fun x => x.1 != p)
                                        range := SMap.put [] s.pae.range p.slot (m.filter (fun c => c.2 != sensorPoint p)) } }
  s.satPoint

/-- Open grid frames and closed images and grid frames for a point: the points too late for them are counted (R172, R174, Table 4.8). -/
def State.latePoint (s : State) (p : Pt) (ks : List Nat) : State :=
  let isLate (k : Nat) : Bool := match s.pae.gridDone with
    | some n => decide (k ≤ n)
    | none => false
  let shut := if (s.slot p.slot).st == .present then (s.pae.closed.filter (fun g => s.inImage g p.slot p.time)).length else 0
  (ks.filter (fun k => !isLate k)).foldl State.openGrid (s.countSat Reg.PAE_LATE_PTS 0 32 ((ks.filter isLate).length + shut))

/-- A point projected into every destination that takes its time; one that saturates anywhere goes nowhere (R155, R163, R168, R172, R174). -/
def State.projectPoint (s : State) (p : Pt) (extrap : Bool) : State :=
  if noReturn p then s.toRange p
  else
    let ks := s.gridFrames p.time
    let s := s.latePoint p ks
    let present := (s.slot p.slot).st == .present
    let imgs : List (Bool × Option Put) := s.pae.images.map (fun g => if present && s.inImage g p.slot p.time then s.toImage g p extrap else (true, none))
    let grids : List (Bool × Option Put) := s.pae.grids.map (fun g => if ks.contains g.k then s.toGrid g p extrap else (true, none))
    if (imgs ++ grids).all (·.1) && inQ (sensorPoint p) then
      let s := { s with pae := { s.pae with images := List.zipWith (fun (g : DepthImg) (x : Bool × Option Put) => g.put x.2) s.pae.images imgs
                                            grids := List.zipWith (fun (g : GridFrame) (x : Bool × Option Put) => g.put x.2) s.pae.grids grids
                                            recent := ((p, extrap) :: s.pae.recent).filter (fun q => decide (p.time < q.1.time + 400000000)) } }
      (s.toRange p).countWrap Reg.PAE_PTS_CNT 0 32 ((imgs ++ grids).filter (·.2.isSome)).length
    else s.satPoint

/-- What the engine keeps privately of a PATCH point, by the nominal extrinsics and an identity pose: its vehicle-frame point, the pixel and
depth in each camera its scanner is bound to, and its cell (R177). -/
def State.patchNums (s : State) (p : Pt) : List Int :=
  let v := applyExt (nominal (s.slot p.slot).record) (sensorPoint p)
  let cams := (List.range 48).filter (fun c => (SMap.get [] s.pae.bind c).contains p.slot)
  let one (r : Option (Nat × Nat)) : List Int := match r with
    | some (k, z) => [(k : Int), (z : Int)]
    | none => [-1, 0]
  [v.1, v.2.1, v.2.2] ++
  cams.flatMap (fun c => one ((project (s.camBlock c) (applyInv (SMap.get [] s.pae.camExt c) v)).bind (depthPixel (s.camBlock c)))) ++
  one ((s.gridIndex v).map (fun k => (k, 0)))

/-- Time of the newest and of the oldest ring entry. -/
def State.newestPose (s : State) : Option Nat := s.ego.ring.head?.map (·.time)
def State.oldestPose (s : State) : Option Nat := s.ego.ring.getLast?.map (·.time)

/-- One point judged against the pose ring (R161, R162). -/
def State.deskewPoint (s : State) (p : Pt) : State :=
  match s.oldestPose, s.newestPose with
  | some o, some n =>
    if p.time < o then s.countSat Reg.PAE_DESKEW_OLD 0 32 1
    else if n < p.time then { s with pae := { s.pae with held := s.pae.held ++ [(p, s.now)] } }
    else s.projectPoint p false
  | _, _ => { s with pae := { s.pae with held := s.pae.held ++ [(p, s.now)] } }

/-- Block PAE runs: powered (Table 16.1) and PAE_CTRL.EN set. -/
def State.paeRuns (s : State) : Bool := s.powered 96 && s.bit Reg.PAE_CTRL 0

/-- The oldest waiting point is processed (R158). -/
def State.pointDeskew (s : State) : State :=
  if !s.paeRuns then s
  else
    match s.pae.queue with
    | [] => s
    | p :: r => { s with pae := { s.pae with queue := r } }.deskewPoint p

/-- POINT_DESKEW row (R158). -/
def execPointDeskew (s : State) : Host.Outcome State Fault Refusal := .next s.pointDeskew

/-- A newer pose entry has arrived: the held points it covers go on (R162). -/
def State.holdResume (s : State) : State :=
  match s.paeRuns, s.newestPose with
  | true, some n =>
    let go := s.pae.held.filter (fun (p, _) => decide (p.time ≤ n))
    let s := { s with pae := { s.pae with held := s.pae.held.filter (fun (p, _) => !decide (p.time ≤ n)) } }
    go.foldl (fun s (p, _) => s.deskewPoint p) s
  | _, _ => s

/-- DESKEW_HOLD_RESUME row (R162). -/
def execDeskewHoldResume (s : State) : Host.Outcome State Fault Refusal := .next s.holdResume

/-- The oldest held point has waited EXTRAP_HOLD: extrapolated within EXTRAP_MAX of the newest entry, otherwise dropped and counted (R162). -/
def State.deskewExtrapolate (s : State) : State :=
  match s.paeRuns, s.pae.held with
  | true, (p, t) :: r =>
    let s := { s with pae := { s.pae with held := r } }.reach (t + s.fld' Reg.PAE_EXTRAP 0 16 * usT)
    match s.newestPose with
    | some n =>
      if p.time ≤ n then s.deskewPoint p
      else if p.time ≤ n + s.fld' Reg.PAE_EXTRAP 16 16 * 1000 then s.projectPoint p true
      else s.countSat Reg.PAE_DESKEW_LATE 0 32 1
    | none => s.countSat Reg.PAE_DESKEW_LATE 0 32 1
  | _, _ => s

/-- DESKEW_EXTRAPOLATE row (R162). -/
def execDeskewExtrapolate (s : State) : Host.Outcome State Fault Refusal := .next s.deskewExtrapolate

/-- A point that came before an image opened is written to it, counted, and dropped everywhere when it saturates (R155, R163, R168). -/
def State.projectInto (s : State) (p : Pt) (extrap : Bool) : State :=
  match s.pae.images.getLast? with
  | none => s
  | some g =>
    if !((s.slot p.slot).st == .present && s.inImage g p.slot p.time) then s
    else
      match s.toImage g p extrap with
      | (false, _) => s.unproject p
      | (true, none) => s
      | (true, some x) =>
        { s with pae := { s.pae with images := s.pae.images.dropLast ++ [g.put (some x)] } }.countWrap Reg.PAE_PTS_CNT 0 32 1

/-- A depth image opens for a frame of camera stream c, with t_mid(0) and LINE_PS of its frame record, and takes the points of its window
that came before it (R168, R169). -/
def State.openDepth (s : State) (c : Nat) (tmid : Time) (line : Nat) : State :=
  if !s.paeRuns then s
  else
    let g : DepthImg := { cam := c, tmid := tmid, line := line, tlast := rowAt tmid line (u (s.camBlock c) 2 2 - 1), cal := s.pae.cal }
    let s := { s with pae := { s.pae with images := s.pae.images ++ [g] } }
    s.pae.recent.reverse.foldl (fun s x => s.projectInto x.1 x.2) s

/-- The word and slot planes of a depth image, row by row (R170). -/
def State.depthBytes (s : State) (g : DepthImg) : List Byte :=
  let b := s.camBlock g.cam
  let n := (u b 0 2 / 2 ^ u b 5 1) * (u b 2 2 / 2 ^ u b 5 1)
  let m := g.pix
  let px (k : Nat) : Pix := SMap.get { depth := 0, inten := 0, slot := 0 } m k
  (List.range n).flatMap (fun k => leBytes 4 ((px k).depth * 256 + (px k).inten)) ++ (List.range n).map (fun k => BitVec.ofNat 8 (px k).slot)

/-- A closing destination that held an extrapolated point shows in PAE_STATUS for the step (Table 4.8). -/
def State.noteExtrap (s : State) (v : Bool) : State := { s with pae := { s.pae with stepExtrap := s.pae.stepExtrap || v } }

/-- The oldest open image of a camera stream closes and is handed to DML, as an item of the stream's slot under PAE's ID (R172, Table 1.4). -/
def State.depthClose (s : State) (c : Nat) : State :=
  match s.pae.images.find? (fun g => g.cam == c) with
  | none => s
  | some g =>
    let s := s.reach ((g.tlast : Int) + s.halfWin + s.closeT).toNat
    let x : Item := { slot := u (s.camBlock c) 6 1, row := 0, time := g.tmid, bytes := s.depthBytes g, id := idPae }
    let s := { s with pae := { s.pae with images := s.pae.images.erase g
                                          closed := g :: s.pae.closed.filter (fun h => decide (g.tlast < h.tlast + 400 * msT)) }
                      sic := { s.sic with items := x :: s.sic.items } }
    s.noteExtrap g.extrap

/-- PAE at C_i: PAE_STATUS [0] shows whether a depth image or grid frame held an extrapolated point in the step that ends (Table 4.8). -/
def State.paeStep (s : State) : State :=
  let v := s.pae.stepExtrap || s.pae.images.any DepthImg.extrap || s.pae.grids.any GridFrame.extrap
  { s with pae := { s.pae with stepExtrap := false } }.setBit Reg.PAE_STATUS 0 v

/-- DEPTH_IMAGE_CLOSE row (R172). -/
def execDepthImageClose (cam : Fin 48) (s : State) : Host.Outcome State Fault Refusal := .next (s.depthClose cam)

/-- The eight bytes of a cell (Table 4.3). -/
def GridCell.bytes (c : GridCell) : List Byte :=
  leBytes 2 (ofSigned 16 c.zmax) ++ leBytes 2 (ofSigned 16 c.zmin) ++ leBytes 1 c.count ++ leBytes 1 c.imax ++ leBytes 1 c.tage ++ leBytes 1 c.flags

/-- The next grid frame to close: the one after the last closed, otherwise the first open one (R174). -/
def State.nextGrid (s : State) : Option Nat :=
  match s.pae.gridDone with
  | some k => some (k + 1)
  | none => (s.pae.grids.map (·.k)).min?

/-- Write a closed grid frame through the descriptor of PAE_GRID_DST, row by row (R173, R174). -/
def State.storeGrid (s : State) (g : GridFrame) : State :=
  match SMap.find? s.dml.descs (s.regN Reg.PAE_GRID_DST) with
  | none => s
  | some x =>
    let nx := s.fld' Reg.PAE_GRID_SIZE 0 12
    let m := g.cells
    (List.range (s.fld' Reg.PAE_GRID_SIZE 16 12)).foldl (fun s iy =>
      (s.busWrite idPae (u x.bytes 0 6 + iy * nx * 8) ((List.range nx).flatMap (fun ix => (SMap.get {} m (iy * nx + ix)).bytes))).2) s

/-- Grid frame k closes at t_ref + PAE_CLOSE (R174). -/
def State.gridClose (s : State) : State :=
  match s.nextGrid with
  | none => s
  | some k =>
    if !s.paeRuns || !s.bit Reg.PAE_CTRL 2 then s
    else
      let s := (s.openGrid k).reach ((s.gridRef k * nsT : Int) + s.closeT).toNat
      match s.pae.grids.find? (fun g => g.k == k) with
      | none => s
      | some g =>
        let s := s.storeGrid g
        let s := { s with pae := { s.pae with grids := s.pae.grids.filter (fun h => k < h.k), gridDone := some k } }
        s.noteExtrap g.extrap

/-- GRID_FRAME_CLOSE row (R174). -/
def execGridFrameClose (s : State) : Host.Outcome State Fault Refusal := .next s.gridClose

/-! ### Calibration (R178 to R183) -/

/-- An axis triple lies within a bound. -/
def within3 (t : Int × Int × Int) (b : Int) : Bool := decide (t.1.natAbs ≤ b) && decide (t.2.1.natAbs ≤ b) && decide (t.2.2.natAbs ≤ b)

/-- An estimate lies within `m` times the bounds of R178: 8,727 µrad and 20 mm. -/
def estInBounds (e : CalEst) (m : Int) : Bool := within3 e.rot (m * 8727) && within3 e.trans (m * 20480)

/-- Calibration of a slot. -/
def State.calOf (s : State) (n : Nat) : Cal := SMap.get {} s.pae.cal n

/-- Set the calibration of a slot. -/
def State.setCal (s : State) (n : Nat) (c : Cal) : State := { s with pae := { s.pae with cal := SMap.put {} s.pae.cal n c } }

/-- The calibration state changes, with event 0x0401 (R180). -/
def State.calEvent (s : State) (n old new : Nat) : State :=
  if old == new then s else s.event 0x04 (if new ≤ 1 then 1 else 2) 0x0401 0 [BitVec.ofNat 8 n, BitVec.ofNat 8 old, BitVec.ofNat 8 new]

/-- The state an estimate leads to (Table 4.4, R181). -/
def Cal.nextSt (c : Cal) : Nat :=
  if c.st == 3 then 3
  else if 20 ≤ c.beyond2 then 3
  else if 20 ≤ c.beyond then 2
  else if c.st == 2 then (if 20 ≤ c.within then 1 else 2)
  else if c.st == 0 && 1 ≤ c.within then 1
  else c.st

/-- An estimate judged (R180 to R182): ignored while CAL_EN is clear, frozen, LOST, or the slot is not bound; one whose change would take
effect at the boundary at which a command does is discarded (R183). -/
def State.calEstimate (s : State) (n : Nat) (e : CalEst) : State :=
  let c := s.calOf n
  if !s.paeRuns || !s.bit Reg.PAE_CTRL 1 || c.frozen || c.cmd.isSome || c.st == 3 || !(s.slot n).bound then s
  else
    let ok := estInBounds e 1
    let c := { c with beyond := if ok then 0 else c.beyond + 1, beyond2 := if estInBounds e 2 then 0 else c.beyond2 + 1,
                      within := if ok then c.within + 1 else 0 }
    let st := c.nextSt
    let take := ok && st == 1
    let c' := { c with st := st, target := if take then some e else if st == 1 then c.target else none,
                       accepted := if take then satAdd 32 c.accepted 1 else c.accepted,
                       beyond := if st == 2 && c.st != 2 then 0 else c.beyond, within := if st == 1 && c.st == 2 then 0 else c.within }
    let s := (s.setCal n c').calEvent n c.st st
    if st == 3 then s.exclude n 4 else s

/-- CAL_ESTIMATE row (R180). -/
def execCalEstimate (slot : BitVec 8) (est : CalEst) (s : State) : Host.Outcome State Fault Refusal := .next (s.calEstimate slot.toNat est)

/-- One axis moves towards its target by at most a step (R179). -/
def towards (x t step : Int) : Int := if x + step < t then x + step else if t < x - step then x - step else t

/-- The effect of OP on a slot's calibration: 1 RESET, 2 FREEZE, 3 UNFREEZE (R182, Table 4.8). RESET makes the correction zero and the state
NOMINAL; a LOST slot stays LOST until its READMIT (R181). -/
def Cal.apply (c : Cal) (op : Nat) : Cal :=
  let c := { c with cmd := none }
  if op == 1 then { frozen := c.frozen, accepted := c.accepted, st := if c.st == 3 then 3 else 0 }
  else { c with frozen := op == 2 }

/-- A command to a slot takes effect (R182): status DONE, BUSY clear. -/
def State.calTake (s : State) (n op : Nat) : State :=
  let c := s.calOf n
  ((((s.setCal n (c.apply op)).calEvent n c.st (c.apply op).st).status Reg.PAE_CAL_CMD_ST DONE).setBit Reg.PAE_CAL_CMD_ST 16 false)

/-- The slot's revolution or frame boundary: a command waiting for it takes effect and the automatic step is discarded (R183); otherwise the
correction moves towards the estimate by at most CAL_RATE (R179, R182). -/
def State.calStep (s : State) (n : Nat) : State :=
  let c := s.calOf n
  match c.cmd, c.frozen, c.target with
  | some op, _, _ => s.calTake n op
  | none, false, some e =>
    let r : Int := s.fld' Reg.PAE_CAL_RATE 0 16
    let t : Int := s.fld' Reg.PAE_CAL_RATE 16 16 * 4
    s.setCal n { c with rot := (towards c.rot.1 e.rot.1 r, towards c.rot.2.1 e.rot.2.1 r, towards c.rot.2.2 e.rot.2.2 r)
                        trans := (towards c.trans.1 e.trans.1 t, towards c.trans.2.1 e.trans.2.1 t, towards c.trans.2.2 e.trans.2.2 t) }
  | none, _, _ => s

/-- A slot has revolution or frame boundaries: a scanner or camera that is PRESENT (R179). -/
def State.hasBoundary (s : State) (n : Nat) : Bool :=
  (s.slot n).st == .present && (recKind (s.slot n).record == kScanner || recKind (s.slot n).record == kCamera)

/-- A PAE_CAL_CMD to a slot: refused for a slot that is not bound (R194). It takes effect at the slot's next boundary, and keeps BUSY set
until then (R179, R183); for a slot without boundaries at once (DESIGN CHOICE, log entry 29). -/
def State.calCmd (s : State) (n op : Nat) : State :=
  s.unlessBusy Reg.PAE_CAL_CMD_ST 16 (fun s =>
    let s := s.setFld Reg.PAE_CAL_CMD_ST 8 8 n
    if !(s.slot n).bound then s.status Reg.PAE_CAL_CMD_ST REFUSED_STATE
    else if s.hasBoundary n then (s.setCal n { s.calOf n with cmd := some op }).setBit Reg.PAE_CAL_CMD_ST 16 true
    else s.calTake n op)

/-- CAL_RESET row (R182). -/
def execCalReset (slot : BitVec 8) (s : State) : Host.Outcome State Fault Refusal :=
  .next (s.hostCmd Reg.PAE_CAL_CMD (fun s => s.calCmd slot.toNat 1))

/-- FREEZE row (R182). -/
def execFreeze (slot : BitVec 8) (s : State) : Host.Outcome State Fault Refusal :=
  .next (s.hostCmd Reg.PAE_CAL_CMD (fun s => s.calCmd slot.toNat 2))

/-- UNFREEZE row (R182). -/
def execUnfreeze (slot : BitVec 8) (s : State) : Host.Outcome State Fault Refusal :=
  .next (s.hostCmd Reg.PAE_CAL_CMD (fun s => s.calCmd slot.toNat 3))

/-- PAE_STATUS (Table 4.8): the stored bit 0, and whether a slot is in DRIFT or LOST. -/
def State.paeStatus (s : State) : Nat :=
  s.fld' Reg.PAE_STATUS 0 1 + (if s.pae.cal.any (fun p => p.2.st == 2) then 2 else 0) + (if s.pae.cal.any (fun p => p.2.st == 3) then 4 else 0)

/-- PAE_CALs as its window shows it (Table 4.8). -/
def State.calBytes (s : State) (n : Nat) : List Byte :=
  let c := s.calOf n
  let w (v : Int) : List Byte := leBytes 4 (ofSigned 32 v)
  w c.rot.1 ++ w c.rot.2.1 ++ w c.rot.2.2 ++ w c.trans.1 ++ w c.trans.2.1 ++ w c.trans.2.2 ++
  leBytes 4 (c.st + (if c.frozen then 4 else 0)) ++ leBytes 4 c.accepted

end Sys2Proof.Machine
end

