-- ==== Sys2Proof/Machine/TimeBase.lean ====
section
/-! DEFINITION. Machine/TimeBase.lean: the TBU commands (02_time_base.md): the servo, gPTP, time blocks and delay exchanges on the Salarur
Link, the PPS pins, and the TBU's host commands. Offsets are in 2^-32 ns, y and I in 2^-51 ppb. -/

namespace Sys2Proof.Machine

/-! ### Captures and units -/

/-- An input capture at timestamp point k less RX_CORR, signed picoseconds (R49), cut to the 2^-32 ns of an HTW128 (log entry 34). -/
def State.capture (s : State) (k : Nat) (raw : Time) : Time :=
  (((raw : Int) * 1000 - s.regI (Reg.TBU_CORR_RX k) * nsT) / 1000).toNat

/-- An output timestamp at point k plus TX_CORR (R49). -/
def State.stampOut (s : State) (k : Nat) (t : Time) : Time :=
  (((t : Int) * 1000 + s.regI (Reg.TBU_CORR_TX k) * nsT) / 1000).toNat

/-- Signed picoseconds as device-time units. -/
def psToT (ps : Int) : Int := ps * nsT / 1000

/-- Signed whole nanoseconds of an interval, to nearest with ties away from zero. -/
def toNsRound (d : Int) : Int := roundAway d nsT

/-- Signed picoseconds of an interval, to nearest with ties away from zero. -/
def toPsRound (d : Int) : Int := roundAway (d * 1000) nsT

/-- Set a register to a signed value, saturating at 32 bits. -/
def State.setRegSat (s : State) (off : Nat) (v : Int) : State := s.setReg off (BitVec.ofInt 32 (satInt 32 v))

/-! ### Status -/

/-- Set a bit of TBU_STATUS; bits 7 to 1 leave sticky copies in TBU_STATUS_W1C (Table 2.4). -/
def State.tbuSet (s : State) (b : Nat) (v : Bool) : State :=
  let s := s.setBit Reg.TBU_STATUS b v
  if v && b != 0 then s.setBit Reg.TBU_STATUS_W1C b true else s

/-- PPS_OUT falls (R74). -/
def State.ppsLow (s : State) : State := { s with tbu := { s.tbu with ppsHigh := false } }.emit (.pin 0 false)

/-- PPS_OUT is held low: LOCKED clear and GATE set (R74). -/
def State.ppsGated (s : State) : Bool := !s.bit Reg.TBU_STATUS 0 && s.bit Reg.TBU_PPS_CFG 16

/-- PPS_OUT goes low at once when it becomes gated (R74). -/
def State.ppsGate (s : State) : State := if s.tbu.ppsHigh && s.ppsGated then s.ppsLow else s

/-- Working domain: TBU_CTRL.WORK_DOM (R47). -/
def State.workDom (s : State) : Dom := if s.bit Reg.TBU_CTRL 1 then .b else .a

/-- TBU_CTRL.SRC (R748). -/
def State.tbuSrc (s : State) : Nat := s.fld' Reg.TBU_CTRL 2 2

/-- The device is a member of a pair or drove other than device 0: its time comes from the link (R70). -/
def State.isMember (s : State) : Bool := s.fld' Reg.SLK_CTRL 1 2 != 0 && s.fld' Reg.SLK_DEVNO 0 6 != 0

/-- HOLDOVER or FREE_RUN is set. -/
def State.coasting (s : State) : Bool := s.bit Reg.TBU_STATUS 3 || s.bit Reg.TBU_STATUS 4

/-- A gPTP domain's state. -/
def State.dom (s : State) (d : Dom) : GptpDom :=
  match d with
  | .a => s.tbu.domA
  | .b => s.tbu.domB

/-- Domain configuration register (Table 2.4). -/
def domCfg : Dom → Nat
  | .a => Reg.TBU_DOMA_CFG
  | .b => Reg.TBU_DOMB_CFG

/-- External port configuration of a domain (Table 2.4). -/
def State.domExt (s : State) (d : Dom) : Bool := s.bit (domCfg d) 16

/-- The device is the grandmaster of a domain: selected, or configured with no receiving port; never with priority1 255 (Table 2.2). -/
def State.gmSelf (s : State) (d : Dom) (g : GptpDom) : Bool :=
  g.self || (s.domExt d && g.extPort.isNone && s.fld' (domCfg d) 8 8 != 255)

/-- A domain has a grandmaster: announced, heard on the receiving port, or the device itself (Table 2.6). -/
def State.hasGm (s : State) (d : Dom) (g : GptpDom) : Bool := g.best.isSome || g.heard || s.gmSelf d g

/-- Set a gPTP domain's state, and its GM bit (Table 2.6). -/
def State.setDom (s : State) (d : Dom) (g : GptpDom) : State :=
  let v := s.hasGm d g
  let s := match d with
    | .a => { s with tbu := { s.tbu with domA := g } }
    | .b => { s with tbu := { s.tbu with domB := g } }
  s.tbuSet (match d with | .a => 1 | .b => 2) v

/-- The GM bits follow the configuration of the domains (Table 2.6). -/
def State.refreshDoms (s : State) : State := (s.setDom .a (s.dom .a)).setDom .b ((s.setDom .a (s.dom .a)).dom .b)

/-- The byte of a domain in event data: 0 A, 1 B. -/
def domByte : Dom → Nat
  | .a => 0
  | .b => 1

/-! ### The servo -/

/-- The clamp of y: 500,000 ppb (R59). -/
abbrev yMax : Int := 500000 * 2 ^ 51

/-- Set y and show it in TBU_FREQ_ADJ, signed Q24.8 ppb (Table 2.4; rounding log entry 15). -/
def State.setY (s : State) (y : Int) : State :=
  { s with tbu := { s.tbu with y := y } }.setRegSat Reg.TBU_FREQ_ADJ (roundAway y (2 ^ 43))

/-- The servo on an offset sample (R58, R59). `g` is 8 s, an integer for every interval in force; TBU_CTRL.EN clear freezes y. -/
def State.servo (s : State) (θ : Int) (g : Nat) : State :=
  if !s.bit Reg.TBU_CTRL 0 then s
  else
    let i := s.tbu.i + g * s.regN Reg.TBU_SERVO_KI * θ
    let y := g * s.regN Reg.TBU_SERVO_KP * θ + i
    if y < -yMax then s.setY (-yMax)
    else if yMax < y then s.setY yMax
    else { s with tbu := { s.tbu with i := i } }.setY y

/-- A sample counts towards LOCKED: four in a row within TBU_LOCK_LIMIT (Table 2.6, R63). -/
def State.lockCount (s : State) (θ : Int) : State :=
  if θ.natAbs ≤ s.regN Reg.TBU_LOCK_LIMIT * nsT then
    let n := min 4 (s.tbu.inLock + 1)
    { s with tbu := { s.tbu with inLock := n } }.tbuSet 0 (n == 4)
  else ({ s with tbu := { s.tbu with inLock := 0 } }.tbuSet 0 false).ppsGate

/-- SLEWING changes, with event 0x0202 (R64, Table 2.7). -/
def State.setSlewing (s : State) (θ : Int) (v : Bool) : State :=
  (s.tbuSet 5 v).event 0x02 2 0x0202 0 (leBytes 8 (ofSigned 64 (toNsRound θ)) ++ [if v then 1 else 0])

/-- An instant on a time scale moved by `d`. -/
def movedBy (d : Int) (t : Time) : Time := ((t : Int) + d).toNat

/-- A gPTP domain's instants on a time scale moved by `d`. -/
def GptpDom.moved (g : GptpDom) (d : Int) : GptpDom := { g with lastSync := movedBy d g.lastSync }

/-- The time counter is set by a step (R63, R75, Table 2.5). Intervals in progress are not changed by it: their starting instants move with
the counter (log entry 34). -/
def State.jumpTime (s : State) (t : Time) : State :=
  let d : Int := (t : Int) - s.tbu.now
  let m := movedBy d
  { s with
    tbu := { s.tbu with
      now := t, domA := s.tbu.domA.moved d, domB := s.tbu.domB.moved d, holdFrom := m s.tbu.holdFrom, lastPps := s.tbu.lastPps.map m,
      ppsRise := m s.tbu.ppsRise, lastBlock := m s.tbu.lastBlock, pdelayAt := s.tbu.pdelayAt.map (fun (q, x) => (q, m x)) }
    slk := { s.slk with
      ports := s.slk.ports.map (fun (p, l) => (p, { l with reqAt := m l.reqAt, ackAt := m l.ackAt }))
      heard := s.slk.heard.map (fun (n, x) => (n, m x)) }
    sic := { s.sic with
      slots := s.sic.slots.map (fun (n, x) => (n, { x with lastRx := m x.lastRx, drdy := x.drdy.map m, missAt := x.missAt.map m }))
      paths := s.sic.paths.map (fun (k, x) => (k, { x with lastStart := m x.lastStart, injected := x.injected.map m, complete := m x.complete })) }
    hif := { s.hif with lastEvent := s.hif.lastEvent.map m, aerLog := s.hif.aerLog.map m }
    aon := { s.aon with bootFrom := m s.aon.bootFrom, thermalAt := s.aon.thermalAt.map m }
    msys := { s.msys with at60 := m s.msys.at60, at1 := m s.msys.at1, lapFrom := m s.msys.lapFrom, ueAt := s.msys.ueAt.map m } }

/-- The time counter steps by -θ (R63): the integral is kept and LOCKED cleared. -/
def State.stepTime (s : State) (θ : Int) : State :=
  let s := s.jumpTime ((s.tbu.now : Int) - θ).toNat
  ({ s with tbu := { s.tbu with inLock := 0, held := [] } }.tbuSet 0 false).ppsGate

/-- Eight held-back samples that agree within 1 µs (R64). -/
def agree8 (l : List Int) : Bool :=
  l.length == 8 && l.all (fun a => l.all (fun b => decide (a - b ≤ usT)))

/-- A sample beyond the slew limit while the step cycle runs: held back and counted; eight that agree start the slew at the clamp (R64).
The slew has the sign that R58 gives y for the same θ (DEDUCED, log entry 34: R64 names no direction). -/
def State.heldBack (s : State) (θ : Int) : State :=
  let s := (s.countSat Reg.TBU_JUMP_CNT 0 32 1).lockCount θ
  let slew (s : State) : State := if s.bit Reg.TBU_CTRL 0 then s.setY (if θ < 0 then -yMax else yMax) else s
  if s.bit Reg.TBU_STATUS 5 then slew s
  else
    let h := (θ :: s.tbu.held).take 8
    if agree8 h then slew ({ s with tbu := { s.tbu with held := [] } }.setSlewing θ true)
    else { s with tbu := { s.tbu with held := h } }

/-- HOLDOVER or FREE_RUN is left at a valid sample, with event 0x0205 (R68, Table 2.7). -/
def State.leaveCoast (s : State) : State :=
  if s.coasting then ((s.tbuSet 3 false).tbuSet 4 false).event 0x02 1 0x0205 0 [BitVec.ofNat 8 (domByte s.workDom)] else s

/-- A valid offset sample of the source that steers (R58, R62 to R64, R68, R748). -/
def State.offsetSample (s : State) (θ : Int) (g : Nat) : State :=
  let s := (s.setRegSat Reg.TBU_OFFSET (toPsRound θ))
  let s := { s with tbu := { s.tbu with first := true } }
  if θ.natAbs ≤ s.regN Reg.TBU_SLEW_LIMIT * nsT then
    let s := { s with tbu := { s.tbu with held := [] } }
    let s := if s.bit Reg.TBU_STATUS 5 then s.setSlewing θ false else s
    (s.servo θ g).lockCount θ
  else if s.csq.running then s.heldBack θ
  else s.stepTime θ

/-! ### Losing the source -/

/-- y freezes at the last I and HOLDOVER is entered, with event 0x0203 (R65); not before the first valid sample (R747). -/
def State.enterHoldover (s : State) : State :=
  if s.coasting || !s.tbu.first then s
  else
    let s := s.setY s.tbu.i
    ({ s with tbu := { s.tbu with holdFrom := s.now, held := [] } }.tbuSet 3 true).event 0x02 2 0x0203 0
      [BitVec.ofNat 8 s.tbuSrc, BitVec.ofNat 8 (domByte s.workDom)]

/-- FREE_RUN is entered, with event 0x0204 (R67, R748). -/
def State.enterFreeRun (s : State) : State :=
  ((s.tbuSet 3 false).tbuSet 4 true).event 0x02 2 0x0204 0 [BitVec.ofNat 8 s.tbuSrc]

/-! ### gPTP -/

/-- 8 s for a domain's logSyncInterval: s = 2^(-3 - logSyncInterval) (R58). -/
def syncGain (log : Int) : Nat := 2 ^ (-log).toNat

/-- Offset of a Sync: capture less origin time, correctionField, link delay and ASYM (R46, R49, R58). -/
def State.syncOffset (s : State) (m : SyncMsg) : Int :=
  (s.capture m.port m.raw : Int) - m.t1 - m.correction * 65536 - SMap.get 0 s.tbu.linkDelay m.port - psToT (s.regI (Reg.TBU_CORR_ASYM m.port))

/-- A Sync comes from the domain's grandmaster: the announced best on its port, or the configured receiving port (Table 2.2). -/
def State.syncValid (s : State) (d : Dom) (m : SyncMsg) : Bool :=
  if s.domExt d then (s.dom d).extPort == some m.port.val
  else match (s.dom d).best with
    | some a => a.port == m.port
    | none => false

/-- The priority vector as one number, most significant part first (IEEE 802.1AS-2020 order): lower is better. -/
def announceRank (a : Announce) : Nat :=
  ((((((a.priority1.toNat * 2 ^ 8 + a.clockClass.toNat) * 2 ^ 8 + a.accuracy.toNat) * 2 ^ 16 + a.variance.toNat) * 2 ^ 8
    + a.priority2.toNat) * 2 ^ 64 + a.identity.toNat) * 2 ^ 16 + a.steps.toNat) * 2 ^ 8 + a.port.val

/-- The vector a domain hands on: its grandmaster's, one step further (IEEE 802.1AS-2020). -/
def GptpDom.onward (g : GptpDom) : Option Announce := g.best.map (fun a => { a with steps := a.steps + 1 })

/-- A switch port is in the master role of a domain: the relay sends Sync and Announce there. It is not the port the grandmaster is on, nor
one that hears a better vector than the domain hands on (Table 2.2; port roles of IEEE 802.1AS-2020). -/
def State.masterPort (s : State) (d : Dom) (q : Nat) : Bool :=
  let g := s.dom d
  s.powered (70 + q) && s.powered 93 &&
  (if s.domExt d then g.extPort != some q
   else
    g.best.map (·.port.val) != some q &&
    (match SMap.find? g.ports q, g.onward with
     | some x, some o => x.priority1 == 255 || decide (announceRank { o with port := x.port } ≤ announceRank x)
     | _, _ => true))

/-- A Sync on the other ports in the master role of its domain: the residence time, link delay and ASYM are added to correctionField
(R46, R49). The residence time runs from the corrected capture to the corrected egress stamp; the raw egress instant is drawn (log
entry 6). -/
def State.relaySync (s : State) (d : Dom) (m : SyncMsg) : State :=
  (List.range 12).foldl (fun s q =>
    if q != m.port.val && s.masterPort d q then
      let (r, s) := s.draw
      let stay : Int := (s.stampOut q (m.raw + r) : Int) - s.capture m.port m.raw
      let path : Int := SMap.get 0 s.tbu.linkDelay m.port + psToT (s.regI (Reg.TBU_CORR_ASYM m.port))
      s.emit (.eth q 1 (htw m.t1 ++ leBytes 8 (ofSigned 64 (m.correction + (path + stay) / 65536))))
    else s) s

/-- The bytes of an Announce on a port: domain number and priority vector (R46; framing log entry 10). -/
def State.announceBytes (s : State) (d : Dom) (a : Announce) : List Byte :=
  leBytes 1 (s.fld' (domCfg d) 0 8) ++ leBytes 1 a.priority1.toNat ++ leBytes 1 a.clockClass.toNat ++ leBytes 1 a.accuracy.toNat ++
  leBytes 2 a.variance.toNat ++ leBytes 1 a.priority2.toNat ++ leBytes 8 a.identity.toNat ++ leBytes 2 a.steps.toNat

/-- An Announce goes out on every port in the master role but one (Table 2.2). -/
def State.sendAnnounce (s : State) (d : Dom) (a : Announce) (but : Option Nat) : State :=
  (List.range 12).foldl (fun s q => if but != some q && s.masterPort d q then s.emit (.eth q 4 (s.announceBytes d a)) else s) s

/-- TBU_DOM_DIFF is updated and judged (R47, R48). -/
def State.domJudge (s : State) (θ : Int) : State :=
  let s := { s with tbu := { s.tbu with domOffset := θ } }.setRegSat Reg.TBU_DOM_DIFF (toNsRound θ)
  let far := decide (s.regN Reg.TBU_DOM_LIMIT * nsT < θ.natAbs)
  let s := { s with tbu := { s.tbu with domOver := if far then min 3 (s.tbu.domOver + 1) else 0
                                        domIn := if far then 0 else min 3 (s.tbu.domIn + 1) } }
  let set (s : State) (v : Bool) : State :=
    (s.tbuSet 6 v).event 0x02 1 0x0201 0 (leBytes 4 (s.regN Reg.TBU_DOM_DIFF) ++ [if v then 1 else 0])
  if s.tbu.domOver == 3 && !s.bit Reg.TBU_STATUS 6 then set s true
  else if s.tbu.domIn == 3 && s.bit Reg.TBU_STATUS 6 then set s false
  else s

/-- A Sync arrives in a domain: device time reaches its capture, the relay forwards it, and the domain notes it (R46, R65). On a member,
where WORK_DOM has no effect, either domain's currentUtcOffset shows (R70; DESIGN CHOICE, log entry 34). -/
def State.syncArrives (s : State) (d : Dom) (m : SyncMsg) : State :=
  let s := (s.reach m.raw).relaySync d m
  let g := s.dom d
  let s := s.setDom d { g with lastSync := s.now, heard := true }
  if d == s.workDom || s.isMember then s.setReg Reg.TBU_UTC_OFFSET (BitVec.ofInt 32 m.utcOffset) else s

/-- A Sync of the domain WORK_DOM names (R58, R70, R748). A member monitors both of its domains, and TBU_DOM_DIFF and DOM_DISAGREE follow
whichever sent Sync last (DESIGN CHOICE, log entry 34: R70 gives neither precedence). -/
def State.doSync (s : State) (m : SyncMsg) : State :=
  if !s.powered 90 || !s.syncValid s.workDom m then s
  else
    let θ := s.syncOffset m
    let s := s.syncArrives s.workDom m
    if s.isMember || s.tbuSrc != 0 then s.domJudge θ
    else s.leaveCoast.offsetSample θ (syncGain (s.dom s.workDom).logSync)

/-- GPTP_SYNC row (R58). -/
def execGptpSync (m : SyncMsg) (s : State) : Host.Outcome State Fault Refusal := .next (s.doSync m)

/-- The other domain. -/
def otherDom : Dom → Dom
  | .a => .b
  | .b => .a

/-- The monitored domain becomes the working domain and HOLDOVER ends (R66); a write of WORK_DOM in the same cycle wins (R69). -/
def State.autoDomain (s : State) (d : Dom) : State :=
  if !s.bit Reg.TBU_STATUS 3 || s.tbu.domWrite == some s.now || decide (s.regN Reg.TBU_SLEW_LIMIT < (s.regI Reg.TBU_DOM_DIFF).natAbs) then s
  else
    let s := (s.setBit Reg.TBU_CTRL 1 (d == .b)).tbuSet 3 false
    { s with tbu := { s.tbu with autoAt := some s.now } }.event 0x02 1 0x0205 0 [BitVec.ofNat 8 (domByte d)]

/-- A Sync of the monitored domain (R47, R48), which may make it the working domain (R66). A member monitors both domains (R70); with
another source only the domain WORK_DOM names is judged (R748). -/
def State.doSyncMonitored (s : State) (m : SyncMsg) : State :=
  let d := otherDom s.workDom
  if !s.powered 90 || !s.syncValid d m then s
  else
    let θ := s.syncOffset m
    let s := s.syncArrives d m
    if s.isMember then s.domJudge θ
    else if s.tbuSrc != 0 then s
    else (s.domJudge θ).autoDomain d

/-- GPTP_SYNC_MONITORED row (R47). -/
def execGptpSyncMonitored (m : SyncMsg) (s : State) : Host.Outcome State Fault Refusal := .next (s.doSyncMonitored m)

/-- The device's own vector as a grandmaster candidate; the parts the manual does not give are IEEE 802.1AS defaults (log entry 8). -/
def State.ownVector (s : State) (d : Dom) : Announce :=
  { priority1 := BitVec.ofNat 8 (s.fld' (domCfg d) 8 8), clockClass := (s.dom d).clockClass, accuracy := 0xFE, variance := 0x436A,
    priority2 := 248, identity := s.part.serial, steps := 0, port := 0 }

/-- The better of two announced candidates; a candidate with priority1 255 is not eligible. -/
def betterOf (a b : Option Announce) : Option Announce :=
  let ok (x : Option Announce) := x.filter (fun x => x.priority1 != 255)
  match ok a, ok b with
  | some x, some y => if announceRank x ≤ announceRank y then some x else some y
  | some x, none => some x
  | none, y => y

/-- The best of the vectors heard on the ports of a domain (R46; IEEE 802.1AS-2020 default BMCA). -/
def GptpDom.bestHeard (g : GptpDom) : Option Announce := g.ports.foldl (fun b p => betterOf b (some p.2)) none

/-- The working domain's time source of a device that steers by gPTP is lost (R65). -/
def State.loseWorking (s : State) (d : Dom) : State :=
  if d == s.workDom && s.tbuSrc == 0 && !s.isMember then s.enterHoldover else s

/-- An Announce and best master selection (R46, R65). With external port configuration the receiving port's Announce is taken as it comes.
The grandmaster's vector goes on one step further on the other ports (Table 2.2, time-aware relay). -/
def State.doAnnounce (s : State) (d : Dom) (a : Announce) : State :=
  let g := s.dom d
  if !s.powered 90 then s
  else if s.domExt d then
    if g.extPort != some a.port.val then s
    else (s.setDom d { g with best := some a }).sendAnnounce d { a with steps := a.steps + 1 } (some a.port.val)
  else
    let g := { g with ports := SMap.insert g.ports a.port.val a }
    let win := g.bestHeard
    let own := s.ownVector d
    let self := own.priority1 != 255 && (match win with
      | some w => decide (announceRank own < announceRank w)
      | none => true)
    let best := if self then none else win
    let changed := best.map (·.identity) != g.best.map (·.identity)
    let lost := best.isNone && !self && g.best.isSome
    let s := s.setDom d { g with best := best, self := self, lastSync := if changed then s.now else g.lastSync,
                                 heard := g.heard && !changed }
    let s := if best == some a then s.sendAnnounce d { a with steps := a.steps + 1 } (some a.port.val) else s
    if lost then s.loseWorking d else s

/-- GPTP_ANNOUNCE row (R65). -/
def execGptpAnnounce (dom : Dom) (a : Announce) (s : State) : Host.Outcome State Fault Refusal := .next (s.doAnnounce dom a)

/-- A peer-delay exchange on a switch port: meanLinkDelay from the four corrected times (R46; IEEE 802.1AS peer delay). -/
def State.doPdelay (s : State) (q : Nat) (x : DelayTimes) : State :=
  if !s.powered 90 then s
  else
    let t1 := s.stampOut q x.t1
    let s := s.reach x.t4
    let t4 := s.capture q x.t4
    { s with tbu := { s.tbu with linkDelay := SMap.insert s.tbu.linkDelay q ((((t4 : Int) - t1) - ((x.t3 : Int) - x.t2)) / 2) } }

/-- GPTP_PDELAY row (R46). -/
def execGptpPdelay (port : Fin 12) (x : DelayTimes) (s : State) : Host.Outcome State Fault Refusal := .next (s.doPdelay port x)

/-- The interval syncReceiptTimeout x 2^logSyncInterval s (R65). -/
def GptpDom.timeout (g : GptpDom) : Time := g.receipt * (secT / 2 ^ (-g.logSync).toNat)

/-- No Sync of the working domain within syncReceiptTimeout intervals: its grandmaster is lost (R65), whatever steers the servo. -/
def State.syncTimeout (s : State) : State :=
  let g := s.dom s.workDom
  if !s.powered 90 || s.gmSelf s.workDom g then s
  else
    let s := s.reach (g.lastSync + g.timeout)
    let ports := match g.best with
      | some b => SMap.erase g.ports b.port.val
      | none => g.ports
    (s.setDom s.workDom { g with best := none, heard := false, ports := ports }).loseWorking s.workDom

/-- SYNC_RECEIPT_TIMEOUT row (R65). -/
def execSyncReceiptTimeout (s : State) : Host.Outcome State Fault Refusal := .next s.syncTimeout

/-- HOLDOVER has lasted TBU_HOLDOVER_MAX (R67). -/
def State.holdoverExpiry (s : State) : State :=
  if s.powered 90 && s.bit Reg.TBU_STATUS 3 then (s.reach (s.tbu.holdFrom + s.regN Reg.TBU_HOLDOVER_MAX * secT)).enterFreeRun else s

/-- HOLDOVER_MAX_EXPIRY row (R67). -/
def execHoldoverMaxExpiry (s : State) : Host.Outcome State Fault Refusal := .next s.holdoverExpiry

/-- Device time reaches the instant 2^logPdelayReqInterval s after a port's last Pdelay_Req; the first goes at once (Table 2.2). -/
def State.reachPdelay (s : State) (q : Nat) : State :=
  match SMap.find? s.tbu.pdelayAt q with
  | some t => s.reach (t + secT * 2 ^ s.tbu.logPdelay.toNat / 2 ^ (-s.tbu.logPdelay).toNat)
  | none => s

/-- A Pdelay_Req on a switch port in use, every 2^logPdelayReqInterval s (R46, Table 2.2). -/
def State.pdelaySend (s : State) (q : Nat) : State :=
  if s.powered 90 && s.powered (70 + q) then
    let s := s.reachPdelay q
    { s with tbu := { s.tbu with pdelayAt := SMap.insert s.tbu.pdelayAt q s.now } }.emit (.eth q 2 (htw (s.stampOut q s.now)))
  else s

/-- PDELAY_REQ_SEND row (R46). -/
def execPdelayReqSend (port : Fin 12) (s : State) : Host.Outcome State Fault Refusal := .next (s.pdelaySend port)

/-- A peer's Pdelay_Req is answered with the corrected times of its arrival and of the answer (R46, R49; IEEE 802.1AS two-step peer
delay). -/
def State.pdelayAnswer (s : State) (q : Nat) (raw : Time) : State :=
  if !s.powered 90 then s
  else
    let s := s.reach raw
    (s.emit (.eth q 5 (htw (s.capture q raw)))).emit (.eth q 6 (htw (s.stampOut q s.now)))

/-- Sync with Follow_Up, and Announce, on every switch port in use, when the device is the domain's grandmaster (R46, Table 2.2). -/
def State.gmSend (s : State) (d : Dom) : State :=
  let g := s.dom d
  if !s.powered 90 || !s.gmSelf d g then s
  else
    let s := s.setDom d { g with seq := g.seq + 1 }
    (List.range 12).foldl (fun s q =>
      if s.powered (70 + q) && s.powered 93 then
        (s.emit (.eth q 3 (leBytes 2 g.seq.toNat ++ htw (s.stampOut q s.now)))).emit (.eth q 4 (s.announceBytes d (s.ownVector d)))
      else s) s

/-- GM_SYNC_SEND row (R46). -/
def execGmSyncSend (dom : Dom) (s : State) : Host.Outcome State Fault Refusal := .next (s.gmSend dom)

/-! ### Time in a pair and a drove -/

/-- A Salarur Link port beside its registers. -/
def State.lport (s : State) (p : Nat) : LinkPort := SMap.get {} s.slk.ports p

/-- Set a Salarur Link port. -/
def State.setLport (s : State) (p : Nat) (l : LinkPort) : State := { s with slk := { s.slk with ports := SMap.put {} s.slk.ports p l } }

/-- Mean of the last 8 path delays of a port, 2^-32 ns (R601). -/
def LinkPort.meanDelay (l : LinkPort) : Int := if l.delays.isEmpty then 0 else l.delays.sum / l.delays.length

/-- A time block carries the sender's device time, corrected by TX_CORR of its port (R49), and its HOLDOVER and FREE_RUN bits (R71, R73). -/
def State.sendBlock (s : State) (p : Nat) : State :=
  if (s.lport p).up && !(s.lport p).held then
    s.emit (.linkTime p 2 (s.stampOut (12 + p) s.now) ((if s.bit Reg.TBU_STATUS 3 then 1 else 0) + (if s.bit Reg.TBU_STATUS 4 then 2 else 0)))
  else s

/-- Device 0 sends a time block on each port of the time tree once per 1 ms (R71). -/
def State.timeBlockSend (s : State) : State :=
  if !s.powered 90 || s.isMember || s.fld' Reg.SLK_CTRL 1 2 == 0 then s
  else
    let s := s.reach (s.tbu.lastBlock + msT)
    s.tbu.down.foldl (fun s (p : Fin 6) => s.sendBlock p) { s with tbu := { s.tbu with lastBlock := s.now } }

/-- TIME_BLOCK_SEND row (R71). -/
def execTimeBlockSend (s : State) : Host.Outcome State Fault Refusal := .next s.timeBlockSend

/-- A member reports the same HOLDOVER and FREE_RUN as the bellwether, with the events of Table 2.7 (R73). -/
def State.followCoast (s : State) (h f : Bool) : State :=
  if h == s.bit Reg.TBU_STATUS 3 && f == s.bit Reg.TBU_STATUS 4 then s
  else
    let s := (s.tbuSet 3 h).tbuSet 4 f
    let s := if h then { s with tbu := { s.tbu with holdFrom := s.now } } else s
    if f then s.event 0x02 2 0x0204 0 [BitVec.ofNat 8 s.tbuSrc]
    else if h then s.event 0x02 2 0x0203 0 [BitVec.ofNat 8 s.tbuSrc, BitVec.ofNat 8 (domByte s.workDom)]
    else s.event 0x02 1 0x0205 0 [BitVec.ofNat 8 (domByte s.workDom)]

/-- A time block steers a member's servo with s = 125 and is forwarded downstream (R71, R72, R73); one whose time does not rise jumps and is
dropped as violation 0x67 (Table 14.8). -/
def State.doTimeBlock (s : State) (p : Fin 6) (b : TimeBlock) : State :=
  if !s.powered 90 || !s.isMember || s.tbu.up != some p || !(s.lport p).up || (s.lport p).held then s
  else
    let s := s.reach b.raw
    if b.sent ≤ s.tbu.lastSent then s.violate (304 + p) 0x67
    else
    let θ := (s.capture (12 + p) b.raw : Int) - b.sent - (s.lport p).meanDelay
    let s := { s with tbu := { s.tbu with lastBlock := s.now, lastSent := b.sent } }
    let s := (s.followCoast (b.holdover && !b.freeRun) b.freeRun).offsetSample θ 1000
    s.tbu.down.foldl (fun s (p : Fin 6) => s.sendBlock p) s

/-- TIME_BLOCK row (R72). -/
def execTimeBlock (port : Fin 6) (b : TimeBlock) (s : State) : Host.Outcome State Fault Refusal := .next (s.doTimeBlock port b)

/-- A member that receives no time block for 3 ms enters HOLDOVER (R72). -/
def State.blockTimeout (s : State) : State :=
  if !s.powered 90 || !s.isMember || s.coasting || !s.tbu.first then s
  else (s.reach (s.tbu.lastBlock + 3 * msT)).enterHoldover

/-- TIME_BLOCK_TIMEOUT row (R72). -/
def execTimeBlockTimeout (s : State) : Host.Outcome State Fault Refusal := .next s.blockTimeout

/-- A port sends a delay request every 1 ms (R601). -/
def State.delaySend (s : State) (p : Nat) : State :=
  let l := s.lport p
  if !l.up || l.held then s
  else
    let s := s.reach (l.reqAt + msT)
    (s.setLport p { l with reqAt := s.now }).emit (.linkTime p 0 (s.stampOut (12 + p) s.now) 0)

/-- DELAY_REQUEST_SEND row (R601). -/
def execDelayRequestSend (port : Fin 6) (s : State) : Host.Outcome State Fault Refusal := .next (s.delaySend port)

/-- A delay request is answered with the capture times of the request and of the answer (R601). -/
def State.delayAnswer (s : State) (p : Nat) (rx : Time) : State :=
  if !(s.lport p).up || (s.lport p).held then s
  else
    let s := s.reach rx
    s.emit (.linkTime p 1 (s.capture (12 + p) rx) (s.stampOut (12 + p) s.now))

/-- DELAY_REQUEST row (R601). -/
def execDelayRequest (port : Fin 6) (rx : Time) (s : State) : Host.Outcome State Fault Refusal := .next (s.delayAnswer port rx)

/-- A delay response gives a path delay ((t4 - t1) - (t3 - t2)) / 2; SLK_Pp_DELAY reports the mean of the last 8 in ps (R601).
A negative delay, or one above 1 µs, is violation 0x67 (Table 14.8). -/
def State.delayTaken (s : State) (p : Nat) (x : DelayTimes) : State :=
  let l := s.lport p
  if !l.up || l.held then s
  else
    let s := s.reach x.t4
    let d := (((s.capture (12 + p) x.t4 : Int) - s.stampOut (12 + p) x.t1) - ((x.t3 : Int) - x.t2)) / 2
    if d < 0 || decide ((usT : Int) < d) then s.violate (304 + p) 0x67
    else
    let l := { l with delays := (d :: l.delays).take 8 }
    (s.setLport p l).setRegSat (Reg.SLK_P_DELAY p) (toPsRound l.meanDelay)

/-- DELAY_RESPONSE row (R601). -/
def execDelayResponse (port : Fin 6) (x : DelayTimes) (s : State) : Host.Outcome State Fault Refusal := .next (s.delayTaken port x)

/-! ### PPS pins -/

/-- PPS_OUT rises at the next whole second, its edge placed by TX_CORR of point 25, unless gated (R49, R74). -/
def State.ppsRise (s : State) : State :=
  if !s.powered 90 || s.tbu.ppsHigh || s.ppsGated then s
  else
    let tx := psToT (s.regI (Reg.TBU_CORR_TX 25))
    let k : Int := ((s.now : Int) + tx) / secT + 1
    let s := s.reach (k * secT - tx).toNat
    { s with tbu := { s.tbu with ppsHigh := true, ppsRise := s.now } }.emit (.pin 0 true)

/-- PPS_OUT_RISE row (R74). -/
def execPpsOutRise (s : State) : Host.Outcome State Fault Refusal := .next s.ppsRise

/-- PPS_OUT falls after WIDTH milliseconds (R74). -/
def State.ppsFall (s : State) : State :=
  if s.powered 90 && s.tbu.ppsHigh then (s.reach (s.tbu.ppsRise + s.fld' Reg.TBU_PPS_CFG 0 16 * msT)).ppsLow else s

/-- PPS_OUT_FALL row (R74). -/
def execPpsOutFall (s : State) : Host.Outcome State Fault Refusal := .next s.ppsFall

/-- The seconds count comes from the working gPTP domain when it has a grandmaster (R75): with the cycle stopped, whole seconds of its
offset are taken away. -/
def State.ppsSeconds (s : State) : State :=
  if s.csq.running || !s.bit Reg.TBU_STATUS (1 + domByte s.workDom) then s
  else
    let k := roundAway s.tbu.domOffset secT
    let s := s.jumpTime ((s.tbu.now : Int) - k * secT).toNat
    { s with tbu := { s.tbu with domOffset := s.tbu.domOffset - k * secT } }

/-- A PPS_IN edge: θ is the captured time modulo 1 s as a signed value; one more than 1.5 s after the last is a lost source (R75). -/
def State.doPpsIn (s : State) (raw : Time) : State :=
  if !s.powered 90 || s.tbuSrc != 1 || s.isMember then s
  else
    let s := s.reach raw
    let t := s.capture 24 raw
    let late := match s.tbu.lastPps with
      | some p => decide (p + 1500 * msT < t)
      | none => false
    let s := { s with tbu := { s.tbu with lastPps := some t } }
    if late then s.enterHoldover
    else
      let f : Int := t % secT
      let θ := if f * 2 < secT then f else f - secT
      (s.leaveCoast.offsetSample θ 1).ppsSeconds

/-- PPS_IN_EDGE row (R75). -/
def execPpsInEdge (raw : Time) (s : State) : Host.Outcome State Fault Refusal := .next (s.doPpsIn raw)

/-- No PPS_IN edge for 1.5 s is a lost source (R75). -/
def State.ppsTimeout (s : State) : State :=
  match s.tbu.lastPps with
  | some p => if s.powered 90 && s.tbuSrc == 1 && !s.isMember && !s.coasting then (s.reach (p + 1500 * msT)).enterHoldover else s
  | none => s

/-- PPS_IN_TIMEOUT row (R75). -/
def execPpsInTimeout (s : State) : Host.Outcome State Fault Refusal := .next s.ppsTimeout

/-! ### Host commands -/

/-- Latch the present device time into TBU_TIME_SNAP0 to 3 (R77). -/
def State.snapTime (s : State) : State := s.setRegBytes (Reg.TBU_TIME_SNAP 0) (htw s.now)

/-- TIME_SNAPSHOT row: a host read of TBU_TIME_SNAP0 (R77). -/
def execTimeSnapshot (s : State) : Host.Outcome State Fault Refusal :=
  .next (s.hostAccess .read (Reg.TBU_TIME_SNAP 0) (fun s =>
    let s := s.snapTime
    s.emit (.host .sc (leBytes 4 (s.regN (Reg.TBU_TIME_SNAP 0))))))

/-- TBU_CTRL.SET (R43, Table 2.5): of two grounds for a refusal the numerically highest code is reported (R40). -/
def State.doTimeSet (s : State) : State :=
  if s.csq.running then s.setFld Reg.TBU_CTRL 4 3 5
  else
    match htwTime (s.regBytes (Reg.TBU_TIME_SET 0) 4) with
    | none => s.setFld Reg.TBU_CTRL 4 3 4
    | some t => (s.jumpTime t).setFld Reg.TBU_CTRL 4 3 0

/-- TIME_SET row (R43). -/
def execTimeSet (s : State) : Host.Outcome State Fault Refusal := .next (s.hostCmd Reg.TBU_CTRL State.doTimeSet)

/-- A write of TBU_CTRL.WORK_DOM. It wins over an automatic change of the same cycle, which is not made: HOLDOVER continues until the
written domain delivers a sample, and the change's event is not written (R69). -/
def State.setWorkDom (s : State) (d : Dom) : State :=
  let auto := s.tbu.autoAt == some s.now
  let s := { s.setBit Reg.TBU_CTRL 1 (d == .b) with tbu := { s.tbu with domWrite := some s.now, autoAt := none } }
  if auto then
    let wire := s.hif.wire.filter (fun e => !(e.source == 0x02 && e.code == 0x0205 && e.time == s.now))
    { s with hif := { s.hif with wire := wire } }.setBit Reg.TBU_STATUS 3 true
  else s

/-- WORK_DOM_WRITE row (R69). -/
def execWorkDomWrite (dom : Dom) (s : State) : Host.Outcome State Fault Refusal :=
  .next (s.hostReg Reg.TBU_CTRL (fun s => s.setWorkDom dom))

/-- SRC names no source on a single device or device 0: 0b10 and 0b11 (R748). -/
def State.noSource (s : State) : Bool := !s.isMember && 2 ≤ s.tbuSrc

/-- FREE_RUN follows what steers, `was` saying that nothing did before: the TBU is in FREE_RUN while SRC names no source (R748). -/
def State.followSource (s : State) (was : Bool) : State :=
  if s.noSource && !s.bit Reg.TBU_STATUS 4 then s.enterFreeRun
  else if was && !s.noSource then s.leaveCoast else s

/-- A write of TBU_CTRL.SRC; where it names no source the TBU is in FREE_RUN from the write
until it names a source again (R748). SRC is RWL (Table 2.5). -/
def State.setSrc (s : State) (v : BitVec 2) : State :=
  if s.lth.rwl then s else (s.setFld Reg.TBU_CTRL 2 2 v.toNat).followSource s.noSource

/-- TBU_SRC_WRITE row (R748). -/
def execTbuSrcWrite (src : BitVec 2) (s : State) : Host.Outcome State Fault Refusal :=
  .next (s.hostReg Reg.TBU_CTRL (fun s => s.setSrc src))

end Sys2Proof.Machine
end

