-- ==== Sys2Proof/Machine/Camera.lean ====
section
/-! DEFINITION. Machine/Camera.lean: the CSI-2 receivers (R81 to R86) and the frame times of camera streams (R54 to R57). -/

namespace Sys2Proof.Machine

/-- Data types of Table 3.2 that carry image data. -/
def imageDt (dt : Nat) : Bool := dt == 0x1E || dt == 0x24 || (0x2A ≤ dt && dt ≤ 0x2E) || (0x30 ≤ dt && dt ≤ 0x37)

/-- Data types of Table 3.2. -/
def csiDt (dt : Nat) : Bool := dt ≤ 3 || dt == 0x12 || imageDt dt

/-- A virtual channel of a receiver. -/
def State.vc (s : State) (p c : Nat) : CamVc := SMap.get {} s.sic.cam (16 * p + c)

/-- Set a virtual channel. -/
def State.setVc (s : State) (p c : Nat) (v : CamVc) : State := { s with sic := { s.sic with cam := SMap.put {} s.sic.cam (16 * p + c) v } }

/-- The receiver is powered and does not ignore its lanes (Table 16.1, R129). -/
def State.csiLive (s : State) (p : Nat) : Bool := s.powered (58 + p) && !s.sic.heldPorts.contains (256 + p)

/-- Camera slots bound to a receiver and virtual channel (R82). -/
def State.camSlots (s : State) (p c : Nat) : List Nat :=
  s.boundSlots.filter (fun n => let r := (s.slot n).record; recKind r == kCamera && recPort r == p && recVc r == c)

/-- Camera stream whose parameter block names a slot (Table 4.2). -/
def State.camStream (s : State) (n : Nat) : Option Nat :=
  (List.range 48).find? (fun c => let b := s.camBlock c; u b 6 1 == n && u b 0 2 != 0)

/-- A corrected packet header is counted (R84). -/
def State.ecc1 (s : State) (p : Nat) (v : Bool) : State := if v then s.countSat (Reg.SIC_CSI_ECC1 p) 0 32 1 else s

/-- A packet of an unbound virtual channel or data type is dropped and counted (R81). -/
def State.csiUnbound (s : State) (p : Nat) : State := s.countSat (Reg.SIC_CSI_UNBOUND p) 0 32 1

/-- Violations of the slots of some frames. -/
def State.violateFrames (s : State) (fs : List CamFrame) (kind : Nat) : State :=
  fs.foldl (fun s f => if f.dropped then s else s.violate f.slot kind) s

/-- A Frame Start: captured, it opens a frame of every stream of the virtual channel; open frames without a Frame End are violations 0x03
(R49, R54, R85); it is the frame boundary of the slots' corrections (R179). A frame
without a Frame End has no line count that the next could be held against (DESIGN CHOICE, log entry 34). -/
def State.frameStart (s : State) (p c : Nat) (raw : Time) (e : Bool) : State :=
  if !s.csiLive p then s
  else
    let s := (s.reach raw).ecc1 p e
    let s := s.countSat (Reg.SIC_CSI_STAT p) 16 16 1
    let v := s.vc p c
    let s := if v.active then s.violateFrames v.frames 0x03 else s
    let slots := s.camSlots p c
    let s := (slots.foldl State.calStep s).yieldPatch slots
    let prev := if v.active then v.prev.filter (fun x => !slots.contains x.1) else v.prev
    let t := s.capture (26 + p) raw
    s.setVc p c { v with active := true, toFs := false, blank := false, prev := prev,
                         frames := slots.map (fun n => { slot := n, cam := s.camStream n, tfs := t }) }

/-- CSI_FRAME_START row (R54). -/
def execCsiFrameStart (p : Fin 12) (h : CsiHdr) (raw : Time) (s : State) : Host.Outcome State Fault Refusal :=
  .next (s.frameStart p h.vc.toNat raw h.ecc1)

/-- Drop the frame of one slot in a virtual channel. -/
def CamVc.drop (v : CamVc) (n : Nat) : CamVc :=
  { v with frames := v.frames.map (fun f => if f.slot == n then { f with dropped := true } else f) }

/-- The line buffers cannot take a line of a slot: its port's crossing FIFO is full, or its streaming set's queue of 8 (R86, R277). -/
def State.lineOverrun (s : State) (p n : Nat) : Bool :=
  (s.fifo (1 + p)).full ||
  (List.range 16).any (fun k => s.bit (Reg.DML_SS_ST k) 8 && s.fld' (Reg.DML_SS_ACT k 1) 24 2 == 0 &&
    s.regN (Reg.DML_SS_ACT k 2) == n && decide (8 ≤ (SMap.get {} s.dml.sets k : StreamSet).queue.length))

/-- A frame is dropped for want of line buffer: counted and logged; the manual gives the entry no code and no severity (R86; log entry 6). -/
def State.overrun (s : State) (p c n : Nat) : State :=
  let (x, s) := s.draw
  (((s.setVc p c ((s.vc p c).drop n)).countSat (Reg.SIC_CSI_OVERRUN p) 0 32 1).inconsistent n).event 0x03 (x / 65536 % 4) (x % 65536) 0 [BitVec.ofNat 8 p]

/-- A line of a frame counts towards its line count, dropped or not (R85). -/
def CamVc.addLine (v : CamVc) (n : Nat) : CamVc :=
  { v with frames := v.frames.map (fun g => if g.slot == n then { g with lines := g.lines + 1 } else g) }

/-- A line of a frame is taken: counted, and handed on from a PRESENT slot (R80, R83). -/
def State.takeLine (s : State) (p c : Nat) (f : CamFrame) (line : CsiLine) : State :=
  let s := s.setVc p c ((s.vc p c).addLine f.slot)
  if f.dropped then s
  else if !line.crcOk then (s.setVc p c ((s.vc p c).drop f.slot)).violate f.slot 0x02
  else if 4096 ≤ f.lines || decide (16384 < line.data.length) then (s.setVc p c ((s.vc p c).drop f.slot)).violate f.slot 0x03
  else if s.lineOverrun p f.slot then s.overrun p c f.slot
  else
    let s := s.received f.slot
    if s.forwards f.slot then s.handOn f.slot f.lines s.now line.data else s

/-- A long image packet (R81 to R86). -/
def State.imageLine (s : State) (p c : Nat) (line : CsiLine) : State :=
  if !s.csiLive p then s
  else
    let s := s.ecc1 p line.ecc1
    if !(s.camSlots p c).any (fun n => recDt (s.slot n).record == line.dt.toNat) || !imageDt line.dt.toNat then s.csiUnbound p
    else if (s.vc p c).toFs || !(s.vc p c).active then s
    else
      match (s.vc p c).frames.find? (fun f => recDt (s.slot f.slot).record == line.dt.toNat) with
      | some f => s.takeLine p c f line
      | none => s

/-- CSI_IMAGE_LINE row (R83). -/
def execCsiImageLine (p : Fin 12) (vc : BitVec 4) (line : CsiLine) (s : State) : Host.Outcome State Fault Refusal :=
  .next (s.imageLine p vc.toNat line)

/-- EXP in ps of a camera stream from its frame's embedded line (R56); none when the line is too short. -/
def State.expOf (s : State) (c : Nat) (data : List Byte) : Option Nat :=
  let o := s.fld' (Reg.TBU_CAM_EXPCTL c) 0 16
  if o + 2 ≤ data.length then some (s.regN (Reg.TBU_CAM_LINE c) * u data o 2) else none

/-- An embedded-data line: the exposure of the frames of the virtual channel (R56); with a bad CRC it drops them (R85). -/
def State.embedded (s : State) (p c : Nat) (line : CsiLine) : State :=
  if !s.csiLive p then s
  else
    let s := s.ecc1 p line.ecc1
    if (s.camSlots p c).isEmpty then s.csiUnbound p
    else
      let v := s.vc p c
      if v.toFs || !v.active then s
      else if !line.crcOk then
        (s.setVc p c { v with frames := v.frames.map (fun f => { f with dropped := true }) }).violateFrames v.frames 0x02
      else
        s.setVc p c { v with frames := v.frames.map (fun f =>
          match f.cam with
          | some k => { f with exp := match s.expOf k line.data with | some e => some e | none => f.exp }
          | none => f) }

/-- CSI_EMBEDDED_DATA row (R56). -/
def execCsiEmbeddedData (p : Fin 12) (vc : BitVec 4) (line : CsiLine) (s : State) : Host.Outcome State Fault Refusal :=
  .next (s.embedded p vc.toNat line)

/-- EXP_STALE: some stream's last frame used its previous exposure (Table 2.6). It clears when no stream's last frame did: R57 sets the bit
and says nothing of its clearing (DESIGN CHOICE, log entry 34). -/
def State.staleStatus (s : State) : State := s.tbuSet 7 (s.tbu.camStale.any (fun p => p.2 != 0))

/-- EXP of a frame in ps: fixed, from the embedded line, or stale with EXP_STALE set and, from the fourth stale frame in a row, violation
0x04 (R56, R57). -/
def State.frameExp (s : State) (c : Nat) (f : CamFrame) : Nat × State :=
  let src := s.bit (Reg.TBU_CAM_EXPCTL c) 31
  let fresh := if src then f.exp else some (s.regN (Reg.TBU_CAM_EXPFIX c))
  match fresh with
  | some e => (e, { s with tbu := { s.tbu with camExp := SMap.insert s.tbu.camExp c e, camStale := SMap.erase s.tbu.camStale c } }.staleStatus)
  | none =>
    let e := (SMap.find? s.tbu.camExp c).getD (s.regN (Reg.TBU_CAM_EXPFIX c))
    let n := SMap.get 0 s.tbu.camStale c + 1
    let s := { s with tbu := { s.tbu with camExp := SMap.insert s.tbu.camExp c e, camStale := SMap.insert s.tbu.camStale c n } }.staleStatus
    (e, if 4 ≤ n then s.violate f.slot 0x04 else s)

/-- The exposure midpoint t_mid(0) of a frame (R54): EXP / 2 exact, the sum cut to the 2^-32 ns of an HTW128 (DESIGN CHOICE, log entry 34:
the manual states no rounding). -/
def State.frameMid (s : State) (k : Nat) (f : CamFrame) (e : Nat) : Time :=
  ((f.tfs : Int) + (2 * s.regI (Reg.TBU_CAM_FSCORR k) - e) * nsT / 2000).toNat

/-- The frame record of a closed frame: t_mid(0) as an HTW128 and LINE_PS (R55). -/
def frameRecord (tmid : Time) (linePs : Nat) : List Byte := htw tmid ++ leBytes 4 linePs

/-- A frame closed by its Frame End: line count, exposure midpoint, consistency, hand-over, and its depth image (R54, R55, R85, R116, R168). -/
def State.closeFrame (s : State) (p c : Nat) (f : CamFrame) : State :=
  let v := s.vc p c
  let old := SMap.find? v.prev f.slot
  let s := s.setVc p c { v with prev := SMap.insert v.prev f.slot f.lines }
  let bad := match old with
    | some n => n != f.lines
    | none => false
  if f.dropped then s
  else if bad then s.violate f.slot 0x03
  else
    match f.cam with
    | none => s.consistent f.slot
    | some k =>
      let viols := (s.vrec f.slot).total
      let (e, s) := s.frameExp k f
      let t := s.frameMid k f e
      let line := s.regN (Reg.TBU_CAM_LINE k)
      let near := decide (((f.tfs : Int) - t).natAbs ≤ recTol (s.slot f.slot).record * 100000 * nsT)
      let s := if near && (s.vrec f.slot).total == viols then s.consistent f.slot else s.inconsistent f.slot
      if s.forwards f.slot then (s.handOn f.slot f.lines t (frameRecord t line)).openDepth k t line else s

/-- A Frame End closes the frames of the virtual channel and opens vertical blanking (R85). -/
def State.frameEnd (s : State) (p c : Nat) (e : Bool) : State :=
  if !s.csiLive p then s
  else
    let s := s.ecc1 p e
    let v := s.vc p c
    if !v.active || v.toFs then s
    else v.frames.foldl (fun s f => s.closeFrame p c f) (s.setVc p c { v with active := false, blank := true, frames := [] })

/-- CSI_FRAME_END row (R85). -/
def execCsiFrameEnd (p : Fin 12) (h : CsiHdr) (s : State) : Host.Outcome State Fault Refusal :=
  .next (s.frameEnd p h.vc.toNat h.ecc1)

/-- CSI_LINE_MARKER row: Line Start and Line End are accepted and ignored, but for a corrected header (R81, R84, Table 3.2). -/
def execCsiLineMarker (p : Fin 12) (h : CsiHdr) (_isEnd : Bool) (s : State) : Host.Outcome State Fault Refusal :=
  .next (s.ecc1 p (h.ecc1 && s.csiLive p))

/-- A packet of another data type, or of no bound stream, is dropped and counted (R81). -/
def State.unboundPacket (s : State) (p c dt : Nat) (e : Bool) : State :=
  if !s.csiLive p then s
  else
  let s := s.ecc1 p e
  if !csiDt dt || (imageDt dt && !(s.camSlots p c).any (fun n => recDt (s.slot n).record == dt)) || (s.camSlots p c).isEmpty then s.csiUnbound p
  else s

/-- CSI_UNBOUND_PACKET row (R81). -/
def execCsiUnboundPacket (p : Fin 12) (h : CsiHdr) (dt : BitVec 6) (s : State) : Host.Outcome State Fault Refusal :=
  .next (s.unboundPacket p h.vc.toNat dt.toNat h.ecc1)

/-- An uncorrectable header: violation 0x01 of the port; the port's frames are dropped up to the next Frame Start (R84). -/
def State.badHeader (s : State) (p : Nat) : State :=
  if !s.csiLive p then s
  else
    let s := (List.range 16).foldl (fun s c =>
      let v := s.vc p c
      if v.active then s.setVc p c { v with active := false, frames := [], toFs := true, prev := [] } else s) s
    s.violate (256 + p) 0x01

/-- CSI_BAD_HEADER row (R84). -/
def execCsiBadHeader (p : Fin 12) (s : State) : Host.Outcome State Fault Refusal := .next (s.badHeader p)

/-! ### Rays that pass through a detection (R363) -/

/-- The depth pixels of an image inside a box whose DEPTH exceeds the range by more than PASS_MARGIN. -/
def State.passing (s : State) (g : DepthImg) (b : DetBox) : List Pix :=
  let w := u (s.camBlock g.cam) 0 2 / 2 ^ u (s.camBlock g.cam) 5 1
  (g.pix.filter (fun q => b.u0 ≤ q.1 % max 1 w && q.1 % max 1 w ≤ b.u1 && b.v0 ≤ q.1 / max 1 w && q.1 / max 1 w ≤ b.v1 && q.2.depth != 0 &&
    decide (b.range + s.fld' Reg.FLD_CONTRA_CFG 16 16 < q.2.depth))).map (·.2)

/-- The slot named most often, ties to the lower; none of no pixel. -/
def commonSlot (l : List Pix) : Option Nat :=
  let votes (n : Nat) : Nat := (l.filter (fun x => x.slot == n)).length
  (sortBy (fun (a b : Nat) => decide (votes b < votes a) || (votes a == votes b && decide (a ≤ b))) (l.map (·.slot)).eraseDups).head?

/-- A detection with its PASS_CNT and PASS_SLOT: of a camera from the depth image of its frame, of any other kind zero (R363). PASS_SLOT of no
ray is what the record brings: no rule states it (log entry 18). -/
def State.passed (s : State) (d : List Byte) (b : DetBox) : List Byte :=
  if recKind (s.slot (dtSlot d)).record != kCamera then patch d 14 [0, 0]
  else
    let l := match s.pae.closed.find? (fun g => u (s.camBlock g.cam) 6 1 == dtSlot d && g.tmid == b.frame) with
      | some g => s.passing g b
      | none => []
    patch d 14 (leBytes 1 (min 255 l.length) ++ leBytes 1 ((commonSlot l).getD (dtPassSlot d)))

/-- DETECTION_READY row (R23, R363). -/
def execDetectionReady (d : NewDet) (s : State) : Host.Outcome State Fault Refusal := .next (s.detReady (s.passed d.bytes d.box) 4)

end Sys2Proof.Machine
end

