-- ==== Sys2Proof/Machine/Crypto.lean ====
section
/-! DEFINITION. Machine/Crypto.lean: the cryptography that the manual names by reference (11_lath_image.md, 15_security.md): SHA-384 (FIPS 180-4), HMAC
and HKDF (RFC 2104, RFC 5869), AES-256-GCM (SP 800-38D), AES key wrap (RFC 3394), and ECDSA and ECDH on P-384 (FIPS 186-4, SP 800-56A). -/

namespace Sys2Proof.Machine

/-- A number as `n` bytes, most significant first. -/
def beBytes (n v : Nat) : List Byte := (leBytes n v).reverse

/-- The number that bytes spell, most significant first. -/
def beNat (b : List Byte) : Nat := leNat b.reverse

/-- Exclusive or of two lists of bytes, as long as the shorter. -/
def xorBytes (a b : List Byte) : List Byte := List.zipWith (· ^^^ ·) a b

/-- A list in blocks of `n` elements. -/
def groupsOf {α : Type} (n : Nat) (l : List α) : List (List α) := (List.range ((l.length + n - 1) / n)).map (fun j => (l.drop (j * n)).take n)

/-! ### SHA-384 -/

/-- The cube root of a number below 2^210, rounded down. -/
def cubeRoot (n : Nat) : Nat :=
  (List.range 70).foldl (fun r k => let x := r + 2 ^ (69 - k); if x * x * x ≤ n then x else r) 0

/-- The first 80 primes. -/
def shaPrimes : List Nat := (List.range 410).filter (fun n => 2 ≤ n && (List.range n).all (fun d => d < 2 || n % d != 0))

/-- The round constants: 64 bits of the fractions of the primes' cube roots. -/
def shaConsts : List (BitVec 64) := shaPrimes.map (fun p => BitVec.ofNat 64 (cubeRoot (p * 2 ^ 192)))

/-- The initial hash of SHA-384: 64 bits of the fractions of the square roots of the ninth to sixteenth primes. -/
def shaInit : List (BitVec 64) := ((shaPrimes.drop 8).take 8).map (fun p => BitVec.ofNat 64 (isqrt (p * 2 ^ 128)))

/-- The message schedule of a block of 128 bytes. -/
def shaSchedule (b : List Byte) : List (BitVec 64) :=
  (List.range 64).foldl (fun w k =>
    let x (j : Nat) : BitVec 64 := w.getD (k + j) 0
    let s0 := (x 1).rotateRight 1 ^^^ (x 1).rotateRight 8 ^^^ x 1 >>> 7
    let s1 := (x 14).rotateRight 19 ^^^ (x 14).rotateRight 61 ^^^ x 14 >>> 6
    w ++ [x 0 + s0 + x 9 + s1]) ((groupsOf 8 b).map (fun x => BitVec.ofNat 64 (beNat x)))

/-- One round on the eight working words. -/
def shaRound (h : List (BitVec 64)) (kw : BitVec 64) : List (BitVec 64) :=
  let x (j : Nat) : BitVec 64 := h.getD j 0
  let s1 := (x 4).rotateRight 14 ^^^ (x 4).rotateRight 18 ^^^ (x 4).rotateRight 41
  let t1 := x 7 + s1 + (x 4 &&& x 5 ^^^ ~~~(x 4) &&& x 6) + kw
  let s0 := (x 0).rotateRight 28 ^^^ (x 0).rotateRight 34 ^^^ (x 0).rotateRight 39
  let t2 := s0 + (x 0 &&& x 1 ^^^ x 0 &&& x 2 ^^^ x 1 &&& x 2)
  [t1 + t2, x 0, x 1, x 2, x 3 + t1, x 4, x 5, x 6]

/-- SHA-384. -/
def sha384 (b : List Byte) : BitVec 384 :=
  let fill := (240 - (b.length + 1) % 128) % 128
  let msg := b ++ [0x80] ++ List.replicate fill 0 ++ beBytes 16 (8 * b.length)
  let h := (groupsOf 128 msg).foldl (fun h x =>
    List.zipWith (· + ·) h ((List.zipWith (· + ·) shaConsts (shaSchedule x)).foldl shaRound h)) shaInit
  BitVec.ofNat 384 (beNat ((h.take 6).flatMap (fun w => beBytes 8 w.toNat)))

/-- The 48 bytes of a digest, first byte first. -/
def digestBytes (d : BitVec 384) : List Byte := beBytes 48 d.toNat

/-! ### HMAC and HKDF -/

/-- HMAC-SHA-384. -/
def hmac (key msg : List Byte) : List Byte :=
  let k := fit 128 (if 128 < key.length then digestBytes (sha384 key) else key)
  digestBytes (sha384 (k.map (· ^^^ 0x5C) ++ digestBytes (sha384 (k.map (· ^^^ 0x36) ++ msg))))

/-- HKDF-SHA-384 truncated to 256 bits: secret, salt, info. -/
def hkdf256 (secret salt info : List Byte) : List Byte := (hmac (hmac salt secret) (info ++ [1])).take 32

/-! ### AES-256 modes -/

/-- AES-256 of a block of 16 bytes. -/
def aesBytes (ws : List (List Nat)) (b : List Byte) : List Byte := (aesBlock ws (b.map (·.toNat))).map (BitVec.ofNat 8)

/-- The words of a key of 32 bytes. -/
def aesKeyOf (key : List Byte) : List (List Nat) := aesWords ((fit 32 key).map (·.toNat))

/-- A product in the field of GHASH: bit 0 of a block is its most significant. -/
def ghashMul (x y : Nat) : Nat :=
  ((List.range 128).foldl (fun (r : Nat × Nat) k =>
    (if x.testBit (127 - k) then r.1 ^^^ r.2 else r.1, if r.2 % 2 == 1 then r.2 / 2 ^^^ 0xE1 * 2 ^ 120 else r.2 / 2)) (0, y)).1

/-- GHASH of additional data and cipher text. -/
def ghash (h : Nat) (aad ct : List Byte) : Nat :=
  let blocks := (groupsOf 16 aad).map (fit 16) ++ (groupsOf 16 ct).map (fit 16) ++ [beBytes 8 (8 * aad.length) ++ beBytes 8 (8 * ct.length)]
  blocks.foldl (fun y b => ghashMul (y ^^^ beNat b) h) 0

/-- The key stream applied to data: nonce of 12 bytes, counters from 2 on. -/
def gcmCrypt (ws : List (List Nat)) (iv data : List Byte) : List Byte :=
  (groupsOf 16 data).zipIdx.flatMap (fun (b, j) => xorBytes b (aesBytes ws (fit 12 iv ++ beBytes 4 (j + 2))))

/-- The tag of additional data and cipher text. -/
def gcmTag (ws : List (List Nat)) (iv aad ct : List Byte) : List Byte :=
  xorBytes (beBytes 16 (ghash (beNat (aesBytes ws (List.replicate 16 0))) aad ct)) (aesBytes ws (fit 12 iv ++ beBytes 4 1))

/-- AES-256-GCM: key, nonce, additional data, plain text; cipher text and tag. -/
def gcmSeal (key iv aad data : List Byte) : List Byte × List Byte :=
  let ws := aesKeyOf key
  let ct := gcmCrypt ws iv data
  (ct, gcmTag ws iv aad ct)

/-- AES-256-GCM opening: key, nonce, additional data, cipher text, tag; none when the tag fails. -/
def gcmOpen (key iv aad ct tag : List Byte) : Option (List Byte) :=
  let ws := aesKeyOf key
  if gcmTag ws iv aad ct == tag then some (gcmCrypt ws iv ct) else none

/-- AES key wrap of blocks of eight bytes. -/
def aesWrap (key data : List Byte) : List Byte :=
  let ws := aesKeyOf key
  let n := data.length / 8
  let (a, r) := (List.range (6 * n)).foldl (fun (x : List Byte × List (List Byte)) t =>
    let b := aesBytes ws (x.1 ++ x.2.getD (t % n) [])
    (xorBytes (b.take 8) (beBytes 8 (t + 1)), x.2.set (t % n) (b.drop 8))) (List.replicate 8 0xA6, groupsOf 8 data)
  a ++ r.flatten

/-! ### P-384 -/

/-- Prime, coefficient b, order and base point of the curve y² = x³ - 3 x + b. -/
def p384 : Nat := 2 ^ 384 - 2 ^ 128 - 2 ^ 96 + 2 ^ 32 - 1
def p384B : Nat := 0xb3312fa7e23ee7e4988e056be3f82d19181d9c6efe8141120314088f5013875ac656398d8a2ed19d2a85c8edd3ec2aef
def p384N : Nat := 0xffffffffffffffffffffffffffffffffffffffffffffffffc7634d81f4372ddf581a0db248b0a77aecec196accc52973
def p384G : Nat × Nat :=
  (0xaa87ca22be8b05378eb1c71ef320ad746e1d3b628ba79b9859f741e082542a385502f25dbf55296c3a545e3872760ab7,
   0x3617de4a96262c6f5d9e98bf9292dc29f8f41dbd289a147ce9da3113b5f0b8c00a60b1ce1d7e819d7a431d7c90ea0e5f)

/-- The inverse modulo a prime below 2^384: the power m - 2. -/
def invMod (a m : Nat) : Nat :=
  (List.range 384).foldl (fun r k => let r := r * r % m; if (m - 2).testBit (383 - k) then r * a % m else r) 1

/-- The sum of two points, none being the point at infinity. -/
def ecAdd (p q : Option (Nat × Nat)) : Option (Nat × Nat) :=
  match p, q with
  | none, q => q
  | p, none => p
  | some (x1, y1), some (x2, y2) =>
    if x1 == x2 && (y1 + y2) % p384 == 0 then none
    else
      let l := if x1 == x2 then (3 * x1 * x1 + (p384 - 3)) * invMod (2 * y1) p384 % p384
        else (y2 + (p384 - y1)) * invMod (x2 + (p384 - x1)) p384 % p384
      let x := (l * l + 2 * p384 - x1 - x2) % p384
      some (x, (l * (x1 + (p384 - x)) + (p384 - y1)) % p384)

/-- A multiple of a point. -/
def ecMul (k : Nat) (p : Option (Nat × Nat)) : Option (Nat × Nat) :=
  (List.range 384).foldl (fun r j => let r := ecAdd r r; if k.testBit (383 - j) then ecAdd r p else r) none

/-- A point of 96 bytes, x then y, when it lies on the curve (R486). -/
def ecPoint (b : List Byte) : Option (Nat × Nat) :=
  let x := beNat (b.take 48)
  let y := beNat ((b.drop 48).take 48)
  if b.length == 96 && x < p384 && y < p384 && y * y % p384 == (x * x * x + (p384 - 3) * x + p384B) % p384 then some (x, y) else none

/-- A point as 96 bytes. -/
def ecBytes (p : Option (Nat × Nat)) : List Byte := match p with
  | some (x, y) => beBytes 48 x ++ beBytes 48 y
  | none => List.replicate 96 0

/-- ECDSA P-384 verification: public key, digest, signature r then s (R493, R494, R643, R649). -/
def ecdsaVerify (pub : List Byte) (d : BitVec 384) (sig : List Byte) : Bool :=
  let r := beNat (sig.take 48)
  let s := beNat ((sig.drop 48).take 48)
  match ecPoint pub with
  | none => false
  | some q =>
    if sig.length != 96 || r == 0 || s == 0 || p384N ≤ r || p384N ≤ s then false
    else
      let w := invMod s p384N
      match ecAdd (ecMul (d.toNat * w % p384N) (some p384G)) (ecMul (r * w % p384N) (some q)) with
      | some (x, _) => x % p384N == r
      | none => false

/-- The private key of a draw. -/
def privOf (v : Nat) : Nat := v % (p384N - 1) + 1

/-- The public key of a private key. -/
def pubOf (d : Nat) : List Byte := ecBytes (ecMul d (some p384G))

/-- ECDSA P-384 signature by a private key with a drawn per-message secret (R663). -/
def ecdsaSign (priv k : Nat) (d : BitVec 384) : List Byte :=
  let k := privOf k
  match ecMul k (some p384G) with
  | some (x, _) => beBytes 48 (x % p384N) ++ beBytes 48 ((d.toNat + x % p384N * priv) * invMod k p384N % p384N)
  | none => List.replicate 96 0

/-- The content key of a key blob: ECDH of the identity key and EPK, then HKDF with salt SERIAL and info bytes 0 to 23; none for an EPK off the
curve (R650). -/
def blobKey (priv : Nat) (epk : List Byte) (serial : BitVec 64) (info : List Byte) : Option (List Byte) :=
  match (ecPoint epk).bind (fun q => ecMul priv (some q)) with
  | some (x, _) => some (hkdf256 (beBytes 48 x) (leBytes 8 serial.toNat) info)
  | none => none

end Sys2Proof.Machine
end

