-- ==== Sys2Proof/Machine/Ego.lean ====
section
/-! DEFINITION. Machine/Ego.lean: the ego-motion estimator (04_projection_egomotion.md): pose ring, keyframes, loss of inputs and the ego
record. -/

namespace Sys2Proof.Machine

/-- EGO runs: powered and EGO_CTRL.EN set. -/
def State.egoRuns (s : State) : Bool := s.powered 96 && s.bit Reg.EGO_CTRL 0

/-- A static device (R192). -/
def State.egoStatic (s : State) : Bool := s.bit Reg.EGO_CTRL 1

/-- IMU k of EGO_IMU_SLOTS is used and its slot PRESENT (R185, R190). -/
def State.egoImuLive (s : State) (k : Nat) : Bool :=
  s.bit Reg.EGO_IMU_SLOTS (16 + k) && (s.slot (s.fld' Reg.EGO_IMU_SLOTS (8 * k) 8)).st == .present

/-- Some IMU is in use. -/
def State.egoAnyImu (s : State) : Bool := s.egoImuLive 0 || s.egoImuLive 1

/-- Wheel odometry is in use (R185, R190). -/
def State.egoWheelLive (s : State) : Bool := s.bit Reg.EGO_WHEEL_SLOT 8 && (s.slot (s.fld' Reg.EGO_WHEEL_SLOT 0 8)).st == .present

/-! ### Propagation (R159, R189, Table 4.7) -/

/-- EGO's state at an instant in 2^-32 ns: position Q38.10 mm, attitude, velocity in the vehicle frame mm/s, angular rate µrad/s and
acceleration mm/s². -/
structure Nav where
  time : Int
  pos : P3
  quat : Quat
  vel : P3
  rate : P3
  acc : P3
  deriving DecidableEq, Repr, Inhabited

/-- Three numbers of a list from place k. -/
def triple (l : List Int) (k : Nat) : P3 := (elem l k, elem l (k + 1), elem l (k + 2))

/-- The numbers of a point. -/
def P3.nums (p : P3) : List Int := [p.1, p.2.1, p.2.2]

/-- The smoothed keyframe (R184, R189). -/
def Ego.nav (e : Ego) : Nav :=
  { time := e.smoothed, pos := triple e.pos 0, quat := eulerQuat (triple e.att 0), vel := triple e.vel 0, rate := triple e.rate 0,
    acc := triple e.rate 3 }

/-- One inertial sample applied (R189; the mechanisation is free, log entry 12). -/
def Nav.sample (n : Nav) (bias : List Int) (x : ImuSample) : Nav :=
  let v := Config.imuStep (n.pos.nums ++ [n.quat.1, n.quat.2.1, n.quat.2.2.1, n.quat.2.2.2] ++ n.vel.nums ++ n.rate.nums ++ n.acc.nums) bias x.vals
    ((x.time : Int) - n.time)
  { time := x.time, pos := triple v 0, quat := Quat.unit (elem v 3, elem v 4, elem v 5, elem v 6), vel := triple v 7, rate := triple v 10,
    acc := triple v 13 }

/-- Constant velocity and turn rate from the state's instant to another: the velocity along the attitude half-way (Table 4.7; log entry 12). -/
def Nav.coast (n : Nav) (t : Int) : Nav :=
  let dt := t - n.time
  let by' (x : P3) (m : Nat) : P3 := (roundAway (x.1 * dt) (m * secT), roundAway (x.2.1 * dt) (m * secT), roundAway (x.2.2 * dt) (m * secT))
  let mid := (n.quat.mul (rotQuat (by' n.rate 2))).mat
  let d := applyExt mid (by' (n.vel.1 * 1024, n.vel.2.1 * 1024, n.vel.2.2 * 1024) 1)
  { n with time := t, pos := (n.pos.1 + d.1, n.pos.2.1 + d.2.1, n.pos.2.2 + d.2.2), quat := n.quat.mul (rotQuat (by' n.rate 1)) }

/-- Velocity and turn rate corrected by wheel odometry: its forward speed and yaw rate (Table 4.7; log entry 12). -/
def Nav.wheel (n : Nav) (w : Option (Time × Int × Int)) : Nav :=
  match w with
  | some (_, v, y) => { n with vel := (v, n.vel.2.1, n.vel.2.2), rate := (n.rate.1, n.rate.2.1, y) }
  | none => n

/-- EGO's state propagated to an instant: the inertial samples since the smoothed keyframe and on at constant velocity and turn rate (R189);
without an inertial factor at the last keyframe, constant velocity and turn rate alone, corrected by wheel odometry while it is there
(R190, Table 4.7). -/
def State.navAt (s : State) (t : Int) : Nav :=
  let e := s.ego
  if e.kf.isEmpty || e.inputs.getLsbD 0 then
    ((e.imu.reverse.filter (fun x => decide ((x.time : Int) ≤ t))).foldl (fun n x => n.sample e.bias x) e.nav).coast t
  else (e.nav.wheel (if s.egoWheelLive then e.wheel else none)).coast t

/-- Write a pose entry: position in 48 bits, a unit quaternion; while INVALID the ring stops (R159, R190). Its six bytes of flags are drawn:
the manual gives them no meaning. -/
def State.poseEntry (s : State) (t : Nat) : State :=
  if s.ego.invalid then s
  else
    let (f, s) := s.draw
    let v := s.navAt (t * nsT)
    let p : Pose :=
      if s.egoStatic then { time := t, pos := (0, 0, 0), quat := (2 ^ 30, 0, 0, 0), flags := BitVec.ofNat 48 f }
      else { time := t, pos := (satInt 48 v.pos.1, satInt 48 v.pos.2.1, satInt 48 v.pos.2.2), quat := v.quat.unit, flags := BitVec.ofNat 48 f }
    let s := if s.ego.ring.isEmpty then s else s.setReg Reg.EGO_RING_HEAD (BitVec.ofNat 32 ((s.regN Reg.EGO_RING_HEAD + 1) % 1024))
    { s with ego := { s.ego with ring := (p :: s.ego.ring).take 1024 } }

/-- An inertial sample of an IMU in use: kept for propagation, and one pose entry (R159, R189). -/
def State.egoSample (s : State) (n : Nat) (t : Time) (vals : List Int) : State :=
  if s.egoRuns && !s.egoStatic && ((s.egoImuLive 0 && s.fld' Reg.EGO_IMU_SLOTS 0 8 == n) || (s.egoImuLive 1 && s.fld' Reg.EGO_IMU_SLOTS 8 8 == n)) then
    let s := { s with ego := { s.ego with imu := ⟨t, vals⟩ :: s.ego.imu } }
    let v := s.navAt t
    { s with ego := { s.ego with rate := v.rate.nums ++ v.acc.nums } }.poseEntry (t / nsT)
  else s

/-- A message of the wheel slot: forward speed from the driven-axle mean, yaw rate from the left-right difference over the track width
(Table 4.5). -/
def State.egoWheel (s : State) (n : Nat) (t : Time) (ext : List Byte) (vals : List Int) : State :=
  if s.egoRuns && !s.egoStatic && s.egoWheelLive && s.fld' Reg.EGO_WHEEL_SLOT 0 8 == n then
    let (l, r, _, w) := Config.wheelOf ext vals
    { s with ego := { s.ego with wheel := some (t, roundAway (l + r) 2, if w ≤ 0 then 0 else roundAway ((r - l) * 1000000) w.toNat) } }
  else s

/-- The bytes of an ego record (Table 4.6). -/
def egoRecord (time : Nat) (v : Nav) (sigma flags : Nat) : List Byte :=
  let w (p : P3) : List Byte := p.nums.flatMap (fun x => leBytes 4 (ofSigned 32 (satInt 32 x)))
  let a (x : Int) : List Byte := leBytes 2 (ofSigned 16 (max (-32767) (min 32767 x)))
  leBytes 8 time ++ w (roundAway v.pos.1 1024, roundAway v.pos.2.1 1024, roundAway v.pos.2.2 1024) ++ w v.vel ++ w v.quat.euler ++ w v.rate ++
  v.acc.nums.flatMap a ++ leBytes 1 flags ++ leBytes 1 (min 255 sigma)

/-- FLAGS of the ego record (Table 4.6). -/
def State.egoFlags (s : State) : Nat :=
  if s.egoStatic then 128
  else s.ego.inputs.toNat + (if s.ego.hold.isSome then 16 else 0) + (if s.ego.invalid then 32 else 0) + (if s.ego.shifted then 64 else 0)

/-- At C_i: the pose entry of the cadence where no IMU writes them, and the ego record of step i (R159, R189, R192). -/
def State.egoCutoff (s : State) (i : Nat) : State :=
  if !s.egoRuns then s
  else
    let s := if s.egoStatic || !s.egoAnyImu then s.poseEntry s.ns else s
    let t := s.tOf i / nsT
    let f := s.egoFlags
    let r := if s.egoStatic then leBytes 8 t ++ List.replicate 54 0 ++ leBytes 1 f ++ [0] else egoRecord t (s.navAt (t * nsT)) s.ego.sigmaV f
    let s := { s with ego := { s.ego with record := r } }
    s.setFld Reg.EGO_STATUS_W1C 0 3 (s.fld' Reg.EGO_STATUS_W1C 0 3 ||| bits f 4 3)

/-! ### Factors (R185, R186) -/

/-- What a query point finds in the previous keyframe's scan: the nearest return among 5 x 5 cells and the normal of the plane through them;
with fewer than 6 returns, none (R186). -/
def State.rangeQuery (s : State) (slot : Nat) (q : P3) : Option (P3 × P3) :=
  let m := SMap.get [] s.ego.scan slot
  let c := rangeCell slot (polarOf q.1 q.2.1 q.2.2)
  let cells := (List.range 25).filterMap (fun k =>
    let r := c / 2048 + k / 5
    if 2 ≤ r && decide (r - 2 < rangeRows slot) then
      SMap.find? m ((r - 2) * 2048 + (c % 2048 + rangeCols slot + k % 5 - 2) % rangeCols slot) else none)
  let dist (p : P3) : Int := (p.1 - q.1) ^ 2 + (p.2.1 - q.2.1) ^ 2 + (p.2.2 - q.2.2) ^ 2
  match cells with
  | [] => none
  | p :: r => if cells.length < 6 then none
              else some (r.foldl (fun a b => if dist b < dist a then b else a) p, Config.planeNormal cells)

/-- Point-to-plane factor of a match: the residual n (q - p) in Q22.10 mm and the normal (Table 4.5). -/
def planeFactor (t : Time) (q : P3) (m : P3 × P3) : List Int :=
  [2, (t : Int), roundAway (m.2.1 * (q.1 - m.1.1) + m.2.2.1 * (q.2.1 - m.1.2.1) + m.2.2.2 * (q.2.2 - m.1.2.2)) (2 ^ 30)] ++ m.2.nums ++ q.nums

/-- The factors of a keyframe at instant t: inertial samples since the keyframe before, wheel odometry, matched scan points and feature
displacements, each where its input is not lost (R190, Table 4.5). -/
def State.kfFactors (s : State) (t : Time) (k : KeyframeObs) (ms : List (P3 × P3 × P3)) (inputs : BitVec 4) : List (List Int) :=
  let prev := (s.ego.kf.head?.map (·.time)).getD 0
  (if inputs.getLsbD 0 then (s.ego.imu.reverse.filter (fun x => decide (prev < x.time))).map (fun x => [0, (x.time : Int)] ++ x.vals) else []) ++
  (if inputs.getLsbD 1 then s.ego.wheel.toList.map (fun w => [1, (w.1 : Int), w.2.1, w.2.2]) else []) ++
  (if inputs.getLsbD 2 then ms.map (fun m => planeFactor t m.1 m.2) else []) ++
  (if inputs.getLsbD 3 then k.flow.map (fun f => [3, (t : Int), f.1, f.2]) else [])

/-- The 15 components of the state at an instant (R184). -/
def State.vars (s : State) (t : Int) : List Int :=
  let v := s.navAt t
  v.pos.nums ++ v.vel.nums ++ v.quat.euler.nums ++ s.ego.bias

/-- A keyframe added to the smoother: the eleventh and older ones are marginalised into the prior; after INVALID the smoother restarts from
the keyframe with the last valid state as a weak prior (R187, R191). -/
def Ego.addKeyframe (e : Ego) (x : Keyframe) (restart : Bool) : Ego :=
  if restart then { e with kf := [x], prior := e.pos ++ e.vel ++ e.att ++ e.bias, weak := true, factors := [] }
  else
    let kf := (x :: e.kf).take 10
    { e with kf := kf, weak := e.weak && e.kf.length < 10
             prior := if e.kf.length < 10 then e.prior else Config.marginalise ((e.kf.getLast?.map (·.vars)).getD []) e.prior
             factors := e.factors.filter (fun f => decide ((kf.getLast?.map (fun k => (k.time : Int))).getD 0 ≤ elem f 1)) }

/-- A keyframe: its inputs, the loss of inputs, HOLD entered or left, its variables and factors (R185 to R187, R190, R191). -/
def State.newKeyframe (s : State) (k : KeyframeObs) : State :=
  let ms := k.queries.filterMap (fun q => (s.rangeQuery q.1.toNat q.2).map (fun m => (q.2, m)))
  let imu := s.egoAnyImu
  let wheel := s.egoWheelLive
  let scan := s.bit Reg.EGO_CTRL 2 && decide (200 ≤ ms.length)
  let visual := s.bit Reg.EGO_CTRL 3 && decide (50 ≤ k.flow.length)
  let inputs := BitVec.ofNat 4 ((if imu then 1 else 0) + (if wheel then 2 else 0) + (if scan then 4 else 0) + (if visual then 8 else 0))
  let back := imu || wheel
  let x : Keyframe := { time := s.now, vars := s.vars s.now }
  let fs := s.kfFactors s.now k ms inputs
  let e := s.ego.addKeyframe x (back && s.ego.invalid)
  { s with ego := { e with inputs := inputs, solving := true, factors := e.factors ++ fs, scan := s.pae.range
                           invalid := s.ego.invalid && !back
                           hold := if back then none else some (s.ego.hold.getD s.now) } }

/-- The smoother's batch for its keyframes: descriptor of Table 9.1 with the next keyframe as its deadline (R188; log entry 12). -/
def State.smootherDesc (s : State) : List Byte :=
  let noise := (List.range 8).map (fun j => (s.regN (Reg.EGO_NOISE j) : Int))
  let b := fit 64 (Config.smootherBatch ([noise, (if s.ego.weak then 1 else 0) :: s.ego.prior] ++ s.ego.kf.map (fun x => (x.time : Int) :: x.vars) ++ s.ego.factors))
  patch b 32 (leBytes 8 ((s.now + s.regN Reg.EGO_KF_DT * msT) / nsT))

/-- A result's solution was shifted, whatever Done code it ends with (R40, R188). -/
def isShifted (r : SmootherResult) : Bool := isDone r.status.toNat && (r.shifted || r.status.toNat == DONE_SHIFTED)

/-- The smoother's batch ends: a Done result is the new smoothed state; while INVALID the last valid state stays (R191). A shifted solution
sets SHIFTED and is counted (R188). -/
def State.smoother (s : State) (r : SmootherResult) : State :=
  if !s.egoRuns || !s.ego.solving then s
  else
    let e := { s.ego with solving := false, shifted := isShifted r }
    let t := (s.ego.kf.head?.map (·.time)).getD 0
    let vs := (r.pos ++ r.vel ++ r.att ++ r.bias) :: r.older
    let e := if isDone r.status.toNat && !s.ego.invalid then
        { e with pos := r.pos, vel := r.vel, att := r.att, bias := r.bias, sigmaV := r.sigmaV, smoothed := t
                 kf := e.kf.zipIdx.map (fun (x, j) => { x with vars := vs.getD j x.vars })
                 imu := e.imu.filter (fun x => decide (t < x.time)) } else e
    let s := { s with ego := e }
    if isShifted r then s.countSat Reg.EGO_SHIFT_CNT 0 32 1 else s

/-- EGO_SMOOTHER_RESULT row (R188). -/
def execEgoSmootherResult (r : SmootherResult) (s : State) : Host.Outcome State Fault Refusal := .next (s.smoother r)

/-- HOLD has lasted EGO_HOLD_MAX: INVALID (R190, Table 4.9). -/
def State.egoHoldTimeout (s : State) : State :=
  match s.egoRuns, s.ego.hold with
  | true, some t =>
    let s := s.reach (t + s.regN Reg.EGO_HOLD_MAX * msT)
    { s with ego := { s.ego with invalid := true } }.setBit Reg.EGO_STATUS_W1C 3 true
  | _, _ => s

/-- EGO_HOLD_TIMEOUT row (R190). -/
def execEgoHoldTimeout (s : State) : Host.Outcome State Fault Refusal := .next s.egoHoldTimeout

/-- Latch the last ego record into EGO_LAST_REC0 to 15 (R196). -/
def State.latchEgo (s : State) : State := s.setRegBytes (Reg.EGO_LAST_REC 0) (fit 64 s.ego.record)

/-- EGO_RECORD_SNAPSHOT row: a host read of EGO_LAST_REC0 (R196). -/
def execEgoRecordSnapshot (s : State) : Host.Outcome State Fault Refusal :=
  .next (s.hostAccess .read (Reg.EGO_LAST_REC 0) (fun s =>
    let s := s.latchEgo
    s.emit (.host .sc (leBytes 4 (s.regN (Reg.EGO_LAST_REC 0))))))

/-- EGO_STATUS (Table 4.9). -/
def State.egoStatus (s : State) : Nat := u s.ego.record 62 1 + (if s.bit Reg.EGO_STATUS_W1C 3 then 256 else 0)

end Sys2Proof.Machine
end

