-- ==== Sys2Proof/Machine/PowerOps.lean ====
section
/-! DEFINITION. Machine/PowerOps.lean: which power domains are on (Table 16.1) and how a power transition starts (R669, R671). -/

namespace Sys2Proof.Machine

/-- Power exactly the given domains (AON_DOM). -/
def State.setDomains (s : State) (l : List Nat) : State :=
  (List.range 4).foldl (fun s w =>
    s.setReg (Reg.AON_DOM w) (BitVec.ofNat 32 (((List.range 32).filter (fun b => l.contains (32 * w + b))).map (2 ^ ·)).sum)) s

/-- Switch ports an image uses (R758). -/
def State.ethUsed (s : State) (q : Nat) : Bool :=
  (SMap.get {} s.sic.ports q : SwPort).phy || s.fld' Reg.CSQ_CS_CFG 8 4 == q || (s.findSlot (fun r => recUnit r == 272 + q)).isSome

/-- Tiles of the full plan, served by their substitutes (R235, R667). -/
def State.planTiles (s : State) : List Nat := (s.content.full.flatMap (·.tiles)).map (fun t => ((s.tca.subst.find? (·.1 == t)).map (·.2)).getD t)

/-- The domains powered in Idle and Run (Table 16.1): those of the applied image; with none, 88 to 99. The tiles have their own rows. -/
def State.idleDomains (s : State) : List Nat :=
  let base := (List.range 16).map (42 + ·) ++ (List.range 12).map (88 + ·)
  if s.lthState != 3 then base
  else
    base.filter (fun d => d != 95 || s.bit Reg.SIC_CTRL 4) ++
    (if s.bit Reg.TAC_CTRL 1 || s.fld' Reg.TAC_CACHE_CFG 0 5 != 0 then (List.range 8).map (34 + ·) else []) ++
    ((List.range 12).filter (fun p => (s.findSlot (fun r => recUnit r == 256 + p)).isSome)).map (58 + ·) ++
    ((List.range 12).filter s.ethUsed).map (70 + ·) ++
    ((List.range 6).filter (fun p => s.fld' Reg.SLK_PORT_CFG (4 * p) 4 != 0)).map (82 + ·)

/-- The domains kept in Standby (Table 16.1). -/
def State.standbyDomains (s : State) : List Nat :=
  let kept := (List.range 12).filter (s.bit Reg.AON_STBY_KEEP)
  (List.range 16).map (42 + ·) ++ [88, 89, 90, 91, 92, 99] ++ kept.map (70 + ·) ++ (if kept.isEmpty then [] else [93])

/-- The tile domains that are powered now. -/
def State.tileDomains (s : State) : List Nat := (List.range 34).filter s.powered

/-- A power transition is in progress. -/
def State.inTransition (s : State) : Bool := s.bit Reg.AON_PWR_STATE 8

/-- A power transition starts (R669). -/
def State.startPwr (s : State) (dest : PwrTo) : State := { s with aon := { s.aon with pwrTo := dest } }.setBit Reg.AON_PWR_STATE 8 true

/-- Which domains need a PLL of Table 16.4, in its order. -/
def pllDomains : Nat → List Nat
  | 0 => List.range 42 ++ [92, 96, 97, 98, 99]
  | 1 => [88]
  | 2 => [89, 90, 91, 99]
  | 3 => (List.range 16).map (42 + ·)
  | 4 => [91]
  | 5 => (List.range 12).map (70 + ·) ++ [93]
  | 6 => (List.range 6).map (82 + ·)
  | _ => (List.range 12).map (58 + ·)

/-- A PLL runs: some domain that needs it is powered (R677). -/
def State.pllRuns (s : State) (k : Nat) : Bool := (pllDomains k).any s.powered

/-- A PLL stops when the last domain that needs it is powered off (R677). -/
def State.pllStops (s : State) : State :=
  (List.range 8).foldl (fun s k => if s.pllRuns k then s else s.setBit Reg.AON_PLL_ST k false) s

/-- A wake frame on a kept port in Standby starts the wake, with its source (R671). -/
def State.wakeEthernet (s : State) : State := (s.setFld Reg.AON_WAKE_SRC 0 4 5).startPwr .idle

end Sys2Proof.Machine
end

