-- ==== Sys2Proof/Machine/Network.lean ====
section
/-! DEFINITION. Machine/Network.lean: the Ethernet switch (R87 to R96, R121, R122, R671, R750), the CAN controllers (R97 to R100) and the
inertial units (R101 to R103). -/

namespace Sys2Proof.Machine

/-! ### Sources that match no bound slot -/

/-- Event data of a source: MAC, VLAN and UDP port (Table 3.17). -/
def sourceData (mac : BitVec 48) (vlan : BitVec 12) (udp : BitVec 16) : List Byte :=
  leBytes 6 mac.toNat ++ leBytes 2 vlan.toNat ++ leBytes 2 udp.toNat

/-- The source entry of a frame; a new one when it has not been seen. -/
def State.sourceOf (s : State) (mac : BitVec 48) (vlan : BitVec 12) (udp : BitVec 16) : Source :=
  (s.sic.sources.find? (fun c => c.mac == mac && c.vlan == vlan && c.udp == udp)).getD { mac := mac, vlan := vlan, udp := udp }

/-- Set a source entry. -/
def State.setSource (s : State) (c : Source) : State :=
  { s with sic := { s.sic with sources := c :: s.sic.sources.filter (fun e => !(e.mac == c.mac && e.vlan == c.vlan && e.udp == c.udp)) } }

/-- A refusal or a wait is logged at most once per 1,000 steps per source (R122). -/
def State.logRefused (s : State) (c : Source) (code : Nat) : State :=
  if dueAfter c.refused 1000 s.stepNo then
    (s.setSource { c with refused := some s.stepNo }).event 0x03 1 0x0382 code (sourceData c.mac c.vlan c.udp)
  else s.setSource c

/-- The template a source matches (R121, Table 3.16). -/
def State.template (s : State) (mac : BitVec 48) (vlan : BitVec 12) (udp : BitVec 16) : Option (List Byte) :=
  (List.find? (fun (t : Nat × Template) => let r := t.2.record
    recVlan r == vlan.toNat && recUdp r == udp.toNat && (mac &&& BitVec.ofNat 48 (u r 10 6)).toNat == recMac r) s.sic.templates).map (·.2.record)

/-- The record an automatic admission binds: the template's, with RKIND 1, the slot chosen and the source's MAC (R121, R751). -/
def templateRecord (t : List Byte) (slot : Nat) (mac : BitVec 48) : List Byte :=
  patch (patch (patch (patch t 0 [1]) 2 (leBytes 2 slot)) 8 (List.replicate 8 0)) (64 + 8) (leBytes 6 mac.toNat)

/-- A frame or list that matches no bound slot (R121, R122, R750): counted, or held back for its template. -/
def State.unmatched (s : State) (q : Nat) (mac : BitVec 48) (vlan : BitVec 12) (udp : BitVec 16) : State :=
  match s.template mac vlan udp with
  | none => s.countSat (Reg.SIC_ETH_UNBOUND q) 0 32 1
  | some t =>
    let c := s.sourceOf mac vlan udp
    let s := if dueAfter c.appear 1000 s.stepNo then s.event 0x03 0 0x0380 0 (sourceData mac vlan udp) else s
    let c := { c with appear := if dueAfter c.appear 1000 s.stepNo then some s.stepNo else c.appear }
    if bits (recFlags t) 1 1 == 0 then s.logRefused c 0
    else if c.waitSlot then s.logRefused c REFUSED_FIT
    else
      match (List.range 256).find? (fun n => u t 8 1 ≤ n && n ≤ u t 9 1 && !(s.slot n).bound) with
      | none => s.logRefused { c with waitSlot := true } REFUSED_FIT
      | some n =>
        let (code, s) := s.admitRec n (templateRecord t n mac)
        if code == DONE then s.setSource c else s.logRefused c code

/-! ### Reception -/

/-- A switch port. -/
def State.swPort (s : State) (q : Nat) : SwPort := SMap.get {} s.sic.ports q

/-- Set a switch port. -/
def State.setSwPort (s : State) (q : Nat) (x : SwPort) : State := { s with sic := { s.sic with ports := SMap.put {} s.sic.ports q x } }

/-- The port and the switch core are powered (Table 16.1). -/
def State.ethLive (s : State) (q : Nat) : Bool := s.powered (70 + q) && s.powered 93

/-- The bound slot a frame's stream identifies (R90): VLAN and source MAC, and the UDP port where one matches. -/
def State.streamSlot (s : State) (f : EthFrame) : Option Nat :=
  let m (r : List Byte) : Bool := (recKind r == kScanner || recKind r == kPartner) && recVlan r == f.vlan.toNat && recMac r == f.smac.toNat
  match s.findSlot (fun r => m r && recUdp r == f.udp.toNat) with
  | some n => some n
  | none => s.findSlot m

/-- Unit charged for a drop of Qci or MACsec: the slot the stream identifies, otherwise the port (R90, R96). -/
def State.chargeEth (s : State) (q : Nat) (f : EthFrame) (kind : Nat) : State := s.violate ((s.streamSlot f).getD (272 + q)) kind

/-- The port's SecY, or the frame's slot, requires protection (R96, Table 3.8). -/
def State.macsecReq (s : State) (q : Nat) (f : EthFrame) : Bool :=
  (s.swPort q).macsecReq || (match s.streamSlot f with
    | some n => bits (recFlags (s.slot n).record) 4 1 == 1
    | none => false)

/-- The frame passes its SecY: ICV, replay window, and protection where it is required (R96); the association's next packet number follows. -/
def State.macsecPass (s : State) (q : Nat) (f : EthFrame) : Bool × State :=
  match f.sec with
  | none => (!s.macsecReq q f, s)
  | some t =>
    match s.sec.assocs.find? (fun a => a.port == q && !a.tx && a.chan == t.channel.val && a.an == t.an.toNat) with
    | none => (false, s)
    | some a =>
      if !t.icvOk || t.pn + Config.replayWindow q < a.pn then (false, s)
      else (true, { s with sec := { s.sec with assocs := s.sec.assocs.map (fun b => if b == a then { b with pn := max b.pn (t.pn + 1) } else b) } })

/-- A frame in Standby: a wake frame on a kept port wakes the device; every frame is dropped (R671). -/
def State.standbyFrame (s : State) (q : Nat) (f : EthFrame) : State :=
  let match? := s.bit Reg.AON_WAKE_CFG 7 && s.bit Reg.AON_STBY_KEEP q && !s.inTransition && f.fcsOk &&
    f.dmac.toNat == s.regN Reg.AON_WAKE_DMAC_LO + 2 ^ 32 * s.fld' Reg.AON_WAKE_DMAC_HI 0 16 &&
    (!s.bit Reg.AON_WAKE_ETYPE 16 || f.etype.toNat == s.fld' Reg.AON_WAKE_ETYPE 0 16)
  if !match? then s
  else if !(s.swPort q).macsecReq then s.wakeEthernet
  else
    match s.macsecPass q f with
    | (true, s) => s.wakeEthernet
    | (false, s) => s

/-- Refill a meter's tokens to the present time (R87). -/
def Qci.refill (x : Qci) (t : Time) : Qci :=
  let ms := (t - x.last) / msT
  if ms == 0 then x else { x with ctok := min x.cbs (x.ctok + ms * x.cir), etok := min x.ebs (x.etok + ms * x.eir), last := x.last + ms * msT }

/-- A big-endian field of a packet. -/
def be (b : List Byte) (off n : Nat) : Nat := beNat ((b.drop off).take n)

/-- The IP fields of a frame: addresses, protocol and ports (IPv4 and IPv6 headers, by reference). -/
def ipFields (f : EthFrame) : Option (Nat × Nat × Nat × Nat × Nat) :=
  let b := f.payload
  if f.etype == 0x0800 then
    let h := 4 * (u b 0 1 % 16)
    some (be b 12 4, be b 16 4, u b 9 1, be b h 2, be b (h + 2) 2)
  else if f.etype == 0x86DD then some (be b 8 16, be b 24 16, u b 6 1, be b 40 2, be b 42 2)
  else none

/-- A frame belongs to a stream (Table 3.3, stream identification). -/
def StreamId.holds (f : EthFrame) : StreamId → Bool
  | .null d v => f.dmac == d && f.vlan == v
  | .src m v => f.smac == m && f.vlan == v
  | .ip d v sa da pr sp dp =>
    match ipFields f with
    | none => false
    | some (a, b, p, x, y) =>
      let ok (want : Option Nat) (got : Nat) : Bool := want.isNone || want == some got
      f.dmac == d && f.vlan == v && ok sa a && ok da b && ok pr p && ok sp x && ok dp y

/-- The entry in force of a control list of (state, ns) at an instant, and the end of that entry: the list repeats from its base time, and
has the same phase before it (R88). -/
def cyclePos (base : Int) (ns : List Nat) (t : Time) : Nat × Time :=
  let cycle : Int := max 1 (ns.sum * nsT : Nat)
  let ph : Int := ((t : Int) - base) % cycle
  let rec go (k : Nat) (left : Int) : List Nat → Nat × Int
    | [] => (0, 0)
    | n :: l => if left < n * nsT then (k, n * nsT - left) else go (k + 1) (left - n * nsT) l
  let (k, rest) := go 0 ph ns
  (k, ((t : Int) + rest).toNat)

/-- Base time of a control list on the device time scale: T_0 plus a number of cadences (R88). -/
def State.gateBase (s : State) (n : Int) : Int := (s.csq.t0 : Int) + n * s.cadence

/-- A stream gate is open now: its control list while T_0 is set, otherwise its fixed state (R87, R88). -/
def State.gateOpen (s : State) (g : StreamGate) : Bool :=
  if g.list.isEmpty || !s.csq.t0Set then g.isOpen
  else (g.list.getD (cyclePos (s.gateBase g.base) (g.list.map (·.2)) s.now).1 (true, 0)).1

/-- The stream filter passes a frame of a length: gate, oversize and meter (R90); a red frame is dropped. An oversize frame blocks the stream
where StreamBlockedDueToOversizeFrame is enabled (Table 3.3). -/
def Qci.pass (x : Qci) (gate : Bool) (t : Time) (len : Nat) : Bool × Qci :=
  let x := x.refill t
  if x.maxSdu != 0 && x.maxSdu < len then (false, { x with blocked := x.blockOver })
  else if !gate || x.blocked then (false, x)
  else if x.cir == 0 && x.eir == 0 then (true, x)
  else if len ≤ x.ctok then (true, { x with ctok := x.ctok - len })
  else if len ≤ x.etok then (true, { x with etok := x.etok - len })
  else (false, x)

/-- Per-stream filtering and policing of a frame, and the maximum frame (Table 3.3, R90). A frame over the maximum is treated as an oversize
SDU: counted as a police drop and charged 0x10 (DESIGN CHOICE, log entry 34: the manual states a maximum and no answer). -/
def State.qciPass (s : State) (f : EthFrame) : Bool × State :=
  if (if f.vlan.toNat == 0 then 9018 else 9022) < f.len then (false, s)
  else
    match List.find? (fun (p : Nat × Qci) => p.2.stream.holds f) s.sic.qci with
    | none => (true, s)
    | some (k, x) =>
      let gate := match x.gate with
        | some g => ((SMap.find? s.sic.sgates g).map s.gateOpen).getD true
        | none => true
      let (ok, x) := x.pass gate s.now f.len
      (ok, { s with sic := { s.sic with qci := SMap.insert s.sic.qci k x } })

/-- What a recovery function makes of a sequence number: 0 accept, 1 duplicate, 2 rogue (R91). The match algorithm compares with the last
number alone (IEEE 802.1CB). -/
def Recov.judge (r : Recov) (n : Nat) : Nat × Recov :=
  match r.last with
  | none => (0, { r with last := some n, seen := [n] })
  | some l =>
    let d := toSigned 16 ((n + 65536 - l) % 65536)
    if !r.vector then (if n == l then (1, r) else (0, { r with last := some n }))
    else if r.hist ≤ d.natAbs then (2, r)
    else if r.seen.contains n then (1, r)
    else (0, { r with last := some (if 0 < d then n else l), seen := (n :: r.seen).take r.hist })

/-- The recovery functions of a frame's stream on its port: individual recovery first, then that of the stream (R87; IEEE 802.1CB). -/
def State.recovsOf (s : State) (q : Nat) (f : EthFrame) : List Recov :=
  (s.sic.recov.filter (fun r => r.stream.holds f && r.port == some q)).take 1 ++
  (s.sic.recov.filter (fun r => r.stream.holds f && r.port.isNone)).take 1

/-- Frame replication elimination: each function in turn, until one does not accept (R87, R91). -/
def State.recovPass (s : State) (q : Nat) (f : EthFrame) : Nat × State :=
  match f.rseq with
  | none => (0, s)
  | some n =>
    (s.recovsOf q f).foldl (fun (k, s) r =>
      if k != 0 then (k, s)
      else
        let (k', r') := r.judge n.toNat
        (k', { s with sic := { s.sic with recov := s.sic.recov.map (fun x => if x == r then r' else x) } })) (0, s)

/-- Sequence generation: the number the next frame of a stream takes (Table 3.3). -/
def State.seqStamp (s : State) (f : EthFrame) : Option (BitVec 16) × State :=
  match s.sic.seqGen.find? (fun g => g.stream.holds f) with
  | none => (f.rseq, s)
  | some g => (some g.next, { s with sic := { s.sic with seqGen := s.sic.seqGen.map (fun x => if x == g then { x with next := x.next + 1 } else x) } })

/-- The bytes of a frame as a port sends them: its VLAN tag, which a frame of VLAN 0 and priority 0 does not have, and the redundancy tag of
a sequence number (IEEE 802.1Q, IEEE 802.1CB). -/
def ethBytes (f : EthFrame) (seq : Option (BitVec 16)) : List Byte :=
  beBytes 6 f.dmac.toNat ++ beBytes 6 f.smac.toNat ++ 
  (if f.vlan == 0 && f.pcp == 0 then [] else beBytes 2 0x8100 ++ beBytes 2 (f.pcp.toNat * 8192 + f.vlan.toNat)) ++
  (match seq with
   | some n => beBytes 2 0xF1C1 ++ beBytes 2 0 ++ beBytes 2 n.toNat
   | none => []) ++
  beBytes 2 f.etype.toNat ++ f.payload

/-- The ones' complement checksum of bytes taken as 16-bit words (RFC 1071). -/
def inetSum (b : List Byte) : Nat :=
  let t := ((List.range ((b.length + 1) / 2)).map (fun k => 256 * u b (2 * k) 1 + u b (2 * k + 1) 1)).sum
  let t := t % 65536 + t / 65536
  0xFFFF - (t % 65536 + t / 65536)

/-- A UDP datagram over IPv4 (RFC 768, RFC 791): addresses, ports, the open fields of the header, data. -/
def ipDatagram (sip dip sport dport : Nat) (open' : Nat × Nat × Nat × Nat) (data : List Byte) : List Byte :=
  let n := data.length + 8
  let head (sum : Nat) : List Byte := [0x45] ++ beBytes 1 open'.1 ++ beBytes 2 (n + 20) ++ beBytes 2 open'.2.1 ++ beBytes 2 open'.2.2.1 ++
    beBytes 1 open'.2.2.2 ++ [17] ++ beBytes 2 sum ++ beBytes 4 sip ++ beBytes 4 dip
  let udp (sum : Nat) : List Byte := beBytes 2 sport ++ beBytes 2 dport ++ beBytes 2 n ++ beBytes 2 sum
  let c := inetSum (beBytes 4 sip ++ beBytes 4 dip ++ [0, 17] ++ beBytes 2 n ++ udp 0 ++ data)
  head (inetSum (head 0)) ++ udp (if c == 0 then 0xFFFF else c) ++ data

/-- Forward a frame under the static filtering entries, with its stream's sequence number, and deliver it to the intake where one names
port 12 (R87, R121, R750). -/
def State.forward (s : State) (q : Nat) (f : EthFrame) : State :=
  let (seq, s) := s.seqStamp f
  let outs := (s.sic.fdb.filter (fun (v, m, _) => v == f.vlan && m == f.dmac)).flatMap (·.2.2)
  let s := (outs.filter (fun p => p != q && p < 12)).foldl (fun s p =>
    if s.ethLive p then s.setSwPort p { s.swPort p with txq := (s.swPort p).txq ++ [(f.pcp.toNat, ethBytes f seq)] } else s) s
  if !outs.contains 12 then s
  else
    match s.findSlot (fun r => (recKind r == kScanner || recKind r == kPartner) && recVlan r == f.vlan.toNat && recMac r == f.smac.toNat && recUdp r == f.udp.toNat) with
    | some _ => s
    | none => s.unmatched q f.smac f.vlan f.udp

/-- EtherType of gPTP (IEEE 802.1AS). -/
abbrev gptpType : BitVec 16 := 0x88F7

/-- A gPTP frame stops at the port: a Pdelay_Req (messageType 2) is answered; what the other messages carry comes with the rows of the time
base (R46; log entry 10). -/
def State.gptpRx (s : State) (q : Nat) (f : EthFrame) : State :=
  if u f.payload 0 1 % 16 == 2 then s.pdelayAnswer q f.raw else s

/-- A frame received on a switch port: FCS, MACsec, policing, elimination of replicas, forwarding (R87 to R96, R671). -/
def State.ethRx (s : State) (q : Nat) (f : EthFrame) : State :=
  if !s.ethLive q then s
  else
    let s := s.reach f.raw
    if s.pwr == 2 then s.standbyFrame q f
    else if !f.fcsOk then s.countSat (Reg.SIC_ETH_FCS q) 0 32 1
    else if s.sic.heldPorts.contains (272 + q) && f.etype != gptpType then s
    else
      match s.macsecPass q f with
      | (false, s) => (s.countSat (Reg.SIC_ETH_MACSEC q) 0 32 1).chargeEth q f 0x11
      | (true, s) =>
        match s.qciPass f with
        | (false, s) => (s.countSat (Reg.SIC_ETH_POLICE q) 0 32 1).chargeEth q f 0x10
        | (true, s) =>
          let (r, s) := s.recovPass q f
          if r == 0 then (if f.etype == gptpType then s.gptpRx q f else s.forward q f)
          else if r == 1 then s
          else s.countSat (Reg.SIC_ETH_ROGUE q) 0 32 1

/-- ETH_FRAME_RECEIVED row (R87). -/
def execEthFrameReceived (q : Fin 12) (f : EthFrame) (s : State) : Host.Outcome State Fault Refusal := .next (s.ethRx q f)

/-! ### Transmission -/

/-- Packet-number space of an association (R653). -/
def Assoc.space (a : Assoc) : Nat := if a.xpn then 2 ^ 64 else 2 ^ 32

/-- The association a port's transmit channel uses: the AN that SELECT_TX named (R652). -/
def State.txAssoc (s : State) (q : Nat) : Option Assoc :=
  match SMap.find? s.sec.txAn q with
  | none => none
  | some an => s.sec.assocs.find? (fun a => a.port == q && a.tx && a.an == an)

/-- A frame protected under an association and its key: SecTAG with the SCI, cipher text, ICV (R94, R652; IEEE 802.1AE, GCM-AES-256 and
GCM-AES-XPN-256). -/
def State.macsecFrame (s : State) (q : Nat) (a : Assoc) (bs : List Byte) : List Byte :=
  let key := SMap.get [] s.sec.keys a.slot
  let sci := beBytes 8 (s.swPort q).sci
  let data := bs.drop 12
  let tag := beBytes 2 0x88E5 ++ beBytes 1 (0x2C + a.an) ++ beBytes 1 (if data.length < 48 then data.length else 0) ++ beBytes 4 a.pn ++ sci
  let iv := if a.xpn then xorBytes ((key.drop 44).take 4 ++ beBytes 8 a.pn) ((key.drop 32).take 12) else sci ++ beBytes 4 a.pn
  let (ct, icv) := gcmSeal (key.take 32) iv (bs.take 12 ++ tag) data
  bs.take 12 ++ tag ++ ct ++ icv

/-- A protected frame leaves: the packet number advances, PN_NEAR once at three quarters of its space; an exhausted one sends no frame and is
counted (R653). -/
def State.sendProtected (s : State) (q : Nat) (a : Assoc) (bs : List Byte) : State :=
  if a.space ≤ a.pn then s.countSat Reg.SEC_PN_EXHAUST 0 32 1
  else
    let near := a.near || decide (a.space / 4 * 3 ≤ a.pn)
    let s := { s with sec := { s.sec with assocs := s.sec.assocs.map (fun b => if b == a then { a with pn := a.pn + 1, near := near } else b) } }
    let s := if near && !a.near then s.event 0x0F 1 0x0F05 0 [BitVec.ofNat 8 q, 1, BitVec.ofNat 8 a.an] else s
    s.emit (.eth q 11 (s.macsecFrame q a bs))

/-- The first waiting frame whose gate is open is sent, protected where the port has a transmit association (R88, R94, R653). -/
def State.ethTx (s : State) (q : Nat) : State :=
  let x := s.swPort q
  match x.txq.find? (fun (c, _) => x.gates.getLsbD c) with
  | none => s
  | some (c, bs) =>
    if !s.ethLive q || !s.bit (Reg.SIC_ETH_STAT q) 2 then s
    else
      let s' := s.setSwPort q { x with txq := x.txq.erase (c, bs) }
      match s.txAssoc q with
      | some a => s'.sendProtected q a bs
      | none => if x.macsecReq then s else s'.emit (.eth q 10 bs)

/-- ETH_FRAME_TRANSMIT row (R653). -/
def execEthFrameTransmit (q : Fin 12) (s : State) : Host.Outcome State Fault Refusal := .next (s.ethTx q)

/-- The present entry of a gate control list ends, and the next sets the gates (R88). -/
def State.tasGate (s : State) (q : Nat) : State :=
  let x := s.swPort q
  if !s.ethLive q || x.gcl.isEmpty || !s.csq.t0Set then s
  else
    let s := s.reach x.gclEnd
    let k := (x.gclIdx + 1) % x.gcl.length
    let e := x.gcl.getD k (0xFF, 0)
    s.setSwPort q { x with gclIdx := k, gates := e.1, gclEnd := x.gclEnd + e.2 * nsT }

/-- TAS_GATE_EVENT row (R88). -/
def execTasGateEvent (q : Fin 12) (s : State) : Host.Outcome State Fault Refusal := .next (s.tasGate q)

/-- Steps in a row, the present one included, in which a port's SQI has been below its limit (R93). -/
def State.sqiSteps (s : State) (x : SwPort) : Nat :=
  match x.sqiFrom with
  | some k => s.stepNo + 1 - k
  | none => 0

/-- The 100th step in a row below the limit logs event 0x0385, once a run (R93). The reading stands until the next one. -/
def State.sqiCheck (s : State) (q : Nat) : State :=
  let x := s.swPort q
  if x.sqiBad || s.sqiSteps x < 100 then s
  else (s.setSwPort q { x with sqiBad := true }).event 0x03 2 0x0385 0 [BitVec.ofNat 8 q, BitVec.ofNat 8 (s.fld' (Reg.SIC_ETH_STAT q) 3 8)]

/-- The signal quality an 802.3ch port reads (R93). -/
def State.sqi (s : State) (q v : Nat) : State :=
  let x := s.swPort q
  if !s.ethLive q || 8 ≤ q then s
  else
    let s := s.setFld (Reg.SIC_ETH_STAT q) 3 8 v
    if x.sqiLim ≤ v then s.setSwPort q { x with sqiFrom := none, sqiBad := false }
    else (s.setSwPort q { x with sqiFrom := some (x.sqiFrom.getD s.stepNo) }).sqiCheck q

/-- SQI_DEGRADED row (R93). -/
def execSqiDegraded (q : Fin 12) (sqi : BitVec 8) (s : State) : Host.Outcome State Fault Refusal := .next (s.sqi q sqi.toNat)

/-! ### CAN -/

/-- A CAN controller. -/
def State.canCtl (s : State) (n : Nat) : Can := SMap.get {} s.sic.can n

/-- The controller runs: powered, not bus-off, not held (R100, R129). -/
def State.canLive (s : State) (n : Nat) : Bool :=
  (if n == 3 then s.powered 88 else s.powered 94) && !(s.canCtl n).off && !s.sic.heldPorts.contains (288 + n)

/-- The value of a signal in a message (R99): its bits, little- or big-endian, signed or not, scaled by a Q16.16 factor, plus its offset. A
big-endian start bit counts from the most significant bit of byte 0, and the scaled value is rounded to nearest with ties away from zero
(DESIGN CHOICE, log entry 34: R99 states neither). -/
def CanSignal.value (g : CanSignal) (data : List Byte) : Int :=
  let v := if g.big then bits (leNat data.reverse) (8 * data.length - g.start - g.len) g.len else bits (leNat data) g.start g.len
  roundAway ((if g.signed then toSigned g.len v else v) * g.scale) 65536 + g.offset

/-- The signal table of a CAN slot: at the address that its descriptor's EXT holds (R99, Table 3.8; the whole of EXT is taken as the address,
log entry 34). -/
def State.canTable (s : State) (slot : Nat) : Option CanTable := SMap.find? s.sic.canSig (leNat (recExt (s.slot slot).record))

/-- Set a CAN controller. -/
def State.setCan (s : State) (n : Nat) (x : Can) : State := { s with sic := { s.sic with can := SMap.put {} s.sic.can n x } }

/-- SIC_CANn_STAT shows the error counters of controllers 0 to 2 and the error state: 0 error-active, 1 error-passive, 3 bus-off (Table 3.13;
the code of the states is a DESIGN CHOICE, log entry 34). -/
def State.canShow (s : State) (n : Nat) : State :=
  let x := s.canCtl n
  if n == 3 then s
  else
    ((s.setFld (Reg.SIC_CAN_STAT n) 0 8 (min 255 x.txErr)).setFld (Reg.SIC_CAN_STAT n) 8 8 (min 255 x.rxErr)).setFld (Reg.SIC_CAN_STAT n) 16 2
      (if x.off then 3 else if 127 < x.txErr || 127 < x.rxErr then 1 else 0)

/-- A frame received without error takes the receive error counter down by one, an error-passive receiver's to 127 (R97; ISO 11898-1). -/
def State.canGood (s : State) (n : Nat) : State :=
  let x := s.canCtl n
  (s.setCan n { x with rxErr := if 127 < x.rxErr then 127 else x.rxErr - 1 }).canShow n

/-- An accepted message: length check, consistency, and its signals published to EGO and FLD with the time of R52 (R80, R98, R99, R112). An
object message for FLD becomes a detection there. -/
def State.canAccept (s : State) (n slot : Nat) (m : CanMsg) : State :=
  match s.canTable slot with
  | none => s
  | some t =>
    let s := (s.received slot).yieldPatch [slot]
    if m.data.length != t.len then s.violate slot 0x42
    else
      let s := s.consistent slot
      let vals := t.sigs.map (fun g => g.value m.data)
      let at' := s.capture (18 + n) m.raw
      if s.forwards slot then
        let s := s.handOn slot (if t.object then 1 else 0) at' (vals.flatMap (fun v => leBytes 8 (ofSigned 64 v)))
        let s := s.egoWheel slot at' (recExt (s.slot slot).record) vals
        if t.object then s.detReady (s.asDet slot 0 (Config.canDet vals slot (at' / nsT))) 4 else s
      else s

/-- An acceptance filter matches a message: identifier under its mask, and for CAN XL the SDT, VCID and AF it gives (R98). -/
def CanFilter.holds (g : CanFilter) (n : Nat) (m : CanMsg) : Bool :=
  g.ctl == n && (m.id &&& g.mask) == (g.id &&& g.mask) &&
  (m.fmt != .xl || ((g.sdt.isNone || g.sdt == some m.sdt) && (g.vcid.isNone || g.vcid == some m.vcid) && (g.af.isNone || g.af == some m.af)))

/-- A CAN message: the first acceptance filter of its controller that matches names its slot (R98). CAN XL frames are
accepted with FEAT_CAN_XL only (Table 17.4). -/
def State.canRx (s : State) (n : Nat) (m : CanMsg) : State :=
  if !s.canLive n || (m.fmt == .xl && !s.feat 11) then s
  else
    let s := (s.reach m.raw).canGood n
    match s.sic.canFilt.find? (fun g => g.holds n m) with
    | none => s
    | some g => if recKind (s.slot g.slot).record == kCan && (s.slot g.slot).bound then s.canAccept n g.slot m else s

/-- CAN_MESSAGE row (R98). -/
def execCanMessage (n : Fin 4) (m : CanMsg) (s : State) : Host.Outcome State Fault Refusal := .next (s.canRx n m)

/-- Bus-off: the port stops; a violation on controllers 0 to 2, and event 0x0E0B on controller 3 (R100, Table 13.11). -/
def State.canOff (s : State) (n : Nat) : State :=
  if !s.canLive n then s
  else
    let s := (s.setCan n { s.canCtl n with off := true }).canShow n
    if n == 3 then s.event 0x0E 2 0x0E0B 0 [] else s.violate (288 + n) 0x41

/-- CAN_BUS_OFF row (R100). -/
def execCanBusOff (n : Fin 4) (s : State) : Host.Outcome State Fault Refusal := .next (s.canOff n)

/-- The error counters after an error frame: 8 for a transmitter, 1 for a receiver, 8 where it was the first to see the error (R97;
ISO 11898-1). -/
def Can.count (x : Can) : CanErr → Can
  | .tx => { x with txErr := x.txErr + 8 }
  | .rx => { x with rxErr := min 255 (x.rxErr + 1) }
  | .rxFirst => { x with rxErr := min 255 (x.rxErr + 8) }

/-- An error frame: counted; a violation of the port on controllers 0 to 2 (R126, Table 3.9). A transmit error counter above 255 is bus-off
(ISO 11898-1). -/
def State.canError (s : State) (n : Nat) (e : CanErr) : State :=
  if !s.canLive n then s
  else
    let s := (s.setCan n ((s.canCtl n).count e)).canShow n
    let s := if n == 3 then s else (s.countSat (Reg.SIC_CAN_STAT n) 18 14 1).violate (288 + n) 0x40
    if 255 < (s.canCtl n).txErr then s.canOff n else s

/-- CAN_ERROR_FRAME row (R126). -/
def execCanErrorFrame (e : CanErrFrame) (s : State) : Host.Outcome State Fault Refusal := .next (s.canError e.ctl e.err)

/-- The recovery sequence is complete: controller 3 always rejoins, with event 0x0E0B, and its waiting frames start (R586), the others when CAN_AUTO_RECOVER says so
(R100, Table 13.11). -/
def State.canBack (s : State) (n : Nat) : State :=
  if !(s.canCtl n).off then s
  else if n == 3 then
    let s := (s.setCan n { xlSwitch := (s.canCtl n).xlSwitch }).event 0x0E 2 0x0E0B 0 []
    s.saf.canq.foldl (fun s f => (s.emit (.can f)).countWrap Reg.SAF_CAN_CNT 0 16 1) { s with saf := { s.saf with canq := [] } }
  else if s.bit Reg.SIC_CTRL n then (s.setCan n { xlSwitch := (s.canCtl n).xlSwitch }).canShow n
  else s

/-- CAN_BUS_RECOVERY row (R100). -/
def execCanBusRecovery (n : Fin 4) (s : State) : Host.Outcome State Fault Refusal := .next (s.canBack n)

/-! ### Inertial units -/

/-- The IMU slot of a port. -/
def State.imuSlot (s : State) (n : Nat) : Option Nat := s.findSlot (fun r => recKind r == kImu && recPort r == n)

/-- The port runs: powered and not held. -/
def State.imuLive (s : State) (n : Nat) : Bool := s.powered 94 && !s.sic.heldPorts.contains (296 + n)

/-- Expected period of a slot in device time. -/
def State.periodT (s : State) (slot : Nat) : Time := recPeriod (s.slot slot).record * usT

/-- The SPI transfer of an IMU slot: mode 0 to 3, SCK 1 to 24 MHz, up to 8 command bytes, a response of up to 64 bytes, as the descriptor's
extension gives them (R101). -/
def imuTransfer (r : List Byte) : Nat × Nat × List Byte × Nat :=
  let (m, k, c, n) := Config.imuSpi (recExt r)
  (m % 4, max 1000 (min 24000 k), c.take 8, min 64 n)

/-- A DRDY edge. On the active one, whose direction TBU_IMU_CFG gives, the time is taken and the SPI command starts (R53, R101); less than
half a period after the one before it is violation 0x51 (R103). -/
def State.imuEdge (s : State) (n : Nat) (falling : Bool) (raw : Time) : State :=
  match s.imuLive n && falling == s.bit Reg.TBU_IMU_CFG n, s.imuSlot n with
  | true, some k =>
    let s := s.reach raw
    let t := s.capture (22 + n) raw
    let early := match (s.slot k).drdy with
      | some p => decide ((t - p) * 2 < s.periodT k)
      | none => false
    let (m, sck, cmd, len) := imuTransfer (s.slot k).record
    let s := ((s.setSlot k { s.slot k with drdy := some t, missAt := none, early := early }).yieldPatch [k]).emit (.spi n m sck cmd len)
    if early then s.violate k 0x51 else s
  | _, _ => s

/-- IMU_DRDY_EDGE row (R101). -/
def execImuDrdyEdge (n : Fin 2) (e : DrdyEdge) (s : State) : Host.Outcome State Fault Refusal := .next (s.imuEdge n e.falling e.raw)

/-- A completed SPI response: check word and sample counter, then an inertial sample with the time of its DRDY edge (R53, R102, R116); the
response to an early edge is dropped (Table 3.9). It is not judged for check word and counter, its sample being dropped already; every
response's counter, a bad one's too, is the next one's reference (DESIGN CHOICE, log entry 34: R102 states neither). -/
def State.imuTake (s : State) (n : Nat) (data : List Byte) : State :=
  match s.imuLive n, s.imuSlot n with
  | true, some k =>
    match (s.slot k).drdy with
    | none => s
    | some t =>
      let s := s.received k
      let x := s.slot k
      let ext := recExt x.record
      let data := data.take (imuTransfer x.record).2.2.2
      let cnt := Config.imuCounter ext data
      let bad := !Config.imuCheck ext data || (match x.imuCnt, cnt with
        | some a, some b => b != (a + 1) % 256
        | _, _ => false)
      let s := s.setSlot k { x with imuCnt := cnt, early := false }
      if x.early then s
      else if bad then s.violate k 0x50
      else
        let s := s.consistent k
        if s.forwards k then (s.handOn k 0 t data).egoSample k t (Config.imuValues ext data) else s
  | _, _ => s

/-- IMU_RESPONSE row (R102). -/
def execImuResponse (n : Fin 2) (data : List Byte) (s : State) : Host.Outcome State Fault Refusal := .next (s.imuTake n data)

/-- No DRDY within 1.5 periods: counted, no violation (R103). A further miss counts from the last miss, and none before a first edge
(DESIGN CHOICE, log entry 34: R103 gives no instant for either). -/
def State.imuMiss (s : State) (n : Nat) : State :=
  match s.imuLive n, s.imuSlot n with
  | true, some k =>
    match (s.slot k).drdy with
    | some p =>
      let t := (s.slot k).missAt.getD p + s.periodT k * 3 / 2
      ((s.reach t).setSlot k { s.slot k with missAt := some t }).countSat (Reg.SIC_IMU_MISS n) 0 32 1
    | none => s
  | _, _ => s

/-- IMU_DRDY_MISS row (R103). -/
def execImuDrdyMiss (n : Fin 2) (s : State) : Host.Outcome State Fault Refusal := .next (s.imuMiss n)

end Sys2Proof.Machine
end

