-- ==== Sys2Proof/Machine/Operands.lean ====
section
/-! DEFINITION. Machine/Operands.lean: the operand forms of tile commands and moves: the storage formats and their conversion (R200 to R204,
R211), and tensors: descriptors, element addresses, reads at the edge, and stores with halo and padding (R246 to R262). -/

namespace Sys2Proof.Machine

/-! ### Storage formats (Table 5.3) -/

/-- A number as a format holds it: `fin neg m e` is plus or minus m times 2^e. -/
inductive Num where
  | fin (neg : Bool) (m : Nat) (e : Int)
  | inf (neg : Bool)
  | nan (neg : Bool)
  deriving DecidableEq, Repr, Inhabited

/-- Width in bits of a format code. -/
def fmtWidth : Nat → Nat
  | 0 => 4
  | 1 => 8
  | 2 => 16
  | 3 => 32
  | 4 => 8
  | 5 => 8
  | 6 => 16
  | 7 => 16
  | _ => 32

/-- An integer format. -/
def fmtInt (f : Nat) : Bool := f ≤ 3

/-- Exponent bits, fraction bits and bias of a float format. -/
def fmtFloat : Nat → Nat × Nat × Int
  | 4 => (4, 3, 7)
  | 5 => (5, 2, 15)
  | 6 => (5, 10, 15)
  | 7 => (8, 7, 127)
  | _ => (8, 23, 127)

/-- The feature of a format is locked: INT4, and E4M3 and E5M2 (Table 17.4). -/
def State.fmtOffered (s : State) (f : Nat) : Bool := (f != 0 || s.feat 2) && ((f != 4 && f != 5) || s.feat 3)

/-- The number a bit pattern of a format stands for (Table 5.3). -/
def decodeNum (f x : Nat) : Num :=
  if fmtInt f then
    let v := toSigned (fmtWidth f) x
    .fin (decide (v < 0)) v.natAbs 0
  else
    let (eb, fb, bias) := fmtFloat f
    let neg := bits x (eb + fb) 1 == 1
    let e := bits x fb eb
    let m := bits x 0 fb
    let top := 2 ^ eb - 1
    if e == top && f != 4 then (if m == 0 then .inf neg else .nan neg)
    else if e == top && m == 2 ^ fb - 1 then .nan neg
    else if e == 0 then .fin neg m (1 - bias - fb)
    else .fin neg (2 ^ fb + m) (e - bias - fb)

/-- A value m times 2^e scaled to units of 2^q and rounded: to even, or away from zero on a tie. -/
def scaleRound (rna : Bool) (m : Nat) (e q : Int) : Nat :=
  if q ≤ e then m * 2 ^ (e - q).toNat
  else
    let dv := 2 ^ (q - e).toNat
    (if rna then roundAway m dv else roundEven m dv).toNat

/-- Bit pattern of the largest finite magnitude of a float format (Table 5.3). -/
def maxFinite (f : Nat) : Nat :=
  let (eb, fb, _) := fmtFloat f
  if f == 4 then 0x7E else (2 ^ eb - 1) * 2 ^ fb - 1

/-- The canonical NaN of a float format: all fraction bits set (R204). -/
def canonNan (f : Nat) : Nat :=
  let (eb, fb, _) := fmtFloat f
  2 ^ (eb + fb) - 1

/-- Round a finite magnitude to a float format, ties to even (R203): its pattern, which may lie beyond the largest finite one. -/
def roundFloat (f : Nat) (m : Nat) (e : Int) : Nat :=
  let (_, fb, bias) := fmtFloat f
  if m == 0 then 0
  else
    let q := max ((m.log2 : Int) + e - fb) (1 - bias - fb)
    ((q + bias + fb - 1) * 2 ^ fb + scaleRound false m e q).toNat

/-- A number in a float format (Table 5.4); whether it saturated, or became a NaN from a finite value. -/
def encodeFloat (f : Nat) (sat : Bool) (v : Num) : Nat × Bool :=
  let (eb, fb, _) := fmtFloat f
  let sign (neg : Bool) : Nat := if neg then 2 ^ (eb + fb) else 0
  match v with
  | .nan neg => (sign neg + canonNan f, false)
  | .inf neg =>
    if f == 4 then (if sat then (sign neg + maxFinite f, true) else (sign neg + canonNan f, false))
    else (sign neg + maxFinite f + 1, false)
  | .fin neg m e =>
    let c := roundFloat f m e
    if c ≤ maxFinite f then (sign neg + c, false)
    else if sat then (sign neg + maxFinite f, true)
    else if f == 4 then (sign neg + canonNan f, true)
    else (sign neg + maxFinite f + 1, false)

/-- A number in a signed integer format (Table 5.4); whether it saturated. -/
def encodeInt (w : Nat) (rna : Bool) (v : Num) : Nat × Bool :=
  match v with
  | .nan _ => (0, false)
  | .inf neg => (ofSigned w (if neg then -(2 ^ (w - 1) : Int) else 2 ^ (w - 1) - 1), true)
  | .fin neg m e =>
    let n : Int := scaleRound rna m e 0
    let x := if neg then -n else n
    (ofSigned w (satInt w x), decide (satInt w x ≠ x))

/-- Convert an element between formats (R203, R204, R211). -/
def convertElem (src dst : Nat) (sat rna : Bool) (x : Nat) : Nat × Bool :=
  if src == dst then (x, false)
  else if fmtInt dst then encodeInt (fmtWidth dst) rna (decodeNum src x)
  else encodeFloat dst sat (decodeNum src x)

/-! ### Tensor descriptors (Table 6.1) -/

abbrev dBase (b : List Byte) : Nat := u b 0 6
abbrev dExtBase (b : List Byte) : Nat := u b 6 6
abbrev dExtent (b : List Byte) : Nat := u b 12 4
abbrev dFmt (b : List Byte) : Nat := bits (u b 16 1) 0 4
/-- The layout is CG32. -/
abbrev dCg (b : List Byte) : Bool := bits (u b 17 1) 0 1 == 1
abbrev dHaloMode (b : List Byte) : Nat := bits (u b 17 1) 1 2
abbrev dRank (b : List Byte) : Nat := u b 18 1
abbrev dFlag (b : List Byte) (k : Nat) : Bool := bits (u b 19 1) k 1 == 1
abbrev dDim (b : List Byte) (k : Nat) : Nat := u b (20 + 2 * k) 2
/-- STRIDEk, k from 1 to 4. -/
abbrev dStride (b : List Byte) (k : Nat) : Nat := u b (26 + 4 * k) 4
abbrev dGstride (b : List Byte) : Nat := u b 46 4
abbrev dLo (b : List Byte) (k : Nat) : Nat := u b (48 + 2 * k) 1
abbrev dHi (b : List Byte) (k : Nat) : Nat := u b (49 + 2 * k) 1
abbrev dPad (b : List Byte) : Nat := u b 58 4

/-- Stores write halo cells: HALO_WRITE, or DEFAULT with SHARED clear (R250). -/
def haloWrites (b : List Byte) : Bool := dHaloMode b == 2 || (dHaloMode b == 0 && !dFlag b 0)

/-- Element size in nibbles (R252). -/
def nibs (f : Nat) : Nat := fmtWidth f / 4

/-- Dimensions 1 to RANK - 1. -/
def outerDims (b : List Byte) : List Nat := (List.range (dRank b)).drop 1

/-- Channel groups of 32 in CG32. -/
def groups (b : List Byte) : Nat := (dDim b 0 + 31) / 32

/-- Bytes of one run of dimension 0, or of one vector of 32 channels (R252). -/
def runBytes (b : List Byte) : Nat := if dCg b then 16 * nibs (dFmt b) else (dDim b 0 * nibs (dFmt b) + 1) / 2

/-- Span of dimension d: its stride times its halo and valid cells. -/
def spanOf (b : List Byte) (k : Nat) : Nat := dStride b k * (dLo b k + dDim b k + dHi b k)

/-- The bytes that the dimensions inside dimension d need. -/
def innerSpan (b : List Byte) (k : Nat) : Nat := if k ≤ 1 then runBytes b else spanOf b (k - 1)

/-- First address of the footprint, and the address past its last byte (R252). -/
def footprint (b : List Byte) : Int × Int :=
  let lo := ((outerDims b).map (fun k => dLo b k * dStride b k)).sum
  let hi := ((outerDims b).map (fun k => (dDim b k + dHi b k - 1) * dStride b k)).sum
  let g := if dCg b then (groups b - 1) * dGstride b else 0
  ((dBase b : Int) - lo, (dBase b : Int) + hi + g + runBytes b)

/-- Alignment of a descriptor (R253, R255). -/
def descAligned (b : List Byte) : Bool :=
  let int4cg := dCg b && dFmt b == 0
  (outerDims b).all (fun k => if int4cg && k == 1 then dStride b 1 == 16 else dStride b k % 32 == 0) && dGstride b % 32 == 0 &&
  (if int4cg then dLo b 1 * 16 ≤ dBase b && (dBase b - dLo b 1 * 16) % 32 == 0 else dBase b % 32 == 0)

/-- The checks of R248 that concern a descriptor alone. -/
def descOk (b : List Byte) : Bool :=
  let r := dRank b
  b.length == 64 && bits (u b 16 1) 4 4 == 0 && dFmt b ≤ 8 && bits (u b 17 1) 3 5 == 0 && dHaloMode b != 3 && bits (u b 19 1) 5 3 == 0 &&
  1 ≤ r && r ≤ 5 && (List.range 5).all (fun k => if k < r then dDim b k != 0 else dDim b k == 0) &&
  [1, 2, 3, 4].all (fun k => k < r || (dStride b k == 0 && dLo b k == 0 && dHi b k == 0)) &&
  (dCg b || dGstride b == 0) && decide (dPad b < 2 ^ fmtWidth (dFmt b)) && bits (u b 62 2) 10 6 == 0 &&
  descAligned b &&
  (outerDims b).all (fun k => decide (innerSpan b k ≤ dStride b k)) && (!dCg b || decide (innerSpan b r ≤ dGstride b)) &&
  decide ((dExtBase b : Int) ≤ (footprint b).1) && decide ((footprint b).2 ≤ (dExtBase b + dExtent b : Nat)) &&
  dExtBase b % 32 == 0 && dExtent b % 32 == 0 && dExtent b != 0 && inRegion (dExtBase b) (dExtent b)

/-! ### Elements -/

/-- An element's coordinates, dimension 0 first; missing dimensions are 0. -/
abbrev Coord := List Int

/-- Address of an element in nibbles (R252, R254). -/
def elemNib (b : List Byte) (c : Coord) : Int :=
  let n : Int := nibs (dFmt b)
  let i0 := c.getD 0 0
  2 * (dBase b : Int) + (if dCg b then (i0 % 32) * n + 2 * (i0 / 32) * dGstride b else i0 * n) +
  ((outerDims b).map (fun k => 2 * (c.getD k 0 * dStride b k))).sum

/-- A coordinate lies in the footprint (R252). -/
def inFootprint (b : List Byte) (c : Coord) : Bool :=
  let i0 := c.getD 0 0
  decide (0 ≤ i0) && decide (i0 < (if dCg b then 32 * groups b else dDim b 0 : Nat)) &&
  (outerDims b).all (fun k => decide (-(dLo b k : Int) ≤ c.getD k 0) && decide (c.getD k 0 < (dDim b k + dHi b k : Nat)))

/-- A value clamped to 0 up to n - 1. -/
def clampTo (n : Nat) (x : Int) : Int := max 0 (min x ((n : Int) - 1))

/-- A coordinate clamped into the valid range, dimension by dimension (R256). -/
def clampCoord (b : List Byte) (c : Coord) : Coord := (List.range (dRank b)).map (fun k => clampTo (dDim b k) (c.getD k 0))

/-- A coordinate is valid in every dimension. -/
def validCoord (b : List Byte) (c : Coord) : Bool :=
  (List.range (dRank b)).all (fun k => decide (0 ≤ c.getD k 0) && decide (c.getD k 0 < dDim b k))

/-- Read the element that lies at a footprint coordinate. -/
def State.elemAt (s : State) (id : Nat) (b : List Byte) (c : Coord) : Except Nat Nat × State :=
  let a := (elemNib b c).toNat
  let w := fmtWidth (dFmt b)
  match s.busRead id (a / 2) (max 1 (w / 8)) with
  | (.ok bs, s) => (.ok (if w == 4 then bits (leNat bs) (4 * (a % 2)) 4 else leNat bs), s)
  | (.error e, s) => (.error e, s)

/-- Read at any coordinate: memory inside the footprint, otherwise the clamped element or PAD (R256). -/
def State.readElem (s : State) (id : Nat) (b : List Byte) (c : Coord) : Except Nat Nat × State :=
  if inFootprint b c then s.elemAt id b c
  else if dFlag b 1 then s.elemAt id b (clampCoord b c)
  else (.ok (dPad b), s)

/-- All coordinates of a box, given the coordinates of each dimension. -/
def boxOf : List (List Int) → List Coord
  | [] => [[]]
  | xs :: r => let rest := boxOf r; xs.flatMap (fun x => rest.map (fun c => x :: c))

/-- The integers from a up to b - 1. -/
def spanInts (a b : Int) : List Int := (List.range (b - a).toNat).map (fun (k : Nat) => a + (k : Int))

/-- The valid coordinates of a descriptor. -/
def validCoords (b : List Byte) : List Coord := boxOf ((List.range (dRank b)).map (fun k => spanInts 0 (dDim b k)))

/-- The footprint's coordinates. -/
def footCoords (b : List Byte) : List Coord :=
  boxOf ((List.range (dRank b)).map (fun k =>
    if k == 0 then spanInts 0 (if dCg b then 32 * groups b else dDim b 0 : Nat) else spanInts (-(dLo b k : Int)) (dDim b k + dHi b k : Nat)))

/-! ### Stores (R257 to R262) -/

/-- Nibbles to store: nibble address and value. -/
abbrev NibMap := SMap Nat

/-- Add the nibbles of an element. -/
def putElem (m : NibMap) (b : List Byte) (c : Coord) (x : Nat) : NibMap :=
  let a := (elemNib b c).toNat
  (List.range (nibs (dFmt b))).foldl (fun m k => SMap.insert m (a + k) (bits x (4 * k) 4)) m

/-- The padding a store of a region writes: unused lanes of the last channel group, halo cells under HALO_WRITE, and the high nibble of the
last byte of a run of odd length in INT4 (R257). -/
def padNibs (b : List Byte) (region : Coord → Bool) : NibMap :=
  let cells := (footCoords b).filter (fun c => !validCoord b c && region (clampCoord b c) &&
    (haloWrites b || (outerDims b).all (fun k => decide (0 ≤ c.getD k 0) && decide (c.getD k 0 < dDim b k))))
  let m := cells.foldl (fun m c => putElem m b c (dPad b)) []
  if dFmt b == 0 && !dCg b && dDim b 0 % 2 == 1 then
    ((footCoords b).filter (fun c => c.getD 0 0 == (dDim b 0 : Int) - 1 && region (clampCoord b c) && (validCoord b c || haloWrites b))).foldl
      (fun m c => SMap.insert m ((elemNib b c).toNat + 1) (dPad b % 16)) m
  else m

/-- Valid data goes over padding at the same byte (R259). -/
def overNibs (pad valid : NibMap) : NibMap := valid.foldl (fun m p => SMap.insert m p.1 p.2) pad

/-- Bytes to store, by address: a nibble not stored keeps what memory holds. -/
def State.nibBytes (s : State) (m : NibMap) : List (Nat × Byte) :=
  let addrs := (m.map (fun p => p.1 / 2)).foldr (fun a l => if l.head? == some a then l else a :: l) []
  addrs.map (fun a =>
    let old := (s.byteAt a).toNat
    (a, BitVec.ofNat 8 (SMap.get (old % 16) m (2 * a) + 16 * SMap.get (old / 16) m (2 * a + 1))))

/-- Bytes gathered into units: runs of consecutive addresses within one 64-byte unit (R282). -/
def unitsOf : List (Nat × Byte) → List (Nat × List Byte)
  | [] => []
  | (a, x) :: r =>
    match unitsOf r with
    | (b, bs) :: us => if b == a + 1 && b % 64 != 0 then (a, x :: bs) :: us else (a, [x]) :: (b, bs) :: us
    | [] => [(a, [x])]

/-- Store units in order under an initiator ID, up to the first bus error: the status reached. -/
def State.storeUnits (s : State) (id : Nat) : List (Nat × List Byte) → Nat × State
  | [] => (DONE, s)
  | (a, bs) :: r =>
    let w := s.busWrite id a bs
    if w.1 == DONE then w.2.storeUnits id r else w

end Sys2Proof.Machine
end

