-- ==== Sys2Proof/Machine/Dml.lean ====
section
/-! DEFINITION. Machine/Dml.lean: the Data Movement and Layout block: the descriptor table, signals, moves, streaming sets and program
channels (06_layout_and_data_movement.md). -/

namespace Sys2Proof.Machine

/-- Initiator IDs of a streaming set and of a program channel (R276, R283). -/
def idSet (n : Nat) : Nat := 0x040 + n
def idChan (n : Nat) : Nat := 0x050 + n

/-- DML lies in domain 99 (Table 16.1). -/
def State.dmlOn (s : State) : Bool := s.powered 99

/-! ### The descriptor table -/

/-- A handle names a descriptor that takes new references (R245, R292). -/
def State.usable (s : State) (h : Nat) : Bool :=
  match SMap.find? s.dml.descs h with
  | some x => decide (h < 0x1000) && !x.retiring
  | none => false

/-- The bytes of a descriptor. -/
def State.descB (s : State) (h : Nat) : List Byte := ((SMap.find? s.dml.descs h).map (·.bytes)).getD []

/-- Take a reference (R291). -/
def State.addRef (s : State) (h : Nat) : State :=
  { s with dml := { s.dml with descs := SMap.modify s.dml.descs h (fun x => { x with refs := x.refs + 1 }) } }

/-- Release a reference; a RETIRING handle is freed with its last one (R292). -/
def State.dropRef (s : State) (h : Nat) : State :=
  match SMap.find? s.dml.descs h with
  | none => s
  | some x =>
    if x.retiring && x.refs ≤ 1 then { s with dml := { s.dml with descs := SMap.erase s.dml.descs h } }
    else { s with dml := { s.dml with descs := SMap.insert s.dml.descs h { x with refs := x.refs - 1 } } }

/-- References of several handles. -/
def State.addRefs (s : State) (hs : List Nat) : State := hs.foldl State.addRef s
def State.dropRefs (s : State) (hs : List Nat) : State := hs.foldl State.dropRef s

/-- The status of DML_DESC_CMD (Table 6.4). -/
def State.descStatus (s : State) (h code : Nat) : State :=
  let ret := ((SMap.find? s.dml.descs h).map (·.retiring)).getD false
  ((s.setFld Reg.DML_DESC_CMD_ST 0 8 code).setFld Reg.DML_DESC_CMD_ST 8 12 h).setBit Reg.DML_DESC_CMD_ST 21 ret

/-- The hurdles let pass the extent of a descriptor under its creator's ID (R249). -/
def State.extentOk (s : State) (id : Nat) (b : List Byte) : Bool :=
  s.admits id .read (dExtBase b) (dExtent b) && (dFlag b 3 || s.admits id .write (dExtBase b) (dExtent b))

/-- CREATE from staging (R248, R249). -/
def State.doDescCreate (s : State) (id h : Nat) : State :=
  let b := s.regBytes (Reg.DML_DESC_STAGE 0) 16
  let c := topCode ((if descOk b && s.fmtOffered (dFmt b) then [] else [REFUSED_DESCRIPTOR]) ++
    (if (SMap.find? s.dml.descs h).isSome then [REFUSED_STATE] else []) ++
    (if descOk b && !s.extentOk id b then [BUS_ERROR_HURDLE] else []))
  if c == DONE then
    { s with dml := { s.dml with descs := SMap.insert s.dml.descs h { bytes := patch b 62 (leBytes 2 id) } } }.descStatus h DONE
  else s.descStatus h c

/-- DESTROY (R292). -/
def State.doDescDestroy (s : State) (id h : Nat) : State :=
  match SMap.find? s.dml.descs h with
  | none => s.descStatus h REFUSED_STATE
  | some x =>
    if x.retiring || (dFlag x.bytes 2 && id != idLth) then s.descStatus h REFUSED_STATE
    else if x.refs == 0 then { s with dml := { s.dml with descs := SMap.erase s.dml.descs h } }.descStatus h DONE
    else { s with dml := { s.dml with descs := SMap.insert s.dml.descs h { x with retiring := true } } }.descStatus h DONE

/-- DESC_CREATE row: a host write of OP CREATE to DML_DESC_CMD (R248). -/
def execDescCreate (h : BitVec 12) (s : State) : Host.Outcome State Fault Refusal :=
  .next (s.hostCmd Reg.DML_DESC_CMD (fun s => s.doDescCreate idHost h.toNat))

/-- DESC_DESTROY row: a host write of OP DESTROY to DML_DESC_CMD (R292). -/
def execDescDestroy (h : BitVec 12) (s : State) : Host.Outcome State Fault Refusal :=
  .next (s.hostCmd Reg.DML_DESC_CMD (fun s => s.doDescDestroy idHost h.toNat))

/-! ### Signals -/

/-- The counter of a signal. -/
def State.sigCount (s : State) (k : Nat) : Nat := s.fld' (Reg.DML_SIG k) 0 16

/-- A program channel. -/
def State.chan (s : State) (n : Nat) : Chan := SMap.get {} s.dml.chans n

/-- Set a program channel, with what its registers and DML_STATUS show of it (Table 6.4). -/
def State.setChan (s : State) (n : Nat) (c : Chan) : State :=
  let s := { s with dml := { s.dml with chans := SMap.put {} s.dml.chans n c } }
  let st := Reg.DML_PC_ST n
  let s := if c.prog.isEmpty then s else s.setFld st 8 7 c.pc
  let s := ((s.setBit st 16 (!c.prog.isEmpty)).setBit st 17 c.wait.isSome).setFld st 18 2 (c.moves.length - 1)
  let l (k : Nat) : Nat := c.loops.getD k 0
  let s := (s.setReg (Reg.DML_PC_L01 n) (BitVec.ofNat 32 (l 0 + 65536 * l 1))).setReg (Reg.DML_PC_L23 n) (BitVec.ofNat 32 (l 2 + 65536 * l 3))
  s.setBit Reg.DML_STATUS 1 (s.dml.chans.any (fun p => !p.2.prog.isEmpty))

/-- A streaming set. -/
def State.sset (s : State) (n : Nat) : StreamSet := SMap.get {} s.dml.sets n

/-- Set a streaming set. -/
def State.setSset (s : State) (n : Nat) (x : StreamSet) : State := { s with dml := { s.dml with sets := SMap.put {} s.dml.sets n x } }

/-- A tile. -/
def State.tile (s : State) (t : Nat) : Tile := SMap.get {} s.tca.tiles t

/-- Set a tile. -/
def State.setTile (s : State) (t : Nat) (x : Tile) : State := { s with tca := { s.tca with tiles := SMap.put {} s.tca.tiles t x } }

/-- A waiter gets its signal (R272): a program goes past its WAIT, a set is triggered, a tile's command may start. -/
def State.grant (s : State) : Waiter → State
  | .chan n => s.setChan n { s.chan n with wait := none, pc := (s.chan n).pc + 1 }
  | .batch q => { s with bse := { s.bse with batches := s.bse.batches.map (fun (b : Batch) => if b.seq == q then { b with go := true } else b) } }
  | .set n => s.setSset n { s.sset n with trig := some s.now }
  | .tile t .stage => s.setTile t { s.tile t with stageGo := true }
  | .tile t .background => s.setTile t { s.tile t with bgGo := true }

/-- Judge one wait: served when the counter is at least n, which it then loses (R272). -/
def State.serveOne (s : State) (w : SigWait) : State :=
  if w.n ≤ s.sigCount w.sig then
    ({ s with dml := { s.dml with waits := s.dml.waits.erase w } }.setReg (Reg.DML_SIG w.sig) (BitVec.ofNat 32 (s.sigCount w.sig - w.n))).grant w.who
  else s

/-- Serve the waiters of a signal in ascending order of initiator ID (R274). -/
def State.serve (s : State) (sig : Nat) : State :=
  (sortBy (fun (a b : SigWait) => decide (a.id ≤ b.id)) (s.dml.waits.filter (fun w => w.sig == sig))).foldl State.serveOne s

/-- A unit begins to wait (R272). -/
def State.waitOn (s : State) (w : SigWait) : State :=
  if s.dml.waits.contains w then s else { s with dml := { s.dml with waits := s.dml.waits ++ [w] } }.serve w.sig

/-- A unit waits no longer. -/
def State.noWait (s : State) (who : Waiter) : State :=
  { s with dml := { s.dml with waits := s.dml.waits.filter (fun w => w.who != who) } }

/-- Raise a signal: add, saturating at 65,535 with SIG_OVF and event 0x0701 (R275), then serve its waiters and its vectors (R272, R274,
R699). -/
def State.raiseSig (s : State) (sig inc : Nat) : State :=
  let c := s.sigCount sig + inc
  let s := s.setReg (Reg.DML_SIG sig) (BitVec.ofNat 32 (min c 65535))
  let s := if c ≤ 65535 then s
    else
      let s := s.setBit Reg.DML_STATUS 2 true
      if s.dml.ovfLog == some s.stepNo then s
      else { s with dml := { s.dml with ovfLog := some s.stepNo } }.event 0x07 2 0x0701 0 (leBytes 2 sig)
  (s.serve sig).sigVectors sig

/-- A raise: out of the initiator's range it completes with BUS_ERROR_HURDLE (R273); an increment of 0 lies outside its range of values and
is ignored (R719). -/
def State.doSignalRaise (s : State) (id sig inc : Nat) : State :=
  if !s.sigGranted id sig then
    let s := s.refuseAccess (some 36) id .command Reg.DML_SIG_RAISE
    if id == idHost then s.failHost .ca else s.emit (.bus id BUS_ERROR_HURDLE [])
  else if inc == 0 then s
  else s.raiseSig sig inc

/-- SIGNAL_RAISE row: a host write to DML_SIG_RAISE (R272 to R275). -/
def execSignalRaise (sig : BitVec 10) (inc : BitVec 16) (s : State) : Host.Outcome State Fault Refusal :=
  .next (s.hostCmd Reg.DML_SIG_RAISE (fun s => s.doSignalRaise idHost sig.toNat inc.toNat))

/-! ### Moves -/

/-- A move: its mode (Table 6.2), descriptors, flags and window (R285). -/
structure MoveJob where
  mode : Nat
  gdim : Nat
  sat : Bool
  rna : Bool
  src : List Byte
  dst : List Byte
  idx : List Byte
  srcRow : Nat := 0
  dstRow : Nat := 0
  rows : Nat := 0
  deriving DecidableEq, Repr, Inhabited

/-- Valid sizes of the dimensions. -/
def shape (b : List Byte) : List Nat := (List.range (dRank b)).map (dDim b)

/-- Shape with the outermost dimension windowed (R285). -/
def shapeW (b : List Byte) (rows : Nat) : List Nat :=
  if rows == 0 then shape b else (shape b).dropLast ++ [rows]

/-- Dimensions 0 and 1 exchanged. -/
def swap01 {α : Type} : List α → List α
  | a :: b :: r => b :: a :: r
  | l => l

/-- Shapes equal in every dimension but one. -/
def sameBut (k : Nat) (a b : List Nat) : Bool := a.length == b.length && (List.range a.length).all (fun j => j == k || a.getD j 0 == b.getD j 0)

/-- The descriptors of a move agree (R264, R265, R267, R268, R285). -/
def moveOk (j : MoveJob) : Bool :=
  match j.mode with
  | 0 => shapeW j.src j.rows == shapeW j.dst j.rows
  | 2 => 2 ≤ dRank j.src && swap01 (shape j.src) == shape j.dst && swap01 (shapeW j.src j.rows) == shapeW j.dst j.rows
  | 3 => j.gdim < dRank j.src && sameBut j.gdim (shape j.src) (shape j.dst) && !dCg j.idx && dRank j.idx == 1 &&
         (dFmt j.idx == 2 || dFmt j.idx == 3) && dDim j.idx 0 == dDim j.dst j.gdim && j.rows == 0 &&
         !(j.gdim == 0 && (dFmt j.src == 0 || dFmt j.dst == 0))
  | 4 => j.gdim < dRank j.src && sameBut j.gdim (shape j.src) (shape j.dst) && !dCg j.idx && dRank j.idx == 1 &&
         (dFmt j.idx == 2 || dFmt j.idx == 3) && dDim j.idx 0 == dDim j.src j.gdim && j.rows == 0 &&
         !(j.gdim == 0 && (dFmt j.src == 0 || dFmt j.dst == 0))
  | _ => false

/-- A coordinate with one dimension replaced. -/
def putAt (c : Coord) (k : Nat) (x : Int) : Coord := c.set k x

/-- The indices of an index tensor (R265). -/
def State.readIdx (s : State) (id : Nat) (b : List Byte) : Except Nat (List Int) × State :=
  (List.range (dDim b 0)).foldl (fun (r, s) (k : Nat) =>
    match r with
    | .error e => (.error e, s)
    | .ok l =>
      match s.elemAt id b [(k : Int)] with
      | (.ok x, s) => (.ok (l ++ [toSigned (fmtWidth (dFmt b)) x]), s)
      | (.error e, s) => (.error e, s)) (.ok [], s)

/-- What each destination element is taken from, in order: a source coordinate, or none for PAD (R263, R265 to R267, R285). -/
def movePlan (j : MoveJob) (ix : List Int) : List (Option Coord × Coord) :=
  let r := dRank j.dst - 1
  let n := dDim j.src j.gdim
  let inWin (c : Coord) : Bool := j.rows == 0 || (decide ((j.dstRow : Int) ≤ c.getD r 0) && decide (c.getD r 0 < (j.dstRow + j.rows : Nat)))
  match j.mode with
  | 0 => ((validCoords j.dst).filter inWin).map (fun c => (some (putAt c r (c.getD r 0 + j.srcRow - j.dstRow)), c))
  | 2 => ((validCoords j.dst).filter inWin).map (fun c =>
      (some (if 2 ≤ r then putAt (swap01 c) r (c.getD r 0 + j.srcRow - j.dstRow) else swap01 c), c))
  | 3 => (validCoords j.dst).map (fun c =>
      let x := ix.getD (c.getD j.gdim 0).toNat 0
      if 0 ≤ x ∧ x < n then (some (putAt c j.gdim x), c)
      else if dFlag j.src 1 then (some (putAt c j.gdim (clampTo n x)), c)
      else (none, c))
  | _ => ((List.range ix.length).filter (fun (k : Nat) => decide (0 ≤ ix.getD k 0) && decide (ix.getD k 0 < (dDim j.dst j.gdim : Int)))).flatMap (fun (k : Nat) =>
      ((validCoords j.src).filter (fun c => c.getD j.gdim 0 == (k : Int))).map (fun c => (some c, putAt c j.gdim (ix.getD k 0))))

/-- The destination coordinates a move stores. -/
def moveRegion (j : MoveJob) (ix : List Int) (c : Coord) : Bool :=
  let r := dRank j.dst - 1
  if j.mode == 4 then ix.contains (c.getD j.gdim 0)
  else j.rows == 0 || (decide ((j.dstRow : Int) ≤ c.getD r 0) && decide (c.getD r 0 < (j.dstRow + j.rows : Nat)))

/-- Indices out of range (R266, R267). -/
def idxOor (j : MoveJob) (ix : List Int) : Nat :=
  let n := if j.mode == 4 then dDim j.dst j.gdim else dDim j.src j.gdim
  if j.mode == 3 || j.mode == 4 then (ix.filter (fun (x : Int) => !(decide (0 ≤ x) && decide (x < (n : Int))))).length else 0

/-- Read and convert the elements of a plan (R269): the nibbles to store and the conversions counted. -/
def State.readPlan (s : State) (id : Nat) (j : MoveJob) (plan : List (Option Coord × Coord)) : Except Nat (NibMap × Nat) × State :=
  plan.foldl (fun (r, s) (sc, dc) =>
    match r with
    | .error e => (.error e, s)
    | .ok (m, n) =>
      let (x, s) : Except Nat Nat × State := match sc with
        | some c => s.elemAt id j.src c
        | none => (.ok (dPad j.src), s)
      match x with
      | .error e => (.error e, s)
      | .ok x =>
        let (y, f) := convertElem (dFmt j.src) (dFmt j.dst) j.sat j.rna x
        (.ok (putElem m j.dst dc y, if f then n + 1 else n), s)) (.ok ([], 0), s)

/-- The units a move stores, whether a conversion saturated, with DML_SAT and DML_IDX_OOR counted (R257, R266, R267, R269). -/
def State.moveUnits (s : State) (id : Nat) (j : MoveJob) : Except Nat (List (Nat × List Byte) × Bool) × State :=
  let (ix, s) : Except Nat (List Int) × State := if j.mode == 3 || j.mode == 4 then s.readIdx id j.idx else (.ok [], s)
  match ix with
  | .error e => (.error e, s)
  | .ok ix =>
    match s.readPlan id j (movePlan j ix) with
    | (.error e, s) => (.error e, s)
    | (.ok (m, n), s) =>
      let s := (s.countSat Reg.DML_SAT 0 32 n).countSat Reg.DML_IDX_OOR 0 32 (idxOor j ix)
      (.ok (unitsOf (s.nibBytes (overNibs (padNibs j.dst (moveRegion j ix)) m)), decide (n ≠ 0)), s)

/-- Carry out a whole move: its status code (R269, R288). -/
def State.doMove (s : State) (id : Nat) (j : MoveJob) : Nat × State :=
  match s.moveUnits id j with
  | (.error e, s) => (e, s)
  | (.ok (us, sat), s) =>
    let (e, s) := s.storeUnits id us
    (if e == DONE && sat then DONE_RANGE_SATURATED else e, s)

/-- A move stopped at a 64-byte unit that the manual does not name (drawn, log entry 6): the units before it are stored (R282, R290). -/
def State.partMove (s : State) (id : Nat) (j : MoveJob) : State :=
  let (k, s) := s.draw
  match s.moveUnits id j with
  | (.error _, s) => s
  | (.ok (us, _), s) => (s.storeUnits id (us.take (k % (us.length + 1)))).2

/-! ### Streaming sets (Table 6.2) -/

abbrev ssSrc (r : List Byte) : Nat := u r 0 2
abbrev ssDst (r : List Byte) : Nat := u r 2 2
abbrev ssIdx (r : List Byte) : Nat := u r 4 2
abbrev ssMode (r : List Byte) : Nat := bits (u r 6 1) 0 3
abbrev ssGdim (r : List Byte) : Nat := bits (u r 6 1) 3 3
abbrev ssTrig (r : List Byte) : Nat := bits (u r 7 1) 0 2
abbrev ssRepeat (r : List Byte) : Bool := bits (u r 7 1) 2 1 == 1
abbrev ssArg (r : List Byte) : Nat := u r 8 4
abbrev ssDone (r : List Byte) : Nat := u r 12 2
abbrev ssDeadline (r : List Byte) : Nat := u r 16 4

/-- The source is the ingress line buffer. -/
abbrev ssIngress (r : List Byte) : Bool := ssSrc r == 0xFFFE

/-- The active and the shadow record of a set. -/
def State.ssAct (s : State) (n : Nat) : List Byte := s.regBytes (Reg.DML_SS_ACT n 0) 8
def State.ssShd (s : State) (n : Nat) : List Byte := s.regBytes (Reg.DML_SS_SHD n 0) 8

/-- The move of a record. -/
def State.ssJob (s : State) (r : List Byte) : MoveJob :=
  { mode := ssMode r, gdim := ssGdim r, sat := bits (u r 6 1) 6 1 == 1, rna := bits (u r 6 1) 7 1 == 1
    src := s.descB (ssSrc r), dst := s.descB (ssDst r), idx := s.descB (ssIdx r) }

/-- The handles a record names (R291). -/
def ssHandles (r : List Byte) : List Nat :=
  (if ssIngress r then [] else [ssSrc r]) ++ [ssDst r] ++ (if ssMode r == 3 || ssMode r == 4 then [ssIdx r] else [])

/-- Rows that a camera slot's lines can address: HEIGHT of its camera stream, otherwise 4,096 lines (R83, R277). -/
def State.camRows (s : State) (slot : Nat) : Nat :=
  match s.camStream slot with
  | some c => u (s.camBlock c) 2 2
  | none => 4096

/-- A set record is valid for set `n` (R273, R276). -/
def State.ssOk (s : State) (n : Nat) (r : List Byte) : Bool :=
  let k := recKind (s.slot (ssArg r)).record
  (ssMode r == 0 || ssMode r == 2 || ssMode r == 3 || ssMode r == 4) && bits (u r 7 1) 3 5 == 0 && allZero r 14 2 && allZero r 20 12 &&
  (ssHandles r).all s.usable && (ssMode r == 3 || ssMode r == 4 || ssIdx r == 0xFFFF) &&
  (ssDone r == 0xFFFF || (decide (ssDone r < 1024) && s.sigGranted (idSet n) (ssDone r))) &&
  (match ssTrig r with
   | 0 => decide (ssArg r < 256) && (k != kCamera || !ssIngress r || decide (s.camRows (ssArg r) ≤ (shape (s.descB (ssDst r))).getLastD 0))
   | 1 => 1 ≤ ssDeadline r && ssDeadline r ≤ s.regN Reg.CSQ_CADENCE
   | 2 => decide (ssArg r < 1024) && s.sigGranted (idSet n) (ssArg r)
   | _ => ssArg r == 0) &&
  (if ssIngress r then ssTrig r == 0 && ssMode r == 0 else moveOk (s.ssJob r))

/-- Set the ingress queue of a set, with its depth (Table 6.4). -/
def State.setQueue (s : State) (n : Nat) (q : List Item) : State :=
  (s.setSset n { s.sset n with queue := q }).setFld (Reg.DML_SS_ST n) 12 4 q.length

/-- The trigger of the transfer that begins: an item's arrival, the instant a SIGNAL record was given its signal, otherwise now. -/
def State.triggerAt (s : State) (n : Nat) (item : Option Item) : Time :=
  match item with
  | some x => x.time
  | none => if ssTrig (s.ssAct n) == 2 then (s.sset n).trig.getD s.now else s.now

/-- Begin a transfer of a set; its DEADLINE counts from its trigger (R282). -/
def State.startSet (s : State) (n : Nat) (item : Option Item) : State :=
  (s.setSset n { s.sset n with run := some (s.triggerAt n item, item), trig := none }).setBit (Reg.DML_SS_ST n) 11 true

/-- A set takes up its active record: a SIGNAL record waits, a queued ingress item starts (R277, R278), but not while its slot's perception
job is deferred (R140). -/
def State.armSet (s : State) (n : Nat) : State :=
  let r := s.ssAct n
  if !s.bit (Reg.DML_SS_ST n) 8 then s
  else
    match ssTrig r with
    | 2 => s.waitOn ⟨idSet n, ssArg r, 1, .set n⟩
    | 0 =>
      match (s.sset n).queue with
      | x :: q => if s.sic.deferred.contains (ssArg r) then s else (s.setQueue n q).startSet n (some x)
      | [] => s
    | _ => s

/-- Promote the shadow copy to active (R279). -/
def State.promote (s : State) (n : Nat) : State :=
  (((s.setRegBytes (Reg.DML_SS_ACT n 0) (s.ssShd n)).setBit (Reg.DML_SS_ST n) 9 false).setBit (Reg.DML_SS_ST n) 8 true).armSet n

/-- A transfer ends with a status: SIG_DONE when complete, then promotion, another run, or an empty set (R278, R279, R282). -/
def State.setEnd (s : State) (n code : Nat) (done : Bool) : State :=
  let r := s.ssAct n
  let s := ((s.setSset n { s.sset n with run := none }).setBit (Reg.DML_SS_ST n) 11 false).status (Reg.DML_SS_ST n) code
  let s := if done then
      let s := s.countWrap (Reg.DML_SS_CNT n) 0 32 1
      if ssDone r == 0xFFFF then s else s.raiseSig (ssDone r) 1
    else s
  if s.bit (Reg.DML_SS_ST n) 9 then (s.dropRefs (ssHandles r)).promote n
  else if ssRepeat r then s.armSet n
  else ((s.dropRefs (ssHandles r)).setBit (Reg.DML_SS_ST n) 8 false).setQueue n []

/-- A set is active, idle, and has the given trigger. -/
def State.setReady (s : State) (n trig : Nat) : Bool :=
  s.dmlOn && s.bit (Reg.DML_SS_ST n) 8 && ssTrig (s.ssAct n) == trig && (s.sset n).run.isNone

/-- An ingress item at its set: a transfer, a place in the queue of 8, or dropped by SIC (R86, R277). -/
def State.ingress (s : State) (n row : Nat) (bs : List Byte) : State :=
  let slot := ssArg (s.ssAct n)
  let x : Item := { slot := slot, row := row, time := s.now, bytes := bs, id := slotId (s.slot slot).record }
  if !(s.dmlOn && s.bit (Reg.DML_SS_ST n) 8 && ssTrig (s.ssAct n) == 0) then s
  else if (s.sset n).run.isNone && !s.sic.deferred.contains slot then s.startSet n (some x)
  else if (s.sset n).queue.length < 8 then
    let q := (s.sset n).queue ++ [x]
    let s := s.setQueue n q
    if q.length == 8 then { s with dml := { s.dml with stepFull := true } } else s
  else
    let r := (s.slot slot).record
    let s := { s with dml := { s.dml with stepFull := true } }
    if recKind r == kCamera then s.overrun (recPort r) (recVc r) slot else s

/-- The perception jobs deferred in the step that ends run in the next: their queued items start (R140). -/
def State.runDeferred (s : State) : State :=
  let old := s.sic.deferred
  (List.range 16).foldl (fun s n =>
    if s.bit (Reg.DML_SS_ST n) 8 && ssTrig (s.ssAct n) == 0 && (s.sset n).run.isNone && old.contains (ssArg (s.ssAct n)) then s.armSet n else s)
    { s with sic := { s.sic with deferred := [] } }

/-- SET_TRIGGER_INGRESS row (R277). -/
def execSetTriggerIngress (n : Fin 16) (row : Nat) (item : List Byte) (s : State) : Host.Outcome State Fault Refusal :=
  .next (s.ingress n row item)

/-- The STEP trigger of a set: T_i plus its offset, for the step whose trigger is next (R276). -/
def State.stepTrigger (s : State) (n : Nat) : State :=
  if !(s.setReady n 1 && s.csq.running) then s
  else
    let off : Int := toSigned 32 (ssArg (s.ssAct n)) * usT
    let due : Nat := (((s.now : Int) - off - s.csq.t0) / max 1 s.cadence).toNat
    let i := match (s.sset n).lastStep with
      | some j => max due (j + 1)
      | none => due
    let s := s.reach ((s.tOf i : Int) + off).toNat
    (s.setSset n { s.sset n with lastStep := some i }).startSet n none

/-- SET_TRIGGER_STEP row (R276). -/
def execSetTriggerStep (n : Fin 16) (s : State) : Host.Outcome State Fault Refusal := .next (s.stepTrigger n)

/-- SET_TRIGGER_SIGNAL row: the signal the set waited for has been given to it (R272, R276). -/
def execSetTriggerSignal (n : Fin 16) (s : State) : Host.Outcome State Fault Refusal :=
  .next (if s.setReady n 2 && (s.sset n).trig.isSome then s.startSet n none else s)

/-- SET_TRIGGER_ONCE row (R276). -/
def execSetTriggerOnce (n : Fin 16) (s : State) : Host.Outcome State Fault Refusal :=
  .next (if s.setReady n 3 then s.startSet n none else s)

/-- The nibbles of an ingress item in row `row` of its destination: the bytes fill the row's elements in order, dimension 0 first. -/
def itemNibs (b : List Byte) (row : Nat) (bs : List Byte) : NibMap :=
  let r := dRank b - 1
  let w := fmtWidth (dFmt b)
  let lin (c : Coord) : Nat := ((List.range r).map (fun k => (c.getD k 0).toNat * (((List.range k).map (dDim b)).foldl (· * ·) 1))).sum
  ((validCoords b).filter (fun c => c.getD r 0 == (row : Int))).foldl (fun m c =>
    let j := lin c
    if (j + 1) * w ≤ 8 * bs.length then putElem m b c (if w == 4 then bits (u bs (j / 2) 1) (4 * (j % 2)) 4 else u bs (j * w / 8) (w / 8)) else m) []

/-- The row an item goes to: a camera line's own, otherwise consecutive rows, wrapping (R277). -/
def State.itemRow (s : State) (n : Nat) (x : Item) : Nat :=
  if recKind (s.slot x.slot).record == kCamera then x.row else (s.sset n).row % max 1 ((shape (s.descB (ssDst (s.ssAct n)))).getLastD 0)

/-- The units that store an ingress item in its row (R257, R277). -/
def State.itemUnits (s : State) (n : Nat) (x : Item) : List (Nat × List Byte) :=
  let b := s.descB (ssDst (s.ssAct n))
  let row := s.itemRow n x
  unitsOf (s.nibBytes (overNibs (padNibs b (fun c => c.getD (dRank b - 1) 0 == (row : Int))) (itemNibs b row x.bytes)))

/-- The row of an ingress item is taken: the next item goes to the one after it (R277). -/
def State.takeRow (s : State) (n : Nat) (x : Item) : State := s.setSset n { s.sset n with row := s.itemRow n x + 1 }

/-- Store an ingress item (R277). -/
def State.storeItem (s : State) (n : Nat) (x : Item) : Nat × State := (s.takeRow n x).storeUnits (idSet n) (s.itemUnits n x)

/-- An ingress item abandoned at a 64-byte unit that the manual does not name (drawn, log entry 6): the units before it are stored (R282). -/
def State.partItem (s : State) (n : Nat) (x : Item) : State :=
  let us := s.itemUnits n x
  let (k, s) := (s.takeRow n x).draw
  (s.storeUnits (idSet n) (us.take (k % (us.length + 1)))).2

/-- The transfer of a set is carried out and completes (R270, R279). -/
def State.setDone (s : State) (n : Nat) : State :=
  if !s.dmlOn then s
  else
    match (s.sset n).run with
    | none => s
    | some (_, item) =>
      let (c, s) : Nat × State := match item, ssIngress (s.ssAct n) with
        | some x, true => s.storeItem n x
        | _, _ => s.doMove (idSet n) (s.ssJob (s.ssAct n))
      s.setEnd n c (isDone c)

/-- SET_TRANSFER_DONE row (R279). -/
def execSetTransferDone (n : Fin 16) (s : State) : Host.Outcome State Fault Refusal := .next (s.setDone n)

/-- A transfer reaches its DEADLINE: abandoned at a 64-byte unit, counted and logged (R282). -/
def State.setDeadline (s : State) (n : Nat) : State :=
  let r := s.ssAct n
  match s.dmlOn, (s.sset n).run with
  | true, some (t, item) =>
    if ssDeadline r == 0 then s
    else
      let s := s.reach (t + ssDeadline r * usT)
      let s := match item, ssIngress r with
        | some x, true => s.partItem n x
        | _, _ => s.partMove (idSet n) (s.ssJob r)
      let s := (s.countSat (Reg.DML_SS_LATE n) 0 32 1)
      let s := { s with dml := { s.dml with stepLate := true } }
      let s := if (s.sset n).lateLog == some s.stepNo then s
        else (s.setSset n { s.sset n with lateLog := some s.stepNo }).event 0x07 1 0x0702 DEADLINE_ABANDONED [BitVec.ofNat 8 n]
      s.setEnd n DEADLINE_ABANDONED false
  | _, _ => s

/-- SET_TRANSFER_DEADLINE row (R282). -/
def execSetTransferDeadline (n : Fin 16) (s : State) : Host.Outcome State Fault Refusal := .next (s.setDeadline n)

/-- A write to a shadow field: ignored while SHADOW_VALID is set (R280). -/
def State.doShadow (s : State) (n w : Nat) (v : W32) : State :=
  if s.bit (Reg.DML_SS_ST n) 9 then s.setBit (Reg.DML_SS_ST n) 10 true else s.setReg (Reg.DML_SS_SHD n w) v

/-- SHADOW_WRITE row: a host write (R280). -/
def execShadowWrite (n : Fin 16) (word : Fin 8) (v : W32) (s : State) : Host.Outcome State Fault Refusal :=
  .next (s.hostReg (Reg.DML_SS_SHD n word) (fun s => s.doShadow n word v))

/-- Commit the shadow record: validated, referenced, and promoted at once into an empty set (R276, R279, R280, R291). -/
def State.doCommit (s : State) (n : Nat) : State :=
  if s.bit (Reg.DML_SS_ST n) 9 then s.setBit (Reg.DML_SS_ST n) 10 true
  else if s.ssOk n (s.ssShd n) then
    let s := ((s.addRefs (ssHandles (s.ssShd n))).setBit (Reg.DML_SS_ST n) 9 true).status (Reg.DML_SS_ST n) DONE
    if s.bit (Reg.DML_SS_ST n) 8 then s else s.promote n
  else s.status (Reg.DML_SS_ST n) REFUSED_DESCRIPTOR

/-- SET_COMMIT row: a host write (R276). -/
def execSetCommit (n : Fin 16) (s : State) : Host.Outcome State Fault Refusal :=
  .next (s.hostCmd (Reg.DML_SS_COMMIT n) (fun s => s.doCommit n))

/-! ### Program channels (Table 6.3) -/

abbrev inOp (x : List Byte) : Nat := u x 0 1
abbrev inLreg (x : List Byte) : Nat := if inOp x == 1 then bits (u x 1 1) 6 2 else bits (u x 1 1) 0 2
abbrev inCount (x : List Byte) : Nat := u x 2 2
abbrev inTarget (x : List Byte) : Nat := u x 4 2
abbrev inSig (x : List Byte) : Nat := u x 2 2
abbrev inN (x : List Byte) : Nat := u x 4 2
abbrev inTimeout (x : List Byte) : Nat := u x 8 4

/-- The move of a MOVE instruction with its loop value (R285). -/
def State.inJob (s : State) (x : List Byte) (l : Nat) : MoveJob :=
  { mode := bits (u x 1 1) 0 3, gdim := bits (u x 1 1) 3 3, sat := bits (u x 2 1) 0 1 == 1, rna := bits (u x 2 1) 1 1 == 1
    src := s.descB (u x 4 2), dst := s.descB (u x 6 2), idx := s.descB (u x 8 2)
    srcRow := u x 12 2 + l * u x 14 2, dstRow := u x 16 2 + l * u x 18 2, rows := u x 20 2 }

/-- The handles an instruction names. -/
def inHandles (x : List Byte) : List Nat :=
  if inOp x == 1 then [u x 4 2, u x 6 2] ++ (if 3 ≤ bits (u x 1 1) 0 3 then [u x 8 2] else []) else []

/-- The loops of a program: register, target, index, count. -/
def loopsOf (p : List (List Byte)) : List (Nat × Nat × Nat × Nat) :=
  (List.range p.length).filterMap (fun k => let x := p.getD k []; if inOp x == 2 then some (inLreg x, inTarget x, k, inCount x) else none)

/-- Largest value that loop register LREG can have at instruction k (R284, R286). -/
def maxLoop (p : List (List Byte)) (lreg k : Nat) : Nat :=
  ((loopsOf p).map (fun (r, t, j, c) => if r == lreg && t ≤ k && k ≤ j then c - 1 else 0)).foldl max 0

/-- A MOVE's windows stay within their dimensions for a loop value (R284, R285). -/
def windowOk (j : MoveJob) : Bool :=
  if j.rows == 0 then j.srcRow == 0 && j.dstRow == 0
  else decide (j.srcRow + j.rows ≤ (shape j.src).getLastD 0) && decide (j.dstRow + j.rows ≤ (shape j.dst).getLastD 0)

/-- An instruction is valid for channel n at index k of its program (R284). -/
def State.inOk (s : State) (n : Nat) (p : List (List Byte)) (k : Nat) : Bool :=
  let x := p.getD k []
  match inOp x with
  | 1 =>
    let job := s.inJob x 0
    bits (u x 2 1) 2 6 == 0 && allZero x 3 1 && allZero x 10 2 && allZero x 22 10 && (inHandles x).all s.usable &&
    (3 ≤ job.mode || u x 8 2 == 0xFFFF) && moveOk job && windowOk job && windowOk (s.inJob x (maxLoop p (inLreg x) k)) &&
    (job.rows != 0 || allZero x 12 8)
  | 2 => bits (u x 1 1) 2 6 == 0 && inCount x != 0 && decide (inTarget x < k) && allZero x 6 26
  | 3 => allZero x 1 1 && decide (inSig x < 1024) && s.sigGranted (idChan n) (inSig x) && inN x != 0 && allZero x 6 2 && allZero x 12 20
  | 4 => allZero x 1 1 && decide (inSig x < 1024) && s.sigGranted (idChan n) (inSig x) && inN x != 0 && allZero x 6 26
  | 5 => allZero x 1 31
  | 6 => allZero x 1 31
  | _ => false

/-- No loop nested in another uses its register (R284). -/
def loopsOk (p : List (List Byte)) : Bool :=
  (loopsOf p).all (fun (r, t, j, _) => (loopsOf p).all (fun (r', t', j', _) => !(r == r' && t ≤ t' && j' < j)))

/-- A whole program is valid (R284). -/
def State.progOk (s : State) (n : Nat) (p : List (List Byte)) : Bool :=
  (p.getLast?).any (fun x => inOp x == 6) && loopsOk p && (List.range p.length).all (s.inOk n p)

/-- Fetch instructions up to END, at most `fuel` (R284). -/
def State.fetchProg (s : State) (id a : Nat) : Nat → Except Nat (List (List Byte)) × State
  | 0 => (.ok [], s)
  | fuel + 1 =>
    match s.busRead id a 32 with
    | (.error e, s) => (.error e, s)
    | (.ok x, s) =>
      if inOp x == 6 then (.ok [x], s)
      else
        match s.fetchProg id (a + 32) fuel with
        | (.ok r, s) => (.ok (x :: r), s)
        | (.error e, s) => (.error e, s)

/-- A start or abort by an initiator that does not own the channel (R283). -/
def State.notOwner (s : State) (id n : Nat) : Bool := SMap.find? s.dml.owner n != some id

/-- It completes with BUS_ERROR_HURDLE. -/
def State.refuseOwner (s : State) (id n : Nat) : State :=
  let s := s.refuseAccess (some 36) id .command (Reg.DML_PC_CTRL n)
  if id == idHost then s.failHost .ca else s.emit (.bus id BUS_ERROR_HURDLE [])

/-- GO: fetch, validate and start a program (R283, R284, R291, R294, R295). -/
def State.doGoProg (s : State) (id n : Nat) : State :=
  if s.notOwner id n then s.refuseOwner id n
  else if s.bit (Reg.DML_PC_ST n) 16 then s.status (Reg.DML_PC_ST n) REFUSED_STATE
  else
    match s.fetchProg (idChan n) (s.regN (Reg.DML_PC_PROG_LO n) + 2 ^ 32 * s.fld' (Reg.DML_PC_PROG_HI n) 0 16) 128 with
    | (.error e, s) => s.status (Reg.DML_PC_ST n) e
    | (.ok p, s) =>
      if s.progOk n p then (s.addRefs (p.flatMap inHandles)).setChan n { prog := p }
      else s.status (Reg.DML_PC_ST n) REFUSED_DESCRIPTOR

/-- PROGRAM_GO row: a host write of GO (R284). -/
def execProgramGo (ch : Fin 16) (s : State) : Host.Outcome State Fault Refusal :=
  .next (s.hostCmd (Reg.DML_PC_CTRL ch) (fun s => s.doGoProg idHost ch))

/-- A program ends with a status and releases its references (R289, R291). -/
def State.endProg (s : State) (n code : Nat) : State :=
  let c := s.chan n
  (((s.dropRefs (c.prog.flatMap inHandles)).noWait (.chan n)).setChan n { loops := c.loops }).status (Reg.DML_PC_ST n) code

/-- ABORT: each MOVE in flight stops at a 64-byte unit, and the program completes with DEADLINE_ABANDONED (R290). -/
def State.doAbortProg (s : State) (id n : Nat) : State :=
  if s.notOwner id n then s.refuseOwner id n
  else if (s.chan n).prog.isEmpty then s
  else
    let s := (s.chan n).moves.foldl (fun s (x, l) => s.partMove (idChan n) (s.inJob x l)) s
    s.endProg n DEADLINE_ABANDONED

/-- PROGRAM_ABORT row: a host write of ABORT (R290). -/
def execProgramAbort (ch : Fin 16) (s : State) : Host.Outcome State Fault Refusal :=
  .next (s.hostCmd (Reg.DML_PC_CTRL ch) (fun s => s.doAbortProg idHost ch))

/-- The instruction a channel executes next, when its opcode is `op` and the channel goes on (R287, R288). -/
def State.instrAt (s : State) (n op : Nat) : Option (List Byte) :=
  let c := s.chan n
  match c.prog[c.pc]? with
  | some x => if s.dmlOn && inOp x == op && c.wait.isNone && c.failed.isNone then some x else none
  | none => none

/-- MOVE: up to 4 in flight, with the loop value at its start (R285, R287). -/
def State.opMove (s : State) (n : Nat) : State :=
  let c := s.chan n
  match s.instrAt n 1 with
  | some x => if c.moves.length < 4 then s.setChan n { c with moves := c.moves ++ [(x, c.loops.getD (inLreg x) 0)], pc := c.pc + 1 } else s
  | none => s

/-- MOVE row (R285). -/
def execMove (ch : Fin 16) (s : State) : Host.Outcome State Fault Refusal := .next (s.opMove ch)

/-- LOOP (R286). -/
def State.opLoop (s : State) (n : Nat) : State :=
  let c := s.chan n
  match s.instrAt n 2 with
  | some x =>
    let l := c.loops.getD (inLreg x) 0 + 1
    if l < inCount x then s.setChan n { c with loops := c.loops.set (inLreg x) l, pc := inTarget x }
    else s.setChan n { c with loops := c.loops.set (inLreg x) 0, pc := c.pc + 1 }
  | none => s

/-- LOOP row (R286). -/
def execLoop (ch : Fin 16) (s : State) : Host.Outcome State Fault Refusal := .next (s.opLoop ch)

/-- WAIT (R272, R288). -/
def State.opWait (s : State) (n : Nat) : State :=
  match s.instrAt n 3 with
  | some x => (s.setChan n { s.chan n with wait := some s.now }).waitOn ⟨idChan n, inSig x, inN x, .chan n⟩
  | none => s

/-- WAIT row (R288). -/
def execWait (ch : Fin 16) (s : State) : Host.Outcome State Fault Refusal := .next (s.opWait ch)

/-- SIGNAL: after every earlier MOVE is complete (R287). -/
def State.opSignal (s : State) (n : Nat) : State :=
  let c := s.chan n
  match s.instrAt n 4 with
  | some x => if c.moves.isEmpty then (s.setChan n { c with pc := c.pc + 1 }).raiseSig (inSig x) (inN x) else s
  | none => s

/-- SIGNAL row (R287). -/
def execSignal (ch : Fin 16) (s : State) : Host.Outcome State Fault Refusal := .next (s.opSignal ch)

/-- FENCE: waits for every earlier MOVE (R287). -/
def State.opFence (s : State) (n : Nat) : State :=
  let c := s.chan n
  match s.instrAt n 5 with
  | some _ => if c.moves.isEmpty then s.setChan n { c with pc := c.pc + 1 } else s
  | none => s

/-- FENCE row (R287). -/
def execFence (ch : Fin 16) (s : State) : Host.Outcome State Fault Refusal := .next (s.opFence ch)

/-- END: completes once every MOVE has (R289). -/
def State.opEnd (s : State) (n : Nat) : State :=
  let c := s.chan n
  match s.instrAt n 6 with
  | some _ => if c.moves.isEmpty then s.endProg n (topCode c.codes) else s
  | none => s

/-- END row (R289). -/
def execEndProgram (ch : Fin 16) (s : State) : Host.Outcome State Fault Refusal := .next (s.opEnd ch)

/-- A MOVE in flight completes: the k-th oldest, since the manual fixes no order among them (R287); a bus error ends the program once the
others are complete (R288). -/
def State.moveComplete (s : State) (n k : Nat) : State :=
  match s.dmlOn, (s.chan n).moves[k]? with
  | true, some (x, l) =>
    let (code, s) := s.doMove (idChan n) (s.inJob x l)
    let c := s.chan n
    let c := { c with moves := c.moves.eraseIdx k, codes := if isDone code then code :: c.codes else c.codes,
                      failed := if isDone code then c.failed else some (max code (c.failed.getD 0)) }
    let s := s.setChan n c
    match c.failed, c.moves with
    | some e, [] => s.endProg n e
    | _, _ => s
  | _, _ => s

/-- MOVE_DONE row (R287, R288). -/
def execMoveDone (ch : Fin 16) (k : Fin 4) (s : State) : Host.Outcome State Fault Refusal := .next (s.moveComplete ch k)

/-- The TIMEOUT of a WAIT passes: the program ends with DEADLINE_ABANDONED, once its MOVEs in flight are complete (R288). -/
def State.waitExpire (s : State) (n : Nat) : State :=
  let c := s.chan n
  match s.dmlOn, c.wait, c.prog[c.pc]? with
  | true, some t, some x =>
    if inTimeout x == 0 then s
    else
      let s := (s.reach (t + inTimeout x * usT)).noWait (.chan n)
      if c.moves.isEmpty then s.endProg n DEADLINE_ABANDONED
      else s.setChan n { c with wait := none, failed := some (max DEADLINE_ABANDONED (c.failed.getD 0)) }
  | _, _, _ => s

/-- WAIT_TIMEOUT row (R288). -/
def execWaitTimeout (ch : Fin 16) (s : State) : Host.Outcome State Fault Refusal := .next (s.waitExpire ch)

/-- A new step: DML_STATUS shows what happened in the last one (Table 6.4). -/
def State.dmlStep (s : State) : State :=
  let s := (s.setBit Reg.DML_STATUS 0 s.dml.stepFull).setBit Reg.DML_STATUS 3 s.dml.stepLate
  { s with dml := { s.dml with stepFull := (s.dml.sets.any (fun p => 8 ≤ p.2.queue.length)), stepLate := false } }

end Sys2Proof.Machine
end

