-- ==== Sys2Proof/Machine/TileOps.lean ====
section
/-! DEFINITION. Machine/TileOps.lean: tile commands as descriptors and queues: their fields (Table 5.5), refusals (R216, R217, R331), queueing,
and completion (R219). -/

namespace Sys2Proof.Machine

abbrev tcOp (c : List Byte) : Nat := u c 0 1
abbrev tcFmtA (c : List Byte) : Nat := bits (u c 1 1) 0 4
abbrev tcFmtB (c : List Byte) : Nat := bits (u c 1 1) 4 4
abbrev tcFmtOut (c : List Byte) : Nat := bits (u c 2 1) 0 4
abbrev tcFlag (c : List Byte) (k : Nat) : Bool := bits (u c 3 1) k 1 == 1
abbrev tcM (c : List Byte) : Nat := u c 4 2
abbrev tcN (c : List Byte) : Nat := u c 6 2
abbrev tcK (c : List Byte) : Nat := u c 8 2
abbrev tcShift (c : List Byte) : Nat := u c 10 1
abbrev tcScale (c : List Byte) : Nat := u c 12 4
abbrev tcA (c : List Byte) : Nat := u c 16 2
abbrev tcB (c : List Byte) : Nat := u c 18 2
abbrev tcC (c : List Byte) : Nat := u c 20 2
abbrev tcBias (c : List Byte) : Nat := u c 22 2
abbrev tcProg (c : List Byte) : Nat := u c 24 8
abbrev tcDeadline (c : List Byte) : Nat := u c 32 8
abbrev tcStep (c : List Byte) : Nat := u c 40 4
abbrev tcSigWait (c : List Byte) : Nat := u c 44 2
abbrev tcSigDone (c : List Byte) : Nat := u c 46 2
abbrev atWalk (c : List Byte) : Nat := u c 48 2
abbrev atStage (c : List Byte) : Nat := u c 50 2
abbrev atLayer (c : List Byte) : Nat := u c 52 1
abbrev atWindow (c : List Byte) : Nat := u c 53 1
abbrev atRope (c : List Byte) : Nat := u c 54 1
abbrev atAppend (c : List Byte) : Bool := bits (u c 55 1) 0 1 == 1
abbrev atLast (c : List Byte) : Bool := bits (u c 55 1) 1 1 == 1
abbrev atAge (c : List Byte) : Nat := u c 56 2
abbrev atOff (c : List Byte) : Nat := u c 58 2

/-- The opcodes of Table 5.6. -/
abbrev opMatmul : Nat := 0x01
abbrev opConv : Nat := 0x02
abbrev opVector : Nat := 0x03
abbrev opKernel : Nat := 0x04
abbrev opAttend : Nat := 0x08
abbrev opSync : Nat := 0x10
abbrev opBist : Nat := 0x11

/-- A format pair of the matrix engine (Table 5.2). -/
def pairOk (a b : Nat) : Bool :=
  (a == 0 && b == 0) || (a == 1 && (b == 1 || b == 0)) || ((a == 4 || a == 5) && (b == 4 || b == 5)) ||
  (a == b && (a == 2 || a == 6 || a == 7))

/-- Bytes of one slice of a KV entry: DK key elements, DV value elements, and two FP16 scales for an integer format (R310). -/
def sliceSize (fmt dk dv : Nat) : Nat := (dk * fmtWidth fmt + 7) / 8 + (dv * fmtWidth fmt + 7) / 8 + (if fmtInt fmt then 4 else 0)

/-- Entry size in bytes (R309). -/
def State.entrySize (s : State) : Nat := 128 * 2 ^ s.fld' Reg.TAC_ENTRY_CFG 0 2

/-- APPEND_MAX (R312). -/
def State.appendMax (s : State) : Nat := s.fld' Reg.TAC_ENTRY_CFG 16 3

/-- One of a few values. -/
def oneOf (l : List Nat) (x : Nat) : Bool := l.contains x

/-- The checks of an ATTEND (R330, R331). -/
def State.attendOk (s : State) (c : List Byte) : Bool :=
  let sz := sliceSize (tcFmtB c) (tcK c) (tcN c)
  let st := s.descB (atStage c)
  let wk := s.descB (atWalk c)
  oneOf [6, 7, 8] (tcFmtA c) && oneOf [0, 1, 4, 5] (tcFmtB c) && oneOf [6, 7, 8] (tcFmtOut c) &&
  bits (u c 3 1) 2 3 == 0 && 1 ≤ tcM c && tcM c ≤ 64 && oneOf [16, 32, 48, 64] (tcN c) && oneOf [16, 32, 48, 64] (tcK c) &&
  allZero c 10 2 && tcBias c == 0xFFFF && tcProg c == 0 && (tcB c == 0xFFFF) == !atAppend c &&
  s.usable (atWalk c) && s.usable (atStage c) && atLayer c ≤ 3 && 1 ≤ atWindow c && atWindow c ≤ 32 && atRope c ≤ tcK c / 2 &&
  bits (u c 55 1) 2 6 == 0 && 1 ≤ atAge c && atAge c ≤ 1000 && allZero c 60 4 && 32 + atOff c + sz ≤ s.entrySize &&
  !dCg wk && dFmt wk == 1 && dDim wk 0 == 256 && 2 ≤ dRank wk && tcM c ≤ dDim wk 1 &&
  !dCg st && dFmt st == 1 && dDim st 0 == sz && dDim st 1 == atWindow c && 3 ≤ dRank st && tcM c ≤ dDim st 2

/-- Handles a command names (R291). -/
def tcHandles (c : List Byte) : List Nat :=
  let opt (h : Nat) : List Nat := if h == 0xFFFF then [] else [h]
  if tcOp c == opSync || tcOp c == opBist then []
  else opt (tcA c) ++ opt (tcB c) ++ opt (tcC c) ++ opt (tcBias c) ++ (if tcOp c == opAttend then [atWalk c, atStage c] else [])

/-- A tile accepts the form of a command on a queue (R216, R273, R331); `id` is its issuer. -/
def State.tileCmdOk (s : State) (q : TileQueue) (id : Nat) (c : List Byte) : Bool :=
  let op := tcOp c
  let mat := op == opMatmul || op == opConv
  let prog := op == opVector || op == opKernel
  c.length == 64 && oneOf [1, 2, 3, 4, 8, 0x10, 0x11] op &&
  (q == .stage || op != opAttend) && (q == .background || op != opKernel) && (op != opBist || (q == .background && id == idHost)) &&
  bits (u c 2 1) 4 4 == 0 && tcFmtOut c ≤ 8 && bits (u c 3 1) 6 2 == 0 && tcFmtA c ≤ 8 && tcFmtB c ≤ 8 &&
  (!(mat || op == opVector || op == opAttend) ||
    (s.fmtOffered (tcFmtOut c) && s.fmtOffered (tcFmtA c) && (op == opVector || s.fmtOffered (tcFmtB c)))) &&
  (!mat || s.feat 4 || ((tcFmtA c != 6 && tcFmtA c != 7) && tcFmtB c != 6 && tcFmtB c != 7)) &&
  (!mat || pairOk (tcFmtA c) (tcFmtB c)) && (!(mat || prog) || (tcM c != 0 && tcN c != 0 && tcK c != 0)) && tcShift c ≤ 47 &&
  (!(mat || prog) || !fmtInt (tcFmtOut c) || bits (tcScale c) 16 16 == 0) &&
  (tcHandles c).all s.usable && (!mat || (tcA c != 0xFFFF && tcB c != 0xFFFF && tcC c != 0xFFFF)) &&
  (!prog || (tcA c != 0xFFFF && tcC c != 0xFFFF)) && (op != opAttend || (tcA c != 0xFFFF && tcC c != 0xFFFF)) &&
  (!tcFlag c 4 || !mat || tcBias c != 0xFFFF) &&
  (if prog then decide (tcProg c < 0x100000) else tcProg c == 0) &&
  (op == opConv || op == opAttend || allZero c 48 16) &&
  (!tcFlag c 5 || (decide (tcSigWait c < 1024) && s.sigGranted id (tcSigWait c))) &&
  (tcSigDone c == 0xFFFF || (decide (tcSigDone c < 1024) && s.sigGranted id (tcSigDone c))) &&
  (op != opAttend || s.attendOk c)

/-- A queue of a tile. -/
def Tile.queue (x : Tile) : TileQueue → List TileCmd
  | .stage => x.stageQ
  | .background => x.bgQ

/-- A tile with a queue replaced; its front command has not been given a signal yet. -/
def Tile.setQueue (x : Tile) (q : TileQueue) (l : List TileCmd) : Tile :=
  match q with
  | .stage => { x with stageQ := l, stageGo := false }
  | .background => { x with bgQ := l, bgGo := false }

/-- The front command of a queue has been given the signal it waits for. -/
def Tile.go (x : Tile) : TileQueue → Bool
  | .stage => x.stageGo
  | .background => x.bgGo

/-- A front command with WAIT begins to wait for its signal, under the tile's ID (R272). -/
def State.armQueue (s : State) (t : Nat) (q : TileQueue) : State :=
  match ((s.tile t).queue q).head? with
  | some c => if tcFlag c.desc 5 && !(s.tile t).go q then s.waitOn ⟨t, tcSigWait c.desc, 1, .tile t q⟩ else s
  | none => s

/-- Both queues. -/
def State.armTile (s : State) (t : Nat) : State := (s.armQueue t .stage).armQueue t .background

/-- What a tile answers to a command in its state, with room in the queue (Table 5.8, R217). -/
def tileStateCode (x : Tile) (q : TileQueue) (c : List Byte) : Nat :=
  match x.st with
  | .dead => BUS_ERROR_FENCED
  | .active => if tcOp c == opBist || 32 ≤ (x.queue q).length then REFUSED_STATE else DONE
  | .testing => if tcOp c == opBist && (x.queue q).length < 32 then DONE else REFUSED_STATE
  | _ => REFUSED_STATE

/-- A command at a tile: queued, or refused with the numerically highest code that applies (R40, R216, R217, R291). -/
def State.tileEnqueue (s : State) (t : Nat) (q : TileQueue) (id : Nat) (c : List Byte) : Nat × State :=
  let x := s.tile t
  let code := topCode [tileStateCode x q c, if s.tileCmdOk q id c then DONE else REFUSED_DESCRIPTOR]
  if code == DONE then
    let l := x.queue q ++ [{ id := id, desc := c, ord := x.nextOrd }]
    let x' : Tile := match q with
      | .stage => { x with stageQ := l, nextOrd := x.nextOrd + 1 }
      | .background => { x with bgQ := l, nextOrd := x.nextOrd + 1 }
    (DONE, ((s.setTile t x').addRefs (tcHandles c)).armTile t)
  else (code, s)

/-- The hurdle of a tile admits a command of an initiator to its command window (Table 13.4). -/
def State.tileAdmits (s : State) (id t : Nat) : Bool := s.admits id .command (t * 0x100000) 64

/-- TILE_COMMAND_ENQUEUE row: a descriptor written to the tile's command window, judged by its hurdle (R217, R573). -/
def execTileCommandEnqueue (t : Fin 34) (q : TileQueue) (id : BitVec 10) (desc : List Byte) (s : State) : Host.Outcome State Fault Refusal :=
  .next (if !s.tileAdmits id.toNat t then (s.refuseAccess (some t) id.toNat .command (t * 0x100000)).emit (.bus id.toNat BUS_ERROR_HURDLE [])
    else
      let (c, s) := s.tileEnqueue t q id.toNat desc
      if c == DONE then s else s.emit (.done 0x06 id.toNat c))

/-- A write to TCA_Tn_DOORBELL: the staged command goes to the background queue (R243). -/
def State.doDoorbell (s : State) (t id : Nat) : State :=
  let st := Reg.TCA_T_CMD_ST t
  if !s.tileAdmits id t then s.status st BUS_ERROR_HURDLE
  else if (s.tile t).st != .active && (s.tile t).st != .testing then s.status st REFUSED_STATE
  else
    let (c, s) := s.tileEnqueue t .background id (s.regBytes (Reg.TCA_T_CMD t 0) 16)
    s.status st c

/-- TILE_DOORBELL row: a host write of 1 to TCA_Tn_DOORBELL (R243). -/
def execTileDoorbell (t : Fin 34) (s : State) : Host.Outcome State Fault Refusal :=
  .next (s.hostCmd (Reg.TCA_T_DOORBELL t) (fun s => s.doDoorbell t idHost))

/-- A SYNC waits until no earlier command of the tile is left (Table 5.6). -/
def syncHolds (x : Tile) (c : TileCmd) : Bool :=
  tcOp c.desc == opSync && ((x.stageQ ++ x.bgQ).any (fun (d : TileCmd) => decide (d.ord < c.ord)) || x.run.isSome)

/-- The command a tile starts next: the stage queue comes first, a command that waits for a signal holds its queue (R217), and a SYNC lets
the earlier commands of the background queue go first (Table 5.6). -/
def State.tileNext (s : State) (t : Nat) : Option (TileQueue × TileCmd) :=
  let x := s.tile t
  if !s.powered t || x.run.isSome || !(x.st == .active || x.st == .testing) then none
  else
    let ready (q : TileQueue) (c : TileCmd) : Option (TileQueue × TileCmd) :=
      if (!tcFlag c.desc 5 || x.go q) && (tcDeadline c.desc == 0 || decide (s.ns < tcDeadline c.desc)) then some (q, c) else none
    match x.stageQ, x.bgQ with
    | c :: _, d :: _ => if syncHolds x c then ready .background d else ready .stage c
    | c :: _, [] => ready .stage c
    | [], d :: _ => if syncHolds x d then none else ready .background d
    | [], [] => none

/-- A tile takes its next command from the queue and runs it. -/
def State.tileStart (s : State) (t : Nat) (q : TileQueue) (c : TileCmd) : State :=
  let x := s.tile t
  (s.setTile t { x.setQueue q ((x.queue q).drop 1) with run := some { cmd := c, q := q } }).armTile t

/-- The running command reaches a result with status codes that apply to it (R40). -/
def State.tileResult (s : State) (t : Nat) (codes : List Nat) : State :=
  let x := s.tile t
  match x.run with
  | some r => s.setTile t { x with run := some { r with codes := codes ++ r.codes, finished := true } }
  | none => s

/-- A command completes: TCA_Tn_DONE, its references, then SIG_DONE (R219, R291). -/
def State.cmdEnd (s : State) (t : Nat) (cmd : TileCmd) (code : Nat) : State :=
  let c := cmd.desc
  let s := s.setReg (Reg.TCA_T_DONE t) (BitVec.ofNat 32 (code + 256 * tcOp c + 65536 * (tcStep c % 65536)))
  let s := (s.dropRefs (tcHandles c)).emit (.done 0x06 cmd.id code)
  if tcSigDone c == 0xFFFF then s else s.raiseSig (tcSigDone c) 1

/-- TCA_Tn_STATUS (Table 5.11). -/
def State.tileStatus (s : State) (t : Nat) : Nat :=
  let x := s.tile t
  let st : Nat := match x.st with
    | .off => 0
    | .spare => 1
    | .waking => 2
    | .testing => 3
    | .active => 4
    | .dead => 5
  let busy (q : TileQueue) : Bool := match x.run with
    | some r => r.q == q
    | none => false
  st + (if x.inj.isSome then 256 else 0) + (if busy .stage then 512 else 0) + (if busy .background then 1024 else 0) + (if x.window then 2048 else 0)

end Sys2Proof.Machine
end

