-- ==== Sys2Proof/Machine/Tac.lean ====
section
/-! DEFINITION. Machine/Tac.lean: sequences, page tables, the page pool, flocks, appends, the reclaimer, walks and the track cache
(07_track_attention_cache.md). The descriptor table, the page tables and the pages are in device memory. -/

namespace Sys2Proof.Machine

/-! ### Descriptors (Table 7.3) -/

/-- TAC lies in domain 97 (Table 16.1). -/
def State.tacOn (s : State) : Bool := s.powered 97

/-- Base addresses of the tables. -/
def State.seqBase (s : State) : Nat := s.regN Reg.TAC_SEQ_BASE_LO + 2 ^ 32 * s.fld' Reg.TAC_SEQ_BASE_HI 0 16
def State.ptbBase (s : State) : Nat := s.regN Reg.TAC_PTB_BASE_LO + 2 ^ 32 * s.fld' Reg.TAC_PTB_BASE_HI 0 16
def State.poolBase (s : State) : Nat := s.regN Reg.TAC_POOL_BASE_LO + 2 ^ 32 * s.fld' Reg.TAC_POOL_BASE_HI 0 16

/-- Address of a sequence's descriptor (R296). -/
def State.seqAddr (s : State) (n : Nat) : Nat := s.seqBase + 64 * n

/-- A byte-aligned field of a descriptor: byte offset and width. -/
def State.seqF (s : State) (n off w : Nat) : Nat := s.peek (s.seqAddr n + off) w

/-- Set a byte-aligned field. -/
def State.setSeqF (s : State) (n off w v : Nat) : State := s.poke (s.seqAddr n + off) w v

abbrev State.seqTid (s : State) (n : Nat) : Nat := s.seqF n 0 4
abbrev State.seqFlock (s : State) (n : Nat) : Nat := s.seqF n 4 2 % 4096
/-- STATE (Table 7.1). -/
abbrev State.seqSt (s : State) (n : Nat) : Nat := s.seqF n 4 2 / 4096
abbrev State.seqPages (s : State) (n : Nat) : Nat := s.seqF n 6 1
abbrev State.seqPtb (s : State) (n : Nat) : Nat := s.seqF n 8 6
abbrev State.seqVersion (s : State) (n : Nat) : Nat := s.seqF n 14 2
abbrev State.seqNext (s : State) (n : Nat) : Nat := s.seqF n 24 3
abbrev State.seqHist (s : State) (n : Nat) : Nat := s.seqF n 30 2
abbrev State.seqLast (s : State) (n : Nat) : Nat := s.seqF n 32 4
abbrev State.seqCap (s : State) (n : Nat) : Nat := s.seqF n 36 2

/-- Flags of byte 7: 0 STARVED, 1 TRUNCATED, 2 RECLAIMING, 4 MOVING. -/
def State.seqFlag (s : State) (n k : Nat) : Bool := bits (s.seqF n 7 1) k 1 == 1

/-- Set a flag. -/
def State.setSeqFlag (s : State) (n k : Nat) (v : Bool) : State := s.setSeqF n 7 1 (setBits (s.seqF n 7 1) k 1 (if v then 1 else 0))

/-- Set STATE, keeping the flock. -/
def State.setSeqSt (s : State) (n st : Nat) : State := s.setSeqF n 4 2 (s.seqFlock n + 4096 * st)

/-- Sequences in a state other than FREE, ascending: those whose STATE nibble is listed in memory. -/
def State.liveSeqs (s : State) : List Nat :=
  let b := s.seqBase
  (s.mem.filter (fun p => decide (b ≤ p.1) && decide (p.1 < b + 0x4000000) && (p.1 - b) % 64 == 5 && 16 ≤ p.2.toNat)).map (fun p => (p.1 - b) / 64)

/-- Heat: bits set in HIST16 (R301). -/
def State.heat (s : State) (n : Nat) : Nat := ((List.range 16).filter (fun k => (s.seqHist n).testBit k)).length

/-! ### Page tables (Table 7.4) -/

abbrev pteFirst (p : Nat) : Nat := bits p 43 21
abbrev pteSize (p : Nat) : Nat := bits p 39 3
abbrev pteAddr (p : Nat) : Nat := bits p 0 39 * 512

/-- A page-table entry. -/
def mkPte (first size addr : Nat) : Nat := addr / 512 + 2 ^ 39 * size + 2 ^ 42 + 2 ^ 43 * first

/-- The page-table entries of a sequence, oldest first. -/
def State.ptes (s : State) (n : Nat) : List Nat := (List.range (s.seqPages n)).map (fun k => s.peek (s.seqPtb n + 8 * k) 8)

/-- Entry numbers count modulo 2^21 (R307). -/
def entMod : Nat := 2 ^ 21

/-- Slots of a page (R307). -/
def State.slotsOf (s : State) (size : Nat) : Nat := 512 * 2 ^ size / s.entrySize

/-- Entries held, oldest first, with their addresses: each page holds those up to the next page's FIRST, or up to NEXT_ENTRY. -/
def State.entries (s : State) (n : Nat) : List (Nat × Nat) :=
  let ps := s.ptes n
  (List.range ps.length).flatMap (fun k =>
    let p := ps.getD k 0
    let stop := match ps[k + 1]? with
      | some q => pteFirst q
      | none => s.seqNext n
    (List.range (min (s.slotsOf (pteSize p)) ((stop + entMod - pteFirst p) % entMod))).map (fun j =>
      ((pteFirst p + j) % entMod, pteAddr p + j * s.entrySize)))

/-! ### The pools (R303, R304) -/

/-- Take a range out of disjoint rising intervals. -/
def ivTake (l : List (Nat × Nat)) (a n : Nat) : List (Nat × Nat) :=
  l.flatMap (fun (b, m) =>
    if a + n ≤ b || b + m ≤ a then [(b, m)]
    else (if b < a then [(b, a - b)] else []) ++ (if a + n < b + m then [(a + n, b + m - (a + n))] else []))

/-- Return a range to disjoint rising intervals, merging with its neighbours. -/
def ivAdd : List (Nat × Nat) → Nat → Nat → List (Nat × Nat)
  | [], a, n => [(a, n)]
  | (b, m) :: r, a, n =>
    if a + n < b then (a, n) :: (b, m) :: r
    else if b + m < a then (b, m) :: ivAdd r a n
    else ivAdd r (min a b) (max (a + n) (b + m) - min a b)

/-- Total length. -/
def ivLen (l : List (Nat × Nat)) : Nat := (l.map (·.2)).sum

/-- Largest size code of an aligned page at unit `a` within `n` units. -/
def codeAt (a n : Nat) : Nat := ([7, 6, 5, 4, 3, 2, 1].find? (fun c => a % 2 ^ c == 0 && decide (2 ^ c ≤ n))).getD 0

/-- The free pages of an interval: maximal aligned buddies (R303). -/
def buddies (a n : Nat) : Nat → List (Nat × Nat)
  | 0 => []
  | fuel + 1 => if n == 0 then [] else let c := codeAt a n; (a, c) :: buddies (a + 2 ^ c) (n - 2 ^ c) fuel

/-- All free pages: first unit and size code. -/
def State.freePages (s : State) : List (Nat × Nat) := s.tac.free.flatMap (fun (a, n) => buddies a n n)

/-- Size of the pool and of the reserve floor, in 512 B units (R317). -/
def State.poolUnits (s : State) : Nat := s.regN Reg.TAC_POOL_SIZE * 128
def State.reserveUnits (s : State) : Nat := s.poolUnits / 64

/-- Steps 1 and 2 of R316: a free page of the code, otherwise a part of the smallest larger one; which of them, the manual leaves open
(drawn, log entry 6). `floor` keeps free space at or above the reserve (R317). -/
def State.takePage (s : State) (c : Nat) (floor : Bool) : Option Nat × State :=
  let free := s.freePages
  let big := (free.map (·.2)).filter (fun k => c ≤ k)
  if big.isEmpty || (floor && decide (ivLen s.tac.free < s.reserveUnits + 2 ^ c)) then (none, s)
  else
    let k := big.foldl min 7
    let cands := (free.filter (fun p => p.2 == k)).flatMap (fun p => (List.range (2 ^ (k - c))).map (fun j => p.1 + j * 2 ^ c))
    let (x, s) := s.draw
    let a := cands.getD (x % cands.length) 0
    (some (s.poolBase + 512 * a), { s with tac := { s.tac with free := ivTake s.tac.free a (2 ^ c) } })

/-- A free page-table block, which one being open (R304, R326). -/
def State.takeBlock (s : State) : Option Nat × State :=
  let n := ivLen s.tac.blocks
  if n == 0 then (none, s)
  else
    let (x, s) := s.draw
    let nth (l : List (Nat × Nat)) (k : Nat) : Nat := (l.foldl (fun (r : Option Nat × Nat) iv =>
      match r.1 with
      | some _ => r
      | none => if r.2 < iv.2 then (some (iv.1 + r.2), 0) else (none, r.2 - iv.2)) (none, k)).1.getD 0
    let b := nth s.tac.blocks (x % n)
    (some (s.ptbBase + 256 * b), { s with tac := { s.tac with blocks := ivTake s.tac.blocks b 1 } })

/-! ### Flocks (Table 7.10) -/

/-- STATE of a flock. -/
def State.flockSt (s : State) (f : Nat) : Nat := s.fld' (Reg.TAC_FLOCK_SEQ f) 20 2

/-- Enabled flocks. -/
def State.enabledFlocks (s : State) : List Nat :=
  (s.regs.filter (fun p => 0x820000 ≤ p.1 && p.1 < 0x830000 && p.1 % 16 == 8 && bits p.2.toNat 20 2 != 0)).map (fun p => (p.1 - 0x820000) / 16)

/-- Enter or leave OVER_QUOTA by usage (R348, R350, R352). -/
def State.flockJudge (s : State) (f : Nat) : State :=
  let used := s.regN (Reg.TAC_FLOCK_USED f)
  let q := s.regN (Reg.TAC_FLOCK_Q f)
  if s.flockSt f == 1 && decide (q < used) then (s.setFld (Reg.TAC_FLOCK_SEQ f) 20 2 2).event 0x08 1 0x0801 0 (leBytes 2 f)
  else if s.flockSt f == 2 && decide (used ≤ q) then
    { s.setFld (Reg.TAC_FLOCK_SEQ f) 20 2 1 with tac := { s.tac with stuck := s.tac.stuck.filter (· != f) } }
  else s

/-- Charge units to a flock (R347). -/
def State.charge (s : State) (f n : Nat) : State :=
  s.setReg (Reg.TAC_FLOCK_USED f) (BitVec.ofNat 32 (s.regN (Reg.TAC_FLOCK_USED f) + n))

/-- Return units of a flock. -/
def State.uncharge (s : State) (f n : Nat) : State :=
  (s.setReg (Reg.TAC_FLOCK_USED f) (BitVec.ofNat 32 (s.regN (Reg.TAC_FLOCK_USED f) - n))).flockJudge f

/-- The pool is exhausted for a flock and a new page (R321). -/
def State.flockFull (s : State) (f c : Nat) : Bool :=
  s.flockSt f == 2 || decide (s.regN (Reg.TAC_FLOCK_Q f) < s.regN (Reg.TAC_FLOCK_USED f) + 2 ^ c)

/-! ### Versions and edits (R325 to R328) -/

/-- A walk references a version. -/
def State.referenced (s : State) (r : Retire) : Bool :=
  s.tac.walks.any (fun w => w.slot == r.slot && w.version == r.version && w.block == r.block)

/-- What a retire entry held returns to its pools: the pages leave the cache and the flock's charge (R327, R346, R347). -/
def State.returnRetired (s : State) (r : Retire) : State :=
  let s := if r.block == 0 then s
    else { s with tac := { s.tac with blocks := ivAdd s.tac.blocks ((r.block - s.ptbBase) / 256) 1 } }
  r.pages.foldl (fun s (a, c) =>
    ({ s with tac := { s.tac with free := ivAdd s.tac.free ((a - s.poolBase) / 512) (2 ^ c),
                                  cache := s.tac.cache.filter (fun x => x.1 != a) } }).uncharge (r.flock % 4096) (2 ^ c)) s

/-- Versions without a reference return what they hold (R327). -/
def State.sweepRetired (s : State) : State :=
  let (keep, go) := s.tac.retire.partition s.referenced
  go.foldl State.returnRetired { s with tac := { s.tac with retire := keep } }

/-- Put an old version on the retire list (R326). -/
def State.retireVersion (s : State) (n : Nat) (pages : List (Nat × Nat)) : State :=
  let r : Retire := { slot := n, flock := s.seqFlock n, version := s.seqVersion n, block := s.seqPtb n, pages := pages }
  { s with tac := { s.tac with retire := s.tac.retire ++ [r] } }

/-- TIME of an entry, and whether its FLAGS are VALID and its GEN is the sequence's (Table 7.5). -/
def State.entValid (s : State) (a gen : Nat) : Bool := bits (s.peek (a + 17) 1) 0 1 == 1 && s.peek (a + 18) 2 % 4096 == gen

/-- ENTRIES, CAPACITY and LATEST_TIME after a change of what the sequence holds (Table 7.3). -/
def State.recount (s : State) (n : Nat) : State :=
  let es := s.entries n
  let gen := s.seqTid n / 2 ^ 20
  let latest := ((es.filter (fun e => s.entValid e.2 gen)).map (fun e => s.peek e.2 8)).foldl max 0
  let cap := ((s.ptes n).map (fun p => 2 ^ pteSize p)).sum
  ((s.setSeqF n 28 2 es.length).setSeqF n 36 2 cap).setSeqF n 16 8 latest

/-- The new entries of a sequence that its pages still hold: an edit that removes or recycles a page drops those in it (R315, R318). -/
def State.heldNew (s : State) (n : Nat) : State :=
  let es := s.entries n
  let keep (e : NewEnt) : NewEnt := if e.slot == n then { e with addrs := e.addrs.filter (fun a => es.any (fun x => x.2 == a)) } else e
  { s with tac := { s.tac with new := (s.tac.new.map keep).filter (fun e => !e.addrs.isEmpty) } }

/-- A copy-on-write edit: a new page table, and the pages it removes; none when no block is free (R304, R326). A table without pages has no
block (Table 7.3). -/
def State.edit (s : State) (n : Nat) (new : List Nat) (gone : List (Nat × Nat)) : Option State :=
  let (b, s') := s.takeBlock
  let put (b : Nat) (s : State) : State :=
    let v := (s.seqVersion n + 1) % 65536
    let s := s.retireVersion n gone
    let s := (s.setSeqF n 8 8 (b + 2 ^ 48 * v)).setSeqF n 6 1 new.length
    ((s.recount n).heldNew n).sweepRetired
  if new.isEmpty then some (put 0 s)
  else
    match b with
    | none => none
    | some b => some (put b (s'.store b ((new.flatMap (leBytes 8)) ++ List.replicate (256 - 8 * new.length) 0)))

/-! ### Sequence commands (Table 7.2) -/

/-- TAC_ACTIVE_CNT up or down. -/
def State.activeAdd (s : State) (d : Int) : State :=
  s.setReg Reg.TAC_ACTIVE_CNT (BitVec.ofNat 32 ((s.regN Reg.TAC_ACTIVE_CNT : Int) + d).toNat)

/-- Sequences of a flock up or down. -/
def State.flockSeqAdd (s : State) (f : Nat) (d : Int) : State :=
  s.setFld (Reg.TAC_FLOCK_SEQ f) 0 20 ((s.fld' (Reg.TAC_FLOCK_SEQ f) 0 20 : Int) + d).toNat

/-- The active sequences are at their limit. -/
def State.activeFull (s : State) : Bool := decide (s.regN Reg.TAC_ACTIVE_MAX ≤ s.regN Reg.TAC_ACTIVE_CNT)

/-- OPEN. -/
def State.doOpen (s : State) (n tid f : Nat) : Nat × State :=
  let c := topCode
    ((if s.seqSt n != 0 then [REFUSED_STATE] else []) ++
     (if s.flockSt f == 0 || tid % 2 ^ 20 != n then [REFUSED_DESCRIPTOR] else []) ++
     (if s.flockSt f == 2 || decide (s.fld' (Reg.TAC_FLOCK_LIM f) 0 20 ≤ s.fld' (Reg.TAC_FLOCK_SEQ f) 0 20) then [REFUSED_QUOTA] else []) ++
     (if s.activeFull then [REFUSED_FIT] else []))
  if c == DONE then
    (DONE, (((((s.zero (s.seqAddr n) 64).setSeqF n 0 4 tid).setSeqF n 4 2 (f + 4096)).activeAdd 1).flockSeqAdd f 1))
  else (c, s)

/-- FALLOW. -/
def State.doFallow (s : State) (n : Nat) : Nat × State :=
  if s.seqSt n == 1 then (DONE, (s.setSeqSt n 2).activeAdd (-1)) else (REFUSED_STATE, s)

/-- ACTIVATE; it stops a reclamation (R324). -/
def State.doActivate (s : State) (n : Nat) : Nat × State :=
  if s.seqSt n != 2 then (REFUSED_STATE, s)
  else if s.activeFull then (REFUSED_FIT, s)
  else
    let s := (s.setSeqSt n 1).activeAdd 1
    (DONE, if s.seqFlag n 2 then (s.setSeqFlag n 2 false).setSeqFlag n 1 true else s)

/-- CLOSE (R299). -/
def State.doClose (s : State) (n : Nat) : Nat × State :=
  if s.seqSt n == 0 then (REFUSED_STATE, s)
  else
    let f := s.seqFlock n
    let s := if s.seqSt n == 1 then s.activeAdd (-1) else s
    let s := (s.flockSeqAdd f (-1)).retireVersion n ((s.ptes n).map (fun p => (pteAddr p, pteSize p)))
    let s := s.zero (s.seqAddr n) 64
    let s := { s with tac := { s.tac with new := s.tac.new.filter (fun e => e.slot != n), appends := SMap.erase s.tac.appends n } }
    (DONE, s.sweepRetired)

/-! ### Page-table commands (R325) -/

/-- What a page-table command asks: the new table and the pages gone, or the highest refusal that applies (R40). -/
def State.pgtPlan (s : State) (n op arg : Nat) : Except Nat (List Nat × List (Nat × Nat)) :=
  let ps := s.ptes n
  let gone (l : List Nat) : List (Nat × Nat) := l.map (fun p => (pteAddr p, pteSize p))
  let unless' (codes : List Nat) (plan : List Nat × List (Nat × Nat)) : Except Nat (List Nat × List (Nat × Nat)) :=
    if topCode codes == DONE then .ok plan else .error (topCode codes)
  let code (c : Nat) (b : Bool) : Nat := if b then c else DONE
  match op with
  | 1 => unless' [code REFUSED_DESCRIPTOR (arg == 0), code REFUSED_STATE (decide (ps.length < arg))] (ps.drop arg, gone (ps.take arg))
  | 2 => .ok ([], gone ps)
  | 3 => unless' [code REFUSED_DESCRIPTOR (decide (7 < arg)), code REFUSED_STATE (s.seqSt n == 0),
           code REFUSED_QUOTA (s.seqSt n != 0 && decide (arg ≤ 7) && s.flockFull (s.seqFlock n) arg),
           code REFUSED_FIT (decide (32 ≤ ps.length) || decide (2 ^ s.fld' Reg.TAC_ENTRY_CFG 8 3 < s.seqCap n + 2 ^ min arg 7))] (ps, [])
  | _ => .error REFUSED_DESCRIPTOR

/-- A page-table command: its status, or none while it waits for a free block (R304, R356). -/
def State.doPgt (s : State) (n op arg : Nat) : Option Nat × State :=
  match s.pgtPlan n op arg with
  | .error e => (some e, s)
  | .ok (new, gone) =>
    if op == 2 && gone.isEmpty then (some DONE, s)
    else if op != 3 then
      match s.edit n new gone with
      | some s => (some DONE, s)
      | none => (none, s)
    else if ivLen s.tac.blocks == 0 then (none, s)
    else
      match s.takePage arg true with
      | (none, s) => (some REFUSED_FIT, s)
      | (some a, s) =>
        match (s.charge (s.seqFlock n) (2 ^ arg)).edit n (new ++ [mkPte (s.seqNext n) arg a]) [] with
        | some s => (some DONE, s)
        | none => (none, s)

/-! ### Flock commands (R349 to R353) -/

/-- A request to create or raise fits: the page quotas of all enabled flocks stay within the pool less the reserve (R349). -/
def State.quotaFits (s : State) (f q : Nat) : Bool :=
  decide ((((s.enabledFlocks.filter (· != f)).map (fun g => s.regN (Reg.TAC_FLOCK_Q g))).sum + q) ≤ s.poolUnits - s.reserveUnits)

/-- Set a flock's quotas. -/
def State.setQuotas (s : State) (f q lim : Nat) : State :=
  (s.setReg (Reg.TAC_FLOCK_Q f) (BitVec.ofNat 32 q)).setReg (Reg.TAC_FLOCK_LIM f) (BitVec.ofNat 32 (lim % 2 ^ 28))

/-- CREATE (R349, R512, R515). -/
def State.doFlockCreate (s : State) (f q lim : Nat) : Nat × State :=
  let c := topCode ((if s.flockSt f != 0 || s.lthState != 3 then [REFUSED_STATE] else []) ++ (if s.quotaFits f q then [] else [REFUSED_FIT]))
  if c == DONE then (DONE, ((s.setQuotas f q lim).setFld (Reg.TAC_FLOCK_SEQ f) 20 2 1).rtCount true)
  else (c, let s := s.rtCount false; if s.quotaFits f q then s else s.rtRefuse (0x0027, 0))

/-- SET_QUOTA: a raise is judged, a cut never refused (R349, R350, R515). On a DISABLED flock it is refused. -/
def State.doSetQuota (s : State) (f q lim : Nat) : Nat × State :=
  let cut := decide (q ≤ s.regN (Reg.TAC_FLOCK_Q f)) && decide (lim % 2 ^ 20 ≤ s.fld' (Reg.TAC_FLOCK_LIM f) 0 20) &&
    decide (bits lim 20 8 ≤ s.fld' (Reg.TAC_FLOCK_LIM f) 20 8)
  if s.flockSt f == 0 then (REFUSED_STATE, s)
  else if cut then (DONE, (s.setQuotas f q lim).flockJudge f)
  else if s.lthState != 3 then (REFUSED_STATE, s.rtCount false)
  else if s.quotaFits f q then (DONE, ((s.setQuotas f q lim).rtCount true).flockJudge f)
  else (REFUSED_FIT, (s.rtCount false).rtRefuse (0x0027, 0))

/-- DISABLE: refused while the flock holds a sequence (R349). -/
def State.doDisable (s : State) (f : Nat) : Nat × State :=
  if s.flockSt f == 0 || s.fld' (Reg.TAC_FLOCK_SEQ f) 0 20 != 0 then (REFUSED_STATE, s)
  else (DONE, s.setFld (Reg.TAC_FLOCK_SEQ f) 20 2 0)

/-! ### The command unit (R300, R356) -/

/-- A command through its register: refused while busy, otherwise judged at once (R356, R729). -/
def State.tacReg (s : State) (st busy : Nat) (op : State → Nat × State) : State :=
  s.unlessBusy st busy (fun s => let (c, s) := op s; s.status st c)

/-- A command of an initiator: the host through a register behind H36, others through the command port behind H37 (R300, R573). `st` and
`busy` are the status register and its busy bit. -/
def State.tacCmd (s : State) (id off st busy : Nat) (op : State → Nat × State) : State :=
  if id == idHost then
    s.hostCmd off (fun s => s.tacReg st busy op)
  else if !s.tacOn then s
  else if !s.admitsReg 37 id .command off 4 then (s.refuseAccess (some 37) id .command off).emit (.bus id BUS_ERROR_HURDLE [])
  else let (c, s) := op s; s.emit (.done 0x08 id c)

/-- A sequence command of any initiator. -/
def State.seqCmd (s : State) (id : BitVec 10) (op : State → Nat × State) : State :=
  s.tacCmd id.toNat Reg.TAC_CMD_SEQ Reg.TAC_CMD_SEQ_ST 16 op

/-- OPEN row (R298). -/
def execOpenSeq (id : BitVec 10) (slot : BitVec 20) (tid : W32) (flock : BitVec 12) (s : State) : Host.Outcome State Fault Refusal :=
  .next (s.seqCmd id (fun s => s.doOpen slot.toNat tid.toNat flock.toNat))

/-- FALLOW row (R298). -/
def execFallow (id : BitVec 10) (slot : BitVec 20) (s : State) : Host.Outcome State Fault Refusal :=
  .next (s.seqCmd id (fun s => s.doFallow slot.toNat))

/-- ACTIVATE row (R298, R324). -/
def execActivate (id : BitVec 10) (slot : BitVec 20) (s : State) : Host.Outcome State Fault Refusal :=
  .next (s.seqCmd id (fun s => s.doActivate slot.toNat))

/-- CLOSE row (R298, R299). -/
def execClose (id : BitVec 10) (slot : BitVec 20) (s : State) : Host.Outcome State Fault Refusal :=
  .next (s.seqCmd id (fun s => s.doClose slot.toNat))

/-- The result of a page-table edit in TAC_CMD_PGT_ST (Table 7.12). -/
def State.pgtStatus (s : State) (n code : Nat) : State := (s.status Reg.TAC_CMD_PGT_ST code).setFld Reg.TAC_CMD_PGT_ST 16 16 (s.seqVersion n)

/-- A page-table command waits for a free block (R304). -/
def State.pgtWait (s : State) (w : PgtWait) : State := { s with tac := { s.tac with waits := s.tac.waits ++ [w] } }

/-- A page-table command through TAC_CMD_PGT_EDIT; while no block is free it waits, and the register shows busy (R356). -/
def State.pgtReg (s : State) (n op arg : Nat) : State :=
  s.unlessBusy Reg.TAC_CMD_PGT_ST 8 (fun s =>
    match s.doPgt n op arg with
    | (some c, s) => s.pgtStatus n c
    | (none, s) => (s.pgtWait ⟨idHost, n, op, arg⟩).setBit Reg.TAC_CMD_PGT_ST 8 true)

/-- A page-table command of an initiator (R300, R356). -/
def State.pgtCmd (s : State) (id n op arg : Nat) : State :=
  if id == idHost then s.hostCmd Reg.TAC_CMD_PGT_EDIT (fun s => s.pgtReg n op arg)
  else if !s.tacOn then s
  else if !s.admitsReg 37 id .command Reg.TAC_CMD_PGT_EDIT 4 then
    (s.refuseAccess (some 37) id .command Reg.TAC_CMD_PGT_EDIT).emit (.bus id BUS_ERROR_HURDLE [])
  else
    match s.doPgt n op arg with
    | (some c, s) => s.emit (.done 0x08 id c)
    | (none, s) => s.pgtWait ⟨id, n, op, arg⟩

/-- Waiting page-table commands are tried again, in order (R304, R356). -/
def State.retryPgt (s : State) : State :=
  s.tac.waits.foldl (fun s w =>
    match s.doPgt w.slot w.op w.arg with
    | (none, s) => s
    | (some c, s) =>
      let s := { s with tac := { s.tac with waits := s.tac.waits.erase w } }
      if w.id == idHost then (s.pgtStatus w.slot c).setBit Reg.TAC_CMD_PGT_ST 8 false else s.emit (.done 0x08 w.id c)) s

/-- DROP_OLDEST row (R325). -/
def execDropOldest (id : BitVec 10) (slot : BitVec 20) (count : BitVec 5) (s : State) : Host.Outcome State Fault Refusal :=
  .next (s.pgtCmd id.toNat slot.toNat 1 count.toNat)

/-- DROP_ALL row (R325). -/
def execDropAll (id : BitVec 10) (slot : BitVec 20) (s : State) : Host.Outcome State Fault Refusal :=
  .next (s.pgtCmd id.toNat slot.toNat 2 0)

/-- ADD_PAGE row (R325). -/
def execAddPage (id : BitVec 10) (slot : BitVec 20) (size : BitVec 5) (s : State) : Host.Outcome State Fault Refusal :=
  .next (s.pgtCmd id.toNat slot.toNat 3 size.toNat)

/-- A flock command of any initiator. -/
def State.flockCmd (s : State) (id : BitVec 10) (op : State → Nat × State) : State :=
  s.tacCmd id.toNat Reg.TAC_CMD_FLOCK Reg.TAC_CMD_FLOCK_ST 8 op

/-- FLOCK_CREATE row (R349). -/
def execFlockCreate (id : BitVec 10) (flock : BitVec 12) (pageQ lim : W32) (s : State) : Host.Outcome State Fault Refusal :=
  .next (s.flockCmd id (fun s => s.doFlockCreate flock.toNat pageQ.toNat lim.toNat))

/-- SET_QUOTA row (R350). -/
def execSetQuota (id : BitVec 10) (flock : BitVec 12) (pageQ lim : W32) (s : State) : Host.Outcome State Fault Refusal :=
  .next (s.flockCmd id (fun s => s.doSetQuota flock.toNat pageQ.toNat lim.toNat))

/-- DISABLE row (R349). -/
def execDisableFlock (id : BitVec 10) (flock : BitVec 12) (s : State) : Host.Outcome State Fault Refusal :=
  .next (s.flockCmd id (fun s => s.doDisable flock.toNat))

/-! ### Appends (R312 to R320) -/

/-- The step whose work is in hand, as 32 bits. -/
def State.step32 (s : State) : Nat := s.csq.cur.i % 2 ^ 32

/-- Size code of the page the policy names next (R308). -/
def State.nextCode (s : State) (n : Nat) : Nat :=
  let first := s.fld' Reg.TAC_ENTRY_CFG 4 3
  let cap := 2 ^ s.fld' Reg.TAC_ENTRY_CFG 8 3
  if s.bit Reg.TAC_ENTRY_CFG 12 || s.seqPages n == 0 then first else min 7 (min (s.seqCap n) (cap - s.seqCap n)).log2

/-- The sequence has reached its cap: no page the policy names fits under it (R308, R319). -/
def State.atCap (s : State) (n : Nat) : Bool :=
  s.seqPages n != 0 && (2 ^ s.fld' Reg.TAC_ENTRY_CFG 8 3 ≤ s.seqCap n || 32 ≤ s.seqPages n ||
    decide (2 ^ s.fld' Reg.TAC_ENTRY_CFG 8 3 < s.seqCap n + 2 ^ s.nextCode n))

/-- Recycle the oldest page to the end of the table (R318). -/
def State.recycle (s : State) (n : Nat) : Option State :=
  match s.ptes n with
  | [] => none
  | p :: r => s.edit n (r ++ [mkPte (s.seqNext n) (pteSize p) (pteAddr p)]) []

/-- A new page at the end of the table, under steps 1 to 3 of R316. -/
def State.newPage (s : State) (n : Nat) : Option State :=
  let c := s.nextCode n
  if s.flockFull (s.seqFlock n) c || ivLen s.tac.blocks == 0 then none
  else
    let (a, s1) := s.takePage c true
    let (a, s1) := if a.isSome then (a, s1) else s.takePage c false
    match a with
    | none => none
    | some a => (s1.charge (s1.seqFlock n) (2 ^ c)).edit n (s1.ptes n ++ [mkPte (s1.seqNext n) c a]) []

/-- The sequence's last page has a slot for the next entry: its address. -/
def State.nextSlot (s : State) (n : Nat) : Option Nat :=
  match (s.ptes n).getLast? with
  | none => none
  | some p =>
    let j := (s.seqNext n + entMod - pteFirst p) % entMod
    if j < s.slotsOf (pteSize p) then some (pteAddr p + j * s.entrySize) else none

/-- Make room for an entry (R316, R318, R319): none when the append is skipped. -/
def State.makeRoom (s : State) (n : Nat) : Option State :=
  if (s.nextSlot n).isSome then some s
  else if s.atCap n then s.recycle n
  else
    match s.newPage n with
    | some s => some s
    | none =>
      if 2 ≤ s.seqPages n then (s.recycle n).map (fun s => (s.setSeqFlag n 1 true).countSat Reg.TAC_TRUNC_CNT 0 32 1)
      else none

/-- The skip of R320. -/
def State.starve (s : State) (n : Nat) : State :=
  { (s.setSeqFlag n 0 true).countSat Reg.TAC_STARVED_CNT 0 32 1 with tac := { s.tac with stepStarved := true } }

/-- Write an entry header with VALID clear and place the entry in the next walk (R309, R313, R341). -/
def State.putEntry (s : State) (n a time sensor : Nat) (late : Bool) : State :=
  let no := s.seqNext n
  let s := s.store a (leBytes 8 time ++ leBytes 4 no ++ leBytes 4 s.step32 ++ leBytes 1 sensor ++ leBytes 1 (if late then 4 else 0) ++
    leBytes 2 (s.seqTid n / 2 ^ 20) ++ List.replicate 12 0)
  let s := (((s.setSeqF n 24 3 ((no + 1) % entMod)).setSeqF n 32 4 s.step32).setSeqF n 30 2 (setBits (s.seqHist n) 0 1 1)).recount n
  let old := (s.tac.new.find? (fun e => e.slot == n)).map (·.addrs)
  { s with tac := { s.tac with
      new := (s.tac.new.filter (fun e => e.slot != n)) ++ [⟨n, old.getD [] ++ [a]⟩]
      appends := SMap.insert s.tac.appends n (SMap.get 0 s.tac.appends n + 1)
      walks := s.tac.walks.filter (fun w => !(w.slot == n && w.ahead))
      decoding := s.tac.decoding.filter (fun (m, _, ahead) => !(m == n && ahead)) } }

/-- An append request (R312): its status. -/
def State.doAppend (s : State) (n time sensor : Nat) (late : Bool) : Nat × State :=
  if s.seqSt n != 1 || s.appendMax ≤ SMap.get 0 s.tac.appends n then (REFUSED_STATE, s)
  else
    match s.makeRoom n with
    | none => (DONE_STARVED, s.starve n)
    | some s =>
      match s.nextSlot n with
      | some a => (DONE, (s.putEntry n a time sensor late).sweepRetired)
      | none => (DONE_STARVED, s.starve n)

/-- The new entries of a sequence become VALID: the LAST ATTEND completed with a Done status (R313). -/
def State.entriesValid (s : State) (n : Nat) : State :=
  match s.tac.new.find? (fun e => e.slot == n) with
  | none => s
  | some e =>
    let s := e.addrs.foldl (fun s a => s.poke (a + 17) 1 (setBits (s.peek (a + 17) 1) 0 1 1)) s
    { s with tac := { s.tac with new := s.tac.new.filter (fun e => e.slot != n) } }.recount n

/-- The new entries of a sequence become holes (R315). -/
def State.entriesHole (s : State) (n : Nat) : State :=
  match s.tac.new.find? (fun e => e.slot == n) with
  | none => s
  | some e =>
    let s := e.addrs.foldl (fun s a => (s.poke (a + 17) 1 (setBits (s.peek (a + 17) 1) 1 1 1)).countSat Reg.TAC_HOLE_CNT 0 32 1) s
    { s with tac := { s.tac with new := s.tac.new.filter (fun e => e.slot != n), stepHole := true } }

/-! ### The reclaimer (R322, R323, R351) -/

/-- FALLOW sequences with pages of some flocks, least recently used first, ties to the lower slot. -/
def State.fallowWith (s : State) (f : Nat → Bool) : List Nat :=
  sortBy (fun (a b : Nat) => decide (s.seqLast a < s.seqLast b) || (s.seqLast a == s.seqLast b && decide (a ≤ b)))
    (s.liveSeqs.filter (fun n => s.seqSt n == 2 && s.seqPages n != 0 && f (s.seqFlock n)))

/-- The next sequence to reclaim from: OVER_QUOTA flocks first, otherwise while the reclaimer refills the pool. -/
def State.reclaimNext (s : State) : Option Nat :=
  match s.fallowWith (fun f => s.flockSt f == 2) with
  | n :: _ => some n
  | [] => if s.tac.reclaiming then (s.fallowWith (fun _ => true)).head? else none

/-- The reclaimer starts below LOW and stops at HIGH (R322). -/
def State.reclaimGate (s : State) : State :=
  let free := ivLen s.tac.free
  let at256 (k : Nat) : Nat := s.poolUnits * s.fld' Reg.TAC_RECLAIM k 8 / 256
  { s with tac := { s.tac with reclaiming := (s.tac.reclaiming || decide (free < at256 16)) && decide (free < at256 24) } }

/-- Free one page of a FALLOW sequence, oldest first; a sequence left without pages posts a RECLAIMED notice (R323). -/
def State.reclaimOne (s : State) (n : Nat) : Option State :=
  match s.ptes n with
  | [] => none
  | p :: r =>
    match s.edit n r [(pteAddr p, pteSize p)] with
    | none => none
    | some s =>
      let s := (s.setSeqFlag n 2 (!r.isEmpty)).countWrap Reg.TAC_RECLAIM_CNT 0 32 1
      some (if r.isEmpty then { s with tac := { s.tac with notices := s.tac.notices ++ [n] } } else s)

/-- Up to `fuel` pages. -/
def State.reclaimLoop (s : State) : Nat → State
  | 0 => s
  | fuel + 1 =>
    let s := s.reclaimGate
    match s.reclaimNext with
    | none => s
    | some n =>
      match s.reclaimOne n with
      | some s => s.reclaimLoop fuel
      | none => s

/-- Flocks that stay OVER_QUOTA with no FALLOW page left are logged once (R351). -/
def State.logStuck (s : State) : State :=
  s.enabledFlocks.foldl (fun s f =>
    if s.flockSt f == 2 && !s.tac.stuck.contains f && (s.fallowWith (fun g => g == f)).isEmpty then
      { s with tac := { s.tac with stuck := f :: s.tac.stuck } }.event 0x08 2 0x0802 0 (leBytes 2 f)
    else s) s

/-- RECLAIMER row: once after each publication (R322). -/
def execReclaimer (s : State) : Host.Outcome State Fault Refusal :=
  .next (if !s.tacOn || s.csq.pub.isNone || s.tac.reclaimed == s.csq.pub then s
    else
      let s := { s with tac := { s.tac with reclaimed := s.csq.pub } }
      ((s.reclaimLoop (s.fld' Reg.TAC_RECLAIM 0 16)).reclaimGate.logStuck).retryPgt)

/-! ### The track cache (R342 to R346) -/

/-- Bytes of the managed part. -/
def State.cacheBytes (s : State) : Nat := s.scratchBase - cacheBase

/-- Bytes in use. -/
def cacheUsed (l : List (Nat × Nat × Nat × Nat)) : Nat := (l.map (fun x => 512 * 2 ^ x.2.1)).sum

/-- The page to evict: lowest heat of its sequence, then walked least recently (R344). -/
def State.victim (s : State) (l : List (Nat × Nat × Nat × Nat)) : Option (Nat × Nat × Nat × Nat) :=
  (sortBy (fun (a b : Nat × Nat × Nat × Nat) =>
    decide (s.heat a.2.2.1 < s.heat b.2.2.1) || (s.heat a.2.2.1 == s.heat b.2.2.1 && decide (a.2.2.2 ≤ b.2.2.2))) l).head?

/-- Room for a page of `size` bytes, evicting colder pages only (R344). -/
def State.admitRoom (s : State) (heat size : Nat) : Nat → List (Nat × Nat × Nat × Nat) → Option (List (Nat × Nat × Nat × Nat))
  | 0, l => if cacheUsed l + size ≤ s.cacheBytes then some l else none
  | fuel + 1, l =>
    if cacheUsed l + size ≤ s.cacheBytes then some l
    else
      match s.victim l with
      | some v => if s.heat v.2.2.1 < heat then s.admitRoom heat size fuel (l.filter (fun x => x.1 != v.1)) else none
      | none => none

/-- A walk reads a page: from the cache, or streamed from DRAM and admitted where R344 lets it (R343 to R345). -/
def State.readPage (s : State) (n : Nat) (p : Nat) : State :=
  let a := pteAddr p
  if s.bit Reg.TAC_CTRL 1 && s.tac.cache.any (fun x => x.1 == a) then
    { s.countWrap Reg.TAC_CACHE_HIT 0 32 1 with
      tac := { s.tac with cache := s.tac.cache.map (fun x => if x.1 == a then (a, x.2.1, n, s.step32) else x) } }
  else
    let size := 512 * 2 ^ pteSize p
    let s := { s.countWrap Reg.TAC_CACHE_MISS 0 32 1 with tac := { s.tac with stepStream := s.tac.stepStream + size / 64 } }
    if !s.bit Reg.TAC_CTRL 1 || s.heat n < s.fld' Reg.TAC_CACHE_CFG 8 5 then s
    else
      match s.admitRoom (s.heat n) size s.tac.cache.length s.tac.cache with
      | some l => { s with tac := { s.tac with cache := l ++ [(a, pteSize p, n, s.step32)] } }
      | none => s

/-! ### Walks (R327 to R334) -/

/-- The step a walk serves: the step in hand, or the next one for an ahead decode once the decode window of the step in hand has ended (R26). -/
def State.walkStep (s : State) (ahead : Bool) : Nat := s.csq.cur.i + (if ahead && s.csq.cur.closed.contains 1 then 1 else 0)

/-- A tile of the decode partition: one that serves the decode stage (R26, R28). -/
def State.decodeTile (s : State) (t : Nat) : Bool := (s.tile t).serves == some 1

/-- Entries to stage from the held ones: the newest VALID entries of the right generation, holes and others skipped (R333). Damaged headers
that cannot be corrected are skipped as holes. Answers the addresses, and whether a wrong generation was seen, with its count. -/
def State.stageable (s : State) (n : Nat) (new : List Nat) : List Nat × Nat × State :=
  let gen := s.seqTid n / 2 ^ 20
  (s.entries n).foldl (fun (r : List Nat × Nat × State) e =>
    let (l, bad, s) := r
    if new.contains e.2 then (l, bad, s)
    else
      let (ok, s) := s.checkRead idTac e.2 32 0
      if !ok || bits (s.peek (e.2 + 17) 1) 0 1 == 0 then (l, bad, s)
      else if s.peek (e.2 + 18) 2 % 4096 != gen then (l, bad + 1, s.countSat Reg.TAC_FUTURE_CNT 0 32 1)
      else (l ++ [e.2], bad, s)) ([], 0, s)

/-- WALK_START: a walk takes a reference on the version of an ACTIVE sequence and stages its entries (R327, R329, R333, R341). -/
def State.walkStart (s : State) (n tile : Nat) (ahead : Bool) : State :=
  if !s.tacOn || s.seqSt n != 1 || 1024 ≤ s.tac.walks.length || s.tac.walks.any (fun w => w.slot == n) || !s.decodeTile tile ||
     (ahead && 0 < SMap.get 0 s.tac.appends n) then s
  else
    let new := ((s.tac.new.find? (fun e => e.slot == n)).map (·.addrs)).getD []
    let new := if ahead then [] else new
    let (old, bad, s) := s.stageable n new
    let s := (s.ptes n).foldl (fun s p => s.readPage n p) s
    let w : Walk := { slot := n, version := s.seqVersion n, block := s.seqPtb n, tile := tile, ahead := ahead, step := s.walkStep ahead,
                      staged := old ++ new, new := new.length, record := leBytes 1 (if bad == 0 then 0 else 8) }
    { s.setSeqF n 40 4 s.step32 with tac := { s.tac with walks := s.tac.walks ++ [w] } }

/-- WALK_START row (R327). -/
def execWalkStart (slot : BitVec 20) (tile : Fin 34) (ahead : Bool) (s : State) : Host.Outcome State Fault Refusal :=
  .next (s.walkStart slot.toNat tile ahead)

/-- The walk record of a sequence for an ATTEND (Tables 7.7 and 7.8), with the entries staged for it. -/
def State.walkRecord (s : State) (w : Walk) (c : List Byte) : List Byte × List Nat × Nat :=
  let staged := w.staged.drop (w.staged.length - atWindow c)
  let q : Int := (s.tOf w.step / nsT : Nat)
  let dts := staged.map (fun a => q - (s.peek a 8 : Int))
  let att := dts.map (fun d => decide (0 ≤ d) && decide (d ≤ (atAge c : Int) * 1000000))
  let mask := ((List.range att.length).map (fun e => if att.getD e false then 2 ^ e else 0)).sum
  let flags := (if mask == 0 then 1 else 0) + (if s.seqFlag w.slot 0 then 2 else 0) + (if s.seqFlag w.slot 1 then 4 else 0) + u w.record 0 1
  let dtBytes := fit 128 (dts.flatMap (fun d => leBytes 4 (ofSigned 32 (satInt 32 d))))
  let new := min w.new staged.length
  let adr := fit 32 ((staged.drop (staged.length - new)).flatMap (leBytes 8))
  (leBytes 4 (s.seqTid w.slot) ++ leBytes 1 staged.length ++ leBytes 1 new ++ leBytes 1 flags ++ [0] ++ leBytes 8 (s.tOf w.step / nsT) ++
    leBytes 4 mask ++ List.replicate 4 0 ++ dtBytes ++ adr ++ List.replicate 72 0,
   staged, (dts.filter (fun d => decide (d < 0))).length)

/-- The end of the decode window of a step, NS64 (R340). -/
def State.decodeEnd (s : State) (i : Nat) : Nat :=
  let close : Int := match SMap.find? s.csq.scheds s.csq.sched with
    | some d => (d.win.getD 1 (0, 0, 0)).2.1
    | none => 0
  (((s.tOf i / nsT : Nat) : Int) + close * 1000).toNat

/-! ### The step, and rebuilding -/

/-- A new step begins: HIST16 shifts, STARVED clears, and the per-step registers show the last step (Tables 7.3 and 7.12). -/
def State.tacStep (s : State) : State :=
  let s := s.liveSeqs.foldl (fun s n => (s.setSeqF n 30 2 (s.seqHist n * 2 % 65536)).setSeqFlag n 0 false) s
  let s := ((s.setReg Reg.TAC_STREAM (BitVec.ofNat 32 s.tac.stepStream)).setBit Reg.TAC_STATUS 3 s.tac.stepStarved).setBit Reg.TAC_STATUS 4 s.tac.stepHole
  { s with tac := { s.tac with appends := [], stepStarved := false, stepHole := false, stepStream := 0 } }

/-- Free lists, block pool and flock usage from the tables in DRAM (R354). -/
def State.tacRebuild (s : State) : State :=
  let s := { s with tac := { free := [(0, s.poolUnits)], blocks := [(0, 0x100000 + 1024)] } }
  let s := s.enabledFlocks.foldl (fun s f => (s.setReg (Reg.TAC_FLOCK_USED f) 0).setFld (Reg.TAC_FLOCK_SEQ f) 0 20 0) s
  let s := s.setReg Reg.TAC_ACTIVE_CNT 0
  let s := s.liveSeqs.foldl (fun s n =>
    let s := if s.seqPtb n == 0 then s else { s with tac := { s.tac with blocks := ivTake s.tac.blocks ((s.seqPtb n - s.ptbBase) / 256) 1 } }
    let s := (s.flockSeqAdd (s.seqFlock n) 1).activeAdd (if s.seqSt n == 1 then 1 else 0)
    (s.ptes n).foldl (fun s p =>
      ({ s with tac := { s.tac with free := ivTake s.tac.free ((pteAddr p - s.poolBase) / 512) (2 ^ pteSize p) } }).charge (s.seqFlock n) (2 ^ pteSize p)) s) s
  s.enabledFlocks.foldl State.flockJudge s

end Sys2Proof.Machine
end

