-- ==== Sys2Proof/Machine/FoldRec.lean ====
section
/-! DEFINITION. Machine/FoldRec.lean: track records of the Fold (Table 8.1), held in device memory. -/

namespace Sys2Proof.Machine

/-- FLD lies in domain 97 (Table 16.1). -/
def State.fldOn (s : State) : Bool := s.powered 97

/-- Base of the Fold (R357). -/
def State.foldBase (s : State) : Nat := s.regN Reg.FLD_FOLD_BASE_LO + 2 ^ 32 * s.fld' Reg.FLD_FOLD_BASE_HI 0 16

/-- Address of a record. -/
def State.trkAddr (s : State) (n : Nat) : Nat := s.foldBase + 256 * n

/-- The record of a Fold slot. -/
def State.trk (s : State) (n : Nat) : List Byte := s.bytesAt (s.trkAddr n) 256

/-- Write a record with its CRC (R361). -/
def State.setTrk (s : State) (n : Nat) (b : List Byte) : State :=
  let b := b.take 252
  s.store (s.trkAddr n) (b ++ leBytes 4 (crc32c b).toNat)

/-- Reset a record to FREE (Table 8.1). -/
def State.freeTrk (s : State) (n : Nat) : State := s.zero (s.trkAddr n) 256

/-- Change a field of a record. -/
def State.trkPut (s : State) (n off w v : Nat) : State := s.setTrk n (patch (s.trk n) off (leBytes w v))

abbrev tkId (b : List Byte) : Nat := u b 0 4
abbrev tkGid (b : List Byte) : Nat := u b 4 8
/-- LSTATE (Table 8.3). -/
abbrev tkSt (b : List Byte) : Nat := u b 12 1
abbrev tkExist (b : List Byte) : Nat := u b 13 1
abbrev tkClass (b : List Byte) : Nat := u b 14 1
abbrev tkFlagA (b : List Byte) (k : Nat) : Bool := bits (u b 15 1) k 1 == 1
abbrev tkFlagB (b : List Byte) (k : Nat) : Bool := bits (u b 16 2) k 1 == 1
abbrev tkFlock (b : List Byte) : Nat := u b 18 2 % 4096
abbrev tkLastStep (b : List Byte) : Nat := u b 20 4
abbrev tkLastTime (b : List Byte) : Nat := u b 24 8
abbrev tkBirth (b : List Byte) : Nat := u b 32 8
abbrev tkHits (b : List Byte) : Nat := u b 40 2
abbrev tkSolve (b : List Byte) : Nat := u b 44 1
abbrev tkAge (b : List Byte) : Nat := u b 45 1
abbrev tkMiss (b : List Byte) : Nat := u b 46 1
/-- State component k (Table 8.1). -/
abbrev tkX (b : List Byte) (k : Nat) : Int := i b (48 + 4 * k) 4
/-- The ten state components. -/
def tkXs (b : List Byte) : List Int := (List.range 10).map (tkX b)
/-- The 55 mantissas and ten exponents of SRI. -/
def tkSri (b : List Byte) : List Int := (List.range 55).map (fun k => i b (96 + 2 * k) 2)
def tkExp (b : List Byte) : List Int := (List.range 10).map (fun k => i b (206 + k) 1)
/-- The 32 elements of EMB. -/
def tkEmb (b : List Byte) : List Int := (List.range 32).map (fun k => i b (216 + k) 1)

/-- Set a flag of FLAGS_A. -/
def setFlagA (b : List Byte) (k : Nat) (v : Bool) : List Byte := patch b 15 (leBytes 1 (setBits (u b 15 1) k 1 (if v then 1 else 0)))

/-- Set a flag of FLAGS_B. -/
def setFlagB (b : List Byte) (k : Nat) (v : Bool) : List Byte := patch b 16 (leBytes 2 (setBits (u b 16 2) k 1 (if v then 1 else 0)))

/-- Record states by name (Table 8.3). -/
abbrev tkFREE : Nat := 0
abbrev tkTENTATIVE : Nat := 1
abbrev tkCONFIRMED : Nat := 2
abbrev tkCOASTING : Nat := 3
abbrev tkFALLOW : Nat := 4
abbrev tkRETIRING : Nat := 5

/-- Tracks in a state other than FREE, ascending: those whose LSTATE byte is listed in memory. -/
def State.tracks (s : State) : List Nat :=
  let b := s.foldBase
  (s.mem.filter (fun p => decide (b ≤ p.1) && decide (p.1 < b + 0x10000000) && (p.1 - b) % 256 == 12)).map (fun p => (p.1 - b) / 256)

/-- Tracks in one of some states. -/
def State.tracksIn (s : State) (l : List Nat) : List Nat := s.tracks.filter (fun n => l.contains (tkSt (s.trk n)))

/-- A live track: TENTATIVE, CONFIRMED or COASTING. -/
def State.liveTrk (s : State) (n : Nat) : Bool := let st := tkSt (s.trk n); st == 1 || st == 2 || st == 3

/-- STATE_TIME of a record (R360); the last published instant for a record without one (log entry 22). -/
def State.stateTime (s : State) (n : Nat) : Nat := (SMap.find? s.fld.stateT n).getD (s.tOf (s.csq.pub.getD 0) / nsT)

/-- Set STATE_TIME. -/
def State.setStateTime (s : State) (n t : Nat) : State := { s with fld := { s.fld with stateT := SMap.insert s.fld.stateT n t } }

/-- What the solver writes into a record: X and SRI, rounded into the stored formats (R384, R415), with FLD's SOLVE_ST and SHIFT_AGE. -/
def solvedRec (b : List Byte) (x sri exps : List Int) (status age : Nat) : List Byte :=
  let b := patch b 48 (x.flatMap (fun v => leBytes 4 (ofSigned 32 v)))
  let b := patch b 96 (sri.flatMap (fun v => leBytes 2 (ofSigned 16 v)))
  let b := patch b 206 (exps.flatMap (fun v => leBytes 1 (ofSigned 8 v)))
  patch b 44 (leBytes 1 status ++ leBytes 1 age)

end Sys2Proof.Machine
end

