-- ==== Sys2Proof/Machine/Solver.lean ====
section
/-! DEFINITION. Machine/Solver.lean: what a solver program computes (09_batched_solver.md): the operations of Table 9.4 on a lane's work area,
pivots, iterations, and the shift of R425. A number in the work area is a word with the fraction bits its operation names (R412); an
operation's exact result is a rational, rounded once to a word (R413, R414). -/

namespace Sys2Proof.Machine

/-! ### Shifts (R425) -/

/-- A square matrix product over integers, dimension n, row by row. -/
def matMul (n : Nat) (a b : List Int) : List Int :=
  (List.range (n * n)).map (fun ij => ((List.range n).map (fun k => a.getD (ij / n * n + k) 0 * b.getD (k * n + ij % n) 0)).sum)

/-- phi(dt) times its denominator 2^(49 + 2 frac), for dt in Q8.24 seconds. -/
def phiNum (n frac : Nat) (a : List Int) (dt : Int) : List Int :=
  let aa := matMul n a a
  (List.range (n * n)).map (fun ij =>
    (if ij / n == ij % n then (2 : Int) ^ (49 + 2 * frac) else 0) + dt * a.getD ij 0 * 2 ^ (25 + frac) + dt * dt * aa.getD ij 0)

/-- Position of element (i, j) of a packed upper triangle of dimension n. -/
def triAt (n i j : Nat) : Nat := i * n - i * (i - 1) / 2 + (j - i)

/-- Round and saturate to INT32 (R413, R414): the value, and whether it saturated. -/
def satRound (v : Int) (d : Nat) : Int × Bool :=
  let r := roundAway v d
  (satInt 32 r, decide (satInt 32 r ≠ r))

/-- The smallest exponent with which a row of exact values n_j × 2^e / d rounds into INT16 (R415), and its mantissas. -/
def fitRow (row : List Int) (e : Int) (d : Nat) : Int × List Int :=
  let at' (x : Int) : List Int := row.map (fun v =>
    if x ≤ e then roundAway (v * 2 ^ (e - x).toNat) d else roundAway v (d * 2 ^ (x - e).toNat))
  let x := ((spanInts (-128) 127).find? (fun x => (at' x).all (fun m => decide (-32768 ≤ m) && decide (m ≤ 32767)))).getD 127
  (x, (at' x).map (satInt 16))

/-- Δt in Q8.24 seconds (R425). -/
def dtQ24 (q t : Nat) : Int := roundAway (((q : Int) - t) * 2 ^ 24) 1000000000

/-- The transition of a batch: dimension, fraction bits, matrix, and KAPPA (Table 9.1, R425). -/
structure Shift where
  dim : Nat
  frac : Nat
  a : List Int
  kappa : Nat
  deriving DecidableEq, Repr, Inhabited

/-- The shifted state and factor: numerators of x over 2^(49 + 2 frac), then the rows of the upper triangle of r over 2^(64 + 2 frac). -/
def shiftOf (t : Shift) (dt : Int) (x r : List Int) : List Int × List (List Int) :=
  let n := t.dim
  let phi := phiNum n t.frac t.a dt
  let inv := phiNum n t.frac t.a (-dt)
  ((List.range n).map (fun i => ((List.range n).map (fun j => phi.getD (i * n + j) 0 * x.getD j 0)).sum),
   (List.range n).map (fun i => (List.range (n - i)).map (fun dj =>
     let j := i + dj
     (t.kappa : Int) * ((List.range n).map (fun k => if i ≤ k then r.getD (triAt n i k) 0 * inv.getD (k * n + j) 0 else 0)).sum)))

/-! ### The work area of a lane -/

/-- A lane at work: its work area by word offset, the saturations so far, and the first replaced pivot. -/
structure LaneWork where
  mem : SMap Int := []
  sats : Nat := 0
  pivot : Option Nat := none
  deriving DecidableEq, Repr, Inhabited

/-- The word at an offset. -/
def LaneWork.word (w : LaneWork) (a : Nat) : Int := SMap.get 0 w.mem a

/-- The number at an offset, with `f` fraction bits (R412). -/
def LaneWork.num (w : LaneWork) (f a : Nat) : Rat := (w.word a : Rat) / 2 ^ f

/-- Store a word. -/
def LaneWork.set (w : LaneWork) (a : Nat) (v : Int) : LaneWork := { w with mem := SMap.put 0 w.mem a v }

/-- Store an exact result with `f` fraction bits: rounded to nearest with ties away from zero, and saturated (R413, R414). -/
def LaneWork.out (w : LaneWork) (f a : Nat) (v : Rat) : LaneWork :=
  let (r, sat) := satRound (v.num * 2 ^ f) v.den
  { w.set a r with sats := w.sats + (if sat then 1 else 0) }

/-- Store consecutive words. -/
def LaneWork.load (w : LaneWork) (a : Nat) (vs : List Int) : LaneWork := vs.zipIdx.foldl (fun w (v, k) => w.set (a + k) v) w

/-- Consecutive words from an offset. -/
def LaneWork.take (w : LaneWork) (p : Nat × Nat) : List Int := (List.range p.2).map (fun k => w.word (p.1 + k))

/-- Run a step for each number below `n`, in ascending order. -/
def LaneWork.each (w : LaneWork) (n : Nat) (f : LaneWork → Nat → LaneWork) : LaneWork := (List.range n).foldl f w

/-- An exact sum of `n` terms (R413: no sum an operation forms leaves the 72-bit accumulator). -/
def accum (n : Nat) (f : Nat → Rat) : Rat := ((List.range n).map f).sum

/-! ### Roots, quotients and angles (R413) -/

/-- A square root rounded to `f` fraction bits with ties away from zero, of a number that is not negative. -/
def sqrtTo (f : Nat) (v : Rat) : Rat := (((isqrt (v.num.toNat * 4 ^ (f + 1) / v.den) + 1) / 2 : Nat) : Rat) / 2 ^ f

/-- What an operation gives where the rules state no result: a free value (log entry 11). -/
def openNum (code : Nat) (v : Rat) : Rat := (satInt 32 (Config.solverOpen code v.num v.den) : Rat)

/-- A quotient; free for a zero divisor. -/
def quotOf (code : Nat) (x y : Rat) : Rat := if y = 0 then openNum code x else x / y

/-- Sine or cosine of an angle in radians from a table within 2^-28 of the true value, the error free within that bound (R413). -/
def solverTrig (sine : Bool) (word : Int) (f : Nat) : Rat :=
  let x := word * 2 ^ 62 / 2 ^ f % 28976077832308491370
  let y := if sine then trigSeries 30 (x * x / 2 ^ 62) x 1 else trigSeries 30 (x * x / 2 ^ 62) (2 ^ 62) 0
  ((y + within1 (2 ^ 34 - 1) (Config.solverTrigErr sine word f) : Int) : Rat) / 2 ^ 62

/-- An element-wise function of a word with `f` fraction bits, for a result with `fo`. -/
def solverFn (k : SolverFn) (f fo : Nat) (word : Int) : Rat :=
  let v : Rat := (word : Rat) / 2 ^ f
  match k with
  | .sqrt => if v < 0 then openNum 0x0A v else sqrtTo fo v
  | .rsqrt => if v ≤ 0 then openNum 0x0A v else sqrtTo fo (1 / v)
  | .recip => quotOf 0x0A 1 v
  | .sin => solverTrig true word f
  | .cos => solverTrig false word f

/-! ### Pivots (R417, Table 9.5) -/

/-- Magnitude of an exact number. -/
def magn (v : Rat) : Rat := if v < 0 then -v else v

/-- A number given as a mantissa and an exponent (R411). -/
def scaled (p : Nat × Int) : Rat := if 0 ≤ p.2 then (p.1 : Rat) * 2 ^ p.2.toNat else (p.1 : Rat) / 2 ^ (-p.2).toNat

/-- The pivot of a CHOL: one below τ is replaced by max(d + λ, τ). The pivot, and whether it was replaced. -/
def cholPivot (e : OpEntry) (d : Rat) : Rat × Bool :=
  if d < scaled e.tau then (if d + scaled e.lam < scaled e.tau then scaled e.tau else d + scaled e.lam, true) else (d, false)

/-- The pivot of an LDLT, LU or QR: one whose magnitude is below τ moves by λ away from zero, and to τ if it is still below. -/
def signPivot (e : OpEntry) (d : Rat) : Rat × Bool :=
  let sg : Rat := if d < 0 then -1 else 1
  if magn d < scaled e.tau then
    let x := d + sg * scaled e.lam
    (if magn x < scaled e.tau then sg * scaled e.tau else x, true)
  else (d, false)

/-- The first replaced pivot is noted (R418). -/
def LaneWork.note (w : LaneWork) (k : Nat) (bad : Bool) : LaneWork :=
  if bad && w.pivot.isNone then { w with pivot := some k } else w

/-! ### The operations of Table 9.4 -/

/-- Offset of element (i, j) of a matrix stored row by row. -/
def cell (a width i j : Nat) : Nat := a + i * width + j

/-- CHOL: the lower triangle L of A = L Lᵀ, column by column; the upper triangle is zero. -/
def LaneWork.chol (w : LaneWork) (e : OpEntry) : LaneWork :=
  let n := e.rows
  w.each n (fun w k =>
    let x (w : LaneWork) (i j : Nat) : Rat := w.num e.fout (cell e.dst n i j)
    let (p, bad) := cholPivot e (w.num e.fa (cell e.a n k k) - accum k (fun j => x w k j * x w k j))
    let w := (w.each k (fun w i => w.set (cell e.dst n i k) 0)).note k bad
    let w := w.out e.fout (cell e.dst n k k) (sqrtTo e.fout p)
    w.each (n - (k + 1)) (fun w t =>
      let i := k + 1 + t
      w.out e.fout (cell e.dst n i k) (quotOf e.code (w.num e.fa (cell e.a n i k) - accum k (fun j => x w i j * x w k j)) (x w k k))))

/-- LDLT: L below the diagonal, D on it, of A = L D Lᵀ. -/
def LaneWork.ldlt (w : LaneWork) (e : OpEntry) : LaneWork :=
  let n := e.rows
  w.each n (fun w k =>
    let x (w : LaneWork) (i j : Nat) : Rat := w.num e.fout (cell e.dst n i j)
    let (p, bad) := signPivot e (w.num e.fa (cell e.a n k k) - accum k (fun j => x w k j * x w k j * x w j j))
    let w := (w.each k (fun w i => w.set (cell e.dst n i k) 0)).note k bad
    let w := w.out e.fout (cell e.dst n k k) p
    w.each (n - (k + 1)) (fun w t =>
      let i := k + 1 + t
      w.out e.fout (cell e.dst n i k)
        (quotOf e.code (w.num e.fa (cell e.a n i k) - accum k (fun j => x w i j * x w k j * x w j j)) (x w k k))))

/-- One Householder reflection of QR: column k below its diagonal is cleared, and every later column reflected (log entry 12). -/
def LaneWork.reflect (w : LaneWork) (e : OpEntry) (k : Nat) : LaneWork :=
  let m := e.rows
  let wd := e.cols + e.inner
  let x (i j : Nat) : Rat := w.num e.fout (cell e.dst wd (k + i) j)
  let norm := sqrtTo e.fout (accum (m - k) (fun i => x i k * x i k))
  let r := if x 0 k < 0 then norm else -norm
  let v (i : Nat) : Rat := if i == 0 then x 0 k - r else x i k
  let vv := accum (m - k) (fun i => v i * v i)
  let (p, bad) := signPivot e r
  let w' := (w.note k bad).out e.fout (cell e.dst wd k k) p
  let w' := w'.each (m - (k + 1)) (fun w i => w.set (cell e.dst wd (k + 1 + i) k) 0)
  if vv = 0 then w'
  else w'.each (wd - (k + 1)) (fun w' t =>
    let j := k + 1 + t
    let dot := accum (m - k) (fun i => v i * x i j)
    w'.each (m - k) (fun w' i => w'.out e.fout (cell e.dst wd (k + i) j) (x i j - 2 * v i * dot / vv)))

/-- QR: R of the matrix at `a`, and the same reflections applied to its appended right-hand columns. -/
def LaneWork.qr (w : LaneWork) (e : OpEntry) : LaneWork :=
  let len := e.rows * (e.cols + e.inner)
  let w := w.each len (fun w t => w.out e.fout (e.dst + t) (w.num e.fa (e.a + t)))
  w.each (min e.rows e.cols) (fun w k => w.reflect e k)

/-- LU with partial pivoting, a tie going to the lower row: L below the diagonal and U, packed; the permutation's row numbers at `c`. -/
def LaneWork.lu (w : LaneWork) (e : OpEntry) : LaneWork :=
  let n := e.rows
  let swap (k p i : Nat) : Nat := if i == k then p else if i == p then k else i
  let col (q : LaneWork × List Nat) (k : Nat) : LaneWork × List Nat :=
    let (w, rows) := q
    let x (w : LaneWork) (i j : Nat) : Rat := w.num e.fout (cell e.dst n i j)
    let rest (w : LaneWork) (i m : Nat) : Rat := w.num e.fa (cell e.a n (rows.getD i 0) k) - accum m (fun t => x w i t * x w t k)
    let w := w.each k (fun w i => w.out e.fout (cell e.dst n i k) (rest w i i))
    let p := (List.range (n - k)).foldl (fun b t => if magn (rest w b k) < magn (rest w (k + t) k) then k + t else b) k
    let left := (List.range n).map (fun i => rest w (swap k p i) k)
    let (piv, bad) := signPivot e (left.getD k 0)
    let old := w
    let w := w.each k (fun w j => (w.set (cell e.dst n k j) (old.word (cell e.dst n p j))).set (cell e.dst n p j) (old.word (cell e.dst n k j)))
    let w := (w.note k bad).out e.fout (cell e.dst n k k) piv
    let w := w.each (n - (k + 1)) (fun w t =>
      w.out e.fout (cell e.dst n (k + 1 + t) k) (quotOf e.code (left.getD (k + 1 + t) 0) (x w k k)))
    (w, (List.range n).map (fun i => rows.getD (swap k p i) 0))
  let (w, rows) := (List.range n).foldl col (w, List.range n)
  w.load e.c (rows.map Int.ofNat)

/-- TRSL and TRSU: substitution with a triangular factor at `a`, or its transpose, for the right-hand columns at `b`, from the first row
down or from the last row up. -/
def LaneWork.trs (w : LaneWork) (e : OpEntry) (upper : Bool) : LaneWork :=
  let n := e.rows
  let t (i j : Nat) : Rat := w.num e.fa (if e.transposed then cell e.a n j i else cell e.a n i j)
  w.each e.inner (fun w' c => w'.each n (fun w' k =>
    let i := if upper then n - 1 - k else k
    let x (j : Nat) : Rat := w'.num e.fout (cell e.dst e.inner j c)
    let v := w.num e.fb (cell e.b e.inner i c) - accum k (fun j => let j := if upper then n - 1 - j else j; t i j * x j)
    w'.out e.fout (cell e.dst e.inner i c) (if e.unitDiag then v else quotOf e.code v (t i i))))

/-- MUL: C = A × B or C = Aᵀ × B. -/
def LaneWork.mul (w : LaneWork) (e : OpEntry) : LaneWork :=
  let a (i k : Nat) : Rat := w.num e.fa (if e.transposed then cell e.a e.rows k i else cell e.a e.inner i k)
  w.each (e.rows * e.cols) (fun w' ij =>
    w'.out e.fout (e.dst + ij) (accum e.inner (fun k => a (ij / e.cols) k * w.num e.fb (cell e.b e.cols k (ij % e.cols)))))

/-- ADD: C = A + s × B. -/
def LaneWork.addOp (w : LaneWork) (e : OpEntry) : LaneWork :=
  w.each (e.rows * e.cols) (fun w' t =>
    w'.out e.fout (e.dst + t) (w.num e.fa (e.a + t) + w.num e.fc e.c * w.num e.fb (e.b + t)))

/-- NORM: the squared Euclidean norm of a vector. -/
def LaneWork.norm (w : LaneWork) (e : OpEntry) : LaneWork :=
  w.out e.fout e.dst (accum e.rows (fun t => w.num e.fa (e.a + t) * w.num e.fa (e.a + t)))

/-- FUNC: an element-wise function. -/
def LaneWork.func (w : LaneWork) (e : OpEntry) : LaneWork :=
  w.each e.rows (fun w' t => w'.out e.fout (e.dst + t) (solverFn e.fn e.fa e.fout (w.word (e.a + t))))

/-- SHIFT: the batch's transition over the time at `c` (Q8.24 s), applied to the state at `a` and the factor at `b`; the state goes to
`dst` and the factor after it. -/
def LaneWork.shift (w : LaneWork) (e : OpEntry) (t : Shift) : LaneWork :=
  let n := t.dim
  let r := (List.range n).flatMap (fun i => (List.range (n - i)).map (fun d => w.word (cell e.b n i (i + d))))
  let (xs, rs) := shiftOf t (w.word e.c) (w.take (e.a, n)) r
  let w := w.each n (fun w k => w.out e.fout (e.dst + k) ((xs.getD k 0 : Rat) / 2 ^ (49 + 2 * t.frac + e.fa)))
  w.each (n * n) (fun w ij =>
    let i := ij / n
    let j := ij % n
    if j < i then w.set (e.dst + n + ij) 0
    else w.out e.fb (e.dst + n + ij) (((rs.getD i []).getD (j - i) 0 : Rat) / 2 ^ (64 + 2 * t.frac + e.fb)))

/-- One operation entry (Table 9.4). TEST leaves the work area as it is: `LaneWork.iterate` judges the cost at its `a` and the step norm
at its `b`. -/
def LaneWork.op (w : LaneWork) (t : Shift) (e : OpEntry) : LaneWork :=
  match e.code with
  | 0x01 => w.chol e
  | 0x02 => w.ldlt e
  | 0x03 => w.qr e
  | 0x04 => w.lu e
  | 0x05 => w.trs e false
  | 0x06 => w.trs e true
  | 0x07 => w.mul e
  | 0x08 => w.addOp e
  | 0x09 => w.norm e
  | 0x0A => w.func e
  | 0x0B => w.shift e t
  | _ => w

/-- Entries run in order (R411). -/
def LaneWork.ops (w : LaneWork) (t : Shift) (es : List OpEntry) : LaneWork := es.foldl (fun w e => w.op t e) w

/-! ### Programs -/

abbrev pgIter (p : List Byte) : Bool := u p 0 1 == 1
/-- Problem and result record sizes and previous-solution entry size in bytes. -/
abbrev pgPsize (p : List Byte) : Nat := 64 * u p 4 2
abbrev pgRsize (p : List Byte) : Nat := 64 * u p 6 2
abbrev pgVsize (p : List Byte) : Nat := 64 * u p 8 2
abbrev pgFirst (p : List Byte) : Nat := u p 10 1
abbrev pgStep (p : List Byte) : Int := i p 12 4
abbrev pgConv (p : List Byte) : Int := i p 16 4

/-- The operation entries of a program for a problem's N and M (R410). -/
def progOps (p : List Byte) (n m : Nat) : List OpEntry := (List.range (u p 1 1)).map (fun k => Config.opEntry ((p.drop (32 + 16 * k)).take 16) n m)

/-- How a problem's computation ended. -/
inductive SolveEnd where
  /-- a direct program, or an accepted iteration within CONV_BOUND -/
  | done
  /-- ITER_MAX reached, or a rejected iteration after an accepted one -/
  | notConverged
  /-- the cut-off, after an accepted iteration (R430) -/
  | partialAt
  /-- no accepted iteration -/
  | rejected
  deriving DecidableEq, Repr, Inhabited

/-- Iterations of R423 from number `k` on, at most `left` before ITER_MAX or the cut-off, each judged by the TEST entry against the cost
before it: work area of the result, iterations completed, and how it ended. -/
def LaneWork.iterate (t : Shift) (body : List OpEntry) (test : OpEntry) (p : List Byte) (cut : Bool) : Nat → Nat → LaneWork → LaneWork × Nat × SolveEnd
  | 0, k, w => (w, k - 1, if k == 1 then .rejected else if cut then .partialAt else .notConverged)
  | left + 1, k, w =>
    let x := w.ops t body
    let norm := x.word test.b
    if !(decide (x.word test.a < w.word test.a) && decide (norm ≤ pgStep p)) then
      ({ w with sats := x.sats, pivot := x.pivot }, k, if k == 1 then .rejected else .notConverged)
    else if norm ≤ pgConv p then (x, k, .done)
    else LaneWork.iterate t body test p cut left (k + 1) x

/-- A program on a loaded work area, with ITER_MAX and the iterations completed by the cut-off if it came (R411, R423, R430). -/
def LaneWork.solve (w : LaneWork) (t : Shift) (p : List Byte) (es : List OpEntry) (iterMax : Nat) (cut : Option Nat) : LaneWork × Nat × SolveEnd :=
  if !pgIter p then (w.ops t es, 0, if cut.isSome then .rejected else .done)
  else
    let body := es.drop (pgFirst p)
    let test := ((body.filter (fun e => e.code == 0x0C)).getLast?).getD default
    let n := min iterMax (cut.getD iterMax)
    LaneWork.iterate t body test p (decide (n < iterMax)) n 1 (w.ops t (es.take (pgFirst p)))

/-- X of a track record moved into a program's format (R415). -/
def loadX (w : LaneWork) (l : WorkLayout) (b : List Byte) : LaneWork :=
  w.each 10 (fun w k => w.out l.fx (l.x + k) ((tkX b k : Rat) / 1024))

/-- SRI of a track record moved into a program's format: a full matrix, zero below the diagonal (R415). -/
def loadSri (w : LaneWork) (l : WorkLayout) (b : List Byte) : LaneWork :=
  w.each 100 (fun w ij =>
    let i := ij / 10
    let j := ij % 10
    if j < i then w.set (l.sri + ij) 0
    else
      let m : Int := (tkSri b).getD (triAt 10 i j) 0
      let e : Int := (tkExp b).getD i 0
      w.out l.fsri (l.sri + ij) (if 0 ≤ e then (m : Rat) * 2 ^ e.toNat else (m : Rat) / 2 ^ (-e).toNat))

/-- X and SRI of a work area as a track record holds them: ten words of X rounded into Q22.10 with their saturations, and the rows of
SRI (R415). -/
def storeFold (w : LaneWork) (l : WorkLayout) : List (Int × Bool) × List (Int × List Int) :=
  ((List.range 10).map (fun k => satRound (w.word (l.x + k) * 1024) (2 ^ l.fx)),
   (List.range 10).map (fun i => fitRow ((List.range (10 - i)).map (fun d => w.word (cell l.sri 10 i (i + d)))) 0 (2 ^ l.fsri)))

end Sys2Proof.Machine
end

