-- ==== Sys2Proof/Machine/Bse.lean ====
section
/-! DEFINITION. Machine/Bse.lean: the batched solver engine (09_batched_solver.md): batches, lanes, results, warm starts, shifts and
cut-offs. Machine/Solver.lean says what a solver program computes. -/

namespace Sys2Proof.Machine

abbrev bdProg (b : List Byte) : Nat := u b 0 1
abbrev bdPrio (b : List Byte) : Nat := bits (u b 1 1) 0 2
abbrev bdCtl (b : List Byte) (k : Nat) : Bool := bits (u b 1 1) k 1 == 1
abbrev bdCount (b : List Byte) : Nat := u b 2 2
abbrev bdSigWait (b : List Byte) : Nat := u b 4 2
abbrev bdSigDone (b : List Byte) : Nat := u b 6 2
abbrev bdSrc (b : List Byte) : Nat := u b 8 8
abbrev bdDst (b : List Byte) : Nat := u b 16 8
abbrev bdPrev (b : List Byte) : Nat := u b 24 8
abbrev bdDeadline (b : List Byte) : Nat := u b 32 8
abbrev bdStep (b : List Byte) : Nat := u b 40 4
abbrev bdRes (b : List Byte) : Nat := u b 44 2
abbrev bdTrans (b : List Byte) : Nat := u b 46 2
abbrev bdKappa (b : List Byte) : Nat := u b 48 2
abbrev bdIter (b : List Byte) : Nat := u b 50 1
/-- The batch uses the Fold as its previous-solution store. -/
abbrev bdFold (b : List Byte) : Bool := bdCtl b 4

/-- BSE lies in domain 98 (Table 16.1). -/
def State.bseOn (s : State) : Bool := s.powered 98

/-- A solver program (Table 9.3); empty when the entry is. -/
def State.prog (s : State) (k : Nat) : List Byte := (SMap.find? s.bse.progs k).getD []

/-- The checks of R406. -/
def State.batchOk (s : State) (id : Nat) (b : List Byte) : Bool :=
  let p := s.prog (bdProg b)
  let arr (a n : Nat) : Bool := a % 64 == 0 && decide (a < 2 ^ 48) && inRegion a (max n 1)
  b.length == 64 && bits (u b 1 1) 6 2 == 0 && allZero b 51 13 && !p.isEmpty && 1 ≤ bdCount b && bdCount b ≤ 4096 &&
  arr (bdSrc b) (bdCount b * pgPsize p) && arr (bdDst b) (bdCount b * pgRsize p) &&
  (if bdFold b then bdPrev b == s.foldBase else pgVsize p == 0 || arr (bdPrev b) (pgVsize p)) &&
  (!bdCtl b 3 || (decide (bdTrans b ≤ 63) && 1 ≤ bdKappa b && bdKappa b ≤ 0x8000)) &&
  (if bdDeadline b == 0 then bdRes b == 0 else 1 ≤ bdRes b && bdRes b ≤ 1000) &&
  1 ≤ bdIter b && bdIter b ≤ 64 && (pgIter p || bdIter b == 1) &&
  (!bdCtl b 5 || (decide (bdSigWait b < 1024) && s.sigGranted id (bdSigWait b))) &&
  (bdSigDone b == 0xFFFF || (decide (bdSigDone b < 1024) && s.sigGranted id (bdSigDone b)))

/-- The arrays of a batch are admitted under the submitter's ID (R406). -/
def State.batchAdmits (s : State) (id : Nat) (b : List Byte) : Bool :=
  let p := s.prog (bdProg b)
  s.admits id .read (bdSrc b) (bdCount b * pgPsize p) && s.admits id .write (bdDst b) (bdCount b * pgRsize p) &&
  (bdFold b || pgVsize p == 0 || (s.admits id .read (bdPrev b) (pgVsize p) && s.admits id .write (bdPrev b) (pgVsize p)))

/-- Submit a batch: its status (R406, R407, R439). The tag is the count of accepted batches. -/
def State.submit (s : State) (id : Nat) (b : List Byte) : Nat × State :=
  let ok := s.batchOk id b
  let c := topCode ((if ok then [] else [REFUSED_DESCRIPTOR]) ++ (if 8 ≤ s.bse.batches.length then [REFUSED_STATE] else []) ++
    (if ok && !s.batchAdmits id b then [BUS_ERROR_HURDLE] else []))
  if c == DONE then
    let q := s.bse.accepted
    let x : Batch := { desc := b, id := id, tag := s.bse.nextTag % 256, seq := q, probs := List.replicate (bdCount b) .waiting }
    let s := { s with bse := { s.bse with batches := s.bse.batches ++ [x], accepted := q + 1, nextTag := (s.bse.nextTag + 1) % 256 } }
    (DONE, if bdCtl b 5 then s.waitOn ⟨idBse, bdSigWait b, 1, .batch q⟩ else s)
  else (c, s)

/-- A batch submitted over the BSE command port behind H37 (R405, R573). -/
def State.portSubmit (s : State) (id : Nat) (desc : List Byte) : State :=
  if !s.bseOn then s
  else if !s.admitsReg 37 id .command Reg.BSE_DOORBELL 4 then
    (s.refuseAccess (some 37) id .command Reg.BSE_DOORBELL).emit (.bus id BUS_ERROR_HURDLE [])
  else
    let (c, s) := s.submit id desc
    if c == DONE then s else s.emit (.done 0x0A id c)

/-- BATCH_SUBMIT row (R405). -/
def execBatchSubmit (id : BitVec 10) (desc : List Byte) (s : State) : Host.Outcome State Fault Refusal :=
  .next (s.portSubmit id.toNat desc)

/-- A keyframe, and the smoother solve it submits under EGO's ID (R187, R188). -/
def State.keyframe (s : State) (k : KeyframeObs) : State :=
  if !s.egoRuns || s.egoStatic then s
  else
    let s := match s.ego.kf.head? with
      | some x => s.reach (x.time + s.regN Reg.EGO_KF_DT * msT)
      | none => s
    let s := s.newKeyframe k
    s.portSubmit idEgo s.smootherDesc

/-- EGO_KEYFRAME row (R187). -/
def execEgoKeyframe (k : KeyframeObs) (s : State) : Host.Outcome State Fault Refusal := .next (s.keyframe k)

/-- The staged batch of the host (R439). -/
def State.doBatchDoorbell (s : State) (id : Nat) : State :=
  let tag := s.bse.nextTag
  let (c, s) := s.submit id (s.regBytes (Reg.BSE_BATCH_STAGE 0) 16)
  let s := s.status Reg.BSE_SUBMIT_ST c
  if c == DONE then s.setFld Reg.BSE_SUBMIT_ST 8 8 tag else s

/-- BSE_DOORBELL row: a host write of 1 (R439). -/
def execBseDoorbell (s : State) : Host.Outcome State Fault Refusal :=
  .next (s.hostCmd Reg.BSE_DOORBELL (fun s => s.doBatchDoorbell idHost))

/-! ### Problems -/

/-- The record and the result address of a problem. -/
def State.probAddr (s : State) (x : Batch) (k : Nat) : Nat := bdSrc x.desc + k * pgPsize (s.prog (bdProg x.desc))
def State.resAddr (s : State) (x : Batch) (k : Nat) : Nat := bdDst x.desc + k * pgRsize (s.prog (bdProg x.desc))

/-- The problem header (Table 9.2). -/
def State.probHdr (s : State) (x : Batch) (k : Nat) : List Byte := s.bytesAt (s.probAddr x k) 32

abbrev phSlot (h : List Byte) : Nat := u h 0 4
abbrev phN (h : List Byte) : Nat := u h 4 1
abbrev phM (h : List Byte) : Nat := u h 5 1
abbrev phTime (h : List Byte) : Nat := u h 8 8
abbrev phMeas (h : List Byte) : Nat := u h 16 1

/-- The header keeps Table 9.2 and the program's limits (R408). -/
def State.hdrOk (s : State) (x : Batch) (h : List Byte) : Bool :=
  let p := s.prog (bdProg x.desc)
  decide (phSlot h < 0x100000) && 2 ≤ phN h && phN h ≤ min 32 (u p 2 1) && phM h ≤ min 32 (u p 3 1) && phMeas h ≤ 4 &&
  (bdFold x.desc || phMeas h == 0) && allZero h 17 15

/-- Structure signature: CRC-32C of N, the pattern's mask and the order's permutation (R419). -/
def State.signature (s : State) (h : List Byte) : Nat :=
  (crc32c (leBytes 1 (phN h) ++ fit 128 ((SMap.find? s.bse.patterns (u h 6 1)).getD []) ++ fit 32 ((SMap.find? s.bse.orders (u h 7 1)).getD []))).toNat

/-- A problem has not ended. -/
def ProbSt.open : ProbSt → Bool
  | .ended _ => false
  | _ => true

/-- A problem's slot is held by a running problem, or by an unfinished one of an earlier batch of the same store (R409). -/
def State.slotHeld (s : State) (x : Batch) (k : Nat) : Bool :=
  let slot := phSlot (s.probHdr x k)
  s.bse.batches.any (fun y => bdPrev y.desc == bdPrev x.desc && (List.range y.probs.length).any (fun j =>
    phSlot (s.probHdr y j) == slot && !(y.seq == x.seq && j == k) &&
    (match y.probs.getD j (.ended 0) with
     | .running _ => true
     | .waiting => decide (y.seq < x.seq)
     | .ended _ => false)))

/-- Set a problem's state. -/
def State.setProb (s : State) (q k : Nat) (p : ProbSt) : State :=
  { s with bse := { s.bse with batches := s.bse.batches.map (fun (b : Batch) => if b.seq == q then { b with probs := b.probs.set k p } else b) } }

/-- A lane. -/
def State.lane (s : State) (l : Nat) : Lane := SMap.get {} s.bse.lanes l

/-- Set a lane. -/
def State.setLane (s : State) (l : Nat) (x : Lane) : State := { s with bse := { s.bse with lanes := SMap.put {} s.bse.lanes l x } }

/-- Free the lane that runs a problem. -/
def State.freeLane (s : State) (q k : Nat) : State :=
  { s with bse := { s.bse with lanes := s.bse.lanes.map (fun (l, x) => (l, if x.run == some (q, k) then { x with run := none } else x)) } }

/-- The result header (Table 9.8). -/
def resHdr (status flags age iters pivot sig : Nat) : List Byte :=
  leBytes 1 status ++ leBytes 1 flags ++ leBytes 1 age ++ leBytes 1 iters ++ leBytes 1 pivot ++ leBytes 3 0 ++ leBytes 4 sig ++ leBytes 4 0

/-- A problem ends: its result is written, FLD records the status of a FOLD problem (R384), and SAF hears of a track's result in the Bus
error or Deadline class (Table 13.2). A store refused by a hurdle has no further effect on the problem. -/
def State.endProb (s : State) (x : Batch) (k status : Nat) (result : List Byte) : State :=
  let h := s.probHdr x k
  let n := phSlot h
  let (_, s) := s.busWrite idBse (s.resAddr x k) result
  let s := (s.setProb x.seq k (.ended status)).freeLane x.seq k
  if bdFold x.desc && s.hdrOk x h then
    let s := if s.liveTrk n then s.trkPut n 44 1 status else s
    if 0x20 ≤ status && status < 0x40 then s.raiseTrackDoubt n else s
  else s

/-- A problem that is not run: a result of its header alone (R408, R432, R434). -/
def State.failProb (s : State) (x : Batch) (k status : Nat) : State :=
  s.endProb x k status (resHdr status 0 0 0 0xFF (s.signature (s.probHdr x k)))

/-! ### Shifts (R425, R426) -/

/-- Address of a problem's previous-solution entry (R420). -/
def State.prevAddr (s : State) (x : Batch) (slot : Nat) : Nat := bdPrev x.desc + slot * pgVsize (s.prog (bdProg x.desc))

/-- The previous solution of a problem is usable for a shift (R426). -/
def State.shiftable (s : State) (x : Batch) (h : List Byte) : Bool :=
  let a := s.prevAddr x (phSlot h)
  bdCtl x.desc 3 && (SMap.find? s.bse.trans (bdTrans x.desc)).isSome &&
  (if bdFold x.desc then s.liveTrk (phSlot h)
   else pgVsize (s.prog (bdProg x.desc)) != 0 && s.peek (a + 5) 1 == 1 && s.peek a 4 == s.signature h)

/-- A shift's counters and its doubt at AGE 4 or more: to SAF for a FOLD slot (R425, R431, Table 13.2). -/
def State.shiftDone (s : State) (x : Batch) (slot age sats : Nat) : State :=
  let s := { (s.countSat Reg.BSE_SHIFT_CNT 0 32 1).countSat Reg.BSE_SAT_CNT 0 32 sats with bse := { s.bse with stepShift := true } }
  if 4 ≤ age then
    let s := { s.countSat Reg.BSE_DOUBT_CNT 0 32 1 with bse := { s.bse with stepDoubt := true } }
    if bdFold x.desc then s.raiseTrackDoubt slot else s
  else s

/-- The transition of a batch (Table 9.1). -/
def State.batchShift (s : State) (x : Batch) : Shift :=
  let (dim, frac, a) := (SMap.find? s.bse.trans (bdTrans x.desc)).getD (0, 0, [])
  { dim := dim, frac := frac, a := a, kappa := bdKappa x.desc }

/-- Time of a problem's previous solution (R420). -/
def State.prevTime (s : State) (x : Batch) (slot : Nat) : Nat :=
  if bdFold x.desc then s.stateTime slot else s.peek (s.prevAddr x slot + 8) 8

/-- Words as bytes. -/
def wordBytes (vs : List Int) : List Byte := vs.flatMap (fun v => leBytes 4 (ofSigned 32 v))

/-- Words of memory from an address. -/
def State.wordsAt (s : State) (a n : Nat) : List Int := (List.range n).map (fun j => toSigned 32 (s.peek (a + 4 * j) 4))

/-- A previous-solution entry (Table 9.6) of a program's entry size. -/
def prevEntry (p : List Byte) (sig age time : Nat) (words : List Int) : List Byte :=
  (leBytes 4 sig ++ leBytes 1 age ++ [1, 0, 0] ++ leBytes 8 time ++ wordBytes words).take (pgVsize p)

/-- An abandoned problem: shifted when it can be, otherwise it ends with DEADLINE_ABANDONED (R425, R426, R429). -/
def State.abandon (s : State) (x : Batch) (k : Nat) (mayShift : Bool) : State :=
  let h := s.probHdr x k
  let n := phSlot h
  let sig := s.signature h
  if !(mayShift && s.shiftable x h) then (s.countSat Reg.BSE_ABANDON_CNT 0 32 1).failProb x k DEADLINE_ABANDONED
  else
    let p := s.prog (bdProg x.desc)
    let t := s.batchShift x
    let dt := dtQ24 (phTime h) (s.prevTime x n)
    let dx := 2 ^ (49 + 2 * t.frac)
    let dr := 2 ^ (64 + 2 * t.frac)
    let s := s.countSat Reg.BSE_MEAS_DROP 0 32 (phMeas h)
    let ended (s : State) (age sats : Nat) (words : List Int) : State :=
      let code := topCode [DONE_SHIFTED, if sats == 0 then DONE else DONE_RANGE_SATURATED]
      let out := resHdr code (16 + (if sats == 0 then 0 else 2)) age 0 0xFF sig ++ wordBytes words
      (s.shiftDone x n age sats).endProb x k code (out.take (pgRsize p))
    if bdFold x.desc then
      let b := s.trk n
      let (xn, rn) := shiftOf t dt (tkXs b) (tkSri b)
      let xs := xn.map (fun v => satRound v dx)
      let rows := (List.range rn.length).map (fun i => fitRow (rn.getD i []) ((tkExp b).getD i 0) dr)
      let sats := (xs.filter (·.2)).length
      let age := satAdd 8 (tkAge b) 1
      let code := topCode [DONE_SHIFTED, if sats == 0 then DONE else DONE_RANGE_SATURATED]
      let new := solvedRec b (xs.map (·.1)) (rows.flatMap (·.2)) (rows.map (·.1)) code age
      ended ((s.setTrk n new).setStateTime n (phTime h)) age sats (xs.map (·.1))
    else
      let pa := s.prevAddr x n
      let (xn, rn) := shiftOf t dt (s.wordsAt (pa + 16) t.dim) (s.wordsAt (pa + 16 + 4 * t.dim) (t.dim * (t.dim + 1) / 2))
      let ws := xn.map (fun v => satRound v dx) ++ rn.flatten.map (fun v => satRound v dr)
      let age := satAdd 8 (s.peek (pa + 4) 1) 1
      let words := ws.map (·.1)
      ended (s.busWrite idBse pa (prevEntry p sig age (phTime h) words)).2 age (ws.filter (·.2)).length words

/-! ### Starting and completing problems -/

/-- The instant of a batch's cut-off (R424). -/
def cutoffT (b : List Byte) : Time := bdDeadline b * nsT - bdRes b * usT

/-- The cut-off of a batch has passed. -/
def State.pastCut (s : State) (x : Batch) : Bool := x.cut || (bdDeadline x.desc != 0 && decide (cutoffT x.desc < s.now))

/-- A lane is in service and free. -/
def State.laneFree (s : State) (l : Nat) : Bool := !s.bit Reg.BSE_LANE_MAP l && (s.lane l).run.isNone

/-- The next eligible problem: highest PRIO, then the batch accepted first, then the lowest index (R407, R409). -/
def State.nextProb (s : State) : Option (Batch × Nat) :=
  let ready := s.bse.batches.filter (fun x => !bdCtl x.desc 5 || x.go)
  let order := sortBy (fun (a b : Batch) => decide (bdPrio b.desc < bdPrio a.desc) || (bdPrio b.desc == bdPrio a.desc && decide (a.seq ≤ b.seq))) ready
  (order.flatMap (fun x => (List.range x.probs.length).filterMap (fun k =>
    if x.probs.getD k (.ended 0) == .waiting && !s.slotHeld x k then some (x, k) else none))).head?

/-- A free lane takes the next problem: refused by its header, failed by its input, abandoned past the cut-off, or run (R407, R408, R427, R434). -/
def State.problemStart (s : State) (l : Nat) : State :=
  if !s.bseOn || !s.laneFree l then s
  else
    match s.nextProb with
    | none => s
    | some (x, k) =>
      match s.checkRead idBse (s.probAddr x k) (pgPsize (s.prog (bdProg x.desc))) 0 with
      | (false, s) => s.failProb x k BUS_ERROR_UNCORRECTABLE
      | (true, s) =>
        if !s.hdrOk x (s.probHdr x k) then s.failProb x k REFUSED_DESCRIPTOR
        else if s.pastCut x then s.abandon x k true
        else (s.setProb x.seq k (.running l)).setLane l { s.lane l with run := some (x.seq, k) }

/-- PROBLEM_START row (R407). -/
def execProblemStart (lane : Fin 32) (s : State) : Host.Outcome State Fault Refusal := .next (s.problemStart lane)

/-- An uncorrectable lane mismatch: counted, logged, and the second within 1,000 steps disables the lane (R435). -/
def State.laneFault (s : State) (l : Nat) : State :=
  let x := s.lane l
  let s := (s.countSat Reg.BSE_LANE_FAULT 0 32 1).event 0x0A 2 0x0A01 0 [BitVec.ofNat 8 l]
  let again := match x.lastBad with
    | some b => decide (s.stepNo < b + 1000)
    | none => false
  let s := s.setLane l { s.lane l with lastBad := some s.stepNo }
  if again then (s.setBit Reg.BSE_LANE_MAP l true).event 0x0A 3 0x0A02 0 [BitVec.ofNat 8 l] else s

/-- The work area a problem starts from: its payload, the time from its previous solution, X and SRI of a FOLD problem, and a warm start
(R408, R415, R421). -/
def State.loadWork (s : State) (x : Batch) (k : Nat) (l : WorkLayout) (warm : Bool) : LaneWork :=
  let h := s.probHdr x k
  let p := s.prog (bdProg x.desc)
  let pa := s.prevAddr x (phSlot h) + 16
  let w := LaneWork.load {} l.payload (s.wordsAt (s.probAddr x k + 32) (pgPsize p / 4 - 8))
  let w := w.set l.dt (satInt 32 (dtQ24 (phTime h) (s.prevTime x (phSlot h))))
  if bdFold x.desc then loadSri (loadX w l (s.trk (phSlot h))) l (s.trk (phSlot h))
  else if warm then (w.load l.sol.1 (s.wordsAt pa l.sol.2)).load l.fac.1 (s.wordsAt (pa + 4 * l.sol.2) l.fac.2)
  else w

/-- A warm-start entry is held for a problem, and whether its signature rejects it (R421). -/
def State.warmEntry (s : State) (x : Batch) (k : Nat) : Bool × Bool :=
  let h := s.probHdr x k
  let p := s.prog (bdProg x.desc)
  let pa := s.prevAddr x (phSlot h)
  let held := bdCtl x.desc 2 && pgIter p && !bdFold x.desc && pgVsize p != 0 && s.peek (pa + 5) 1 == 1
  (held, held && s.peek pa 4 != s.signature h)

/-- The run of a problem's program on its loaded work area: the area left, the iterations completed, and how it ended (R411, R423, R430). -/
def State.probRun (s : State) (x : Batch) (k : Nat) (cut : Option Nat) : LaneWork × Nat × SolveEnd :=
  let h := s.probHdr x k
  let p := s.prog (bdProg x.desc)
  let (held, rej) := s.warmEntry x k
  (s.loadWork x k (Config.workLayout p (phN h) (phM h)) (held && !rej)).solve (s.batchShift x) p (progOps p (phN h) (phM h)) (bdIter x.desc) cut

/-- A problem's program runs to its end or to the cut-off: status, entry and result (R411 to R423, R430, R432). -/
def State.solveProb (s : State) (x : Batch) (k : Nat) (cut : Option Nat) (retried : Bool) : State :=
  let h := s.probHdr x k
  let p := s.prog (bdProg x.desc)
  let n := phSlot h
  let sig := s.signature h
  let pa := s.prevAddr x n
  let rej := (s.warmEntry x k).2
  let l := Config.workLayout p (phN h) (phM h)
  let (w, iters, fin) := s.probRun x k cut
  if fin == .rejected then (s.countSat Reg.BSE_SAT_CNT 0 32 w.sats).abandon x k true
  else
    let (xs, rows) := storeFold w l
    let sats := w.sats + (if bdFold x.desc then (xs.filter (·.2)).length else 0)
    let sat := decide (sats ≠ 0)
    let part := fin == .partialAt
    let code := topCode ([DONE] ++ (if w.pivot.isSome then [DONE_REGULARISED] else []) ++ (if part then [DONE_PARTIAL] else []) ++
      (if rej then [DONE_WARM_REJECTED] else []) ++ (if sat then [DONE_RANGE_SATURATED] else []))
    let flags := (if w.pivot.isSome then 1 else 0) + (if sat then 2 else 0) + (if rej then 4 else 0) +
      (if fin == .notConverged then 8 else 0) + (if part then 32 else 0) + (if retried then 64 else 0)
    let s := s.countSat Reg.BSE_SAT_CNT 0 32 sats
    let s := if w.pivot.isSome then s.countSat Reg.BSE_REG_CNT 0 32 1 else s
    let s := if rej then s.countSat Reg.BSE_WARM_REJ 0 32 1 else s
    let s := if part then s.countSat Reg.BSE_PARTIAL_CNT 0 32 1 else s
    let s := if bdFold x.desc then
        (if s.liveTrk n then
          (s.setTrk n (solvedRec (s.trk n) (xs.map (·.1)) (rows.flatMap (·.2)) (rows.map (·.1)) code 0)).setStateTime n (phTime h) else s)
      else if pgVsize p == 0 then s
      else (s.busWrite idBse pa (prevEntry p sig 0 (phTime h) (w.take l.sol ++ w.take l.fac))).2
    let hdr := resHdr code flags 0 iters (w.pivot.getD 0xFF) sig
    s.endProb x k code ((hdr ++ wordBytes (w.take l.out)).take (pgRsize p))

/-- An armed fault strikes the problem that ends on its lane (R436). -/
def State.takeInjection (s : State) (l : Nat) : State :=
  if (s.lane l).inj.isSome then (s.setLane l { s.lane l with inj := none }).countSat Reg.BSE_INJ_CNT 0 32 1 else s

/-- The problem on a lane completes with an outcome (R423, R430, R432, R434 to R436). -/
def State.problemDone (s : State) (l : Nat) (r : ProblemOutcome) : State :=
  if !s.bseOn then s
  else
    match (s.lane l).run with
    | none => s
    | some (q, k) =>
      match s.bse.batches.find? (fun b => b.seq == q) with
      | none => s
      | some x =>
        let injected := (s.lane l).inj.isSome
        let s := s.takeInjection l
        let retried := injected || r.lane == .retried || r.lane == .corrected
        if r.lane == .uncorrectable then (s.laneFault l).abandon x k true
        else if r.badInput then s.failProb x k BUS_ERROR_UNCORRECTABLE
        else if s.pastCut x && r.cut.isNone then s.abandon x k true
        else s.solveProb x k r.cut retried

/-- PROBLEM_DONE row (R432). -/
def execProblemDone (lane : Fin 32) (r : ProblemOutcome) (s : State) : Host.Outcome State Fault Refusal := .next (s.problemDone lane r)

/-- The cut-off of a batch: its unfinished problems are shifted or abandoned in ascending index; at least 32 shifts fit into SHIFT_RES, and
how many more do the manual leaves to the cycle tables (drawn, log entry 6; R424 to R427). -/
def State.batchCutoff (s : State) (tag : Nat) : State :=
  match s.bseOn, s.bse.batches.find? (fun b => b.tag == tag && !b.cut && bdDeadline b.desc != 0) with
  | true, some x =>
    let s := s.reach (cutoffT x.desc)
    let s := { s with bse := { s.bse with batches := s.bse.batches.map (fun (b : Batch) => if b.seq == x.seq then { b with cut := true } else b) } }
    let left := (List.range x.probs.length).filter (fun k => (x.probs.getD k (.ended 0)).open)
    let (v, s) := s.draw
    ((List.range left.length).foldl (fun s j =>
      let k := left.getD j 0
      if s.hdrOk x (s.probHdr x k) then s.abandon x k (decide (j < 32 + v)) else s.failProb x k REFUSED_DESCRIPTOR) s)
  | _, _ => s

/-- BATCH_CUTOFF row (R424). -/
def execBatchCutoff (tag : BitVec 8) (s : State) : Host.Outcome State Fault Refusal := .next (s.batchCutoff tag.toNat)

/-- A batch whose problems have all ended completes: SIG_DONE and BSE_LAST_DONE (R433). -/
def State.batchDone (s : State) (tag : Nat) : State :=
  match s.bseOn, s.bse.batches.find? (fun b => b.tag == tag && b.probs.all (fun p => !p.open)) with
  | true, some x =>
    let code := topCode (x.probs.map (fun p => match p with
      | .ended c => c
      | _ => DONE))
    let s := { s with bse := { s.bse with batches := s.bse.batches.filter (fun b => b.seq != x.seq) } }
    let s := s.setReg Reg.BSE_LAST_DONE (BitVec.ofNat 32 (code + 256 * x.tag + 65536 * (bdStep x.desc % 65536)))
    let s := s.emit (.done 0x0A x.id code)
    if bdSigDone x.desc == 0xFFFF then s else s.raiseSig (bdSigDone x.desc) 1
  | _, _ => s

/-- BATCH_DONE row (R433). -/
def execBatchDone (tag : BitVec 8) (s : State) : Host.Outcome State Fault Refusal := .next (s.batchDone tag.toNat)

/-- A write to BSE_INJECT: with FEAT_ERR_INJECT locked it arms a fault in the named lane (R436). -/
def State.doBseInject (s : State) (w : W32) : State :=
  let kind := fieldOf w 8 2
  if s.feat 9 && (kind == 1 || kind == 2) then s.setLane (fieldOf w 0 5) { s.lane (fieldOf w 0 5) with inj := some kind } else s

/-- BSE_INJECT row: a host write (R436). -/
def execBseInject (w : W32) (s : State) : Host.Outcome State Fault Refusal := .next (s.hostAccess .write Reg.BSE_INJECT (fun s => s.doBseInject w))

/-- A new step: BSE_STATUS shows what the last one saw (Table 9.10). -/
def State.bseStep (s : State) : State :=
  let s := (s.setBit Reg.BSE_STATUS 1 s.bse.stepShift).setBit Reg.BSE_STATUS 2 s.bse.stepDoubt
  { s with bse := { s.bse with stepShift := false, stepDoubt := false } }

/-- BSE_QUEUE, and BSE_STATUS's bits for lanes busy, queue full and a lane disabled (Table 9.10). -/
def State.lanesBusy (s : State) : Nat := (s.bse.lanes.filter (fun p => p.2.run.isSome)).length
def State.bseQueue (s : State) : Nat := s.bse.batches.length + 256 * s.lanesBusy
def State.bseStatus (s : State) : Nat :=
  bits (s.regN Reg.BSE_STATUS) 1 2 * 2 + (if s.lanesBusy == 0 then 0 else 1) + (if 8 ≤ s.bse.batches.length then 8 else 0) +
  (if s.regN Reg.BSE_LANE_MAP == 0 then 0 else 16)

end Sys2Proof.Machine
end

