-- ==== Sys2Proof/Machine/Assoc.lean ====
section
/-! DEFINITION. Machine/Assoc.lean: pair costs, components, the greedy pass and the forward auction (R375 to R383). -/

namespace Sys2Proof.Machine

/-! ### Costs (R375) -/

/-- Cosine of two INT8 embeddings, exact and rounded to Q1.15; +1 saturates (R375; DEDUCED: ties away from zero, log entry 20). -/
def cosQ15 (a b : List Int) : Int :=
  let dot := (List.zipWith (· * ·) a b).sum
  let p := (a.map (fun x => x * x)).sum * (b.map (fun x => x * x)).sum
  if p == 0 then Config.zeroCos a b
  else
    let q : Int := ((isqrt ((65536 * dot.natAbs) ^ 2 / p.natAbs) + 1) / 2 : Nat)
    satInt 16 (if 0 ≤ dot then q else -q)

/-- c = min(65535, round(256 (W_MAH d² + W_EMB e))), d² in Q16.16, e in Q1.15, weights in Q8.8 (R375). -/
def pairCost (wMah d2 wEmb e : Nat) : Nat := min 65535 (roundAway ((wMah * d2 + 2 * wEmb * e : Nat) : Int) 65536).toNat

/-- A gated pair of a batch: the detection's index in the batch, the Fold slot, the cost. -/
structure GPair where
  det : Nat
  slot : Nat
  cost : Nat
  deriving DecidableEq, Repr, Inhabited

/-- Lexicographic order of three numbers. -/
def lex3 (a b c x y z : Nat) : Bool := decide (a < x) || (a == x && (decide (b < y) || (b == y && decide (c ≤ z))))

/-! ### Components (R378) -/

/-- Add a pair to groups, joining those it touches. -/
def joinPair (gs : List (List GPair)) (p : GPair) : List (List GPair) :=
  let (hit, rest) := gs.partition (fun g => g.any (fun q => q.det == p.det || q.slot == p.slot))
  (p :: hit.flatten) :: rest

/-- Connected components of gated pairs, by lowest detection. -/
def components (ps : List GPair) : List (List GPair) :=
  let low (g : List GPair) : Nat := (g.map (·.det)).foldl min 0xFFFFFFFF
  sortBy (fun (a b : List GPair) => decide (low a ≤ low b)) (ps.foldl joinPair [])

/-- Distinct detections and tracks of a component. -/
def detsOf (g : List GPair) : List Nat := sortBy (fun (a b : Nat) => decide (a ≤ b)) ((g.map (·.det)).eraseDups)
def slotsOfPairs (g : List GPair) : List Nat := sortBy (fun (a b : Nat) => decide (a ≤ b)) ((g.map (·.slot)).eraseDups)

/-- The pair a large component loses next: highest cost, then the higher Fold slot, then the higher detection. -/
def worstPair (g : List GPair) : Option GPair :=
  (sortBy (fun (a b : GPair) => lex3 b.cost b.slot b.det a.cost a.slot a.det) g).head?

/-- Components within 1,024 tracks and detections, and the number of pairs cut (R378). -/
def cutComps : Nat → List (List GPair) → List (List GPair) × Nat
  | 0, l => (l, 0)
  | _, [] => ([], 0)
  | fuel + 1, g :: l =>
    if (detsOf g).length ≤ 1024 && (slotsOfPairs g).length ≤ 1024 then
      let (r, n) := cutComps fuel l
      (g :: r, n)
    else
      match worstPair g with
      | none => cutComps fuel l
      | some w =>
        let (r, n) := cutComps fuel (components (g.erase w) ++ l)
        (r, n + 1)

/-! ### Greedy pass and auction (R379 to R383) -/

/-- The greedy assignment: ascending cost, then the lower detection, then the lower slot (R379). -/
def greedy (g : List GPair) : List GPair :=
  (sortBy (fun (a b : GPair) => lex3 a.cost a.det a.slot b.cost b.det b.slot) g).foldl (fun acc p =>
    if acc.any (fun q => q.det == p.det || q.slot == p.slot) then acc else acc ++ [p]) []

/-- Benefit of a pair (R379). -/
def benefit (cNew : Nat) (p : GPair) : Int := ((cNew : Int) - p.cost) * 1025

/-- Total benefit of an assignment. -/
def totalBenefit (cNew : Nat) (l : List GPair) : Int := (l.map (benefit cNew)).sum

/-- Key of the private unassigned object of a detection, beside the Fold slots. -/
def priv (d : Nat) : Nat := 0x100000 + d

/-- What an auction holds: prices and owners by object. -/
structure Auct where
  price : SMap Int := []
  owner : SMap Nat := []
  deriving DecidableEq, Repr, Inhabited

/-- The bid of a detection: its object and price; ties of the best go to the lower Fold slot, a track before the private object (R380). -/
def bidOf (cNew : Nat) (g : List GPair) (eps : Int) (a : Auct) (d : Nat) : Nat × Int :=
  let cands : List (Nat × Int) := (sortBy (fun (x y : GPair) => decide (x.slot ≤ y.slot)) (g.filter (fun p => p.det == d))).map
      (fun p => (p.slot, benefit cNew p - SMap.get 0 a.price p.slot)) ++ [(priv d, -(SMap.get 0 a.price (priv d)))]
  let best := cands.foldl (fun (b : Nat × Int) c => if b.2 < c.2 then c else b) (cands.headD (priv d, 0))
  let rest := (cands.filter (fun c => c.1 != best.1)).map (·.2)
  let second := rest.foldl max (rest.headD best.2)
  (best.1, SMap.get 0 a.price best.1 + best.2 - second + eps)

/-- One round: every unassigned detection bids; the highest bid for an object wins it, with ties to the lower detection (R380). -/
def auctRound (cNew : Nat) (g : List GPair) (eps : Int) (free : List Nat) (a : Auct) : Auct :=
  let bids : SMap (Int × Nat) := free.foldl (fun m d =>
    let (o, v) := bidOf cNew g eps a d
    match SMap.find? m o with
    | some (w, _) => if w < v then SMap.insert m o (v, d) else m
    | none => SMap.insert m o (v, d)) []
  bids.foldl (fun a (b : Nat × Int × Nat) => { price := SMap.insert a.price b.1 b.2.1, owner := SMap.insert a.owner b.1 b.2.2 }) a

/-- One phase, from every bidder unassigned, keeping the prices (R380). -/
def auctPhase (cNew : Nat) (g : List GPair) (dets : List Nat) (eps : Int) : Nat → Auct → Auct
  | 0, a => a
  | fuel + 1, a =>
    let free := dets.filter (fun d => !a.owner.any (fun o => o.2 == d))
    if free.isEmpty then a else auctPhase cNew g dets eps fuel (auctRound cNew g eps free a)

/-- Rounds beyond any a phase can take. -/
abbrev auctFuel : Nat := 2 ^ 64

/-- The pairs an auction assigned. -/
def auctPairs (g : List GPair) (a : Auct) : List GPair := g.filter (fun p => SMap.find? a.owner p.slot == some p.det)

/-- The phases of a component with ε from `eps` down to 1, within a budget of phases: last completed assignment with its ε, prices, and
phases left. -/
def auctRun (cNew : Nat) (g : List GPair) (dets : List Nat) (theta : Nat) :
    Nat → Nat → Nat → SMap Int → Option (List GPair × Nat) → Option (List GPair × Nat) × SMap Int × Nat
  | 0, _, budget, price, last => (last, price, budget)
  | _, _, 0, price, last => (last, price, 0)
  | fuel + 1, eps, budget + 1, price, _ =>
    let a := auctPhase cNew g dets eps auctFuel { price := price }
    let r := some (auctPairs g a, eps)
    if eps == 1 then (r, a.price, budget) else auctRun cNew g dets theta fuel (max 1 (eps / theta)) budget a.price r

/-- An assignment of the largest total benefit: a phase with ε = 1 from prices 0 (R381). -/
def optimum (cNew : Nat) (g : List GPair) (dets : List Nat) : List GPair := auctPairs g (auctPhase cNew g dets 1 auctFuel {})

/-- What a component comes to. -/
structure CompResult where
  pairs : List GPair
  partial' : Bool
  prices : SMap Int
  budget : Nat
  deriving DecidableEq, Repr, Inhabited

/-- Associate one component (R379 to R383). A completed phase that its kept prices leave further than n x ε below the optimum counts as
giving the optimum, as R381 states (DEDUCED, log entry 20). -/
def associate (cNew epsDiv theta shift budget : Nat) (warm : SMap Int) (g : List GPair) : CompResult :=
  let dets := detsOf g
  let slots := slotsOfPairs g
  let bmax := ((g.map (benefit cNew)).foldl max 0).toNat
  let e0 := max 1 (if epsDiv == 0 then Config.epsZero bmax else bmax / epsDiv)
  let e0 := if slots.length ≤ 2 * warm.length then max 1 (e0 / 2 ^ shift) else e0
  let (last, price, left) := auctRun cNew g dets theta 64 e0 budget warm none
  let out := slots.map (fun n => (n, satInt 32 (SMap.get 0 price n)))
  let grd := greedy g
  match last with
  | none => ⟨grd, true, out, left⟩
  | some (ps, eps) =>
    let opt := optimum cNew g dets
    let ps := if totalBenefit cNew ps < totalBenefit cNew opt - (dets.length * eps : Nat) then opt else ps
    ⟨if totalBenefit cNew grd ≤ totalBenefit cNew ps then ps else grd, eps != 1, out, left⟩

end Sys2Proof.Machine
end

