-- ==== Sys2Proof/Machine/Fold.lean ====
section
/-! DEFINITION. Machine/Fold.lean: the Fold: life cycle, association, births, re-identification, contradictions, credibility and publication
filters (08_fold_association.md). What CSQ and SAF do with them is in Cadence.lean and Safety.lean. -/

namespace Sys2Proof.Machine

/-! ### Times and parameters -/

/-- T_(i-1) of the step in hand. -/
def State.tPrev (s : State) : Time := s.tOf s.csq.cur.i - s.cadence

abbrev State.confMs (s : State) : Nat := s.fld' Reg.FLD_LIFE0 0 16
abbrev State.confM (s : State) : Nat := s.fld' Reg.FLD_LIFE0 16 8
abbrev State.confExist (s : State) : Nat := s.fld' Reg.FLD_LIFE0 24 8
abbrev State.coastMs (s : State) : Nat := s.fld' Reg.FLD_LIFE1 0 16
abbrev State.fallowMs (s : State) : Nat := s.fld' Reg.FLD_LIFE1 16 16
abbrev State.fallowMax (s : State) : Nat := s.fld' Reg.FLD_LIFE2 0 16
abbrev State.dropExist (s : State) : Nat := s.fld' Reg.FLD_LIFE2 16 8
abbrev State.birthExist (s : State) : Nat := s.fld' Reg.FLD_LIFE2 24 8

/-- A millisecond and a second in NS64. -/
abbrev msN : Nat := 1000000
abbrev sN : Nat := 1000000000

/-! ### Frames (R360, R460) -/

/-- Lists are in the site frame: a static device, or a drove (R360). -/
def State.siteFrame (s : State) : Bool := s.egoStatic || s.slkConfig == 2

/-- Wrap an angle in µrad into (-π, +π] (R460). -/
def wrapAngle (v : Int) : Int := if 3141592 < v then v - 6283185 else if v < -3141592 then v + 6283185 else v

/-- A track's ten numbers in the frame of the list, Q22.10 and µrad: Rᵀ (p - P), Rᵀ v and Rᵀ a, with the ego pose R, P of the step (R460). -/
def State.vehNums (s : State) (b : List Byte) : List Int :=
  if s.siteFrame then tkXs b
  else
    let e (k : Nat) : Int := i s.ego.record (8 + 4 * k) 4
    let r := (eulerQuat (e 6, e 7, e 8)).mat
    let p := applyInv (r ++ [e 0 * 1024, e 1 * 1024, e 2 * 1024]) (tkX b 0, tkX b 1, tkX b 2)
    let v := applyInv (r ++ [0, 0, 0]) (tkX b 3, tkX b 4, tkX b 5)
    let a := applyInv (r ++ [0, 0, 0]) (tkX b 6, tkX b 7, 0)
    [p.1, p.2.1, p.2.2, v.1, v.2.1, v.2.2, a.1, a.2.1, wrapAngle (tkX b 8 - e 8), tkX b 9]

/-- The track lies in FLD's region: the grid of R173, or a pasture of the drove (Table 8.4; a track in another device's pasture is handed over,
R626; log entry 21). -/
def State.inRegionOf (s : State) (b : List Byte) : Bool :=
  let v := s.vehNums b
  let x := v.getD 0 0
  let y := v.getD 1 0
  if s.inDrove then s.slk.pastures.any (fun p => p.holds x y)
  else
    let cell : Int := s.regN Reg.PAE_GRID_CELL
    let x0 := s.regI Reg.PAE_GRID_XMIN
    let y0 := s.regI Reg.PAE_GRID_YMIN
    decide (x0 * 1024 ≤ x) && decide (x < (x0 + cell * s.fld' Reg.PAE_GRID_SIZE 0 12) * 1024) &&
    decide (y0 * 1024 ≤ y) && decide (y < (y0 + cell * s.fld' Reg.PAE_GRID_SIZE 16 12) * 1024)

/-! ### Life cycle (Table 8.4) -/

/-- A sequence command of FLD on TAC's command port (R573). -/
def State.fldCmd (s : State) (op : State → Nat × State) : Nat × State :=
  if s.admitsReg 37 idFld .command Reg.TAC_CMD_SEQ 4 then op s
  else (BUS_ERROR_HURDLE, s.refuseAccess (some 37) idFld .command Reg.TAC_CMD_SEQ)

/-- Set LSTATE. -/
def State.setLstate (s : State) (n st : Nat) : State :=
  { s.trkPut n 12 1 st with fld := { s.fld with entered := SMap.insert s.fld.entered n s.ns } }

/-- A track enters RETIRING with RETIRED_PUB as given. -/
def State.retire (s : State) (n : Nat) (pub : Bool) : State :=
  let s := s.setLstate n tkRETIRING
  s.setTrk n (setFlagB (s.trk n) 0 pub)

/-- A track enters FALLOW: the FALLOW command. -/
def State.toFallow (s : State) (n : Nat) : State := ((s.fldCmd (fun s => s.doFallow n)).2).setLstate n tkFALLOW

/-- CONF_MS has passed since BIRTH, or a track without measurement for a time in ms, at NS64 `now`. -/
def confOver (s : State) (b : List Byte) (now : Nat) : Bool := decide (tkBirth b + s.confMs * msN ≤ now)
def quiet (b : List Byte) (ms now : Nat) : Bool := decide (tkLastTime b + ms * msN ≤ now)

/-- The confirmation of a TENTATIVE track (Table 8.4; judged at C_i on LAST_TIME, log entry 21). -/
def confirms (s : State) (b : List Byte) : Bool :=
  s.confM ≤ tkHits b && tkLastTime b ≤ tkBirth b + s.confMs * msN && s.confExist ≤ tkExist b

/-- The transitions of Table 8.4 that C_i applies to one track (R367). -/
def State.timeTrans (s : State) (n : Nat) : State :=
  let b := s.trk n
  let low := decide (tkExist b < s.dropExist)
  match tkSt b with
  | 1 => if confirms s b then s.setLstate n tkCONFIRMED
         else if confOver s b s.ns || low then s.retire n false else s
  | 2 => if !s.inRegionOf b then s.retire n true
         else if quiet b s.fallowMs s.ns || low then s.toFallow n
         else if quiet b s.coastMs s.ns then s.setLstate n tkCOASTING else s
  | 3 => if !s.inRegionOf b then s.retire n true
         else if quiet b s.fallowMs s.ns || low then s.toFallow n else s
  | 4 => if SMap.get 0 s.fld.entered n + s.fallowMax * sN ≤ s.ns then s.retire n false else s
  | _ => s

/-- Event 0x1005, at most one per step (Table 14.10). -/
def State.handEvent (s : State) (gid : Nat) : State :=
  if s.slk.handLog == some s.stepNo then s
  else { s with slk := { s.slk with handLog := some s.stepNo } }.event 0x10 1 0x1005 0 (leBytes 8 gid)

/-- The hand-over of a track is aborted: HAND_ABORT, counted, event 0x1005 (R628, R629). -/
def State.abortHand (s : State) (n : Nat) : State :=
  match s.slk.handing.find? (fun h => h.slot == n) with
  | none => s
  | some h =>
    let s := { s with slk := { s.slk with handing := s.slk.handing.filter (fun h => h.slot != n) } }
    let s := (s.sendDev h.dev 0x24 s.stepNo (leBytes 8 h.gid)).countSat Reg.SLK_HAND_FAIL 0 32 1
    let s := if tkSt (s.trk n) == 0 then s else s.setTrk n (setFlagA (s.trk n) 7 false)
    s.handEvent h.gid

/-- A KILL at C_i (Table 8.4, R629): its status. -/
def State.killNow (s : State) (n : Nat) : Nat × State :=
  let s := s.abortHand n
  let b := s.trk n
  if tkSt b == tkFREE then (REFUSED_STATE, s)
  else if tkSt b == tkRETIRING then (DONE, s)
  else (DONE, s.retire n (tkFlagB b 1))

/-- Change every contradiction counter: pair (a, b) and its value (R393). -/
def State.mapCp (s : State) (f : Nat → Nat → Nat → Nat) : State :=
  { s with regs := s.regs.filterMap (fun (p : Nat × W32) =>
      if Reg.FLD_CP 0 ≤ p.1 && p.1 < Reg.FLD_CP 32768 then
        let k := (p.1 - Reg.FLD_CP 0) / 2
        let v := f (k / 256) (k % 256) (fieldOf p.2 0 16) + 65536 * f ((k + 1) / 256) ((k + 1) % 256) (fieldOf p.2 16 16)
        if v == 0 then none else some (p.1, BitVec.ofNat 32 v)
      else some p) }

/-- The contradiction counters that are not zero: pair and value. -/
def State.cps (s : State) : List ((Nat × Nat) × Nat) :=
  (s.regs.filter (fun (p : Nat × W32) => Reg.FLD_CP 0 ≤ p.1 && p.1 < Reg.FLD_CP 32768)).flatMap (fun (p : Nat × W32) =>
    let k := (p.1 - Reg.FLD_CP 0) / 2
    [((k / 256, k % 256), fieldOf p.2 0 16), (((k + 1) / 256, (k + 1) % 256), fieldOf p.2 16 16)].filter (fun c => c.2 != 0))

/-- A pair's counter. -/
def State.cp (s : State) (a b : Nat) : Nat := s.fld' (Reg.FLD_CP ((256 * a + b) / 2)) (16 * ((256 * a + b) % 2)) 16

/-- The track commands received since the last cut-off (R367, R403). -/
def State.trackCmds (s : State) : State :=
  s.fld.cmds.foldl (fun s c =>
    let (st, s) := match c with
      | .kill n => s.killNow n
      | .clear x => (DONE, s.mapCp (fun a b v => if a == x || b == x then 0 else v))
    (s.status Reg.FLD_TRACK_CMD_ST st).setBit Reg.FLD_TRACK_CMD_ST 16 false) { s with fld := { s.fld with cmds := [] } }

/-- RECLAIMED notices: a FALLOW track enters RETIRING (R367). -/
def State.takeNotices (s : State) : State :=
  s.tac.notices.foldl (fun s n => if tkSt (s.trk n) == tkFALLOW then s.retire n false else s) { s with tac := { s.tac with notices := [] } }

/-- At the end of the step a RETIRING track becomes FREE: CLOSE, and its slot goes to the end of the free list (R366, R372). -/
def State.freeRetired (s : State) : State :=
  (s.tracksIn [tkRETIRING]).foldl (fun s n =>
    let s := ((s.fldCmd (fun s => s.doClose n)).2).freeTrk n
    { s with fld := { s.fld with freed := s.fld.freed ++ [n], entered := SMap.erase s.fld.entered n, stateT := SMap.erase s.fld.stateT n,
                                 mods := s.fld.mods.filter (fun (p : Nat × Nat) => p.1 / 4 != n) }
             slk := { s.slk with retry := s.slk.retry.filter (fun r => r.1 != n) } }) s

/-! ### Commands -/

/-- A write to FLD_TRACK_CMD (Table 8.8, R403). -/
def State.doTrackCmd (s : State) (w : W32) : State :=
  s.unlessBusy Reg.FLD_TRACK_CMD_ST 16 (fun s =>
    let op := fieldOf w 20 3
    let n := fieldOf w 0 20
    let put (c : TrackCmd) : State := { s.setBit Reg.FLD_TRACK_CMD_ST 16 true with fld := { s.fld with cmds := s.fld.cmds ++ [c] } }
    let c := topCode [if fieldOf w 23 9 != 0 || !(op == 1 || op == 2) then REFUSED_DESCRIPTOR else DONE,
      if op == 1 && tkSt (s.trk n) == tkFREE then REFUSED_STATE else DONE]
    if c != DONE then s.status Reg.FLD_TRACK_CMD_ST c
    else put (if op == 1 then .kill n else .clear (n % 256)))

/-- KILL row: a host write of FLD_TRACK_CMD (R368, R403). -/
def execKill (slot : BitVec 20) (s : State) : Host.Outcome State Fault Refusal :=
  .next (s.hostCmd Reg.FLD_TRACK_CMD (fun s => s.doTrackCmd (BitVec.ofNat 32 (slot.toNat + 2 ^ 20))))

/-- CLEAR_CONTRA row (R403). -/
def execClearContra (slot : BitVec 8) (s : State) : Host.Outcome State Fault Refusal :=
  .next (s.hostCmd Reg.FLD_TRACK_CMD (fun s => s.doTrackCmd (BitVec.ofNat 32 (slot.toNat + 2 ^ 21))))

/-- The first cut-off at or after a time, at which a time-based transition is applied (R367): the present instant when that cut-off has
passed, the time itself while the cycle is stopped. -/
def State.cutAfter (s : State) (t : Time) : Time :=
  let c := s.cOf s.csq.next
  if !s.csq.running || s.cadence == 0 then t
  else if t + s.cadence ≤ c then 0
  else if t ≤ c then c
  else c + (t - c + s.cadence - 1) / s.cadence * s.cadence

/-- A time-based transition of one track at the cut-off that follows its deadline; a KILL that waits for the same cut-off comes first (R366,
R367). -/
def State.trackTimeout (s : State) (n st : Nat) (deadline : State → List Byte → Nat) : State :=
  let b := s.trk n
  if s.fldOn && s.runsStages && tkSt b == st && !s.fld.cmds.contains (.kill n) then
    (s.reach (s.cutAfter (deadline s b * nsT))).timeTrans n
  else s

/-- TRACK_CONFIRM_TIMEOUT row (R366). -/
def execTrackConfirmTimeout (slot : BitVec 20) (s : State) : Host.Outcome State Fault Refusal :=
  .next (s.trackTimeout slot.toNat tkTENTATIVE (fun s b => tkBirth b + s.confMs * msN))

/-- TRACK_COAST_TIMEOUT row (R366). -/
def execTrackCoastTimeout (slot : BitVec 20) (s : State) : Host.Outcome State Fault Refusal :=
  .next (s.trackTimeout slot.toNat tkCONFIRMED (fun s b => tkLastTime b + s.coastMs * msN))

/-- TRACK_FALLOW_TIMEOUT row (R366): from CONFIRMED or COASTING. -/
def execTrackFallowTimeout (slot : BitVec 20) (s : State) : Host.Outcome State Fault Refusal :=
  .next (s.trackTimeout slot.toNat (if tkSt (s.trk slot.toNat) == tkCONFIRMED then tkCONFIRMED else tkCOASTING)
    (fun s b => tkLastTime b + s.fallowMs * msN))

/-- FALLOW_MAX_TIMEOUT row (R366). -/
def execFallowMaxTimeout (slot : BitVec 20) (s : State) : Host.Outcome State Fault Refusal :=
  .next (s.trackTimeout slot.toNat tkFALLOW (fun s _ => SMap.get 0 s.fld.entered slot.toNat + s.fallowMax * sN))

/-- Every CONTRA_DECAY steps each counter falls by 1 (R393). -/
def State.contraDecay (s : State) : State :=
  let d := s.fld' Reg.FLD_CONTRA_CFG 0 16
  if s.fldOn && d != 0 && decide (s.fld.decayAt + d ≤ s.stepNo) then
    { s.mapCp (fun _ _ v => v - 1) with fld := { s.fld with decayAt := s.stepNo } }
  else s

/-- CONTRA_DECAY row (R393). -/
def execContraDecay (s : State) : Host.Outcome State Fault Refusal := .next s.contraDecay

/-! ### Appends (R371, R386) -/

/-- An append of FLD: one beyond APPEND_MAX is counted, and STARVED is set in the record when it finds no page (R312, R371, R386). -/
def State.kvAppend (s : State) (n time sensor : Nat) (late : Bool) : State :=
  if !s.tacOn then s
  else
    let s := if s.seqSt n == 1 && s.appendMax ≤ SMap.get 0 s.tac.appends n then s.countSat Reg.FLD_APPEND_DROP 0 32 1 else s
    let (c, s) := s.doAppend n time sensor late
    let s := if c == DONE_STARVED && s.liveTrk n then s.setTrk n (setFlagA (s.trk n) 1 true) else s
    s.emit (.done 0x08 idFld c)

/-- KV_APPEND row (R312). -/
def execKvAppend (slot : BitVec 20) (time : Nat) (sensor : BitVec 8) (late : Bool) (s : State) : Host.Outcome State Fault Refusal :=
  .next (s.kvAppend slot.toNat time sensor.toNat late)

/-- TRUNCATED is copied from the sequence descriptors each step (R371). -/
def State.copyTruncated (s : State) : State :=
  (s.tracksIn [1, 2, 3]).foldl (fun s n =>
    if tkFlagA (s.trk n) 4 == s.seqFlag n 1 then s else s.setTrk n (setFlagA (s.trk n) 4 (s.seqFlag n 1))) s

/-! ### The measurements of a step (R22, R364, R388 to R391, R395) -/

/-- Keep at most DET_MAX detections of each local slot, dropping the highest DET_NO, and of equal ones the last to come (R364): kept, and the
number dropped. A forwarded detection was limited by the device it came from. -/
def State.limitDets (s : State) (l : List Det) : List Det × Nat :=
  let all := l.zipIdx
  let before (x y : Det × Nat) : Bool := decide (dtNo x.1.bytes < dtNo y.1.bytes) || (dtNo x.1.bytes == dtNo y.1.bytes && decide (x.2 < y.2))
  let keep (x : Det × Nat) : Bool :=
    x.1.fwd || decide ((all.filter (fun y => !y.1.fwd && dtSlot y.1.bytes == dtSlot x.1.bytes && before y x)).length <
      recDetMax (s.slot (dtSlot x.1.bytes)).record)
  ((all.filter keep).map (·.1), (all.filter (fun x => !keep x)).length)

/-- A measurement is late (R388). -/
def State.isLate (s : State) (x : Det) : Bool := decide (dtTime x.bytes * nsT < s.tPrev)

/-- Count a measurement's lateness (R391). -/
def State.noteLate (s : State) (x : Det) : State :=
  let n := dtSlot x.bytes
  { s with fld := { s.fld with late := SMap.insert s.fld.late n ((s.isLate x :: SMap.get [] s.fld.late n).take 1024) } }

/-- A measurement beyond the retention horizon is dropped, counted, and logged once per slot and step (R389). -/
def State.lateDrop (s : State) (x : Det) : State :=
  let n := dtSlot x.bytes
  let s := s.countSat Reg.FLD_LATE_DROP 0 32 1
  if s.fld.lateLog.contains n then s
  else { s with fld := { s.fld with lateLog := n :: s.fld.lateLog } }.event 0x09 1 0x0902 0 (leBytes 1 n ++ leBytes 8 (dtTime x.bytes))

/-- At C_i the measurements of step i are fixed: ready before C_i, within DET_MAX and the retention horizon (R22, R364, R389). -/
def State.takeDets (s : State) : State :=
  let c := s.cOf s.csq.cur.i
  let mine := s.fld.intake.filter (fun (x : Det) => decide (x.ready < c))
  let (keep, cut) := s.limitDets mine
  let s := { s.countSat Reg.FLD_DET_DROP 0 32 cut with
    fld := { s.fld with intake := s.fld.intake.filter (fun (x : Det) => !decide (x.ready < c)), step := [], lateLog := [] } }
  let old := s.tOf s.csq.cur.i - s.regN Reg.FLD_RETAIN * msT
  keep.foldl (fun s x =>
    let s := s.noteLate x
    if dtTime x.bytes * nsT < old then s.lateDrop x else { s with fld := { s.fld with step := s.fld.step ++ [x] } }) s

/-- After a promotion, the held detections of the steps that no applied delta covered join the step, each at its own time (R389, R614). -/
def State.takeHeld (s : State) : State :=
  let old := s.tOf s.csq.cur.i - s.regN Reg.FLD_RETAIN * msT
  s.slk.heldDets.foldl (fun s p =>
    let s := s.noteLate p.2
    if dtTime p.2.bytes * nsT < old then s.lateDrop p.2 else { s with fld := { s.fld with step := s.fld.step ++ [p.2] } })
    { s with slk := { s.slk with heldDets := [] } }

/-- Late measurements among the last 1,024 of a slot, and its credibility (R391, R395). -/
def State.lateCount (s : State) (n : Nat) : Nat := ((SMap.get [] s.fld.late n).filter (fun b => b)).length
def State.credOf (s : State) (n : Nat) : Nat := SMap.get 255 s.fld.cred n

/-- Credibility of every bound slot moves by one; a slot at 0 is excluded (R395). -/
def State.credStep (s : State) : State :=
  let keep (n : Nat) : Bool := (s.slot n).bound
  let s := { s with fld := { s.fld with late := s.fld.late.filter (fun (p : Nat × List Bool) => keep p.1)
                                        cred := s.fld.cred.filter (fun (p : Nat × Nat) => keep p.1) } }
  s.boundSlots.foldl (fun s n =>
    let bad := decide (s.fld' Reg.FLD_LATE_CFG 0 8 * 1024 < s.lateCount n * 100)
    let c := if bad then s.credOf n - 1 else min 255 (s.credOf n + 1)
    let s := { s with fld := { s.fld with cred := SMap.put 255 s.fld.cred n c } }
    if c == 0 then s.exclude n 3 else s) s

/-- A new step: the flags of the last one go, and MODMASK keeps what came within COAST_MS (Table 8.1). -/
def State.freshFlags (s : State) : State :=
  (s.tracksIn [1, 2, 3, 4]).foldl (fun s n =>
    let b := s.trk n
    let f := bits (u b 15 1) 2 1 * 4 + bits (u b 15 1) 4 1 * 16 + bits (u b 15 1) 7 1 * 128
    let m := ((List.range 4).map (fun k =>
      if bits (u b 43 1) k 1 == 1 && s.ns < (SMap.find? s.fld.mods (4 * n + k)).getD (tkLastTime b) + s.coastMs * msN then 2 ^ k else 0)).sum
    let b' := patch (patch b 15 (leBytes 1 f)) 43 (leBytes 1 m)
    if b' == b then s else s.setTrk n b') s

/-- FLD's part of C_i for step i (R22, R367). -/
def State.fldCutoff (s : State) : State :=
  if !s.fldOn then s
  else if !s.runsStages then
    let s := s.takeDets
    let i := s.csq.cur.i
    { s with slk := { s.slk with heldDets := (s.slk.heldDets ++ s.fld.step.map (fun x => (i, x))).filter (fun (p : Nat × Det) => decide (i < p.1 + 3)) }
             fld := { s.fld with step := [] } }
  else
    let s := s.trackCmds.takeNotices
    let s := s.tracks.foldl (fun s n => s.timeTrans n) s
    let s := s.freshFlags.takeDets.takeHeld.credStep
    { s with fld := { s.fld with pairs := [], unassigned := [], born := [], contest := [], pairHit := [], unresolved := [], lists := []
                                 seen := s.fld.seen.filter (fun (p : Nat × Nat × Nat) => decide (s.csq.cur.i < p.2.2 + 1000)) } }

/-! ### Contradictions (R392 to R397) -/

/-- Cells that a contradicted track's footprint touches and no other PRESENT slot covers are UNRESOLVED (R396). -/
def State.markCells (s : State) (n a b : Nat) : State :=
  let r := s.trk n
  let v := s.vehNums r
  let q (k : Nat) : Int := roundAway (v.getD k 0) 1024
  let shape := [q 0, q 1, v.getD 8 0, (u r 88 2 : Nat), (u r 90 2 : Nat)]
  let cells := (s.csq.coverage.filter (fun (c : Nat × (Int × Int × Int × Int) × List Nat) =>
    Config.touches shape c.2.1 && !c.2.2.any (fun x => x != a && x != b && (s.slot x).st == .present))).map (·.1)
  { s with fld := { s.fld with unresolved := s.fld.unresolved ++ cells.filter (fun c => !s.fld.unresolved.contains c) } }

/-- A contradiction of a detection applied to a track (R392, R393, R396). -/
def State.contradict (s : State) (n : Nat) (d : List Byte) : State :=
  let a := dtSlot d
  let b := dtPassSlot d
  if !(s.bit Reg.FLD_CTRL 2 && s.fld' Reg.FLD_CONTRA 0 8 ≤ dtExist d && s.fld' Reg.FLD_CONTRA 8 8 ≤ dtPass d) then s
  else
    let s := if tkFlagA (s.trk n) 0 then s else (s.setTrk n (setFlagA (s.trk n) 0 true)).countSat Reg.FLD_CONTESTED 0 32 1
    let s := { s with fld := { s.fld with contest := SMap.insert s.fld.contest n (max (SMap.get 0 s.fld.contest n) (dtExist d)) } }
    let s := if s.fld.pairHit.contains (a, b) then s
      else
        let k := 256 * a + b
        { s.countSat (Reg.FLD_CP (k / 2)) (16 * (k % 2)) 16 1 with fld := { s.fld with pairHit := (a, b) :: s.fld.pairHit } }
    s.markCells n a b

/-- Two slots agree: neither counter reaches CONTRA_AGREE, and a common track within the last 1,000 steps (R394). -/
def State.agree (s : State) (b c : Nat) : Bool :=
  let lim := s.fld' Reg.FLD_CONTRA 24 8
  decide (s.cp b c < lim) && decide (s.cp c b < lim) &&
  s.fld.seen.any (fun (x, n, _) => x == b && s.fld.seen.any (fun (y, m, _) => y == c && m == n))

/-- Slots that a slot contradicts (R394). -/
def State.against (s : State) (a : Nat) : List Nat :=
  let lim := s.fld' Reg.FLD_CONTRA 16 8
  (((s.cps.filter (fun c => lim ≤ c.2 && (c.1.1 == a || c.1.2 == a))).map (fun c => if c.1.1 == a then c.1.2 else c.1.1)).filter (· != a)).eraseDups

/-- Contradiction total of a slot (R397). -/
def State.cpTotal (s : State) (a : Nat) : Nat := ((s.cps.filter (fun c => c.1.1 == a || c.1.2 == a)).map (·.2)).sum

/-- Slots that lose credibility are excluded; of two that triggered each other only the one with the higher total (R394, R397). -/
def State.contraExclude (s : State) : State :=
  let slots := ((s.cps.flatMap (fun c => [c.1.1, c.1.2])).eraseDups).filter (fun n => (s.slot n).bound)
  let lost := slots.filter (fun a => let g := s.against a; g.any (fun b => g.any (fun c => decide (b < c) && s.agree b c)))
  let spared (a : Nat) : Bool := lost.any (fun b => (s.against a).contains b &&
    (decide (s.cpTotal a < s.cpTotal b) || (s.cpTotal a == s.cpTotal b && decide (a < b))))
  (sortBy (fun (a b : Nat) => decide (a ≤ b)) (lost.filter (fun a => !spared a))).foldl (fun s a => s.exclude a 2) s

/-! ### Applying measurements (R387) -/

/-- An associated measurement in the record (R366, R387, R388). -/
def State.applyDet (s : State) (n : Nat) (x : Det) : State :=
  let d := x.bytes
  let b := s.trk n
  let k := recKind (s.slot (dtSlot d)).record
  let late := s.isLate x
  let b := if tkSt b == tkCOASTING then patch b 12 (leBytes 1 tkCONFIRMED) else b
  let b := patch b 20 (leBytes 4 (s.csq.cur.i % 2 ^ 32) ++ leBytes 8 (max (tkLastTime b) (dtTime d)))
  let b := patch b 40 (leBytes 2 (satAdd 16 (tkHits b) 1) ++ leBytes 1 (dtSlot d) ++
    leBytes 1 (if 1 ≤ k && k ≤ 4 then setBits (u b 43 1) (k - 1) 1 1 else u b 43 1))
  let b := if late then setFlagA b 3 true else b
  let s := s.setTrk n b
  let s := if late then s.countWrap Reg.FLD_LATE_CNT 0 32 1 else s
  let m := 4 * n + (k - 1)
  let s := { s with fld := { s.fld with
      mods := if 1 ≤ k && k ≤ 4 then SMap.insert s.fld.mods m (max (SMap.get 0 s.fld.mods m) (dtTime d)) else s.fld.mods
      seen := (dtSlot d, tkId b, s.csq.cur.i) :: s.fld.seen.filter (fun p => !(p.1 == dtSlot d && p.2.1 == tkId b)) } }
  s.contradict n d

/-! ### Association (R374 to R383) -/

/-- The class gate (R374). -/
def State.compatible (s : State) (b d : List Byte) : Bool := (s.regN (Reg.FLD_CLASS_COMPAT (tkClass b % 16))).testBit (dtClass d)

/-- Squared horizontal distance of two points. -/
def dist2 (p q : Int × Int) : Int := (p.1 - q.1) * (p.1 - q.1) + (p.2 - q.2) * (p.2 - q.2)

/-- The squared Mahalanobis distance νᵀ S⁻¹ ν of a detection and a track, rounded to Q16.16 (R374). -/
def State.gateDist (s : State) (n : Nat) (d : List Byte) : Nat :=
  let (v, w) := Config.innovation (s.stateTime n) (s.trk n) d
  let q : Rat := ((List.zip v w).map (fun x => x.1 * (List.zipWith (· * ·) x.2 v).sum)).sum
  (roundAway (q.num * 65536) q.den).toNat

/-- Horizontal position of a track at T_(i-1), Q22.10 mm (R374): the record's when its state is of that instant; of a state of another instant
(an ahead prediction to T_i, or a track without a result) the manual names no motion, and it is free (log entry 12). -/
def State.posPrev (s : State) (n : Nat) : Int × Int :=
  let b := s.trk n
  let t := s.tPrev / nsT
  if s.stateTime n == t then (tkX b 0, tkX b 1) else Config.trackPos b (s.stateTime n) t

/-- The cost of a detection and a track that pass the gates (R374, R375). -/
def State.gate (s : State) (x : Det) (n : Nat) : Option Nat :=
  let d := x.bytes
  let b := s.trk n
  let m := dtModel d
  let pre : Int := s.regN (Reg.FLD_GATE_PRE m) * 1024
  let d2 := s.gateDist n d
  let e : Nat := if (dtEmb d).all (· == 0) then 0 else (32768 - cosQ15 (tkEmb b) (dtEmb d)).toNat
  let c := pairCost (s.fld' (Reg.FLD_GATE_W m) 0 16) d2 (s.fld' (Reg.FLD_GATE_W m) 16 16) e
  if (s.isLate x && decide (dtTime d < tkBirth b)) || !s.compatible b d || decide (pre * pre < dist2 (s.posPrev n) (s.detPos d)) ||
     decide (s.regN (Reg.FLD_GATE_MAH m) < d2) || decide (s.fld' (Reg.FLD_GATE_EMB m) 0 16 < e) || decide (s.regN Reg.FLD_C_NEW ≤ c) then none
  else some c

/-- The batches of a slot's detections: a new scan or frame begins where a DET_NO comes again (R377; DEDUCED, log entry 20). -/
def splitBatches (l : List (Nat × Det)) : List (List (Nat × Det)) :=
  l.foldl (fun bs x =>
    match bs.getLast? with
    | some b => if b.any (fun y => dtNo y.2.bytes == dtNo x.2.bytes) then bs ++ [[x]] else bs.dropLast ++ [b ++ [x]]
    | none => [[x]]) []

/-- What the association of a step has come to. -/
structure Assoc' where
  s : State
  budget : Nat
  pairs : List Pair := []
  free : List Nat := []
  npairs : Nat := 0
  comps : Nat := 0
  largest : Nat := 0
  part : Bool := false

/-- Price table entry of a track (R382): the price, when it belongs to the present track. -/
def State.warmPrice (s : State) (n : Nat) : Option Int :=
  let a := s.regN Reg.FLD_PRICE_BASE_LO + 2 ^ 32 * s.fld' Reg.FLD_PRICE_BASE_HI 0 16 + 8 * n
  if s.peek a 4 == tkId (s.trk n) then some (toSigned 32 (s.peek (a + 4) 4)) else none

/-- Write a price back (R382). -/
def State.setPrice (s : State) (n : Nat) (v : Int) : State :=
  let a := s.regN Reg.FLD_PRICE_BASE_LO + 2 ^ 32 * s.fld' Reg.FLD_PRICE_BASE_HI 0 16 + 8 * n
  s.store a (leBytes 4 (tkId (s.trk n)) ++ leBytes 4 (ofSigned 32 v))

/-- Associate one component and take its pairs: index of each detection in `ids` (R379 to R383). -/
def Assoc'.comp (a : Assoc') (ids : List Nat) (g : List GPair) : Assoc' :=
  let s := a.s
  let slots := slotsOfPairs g
  let warm : SMap Int := slots.filterMap (fun n => (s.warmPrice n).map (fun p => (n, p)))
  let r := associate (s.regN Reg.FLD_C_NEW) (s.fld' Reg.FLD_AUCTION 0 8) (s.fld' Reg.FLD_AUCTION 8 4) (s.fld' Reg.FLD_AUCTION 12 4) a.budget warm g
  let s := s.countSat Reg.FLD_WARM_ZEROED 0 32 (slots.length - warm.length)
  let s := r.prices.foldl (fun s p => s.setPrice p.1 p.2) s
  let s := if r.partial' then s.countSat Reg.FLD_PARTIAL_CNT 0 32 1 else s
  { a with s := s, budget := r.budget, pairs := a.pairs ++ r.pairs.map (fun p => ⟨ids.getD p.det 0, p.slot⟩)
           comps := a.comps + 1, largest := max a.largest (detsOf g).length, part := a.part || r.partial' }

/-- Associate one batch (R376 to R378). -/
def Assoc'.batch (a : Assoc') (live : List Nat) (b : List (Nat × Det)) : Assoc' :=
  let b := sortBy (fun (x y : Nat × Det) => decide (dtNo x.2.bytes ≤ dtNo y.2.bytes)) b
  let ids := b.map (·.1)
  let cand := (List.range b.length).map (fun k =>
    sortBy (fun (x y : GPair) => lex3 x.cost x.slot 0 y.cost y.slot 0)
      (live.filterMap (fun n => (a.s.gate (b.getD k default).2 n).map (fun c => (⟨k, n, c⟩ : GPair)))))
  let kept := cand.map (fun l => l.take (a.s.regN Reg.FLD_PAIR_K))
  let ps := kept.flatten
  let (comps, cut) := cutComps (ps.length * ps.length + ps.length + 1) (components ps)
  let s := a.s.countSat Reg.FLD_CUT_CNT 0 32 ((cand.map List.length).sum - ps.length + cut)
  let a := { a with s := s, npairs := a.npairs + ps.length }
  let a := comps.foldl (fun a g => a.comp ids g) a
  let single := (List.range b.length).filter (fun k => !comps.any (fun g => g.any (fun p => p.det == k)))
  { a with comps := a.comps + single.length, largest := if single.isEmpty then a.largest else max a.largest 1
           free := a.free ++ ids.filter (fun j => !a.pairs.any (fun p => p.det == j)) }

/-- Association of the step: every slot's batches in ascending slot order, then the pairs are applied (R377 to R384). -/
def State.associate (s : State) (phases : Nat) : State :=
  let ds := (List.range s.fld.step.length).map (fun k => (k, s.fld.step.getD k default))
  let slots := sortBy (fun (a b : Nat) => decide (a ≤ b)) ((ds.map (fun p => dtSlot p.2.bytes)).eraseDups)
  let live := s.tracksIn [1, 2, 3]
  let a : Assoc' := slots.foldl (fun a n =>
    (splitBatches (ds.filter (fun (p : Nat × Det) => dtSlot p.2.bytes == n))).foldl (fun a b => a.batch live b) a) { s := s, budget := phases }
  let s := (a.s.setReg Reg.FLD_PAIRS (BitVec.ofNat 32 a.npairs)).setReg Reg.FLD_COMPONENTS
    (BitVec.ofNat 32 (min a.comps 65535 + 65536 * min a.largest 2047))
  let s := s.setBit Reg.FLD_STATUS 0 a.part
  let s := a.pairs.foldl (fun s p => s.applyDet p.slot (s.fld.step.getD p.det default)) s
  { s with fld := { s.fld with pairs := a.pairs, unassigned := a.free } }

/-! ### Births and re-identification (R372, R373) -/

/-- A detection matches a FALLOW track: its cosine (R373). -/
def State.reidMatch (s : State) (x : Det) (n : Nat) : Option Int :=
  let d := x.bytes
  let b := s.trk n
  let age : Int := (dtTime d : Int) - s.stateTime n
  let c := cosQ15 (tkEmb b) (dtEmb d)
  let (px, py) := s.detPos d
  let a := dist2 (tkX b 0 * sN + tkX b 3 * age, tkX b 1 * sN + tkX b 4 * age) (px * sN, py * sN)
  let r : Int := s.fld' Reg.FLD_REID 16 16 * 100 * 1024 * sN
  let v := (tkX b 3 * tkX b 3 + tkX b 4 * tkX b 4) * age * age
  let m := a - r * r - v
  if s.birthExist ≤ dtExist d && s.compatible b d && decide (s.fld' Reg.FLD_REID 0 16 ≤ c) && (decide (m ≤ 0) || decide (m * m ≤ 4 * r * r * v)) then
    some c else none

/-- Re-identification: matches in descending cosine, ties to the lower slot and detection; each revived track takes its detection (R373). -/
def State.reidentify (s : State) : State :=
  if !(s.bit Reg.FLD_CTRL 1 && s.feat 13) then s
  else
    let step (n : Nat) : Nat := tkLastStep (s.trk n)
    let tried := (sortBy (fun (a b : Nat) => decide (step b < step a) || (step a == step b && decide (a ≤ b))) (s.tracksIn [tkFALLOW])).take
      (s.regN Reg.FLD_REID_MAX)
    let cand := s.fld.unassigned.flatMap (fun j => tried.filterMap (fun n =>
      let x := s.fld.step.getD j default
      if x.border.isSome && x.border.map (·.1) != some s.devNo then none else (s.reidMatch x n).map (fun c => (c, n, j))))
    let order := sortBy (fun (a b : Int × Nat × Nat) => decide (b.1 < a.1) || (a.1 == b.1 &&
      (decide (a.2.1 < b.2.1) || (a.2.1 == b.2.1 && decide (a.2.2 ≤ b.2.2))))) cand
    let matched := order.foldl (fun (acc : List (Int × Nat × Nat)) m =>
      if acc.any (fun q => q.2.1 == m.2.1 || q.2.2 == m.2.2) then acc else acc ++ [m]) []
    matched.foldl (fun s (_, n, j) =>
      let (c, s) := s.fldCmd (fun s => s.doActivate n)
      if isDone c then
        let s := s.setLstate n tkCONFIRMED
        let s := s.setTrk n (setFlagA (s.trk n) 6 true)
        let s := s.applyDet n (s.fld.step.getD j default)
        { s with fld := { s.fld with unassigned := s.fld.unassigned.filter (· != j), born := s.fld.born ++ [⟨j, n⟩] } }
      else s) s

/-- The Fold slot at the head of the free list (R372). -/
def State.freeHead (s : State) : Option Nat := if s.fld.freeNext < 0x100000 then some s.fld.freeNext else s.fld.freed.head?

/-- Take the head off the free list. -/
def State.takeHead (s : State) : State :=
  if s.fld.freeNext < 0x100000 then { s with fld := { s.fld with freeNext := s.fld.freeNext + 1 } }
  else { s with fld := { s.fld with freed := s.fld.freed.drop 1 } }

/-- Open a Fold slot for a new track in a flock, with the next generation: the slot (R372). -/
def State.openTrack (s : State) (flock : Nat) : Except Nat Nat × State :=
  match s.freeHead with
  | none => (.error REFUSED_FIT, s)
  | some n =>
    let g := (SMap.get 0 s.fld.gens n + 1) % 4096
    let (c, s) := s.fldCmd (fun s => s.doOpen n (g * 2 ^ 20 + n) flock)
    if c == DONE then (.ok n, { s.takeHead with fld := { s.takeHead.fld with gens := SMap.insert s.fld.gens n g } }) else (.error c, s)

/-- The record of a track started by a detection (Table 8.1, R372). Its GLOBAL_ID beside the device number is drawn with bit 57 clear (R580; log
entry 6); the detection counts as its first measurement (DEDUCED, log entry 21). -/
def State.newTrack (s : State) (n flock : Nat) (x : Det) : State :=
  let d := x.bytes
  let (v, s) := s.draw
  let st := Config.birthState d ((s.slot (dtSlot d)).record ++ s.ego.record)
  let gid := (if s.inDrove then s.devNo * 2 ^ 58 else 0) + v % 2 ^ 57
  let b := leBytes 4 (SMap.get 0 s.fld.gens n * 2 ^ 20 + n) ++ leBytes 8 gid ++ leBytes 1 tkTENTATIVE ++ leBytes 1 (dtExist d) ++ leBytes 1 (dtClass d) ++
    leBytes 1 32 ++ leBytes 2 0 ++ leBytes 2 flock ++ leBytes 4 0 ++ leBytes 8 0 ++ leBytes 8 (dtTime d) ++ List.replicate 8 0
  let b := patch (patch (fit 256 b) 88 (dtExtent d)) 216 ((d.drop 96).take 32)
  let b := patch b 48 (((List.range 10).map (fun k => st.getD k 0)).flatMap (fun v => leBytes 4 (ofSigned 32 v)))
  let b := patch b 96 (((List.range 55).map (fun k => st.getD (10 + k) 0)).flatMap (fun v => leBytes 2 (ofSigned 16 v)))
  let b := patch b 206 (((List.range 10).map (fun k => st.getD (65 + k) 0)).flatMap (fun v => leBytes 1 (ofSigned 8 v)))
  let s := s.setTrk n b
  let s := { s with fld := { s.fld with entered := SMap.insert s.fld.entered n s.ns, stateT := SMap.insert s.fld.stateT n (dtTime d) } }
  s.applyDet n x

/-- Births among detections, in descending EXIST, then slot, then DET_NO, up to FLD_BIRTH_MAX (R372): the detections that started a track. -/
def State.births (s : State) (l : List (Nat × Det)) : State :=
  let ok := l.filter (fun (p : Nat × Det) => s.birthExist ≤ dtExist p.2.bytes && bits (u (s.slot (dtSlot p.2.bytes)).record 1 1) 0 1 == 1)
  let key (p : Nat × Det) : Nat := (255 - dtExist p.2.bytes) * 2 ^ 24 + dtSlot p.2.bytes * 2 ^ 16 + dtNo p.2.bytes
  let order := sortBy (fun (a b : Nat × Det) => decide (key a ≤ key b)) ok
  (order.foldl (fun (r : Nat × State) (p : Nat × Det) =>
    let (born, s) := r
    if s.regN Reg.FLD_BIRTH_MAX ≤ born then r
    else
      let flock := recFlock (s.slot (dtSlot p.2.bytes)).record
      match s.openTrack flock with
      | (.ok n, s) =>
        let s := (s.newTrack n flock p.2).countWrap Reg.FLD_BIRTH_CNT 0 32 1
        (born + 1, { s with fld := { s.fld with born := s.fld.born ++ [⟨p.1, n⟩], unassigned := s.fld.unassigned.filter (· != p.1) } })
      | (.error _, s) => (born, (s.countSat Reg.FLD_BIRTH_REFUSED 0 32 1).setBit Reg.FLD_STATUS 2 true)) (0, s)).2

/-- Births of the step: a BORDER copy never starts a track, and a local BORDER detection is held back for a claim (R372, R625). -/
def State.stepBirths (s : State) : State :=
  let l := s.fld.unassigned.map (fun j => (j, s.fld.step.getD j default))
  let held := l.filter (fun (p : Nat × Det) => p.2.border.map (·.1) == some s.devNo)
  let s := { s with slk := { s.slk with borders := s.slk.borders ++ held.map (fun (p : Nat × Det) => (s.csq.cur.i, p.2)) } }
  s.births (l.filter (fun (p : Nat × Det) => p.2.border.isNone))

/-- Claims for BORDER copies that association assigned (R625): origin, SLOT and DET_NO. -/
def State.sendClaims (s : State) : State :=
  s.fld.pairs.foldl (fun s p =>
    let x := s.fld.step.getD p.det default
    match x.border with
    | some (dev, _) =>
      if dev == s.devNo then s
      else s.sendDev dev 0x21 s.csq.cur.i (leBytes 1 dev ++ leBytes 1 (dtSlot x.bytes) ++ leBytes 2 (dtNo x.bytes))
    | none => s) s

/-! ### Solver problems and appends of the step (R384 to R386) -/

/-- The measurements of a track in the step, in ascending TIME, ties to the lower slot and DET_NO (R384). -/
def State.measOf (s : State) (n : Nat) : List Det :=
  let key (x : Det) : Nat := dtTime x.bytes * 2 ^ 24 + dtSlot x.bytes * 2 ^ 16 + dtNo x.bytes
  sortBy (fun (a b : Det) => decide (key a ≤ key b))
    (((s.fld.pairs ++ s.fld.born).filter (fun p => p.slot == n)).map (fun p => s.fld.step.getD p.det default))

/-- The tracks that received detections in the step, ascending. -/
def State.measured (s : State) : List Nat :=
  sortBy (fun (a b : Nat) => decide (a ≤ b)) ((s.fld.pairs ++ s.fld.born).map (·.slot)).eraseDups

/-- A list in runs of at most `k` elements. -/
def runsOf {α : Type} (k : Nat) (l : List α) : List (List α) := (List.range ((l.length + k - 1) / k)).map (fun j => (l.drop (j * k)).take k)

/-- A problem record: the header of Table 9.2 for QTIME `t`, and the payload. -/
def foldProblem (p : FoldPlan) (size n rows meas t : Nat) (payload : List Byte) : List Byte :=
  fit size (leBytes 4 n ++ leBytes 1 10 ++ leBytes 1 rows ++ leBytes 1 p.pattern ++ leBytes 1 p.order ++ leBytes 8 t ++ leBytes 1 meas ++
    List.replicate 15 0 ++ payload)

/-- FLD writes problem records and submits them under its own ID, in batches of at most 4,096; no record makes no batch (R384, R405). -/
def State.foldBatches (s : State) (p : FoldPlan) (recs : List (List Byte)) (deadline step : Nat) : State :=
  let size := pgPsize (s.prog p.prog)
  let out := pgRsize (s.prog p.prog)
  (runsOf 4096 recs).zipIdx.foldl (fun s (l, j) =>
    let src := p.src + j * 4096 * size
    let (_, s) := s.busWrite idFld src l.flatten
    s.portSubmit idFld (fit 64 (leBytes 1 p.prog ++ leBytes 1 (p.prio % 4 + 16 + (if p.shiftEn then 8 else 0)) ++ leBytes 2 l.length ++ leBytes 2 0 ++
      leBytes 2 p.sigDone ++ leBytes 8 src ++ leBytes 8 (p.dst + j * 4096 * out) ++ leBytes 8 s.foldBase ++ leBytes 8 deadline ++
      leBytes 4 step ++ leBytes 2 p.reserve ++ leBytes 2 p.trans ++ leBytes 2 p.kappa ++ leBytes 1 1))) s

/-- FLD hands BSE an update problem for each track with detections of the step, of at most four measurements; more make a further problem of
the same track (Table 9.2; log entry 12). `deadline` is NS64 (R384). -/
def State.issueUpdates (s : State) (deadline : Nat) : State :=
  let p := Config.foldPlan false
  let t := s.tOf s.csq.cur.i / nsT
  let recs := s.measured.flatMap (fun n => (runsOf 4 (s.measOf n)).map (fun l =>
    foldProblem p (pgPsize (s.prog p.prog)) n (l.map (fun x => u x.bytes 16 1)).sum l.length t
      (Config.updatePayload (s.stateTime n) (l.map (·.bytes)) t)))
  s.foldBatches p recs deadline s.step32

/-- Prediction-only problems to the next output instant for every live track, ahead of the measurements of the next step; an update of that
step starts from the state so moved (R385; log entry 12). -/
def State.issuePredictions (s : State) : State :=
  let p := Config.foldPlan true
  let t := s.tOf (s.csq.cur.i + 1) / nsT
  let recs := (s.tracksIn [tkTENTATIVE, tkCONFIRMED, tkCOASTING]).map (fun n => foldProblem p (pgPsize (s.prog p.prog)) n 0 0 t [])
  s.foldBatches { p with reserve := 0 } recs 0 (s.step32 + 1)

/-- FLD asks TAC for the appends of the step's measurements, each track's first APPEND_MAX (R386). -/
def State.issueAppends (s : State) : State :=
  s.measured.foldl (fun s n => ((s.measOf n).take s.appendMax).foldl (fun s x => s.kvAppend n (dtTime x.bytes) (dtSlot x.bytes) (s.isLate x)) s) s

/-- Measurements of a track beyond APPEND_MAX are counted (R386). -/
def State.countAppendDrop (s : State) : State :=
  let slots := ((s.fld.pairs ++ s.fld.born).map (·.slot)).eraseDups
  let excess := (slots.map (fun n => ((s.fld.pairs ++ s.fld.born).filter (fun p => p.slot == n)).length - s.appendMax)).sum
  s.countSat Reg.FLD_APPEND_DROP 0 32 excess

/-- The end of the association window (R372 to R397): association with the auction phases its time allowed, re-identification, births,
exclusions, and FLD_STATUS of the step. FLD_CTRL.EN clear leaves them out (DEDUCED, log entry 21). -/
def State.assocClose (s : State) (phases : Nat) : State :=
  if !s.fldOn then s
  else
    let s := s.setReg Reg.FLD_STATUS 0
    let s := if s.bit Reg.FLD_CTRL 0 then
        (((s.associate phases).sendClaims.reidentify.stepBirths).contraExclude).countAppendDrop
      else s
    (s.setBit Reg.FLD_STATUS 1 (!s.fld.contest.isEmpty)).setBit Reg.FLD_STATUS 3 (!s.fld.unresolved.isEmpty)

/-! ### Decoder results (R369, R370) -/

/-- A decode of a track completed with a Done status: FLD copies the output row (R369). -/
def State.decodeDone (s : State) (n : Nat) (row : List Byte) : State :=
  if !s.liveTrk n then s
  else
    let b := patch (patch (s.trk n) 13 (row.take 2)) 216 ((row.drop 4).take 32)
    let b := patch b 248 ((row.drop 2).take 2)
    s.setTrk n (setFlagA (patch b 46 [0]) 2 false)

/-- A decode was abandoned: DEC_STALE, DEC_MISS, and a doubt from the fourth in a row (R370, Table 13.2). -/
def State.decodeMissed (s : State) (n : Nat) : State :=
  if !s.liveTrk n then s
  else
    let m := satAdd 8 (tkMiss (s.trk n)) 1
    let s := (s.setTrk n (setFlagA (patch (s.trk n) 46 (leBytes 1 m)) 2 true)).countSat Reg.FLD_DEC_MISS_CNT 0 32 1
    if 4 ≤ m then s.raiseTrackDoubt n else s

/-! ### Publication filters (R398 to R401) -/

/-- Published EXIST (R393). -/
def State.pubExist (s : State) (n : Nat) : Nat := max (tkExist (s.trk n)) (SMap.get 0 s.fld.contest n)

/-- A track passes filter f (R398, R399). -/
def State.passes (s : State) (f n : Nat) : Bool :=
  let p := s.regBytes (Reg.FLD_PUB f 0) 8
  let b := s.trk n
  let v := s.vehNums b
  let x := v.getD 0 0
  let y := v.getD 1 0
  let st := tkSt b
  let bit := if st == tkRETIRING then 3 else st - 1
  (1 ≤ st && st ≤ 3 || (st == tkRETIRING && tkFlagB b 0)) && bits (u p 0 1) bit 1 == 1 && u p 1 1 ≤ s.pubExist n && bits (u p 2 2) (tkClass b) 1 == 1 &&
  decide (i p 8 4 * 1024 ≤ x) && decide (x ≤ i p 12 4 * 1024) && decide (i p 16 4 * 1024 ≤ y) && decide (y ≤ i p 20 4 * 1024)

/-- Tracks in ascending horizontal distance from the frame's origin, ties to the lower slot (R400, R459). -/
def State.byDistance (s : State) (l : List Nat) : List Nat :=
  let d (n : Nat) : Int := let v := s.vehNums (s.trk n); v.getD 0 0 * v.getD 0 0 + v.getD 1 0 * v.getD 1 0
  sortBy (fun (a b : Nat) => decide (d a < d b) || (d a == d b && decide (a ≤ b))) l

/-- The three filtered lists of the step, and PUBLISHED (R398 to R401). -/
def State.filterLists (s : State) : State :=
  let all := s.tracksIn [1, 2, 3, 5]
  let passed := (List.range 3).map (fun f => s.byDistance (all.filter (s.passes f)))
  let max' (f : Nat) : Nat := u (s.regBytes (Reg.FLD_PUB f 0) 8) 4 2
  let lists := (List.range 3).map (fun f => let l := passed.getD f []; (l.take (max' f), l.length))
  let cut := (lists.map (fun (l : List Nat × Nat) => l.2 - l.1.length)).sum
  let s := (passed.flatten.eraseDups).foldl (fun s n => if tkFlagB (s.trk n) 1 then s else s.setTrk n (setFlagB (s.trk n) 1 true)) s
  { s.setReg Reg.FLD_PUB_DROP (BitVec.ofNat 32 cut) with fld := { s.fld with lists := lists } }

/-! ### Resume (R361) -/

/-- After an accelerator-domain reset: records whose CRC fails are lost, and the free list is formed again in ascending order (R361; log entry
22). -/
def State.foldResume (s : State) : State :=
  let s := s.tracks.foldl (fun s n =>
    let b := s.trk n
    if (crc32c (b.take 252)).toNat == u b 252 4 then s
    else
      let s := (s.countSat Reg.FLD_CRC_FAIL 0 32 1).event 0x09 2 0x0901 0 (leBytes 4 (tkId b))
      ((s.fldCmd (fun s => s.doClose n)).2).freeTrk n) s
  let live := s.tracks
  let top := live.foldl (fun m n => max m (n + 1)) 0
  { s with fld := { s.fld with freeNext := top, freed := (List.range top).filter (fun n => !live.contains n) } }

/-! ### Register views -/

/-- FLD_CNT_LIVE, FLD_CNT_COAST, FLD_CNT_FALLOW (Table 8.7). -/
def State.cntLive (s : State) : Nat := min 65535 (s.tracksIn [1]).length + 65536 * min 65535 (s.tracksIn [2]).length
def State.cntCoast (s : State) : Nat := min 65535 (s.tracksIn [3]).length
def State.cntFallow (s : State) : Nat := (s.tracksIn [4]).length

/-- FLD_CREDs (R391, R395). -/
def State.credReg (s : State) (n : Nat) : Nat := (if (s.slot n).bound then s.credOf n else 0) + 256 * s.lateCount n

end Sys2Proof.Machine
end

