-- ==== Sys2Proof/Machine/TileMath.lean ====
section
/-! DEFINITION. Machine/TileMath.lean: what the matrix engine, the store path and the fused attention compute (R205 to R214, R335 to R338), to
the bit where the manual fixes the bits. -/

namespace Sys2Proof.Machine

/-! ### FP32 arithmetic (R213): words in, words out, one rounding -/

/-- Exact product. `nn` is the sign of a NaN the operation makes. -/
def numMul (nn : Bool) : Num → Num → Num
  | .fin a m e, .fin b n f => .fin (a != b) (m * n) (e + f)
  | .nan a, _ => .nan a
  | _, .nan b => .nan b
  | .inf a, .inf b => .inf (a != b)
  | .inf a, .fin b n _ => if n == 0 then .nan nn else .inf (a != b)
  | .fin a m _, .inf b => if m == 0 then .nan nn else .inf (a != b)

/-- Exact sum; a sum of zeros is negative only when both are (round to nearest). -/
def numAdd (nn : Bool) : Num → Num → Num
  | .fin a m e, .fin b n f =>
    let q := min e f
    let x : Int := m * 2 ^ (e - q).toNat
    let y : Int := n * 2 ^ (f - q).toNat
    let v := (if a then -x else x) + (if b then -y else y)
    if v == 0 then .fin (a && b) 0 q else .fin (decide (v < 0)) v.natAbs q
  | .nan a, _ => .nan a
  | _, .nan b => .nan b
  | .inf a, .inf b => if a == b then .inf a else .nan nn
  | .inf a, _ => .inf a
  | _, .inf b => .inf b

/-- Round once to FP32, ties to even. -/
def round32 (n : Num) : Nat := (encodeFloat 8 false n).1

/-- FP32 product, sum, and fused multiply-add x × y + z. -/
def fmul (x y : Nat) : Nat := round32 (numMul (Config.nanNeg x y) (decodeNum 8 x) (decodeNum 8 y))
def fadd (x y : Nat) : Nat := round32 (numAdd (Config.nanNeg x y) (decodeNum 8 x) (decodeNum 8 y))
def ffma (x y z : Nat) : Nat :=
  round32 (numAdd (Config.nanNeg x y) (numMul (Config.nanNeg x y) (decodeNum 8 x) (decodeNum 8 y)) (decodeNum 8 z))
/-- FP32 difference. -/
def fsub (x y : Nat) : Nat := fadd x (if bits y 31 1 == 1 then y - 2 ^ 31 else y + 2 ^ 31)

/-- x is greater than y. -/
def fgt (x y : Nat) : Bool :=
  match numAdd false (decodeNum 8 x) (match decodeNum 8 y with
    | .fin a m e => .fin (!a) m e
    | .inf a => .inf (!a)
    | .nan a => .nan a) with
  | .fin a m _ => !a && m != 0
  | .inf a => !a
  | .nan _ => false

/-! ### Special functions (R213) -/

/-- A magnitude m times 2^e cut to an FP32 pattern: subnormal where it must be (R202), infinity beyond the largest. -/
def trunc32 (m : Nat) (e : Int) : Nat :=
  if m == 0 then 0
  else
    let q := max ((m.log2 : Int) + e - 23) (-149)
    min 0x7F800000 ((q + 149) * 2 ^ 23 + (if q ≤ e then m * 2 ^ (e - q).toNat else m / 2 ^ (q - e).toNat : Nat)).toNat

/-- 2^f for f in Q62 from 0 to below 1, Q62: the series of exp(f ln 2). -/
def exp2Frac (f : Int) : Nat :=
  let x := f * 3196577161300663915 / 2 ^ 62
  ((List.range 30).foldl (fun (a : Int × Int) (k : Nat) => (a.1 + a.2, a.2 * x / (2 ^ 62 * (k + 1)))) ((0 : Int), (2 ^ 62 : Int))).1.toNat

/-- exp2 of plus or minus m times 2^e: magnitude and exponent. -/
def exp2Num (neg : Bool) (m : Nat) (e : Int) : Nat × Int :=
  if 8 ≤ e + m.log2 then (1, if neg then -200 else 200)
  else
    let v : Int := if 0 ≤ e + 62 then m * 2 ^ (e + 62).toNat else (m / 2 ^ (-(e + 62)).toNat : Nat)
    let v := if neg then -v else v
    (exp2Frac (v % 2 ^ 62), v / 2 ^ 62 - 62)

/-- log2 of m times 2^e, Q62: 2 / ln 2 times the series of artanh. -/
def log2Num (m : Nat) (e : Int) : Int :=
  let l := m.log2
  let t : Int := ((m - 2 ^ l : Nat) : Int) * 2 ^ 62 / (m + 2 ^ l : Nat)
  let r := (List.range 40).foldl (fun (a : Int × Int) (k : Nat) => (a.1 + a.2 / (2 * k + 1), a.2 * (t * t / 2 ^ 62) / 2 ^ 62)) ((0 : Int), t)
  ((l : Int) + e) * 2 ^ 62 + r.1 * 2 * 6653256548922161246 / 2 ^ 62

/-- A special function of an FP32 word: 0 exp2, 1 log2, 2 reciprocal, 3 reciprocal square root. The exact result cut to FP32, or the next
pattern: both lie within 1 ulp, and which it is, is free (R213, log entry 11). -/
def sfu (k x : Nat) : Nat :=
  let up := Config.sfuErr k x % 2
  match decodeNum 8 x with
  | .fin neg m e =>
    let sgn := if neg then 2 ^ 31 else 0
    match k with
    | 0 => let r := exp2Num neg m e; min 0x7F800000 (trunc32 r.1 r.2 + up)
    | 1 =>
      if neg || m == 0 then (Config.sfuOpen k x).toNat
      else let v := log2Num m e; (if v < 0 then 2 ^ 31 else 0) + trunc32 v.natAbs (-62) + (if v == 0 then 0 else up)
    | 2 => if m == 0 then (Config.sfuOpen k x).toNat else sgn + min 0x7F800000 (trunc32 (2 ^ 60 / m) (-60 - e) + up)
    | _ =>
      if neg || m == 0 then (Config.sfuOpen k x).toNat
      else
        let odd := e % 2
        trunc32 (isqrt (2 ^ 140 / (m * 2 ^ odd.toNat))) (-70 - (e - odd) / 2) + up
  | _ => (Config.sfuOpen k x).toNat

/-- Cosine and sine of a phase in 2^-32 turns as numbers of 30 fraction bits: within 2^-28 of the true value, the error free within that bound
(R336, log entry 11). -/
def turnNum (v e : Int) : Num :=
  let n := roundAway v (2 ^ 32) + e
  .fin (decide (n < 0)) n.natAbs (-30)
def phaseQ62 (p : Nat) : Int := p % 2 ^ 32 * 28976077832308491370 / 2 ^ 32
def cosTurn (p : Nat) : Num :=
  let x := phaseQ62 p
  turnNum (trigSeries 30 (x * x / 2 ^ 62) (2 ^ 62) 0) (within1 3 (Config.turnErr false p))
def sinTurn (p : Nat) : Num :=
  let x := phaseQ62 p
  turnNum (trigSeries 30 (x * x / 2 ^ 62) x 1) (within1 3 (Config.turnErr true p))

/-- An FP32 word times a number, rounded to FP32. -/
def fmulNum (x : Nat) (n : Num) : Nat := round32 (numMul (Config.nanNeg x 0) (decodeNum 8 x) n)

/-- One level of the reduction tree: lane 2j with lane 2j + 1 (R214). -/
def pairUp : List Nat → List Nat
  | x :: y :: l => fadd x y :: pairUp l
  | l => l

/-- The fixed tree over 64 lanes, unused lanes zero (R214). -/
def tree64 (l : List Nat) : Nat := ((pairUp (pairUp (pairUp (pairUp (pairUp (pairUp (fit64 l))))))).headD 0)
where
  /-- 64 lanes. -/
  fit64 (l : List Nat) : List Nat := l.take 64 ++ List.replicate (64 - l.length) 0

/-! ### The matrix engine -/

/-- A list cut into runs of `n`. -/
def chunks {α : Type} (n : Nat) : Nat → List α → List (List α)
  | 0, _ => []
  | fuel + 1, l => if l.isEmpty then [] else l.take n :: chunks n fuel (l.drop n)

/-- Wrap modulo 2^38, signed (R206). -/
def wrap38 (v : Int) : Int := toSigned 38 (ofSigned 38 v)

/-- Integer dot product in the 38-bit accumulator from an initial value (R206). -/
def dotInt (init : Int) (ab : List (Int × Int)) : Int := ab.foldl (fun acc p => wrap38 (acc + p.1 * p.2)) (wrap38 init)

/-- Exponent of a number's leading significand position, zero's being the least of its format. -/
def numExp : Num → Int
  | .fin _ _ e => e
  | _ => 0

/-- A product of finite numbers aligned to units of 2^q, the bits below truncated (R207). -/
def alignTo (q : Int) : Num → Int
  | .fin neg m e =>
    let v : Int := if q ≤ e then m * 2 ^ (e - q).toNat else (m / 2 ^ (q - e).toNat : Nat)
    if neg then -v else v
  | _ => 0

/-- Bits of the 64-bit adder below the largest product exponent: 64 less a sign, the two bits of a product of significands and the six that 64
terms can carry into (R207; DEDUCED, log entry 12). -/
abbrev adderFrac : Nat := 55

/-- The sum of one K slice in FP32 (R207, R208): aligned to the largest product exponent, truncated, summed, rounded once. -/
def sliceSum (fracBits : Nat) (ps : List Num) : Nat :=
  if ps.any (fun p => match p with
      | .nan _ => true
      | _ => false) || (ps.any (fun p => p == .inf true) && ps.any (fun p => p == .inf false)) then
    canonNan 8 + (if Config.nanNeg 0 0 then 2 ^ 31 else 0)
  else if ps.any (fun p => p == .inf true) then round32 (.inf true)
  else if ps.any (fun p => p == .inf false) then round32 (.inf false)
  else
    let top := (ps.map numExp).foldl max ((ps.map numExp).headD 0)
    let q := top + fracBits - adderFrac
    let v := (ps.map (alignTo q)).sum
    round32 (.fin (decide (v < 0)) v.natAbs q)

/-- A pattern is a NaN of FP32. -/
def isNan32 (x : Nat) : Bool := match decodeNum 8 x with
  | .nan _ => true
  | _ => false

/-- Float dot product: slices of 64 in ascending order onto the FP32 accumulator; NaN stays (R207, R208). -/
def dotFloat (fracBits init : Nat) (ps : List Num) : Nat :=
  (chunks 64 ps.length ps).foldl (fun acc sl => if isNan32 acc then acc else fadd acc (sliceSum fracBits sl)) init

/-- An accumulator: integer of the block, or FP32 word. -/
inductive MacAcc where
  | int (v : Int)
  | flt (w : Nat)
  deriving DecidableEq, Repr

/-- An exact number. -/
def MacAcc.num : MacAcc → Num
  | .int v => .fin (decide (v < 0)) v.natAbs 0
  | .flt w => decodeNum 8 w

/-- ZP, signed. -/
abbrev tcZp (c : List Byte) : Int := toSigned 8 (u c 11 1)
/-- MULT, signed. -/
abbrev tcMult (c : List Byte) : Int := toSigned 16 (bits (tcScale c) 0 16)

/-- A dot product of a command: formats of A and B, existing C or 0, elements of A and B. -/
def dotOf (c : List Byte) (init : Option Nat) (ab : List (Nat × Nat)) : MacAcc :=
  let fa := tcFmtA c
  let fb := tcFmtB c
  let fo := tcFmtOut c
  if fmtInt fa then
    let c0 : Int := match init with
      | none => 0
      | some x => if fmtInt fo then toSigned (fmtWidth fo) x else toSigned 32 (Config.accInit fo x)
    .int (dotInt c0 (ab.map (fun p => (toSigned (fmtWidth fa) p.1, toSigned (fmtWidth fb) p.2))))
  else
    let c0 : Nat := match init with
      | none => 0
      | some x => if fmtInt fo then Config.accInit fo x else (convertElem fo 8 false false x).1
    .flt (dotFloat ((fmtFloat fa).2.1 + (fmtFloat fb).2.1) c0 (ab.map (fun p => numMul (Config.nanNeg p.1 p.2) (decodeNum fa p.1) (decodeNum fb p.2))))

/-- Bias onto an accumulator saturated to INT32, then RELU (R206, R210); whether the accumulator saturated. -/
def biasRelu (c : List Byte) (a : MacAcc) (bias : Option (Nat × Nat)) : MacAcc × Nat :=
  let (a, n) : MacAcc × Nat := match a with
    | .int v => (.int (satInt 32 v), if satInt 32 v = v then 0 else 1)
    | .flt w => (.flt w, 0)
  let a : MacAcc := match a, bias with
    | .int v, some (f, x) => .int (v + toSigned 32 (convertElem f 3 true (tcFlag c 1) x).1)
    | .flt w, some (f, x) => .flt (fadd w (convertElem f 8 false false x).1)
    | a, none => a
  let a : MacAcc := if tcFlag c 3 then (match a with
    | .int v => .int (max v 0)
    | .flt w => if isNan32 w || bits w 31 1 == 0 then .flt w else .flt 0) else a
  (a, n)

/-- Requantisation to the output format (R204, R210): the stored pattern, and how many conversions saturated or made a NaN. -/
def requant (c : List Byte) (a : MacAcc) : Nat × Nat :=
  let fo := tcFmtOut c
  if fmtInt fo then
    let w := fmtWidth fo
    let m := tcMult c
    match numMul false a.num (.fin (decide (m < 0)) m.natAbs (-(tcShift c : Int))) with
    | .nan _ => (ofSigned w (satInt w (tcZp c)), 0)
    | .inf neg => ((encodeInt w false (.inf neg)).1, 1)
    | .fin neg k e =>
      let r : Int := scaleRound (tcFlag c 1) k e 0
      let v := (if neg then -r else r) + tcZp c
      (ofSigned w (satInt w v), if satInt w v = v then 0 else 1)
  else
    let sat := tcFlag c 0
    let p := numMul (Config.nanNeg (tcScale c) 0) a.num (decodeNum 8 (tcScale c))
    let (x, b1) := encodeFloat 8 sat p
    let (y, b2) := convertElem 8 fo sat (tcFlag c 1) x
    (y, if b1 || b2 then 1 else 0)

/-- Read a list of elements in order; the first error ends it. -/
def State.readElems (s : State) (id : Nat) (b : List Byte) : List Coord → Except Nat (List Nat) × State
  | [] => (.ok [], s)
  | c :: r =>
    match s.readElem id b c with
    | (.error e, s) => (.error e, s)
    | (.ok x, s) =>
      match s.readElems id b r with
      | (.error e, s) => (.error e, s)
      | (.ok xs, s) => (.ok (x :: xs), s)

/-- A coordinate of a rank: dimension 0, dimension 1, then zeros. -/
def coord2 (b : List Byte) (d0 d1 : Nat) : Coord := ((d0 : Int) :: (d1 : Int) :: List.replicate 3 0).take (dRank b)

/-- Inclusive ranges of a block: first row and column, rows and columns. -/
structure Block where
  m : Nat
  n : Nat
  rows : Nat
  cols : Nat
  deriving DecidableEq, Repr, Inhabited

/-- The output blocks of an M × N result, row by row (R205; the order is the model's, log entry 23). -/
def blocksOf (m n : Nat) : List Block :=
  (List.range ((m + 63) / 64)).flatMap (fun i => (List.range ((n + 63) / 64)).map (fun j =>
    { m := 64 * i, n := 64 * j, rows := min 64 (m - 64 * i), cols := min 64 (n - 64 * j) }))

/-- Store a block of a tensor with its share of halo and padding (R210, R257): elements by coordinate; status of the stores. -/
def State.storeElems (s : State) (id : Nat) (b : List Byte) (xs : List (Coord × Nat)) : Nat × State :=
  let xs := xs.filter (fun p => validCoord b p.1)
  let v := xs.foldl (fun m p => putElem m b p.1 p.2) ([] : NibMap)
  let pad := padNibs b (fun c => xs.any (fun p => p.1 == c))
  s.storeUnits id (unitsOf (s.nibBytes (overNibs pad v)))

/-! ### Checksums (R220, R221, R223) -/

/-- The operands of an output block: A by group and row, B by column, the group of each column, the C it adds to, the bias of each column. -/
structure BlockIn where
  a : List (List (List Nat))
  b : List (List Nat)
  grp : List Nat
  old : List (List (Option Nat))
  bias : List (Option (Nat × Nat))
  deriving DecidableEq, Repr, Inhabited

/-- A table of rows and columns. -/
abbrev Grid (α : Type) := List (List α)

/-- Elements of A that meet column j in row i, and of B. -/
def BlockIn.aRow (x : BlockIn) (i j : Nat) : List Nat := (x.a.getD (x.grp.getD j 0) []).getD i []
def BlockIn.bCol (x : BlockIn) (j : Nat) : List Nat := x.b.getD j []
/-- Existing C. -/
def BlockIn.oldAt (x : BlockIn) (i j : Nat) : Option Nat := (x.old.getD i []).getD j none

/-- The accumulators of a block (R205 to R208). -/
def BlockIn.accs (x : BlockIn) (c : List Byte) (k : Block) : Grid MacAcc :=
  (List.range k.rows).map (fun i => (List.range k.cols).map (fun j => dotOf c (x.oldAt i j) ((x.aRow i j).zip (x.bCol j))))

/-- Accumulators as a fault leaves them: an integer off by a difference, an FP32 word with bits flipped. -/
def faultAcc (errs : List (Nat × Nat × Int)) (g : Grid MacAcc) : Grid MacAcc :=
  g.zipIdx.map (fun (r, i) => r.zipIdx.map (fun (a, j) =>
    (errs.filter (fun e => e.1 == i && e.2.1 == j)).foldl (fun a e => match a with
      | .int v => .int (wrap38 (v + e.2.2))
      | .flt w => .flt (w ^^^ (e.2.2.natAbs % 2 ^ 32))) a))

/-- The integer of an accumulator. -/
def MacAcc.val : MacAcc → Int
  | .int v => v
  | .flt _ => 0

/-- The FP32 word of an accumulator. -/
def MacAcc.word : MacAcc → Nat
  | .int _ => 0
  | .flt w => w

/-- Row i or column j of accumulators. -/
def gridRow {α : Type} (g : Grid α) (i : Nat) : List α := g.getD i []
def gridCol {α : Type} (g : Grid α) (j : Nat) : List α := g.filterMap (fun r => r[j]?)

/-- An element of A or B as an integer. -/
abbrev intOf (f x : Nat) : Int := toSigned (fmtWidth f) x

/-- Expected sum of row i, modulo 2^38: the elements of A times the row sums of B over the block's columns, and the C added to (R220, R221). -/
def BlockIn.rowSum (x : BlockIn) (c : List Byte) (k : Block) (i : Nat) : Int :=
  let init := ((List.range k.cols).map (fun j => (dotOf c (x.oldAt i j) []).val)).sum
  wrap38 (init + ((List.range x.a.length).map (fun g =>
    let cols := (List.range k.cols).filter (fun j => x.grp.getD j 0 == g)
    (((x.a.getD g []).getD i []).zipIdx.map (fun (a, l) =>
      intOf (tcFmtA c) a * (cols.map (fun j => intOf (tcFmtB c) ((x.bCol j).getD l 0))).sum)).sum)).sum)

/-- Expected sum of column j, modulo 2^38: the column sums of A over the block's rows times the elements of B (R220, R221). -/
def BlockIn.colSum (x : BlockIn) (c : List Byte) (k : Block) (j : Nat) : Int :=
  let init := ((List.range k.rows).map (fun i => (dotOf c (x.oldAt i j) []).val)).sum
  wrap38 (init + ((x.bCol j).zipIdx.map (fun (b, l) =>
    intOf (tcFmtB c) b * ((List.range k.rows).map (fun i => intOf (tcFmtA c) ((x.aRow i j).getD l 0))).sum)).sum)

/-- A sum of FP32 words in ascending order. -/
def fsumList (l : List Nat) : Nat := l.foldl fadd 0

/-- The magnitude of an FP32 word. -/
def fabs (x : Nat) : Nat := x % 2 ^ 31

/-- An element of A or B in FP32. -/
abbrev fp32Of (f x : Nat) : Nat := (convertElem f 8 false false x).1

/-- Two float sums differ by more than 2^-t times the sum of the magnitudes of the terms (R221). -/
def sumsDiffer (t : Nat) (expected actual : Nat) (terms : List Nat) : Bool :=
  let d := fsub expected actual
  (isNan32 expected != isNan32 actual) || fgt (fabs d) (fmul ((127 - t) * 2 ^ 23) (fsumList (terms.map fabs)))

/-- The rows and columns of a block whose sums differ, with the excess of the actual sum (R220, R221). For floats the sums are formed in FP32
in ascending order (DESIGN CHOICE, log entry 23), and the excess is not used. -/
def BlockIn.diffs (x : BlockIn) (c : List Byte) (tol : Nat) (k : Block) (g : Grid MacAcc) : List (Nat × Int) × List (Nat × Int) :=
  if fmtInt (tcFmtA c) then
    let d (l : List MacAcc) (e : Int) : Int := wrap38 ((l.map MacAcc.val).sum - e)
    (((List.range k.rows).map (fun i => (i, d (gridRow g i) (x.rowSum c k i)))).filter (fun p => p.2 != 0),
     ((List.range k.cols).map (fun j => (j, d (gridCol g j) (x.colSum c k j)))).filter (fun p => p.2 != 0))
  else
    let w := x.accs c k
    let d (l : List MacAcc) (e : List MacAcc) : Bool := sumsDiffer tol (fsumList (e.map MacAcc.word)) (fsumList (l.map MacAcc.word)) (e.map MacAcc.word)
    (((List.range k.rows).filter (fun i => d (gridRow g i) (gridRow w i))).map (fun i => (i, 0)),
     ((List.range k.cols).filter (fun j => d (gridCol g j) (gridCol w j))).map (fun j => (j, 0)))

/-- What a checking mechanism did: nothing, a correction, a recomputation or replay that removed the mismatch, or a mismatch that stays
(Table 5.7). -/
inductive Fix where | clean | corrected | retried | stays
  deriving DecidableEq, Repr, Inhabited

/-- The accumulators of a block after its checks: one row and one column of an integer block that differ by the same excess are corrected at
their crossing; any other difference has the block recomputed once (R223, R224). -/
def BlockIn.checked (x : BlockIn) (c : List Byte) (tol : Nat) (k : Block) (errs : List (Nat × Nat × Int)) (again : Bool) : Grid MacAcc × Fix :=
  let good := x.accs c k
  if errs.isEmpty then (good, .clean)
  else
    let bad := faultAcc errs good
    match x.diffs c tol k bad with
    | ([], []) => (bad, .clean)
    | ([(i, d)], [(j, e)]) =>
      if fmtInt (tcFmtA c) && d == e then (faultAcc [(i, j, -d)] bad, .corrected)
      else if again then (bad, .stays) else (good, .retried)
    | _ => if again then (bad, .stays) else (good, .retried)

/-! ### Output blocks (R205, R210) -/

/-- Where the elements of a command's block lie: A by group, row and inner index, B by column and inner index, C by row and column; and the
group of a column. -/
structure Shape where
  aAt : Nat → Nat → Nat → Coord
  bAt : Nat → Nat → Coord
  cAt : Nat → Nat → Coord
  grp : Nat → Nat

/-- MATMUL: A has K columns and M rows, B holds the K elements of its column n in row n (R205, log entry 23). -/
def State.matShape (s : State) (c : List Byte) : Shape :=
  { aAt := fun _ m l => coord2 (s.descB (tcA c)) l m, bAt := fun n l => coord2 (s.descB (tcB c)) l n
    cAt := fun m n => coord2 (s.descB (tcC c)) n m, grp := fun _ => 0 }

/-- CONV: C's dimension 0 is the output channel n, and its row m the pixel; the inner index runs over the channels of a group, then along and
down the kernel; taps outside A read its edge (Table 5.6, R256; log entry 12). -/
def State.convShape (s : State) (c : List Byte) : Shape :=
  let g (k : Nat) : Nat := (Config.convArgs (c.drop 48)).getD k 1
  let kw := max 1 (g 0)
  let kh := max 1 (g 1)
  let groups := max 1 (g 6)
  let cg := max 1 (tcK c / (kw * kh))
  let dc := s.descB (tcC c)
  let w := max 1 (dDim dc 1)
  let h := max 1 (dDim dc 2)
  { aAt := fun q m l =>
      [((q * cg + l % cg : Nat) : Int), ((m % w * g 2 + l / cg % kw * g 4 : Nat) : Int) - g 7,
       ((m / w % h * g 3 + l / (cg * kw) * g 5 : Nat) : Int) - g 8, ((m / (w * h) : Nat) : Int), 0].take (dRank (s.descB (tcA c)))
    bAt := fun n l => [((l % cg : Nat) : Int), ((l / cg % kw : Nat) : Int), ((l / (cg * kw) : Nat) : Int), (n : Int), 0].take (dRank (s.descB (tcB c)))
    cAt := fun m n => [(n : Int), ((m % w : Nat) : Int), ((m / w % h : Nat) : Int), ((m / (w * h) : Nat) : Int), 0].take (dRank dc)
    grp := fun n => n / max 1 (tcN c / groups) }

/-- Read a table of elements row by row; the first error ends it. -/
def State.readGrid (s : State) (id : Nat) (b : List Byte) : Grid Coord → Except Nat (Grid Nat) × State
  | [] => (.ok [], s)
  | r :: rs =>
    match s.readElems id b r with
    | (.error e, s) => (.error e, s)
    | (.ok x, s) =>
      match s.readGrid id b rs with
      | (.error e, s) => (.error e, s)
      | (.ok xs, s) => (.ok (x :: xs), s)

/-- Read the elements of A for some groups. -/
def State.readGroups (s : State) (id : Nat) (b : List Byte) : List (Grid Coord) → Except Nat (List (Grid Nat)) × State
  | [] => (.ok [], s)
  | r :: rs =>
    match s.readGrid id b r with
    | (.error e, s) => (.error e, s)
    | (.ok x, s) =>
      match s.readGroups id b rs with
      | (.error e, s) => (.error e, s)
      | (.ok xs, s) => (.ok (x :: xs), s)

/-- Read the operands of a block. -/
def State.blockIn (s : State) (t : Nat) (c : List Byte) (sh : Shape) (k : Block) : Except Nat BlockIn × State :=
  let ms := (List.range k.rows).map (k.m + ·)
  let ns := (List.range k.cols).map (k.n + ·)
  let ls := List.range (tcK c)
  let gs := (ns.map sh.grp).eraseDups
  match s.readGroups t (s.descB (tcA c)) (gs.map (fun g => ms.map (fun m => ls.map (sh.aAt g m)))) with
  | (.error e, s) => (.error e, s)
  | (.ok a, s) =>
    match s.readGrid t (s.descB (tcB c)) (ns.map (fun n => ls.map (sh.bAt n))) with
    | (.error e, s) => (.error e, s)
    | (.ok b, s) =>
      let db := s.descB (tcBias c)
      match (if tcFlag c 4 then s.readElems t db (ns.map (fun n => coord2 db n 0)) else (.ok [], s)) with
      | (.error e, s) => (.error e, s)
      | (.ok bias, s) =>
        match (if tcFlag c 2 then s.readGrid t (s.descB (tcC c)) (ms.map (fun m => ns.map (sh.cAt m))) else (.ok [], s)) with
        | (.error e, s) => (.error e, s)
        | (.ok old, s) =>
          (.ok { a := a, b := b, grp := ns.map (fun n => gs.findIdx (· == sh.grp n)), old := old.map (·.map some)
                 bias := bias.map (fun x => some (dFmt db, x)) }, s)

/-- What an output block or vector came to: stored, with the status of its accesses and its saturations, or not stored for a mismatch that
stays (R224, R226). -/
structure BlockEnd where
  code : Nat
  sats : Nat
  fix : Fix
  deriving DecidableEq, Repr, Inhabited

/-- The elements of a checked block as the store path converts them: coordinates, patterns and saturations (R210). -/
def storePath (c : List Byte) (sh : Shape) (k : Block) (x : BlockIn) (g : Grid MacAcc) : List (Coord × Nat × Nat) :=
  (List.range k.rows).flatMap (fun i => (List.range k.cols).map (fun j =>
    let r := biasRelu c ((gridRow g i).getD j (.int 0)) (x.bias.getD j none)
    let y := requant c r.1
    (sh.cAt (k.m + i) (k.n + j), y.1, r.2 + y.2)))

/-- The worse of two findings. -/
def Fix.join : Fix → Fix → Fix
  | .stays, _ => .stays
  | _, .stays => .stays
  | .clean, f => f
  | .corrected, .clean => .corrected
  | .corrected, _ => .retried
  | .retried, _ => .retried

/-- What a fault does to output block or vector `j`: the accumulators it spoils, and what duplicating the store path finds (Table 5.7). -/
def faultErrs (f : TileFault) (j : Nat) : List (Nat × Nat × Int) × Bool :=
  match f with
  | .acc k errs again => if k == j then (errs, again) else ([], false)
  | _ => ([], false)
def faultCopy (f : TileFault) (j : Nat) : Fix :=
  match f with
  | .copy k again => if k == j then (if again then .stays else .retried) else .clean
  | _ => .clean

/-- Output block `j` of a MATMUL or CONV: operands read, accumulators formed and checked, and the block stored unless a mismatch stays
(R205 to R210, R220 to R226). -/
def State.matBlock (s : State) (t : Nat) (c : List Byte) (sh : Shape) (f : TileFault) (j : Nat) (k : Block) : BlockEnd × State :=
  match s.blockIn t c sh k with
  | (.error e, s) => (⟨e, 0, .clean⟩, s)
  | (.ok x, s) =>
    let (g, fix) := x.checked c (s.regN Reg.TCA_ABFT_TOL) k (faultErrs f j).1 (faultErrs f j).2
    let fix := fix.join (faultCopy f j)
    if fix == .stays then (⟨DONE, 0, .stays⟩, s)
    else
      let cells := storePath c sh k x g
      let (e, s) := s.storeElems t (s.descB (tcC c)) (cells.map (fun p => (p.1, p.2.1)))
      (⟨e, (cells.map (·.2.2)).sum, fix⟩, s)

/-- Count saturations in TCA_Tn_SAT; the status they give (R204). -/
def State.countSats (s : State) (t n : Nat) : Nat × State :=
  if n == 0 then (DONE, s) else (DONE_RANGE_SATURATED, s.countSat (Reg.TCA_T_SAT t) 0 32 n)

/-- A mismatch that was removed: counted, and logged once per step and tile (R224). -/
def State.tileRetry (s : State) (t : Nat) : State :=
  let s := s.countSat (Reg.TCA_T_RETRY t) 0 32 1
  let x := s.tile t
  if x.retryLog == some s.stepNo then s
  else (s.setTile t { x with retryLog := some s.stepNo }).event 0x06 0 0x0601 0 [BitVec.ofNat 8 t]

/-- What a finding counts (Table 5.7, R224). -/
def State.noteFix (s : State) (t : Nat) : Fix → State
  | .corrected => (s.countSat (Reg.TCA_T_CORR t) 0 32 1).tileRetry t
  | .retried => s.tileRetry t
  | _ => s

/-- What a tile command's work came to: the codes that apply, and whether a mismatch that stays ended it (R226). -/
structure WorkEnd where
  codes : List Nat
  stays : Bool
  deriving DecidableEq, Repr, Inhabited

/-- Output blocks or vectors in order, `work` doing one; the first failing access, or a mismatch that stays, ends them. -/
def State.eachBlock (t : Nat) (work : Nat → State → BlockEnd × State) : List Nat → State → WorkEnd × State
  | [], s => (⟨[], false⟩, s)
  | j :: r, s =>
    let (b, s) := work j s
    if b.fix == .stays then (⟨[], true⟩, s)
    else
      let (d, s) := (s.noteFix t b.fix).countSats t b.sats
      if b.code != DONE then (⟨[b.code, d], false⟩, s)
      else
        let (w, s) := State.eachBlock t work r s
        (⟨d :: w.codes, w.stays⟩, s)

/-- The blocks of a MATMUL or CONV, as many as `lim` allows. -/
def State.matWork (s : State) (t : Nat) (c : List Byte) (sh : Shape) (f : TileFault) (lim : Option Nat) : WorkEnd × State :=
  let bl := blocksOf (tcM c) (tcN c)
  let n := match lim with
    | some n => min n bl.length
    | none => bl.length
  State.eachBlock t (fun j s => s.matBlock t c sh f j (bl.getD j default)) (List.range n) s

/-! ### The vector engine (R211 to R214, R222) -/

/-- The vector registers and the lanes given to the store path. -/
structure VecState where
  regs : SMap (List Nat) := []
  out : List Nat := []
  /-- instructions run so far -/
  count : Nat := 0
  fix : Fix := .clean
  deriving DecidableEq, Repr, Inhabited

/-- A lane of a register. -/
def VecState.lane (v : VecState) (r : Fin 32) (l : Nat) : Nat := (SMap.get [] v.regs r.val).getD l 0

/-- An integer result: wrapped, or saturated to INT32 (R212). -/
def int32Of (sat : Bool) (v : Int) : Nat := ofSigned 32 (if sat then satInt 32 v else v)

/-- The exact 64-bit product of two Qm.n words shifted right by n, rounded under R203 and saturated (R212). -/
def qmulWord (rna : Bool) (n x y : Nat) : Nat :=
  let p := toSigned 32 x * toSigned 32 y
  let r : Int := scaleRound rna p.natAbs (-(n : Int)) 0
  int32Of true (if p < 0 then -r else r)

/-- One lane of an instruction (R212, R213). -/
def vecAlu (o : VecOp) (rna : Bool) (v : VecState) (l : Nat) : Nat :=
  let x (r : Fin 32) : Nat := v.lane r l
  let n (r : Fin 32) : Int := toSigned 32 (v.lane r l)
  match o with
  | .const _ w => w.toNat
  | .iadd _ a b sat => int32Of sat (n a + n b)
  | .isub _ a b sat => int32Of sat (n a - n b)
  | .imul _ a b sat => int32Of sat (n a * n b)
  | .igt _ a b => if n b < n a then 1 else 0
  | .qmul _ a b q => qmulWord rna q.val (x a) (x b)
  | .qadd _ a b => int32Of true (n a + n b)
  | .fadd _ a b => fadd (x a) (x b)
  | .fmul _ a b => fmul (x a) (x b)
  | .ffma _ a b c => ffma (x a) (x b) (x c)
  | .fgt _ a b => if fgt (x a) (x b) then 1 else 0
  | .sfu k _ a => sfu k.val (x a)
  | .isum d a sat => if l == 0 then int32Of sat (n d + (laneTree (fun p q => int32Of sat (toSigned 32 p + toSigned 32 q)) 6 (SMap.get [] v.regs a.val) |> toSigned 32)) else x d
  | .fsum d a => if l == 0 then fadd (x d) (tree64 (SMap.get [] v.regs a.val)) else x d
  | .emit a => x a
  | .last => 0
where
  /-- The fixed tree over 64 lanes with any addition (R214). -/
  laneTree (add : Nat → Nat → Nat) : Nat → List Nat → Nat
    | 0, l => l.headD 0
    | k + 1, l => laneTree add k ((List.range (2 ^ k)).map (fun j => add (l.getD (2 * j) 0) (l.getD (2 * j + 1) 0)))

/-- The register an instruction writes. -/
def vecDest : VecOp → Option (Fin 32)
  | .const d _ => some d
  | .iadd d _ _ _ => some d
  | .isub d _ _ _ => some d
  | .imul d _ _ _ => some d
  | .igt d _ _ => some d
  | .qmul d _ _ _ => some d
  | .qadd d _ _ => some d
  | .fadd d _ _ => some d
  | .fmul d _ _ => some d
  | .ffma d _ _ _ => some d
  | .fgt d _ _ => some d
  | .sfu _ d _ => some d
  | .isum d _ _ => some d
  | .fsum d _ => some d
  | .emit _ => none
  | .last => none

/-- The mod-7 residue of an instruction's result as predicted from the residues of its operands and the wrap correction, the difference
between the exact result and the word (R222). -/
def vecResidue (o : VecOp) (rna : Bool) (v : VecState) (l : Nat) : Int :=
  let r : Int := toSigned 32 (vecAlu o rna v l)
  let n (q : Fin 32) : Int := toSigned 32 (v.lane q l)
  match o with
  | .iadd _ a b _ => (n a % 7 + n b % 7 - (n a + n b - r) % 7) % 7
  | .qadd _ a b => (n a % 7 + n b % 7 - (n a + n b - r) % 7) % 7
  | .isub _ a b _ => (n a % 7 - n b % 7 - (n a - n b - r) % 7) % 7
  | .imul _ a b _ => (n a % 7 * (n b % 7) - (n a * n b - r) % 7) % 7
  | .qmul _ a b _ => (n a % 7 * (n b % 7) - (n a * n b - r) % 7) % 7
  | _ => r % 7

/-- The mechanisms of the vector engine find bits flipped in a lane of a result (R222, Table 5.7): a residue that differs from the one
predicted; in FP32 the duplicated exponent path, and for a product the residue of its significand; the duplicated special-function unit and
store path. Additions of FP32 are not covered past their exponent. -/
def vecDetects (o : VecOp) (rna : Bool) (v : VecState) (l : Nat) (mask : W32) : Bool :=
  let good := vecAlu o rna v l
  let bad := good ^^^ mask.toNat
  let expo := decide (bad / 2 ^ 23 ≠ good / 2 ^ 23)
  match o with
  | .fadd _ _ _ => expo
  | .ffma _ _ _ _ => expo
  | .fsum _ _ => expo
  | .fmul _ _ _ => expo || decide (bad % 2 ^ 23 % 7 ≠ good % 2 ^ 23 % 7)
  | .fgt _ _ _ => expo
  | .sfu _ _ _ => decide (bad ≠ good)
  | .emit _ => decide (bad ≠ good)
  | .last => false
  | _ => decide (toSigned 32 bad % 7 ≠ vecResidue o rna v l)

/-- Run an instruction under a fault of the command: found and removed by a replay, found and staying, or not found (R222 to R224). `n` lanes
go to the store path. -/
def VecState.step (v : VecState) (rna : Bool) (f : TileFault) (n : Nat) (o : VecOp) : VecState :=
  if v.fix == .stays then v
  else
    let (bad, fix) : (Nat → Nat → Nat) × Fix := match f with
      | .instr k lane mask again =>
        if k != v.count || mask == 0 then (fun _ w => w, .clean)
        else if vecDetects o rna v lane mask then (fun _ w => w, if again then .stays else .retried)
        else (fun l w => if l == lane then w ^^^ mask.toNat else w, .clean)
      | _ => (fun _ w => w, .clean)
    let r := (List.range 64).map (fun l => bad l (vecAlu o rna v l))
    let v := { v with count := v.count + 1, fix := v.fix.join fix }
    if fix == .stays then v
    else
      match vecDest o, o with
      | some d, _ => { v with regs := SMap.insert v.regs d.val r }
      | none, .emit _ => { v with out := v.out ++ r.take n }
      | none, _ => v

/-- The instructions at an address of tile memory, as the program spells them. -/
def vecProg : Nat → List Byte → List VecOp
  | 0, _ => []
  | fuel + 1, bs =>
    match Config.vecInstr (bs.take 64) with
    | some (o, n) => o :: vecProg fuel (bs.drop (n % 64 + 1))
    | none => []

/-- The vector program of a command: the instructions for each vector, and those that run once after the last. -/
def State.vecProgram (s : State) (t : Nat) (c : List Byte) : List VecOp × List VecOp :=
  let p := vecProg 16384 (s.bytesAt (t * 0x100000 + tcProg c) (0x100000 - tcProg c % 0x100000))
  (p.takeWhile (· != .last), (p.dropWhile (· != .last)).drop 1)

/-- An element on its way into a lane: integers by sign extension, floats exactly to FP32 (R211). -/
def widen (f x : Nat) : Nat := if fmtInt f then ofSigned 32 (toSigned (fmtWidth f) x) else (convertElem f 8 false false x).1

/-- A lane on its way to memory by the store path (R210, R211). -/
def narrow (c : List Byte) (w : Nat) : Nat × Nat :=
  let r := biasRelu c (if fmtInt (tcFmtA c) then .int (toSigned 32 w) else .flt w) none
  let y := requant c r.1
  (y.1, r.2 + y.2)

/-- The valid elements of an operand in order; none when the command names none. -/
def State.operand (s : State) (t h : Nat) : Except Nat (List Nat) × State :=
  if h == 0xFFFF then (.ok [], s) else s.readElems t (s.descB h) (validCoords (s.descB h))

/-- The elements of A that vector `j` holds. -/
abbrev vecLanes (n j : Nat) : Nat := min 64 (n - 64 * j)

/-- Vector `j` of a program over n elements of A: A's elements in register 0, B's in register 1, the instructions, after the last vector those
that run once, and what went to the store path, stored in C from element `k` on. -/
def State.vecBlock (s : State) (t : Nat) (c : List Byte) (p : List VecOp × List VecOp) (f : TileFault) (a b : List Nat) (j : Nat) (v : VecState)
    (k : Nat) : BlockEnd × VecState × State :=
  let rna := tcFlag c 1
  let take (l : List Nat) (g : Nat) : List Nat := ((l.drop (64 * j)).take 64).map (widen g)
  let n := vecLanes a.length j
  let v := { v with regs := SMap.insert (SMap.insert v.regs 0 (take a (tcFmtA c))) 1 (take b (tcFmtB c)), out := [], fix := .clean }
  let v := p.1.foldl (fun v o => v.step rna f n o) v
  let v := if a.length ≤ 64 * (j + 1) then p.2.foldl (fun v o => v.step rna f 64 o) v else v
  let fix := v.fix.join (faultCopy f j)
  if fix == .stays then (⟨DONE, 0, .stays⟩, v, s)
  else
    let dc := s.descB (tcC c)
    let cs := (validCoords dc).drop k
    let ys := v.out.map (narrow c)
    let (e, s) := s.storeElems t dc ((cs.zip ys).map (fun x => (x.1, x.2.1)))
    (⟨e, ((cs.zip ys).map (·.2.2)).sum, fix⟩, v, s)

/-- The vectors of a program in order; the first failing access, or a mismatch that stays, ends them. -/
def State.vecBlocks (t : Nat) (c : List Byte) (p : List VecOp × List VecOp) (f : TileFault) (a b : List Nat) :
    List Nat → VecState → Nat → State → WorkEnd × State
  | [], _, _, s => (⟨[], false⟩, s)
  | j :: r, v, k, s =>
    let (x, v, s) := s.vecBlock t c p f a b j v k
    if x.fix == .stays then (⟨[], true⟩, s)
    else
      let (d, s) := (s.noteFix t x.fix).countSats t x.sats
      if x.code != DONE then (⟨[x.code, d], false⟩, s)
      else
        let (w, s) := State.vecBlocks t c p f a b r v (k + v.out.length) s
        (⟨d :: w.codes, w.stays⟩, s)

/-- A VECTOR command, as many vectors as `lim` allows (R211 to R214). -/
def State.vecWork (s : State) (t : Nat) (c : List Byte) (f : TileFault) (lim : Option Nat) : WorkEnd × State :=
  match s.operand t (tcA c) with
  | (.error e, s) => (⟨[e], false⟩, s)
  | (.ok a, s) =>
    match s.operand t (tcB c) with
    | (.error e, s) => (⟨[e], false⟩, s)
    | (.ok b, s) =>
      let n := (a.length + 63) / 64
      State.vecBlocks t c (s.vecProgram t c) f a b (List.range (match lim with
        | some m => min m n
        | none => n)) {} 0 s

/-! ### Kernels (Table 5.6) -/

/-- Output blocks or vectors of a command. -/
def State.blockCount (s : State) (c : List Byte) : Nat :=
  if tcOp c == opVector then ((validCoords (s.descB (tcA c))).length + 63) / 64 else (blocksOf (tcM c) (tcN c)).length

/-- The work of a MATMUL, CONV or VECTOR. -/
def State.cmdWork (s : State) (t : Nat) (c : List Byte) (f : TileFault) (lim : Option Nat) : WorkEnd × State :=
  if tcOp c == opMatmul then s.matWork t c (s.matShape c) f lim
  else if tcOp c == opConv then s.matWork t c (s.convShape c) f lim
  else s.vecWork t c f lim

/-- The kernel's list at an address: 64-byte commands up to the first that is no MATMUL, CONV or VECTOR (Table 5.6; log entry 12). -/
def kernelList : Nat → List Byte → List (List Byte)
  | 0, _ => []
  | fuel + 1, bs => if 64 ≤ bs.length && 1 ≤ tcOp bs && tcOp bs ≤ 3 then bs.take 64 :: kernelList fuel (bs.drop 64) else []

/-- A fault of a KERNEL as the command with number `i` of its list meets it. -/
def faultInList (f : TileFault) (i : Nat) : TileFault :=
  match f with
  | .none => .none
  | .acc k e a => if k / 65536 == i then .acc (k % 65536) e a else .none
  | .instr k l m a => if k / 65536 == i then .instr (k % 65536) l m a else .none
  | .copy k a => if k / 65536 == i then .copy (k % 65536) a else .none

/-- The commands of a kernel in order; a failing access or a mismatch that stays ends them. -/
def State.kernelWork (t : Nat) (f : TileFault) : List (List Byte × Nat) → Option Nat → State → WorkEnd × State
  | [], _, s => (⟨[], false⟩, s)
  | (c, i) :: r, lim, s =>
    let n := s.blockCount c
    let (w, s) := s.cmdWork t c (faultInList f i) lim
    if w.stays || w.codes.any (fun e => !isDone e) || (match lim with
        | some m => decide (m ≤ n)
        | none => false) then (w, s)
    else
      let (w', s) := State.kernelWork t f r (lim.map (· - n)) s
      (⟨w.codes ++ w'.codes, w'.stays⟩, s)

/-- The list of a KERNEL command. -/
def State.kernelOf (s : State) (t : Nat) (c : List Byte) : List (List Byte × Nat) :=
  (kernelList 16384 (s.bytesAt (t * 0x100000 + tcProg c) (0x100000 - tcProg c % 0x100000))).zipIdx

/-! ### Fused attention (R335 to R338) -/

/-- Element `k` of a part of a slice that starts at byte `off` (R310). -/
def sliceElem (fmt : Nat) (sl : List Byte) (off k : Nat) : Nat :=
  let w := fmtWidth fmt
  let v := u sl (off + k * w / 8) (max 1 (w / 8))
  if w == 4 then bits v (4 * (k % 2)) 4 else v

/-- Keys and values of a slice in FP32 (R310). -/
def dequant (fmt dk dv : Nat) (sl : List Byte) : List Nat × List Nat :=
  let kb := (dk * fmtWidth fmt + 7) / 8
  let vb := (dv * fmtWidth fmt + 7) / 8
  let one (off n scaleAt : Nat) : List Nat :=
    (List.range n).map (fun k =>
      let x := decodeNum fmt (sliceElem fmt sl off k)
      if fmtInt fmt then round32 (numMul false x (decodeNum 6 (u sl scaleAt 2))) else round32 x)
  (one 0 dk (kb + vb), one kb dv (kb + vb + 2))

/-- Phase of a pair (R336). -/
def ropePhase (dt : Int) (f : Nat) : Nat := ((dt * f) / 65536 % 2 ^ 32).toNat

/-- A key rotated by its DT (R336): frequencies of the pairs in order. -/
def rotate (dt : Int) (rope : Nat) (fs : List Nat) (k : List Nat) : List Nat :=
  (List.range k.length).map (fun e =>
    let j := e / 2
    let x := k.getD (2 * j) 0
    let y := k.getD (2 * j + 1) 0
    let c := cosTurn (ropePhase dt (fs.getD j 0))
    let sn := sinTurn (ropePhase dt (fs.getD j 0))
    if rope ≤ j then k.getD e 0 else if e % 2 == 0 then fsub (fmulNum x c) (fmulNum y sn) else fadd (fmulNum x sn) (fmulNum y c))

/-- Score of an entry (R337). -/
def score (scale : Nat) (q k : List Nat) : Nat := fmul (tree64 (List.zipWith fmul q k)) scale

/-- The attended output row in FP32 (R337, R338): scores and value rows of the attended entries in ascending order. -/
def mixRow (dv : Nat) (sv : List (Nat × List Nat)) : List Nat :=
  if sv.isEmpty then List.replicate dv 0
  else
    let m := (sv.map (·.1)).foldl (fun a x => if fgt x a then x else a) ((sv.map (·.1)).headD 0)
    let ps := sv.map (fun x => (sfu 0 (fsub x.1 m), x.2))
    let z := ps.foldl (fun a p => fadd a p.1) 0
    let rz := sfu 2 z
    (List.range dv).map (fun d => fmul (ps.foldl (fun a p => ffma p.1 (p.2.getD d 0) a) 0) rz)

/-- Address of a byte of a PLAIN INT8 tensor. -/
def byteAddr (b : List Byte) (c : Coord) : Nat := (elemNib b c).toNat / 2

/-- Address of the KVNEW row of new entry n of sequence s (Table 7.7). -/
def kvNewAddr (b : List Byte) (appendMax n s : Nat) : Nat :=
  if 3 ≤ dRank b then byteAddr b ([0, (n : Int), (s : Int), 0, 0].take (dRank b)) else byteAddr b [0, (s * appendMax + n : Nat)]

/-- Copy a run of bytes under an initiator ID to two places: the first error. -/
def State.copyKv (s : State) (t src dst stage n : Nat) : Nat × State :=
  match s.busRead t src n with
  | (.error e, s) => (e, s)
  | (.ok bs, s) =>
    let w := s.busWrite t dst bs
    if w.1 == DONE then w.2.busWrite t stage bs else w

/-- Phase 1 for one sequence: its new entries' payloads are written and staged (Table 7.9). -/
def State.attAppend (s : State) (t row : Nat) (c rec : List Byte) : Nat × State :=
  let ne := u rec 4 1
  let nw := u rec 5 1
  let sz := sliceSize (tcFmtB c) (tcK c) (tcN c)
  if !atAppend c then (DONE, s)
  else (List.range (min nw 4)).foldl (fun (e, s) n =>
    let a := u rec (152 + 8 * n) 8
    if e != DONE || a == 0 then (e, s)
    else s.copyKv t (kvNewAddr (s.descB (tcB c)) s.appendMax n row) (a + 32 + atOff c)
      (byteAddr (s.descB (atStage c)) [0, ((ne - nw + n : Nat) : Int), (row : Int)]) sz) (DONE, s)

/-- The error of a read. -/
def errOf : Except Nat (List Byte) → Option Nat
  | .error e => some e
  | .ok _ => none

/-- One sequence of an ATTEND: status and saturations (R335). -/
def State.attRow (s : State) (t row : Nat) (c : List Byte) : (Nat × Nat) × State :=
  let sz := sliceSize (tcFmtB c) (tcK c) (tcN c)
  let da := s.descB (tcA c)
  let dc := s.descB (tcC c)
  match s.busRead t (byteAddr (s.descB (atWalk c)) [0, (row : Int)]) 256 with
  | (.error e, s) => ((e, 0), s)
  | (.ok rec, s) =>
    let (e, s) := s.attAppend t row c rec
    if e != DONE then ((e, 0), s)
    else
      let ne := min (u rec 4 1) (atWindow c)
      let st := s.descB (atStage c)
      let (slices, s) := (List.range ne).foldl (fun (l, s) k =>
        match s.busRead t (byteAddr st [0, (k : Int), (row : Int)]) sz with
        | (.ok bs, s) => (l ++ [Except.ok bs], s)
        | (.error e, s) => (l ++ [Except.error e], s)) (([] : List (Except Nat (List Byte))), s)
      match slices.findSome? errOf with
      | some e => ((e, 0), s)
      | none =>
        match s.readElems t da ((List.range (tcK c)).map (fun k => coord2 da k row)) with
        | (.error e, s) => ((e, 0), s)
        | (.ok q, s) =>
          let q := q.map (fun x => (convertElem (tcFmtA c) 8 false false x).1)
          let fs := (List.range 32).map (fun j => s.regN (Reg.TAC_ROPE (atLayer c) j))
          let att := (List.range ne).filter (fun e => bits (u rec 16 4) e 1 == 1)
          let sv := att.map (fun e =>
            let sl : List Byte := (slices.getD e (.error 0)).toOption.getD []
            let (k, v) := dequant (tcFmtB c) (tcK c) (tcN c) sl
            (score (tcScale c) q (rotate (i rec (24 + 4 * e) 4) (atRope c) fs k), v))
          let out := (mixRow (tcN c) sv).map (convertElem 8 (tcFmtOut c) (tcFlag c 0) (tcFlag c 1))
          let (e, s) := s.storeElems t dc ((List.range (tcN c)).map (fun d => (coord2 dc d row, (out.getD d (0, false)).1)))
          ((e, (out.filter (·.2)).length), s)

/-- Row `j` of an ATTEND as an output block: a mismatch found in it is removed by a replay, or stays (R222 to R226). -/
def State.attBlock (s : State) (t : Nat) (c : List Byte) (f : TileFault) (j : Nat) : BlockEnd × State :=
  let fix : Fix := match f with
    | .none => .clean
    | .acc k _ again => if k == j then (if again then .stays else .retried) else .clean
    | .instr k _ _ again => if k == j then (if again then .stays else .retried) else .clean
    | .copy k again => if k == j then (if again then .stays else .retried) else .clean
  if fix == .stays then (⟨DONE, 0, .stays⟩, s)
  else
    let (r, s) := s.attRow t j c
    (⟨r.1, r.2, fix⟩, s)

/-- Sequences of an ATTEND in row order, as many as `lim` allows (R335). -/
def State.attWork (s : State) (t : Nat) (c : List Byte) (f : TileFault) (lim : Option Nat) : WorkEnd × State :=
  State.eachBlock t (fun j s => s.attBlock t c f j) (List.range (match lim with
    | some n => min n (tcM c)
    | none => tcM c)) s

end Sys2Proof.Machine
end

