-- ==== Sys2Proof/Machine/Tile.lean ====
section
/-! DEFINITION. Machine/Tile.lean: tiles at work: the opcodes of Table 5.6, errors and their reactions (R218 to R227), death, spares and the
swap (R228 to R240, R576 to R578), and the ATTEND that TAC issues at the end of a walk (R330 to R341). -/

namespace Sys2Proof.Machine

/-! ### Conditions of SAF -/

/-- Raise or clear a condition of Table 13.3, with its sticky copy (Table 13.12). -/
def State.setCond (s : State) (b : Nat) (v : Bool) : State :=
  let s := s.setBit Reg.SAF_COND b v
  if v then s.setBit Reg.SAF_COND_W1C b true else s

/-! ### ATTEND and the decode of a track -/

/-- The decode of a sequence did not complete: its new entries become holes and FLD hears of it (R315, R340, R370). -/
def State.decodeLost (s : State) (n : Nat) : State :=
  ({ s with tac := { s.tac with decoding := s.tac.decoding.filter (fun d => d.1 != n) } }.entriesHole n).decodeMissed n

/-- An ATTEND of TAC ended with a status (R313, R315, R340, R369). An ahead decode that was discarded has no entry left (R341). -/
def State.attendEnd (s : State) (t : Nat) (cmd : TileCmd) (code : Nat) : State :=
  if tcOp cmd.desc != opAttend || cmd.id != idTac then s
  else
    match s.tac.decoding.find? (fun d => d.2.1 == t) with
    | none => s
    | some d =>
      if !isDone code then s.decodeLost d.1
      else if atLast cmd.desc then
        let dc := s.descB (tcC cmd.desc)
        let row := s.bytesAt (byteAddr dc []) (runBytes dc)
        let s := { s with tac := { s.tac with decoding := s.tac.decoding.filter (fun e => e.1 != d.1) } }
        let s := if d.2.2 then s else s.entriesValid d.1
        s.decodeDone d.1 (Config.decoderRow (s.trk d.1) row)
      else s

/-- A command of a tile completes at its issuer (R219, R231). -/
def State.cmdComplete (s : State) (t : Nat) (cmd : TileCmd) (code : Nat) : State := (s.cmdEnd t cmd code).attendEnd t cmd code

/-- The running command of a tile completes, and the next may start. -/
def State.tileFinish (s : State) (t code : Nat) : State :=
  match (s.tile t).run with
  | none => s
  | some r => ((s.setTile t { s.tile t with run := none }).cmdComplete t r.cmd code).armTile t

/-- The device time has reached a command's DEADLINE (R218). -/
def State.pastDeadline (s : State) (c : List Byte) : Bool := tcDeadline c != 0 && decide (tcDeadline c ≤ s.ns)

/-- TILE_COMMAND_COMPLETE: the command that has reached its result completes with its highest code (R40, R219), which is DEADLINE_ABANDONED or
higher once its DEADLINE has been reached (R218). -/
def State.tileComplete (s : State) (t : Nat) : State :=
  match (s.tile t).run with
  | some r => if r.finished then s.tileFinish t (topCode ((if s.pastDeadline r.cmd.desc then [DEADLINE_ABANDONED] else []) ++ r.codes)) else s
  | none => s

/-- TILE_COMMAND_COMPLETE row (R219). -/
def execTileCommandComplete (t : Fin 34) (s : State) : Host.Outcome State Fault Refusal := .next (s.tileComplete t)

/-! ### Death and the swap -/

/-- Tile t holds a place of the plan of its stage, and this is the plan tile it stands for (R235). -/
def State.planTileOf (s : State) (t : Nat) : Nat := ((s.tca.subst.find? (fun p => p.2 == t)).map (·.1)).getD t

/-- Mark a tile in TCA_DEAD_MAP (R244). -/
def State.setDeadBit (s : State) (t : Nat) (v : Bool) : State :=
  if t < 32 then s.setBit Reg.TCA_DEAD_MAP0 t v else s.setBit Reg.TCA_DEAD_MAP1 (t - 32) v

/-- The lowest-numbered SPARE tile (R235). -/
def State.spareTile (s : State) : Option Nat := (List.range 34).find? (fun t => (s.tile t).st == .spare)

/-- No SPARE tile is left for a dead one (R237). -/
def State.noSpareLeft (s : State) : State :=
  ({ s with tca := { s.tca with noSpare := true } }.setBit Reg.TCA_SWAP_ST 17 true).event 0x0E 3 0x0E05 0 []

/-- A swap of a dead tile starts: the lowest spare is powered (R235, Table 5.9). -/
def State.startSwap (s : State) (dead : Nat) : State :=
  if s.bit Reg.TCA_CTRL 0 then s
  else
    match s.spareTile with
    | none => s.noSpareLeft
    | some sp =>
      let s := (s.setPower sp true).setTile sp { s.tile sp with st := .waking }
      let s := { s with tca := { s.tca with swap := some { dead := dead, spare := sp } } }
      ((s.setFld Reg.TCA_SWAP_ST 0 6 dead).setFld Reg.TCA_SWAP_ST 8 6 sp).setBit Reg.TCA_SWAP_ST 16 true

/-- The next waiting swap starts (R238). -/
def State.nextSwap (s : State) : State :=
  match s.tca.swap, s.tca.waiting with
  | none, d :: r => { s with tca := { s.tca with waiting := r } }.startSwap d
  | _, _ => s

/-- The cap that the SAFETY section names for the swap of a stage (R578). -/
def State.swapCapOf (s : State) (k : Nat) : Nat := SMap.get 3 s.saf.swapLevel k

/-- SWAP is raised for a stage on its short plan, with the lowest cap of the stages affected (R234, R578). -/
def State.raiseSwap (s : State) (k : Nat) : State :=
  let short := k :: s.tca.short
  { s with tca := { s.tca with short := short }, saf := { s.saf with swapCap := (short.map s.swapCapOf).foldl min 3 } }.setCond 6 true

/-- A tile is declared dead by SAF (R225, R230, R231, R238): logged, revoked, isolated, its commands discarded, and its stage's swap begun.
`cause`: 1 heartbeat, 2 uncorrectable mismatches, 3 BIST. -/
def State.tileDeath (s : State) (t cause : Nat) : State :=
  let s := s.event 0x0E 3 0x0E0D 0 [BitVec.ofNat 8 t, BitVec.ofNat 8 cause]
  let x := s.tile t
  if x.st == .dead then s
  else
    let cmds := (x.run.map (·.cmd)).toList ++ x.stageQ ++ x.bgQ
    let s := ((s.setRevoked t true).setDeadBit t true).setPower t false
    let s := (s.noWait (.tile t .stage)).noWait (.tile t .background)
    let s := s.setTile t { x with st := .dead, stageQ := [], bgQ := [], run := none, stageGo := false, bgGo := false, inj := none, window := false }
    let s := cmds.foldl (fun s c => s.cmdComplete t c BUS_ERROR_FENCED) s
    let s := match s.tca.swap with
      | some w =>
        if w.spare == t then { s with tca := { s.tca with swap := none, short := if w.phase == 3 then s.tca.short.erase (x.serves.getD 0) else s.tca.short } }
        else s
      | none => s
    match x.serves with
    | none => s
    | some k => ({ s.raiseSwap k with tca := { (s.raiseSwap k).tca with waiting := insertBy (fun a b => decide (a ≤ b)) t s.tca.waiting } }).nextSwap

/-- SPARE_WAKE_DONE: the waking spare enters TESTING and its BIST starts (Table 5.9, t5). -/
def State.spareWake (s : State) : State :=
  match s.tca.swap with
  | some w =>
    if w.phase == 0 then
      { s with tca := { s.tca with swap := some { w with phase := 1 } } }.setTile w.spare { s.tile w.spare with st := .testing }
    else s
  | none => s

/-- SPARE_WAKE_DONE row (R235). -/
def execSpareWakeDone (s : State) : Host.Outcome State Fault Refusal := .next s.spareWake

/-- The spare is granted the hurdle rules the dead tile held (R14, R574). -/
def State.grantRules (s : State) (dead spare : Nat) : State :=
  let more := (s.saf.rules.filter (fun r => r.idLo ≤ dead && dead ≤ r.idHi)).map (fun r => { r with idLo := spare, idHi := spare })
  { s with saf := { s.saf with rules := s.saf.rules ++ more } }

/-- SPARE_BIST_DONE: a pass grants the rules; a failure is the spare's death, and the swap starts again with the next (R230, R237). -/
def State.spareBist (s : State) (passed : Bool) : State :=
  match s.tca.swap with
  | some w =>
    if w.phase != 1 then s
    else if passed then { s with tca := { s.tca with swap := some { w with phase := 2 } } }.grantRules w.dead w.spare
    else
      let s := (s.tileDeath w.spare 3).setBit Reg.TCA_SWAP_ST 16 false
      s.startSwap w.dead
  | none => s

/-- SPARE_BIST_DONE row (R237). -/
def execSpareBistDone (passed : Bool) (s : State) : Host.Outcome State Fault Refusal := .next (s.spareBist passed)

/-- DML loads the image of a tile's place in the plan into its memory (R236). -/
def State.reloadTile (s : State) (t : Nat) : State :=
  let p := s.planTileOf t
  (s.content.tileImg.filter (fun x => x.1 == p)).foldl (fun s x => s.store (t * 0x100000 + x.2.1) x.2.2) s

/-- SPARE_LOAD_DONE: the tile image of the dead tile's place is in the spare's memory, and the spare is ACTIVE (R236, Table 5.9, t9). -/
def State.spareLoad (s : State) : State :=
  match s.tca.swap with
  | some w =>
    if w.phase != 2 then s
    else
      let p := s.planTileOf w.dead
      let s := (s.content.tileImg.filter (fun x => x.1 == p)).foldl (fun s x => s.store (w.spare * 0x100000 + x.2.1) x.2.2) s
      let s := s.setTile w.spare { s.tile w.spare with st := .active, serves := (s.tile w.dead).serves }
      let s := s.setTile w.dead { s.tile w.dead with serves := none }
      { s with tca := { s.tca with swap := some { w with phase := 3 }, subst := (s.tca.subst.filter (fun q => q.1 != p)) ++ [(p, w.spare)] } }
  | none => s

/-- SPARE_LOAD_DONE row (R235). -/
def execSpareLoadDone (s : State) : Host.Outcome State Fault Refusal := .next s.spareLoad

/-- The swap is complete: logged, and SWAP clears unless another dead tile still waits or has no spare (Table 5.9, t11; R235, R237). -/
def State.swapComplete (s : State) : State :=
  let s := { s with tca := { s.tca with swap := none } }.setBit Reg.TCA_SWAP_ST 16 false
  let s := s.event 0x0E 1 0x0E06 0 []
  let s := if s.tca.short.isEmpty then s.setCond 6 false
           else { s with saf := { s.saf with swapCap := (s.tca.short.map s.swapCapOf).foldl min 3 } }
  s.nextSwap

/-- At C_i: a loaded spare enters its stage's plan, and a spare that has served a step without a miss or a mismatch ends the swap; the
heartbeats of the step past are judged (R229, Table 5.9). Runs before the next step number is taken. -/
def State.tcaStep (s : State) : State :=
  let s := match s.tca.swap with
    | some w =>
      if w.phase == 3 then
        { s with tca := { s.tca with swap := some { w with phase := 4 }, short := s.tca.short.erase ((s.tile w.spare).serves.getD 0) } }
      else if w.phase == 4 && !(s.tile w.spare).missed && decide ((s.tile w.spare).lastBad ≠ some s.stepNo) then s.swapComplete
      else s
    | none => s
  (List.range 34).foldl (fun s t =>
    let x := s.tile t
    if x.st != .active then s
    else (if x.missed then s else s.setFld (Reg.TCA_T_HB t) 0 2 0).setTile t { x with missed := false }) s

/-- TILE_HEARTBEAT_MISS: counted once per step; the third in a row is the tile's death (R229, R230). -/
def State.heartbeatMiss (s : State) (t : Nat) : State :=
  let x := s.tile t
  if x.st != .active || x.missed || !s.csq.running then s
  else
    let s := (s.setTile t { x with missed := true }).countSat (Reg.TCA_T_HB t) 16 16 1
    let n := s.fld' (Reg.TCA_T_HB t) 0 2 + 1
    let s := s.setFld (Reg.TCA_T_HB t) 0 2 (min n 3)
    if 3 ≤ n then s.tileDeath t 1 else s

/-- TILE_HEARTBEAT_MISS row (R229). -/
def execTileHeartbeatMiss (t : Fin 34) (s : State) : Host.Outcome State Fault Refusal := .next (s.heartbeatMiss t)

/-! ### What the checking mechanisms found (R223 to R227) -/

/-- An uncorrectable mismatch: counted, logged, reported to SAF; the second within 1,000 steps is the tile's death (R225, R226, Table 13.2).
The status its command completes with. -/
def State.tileUncorr (s : State) (t : Nat) : Nat × State :=
  let x := s.tile t
  let again := match x.lastBad with
    | some b => decide (s.stepNo < b + 1000)
    | none => false
  let s := (s.countSat (Reg.TCA_T_UNCORR t) 0 8 1).setFld (Reg.TCA_T_UNCORR t) 8 24 s.stepNo
  let s := s.event 0x06 2 0x0602 0 ([BitVec.ofNat 8 t] ++ leBytes 4 s.stepNo)
  let s := if x.serves == some 1 && s.inWindow then s.raiseStepDoubt else s
  let s := s.setTile t { s.tile t with lastBad := some s.stepNo }
  if again then (BUS_ERROR_FENCED, s.tileDeath t 2) else (BUS_ERROR_UNCORRECTABLE, s)

/-- The armed fault is injected into the tile's next block or instruction and detected there (R227). -/
def State.useInjection (s : State) (t : Nat) : State :=
  if (s.tile t).inj.isSome then (s.setTile t { s.tile t with inj := none }).countSat (Reg.TCA_T_INJ_CNT t) 0 32 1 else s

/-- Run a command's work: a mismatch that stays ends it (R226). `late`: device time reaches a DEADLINE of the command while block `late` is in
work, and the command is abandoned at that block's end (R218). `work` does as many blocks as it is given, or all. -/
def State.tileWork (s : State) (t : Nat) (c : List Byte) (late : Option Nat) (total : Nat) (work : Option Nat → State → WorkEnd × State) : State :=
  let cut : Option Nat := match late with
    | some n => if tcDeadline c != 0 && decide (n + 1 < total) then some (n + 1) else none
    | none => none
  let (w, s) := work cut (s.useInjection t)
  if w.stays then
    let (code, s) := s.tileUncorr t
    s.tileResult t (code :: w.codes)
  else
    match cut with
    | some _ => if w.codes.all isDone then (s.reach (tcDeadline c * nsT)).tileFinish t DEADLINE_ABANDONED else s.tileResult t w.codes
    | none => s.tileResult t w.codes

/-- The tile's next command has an opcode: start it and do its work (R217). -/
def State.tileOp (s : State) (t op : Nat) (work : List Byte → State → State) : State :=
  match s.tileNext t with
  | some (q, c) => if tcOp c.desc == op then work c.desc (s.tileStart t q c) else s
  | none => s

/-- The work of an opcode that computes (Table 5.6): blocks in all, and the work. -/
def State.opTotal (s : State) (t : Nat) (c : List Byte) : Nat :=
  if tcOp c == opAttend then tcM c
  else if tcOp c == opKernel then ((s.kernelOf t c).map (fun x => s.blockCount x.1)).sum
  else s.blockCount c
def State.opWork (s : State) (t : Nat) (c : List Byte) (f : TileFault) (lim : Option Nat) : WorkEnd × State :=
  if tcOp c == opAttend then s.attWork t c f lim
  else if tcOp c == opKernel then State.kernelWork t f (s.kernelOf t c) lim s
  else s.cmdWork t c f lim

/-- A tile starts its next command, of an opcode that computes, and does its work. -/
def State.tileCompute (s : State) (t op : Nat) (f : TileFault) (late : Option Nat) : State :=
  s.tileOp t op (fun c s => s.tileWork t c late (s.opTotal t c) (fun n s => s.opWork t c f n))

/-- MATMUL row (R205 to R210). -/
def execMatmul (t : Fin 34) (e : TileEvents) (s : State) : Host.Outcome State Fault Refusal :=
  .next (s.tileCompute t opMatmul e.fault e.late)

/-- CONV row (Table 5.6). -/
def execConv (t : Fin 34) (e : TileEvents) (s : State) : Host.Outcome State Fault Refusal :=
  .next (s.tileCompute t opConv e.fault e.late)

/-- VECTOR row (R211 to R214). -/
def execVector (t : Fin 34) (e : TileEvents) (s : State) : Host.Outcome State Fault Refusal :=
  .next (s.tileCompute t opVector e.fault e.late)

/-- KERNEL row (Table 5.6). -/
def execKernel (t : Fin 34) (e : TileEvents) (s : State) : Host.Outcome State Fault Refusal :=
  .next (s.tileCompute t opKernel e.fault e.late)

/-- ATTEND row (R335 to R338). -/
def execAttend (t : Fin 34) (e : TileEvents) (s : State) : Host.Outcome State Fault Refusal :=
  .next (s.tileCompute t opAttend e.fault e.late)

/-- SYNC row: every earlier command of both queues has completed (Table 5.6). -/
def execSync (t : Fin 34) (s : State) : Host.Outcome State Fault Refusal :=
  .next (s.tileOp t opSync (fun _ s => s.tileResult t [DONE]))

/-- BIST row: the self-test of a tile in TESTING; a failure is its death (Table 5.6, R230). -/
def execBist (t : Fin 34) (passed : Bool) (s : State) : Host.Outcome State Fault Refusal :=
  .next (s.tileOp t opBist (fun _ s => if passed then s.tileResult t [DONE] else s.tileDeath t 3))

/-! ### Deadlines (R218) -/

/-- The earliest command of a tile whose deadline is not zero: the running one, or its place in a queue. -/
def State.tileDue (s : State) (t : Nat) : Option (Option TileQueue × TileCmd) :=
  let x := s.tile t
  let l := ((x.run.map (fun r => ((none : Option TileQueue), r.cmd))).toList ++ x.stageQ.map (fun c => (some TileQueue.stage, c)) ++
    x.bgQ.map (fun c => (some TileQueue.background, c))).filter (fun p => tcDeadline p.2.desc != 0)
  l.foldl (fun b p => match b with
    | none => some p
    | some q => if tcDeadline p.2.desc < tcDeadline q.2.desc then some p else b) none

/-- TILE_DEADLINE: the command is abandoned with DEADLINE_ABANDONED; what it stored stays (R218). -/
def State.tileDeadline (s : State) (t : Nat) : State :=
  match s.tileDue t with
  | none => s
  | some (w, c) =>
    let s := s.reach (tcDeadline c.desc * nsT)
    match w with
    | none => s.tileFinish t DEADLINE_ABANDONED
    | some q =>
      let x := s.tile t
      let front := (x.queue q).head? == some c
      let s := if front then (s.noWait (.tile t q)).setTile t (x.setQueue q ((x.queue q).drop 1))
               else s.setTile t (match q with
                 | .stage => { x with stageQ := x.stageQ.erase c }
                 | .background => { x with bgQ := x.bgQ.erase c })
      (s.cmdComplete t c DEADLINE_ABANDONED).armTile t

/-- TILE_DEADLINE row (R218). -/
def execTileDeadline (t : Fin 34) (s : State) : Host.Outcome State Fault Refusal := .next (s.tileDeadline t)

/-! ### Injection and offline BIST (R227, R239, R240, R243) -/

/-- A write to TCA_Tn_INJECT (R227). -/
def State.doTileInject (s : State) (t : Nat) (w : W32) : State :=
  if s.feat 9 && bits w.toNat 0 2 != 0 then s.setTile t { s.tile t with inj := some w } else s

/-- TILE_INJECT row (R227). -/
def execTileInject (t : Fin 34) (w : W32) (s : State) : Host.Outcome State Fault Refusal :=
  .next (s.hostAccess .write (Reg.TCA_T_INJECT t) (fun s => s.doTileInject t w))

/-- A write to TCA_BIST_REQ (R239, R243). -/
def State.doBistReq (s : State) (t : Nat) : State :=
  s.unlessBusy Reg.TCA_BIST_ST 16 (fun s =>
    if s.pwr != 2 || s.inTransition || 34 ≤ t || (s.tile t).st != .dead then s.status Reg.TCA_BIST_ST REFUSED_STATE
    else
      let s := { s with tca := { s.tca with bist := some t } }
      ((s.setFld Reg.TCA_BIST_ST 8 6 t).setBit Reg.TCA_BIST_ST 16 true).setBit Reg.TCA_BIST_ST 17 false)

/-- OFFLINE_BIST_REQUEST row (R239). -/
def execOfflineBistRequest (t : BitVec 6) (s : State) : Host.Outcome State Fault Refusal :=
  .next (s.hostCmd Reg.TCA_BIST_REQ (fun s => s.doBistReq t.toNat))

/-- Rules that name an ID, without that ID (R240). -/
def splitRule (t : Nat) (r : Rule) : List Rule :=
  if r.idLo ≤ t && t ≤ r.idHi then
    (if r.idLo < t then [{ r with idHi := t - 1 }] else []) ++ (if t < r.idHi then [{ r with idLo := t + 1 }] else [])
  else [r]

/-- OFFLINE_BIST_DONE: a tile that passes becomes SPARE with its ID restored and none of a stage's rules; one that fails stays DEAD (R240,
R577). -/
def State.bistDone (s : State) (passed : Bool) : State :=
  match s.tca.bist with
  | none => s
  | some t =>
    let s := { s with tca := { s.tca with bist := none } }
    let s := (((s.status Reg.TCA_BIST_ST DONE).setBit Reg.TCA_BIST_ST 16 false).setBit Reg.TCA_BIST_ST 17 passed).msix 2
    if passed then
      let s := (s.setRevoked t false).setDeadBit t false
      let s := { s with saf := { s.saf with rules := s.saf.rules.flatMap (splitRule t) } }
      s.setTile t { s.tile t with st := .spare, serves := none, lastBad := none }
    else s

/-- OFFLINE_BIST_DONE row (R240). -/
def execOfflineBistDone (passed : Bool) (s : State) : Host.Outcome State Fault Refusal := .next (s.bistDone passed)

/-! ### The end of a walk -/

/-- Stage a walk for one history layer and issue its ATTEND on the tile's stage queue (R330 to R334, R340): the tile's answer. -/
def State.issueAttend (s : State) (w : Walk) (c : List Byte) : Nat × State :=
  let (rec, staged, future) := s.walkRecord w c
  let s := s.countSat Reg.TAC_FUTURE_CNT 0 32 future
  let sz := sliceSize (tcFmtB c) (tcK c) (tcN c)
  let wk := s.descB (atWalk c)
  let st := s.descB (atStage c)
  let (_, s) := s.busWrite idTac (dBase wk) rec
  let s := (List.range staged.length).foldl (fun s e =>
    (s.busWrite idTac (dBase st + e * dStride st 1) (s.bytesAt (staged.getD e 0 + 32 + atOff c) sz)).2) s
  let c := patch (patch (patch c 4 (leBytes 2 1)) 32 (leBytes 8 (s.decodeEnd w.step))) 40 (leBytes 4 (w.step % 2 ^ 32))
  s.tileEnqueue w.tile .stage idTac c

/-- The staged window of a tile is still in use by an ATTEND that has not completed (log entry 18). -/
def State.staging (s : State) (t : Nat) : Bool := s.tac.decoding.any (fun d => d.2.1 == t)

/-- WALK_END: the walk releases its version, and TAC issues the ATTEND of each history layer (R327, R330); an ATTEND that the tile refuses
leaves the decode missing. -/
def State.walkEnd (s : State) (n : Nat) : State :=
  match s.tacOn, s.tac.walks.find? (fun (w : Walk) => w.slot == n) with
  | true, some w =>
    if s.staging w.tile then s
    else
      let s := { s with tac := { s.tac with walks := s.tac.walks.filter (fun (v : Walk) => v.slot != n) } }
      let s := if s.seqSt n == 1 then
          let s := { s with tac := { s.tac with decoding := s.tac.decoding ++ [(n, w.tile, w.ahead)] } }
          let (code, s) := s.content.attend.foldl (fun (a, s) c => if a != DONE then (a, s) else s.issueAttend w c) (DONE, s)
          if code != DONE then s.decodeLost n else s
        else s
      (s.sweepRetired).retryPgt
  | _, _ => s

/-- WALK_END row (R327, R332). -/
def execWalkEnd (slot : BitVec 20) (s : State) : Host.Outcome State Fault Refusal := .next (s.walkEnd slot.toNat)

end Sys2Proof.Machine
end

