-- ==== Sys2Proof/Machine/Fallback.lean ====
section
/-! DEFINITION. Machine/Fallback.lean: the fallback function of island pair B (R579 to R583): its dead reckoning, its tracks, and the records
it publishes. The numerics of its filter are not in the manual (log entry 12). -/

namespace Sys2Proof.Machine

/-- Pair B runs the fallback (Table 13.1). -/
def State.fbOn (s : State) : Bool := s.powered 88 && s.saf.pairB.up

/-- TO_SAF of a slot's record (Table 3.16). -/
def State.toSaf (s : State) (n : Nat) : Bool := (s.slot n).bound && bits (recFlags (s.slot n).record) 3 1 == 1

/-- State numbers of a fallback track. -/
def FbTrk.nums (t : FbTrk) : List Int := [t.x, t.y, t.speed, t.heading, t.yawRate]

/-- What a motion of constant speed (Q22.10 mm/s) and turn rate (µrad/s) adds to x, y and heading in `ns` from a heading in µrad: the chord of
the arc, v dt sin(a) / a along the heading turned by a = w dt / 2; a straight line at zero turn rate (R580). -/
def arc (heading speed rate ns : Int) : Int × Int × Int :=
  let h := roundAway (rate * ns) 1000000000
  let n2 := (rate * ns) ^ 2 * 2 ^ 62 / (2000000000 * 1000000) ^ 2
  let d := speed * ns * sinc n2
  let m := heading + roundAway h 2
  (roundAway (d * cosQ62 m) (2 ^ 124 * 1000000000), roundAway (d * sinQ62 m) (2 ^ 124 * 1000000000), h)

/-- Its state predicted to an instant, NS64, with the constant-turn-rate model (R580). -/
def FbTrk.at (t : FbTrk) (q : Nat) : List Int :=
  let d := arc t.heading t.speed t.yawRate ((q : Int) - t.last)
  [t.x + d.1, t.y + d.2.1, t.speed, wrapAngle (t.heading + d.2.2), t.yawRate]

/-- The dead-reckoned pose at an instant, NS64: x, y, heading, speed, yaw rate (R580). -/
def State.drAt (s : State) (q : Nat) : List Int :=
  let p := s.saf.dr
  let d := arc (elem p 2) (elem p 3) (elem p 4) ((q : Int) - s.saf.drTime)
  [elem p 0 + d.1, elem p 1 + d.2.1, wrapAngle (elem p 2 + d.2.2), elem p 3, elem p 4]

/-- Turn a vector by an angle in µrad. -/
def turn (h x y : Int) : Int × Int :=
  let c := cosQ30 h
  let n := sinQ30 h
  (roundAway (x * c - y * n) (2 ^ 30), roundAway (x * n + y * c) (2 ^ 30))

/-- A fallback track in the frame of the list at an instant: x, y, vx, vy (Q22.10), heading, yaw rate. A static device's pose is fixed. -/
def State.fbVeh (s : State) (t : FbTrk) (q : Nat) : List Int :=
  let p := t.at q
  let sp := p.getD 2 0
  if s.egoStatic then
    let v := turn (p.getD 3 0) sp 0
    [p.getD 0 0, p.getD 1 0, v.1, v.2, p.getD 3 0, p.getD 4 0]
  else
    let d := s.drAt q
    let r := turn (-(d.getD 2 0)) (p.getD 0 0 - d.getD 0 0) (p.getD 1 0 - d.getD 1 0)
    let h := wrapAngle (p.getD 3 0 - d.getD 2 0)
    let v := turn h sp 0
    [r.1, r.2, v.1, v.2, h, p.getD 4 0]

/-- EXIST of a fallback track: 128 TENTATIVE; 230 on confirmation, falling linearly to 26 over FB_COAST without updates (R582). -/
def State.fbExist (s : State) (t : FbTrk) (q : Nat) : Nat :=
  if t.st == 1 then 128
  else 230 - min 204 (204 * (q - t.last) / max 1 (s.fld' Reg.SAF_FB_CFG 16 16 * 1000000))

/-- Fallback identifier of a slot (R580). -/
def State.fbId (s : State) (k : Nat) (t : FbTrk) : Nat := s.devNo * 2 ^ 58 + 2 ^ 57 + t.gen % 256 * 256 + k

/-- Largest cluster extent of the last three updates (R583). -/
def FbTrk.extent (t : FbTrk) : Nat × Nat × Nat :=
  t.ext.foldl (fun a e => (max a.1 e.1, max a.2.1 e.2.1, max a.2.2 e.2.2)) (0, 0, 0)

/-- Set the fallback tracks, and their count in SAF_FB_ST (Table 13.12). -/
def State.setFb (s : State) (m : SMap FbTrk) : State := { s with saf := { s.saf with fb := m } }.setFld Reg.SAF_FB_ST 0 9 m.length

/-- Squared distance of a fallback track from the vehicle at an instant. -/
def State.fbDist2 (s : State) (t : FbTrk) (q : Nat) : Int :=
  let v := s.fbVeh t q
  v.getD 0 0 * v.getD 0 0 + v.getD 1 0 * v.getD 1 0

/-- Fallback slots in ascending distance from the vehicle. -/
def State.fbByDistance (s : State) (q : Nat) : List (Nat × FbTrk) :=
  sortBy (fun (a b : Nat × FbTrk) => decide (s.fbDist2 a.2 q < s.fbDist2 b.2 q) || (s.fbDist2 a.2 q == s.fbDist2 b.2 q && decide (a.1 ≤ b.1))) s.saf.fb

/-- A dropped measurement or cluster (SAF_FB_DROP). -/
def State.fbDrop (s : State) : State := s.countSat Reg.SAF_FB_DROP 0 32 1

/-- A measurement: time NS64, frame position Q22.10 mm, σ in mm, extents, the revolution it belongs to, its modality bit. -/
structure FbMeas where
  time : Nat
  x : Int
  y : Int
  sigma : Nat
  ext : Option (Nat × Nat × Nat)
  rev : Option (Nat × Nat)
  mod : Nat
  deriving DecidableEq, Repr

/-- Position of a vehicle-frame point in the dead-reckoned frame at its time. -/
def State.toDr (s : State) (q : Nat) (x y : Int) : Int × Int :=
  if s.egoStatic then (x, y)
  else
    let d := s.drAt q
    let r := turn (d.getD 2 0) x y
    (r.1 + d.getD 0 0, r.2 + d.getD 1 0)

/-- The squared Mahalanobis distance of a measurement from a track, Q16.16: νᵀ S⁻¹ ν, with ν the measurement less the predicted position
(Q22.10 mm) and S the sum of the track's covariance and σ² (R581). -/
def FbTrk.dist (t : FbTrk) (m : FbMeas) : Nat :=
  let p := t.at m.time
  let l := Config.fbCov (p ++ t.cov)
  let v : Int := m.sigma * m.sigma
  let sxx := l.1 * l.1 + v
  let sxy := l.1 * l.2.1
  let syy := l.2.1 * l.2.1 + l.2.2 * l.2.2 + v
  let dx := m.x - elem p 0
  let dy := m.y - elem p 1
  let det := sxx * syy - sxy * sxy
  if det ≤ 0 then Config.fbDist (p ++ t.cov) [m.x, m.y, m.sigma]
  else ((syy * dx * dx - 2 * sxy * dx * dy + sxx * dy * dy) * 2 ^ 16 / (2 ^ 20 * det)).toNat

/-- The gated track with the smallest squared distance that may take the measurement (R581). -/
def State.fbMatch (s : State) (m : FbMeas) : Option (Nat × FbTrk) :=
  let free := s.saf.fb.filter (fun (p : Nat × FbTrk) => match m.rev with
    | some r => !p.2.revs.contains r
    | none => true)
  let d (p : Nat × FbTrk) : Nat := p.2.dist m
  (free.filter (fun p => d p ≤ s.regN Reg.SAF_FB_GATE)).foldl (fun b p => match b with
    | none => some p
    | some c => if d p < d c then some p else b) none

/-- Update a track by its measurement; an older one is dropped for the track (R581, R582). -/
def State.fbApply (s : State) (k : Nat) (t : FbTrk) (m : FbMeas) : State :=
  if m.time < t.last then s.fbDrop
  else
    let v := Config.fbUpdate (t.at m.time ++ t.cov) [m.x, m.y, m.sigma]
    let n := t.updates + 1
    let conf := t.st == 1 && s.fld' Reg.SAF_FB_CFG 0 8 ≤ n && m.time ≤ t.born + 300000000
    s.setFb (SMap.insert s.saf.fb k { t with
      x := v.getD 0 0, y := v.getD 1 0, speed := v.getD 2 0, heading := v.getD 3 0, yawRate := v.getD 4 0, cov := v.drop 5
      last := m.time, updates := n, st := if conf then 2 else t.st
      revs := (m.rev.toList ++ t.revs).take 16, modmask := t.modmask ||| m.mod
      ext := match m.ext with
        | some e => (e :: t.ext).take 3
        | none => t.ext })

/-- A new TENTATIVE track in a slot (R580, R582). -/
def State.fbStart (s : State) (k : Nat) (m : FbMeas) : State :=
  let g := SMap.get 0 s.saf.fbGen k + 1
  let s := { s with saf := { s.saf with fbGen := SMap.put 0 s.saf.fbGen k (g % 256) } }
  s.setFb (SMap.insert s.saf.fb k { st := 1, gen := g % 256, x := m.x, y := m.y, speed := 0, heading := 0, yawRate := 0, born := m.time,
                                    last := m.time, revs := m.rev.toList, modmask := m.mod, ext := m.ext.toList })

/-- An unassociated cluster starts a track: a free slot, or that of the farthest TENTATIVE track when the cluster is nearer (R582). -/
def State.fbBirth (s : State) (m : FbMeas) (d2 : Int) : State :=
  match (List.range 256).find? (fun k => (SMap.find? s.saf.fb k).isNone) with
  | some k => s.fbStart k m
  | none =>
    match ((s.fbByDistance m.time).filter (fun (p : Nat × FbTrk) => p.2.st == 1)).getLast? with
    | some (k, t) => if d2 < s.fbDist2 t m.time then s.fbStart k m else s.fbDrop
    | none => s.fbDrop

/-- A cluster record read from the FCU's mailbox, four words (Table 3.12, Table 12.5); a word that cannot be corrected leaves it short. -/
def State.takeCluster (s : State) : List Byte × State :=
  (List.range 4).foldl (fun (b, s) _ =>
    match s.fifoGet 31 idIslB with
    | (.ok w, s) => (b ++ leBytes 8 w.toNat, s)
    | (.error _, s) => (b, s)) ([], s)

/-- A cluster record of the FCU (R581, R582). -/
def State.fbMeasure (s : State) (b : List Byte) : State :=
  if b.length != 32 then s
  else
    let q := u b 0 8
    let cx := i b 8 4 * 1024
    let cy := i b 12 4 * 1024
    let p := s.toDr q cx cy
    let m : FbMeas := { time := q, x := p.1, y := p.2, sigma := max (s.fld' Reg.SAF_FB_SIGMA 0 16) (max (u b 20 2) (u b 22 2) / 4),
                        ext := some (u b 20 2, u b 22 2, u b 24 2), rev := some (u b 28 1, u b 30 2), mod := 2 }
    match s.fbMatch m with
    | some (k, t) => s.fbApply k t m
    | none => if u b 26 2 < s.fld' Reg.SAF_FB_CFG 8 8 then s else s.fbBirth m (cx * cx + cy * cy)

/-- Scanner slot of the cluster record that waits first in the mailbox (Table 3.12). -/
def State.clusterSlot (s : State) : Nat := u (((s.fifo 31).drain.take 4).flatMap (fun w => leBytes 8 w.w.toNat)) 28 1

/-- The fallback takes the next cluster record that waits in its mailbox, when it is of a scanner (R579, R581). -/
def State.fbCluster (s : State) (slot : Nat) : State :=
  if !s.fbOn || (s.fifo 31).drain.length < 4 || s.clusterSlot != slot then s
  else
    let (b, s) := s.takeCluster
    s.fbMeasure b

/-- FB_CLUSTER row (R581). -/
def execFbCluster (slot : BitVec 8) (s : State) : Host.Outcome State Fault Refusal := .next (s.fbCluster slot.toNat)

/-- Yaw rate comes from IMU0, or IMU1 when IMU0 is absent; from steering only when no IMU is present (Table 13.6). -/
def State.yawFrom (s : State) (n : Nat) : Bool :=
  match s.imuSlot 0, s.imuSlot 1 with
  | some k, _ => k == n
  | none, some k => k == n
  | none, none => true

/-- A wheel, steering or inertial sample: the pose is carried to its time, and the speed and yaw rate it gives are taken, from a
PRESENT slot (R80, R579, R580). -/
def State.fbMotion (s : State) (m : MotionSample) : State :=
  let n := m.slot.toNat
  if !s.fbOn || !s.toSaf n || !s.forwards n then s
  else
    let d := if s.saf.drTime ≤ m.time then s.drAt m.time else s.saf.dr
    let d := [d.getD 0 0, d.getD 1 0, d.getD 2 0, m.speed.getD (d.getD 3 0), if s.yawFrom n then m.yawRate.getD (d.getD 4 0) else d.getD 4 0]
    let s := { s with saf := { s.saf with dr := d, drTime := max s.saf.drTime m.time, motionAt := s.now } }
    s.setBit Reg.SAF_FB_ST 17 false

/-- FB_MOTION_SAMPLE row (R580). -/
def execFbMotionSample (m : MotionSample) (s : State) : Host.Outcome State Fault Refusal := .next (s.fbMotion m)

/-- A partner list on a static device: each record is a measurement (R80, Table 13.6). -/
def State.fbPartner (s : State) (n : Nat) (b : List Byte) : State :=
  if !s.fbOn || !s.toSaf n || !s.forwards n || !s.egoStatic || !s.bit Reg.SAF_CTRL 2 || bits (u b 7 1) 5 1 == 0 || u b 6 1 < 2 then s
  else
    let at0 := 128 + u b 46 2
    (List.range (u b 44 2)).foldl (fun s k =>
      let r := (b.drop (at0 + 96 * k)).take 96
      let m : FbMeas := { time := (u b 24 8 * 1000000000 + u b 20 4), x := i r 12 4 * 1024, y := i r 16 4 * 1024,
                          sigma := s.fld' Reg.SAF_FB_SIGMA 16 16, ext := none, rev := none, mod := 4 }
      match s.fbMatch m with
      | some (j, t) => s.fbApply j t m
      | none => s) s

/-- FB_PARTNER_LIST row (R579). -/
def execFbPartnerList (slot : BitVec 8) (bytes : List Byte) (s : State) : Host.Outcome State Fault Refusal := .next (s.fbPartner slot.toNat bytes)

/-- A TENTATIVE track not confirmed within 300 ms of its birth, or a CONFIRMED one without update for FB_COAST, is deleted (R582). -/
def State.fbTimeout (s : State) (k : Nat) : State :=
  match s.fbOn, SMap.find? s.saf.fb k with
  | true, some t =>
    let s := s.reach ((if t.st == 1 then t.born + 300000000 else t.last + s.fld' Reg.SAF_FB_CFG 16 16 * 1000000) * nsT)
    s.setFb (SMap.erase s.saf.fb k)
  | _, _ => s

/-- FB_TRACK_TIMEOUT row (R582). -/
def execFbTrackTimeout (k : BitVec 8) (s : State) : Host.Outcome State Fault Refusal := .next (s.fbTimeout k.toNat)

/-- No wheel or IMU sample for 200 ms: dead reckoning is lost, and EGO_LOST is raised (Table 13.3). A static device never raises it. -/
def State.drLost (s : State) : State :=
  if !s.fbOn || s.egoStatic then s
  else ((s.reach (s.saf.motionAt + 200 * msT)).setBit Reg.SAF_FB_ST 17 true).setCond 13 true

/-- FB_DEAD_RECKONING_LOST row (R563). -/
def execFbDeadReckoningLost (s : State) : Host.Outcome State Fault Refusal := .next s.drLost

/-! ### Records (Table 10.4) -/

/-- A published record: identity, state codes, flags, numbers and the rest. -/
def pubRecord (gid st exist cls flags : Nat) (pos vel : List Int) (acc : List Int) (yaw rate : Int) (ext : List Byte) (solve mod hits : Nat)
    (emb : List Byte) : List Byte :=
  let mm (v : Int) : List Byte := leBytes 4 (ofSigned 32 (satInt 32 v))
  leBytes 8 gid ++ leBytes 1 st ++ leBytes 1 exist ++ leBytes 1 cls ++ leBytes 1 flags ++ pos.flatMap mm ++ vel.flatMap mm ++ acc.flatMap mm ++
    mm yaw ++ mm rate ++ fit 6 ext ++ leBytes 1 solve ++ leBytes 1 mod ++ leBytes 2 hits ++ [0, 0] ++ fit 32 emb

/-- Q22.10 to whole units, ties away from zero (R460). -/
def whole (v : Int) : Int := roundAway v 1024

/-- Bits of RFLAGS (Table 10.4). -/
abbrev rfFALLBACK : Nat := 128
abbrev rfSUBSTITUTED : Nat := 2

/-- The numbers of a fallback track that a record shows: position, velocity, heading, yaw rate. -/
def State.fbShow (s : State) (t : FbTrk) (q : Nat) : List Int × List Int × Int × Int :=
  let v := s.fbVeh t q
  let h := Config.fbHeight (t.at q)
  ([whole (v.getD 0 0), whole (v.getD 1 0), h.1], [whole (v.getD 2 0), whole (v.getD 3 0), h.2], wrapAngle (v.getD 4 0), v.getD 5 0)

/-- Extent bytes of a fallback track (R583). -/
def FbTrk.extBytes (t : FbTrk) : List Byte := leBytes 2 t.extent.1 ++ leBytes 2 t.extent.2.1 ++ leBytes 2 t.extent.2.2

/-- Record of a fallback track with given RFLAGS (R583). -/
def State.fbRecord (s : State) (k : Nat) (t : FbTrk) (q flags solve : Nat) : List Byte :=
  let (p, v, h, w) := s.fbShow t q
  pubRecord (s.fbId k t) t.st (s.fbExist t q) 0 flags p v [0, 0] h w t.extBytes solve t.modmask (min 65535 t.updates) []

/-- The fallback's list: all its tracks, nearest first, FALLBACK set (R459, R583). -/
def State.fbRecords (s : State) (q : Nat) : List (List Byte) :=
  (s.fbByDistance q).map (fun (p : Nat × FbTrk) => s.fbRecord p.1 p.2 q rfFALLBACK DONE)

end Sys2Proof.Machine
end

