-- ==== Sys2Proof/Machine/Safety.lean ====
section
/-! DEFINITION. Machine/Safety.lean: how the island judges the main path: doubts and conditions, the Checker, the verdict, the window
watchdogs, and the safety outputs and commands (R555 to R571, R584 to R595). -/

namespace Sys2Proof.Machine

/-- The step cycle is running on island time: some pair runs the service-level logic (R557, R585). -/
def State.islandOn (s : State) : Bool := s.powered 88 && (s.saf.pairA.up || s.saf.pairB.up)

/-- Level of the last step (SAF_STATUS). -/
def State.level (s : State) : Nat := s.fld' Reg.SAF_STATUS 0 3

/-! ### FLT_N, HB_OUT and the pairs (R556, R557, R584, R585) -/

/-- FLT_N goes to a level; a change raises vector 3 (R584, Table 17.3). -/
def State.setFlt (s : State) (low : Bool) : State :=
  if s.saf.fltLow == low then s
  else ((({ s with saf := { s.saf with fltLow := low } }).setBit Reg.SAF_STATUS 3 low).emit (.pin 1 (!low))).msix 3

/-- CHECK is set with a fresh hold (Table 13.3). -/
def State.freshCheck (s : State) : State := { s with saf := { s.saf with checkRun := 0 } }.setCond 7 true

/-- An island pair. -/
def State.pair (s : State) : PairId → IslPair
  | .a => s.saf.pairA
  | .b => s.saf.pairB

/-- Set an island pair, its bit in SAF_STATUS and its condition (Tables 13.3 and 13.12). -/
def State.setPair (s : State) (p : PairId) (x : IslPair) : State :=
  match p with
  | .a => (({ s with saf := { s.saf with pairA := x } }).setBit Reg.SAF_STATUS 5 x.up).setCond 11 (!x.up)
  | .b => (({ s with saf := { s.saf with pairB := x } }).setBit Reg.SAF_STATUS 6 x.up).setCond 14 (!x.up)

/-- Number of a pair in event data. -/
def PairId.num : PairId → Nat
  | .a => 0
  | .b => 1

/-- A pair goes down: FLT_N low, logged; the second time within 10 s it stays down (R556, R557, R584). -/
def State.pairDown (s : State) (p : PairId) : State :=
  let x := s.pair p
  if !x.up then s
  else
    let again := x.downs.any (fun t => decide (s.now < t + 10 * secT))
    let s := s.setPair p { x with up := false, downs := (s.now :: x.downs).take 2, stuck := x.stuck || again }
    (s.setFlt true).event 0x0E 3 0x0E07 0 [BitVec.ofNat 8 (PairId.num p), 0]

/-- LOCKSTEP_MISMATCH row (R556). -/
def execLockstepMismatch (p : PairId) (s : State) : Host.Outcome State Fault Refusal :=
  .next (if s.powered 88 then s.pairDown p else s)

/-- PAIR_RESTART_DONE: the pair passes its self-test and is up, unless it stays down (R556, R557, Table 13.3). -/
def State.pairUp (s : State) (p : PairId) : State :=
  let x := s.pair p
  if x.up || x.stuck || !s.powered 88 then s
  else ((s.setPair p { x with up := true, missed := 0, missStep := none }).freshCheck).event 0x0E 3 0x0E07 0 [BitVec.ofNat 8 (PairId.num p), 1]

/-- PAIR_RESTART_DONE row (R556). -/
def execPairRestartDone (p : PairId) (s : State) : Host.Outcome State Fault Refusal := .next (s.pairUp p)

/-- The other pair. -/
def PairId.other : PairId → PairId
  | .a => .b
  | .b => .a

/-- A pair's step counter has not moved at a T_i: the second step in a row it is declared down by the other pair (R557). -/
def State.pairMiss (s : State) (p : PairId) : State :=
  let x := s.pair p
  if !s.powered 88 || !x.up || !(s.pair (PairId.other p)).up || x.missStep == some s.stepNo then s
  else
    let n := if x.missStep == some (s.stepNo - 1) && 1 ≤ s.stepNo then x.missed + 1 else 1
    let s := s.setPair p { x with missed := n, missStep := some s.stepNo }
    if 2 ≤ n then s.pairDown p else s

/-- ISLAND_PAIR_MISS row (R557). -/
def execIslandPairMiss (p : PairId) (s : State) : Host.Outcome State Fault Refusal := .next (s.pairMiss p)

/-- HB_OUT toggles every 500 µs while the level is L1 or above and a pair runs the logic (R585). -/
def State.hbStep (s : State) : State :=
  if s.islandOn && 1 ≤ s.level then
    let s := s.reach (s.saf.hbAt + 500 * usT)
    ({ s with saf := { s.saf with hb := !s.saf.hb, hbAt := s.now } }).emit (.pin 2 (!s.saf.hb))
  else s

/-- HB_TOGGLE row (R585). -/
def execHbToggle (s : State) : Host.Outcome State Fault Refusal := .next s.hbStep

/-- SAFE_REQ_N after its filter; a change is logged and reaches the next verdict (R587). -/
def State.safeReqPin (s : State) (level : Bool) : State :=
  if !s.powered 88 || s.saf.safeReq == !level then s
  else ((({ s with saf := { s.saf with safeReq := !level } }).setBit Reg.SAF_STATUS 8 (!level)).event 0x0E 1 0x0E0A 0 [if level then 1 else 0])

/-- SAFE_REQ_CHANGE row (R587). -/
def execSafeReqChange (level : Bool) (s : State) : Host.Outcome State Fault Refusal := .next (s.safeReqPin level)

/-! ### Window watchdogs (R566, R567) -/

/-- The watchdog's copy of a stage's OPEN, CLOSE and MIN in the schedule in force (R566). -/
def State.wdWin (s : State) (k : Nat) : Int × Int × Int :=
  match SMap.find? s.saf.windows s.csq.sched with
  | some l => l.getD k (0, 0, 0)
  | none => (0, 0, 0)

/-- Signed µs from T_i. -/
def State.offT (s : State) : Int := ((s.now : Int) - s.tOf s.csq.cur.i) / usT

/-- An instant given as an offset from T_i in µs. -/
def State.atOff' (s : State) (us : Int) : Time := ((s.tOf s.csq.cur.i : Int) + us * usT).toNat

/-- A window fault: counted, logged once per stage and step, and a STEP doubt (R566). `kind` in the event: 0 early, 1 unfinished or late
completion, 2 OPEN, 3 CLOSE, 4 completion missing. -/
def State.windowFault (s : State) (k kind : Nat) : State :=
  if !s.saf.pairA.up then s
  else
    let s := (s.countSat (Reg.SAF_WD_CNT k) (if kind == 0 then 16 else 0) 16 1).raiseStepDoubt
    if s.csq.cur.wdLog.contains k then s
    else { s with csq := { s.csq with cur := { s.csq.cur with wdLog := k :: s.csq.cur.wdLog } } }.event 0x0E 2 0x0E03 0
      ([BitVec.ofNat 8 k, BitVec.ofNat 8 kind] ++ leBytes 4 (ofSigned 32 s.offT))

/-- Number of a window signal. -/
def WdSignal.num : WdSignal → Nat
  | .openSig => 0
  | .closeSig => 1
  | .completion => 2

/-- A signal comes more than 2 µs from its scheduled time: a window fault, unless it was found missing already (R566). -/
def State.wdLate (s : State) (k n : Nat) (sched : Int) : State :=
  if s.csq.cur.wd.contains (3 * k + n) || s.now ≤ s.atOff' sched + 2 * usT then s
  else { s with csq := { s.csq with cur := { s.csq.cur with wd := (3 * k + n) :: s.csq.cur.wd } } }.windowFault k (2 + n)

/-- A window signal has not come by 2 µs after its scheduled time (R566). -/
def State.wdMissing (s : State) (k : Nat) (g : WdSignal) : State :=
  let c := s.csq.cur
  let n := WdSignal.num g
  let come := match g with
    | .openSig => c.opened.contains k
    | .closeSig => c.closed.contains k
    | .completion => c.completed.contains k
  if !c.active || !s.saf.pairA.up || come || c.wd.contains (3 * k + n) then s
  else
    let w := s.wdWin k
    let s := s.reach (s.atOff' (match g with
      | .openSig => w.1
      | _ => w.2.1) + 2 * usT)
    { s with csq := { s.csq with cur := { c with wd := (3 * k + n) :: c.wd } } }.windowFault k (2 + n)

/-- WINDOW_WATCHDOG_TIMEOUT row (R566). -/
def execWindowWatchdogTimeout (k : Fin 5) (g : WdSignal) (s : State) : Host.Outcome State Fault Refusal := .next (s.wdMissing k g)

/-! ### The Checker (R568 to R571) -/

/-- T_i as an NS64. -/
def State.outNs (s : State) : Nat := s.tOf s.csq.cur.i / nsT

/-- Horizontal distance of two points is at most a number of mm (Q22.10 values). -/
def nearMm (x y : Int) (mm : Nat) : Bool := decide (x * x + y * y ≤ ((mm : Int) * 1024) * (mm * 1024))

/-- The compared set, nearest first (R568). -/
def State.comparedSet (s : State) : List Nat :=
  let l := (s.byDistance (s.tracksIn [2, 3])).filter (fun n =>
    let v := s.vehNums (s.trk n)
    nearMm (v.getD 0 0) (v.getD 1 0) (s.fld' Reg.SAF_CHK_LIM 16 16 * 1000))
  l.take (s.fld' Reg.SAF_CHK_LIM 0 16)

/-- The nearest fallback track within CHK_GATE of a main track that serves no other main track (R568). -/
def State.counterpart (s : State) (q : Nat) (used : List Nat) (v : List Int) : Option Nat :=
  let d (p : Nat × FbTrk) : Int × Int := let w := s.fbVeh p.2 q; (w.getD 0 0 - v.getD 0 0, w.getD 1 0 - v.getD 1 0)
  let dd (p : Nat × FbTrk) : Int := (d p).1 * (d p).1 + (d p).2 * (d p).2
  ((s.saf.fb.filter (fun (p : Nat × FbTrk) => !used.contains p.1 && nearMm (d p).1 (d p).2 (s.fld' Reg.SAF_CHK_POS 16 16))).foldl
    (fun b p => match b with
      | none => some p
      | some c => if dd p < dd c then some p else b) none).map (·.1)

/-- The check a main track fails: 2 kinematics, 3 position, 4 velocity (R568). -/
def State.checkFails (s : State) (q : Nat) (v : List Int) (c : Option Nat) : Option Nat :=
  let g (k : Nat) : Int := v.getD k 0
  let vmax : Int := s.fld' Reg.SAF_CHK_KIN 0 16 * 1024
  let acc : Int := s.fld' Reg.SAF_CHK_KIN 16 16 * 1024
  if vmax * vmax < g 3 * g 3 + g 4 * g 4 + g 5 * g 5 || acc * acc < g 6 * g 6 + g 7 * g 7 then some 2
  else
    match c.bind (SMap.find? s.saf.fb) with
    | none => none
    | some t =>
      let w := s.fbVeh t q
      if !nearMm (w.getD 0 0 - g 0) (w.getD 1 0 - g 1) (s.fld' Reg.SAF_CHK_POS 0 16) then some 3
      else if !nearMm (w.getD 2 0 - g 3) (w.getD 3 0 - g 4) (s.fld' Reg.SAF_CHK_VEL 0 16) then some 4
      else none

/-- Compare one main track (R568): a disagreement is a TRACK doubt, logged once per step; a track with a counterpart that passes is
confirmed. -/
def State.checkOne (s : State) (n : Nat) : State :=
  let q := s.outNs
  let v := s.vehNums (s.trk n)
  let c := s.counterpart q (s.saf.counter.map (·.2)) v
  let s := match c with
    | some k => { s with saf := { s.saf with counter := s.saf.counter ++ [(n, k)] } }
    | none => s
  match s.checkFails q v c, c with
  | some k, _ =>
    let s := s.raiseTrackDoubt n
    if s.saf.log02 then s
    else { s with saf := { s.saf with log02 := true } }.event 0x0E 2 0x0E02 0 (leBytes 4 n ++ [BitVec.ofNat 8 k])
  | none, some k => { s with saf := { s.saf with confirmed := s.saf.confirmed ++ [(n, k)] } }
  | none, none => s

/-- CONFIRMED fallback tracks near the origin that no compared track took: missing objects, each a TRACK doubt (R569). -/
def State.missingObjects (s : State) : State :=
  let q := s.outNs
  let l := ((s.saf.fb.filter (fun (p : Nat × FbTrk) => p.2.st == 2 && !(s.saf.counter.map (·.2)).contains p.1 &&
    (let w := s.fbVeh p.2 q; nearMm (w.getD 0 0) (w.getD 1 0) (s.regN Reg.SAF_CHK_NEAR)))).map (·.1))
  { s with saf := { s.saf with missing := l } }.countSat Reg.SAF_DOUBT_CNT 0 16 l.length

/-- The Checker's window: `n` tracks compared, nearest first (R568, R569, R571). -/
def State.checker (s : State) (n : Nat) : State :=
  if !s.saf.pairA.up || !s.runsStages then s
  else ((s.comparedSet.take n).foldl (fun s k => s.checkOne k) s).missingObjects

/-! ### Conditions and the verdict (R558 to R564, R588 to R590, R594, R595) -/

/-- Doubting steps among step i and the 31 before it (R561). -/
def State.doubtCount (s : State) (i : Nat) : Nat := (s.saf.win.filter (fun j => decide (i < j + 32))).length

/-- The state conditions of Table 13.3 that the verdict reads. -/
def State.readConds (s : State) : State :=
  let slots := s.sic.slots
  let s := s.setCond 1 (slots.any (fun (p : Nat × Slot) => p.2.st == .quarantined || p.2.st == .excluded) || !s.sic.heldPorts.isEmpty)
  let s := s.setCond 2 (s.pae.cal.any (fun (p : Nat × Cal) => p.2.st == 2))
  let low := s.sic.ports.any (fun (p : Nat × SwPort) => p.2.sqiFrom.isSome)
  let s := { s with saf := { s.saf with phyGood := if low then 0 else s.saf.phyGood + 1 } }
  let s := if s.sic.ports.any (fun (p : Nat × SwPort) => p.2.sqiBad) then s.setCond 3 true
           else if 100 ≤ s.saf.phyGood then s.setCond 3 false else s
  let s := s.setCond 4 (s.bit Reg.TBU_STATUS 5 || s.bit Reg.TBU_STATUS 4)
  let flags := u s.ego.record 62 1
  let s := s.setCond 5 (!s.egoStatic && bits flags 4 1 == 1)
  let s := if 2 ≤ s.saf.fcuFail then s.setCond 8 true else if 2 ≤ s.saf.fcuPass then s.setCond 8 false else s
  let s := s.setFld Reg.SAF_FB_ST 16 1 (if s.bit Reg.SAF_COND 8 then 1 else 0)
  let s := if s.bit Reg.SAF_COND 10 && !s.saf.safeReq then s.freshCheck else s
  let s := s.setCond 10 s.saf.safeReq
  let s := if s.sec.debugForce then s.setCond 9 true else s
  s.setCond 13 (!s.egoStatic && (bits flags 5 1 == 1 || s.bit Reg.SAF_FB_ST 17))

/-- Cap of a condition (Table 13.3). -/
def State.capOf (s : State) (c : Nat) : Nat :=
  if c == 6 then s.saf.swapCap
  else if c == 9 then (if s.sec.debugForce then 0 else s.fld' Reg.SAF_FORCE 0 3)
  else [2, 3, 3, 3, 3, 3, 3, 2, 2, 4, 1, 1, 1, 0, 0, 0].getD c 4

/-- The lowest cap of the active conditions; L4 with none (R562). -/
def State.capLevel (s : State) : Nat := ((List.range 16).filter (s.bit Reg.SAF_COND)).foldl (fun m c => min m (s.capOf c)) 4

/-- Status of SAF_CMD when it is judged (R594). -/
def State.safCmdEnd (s : State) (code : Nat) : State :=
  { s with saf := { s.saf with cmd := none } }.status Reg.SAF_CMD_ST code |>.setBit Reg.SAF_CMD_ST 16 false

/-- The safe state is entered, or left (R588, Table 13.11). -/
def State.safeState (s : State) (on : Bool) : State :=
  (({ s with saf := { s.saf with safeState := on } }).setBit Reg.SAF_STATUS 7 on).event 0x0E 3 0x0E08 0 [if on then 1 else 0]

/-- The restart of R588 begins: the step is published first. -/
def State.startRestart (s : State) : State := ({ s with saf := { s.saf with rsPhase := 1 } }).safeState true

/-- FALLBACK becomes active: the safe state of the configuration (R588 to R590). -/
def State.enterFallback (s : State) (i : Nat) : State :=
  let s := s.setCond 12 true
  let again := match s.saf.restartStep with
    | some k => decide (i < k + 10000)
    | none => false
  if s.fld' Reg.SAF_CTRL 0 2 != 0 || again || s.bit Reg.SAF_COND 15 then s.setCond 15 true
  else s.startRestart

/-- The restart completes at the verdict of the first step run (R588): FALLBACK and STOPPED clear, and a RESTART command is done. -/
def State.endRestart (s : State) (i : Nat) : State :=
  let s := { s with saf := { s.saf with rsPhase := 0, restartStep := some i } }
  let s := ((s.setCond 12 false).setCond 15 false).safeState false
  let s := (s.countSat Reg.SAF_RESTART 0 8 1).setFld Reg.SAF_RESTART 16 16 0
  match s.saf.cmd with
  | some (3, _) => s.safCmdEnd DONE
  | _ => s

/-- The waiting SAF_CMD is judged (R564, R594, R595). -/
def State.judgeCmd (s : State) : State :=
  match s.saf.cmd with
  | some (1, l) => ((s.setReg Reg.SAF_FORCE (BitVec.ofNat 32 l)).setCond 9 true).safCmdEnd DONE
  | some (2, _) => ((s.setReg Reg.SAF_FORCE 4).setCond 9 s.sec.debugForce).safCmdEnd DONE
  | some (3, _) =>
    if s.saf.rsPhase != 0 then s
    else if s.bit Reg.SAF_COND 15 then s.startRestart
    else s.safCmdEnd REFUSED_STATE
  | _ => s

/-- A RELEASE waits: it clears FORCE at the verdict, and the level rises from the next (R563; DEDUCED, log entry 24). -/
def State.releasing (s : State) : Bool := match s.saf.cmd with
  | some (2, _) => true
  | _ => false

/-- The doubts that act on step i, and the counts and conditions that follow (R559 to R561, Table 13.3). -/
def State.judgeDoubts (s : State) (i : Nat) (doubt : Bool) : State :=
  let s := { s with saf := { s.saf with win := (if doubt then [i] else []) ++ s.saf.win.filter (fun j => decide (i < j + 32)) } }
  let n := s.doubtCount i
  let s := { s with saf := { s.saf with checkRun := if n < 3 then s.saf.checkRun + 1 else 0 } }
  let s := (s.setFld Reg.SAF_WIN32 0 6 n).setFld Reg.SAF_WIN32 16 16 (if n < 3 then satAdd 16 (s.fld' Reg.SAF_WIN32 16 16) 1 else 0)
  let s := if 3 ≤ n then s.setCond 7 true else s
  if 8 ≤ n && !s.bit Reg.SAF_COND 12 then s.enterFallback i else s

/-- SAF's verdict on step i (R449, R558 to R565, R588). -/
def State.verdict (s : State) (i : Nat) : State :=
  let s := if s.saf.rsPhase == 3 then s.endRestart i else s
  let step := s.saf.stepDoubt
  let tracks := s.saf.trackDoubt
  let added := s.saf.missing
  let doubt := step || !tracks.isEmpty || !added.isEmpty
  let s := { s with saf := { s.saf with stepDoubt := false, trackDoubt := [], missing := [] } }
  let s := s.readConds.judgeDoubts i doubt
  let cap := if s.releasing then s.capLevel else s.judgeCmd.capLevel
  let s := s.judgeCmd
  let level := if step then min 1 cap else cap
  let subst := tracks.map (fun n => (n, ((s.saf.counter.find? (fun c => c.1 == n)).map (·.2)).getD 256))
  let conf := s.saf.confirmed.map (·.1)
  let unconf := if level == 2 then (s.tracksIn [1, 2, 3, 5]).filter (fun n => !conf.contains n && !tracks.contains n) else []
  let s := { s with csq := { s.csq with cur := { s.csq.cur with
    level := level, checkDoubt := doubt, subst := subst, unconf := unconf, added := added, fb := step || level == 1 } } }
  let old := s.level
  let s := ((s.setFld Reg.SAF_STATUS 0 3 level).setBit Reg.SAF_STATUS 3 s.saf.fltLow).setBit Reg.SAF_STATUS 4 (1 ≤ level && s.islandOn)
  let s := ((s.setBit Reg.SAF_STATUS 5 s.saf.pairA.up).setBit Reg.SAF_STATUS 6 s.saf.pairB.up).setBit Reg.SAF_STATUS 8 s.saf.safeReq
  let s := if old == level then s else (s.event 0x0E 1 0x0E01 0 ([BitVec.ofNat 8 old, BitVec.ofNat 8 level] ++ leBytes 4 (s.regN Reg.SAF_COND))).msix 3
  s.setFlt (level ≤ 1 || s.saf.safeState || !s.saf.pairA.up || !s.saf.pairB.up)

/-- CONDITION_HOLD_EXPIRY: the STARTUP or CHECK hold has reached its count of steps and the condition clears (R563, Table 13.3). -/
def State.holdExpiry (s : State) (c : Nat) : State :=
  if c == 0 && s.bit Reg.SAF_COND 0 && s.fld' Reg.SAF_HOLD 16 16 ≤ s.saf.startup then s.setCond 0 false
  else if c == 7 && s.bit Reg.SAF_COND 7 && s.fld' Reg.SAF_HOLD 0 16 ≤ s.saf.checkRun then s.setCond 7 false
  else s

/-- CONDITION_HOLD_EXPIRY row (R563). -/
def execConditionHoldExpiry (c : Fin 16) (s : State) : Host.Outcome State Fault Refusal := .next (s.holdExpiry c)

/-- A write to SAF_CMD (R564, R594). -/
def State.doSafCmd (s : State) (op level : Nat) : State :=
  s.unlessBusy Reg.SAF_CMD_ST 16 (fun s =>
    if !(op == 1 || op == 2 || op == 3) || (op == 1 && 3 < level) then s.status Reg.SAF_CMD_ST REFUSED_DESCRIPTOR
    else if op == 3 && !s.bit Reg.SAF_COND 15 then s.status Reg.SAF_CMD_ST REFUSED_STATE
    else { s with saf := { s.saf with cmd := some (op, level) } }.setBit Reg.SAF_CMD_ST 16 true)

/-- FORCE row (R564). -/
def execForce (level : BitVec 3) (s : State) : Host.Outcome State Fault Refusal :=
  .next (s.hostCmd Reg.SAF_CMD (fun s => s.doSafCmd 1 level.toNat))

/-- RELEASE row (R564). -/
def execRelease (s : State) : Host.Outcome State Fault Refusal := .next (s.hostCmd Reg.SAF_CMD (fun s => s.doSafCmd 2 0))

/-- RESTART row (R589, R594). -/
def execRestart (s : State) : Host.Outcome State Fault Refusal := .next (s.hostCmd Reg.SAF_CMD (fun s => s.doSafCmd 3 0))

/-! ### The safety channel (R586) -/

/-- HFLAGS of a step (Table 10.2). -/
def State.hflags (s : State) : Nat :=
  let c := s.csq.cur
  let b (v : Bool) (k : Nat) : Nat := if v then 2 ^ k else 0
  b c.checkDoubt 0 + b c.late 1 + b (s.bit Reg.TBU_STATUS 3 || s.bit Reg.TBU_STATUS 4) 2 + b (s.bit Reg.TBU_STATUS 5) 3 +
    b (bits (u s.ego.record 62 1) 4 2 != 0) 4 + b s.siteFrame 5 + b c.listFallback 6

/-- DEVICE of a header (Table 10.2). -/
def State.deviceByte (s : State) : Nat := s.devNo + 64 * s.slkConfig

/-- The safety status frame of a step (Table 13.7). -/
def State.statusFrame (s : State) (i : Nat) : List Byte :=
  let b (v : Bool) (k : Nat) : Nat := if v then 2 ^ k else 0
  let f := b s.saf.fltLow 0 + b s.saf.safeState 1 + b (!s.saf.pairA.up) 2 + b (!s.saf.pairB.up) 3 + b (s.bit Reg.SAF_COND 8) 4 + b s.saf.safeReq 5
  let body := leBytes 8 i ++ leBytes 1 s.level ++ leBytes 1 s.hflags ++ leBytes 1 f ++ leBytes 1 s.deviceByte ++ leBytes 4 s.epoch ++
    leBytes 4 s.saf.canSeq ++ leBytes 8 (s.tOf i / nsT) ++ leBytes 4 (s.regN Reg.CSQ_START_ID)
  body ++ leBytes 4 (crc32c body).toNat

/-- The track frame of a step: nearest fallback tracks (R586). -/
def State.trackFrame (s : State) (i : Nat) : List Byte :=
  let q := s.tOf i / nsT
  let l := (s.fbByDistance q).take (s.fld' Reg.SAF_CAN_CFG 0 8)
  let w (v : Int) : List Byte := leBytes 4 (ofSigned 32 (satInt 32 v))
  let rec' (p : Nat × FbTrk) : List Byte :=
    let (a, v, h, _) := s.fbShow p.2 q
    leBytes 2 (s.fbId p.1 p.2) ++ leBytes 1 p.2.st ++ leBytes 1 (s.fbExist p.2 q) ++ w (a.getD 0 0) ++ w (a.getD 1 0) ++ w (v.getD 0 0) ++
      w (v.getD 1 0) ++ w h
  let body := leBytes 8 i ++ leBytes 1 l.length ++ List.replicate 7 0 ++ l.flatMap rec'
  body ++ leBytes 4 (crc32c body).toNat

/-- Frames of the safety channel fall due: one that has not started is replaced and counted (R586). -/
def State.sendCan (s : State) (frames : List (List Byte)) : State :=
  if !s.fbOn then s
  else
    let s := s.countSat Reg.SAF_CAN_CNT 16 16 s.saf.canq.length
    if s.canLive 3 then
      (frames.foldl (fun s f => (s.emit (.can f)).countWrap Reg.SAF_CAN_CNT 0 16 1) { s with saf := { s.saf with canq := [] } })
    else { s with saf := { s.saf with canq := frames } }

/-- The status frame, and at T_i every SAF_CAN_DIV steps the track frame (R586). -/
def State.safetyChannel (s : State) (i : Nat) (atT : Bool) : State :=
  let s := { s with saf := { s.saf with canSeq := (s.saf.canSeq + 1) % 2 ^ 32 } }
  s.sendCan ([s.statusFrame i] ++ (if atT && i % max 1 (s.fld' Reg.SAF_CAN_CFG 8 8) == 0 then [s.trackFrame i] else []))

end Sys2Proof.Machine
end

