-- ==== Sys2Proof/Machine/Delta.lean ====
section
/-! DEFINITION. Machine/Delta.lean: what a device of a pair or drove sends in its step: the delta of the primary (R608, R609), the copies of a
resynchronisation (R613), hand-overs (R626) and a member's list (R620). Payload layouts are the model's (log entry 19). -/

namespace Sys2Proof.Machine

/-- Port and number of the other device of a pair. -/
def State.pairPort (s : State) : Option Nat := if s.slkConfig == 1 then s.portOf 1 else none
def State.pairPeer (s : State) : Nat := 1 - s.devNo

/-- Send a frame to the other device of the pair. -/
def State.sendPair (s : State) (type step flags : Nat) (payload : List Byte) : State :=
  match s.pairPort with
  | some p => s.linkSendFlags p type s.devNo s.pairPeer step flags payload
  | none => s

/-- Input digest of a track: CRC-32C of the (SLOT, DET_NO, TIME) list of the measurements applied to it in the step (R609). -/
def State.inputDigest (s : State) (n : Nat) : BitVec 32 :=
  crc32c ((s.fld.pairs.filter (fun (p : Pair) => p.slot == n)).flatMap (fun p =>
    let b := (s.fld.step.getD p.det default).bytes
    leBytes 1 (dtSlot b) ++ leBytes 2 (dtNo b) ++ leBytes 8 (dtTime b)))

/-- Payloads of the delta frames. -/
def recPayload (slot : Nat) (b : List Byte) (digest : BitVec 32) : List Byte := b ++ leBytes 4 digest.toNat ++ leBytes 4 slot
def kvPayload (slot : Nat) (e : List Byte) : List Byte := pad8 (leBytes 8 slot ++ e)
def seqPayload (slot st entries oldest : Nat) : List Byte := leBytes 4 slot ++ leBytes 4 st ++ leBytes 4 entries ++ leBytes 4 oldest

/-- A record without what a prediction alone changes: state, factor, EMB excepted (R608). -/
def predictless (b : List Byte) : List Byte :=
  let z (o n : Nat) (b : List Byte) : List Byte := patch b o (List.replicate n 0)
  z 252 4 (z 206 10 (z 96 110 (z 48 40 (z 44 2 b))))

/-- First entry number held, of a sequence with entries. -/
def State.oldestEntry (s : State) (n : Nat) : Nat := ((s.entries n).map (·.1)).headD 0

/-- What DELTA_SEQ watches of a sequence (R609). -/
def State.seqMark (s : State) (n : Nat) : Nat × Nat × Bool := (s.seqSt n, s.oldestEntry n, s.seqFlag n 1)

/-- At C_i the primary begins the delta of the step (R609). -/
def State.deltaBase (s : State) : State :=
  if s.slk.role != rolePRIMARY then s else { s with slk := { s.slk with sent := [], sentCnt := (0, 0, 0) } }

/-- What the next step's delta is taken against: the records and sequences as this one leaves them (R608, R609). -/
def State.deltaMark (s : State) : State :=
  { s with slk := { s.slk with base := s.tracks.map (fun n => (n, s.trk n)), baseSeq := s.liveSeqs.map (fun n => (n, s.seqMark n)) } }

/-- Send one delta frame and note it for STEP_END: which of the three counts it adds to. -/
def State.sendDelta (s : State) (type : Nat) (payload : List Byte) : State :=
  let (a, b, c) := s.slk.sentCnt
  let cnt := if type == 0x10 then (a + 1, b, c) else if type == 0x11 then (a, b + 1, c) else (a, b, c + 1)
  ({ s with slk := { s.slk with sent := s.slk.sent ++ pad8 payload, sentCnt := cnt } }).sendPair type s.csq.cur.i 0 payload

/-- Valid entries of a sequence in append order: address of each. -/
def State.validEntries (s : State) (n : Nat) : List Nat := ((s.entries n).map (·.2)).filter (fun a => bits (s.peek (a + 17) 1) 0 2 == 1)

/-- From the close of the decode window: the entries appended in the step (R609). -/
def State.deltaKvs (s : State) : State :=
  if s.slk.role != rolePRIMARY then s
  else s.liveSeqs.foldl (fun s n =>
    ((s.validEntries n).filter (fun a => s.peek (a + 12) 4 == s.step32)).foldl (fun s a => s.sendDelta 0x11 (kvPayload n (s.bytesAt a s.entrySize))) s) s

/-- From the close of the solver window: the changed records, and the changed sequences (R609). -/
def State.deltaRecs (s : State) : State :=
  if s.slk.role != rolePRIMARY then s
  else
    let slots := (s.tracks ++ (s.slk.base.map (·.1)).filter (fun n => !s.tracks.contains n))
    let s := slots.foldl (fun s n =>
      let old := SMap.get [] s.slk.base n
      let new := s.trk n
      if (s.fld.pairs.any (fun (p : Pair) => p.slot == n)) || predictless old != predictless new then s.sendDelta 0x10 (recPayload n new (s.inputDigest n))
      else s) s
    let seqs := s.liveSeqs ++ (s.slk.baseSeq.map (·.1)).filter (fun n => !s.liveSeqs.contains n)
    let s := seqs.foldl (fun s n =>
      if SMap.get (0, 0, false) s.slk.baseSeq n != s.seqMark n then
        s.sendDelta 0x12 (seqPayload n (s.seqSt n) (s.entries n).length (s.oldestEntry n))
      else s) s
    s.deltaMark

/-- STEP_END closes the step's delta (Table 14.4). -/
def State.sendStepEnd (s : State) (i : Nat) : State :=
  if s.slk.role != rolePRIMARY then s
  else
    let (a, b, c) := s.slk.sentCnt
    let fl := (s.enabledFlocks).take 255
    let body := fit 64 s.ego.record ++ leBytes 2 a ++ leBytes 2 b ++ leBytes 2 c ++ leBytes 1 s.csq.cur.level ++ leBytes 1 fl.length ++
      (List.range 3).flatMap (fun o => leBytes 4 (s.regN (Reg.CSQ_SEQ o))) ++ leBytes 4 (crc32c s.slk.sent).toNat ++
      fl.flatMap (fun f => leBytes 4 f ++ leBytes 4 (s.regN (Reg.TAC_FLOCK_USED f)))
    let s := s.sendPair 0x13 i 2 body
    { s with slk := { s.slk with noAck := s.slk.noAck + 1 } }

/-- Copies of tracks for a syncing device, in ascending slot, at up to SLK_SYNC_RATE for a cadence (R613). -/
def State.sendCopies (s : State) (i : Nat) : Nat → Nat → State
  | 0, _ => s
  | fuel + 1, room =>
    match s.slk.copyNext with
    | none => s
    | some k =>
      match s.tracks.filter (fun n => decide (k ≤ n)) with
      | [] => { s with slk := { s.slk with copyNext := none } }
      | n :: r =>
        let body := s.trk n ++ leBytes 8 i ++ (s.validEntries n).flatMap (fun a => s.bytesAt a s.entrySize)
        if room < body.length then s
        else
          let s := s.sendPair 0x15 i (if r.isEmpty then 2 else 0) body
          ({ s with slk := { s.slk with copyNext := if r.isEmpty then none else some (n + 1) } }).sendCopies i fuel (room - body.length)

/-- The primary's copies of a step. -/
def State.syncSend (s : State) (i : Nat) : State :=
  if s.slk.role == rolePRIMARY then s.sendCopies i (s.tracks.length + 1) (s.regN Reg.SLK_SYNC_RATE * s.regN Reg.CSQ_CADENCE) else s

/-! ### Changes of primary (R614 to R618) -/

/-- A deciding or promoted device raises the epoch, with event 0x1001 (R604, R614, R621). -/
def State.raiseEpoch (s : State) (e : Nat) : State :=
  let old := s.epoch
  (s.setReg Reg.SLK_EPOCH (BitVec.ofNat 32 e)).event 0x10 1 0x1001 0 (leBytes 4 old ++ leBytes 4 e)

/-- Forget the delta being received. -/
def State.dropDelta (s : State) : State := { s with slk := { s.slk with recs := [], kvs := [], seqs := [], deltaBytes := [] } }

/-- A failover or switchover is counted and logged: step and new primary (R618, Table 14.10). -/
def State.countFailover (s : State) (step primary : Nat) : State :=
  (s.countSat Reg.SLK_FAILOVER 0 32 1).event 0x10 3 0x1002 0 (leBytes 8 step ++ leBytes 1 primary)

/-- The mirror becomes PRIMARY: epoch plus 1, the odometry frame of the last applied ego record, the outputs' SEQ, and its held detections of
the steps no applied delta covers (R614, R615). -/
def State.promoteMirror (s : State) (step : Nat) : State :=
  let s := (s.raiseEpoch (s.epoch + 1)).dropDelta
  let last := s.slk.lastStep
  let held := s.slk.heldDets.filter (fun (p : Nat × Det) => match last with | some k => decide (k < p.1) | none => true)
  let s := { s with slk := { s.slk with role := rolePRIMARY, handoff := none, peerMirror := false, noAck := 0, copyNext := none, heldDets := held } }
  let s := if s.slk.lastEgo.length == 64 then
      let r := s.slk.lastEgo
      { s with ego := { s.ego with record := patch s.ego.record 8 ((r.drop 8).take 24), pos := [i r 8 4 * 1024, i r 12 4 * 1024, i r 16 4 * 1024]
                                   att := [i r 20 4, i r 24 4, i r 28 4], imu := s.ego.imu.filter (fun x => decide (u r 0 8 * nsT < x.time)) } }
    else s
  let s := (List.range 3).foldl (fun s o => s.setReg (Reg.CSQ_SEQ o) (BitVec.ofNat 32 (s.slk.lastSeqs.getD o 0))) s
  (s.deltaMark).countFailover step s.devNo

/-- C_k of a planned change: the mirror promotes, and the primary becomes MIRROR without resynchronising (R617). -/
def State.handoffNow (s : State) (k : Nat) : State :=
  if s.slk.role == roleMIRROR then s.promoteMirror k
  else if s.slk.role == rolePRIMARY then
    let seqs := (List.range 3).map (fun o => s.regN (Reg.CSQ_SEQ o))
    let s := { s with slk := { s.slk with role := roleMIRROR, handoff := none, lastStep := some (k - 1), lastEgo := s.ego.record, lastSeqs := seqs
                                          mirrorLost := false, peerMirror := false, noAck := 0 } }
    s.dropDelta.countFailover k s.pairPeer
  else { s with slk := { s.slk with handoff := none } }

/-- A planned change takes place with the cut-off of its step. -/
def State.handoffDue (s : State) : State :=
  match s.slk.handoff with
  | some k => if k ≤ s.csq.next then s.handoffNow k else s
  | none => s

/-! ### Hand-over at the owner (R626) -/

/-- A point lies at least a margin (mm) inside a pasture. -/
def Pasture.inside (p : Pasture) (x y : Int) (m : Int) : Bool :=
  decide ((p.xmin + m) * 1024 ≤ x) && decide (x ≤ (p.xmax - m) * 1024) && decide ((p.ymin + m) * 1024 ≤ y) && decide (y ≤ (p.ymax - m) * 1024)

/-- At the seal of step i, tracks inside another pasture by HAND_MARGIN are marked HANDING (R626); one refused waits for HAND_RETRY (R627). -/
def State.handMark (s : State) (i : Nat) : State :=
  if !s.inDrove then s
  else (s.tracksIn [1, 2, 3]).foldl (fun s n =>
    let b := s.trk n
    if s.slk.handing.any (fun h => h.slot == n) || s.slk.retry.any (fun r => r.1 == n) then s
    else
      match s.slk.pastures.find? (fun p => p.dev != s.devNo && p.inside (tkX b 0) (tkX b 1) (s.fld' Reg.SLK_HAND_CFG 0 8 * 100 : Nat)) with
      | none => s
      | some p =>
        let h : Handing := { slot := n, gid := tkGid b, dev := p.dev, step := i }
        { s with slk := { s.slk with handing := s.slk.handing ++ [h] } }.setTrk n (setFlagA b 7 true)) s

/-- After publication: HAND for each track marked in this step, and again for one not acknowledged since the step before (R626, R628). -/
def State.handSend (s : State) (i : Nat) : State :=
  (s.slk.handing.filter (fun h => !h.acked && decide (i ≤ h.step + 1))).foldl (fun s h =>
    let body := s.trk h.slot ++ (s.validEntries h.slot).flatMap (fun a => s.bytesAt a s.entrySize)
    let s := if h.step == i then s.countWrap Reg.SLK_HAND_CNT 0 16 1 else s
    s.sendDev h.dev 0x22 i body) s

/-- C_(i+1) of a hand-over: an acknowledged track moves to RETIRING with RETIRED_PUB clear; otherwise the sender keeps publishing it, and
HAND goes again after the next publication (R628). -/
def State.handTaken (s : State) (h : Handing) : State :=
  if h.acked then
    let s := { s with slk := { s.slk with handing := s.slk.handing.filter (fun g => g.slot != h.slot) } }
    if tkGid (s.trk h.slot) == h.gid && s.liveTrk h.slot then s.retire h.slot false else s
  else s

/-- C_(i+2): without an acknowledgement the hand-over is aborted (R628). -/
def State.handLost (s : State) (h : Handing) : State := if h.acked then s.handTaken h else s.abortHand h.slot

/-- What the cut-off of step i does to the hand-overs in progress (R628). -/
def State.handCutoff (s : State) (i : Nat) : State :=
  s.slk.handing.foldl (fun s h => if h.step + 2 ≤ i then s.handLost h else if h.step + 1 ≤ i then s.handTaken h else s) s

/-- A member's list goes to the bellwether in frames of at most 8,192 bytes (R620). -/
def State.sendList (s : State) (i : Nat) (bytes : List Byte) : State :=
  if s.slk.role != roleMEMBER then s
  else
    match s.routeTo 0 with
    | none => s
    | some p =>
      let cs := chunks 8192 bytes.length bytes
      (List.range cs.length).foldl (fun s k => s.linkSendFlags p 0x25 s.devNo 0 i (if k + 1 == cs.length then 2 else 0) (cs.getD k [])) s

end Sys2Proof.Machine
end

