-- ==== Sys2Proof/Machine/Cadence.lean ====
section
/-! DEFINITION. Machine/Cadence.lean: the step cycle of CSQ and what it publishes (10_step_cycle_publishing.md). -/

namespace Sys2Proof.Machine

/-- CSQ lies in domain 99 (Table 16.1). -/
def State.csqOn (s : State) : Bool := s.powered 99

/-! ### Starting and stopping (R441 to R444) -/

/-- Put a schedule in force (R451). -/
def State.putSched (s : State) (idx : Nat) : State :=
  match SMap.find? s.csq.scheds idx with
  | none => s
  | some d =>
    let s := { s with csq := { s.csq with sched := idx } }
    let s := (s.setReg Reg.CSQ_CADENCE (BitVec.ofNat 32 d.cadence)).setReg Reg.CSQ_CUTOFF (BitVec.ofNat 32 d.cutoff)
    let s := s.setFld Reg.CSQ_CAD_ST 8 2 idx
    (List.range 5).foldl (fun s k =>
      ((s.setReg (Reg.CSQ_WIN_OPEN k) (BitVec.ofInt 32 (d.w k).1)).setReg (Reg.CSQ_WIN_CLOSE k) (BitVec.ofInt 32 (d.w k).2.1)).setReg
        (Reg.CSQ_WIN_MIN k) (BitVec.ofInt 32 (d.w k).2.2)) s

/-- Set T_0, with its copy in CSQ_T0 (R442, R451). -/
def State.setT0 (s : State) (t : Time) : State :=
  { s.setRegBytes (Reg.CSQ_T0 0) (htw t) with csq := { s.csq with t0 := t, t0Set := true } }

/-- T_0 as CSQ_T0 holds it; none while it reads zero or an HTW128 that R43 calls invalid. -/
def State.regT0 (s : State) : Option Time :=
  match htwTime (s.regBytes (Reg.CSQ_T0 0) 4) with
  | some 0 => none
  | t => t

/-- The first step of the grid whose cut-off lies at least two cadences ahead (R442, R451, R617). -/
def State.stepAhead (s : State) : Nat :=
  let want := s.now + 2 * s.cadence + s.regN Reg.CSQ_CUTOFF * usT
  if want ≤ s.csq.t0 then 0 else ceilDiv (want - s.csq.t0) (max 1 s.cadence)

/-- The accepted change of schedule takes effect at step k: T_k is unchanged (R451, R567). -/
def State.cadenceSwitch (s : State) : State :=
  match s.csq.change with
  | none => s
  | some (idx, k) =>
    let tk := s.tOf k
    let s := s.putSched idx
    let s := if s.csq.t0Set then s.setT0 (tk - k * s.cadence) else s
    let s := ({ s with csq := { s.csq with change := none } }.status Reg.CSQ_CAD_ST DONE).setBit Reg.CSQ_CAD_ST 16 false
    if s.slkConfig != 0 && s.devNo == 0 then s.tellEpoch else s

/-- The status of a command at its issuer, for commands without a status register: block CSQ. -/
def State.csqRefuse (s : State) : State := s.emit (.done 0x0B idHost REFUSED_STATE)

/-- The gate control lists take the phase that their base time, a whole number of cadences from T_0, gives them at the first step to run
(R88). -/
def State.startGates (s : State) (k : Nat) : State :=
  let start (x : SwPort) : SwPort :=
    if x.gcl.isEmpty then x
    else
      let (n, e) := cyclePos (s.gateBase x.gclBase) (x.gcl.map (·.2)) (s.tOf k)
      { x with gclIdx := n, gates := (x.gcl.getD n (0xFF, 0)).1, gclEnd := e }
  { s with sic := { s.sic with ports := s.sic.ports.map (fun (p : Nat × SwPort) => (p.1, start p.2)) } }

/-- RUN is written 1 (R441, R442, R669): T_0 when none is set, and the first step to run. STARTUP becomes active (Table 13.3). -/
def State.doRun (s : State) : State :=
  if s.lthState != 3 || s.csq.running || s.pwr != 3 || s.bit Reg.AON_PWR_STATE 8 then s.csqRefuse
  else
    let s := match s.regT0 with
      | some t => { s with csq := { s.csq with t0 := t, t0Set := true } }
      | none => if s.slkConfig != 0 && s.devNo != 0 then s else s.setT0 (ceilDiv s.now msT * msT + 2 * s.cadence)
    let s := match s.csq.change with
      | some (_, k) => if s.cOf k ≤ s.now then s.cadenceSwitch else s
      | none => s
    let k := s.stepAhead
    let s := { s.tca.reload.foldl (fun s t => s.reloadTile t) s with tca := { s.tca with reload := [] } }
    let s := s.startGates k
    let s := s.renumber s.stepNo k
    let s := { s with csq := { s.csq with running := true, stopAt := none, next := k, cur := {} }, saf := { s.saf with startup := 0 } }
    (((s.setBit Reg.CSQ_CTRL 0 true).setBit Reg.CSQ_STATUS 0 true).setFld Reg.AON_PWR_STATE 0 3 4).setCond 0 true

/-- RUN_START row (R441). -/
def execRunStart (s : State) : Host.Outcome State Fault Refusal := .next (s.hostReg Reg.CSQ_CTRL State.doRun)

/-- RUN is written 0 (R443): no later step is cut off; a cadence request of the same step is refused (R452). -/
def State.doStop (s : State) : State :=
  let s := s.setBit Reg.CSQ_CTRL 0 false
  if !s.csq.running || s.csq.stopAt.isSome then s
  else
    let s := { s with csq := { s.csq with stopAt := some s.csq.next } }
    if s.csq.change.isSome && s.csq.changeAt == s.stepNo then
      ({ s with csq := { s.csq with change := none } }.status Reg.CSQ_CAD_ST REFUSED_STATE).setBit Reg.CSQ_CAD_ST 16 false
    else s

/-- RUN_STOP row (R443). -/
def execRunStop (s : State) : Host.Outcome State Fault Refusal := .next (s.hostReg Reg.CSQ_CTRL State.doStop)

/-- A write of CSQ_CTRL: the output enables, of which PF_EN and CS_EN cannot be set without their features (Table 17.4), and RUN (R441, R443,
Table 10.7). -/
def State.csqCtrl (s : State) (w : W32) : State :=
  let s := s.setFld Reg.CSQ_CTRL 1 3 (fieldOf (s.featBits Reg.CSQ_CTRL w) 1 3)
  if w.getLsbD 0 then s.doRun else s.doStop

/-- Publication of the last step has ended: the cycle stops, and the state is Idle (R443, Table 16.3). -/
def State.cycleStopped (s : State) : State :=
  match s.csq.stopAt with
  | none => s
  | some _ =>
    if !s.csq.running || s.csq.cur.active || !s.csq.segs.isEmpty then s
    else ({ s.renumber s.stepNo (s.now / msT) with csq := { s.csq with running := false, stopAt := none } }.setBit Reg.CSQ_STATUS 0 false).setFld Reg.AON_PWR_STATE 0 3 3 |>.setFlt true

/-- CYCLE_STOPPED row (R443). -/
def execCycleStopped (s : State) : Host.Outcome State Fault Refusal := .next s.cycleStopped

/-! ### The cadence (R451, R452, R480) -/

/-- A write to CSQ_CAD_REQ (R451, R480, R512): refused while busy, for an empty index and by the fit check; otherwise it takes effect at
step k. Without a grid it takes effect at once. -/
def State.cadenceReq (s : State) (idx : Nat) : State :=
  s.unlessBusy Reg.CSQ_CAD_ST 16 (fun s =>
    match SMap.find? s.csq.scheds idx with
    | none => s.status Reg.CSQ_CAD_ST (topCode [REFUSED_DESCRIPTOR, if s.lthState != 3 then REFUSED_STATE else DONE])
    | some d =>
      if s.lthState != 3 then (s.rtCount false).status Reg.CSQ_CAD_ST REFUSED_STATE
      else match s.fitNow 0 [(idx, d)] with
      | some r => ((s.rtRefuse r).rtCount false).status Reg.CSQ_CAD_ST REFUSED_FIT
      | none =>
        let s := s.rtCount true
        let k := if s.csq.t0Set then s.stepAhead else 0
        let s := { s with csq := { s.csq with change := some (idx, k), changeAt := s.stepNo } }
        let s := (s.setReg Reg.CSQ_CAD_STEP (BitVec.ofNat 32 k)).setBit Reg.CSQ_CAD_ST 16 true
        if s.csq.t0Set then s else s.cadenceSwitch)

/-- CADENCE_REQUEST row (R451). -/
def execCadenceRequest (idx : BitVec 2) (s : State) : Host.Outcome State Fault Refusal :=
  .next (s.hostCmd Reg.CSQ_CAD_REQ (fun s => s.cadenceReq idx.toNat))

/-- Step k of the accepted change has come: the steps before it are published, or with the cycle stopped C_k has come. -/
def State.switchDue (s : State) : State :=
  match s.csq.change with
  | none => s
  | some (_, k) =>
    if s.csq.running then (if s.csq.cur.active || s.csq.next < k then s else s.cadenceSwitch)
    else (s.reach (s.cOf k)).cadenceSwitch

/-- CADENCE_SWITCH row (R451). -/
def execCadenceSwitch (s : State) : Host.Outcome State Fault Refusal := .next s.switchDue

/-! ### The cut-off and the windows (R22, R445 to R448) -/

/-- C_i: the step's measurements are fixed, FLD applies commands, notices and transitions, and every block turns to step i (R22, R367,
R189, R229, R609). -/
def State.ingestCutoff (s : State) : State :=
  let s := match s.csq.change with
    | some (_, k) => if s.csq.running && !s.csq.cur.active && decide (k ≤ s.csq.next) then s.cadenceSwitch else s
    | none => s
  let s := if s.csq.running && !s.csq.cur.active then s.handoffDue else s
  let i := s.csq.next
  let halted := match s.csq.stopAt with
    | some n => decide (n ≤ i)
    | none => false
  if !s.csq.running || !s.csq.t0Set || s.csq.cur.active || halted || !s.csqOn then s
  else
    let s := (s.reach (s.cOf i)).tcaStep
    let s := { s with csq := { s.csq with next := i + 1, cur := { i := i, active := true } } }
    let s := ((((s.egoCutoff i).deltaBase).dmlStep).tacStep).bseStep
    let s := { s with saf := { s.saf with prev := s.tracks.map (fun n => (n, tkXs (s.trk n))), confirmed := [], counter := [], log02 := false } }
    let s := (s.handCutoff i).fldCutoff
    let s := { s with sic := { s.sic with items := [], forced := false, forcedLast := s.sic.forced, testUsed := 0 } }.runDeferred
    let s := (List.range 8).foldl State.sqiCheck s
    s.paeStep

/-- INGEST_CUTOFF row (R22). -/
def execIngestCutoff (s : State) : Host.Outcome State Fault Refusal := .next s.ingestCutoff

/-- OPEN, CLOSE and MIN of stage k in force, signed µs from T_i (R445). -/
def State.winOpen (s : State) (k : Nat) : Int := s.regI (Reg.CSQ_WIN_OPEN k)
def State.winClose (s : State) (k : Nat) : Int := s.regI (Reg.CSQ_WIN_CLOSE k)
def State.winMin (s : State) (k : Nat) : Int := s.regI (Reg.CSQ_WIN_MIN k)

/-- WINDOW of the tiles that serve a stage (Table 5.7). -/
def State.tileWindows (s : State) (k : Nat) (v : Bool) : State :=
  (List.range 34).foldl (fun s t => if (s.tile t).serves == some k then s.setTile t { s.tile t with window := v } else s) s

/-! ### Records of the step (R459, R460, R565, R570) -/

/-- RFLAGS of a main track's record (Table 10.4). -/
def State.rflags (s : State) (n : Nat) (b : List Byte) : Nat :=
  let f (v : Bool) (k : Nat) : Nat := if v then 2 ^ k else 0
  f (tkFlagA b 0) 0 + f (s.csq.cur.unconf.contains n) 2 + f (tkSt b == tkRETIRING) 3 + f (tkFlagA b 1) 4 + f (tkFlagA b 2) 5 + f (tkAge b != 0) 6

/-- The record of a main track from its Fold record (R460). -/
def State.mainRecord (s : State) (n : Nat) : List Byte :=
  let b := s.trk n
  let v := s.vehNums b
  let w (k : Nat) : Int := whole (v.getD k 0)
  pubRecord (tkGid b) (tkSt b) (s.pubExist n) (tkClass b) (s.rflags n b) [w 0, w 1, w 2] [w 3, w 4, w 5] [w 6, w 7] (v.getD 8 0) (v.getD 9 0)
    ((b.drop 88).take 6) (tkSolve b) (u b 43 1) (tkHits b) ((b.drop 216).take 32)

/-- Ten track numbers predicted by `ns` at constant velocity: no acceleration and no yaw rate (R570, R580). -/
def cvPredict (x : List Int) (ns : Int) : List Int :=
  let p (k : Nat) : Int := elem x k + roundAway (elem x (3 + k) * ns) 1000000000
  [p 0, p 1, p 2, elem x 3, elem x 4, elem x 5, 0, 0, elem x 8, 0]

/-- A substituted record: identity of the main track, state of its counterpart, or predicted from the main track's state at T_(i-1) (R570). -/
def State.substRecord (s : State) (n k : Nat) : List Byte :=
  let b := s.trk n
  let f := s.rflags n b + rfSUBSTITUTED
  let ext := (b.drop 88).take 6
  match SMap.find? s.saf.fb k with
  | some t =>
    let (p, v, h, w) := s.fbShow t s.outNs
    pubRecord (tkGid b) (tkSt b) (max (s.pubExist n) (s.fbExist t s.outNs)) (tkClass b) f p v [0, 0] h w ext DONE_SUBSTITUTED (u b 43 1) (tkHits b) []
  | none =>
    let dt : Int := s.regN Reg.CSQ_CADENCE * 1000
    let x := match SMap.find? s.saf.prev n with
      | some x => cvPredict x dt
      | none => cvPredict (tkXs b) 0
    let v := s.vehNums (patch b 48 (x.flatMap (fun a => leBytes 4 (ofSigned 32 a))))
    let w (j : Nat) : Int := whole (v.getD j 0)
    pubRecord (tkGid b) (tkSt b) (s.pubExist n) (tkClass b) f [w 0, w 1, w 2] [w 3, w 4, w 5] [w 6, w 7] (v.getD 8 0) (v.getD 9 0)
      ext DONE_SUBSTITUTED (u b 43 1) (tkHits b) []

/-- Squared horizontal distance of a main track. -/
def State.trkDist2 (s : State) (n : Nat) : Int :=
  let v := s.vehNums (s.trk n)
  v.getD 0 0 * v.getD 0 0 + v.getD 1 0 * v.getD 1 0

/-- MAX_RECORDS of filter f (Table 8.5). -/
def State.maxRecords (s : State) (f : Nat) : Nat := u (s.regBytes (Reg.FLD_PUB f 0) 8) 4 2

/-- The list of filter f with FLD's tracks: substituted records in place of main ones, and the added records, which take precedence under
MAX_RECORDS; NPASSED; and the records that gave way (R459, R560, R565, R570). -/
def State.mainList (s : State) (f : Nat) : List (List Byte) × Nat × Nat :=
  let (l, passed) := s.fld.lists.getD f ([], 0)
  let added := (s.csq.cur.added.filterMap (fun k => (SMap.find? s.saf.fb k).map (fun t => (k, t)))).take (s.maxRecords f)
  let kept := l.take (s.maxRecords f - added.length)
  let main := kept.map (fun n => (s.trkDist2 n, n, match s.csq.cur.subst.find? (fun p => p.1 == n) with
    | some p => s.substRecord n p.2
    | none => s.mainRecord n))
  let more := added.map (fun (k, t) => (s.fbDist2 t s.outNs, 0x100000 + k, s.fbRecord k t s.outNs rfSUBSTITUTED DONE_SUBSTITUTED))
  let sorted := sortBy (fun (a b : Int × Nat × List Byte) => decide (a.1 < b.1) || (a.1 == b.1 && decide (a.2.1 ≤ b.2.1))) (main ++ more)
  (sorted.map (fun x => x.2.2), passed, l.length - kept.length)

/-- The lists of the step for outputs 0 to 2 (R449, R560). -/
def State.formLists (s : State) : State :=
  let c := s.csq.cur
  if c.fb || c.listFallback then
    let all := s.fbRecords s.outNs
    let recs := (List.range 3).map (fun f => (all.take (s.maxRecords f), all.length))
    { s with csq := { s.csq with cur := { c with recs := recs } } }
  else
    let ls := (List.range 3).map s.mainList
    let s := s.countSat Reg.FLD_PUB_DROP 0 32 ((ls.map (fun l => l.2.2)).sum)
    { s with csq := { s.csq with cur := { c with recs := ls.map (fun l => (l.1, l.2.1)) } } }

/-- The coverage mask of the step (R458). -/
def State.coverageMask (s : State) : List Byte :=
  let present (n : Nat) : Bool := (s.slot n).st == .present
  let code (c : Nat) : Nat :=
    match List.find? (fun (e : Nat × (Int × Int × Int × Int) × List Nat) => e.1 == c) s.csq.coverage with
    | none => 0
    | some e =>
      if s.fld.unresolved.contains c then 3 else if e.2.2.all present then 0 else if e.2.2.any present then 1 else 2
  (List.range 256).map (fun j => BitVec.ofNat 8 (code (4 * j) + 4 * code (4 * j + 1) + 16 * code (4 * j + 2) + 64 * code (4 * j + 3)))

/-- The seal (R449, R401, R559, R626): FLD's lists when its windows have closed, else the fallback's; SAF's verdict; the records. -/
def State.sealStep (s : State) : State :=
  let i := s.csq.cur.i
  let ready := s.fldOn && s.runsStages && [0, 1, 2].all s.csq.cur.closed.contains
  let s := if ready then s.filterLists.handMark i
           else { s with csq := { s.csq with cur := { s.csq.cur with listFallback := true } } }
  let s := if ready || !s.runsStages then s else s.raiseStepDoubt
  let old := s.level
  let s := s.verdict i
  let s := s.formLists.setRegBytes (Reg.CSQ_MASK 0) s.coverageMask
  if s.level != old then s.safetyChannel i false else s

/-- What OPEN starts in FLD's stages: the appends when decode opens, the update problems, due at its CLOSE, when the solver opens (R384, R386,
Table 10.1). -/
def State.openWork (s : State) (k : Nat) : State :=
  if !s.runsStages || !s.fldOn || !s.bit Reg.FLD_CTRL 0 then s
  else
    match k with
    | 1 => s.issueAppends
    | 2 => s.issueUpdates (s.atOff' (s.winClose 2) / nsT)
    | _ => s

/-- OPEN of stage k (R445 to R447, R566). -/
def State.stageOpen (s : State) (k : Nat) : State :=
  let c := s.csq.cur
  if !c.active || !s.csqOn || c.opened.length != k || c.closed.length != k then s
  else
    let s := s.reach (s.atOff' (s.winOpen k))
    let s := { s with csq := { s.csq with cur := { c with opened := c.opened ++ [k] } } }
    let s := ((s.wdLate k 0 (s.wdWin k).1).tileWindows k true).openWork k
    if k == 4 then s.sealStep else s

/-- STAGE_OPEN row (R445). -/
def execStageOpen (k : Fin 5) (s : State) : Host.Outcome State Fault Refusal := .next (s.stageOpen k)

/-- What CLOSE decides for a stage (Table 10.1): association ends (R383), the decode and solver deltas are sent (R609), FLD's predictions
start (R385), the Checker stops (R571). The deadline rules of decode and solver commands are rows of their own. -/
def State.stageWork (s : State) (k : Nat) (w : StageWork) : State :=
  if !s.runsStages then s
  else
    match k with
    | 0 => s.assocClose w.phases
    | 1 => s.copyTruncated.deltaKvs
    | 2 => if s.fldOn && s.bit Reg.FLD_CTRL 0 then s.deltaRecs.issuePredictions else s.deltaRecs
    | 3 => s.checker w.compared
    | _ => s

/-- Stage k is unfinished at its CLOSE: STAGE_LATE, counted, a window fault (R446, R448, R566). -/
def State.stageLate (s : State) (k : Nat) : State :=
  ({ s with csq := { s.csq with cur := { s.csq.cur with late := true } } }.countSat (Reg.CSQ_WIN_CNT k) 0 16 1).windowFault k 1

/-- CLOSE of stage k (R445, R446, R448, R566). -/
def State.stageClose (s : State) (k : Nat) (w : StageWork) : State :=
  let c := s.csq.cur
  if !c.active || !s.csqOn || c.opened.length != k + 1 || c.closed.length != k then s
  else
    let s := s.reach (s.atOff' (s.winClose k))
    let s := { s with csq := { s.csq with cur := { c with closed := c.closed ++ [k] } } }
    let s := (s.wdLate k 1 (s.wdWin k).2.1).tileWindows k false
    (if c.completed.contains k then s else s.stageLate k).stageWork k w

/-- STAGE_CLOSE row (R445). -/
def execStageClose (k : Fin 5) (w : StageWork) (s : State) : Host.Outcome State Fault Refusal := .next (s.stageClose k w)

/-- A stage completes (R24, R446, R566): before OPEN + MIN it is early; after the instant of CLOSE it is late, counted here when its CLOSE
has not been. -/
def State.stageComplete (s : State) (k : Nat) : State :=
  let c := s.csq.cur
  if !c.active || !s.csqOn || !c.opened.contains k || c.completed.contains k then s
  else
    let s := { s with csq := { s.csq with cur := { c with completed := c.completed ++ [k] } } }
    let s := if !c.closed.contains k && decide (s.atOff' (s.winClose k) < s.now) then s.stageLate k else s
    let s := if decide (s.now < s.atOff' (s.winOpen k + s.winMin k)) then s.countSat (Reg.CSQ_WIN_CNT k) 16 16 1 else s
    let w := s.wdWin k
    let s := if decide (s.now < s.atOff' (w.1 + w.2.2)) then s.windowFault k 0 else s
    s.tileWindows k false

/-- STAGE_COMPLETE row (R446). -/
def execStageComplete (k : Fin 5) (s : State) : Host.Outcome State Fault Refusal := .next (s.stageComplete k)

/-! ### The list (R453 to R458) -/

/-- A list: header, ego block, coverage mask, records, CRC (R453, Table 10.2). -/
def State.listBytes (s : State) (out seg segs npassed seq : Nat) (mask : List Byte) (recs : List (List Byte)) : List Byte :=
  let i := s.csq.cur.i
  let h := leBytes 4 0x48464C31 ++ [1] ++ leBytes 1 out ++ leBytes 1 s.csq.cur.level ++ leBytes 1 s.hflags ++ leBytes 8 i ++ htw (s.tOf i) ++
    leBytes 4 seq ++ leBytes 4 (if s.slkConfig == 0 then 0 else s.epoch) ++ leBytes 1 s.deviceByte ++ leBytes 1 seg ++ leBytes 1 segs ++ [0] ++
    leBytes 2 recs.length ++ leBytes 2 mask.length ++ leBytes 4 npassed ++ leBytes 2 s.csq.source ++ leBytes 4 (s.regN Reg.CSQ_START_ID) ++
    List.replicate 6 0
  let body := h ++ fit 64 s.ego.record ++ mask ++ recs.flatten
  body ++ leBytes 4 (crc32c body).toNat

/-- Next SEQ of an output, taken (R456). -/
def State.nextSeq (s : State) (o : Nat) : Nat × State :=
  let q := (s.regN (Reg.CSQ_SEQ o) + 1) % 2 ^ 32
  (q, s.setReg (Reg.CSQ_SEQ o) (BitVec.ofNat 32 q))

/-- The mask of the step as CSQ_MASK holds it. -/
def State.maskBytes (s : State) : List Byte := s.regBytes (Reg.CSQ_MASK 0) 64

/-! ### The outputs (R462 to R477) -/

/-- Records and NPASSED of an output. -/
def State.outRecs (s : State) (o : Nat) : List (List Byte) × Nat := s.csq.cur.recs.getD o ([], 0)

/-- Address of ring slot k. -/
def State.ringAddr (s : State) (k : Nat) : Nat :=
  s.regN Reg.CSQ_RING_BASE_LO + 2 ^ 32 * s.fld' Reg.CSQ_RING_BASE_HI 0 16 + k * s.regN Reg.CSQ_RING_SLOT_SIZE * 4096

/-- A write of CSQ; a refused or failed one is reported by the hurdle or the memory. -/
def State.csqWrite (s : State) (a : Nat) (bs : List Byte) : State := (s.busWrite idCsq a bs).2

/-- A list enters a ring slot under the COMMIT discipline (R464). -/
def State.commitList (s : State) (a i : Nat) (list : List Byte) : State :=
  let old := s.peek a 8 % 2 ^ 63
  ((s.csqWrite a (leBytes 8 (old + 2 ^ 63))).csqWrite (a + 64) list).csqWrite a (leBytes 8 (i % 2 ^ 63))

/-- The step on the host ring (R462 to R470). -/
def State.ringOut (s : State) : State :=
  if !s.bit Reg.CSQ_CTRL 1 then s
  else
    let prod := s.regN Reg.CSQ_RING_PROD
    let full := (prod + 2 ^ 32 - s.regN Reg.CSQ_RING_CONS) % 2 ^ 32 == s.regN Reg.CSQ_RING_SLOTS
    if full && !s.feat 8 then (s.countSat Reg.CSQ_RING_DROP 0 32 1).setBit Reg.CSQ_STATUS 3 true
    else
      let s := if full then ((s.countWrap Reg.CSQ_RING_CONS 0 32 1).countSat Reg.CSQ_RING_OVERRUN 0 32 1).setBit Reg.CSQ_STATUS 3 true else s
      let (q, s) := s.nextSeq 0
      let (recs, passed) := s.outRecs 0
      let list := s.listBytes 0 0 1 passed q s.maskBytes recs
      let a := s.ringAddr (prod % max 1 (s.regN Reg.CSQ_RING_SLOTS))
      let s := (s.commitList a s.csq.cur.i list).countWrap Reg.CSQ_RING_PROD 0 32 1
      (s.emit (.list 0 s.csq.cur.i list)).msix 1

/-- The controller stream's switch port, and its traffic class. -/
def State.csPort (s : State) : Nat := s.fld' Reg.CSQ_CS_CFG 8 4
def State.csClass (s : State) : Nat := s.fld' Reg.CSQ_CS_CFG 12 3

/-- The port's link is up, and its gate for the stream's class is open. -/
def State.csLink (s : State) : Bool := s.ethLive s.csPort && s.bit (Reg.SIC_ETH_STAT s.csPort) 2
def State.csGo (s : State) : Bool := s.csLink && (s.swPort s.csPort).gates.getLsbD s.csClass

/-- Segments counted under R474. -/
def State.csLate (s : State) (n : Nat) : State :=
  if n == 0 then s else (s.countSat Reg.CSQ_CS_LATE 0 32 n).setBit Reg.CSQ_STATUS 4 true

/-- Segments of the step before that have not started are discarded (R474). -/
def State.csDiscard (s : State) : State :=
  let (keep, drop) := match s.csq.segs with
    | [] => ([], [])
    | x :: r => if x.started || s.csGo then ([{ x with started := true }], r) else ([], x :: r)
  { s with csq := { s.csq with segs := keep } }.csLate drop.length

/-- The step on the controller stream: segments of at most SEG_REC records (R471 to R474). -/
def State.csOut (s : State) : State :=
  if !s.bit Reg.CSQ_CTRL 2 then s
  else
    let (recs, passed) := s.outRecs 1
    let cs := if recs.isEmpty then [[]] else chunks (max 1 (s.fld' Reg.CSQ_CS_CFG 0 7)) recs.length recs
    (List.range cs.length).foldl (fun s k =>
      let (q, s) := s.nextSeq 1
      let list := s.listBytes 1 k cs.length passed q s.maskBytes (cs.getD k [])
      if s.csLink then
        { s with csq := { s.csq with segs := s.csq.segs ++ [{ step := s.csq.cur.i, idx := k, bytes := list, started := s.csq.segs.isEmpty && s.csGo }] } }
      else s.csLate 1) s

/-- The step on the Publish FIFO, when it holds no word (R475, R476). -/
def State.pfOut (s : State) : State :=
  if !s.bit Reg.CSQ_CTRL 3 then s
  else if !(s.fifo 0).fill.isEmpty || !(s.fifo 0).drain.isEmpty then s.countSat Reg.CSQ_PF_DROP 0 32 1
  else
    let (q, s) := s.nextSeq 2
    let (recs, passed) := s.outRecs 2
    let list := s.listBytes 2 0 1 passed q [] recs
    (((s.fifoBytes 0 list).fifoFlush 0).emit (.list 2 s.csq.cur.i list)).msix 4

/-- The fallback stream (R583). -/
def State.fbOut (s : State) : State :=
  if !s.fbOn then s
  else
    let s := s.countWrap Reg.SAF_FB_SEQ 0 32 1
    let recs := s.fbRecords s.outNs
    s.emit (.list 3 s.csq.cur.i (s.listBytes 3 0 1 recs.length (s.regN Reg.SAF_FB_SEQ) [] recs))

/-- The lists of the main outputs (R450). -/
def State.mainOut (s : State) : State :=
  let s := (s.setBit Reg.CSQ_STATUS 3 false).setBit Reg.CSQ_STATUS 4 false
  let s := s.csDiscard
  if !s.publishes then s
  else
    let s := ((s.ringOut).csOut).pfOut
    let c := s.csq.cur
    let s := ((s.setBit Reg.CSQ_STATUS 1 c.late).setBit Reg.CSQ_STATUS 2 c.listFallback).setFld Reg.CSQ_STATUS 5 3 c.level
    ((s.setReg64 Reg.CSQ_STEP_LO c.i).setReg Reg.CSQ_EPOCH (BitVec.ofNat 32 (if s.slkConfig == 0 then 0 else s.epoch))).setFld
      Reg.SAF_RESTART 16 16 (satAdd 16 (s.fld' Reg.SAF_RESTART 16 16) 1)

/-- A primary that enters its safe state hands its role to the mirror, naming its next step, and rejoins as SYNCING (R617, R618). -/
def State.giveUpRole (s : State) : State :=
  if s.slk.role != rolePRIMARY || !s.slk.peerMirror then s
  else
    let s := s.sendPair 0x16 s.csq.next 0 (leBytes 8 s.csq.next)
    let s := s.countFailover s.csq.next s.pairPeer
    { s with slk := { s.slk with role := roleSYNCING } }

/-- The restart of R588 goes on once the triggering step's publication is complete: the accelerator-domain reset. The role stays (R617). -/
def State.pubDone (s : State) : State :=
  if s.saf.rsPhase != 1 || s.csq.cur.active || !s.csq.segs.isEmpty then s
  else
    let s := s.giveUpRole
    let role := s.slk.role
    let s := { s.accel.setBit Reg.AON_RST_CAUSE 5 true with saf := { s.saf with rsPhase := 2 } }
    { s with slk := { s.slk with role := role } }

/-- While a restart is in progress the fallback keeps publishing on the safety channel at every T_j (R588, Table 13.8). -/
def State.restartChannel (s : State) : State :=
  let j := (s.saf.chanStep.getD 0) + 1
  if !(s.saf.rsPhase == 2 || s.saf.rsPhase == 3) || !s.csq.t0Set || (s.csq.running && decide (s.csq.next ≤ j)) then s
  else
    let s := (s.reach (s.tOf j)).safetyChannel j true
    { s with saf := { s.saf with chanStep := some j } }

/-- T_i: publication on every output, the safety channel, and what the step's end does (R25, R450, R566, R586, R609, R613, R620, R626). -/
def State.publication (s : State) : State :=
  let c := s.csq.cur
  if !c.active || !s.csqOn || c.opened.length != 5 then (if c.active then s else s.restartChannel)
  else
    let i := c.i
    let s := s.reach (s.tOf i)
    let s := if s.saf.pairA.up && decide (s.tOf i + 5 * usT < s.now) then s.raiseStepDoubt else s
    let s := (s.mainOut.fbOut).safetyChannel i true
    let s := { s with saf := { s.saf with chanStep := some i, startup := s.saf.startup + 1 }
                      csq := { s.csq with pub := some i, cur := { s.csq.cur with active := false } } }
    let s := if s.runsStages then s.freeRetired else s
    let (recs, passed) := s.outRecs 0
    let s := (s.handSend i).sendStepEnd i
    let s := (s.syncSend i).sendList i (s.listBytes 0 0 1 passed (s.regN (Reg.CSQ_SEQ 0)) s.maskBytes recs)
    s.pubDone

/-- PUBLICATION_START row (R25). -/
def execPublicationStart (s : State) : Host.Outcome State Fault Refusal := .next s.publication

/-- The frame that carries a segment: UDP over IPv4, with the addresses, ports, VLAN and priority that the CSQ_CS registers hold (R471). -/
def State.csFrame (s : State) (k : Nat) (list : List Byte) : EthFrame :=
  let data := ipDatagram (s.regN Reg.CSQ_CS_SIP) (s.regN Reg.CSQ_CS_DIP) (s.fld' Reg.CSQ_CS_UDP 0 16) (s.fld' Reg.CSQ_CS_UDP 16 16)
    (Config.ipFields k) list
  { raw := s.now, dmac := BitVec.ofNat 48 (s.regN Reg.CSQ_CS_DMAC_LO + 2 ^ 32 * s.fld' Reg.CSQ_CS_DMAC_HI 0 16),
    smac := Config.portMac s.csPort, vlan := BitVec.ofNat 12 (s.fld' Reg.CSQ_CS_VLAN 0 12), pcp := BitVec.ofNat 3 (s.fld' Reg.CSQ_CS_CFG 24 3),
    etype := 0x0800, udp := BitVec.ofNat 16 (s.fld' Reg.CSQ_CS_UDP 16 16), len := data.length + 22, fcsOk := true, sec := none, rseq := none,
    payload := data }

/-- The first segment's last bit leaves the port (R474): counted, and late beyond 25 µs from its T_i. -/
def State.csSent (s : State) : State :=
  match s.csq.segs with
  | [] => s
  | x :: r =>
    if !(x.started || s.csGo) || !s.csLink then s
    else
      let q := s.csPort
      let f := s.csFrame (leNat ((x.bytes.drop 32).take 4)) x.bytes
      let (seq, s') := s.seqStamp f
      let frame := ethBytes f seq
      let s' := { s' with csq := { s'.csq with segs := match r with
        | [] => []
        | y :: t => { y with started := s.csGo } :: t } }
      let s' := match s.txAssoc q with
        | some a => s'.sendProtected q a frame
        | none => if (s.swPort q).macsecReq then s else s'.emit (.eth q 12 frame)
      if s'.csq.segs.length == s.csq.segs.length then s
      else
        let s := (s'.emit (.list 1 x.step x.bytes)).countWrap Reg.CSQ_CS_SENT 0 32 1
        let s := if decide (s.tOf x.step + 25 * usT < s.now) then s.csLate 1 else s
        s.pubDone

/-- CS_SEGMENT_SENT row (R474). -/
def execCsSegmentSent (s : State) : Host.Outcome State Fault Refusal := .next s.csSent

/-! ### Registers with effects of their own -/

/-- A write of CSQ_RING_CONS (R467). -/
def State.ringCons (s : State) (v : W32) : State :=
  if consOk (s.regN Reg.CSQ_RING_CONS) (s.regN Reg.CSQ_RING_PROD) v.toNat then s.setReg Reg.CSQ_RING_CONS v
  else s.setBit Reg.CSQ_STATUS 8 true

/-- RING_CONS_WRITE row (R467). -/
def execRingConsWrite (v : W32) (s : State) : Host.Outcome State Fault Refusal :=
  .next (s.hostReg Reg.CSQ_RING_CONS (fun s => s.ringCons v))

/-- A read of CSQ_PF_DATA takes a word and latches its high half; an uncorrectable word ends in a Completer Abort (R477, R550). -/
def State.pfRead (s : State) (wide : Bool) : State :=
  match s.fifoGet 0 idHost with
  | (.ok w, s) =>
    (s.setReg Reg.CSQ_PF_DATA_HI (BitVec.ofNat 32 (w.toNat / 2 ^ 32))).emit (.host .sc (leBytes (if wide then 8 else 4) w.toNat))
  | (.error _, s) => s.failHost .ca

/-- PFIFO_READ row (R477). -/
def execPfifoRead (wide : Bool) (s : State) : Host.Outcome State Fault Refusal :=
  .next (s.hostAccessN .read Reg.CSQ_PF_DATA (if wide then 8 else 4) (fun s => s.pfRead wide))

/-- A switch port's link comes up, at a speed the partner has a say in (drawn, log entry 6), or goes down, port
T1P0 alone perhaps into TC10 sleep (drawn): controller segments that cannot be queued then count as late (R474). -/
def State.ethLink (s : State) (q : Nat) (up : Bool) : State :=
  if !s.ethLive q then s
  else if up then
    let (v, s) := s.draw
    (((s.setBit (Reg.SIC_ETH_STAT q) 2 true).setBit (Reg.SIC_ETH_STAT q) 11 false).setFld (Reg.SIC_ETH_STAT q) 0 2 v)
  else
    let s := s.setBit (Reg.SIC_ETH_STAT q) 2 false
    let s := if q == 0 then (let (v, s) := s.draw; s.setFld (Reg.SIC_ETH_STAT q) 11 1 (v % 2)) else s
    if q == s.csPort then ({ s with csq := { s.csq with segs := [] } }.csLate s.csq.segs.length).pubDone else s

/-- ETH_LINK_CHANGE row (R474). -/
def execEthLinkChange (q : Fin 12) (up : Bool) (s : State) : Host.Outcome State Fault Refusal := .next (s.ethLink q up)

end Sys2Proof.Machine
end

