-- ==== Sys2Proof/Machine/Fcu.lean ====
section
/-! DEFINITION. Machine/Fcu.lean: the point-packet decoder (R104 to R109) and the Fallback Clustering Unit (R144 to R149). -/

namespace Sys2Proof.Machine

/-! ### The Fallback Clustering Unit -/

/-- FCU state of a scanner entry. -/
def State.fcuOf (s : State) (f : Nat) : Fcu := SMap.get {} s.sic.fcu f

/-- Set the FCU state of a scanner entry. -/
def State.setFcu (s : State) (f : Nat) (x : Fcu) : State := { s with sic := { s.sic with fcu := SMap.put {} s.sic.fcu f x } }

/-- The FCU runs: FCU_EN and domain 95 (Table 16.1). -/
def State.fcuRuns (s : State) : Bool := s.bit Reg.SIC_CTRL 4 && s.powered 95

/-- A packet of the scanner was dropped or lost (R149). -/
def State.fcuLoss (s : State) (slot : Nat) : State :=
  match s.fcuEntry slot with
  | some f => s.setFcu f { s.fcuOf f with loss := true }
  | none => s

/-- Cell of a point in the range image (R144): row, column; none outside the elevation range. -/
def State.fcuCell (s : State) (f : Nat) (el : Int) (az : Nat) : Option (Nat × Nat) :=
  let lo := toSigned 16 (s.fld' (Reg.SIC_FCU_ELEV f) 0 16)
  let hi := toSigned 16 (s.fld' (Reg.SIC_FCU_ELEV f) 16 16)
  if el < lo || hi ≤ el then none
  else some (((el - lo) * s.fld' (Reg.SIC_FCU_CFG f) 0 8 / (hi - lo)).toNat, az * s.fld' (Reg.SIC_FCU_CFG f) 8 12 / 6283185)

/-- Range of a point in mm; the root of a Cartesian point's square is taken exactly and floored. -/
def ptRange (p : Pt) : Nat := if p.polar then p.c.toNat else Nat.sqrt (p.a * p.a + p.b * p.b + p.c * p.c).toNat

/-- A point enters the range image of its scanner; the nearer of two returns stays (R144). The first point after a loss closes an incomplete
interval of columns (R149). -/
def State.fcuPoint (s : State) (f : Nat) (p : Pt) : State :=
  let (el, az) := if p.polar then (p.a, p.b.toNat) else polarOf p.a p.b p.c
  let x := s.fcuOf f
  let col := az * s.fld' (Reg.SIC_FCU_CFG f) 8 12 / 6283185
  let x := match x.loss, x.lastCol with
    | true, some c => { x with gaps := (c, col) :: x.gaps, loss := false }
    | _, _ => { x with loss := false }
  let x := { x with lastCol := some col }
  if noReturn p then s.setFcu f x
  else
    match s.fcuCell f el az with
    | none => s.setFcu f x
    | some (r, c) =>
      let k := r * s.fld' (Reg.SIC_FCU_CFG f) 8 12 + c
      let cell : FcuCell := { range := ptRange p, pos := applyExt (nominal (s.slot p.slot).record) (sensorPoint p), time := p.time }
      match SMap.find? x.cells k with
      | some old => if cell.range < old.range then s.setFcu f { x with cells := SMap.insert x.cells k cell } else s.setFcu f x
      | none => s.setFcu f { x with cells := SMap.insert x.cells k cell }

/-- Column of a point in its scanner's range image (R144). -/
def State.ptCol (s : State) (f : Nat) (p : Pt) : Nat :=
  (if p.polar then p.b.toNat else (polarOf p.a p.b p.c).2) * s.fld' (Reg.SIC_FCU_CFG f) 8 12 / 6283185

/-- A revolution is complete: its clusters are due (R147). -/
def Fcu.close (x : Fcu) : Fcu :=
  match x.rev with
  | none => x
  | some r => { x with ready := x.ready ++ [(r, x.cells, x.gaps)], cells := [], gaps := [], rev := none }

/-- The LAST_OF_REV packet completes a revolution (R147). -/
def State.fcuRev (s : State) (f : Nat) : State := s.setFcu f (s.fcuOf f).close

/-- A packet of revolution `rev`, whose first point lies in column `col`, reaches the FCU. Where the last packets of another revolution were
dropped or lost, that one is complete; it and the new one share the columns between as incomplete (R144, R149). -/
def State.fcuBegin (s : State) (f rev col : Nat) : State :=
  let x := s.fcuOf f
  let x := match x.rev with
    | some r =>
      if r == rev then x
      else
        let gap : List (Nat × Nat) := match x.lastCol with
          | some c => [(c, col)]
          | none => []
        { Fcu.close { x with gaps := gap ++ x.gaps } with gaps := gap, loss := false }
    | none => x
  s.setFcu f { x with rev := some rev }

/-- A cell is ground (R145): near the ground plane, and its slope to the nearest non-empty cell below in its column under 10 degrees, that
is tan² below 0.031091204125763378. -/
def State.fcuGround (s : State) (cols : Nat) (cells : SMap FcuCell) (k : Nat) (c : FcuCell) : Bool :=
  let (a, b, d) := s.sic.ground
  let h := c.pos.2.2 - roundAway (a * c.pos.1 + b * c.pos.2.1) (2 ^ 30) - d
  let flat := match (cells.filter (fun (j, _) => j < k && j % cols == k % cols)).getLast? with
    | some (_, g) =>
      let dz := c.pos.2.2 - g.pos.2.2
      let dx := c.pos.1 - g.pos.1
      let dy := c.pos.2.1 - g.pos.2.1
      decide (dz * dz * 1000000000000000000 < 31091204125763378 * (dx * dx + dy * dy))
    | none => true
  decide (h.natAbs ≤ s.fld' Reg.SIC_FCU_CTRL 16 8 * 10 * 1024) && flat

/-- Two cells are 4-neighbours; columns wrap, rows do not (R146). -/
def neighbours (cols j k : Nat) : Bool :=
  let (rj, cj) := (j / cols, j % cols)
  let (rk, ck) := (k / cols, k % cols)
  (cj == ck && (rj == rk + 1 || rk == rj + 1)) || (rj == rk && ((cj + 1) % cols == ck || (ck + 1) % cols == cj) && cj != ck)

/-- Two cells join: 4-neighbours whose ranges differ by no more than the larger of JOIN_MIN and JOIN_REL of the nearer (R146). -/
def State.fcuJoin (s : State) (cols : Nat) (a b : Nat × FcuCell) : Bool :=
  neighbours cols a.1 b.1 &&
  decide (((a.2.range : Int) - b.2.range).natAbs * 1000 ≤ max (s.fld' Reg.SIC_FCU_CTRL 8 8 * 10000) (s.fld' Reg.SIC_FCU_CTRL 0 8 * min a.2.range b.2.range))

/-- Add a cell to the clusters: those with a cell it joins become one with it. -/
def State.fcuAdd (s : State) (cols : Nat) (cs : List (List (Nat × FcuCell))) (c : Nat × FcuCell) : List (List (Nat × FcuCell)) :=
  let (j, r) := cs.partition (fun l => l.any (s.fcuJoin cols c))
  (c :: j.flatten) :: r

/-- Mean of some integers, to nearest with ties away from zero. -/
def meanInt (l : List Int) : Int := roundAway l.sum (max 1 l.length)

/-- Least and greatest of some integers. -/
def loInt (l : List Int) : Int := l.foldl min (l.headD 0)
def hiInt (l : List Int) : Int := l.foldl max (l.headD 0)

/-- A column lies in an incomplete interval or next to one, in azimuth order (R149). -/
def inGap (cols : Nat) (c : Nat) (g : Nat × Nat) : Bool :=
  let n := (g.2 + cols - g.1) % cols + 3
  decide ((c + cols + 1 - g.1 % cols) % cols < min n cols) || decide (cols ≤ n)

/-- A cluster touches the edge of the field of view (R149). -/
def fcuEdge (rows cols : Nat) (gaps : List (Nat × Nat)) (l : List (Nat × FcuCell)) : Bool :=
  l.any (fun (k, _) => k / cols == 0 || k / cols + 1 == rows || gaps.any (inGap cols (k % cols)))

/-- Centroid of a cluster in mm (Table 3.12). -/
def centroid (l : List (Nat × FcuCell)) : Int × Int × Int :=
  let m (f : FcuCell → Int) : Int := roundAway ((l.map (fun c => f c.2)).sum) (1024 * max 1 l.length)
  (m (fun c => c.pos.1), m (fun c => c.pos.2.1), m (fun c => c.pos.2.2))

/-- A cluster record (Table 3.12). -/
def clusterRecord (rows cols slot rev : Nat) (gaps : List (Nat × Nat)) (trunc : Bool) (l : List (Nat × FcuCell)) : List Byte :=
  let ts := l.map (fun c => (c.2.time : Int))
  let ext (f : FcuCell → Int) : List Byte := leBytes 2 (min 65535 (roundAway (hiInt (l.map (fun c => f c.2)) - loInt (l.map (fun c => f c.2))) 1024).toNat)
  let (cx, cy, cz) := centroid l
  let w (v : Int) : List Byte := leBytes 4 (ofSigned 32 (satInt 32 v))
  leBytes 8 ((loInt ts + hiInt ts) / 2).toNat ++ w cx ++ w cy ++ w cz ++ ext (fun c => c.pos.1) ++ ext (fun c => c.pos.2.1) ++ ext (fun c => c.pos.2.2) ++
  leBytes 2 (min 65535 l.length) ++ leBytes 1 slot ++ leBytes 1 ((if trunc then 1 else 0) + (if fcuEdge rows cols gaps l then 2 else 0)) ++ leBytes 2 rev

/-- Nearest first by horizontal distance, then the lower lowest cell index (R147). -/
def nearFirst (a b : List (Nat × FcuCell)) : Bool :=
  let key (l : List (Nat × FcuCell)) : Int × Nat := let c := centroid l; (c.1 * c.1 + c.2.1 * c.2.1, (l.map (·.1)).foldl min ((l.map (·.1)).headD 0))
  let (x, i) := key a
  let (y, j) := key b
  decide (x < y) || (x == y && decide (i ≤ j))

/-- The clusters of a completed revolution (R145, R146): ground cells out, the others joined, small clusters dropped. -/
def State.fcuClusters (s : State) (cols : Nat) (cells : SMap FcuCell) : List (List (Nat × FcuCell)) :=
  let up := List.filter (fun (p : Nat × FcuCell) => !s.fcuGround cols cells p.1 p.2) cells
  (up.foldl (s.fcuAdd cols) []).filter (fun l => decide (s.fld' Reg.SIC_FCU_CTRL 24 8 ≤ l.length))

/-- The FCU emits the clusters of the oldest completed revolution of a slot's scanner to the island (R147, R148): the words wait for room in
their crossing FIFO, and the last, part-filled bank is flushed. -/
def State.fcuEmit (s : State) (slot : Nat) : State :=
  match s.fcuRuns, s.fcuEntry slot with
  | true, some f =>
    let x := s.fcuOf f
    match x.ready with
    | [] => s
    | (rev, cells, gaps) :: r =>
      let rows := s.fld' (Reg.SIC_FCU_CFG f) 0 8
      let cols := s.fld' (Reg.SIC_FCU_CFG f) 8 12
      let all := sortBy nearFirst (s.fcuClusters cols cells)
      let out := all.take 512
      let excess := decide (512 < all.length)
      let s := (s.setFcu f { x with ready := r }).countWrap Reg.SIC_FCU_STATUS 0 16 1
      let s := s.countSat Reg.SIC_FCU_DROP 0 32 (all.length - 512)
      let recs := (List.range out.length).flatMap (fun k =>
        clusterRecord rows cols slot rev gaps (excess && k + 1 == out.length) (out.getD k []))
      { s with sic := { s.sic with fcuOut := s.sic.fcuOut ++ (words64 recs).map some ++ [none] } }.fcuPump
  | _, _ => s

/-- FCU_CLUSTER_EMIT row (R147). -/
def execFcuClusterEmit (slot : BitVec 8) (s : State) : Host.Outcome State Fault Refusal := .next (s.fcuEmit slot.toNat)

/-! ### Point packets -/

/-- Size of a point (Table 3.4). -/
def ptSize (b : List Byte) : Nat := if u b 5 1 == 0 then 12 else 16

/-- Byte offset of point k. -/
def ptOff (b : List Byte) (k : Nat) : Nat := 40 + k * ptSize b

/-- Point k's time (R105). -/
def ptTime (b : List Byte) (k : Nat) : Nat := u b 16 8 + u b (ptOff b k) 2 * u b 24 4

/-- A packet of a slot is well formed (R106). -/
def packetOk (r b : List Byte) : Bool :=
  let n := u b 6 2
  40 ≤ b.length && u b 0 4 == 0x48504B31 && u b 4 1 == 1 && u b 5 1 ≤ 1 && u b 12 2 == recSource r &&
  1 ≤ u b 24 4 && u b 24 4 ≤ 65535 && b.length == 40 + n * ptSize b && 1 ≤ n && (if u b 5 1 == 0 then n ≤ 744 else n ≤ 558) &&
  bits (u b 14 2) 2 14 == 0 && u b 32 4 == 0 && u b 36 4 == (crc32c (b.take 36 ++ b.drop 40)).toNat &&
  (List.range n).all (fun k => if u b 5 1 == 0 then u b (ptOff b k + 4) 4 ≤ 6283184 else u b (ptOff b k + 2) 1 == 0)

/-- Decode point k of a packet (Tables 3.5 and 3.6). -/
def decodePt (slot : Nat) (b : List Byte) (k : Nat) : Pt :=
  let o := ptOff b k
  if u b 5 1 == 0 then
    { slot := slot, time := ptTime b k, polar := true, a := i b (o + 2) 2, b := u b (o + 4) 4, c := u b (o + 8) 3, inten := u b (o + 11) 1 }
  else
    { slot := slot, time := ptTime b k, polar := false, a := i b (o + 4) 4, b := i b (o + 8) 4, c := i b (o + 12) 4, inten := u b (o + 3) 1 }

/-- A packet dropped: its scanner's revolution has a loss (R149). -/
def State.dropPacket (s : State) (slot : Nat) : State := s.fcuLoss slot

/-- Points of a good packet go to PAE, and to the FCU with TO_FCU set, from a PRESENT slot (R80, R105, R144); the packet of any other slot
is dropped, which is a loss to its revolution (R149). -/
def State.passPoints (s : State) (slot : Nat) (b : List Byte) : State :=
  let r := (s.slot slot).record
  let pts := (List.range (u b 6 2)).map (decodePt slot b)
  if !s.forwards slot then s.dropPacket slot
  else
    let s := { s with pae := { s.pae with queue := s.pae.queue ++ pts } }.handOn slot 0 (u b 16 8 * nsT) b
    match bits (recFlags r) 2 1 == 1 && s.fcuRuns, s.fcuEntry slot with
    | true, some f =>
      let s := s.yieldFcu.fcuBegin f (u b 28 4) ((pts.head?.map (s.ptCol f)).getD 0)
      let s := pts.foldl (fun s p => s.fcuPoint f p) s
      if bits (u b 14 2) 1 1 == 1 then s.fcuRev f else s
    | _, _ => s

/-- A well-formed packet judged against SEQ, TIME_VALID and the arrival capture (R107 to R109, R116). SEQ is judged first: a repeated or
backward packet is charged 0x22 alone, whatever its time (DESIGN CHOICE, log entry 34: the manual gives no order). -/
def State.judgePacket (s : State) (slot : Nat) (arr : Time) (b : List Byte) : State :=
  let x := s.slot slot
  let seq := u b 8 4
  let adv := match x.seq with
    | some l => (seq + 2 ^ 32 - l) % 2 ^ 32
    | none => 1
  if adv == 0 || 2 ^ 31 ≤ adv then (s.violate slot 0x22).dropPacket slot
  else
    let s := s.setSlot slot { x with seq := some seq }
    let s := if 1 < adv then (s.countSat (Reg.SIC_SLOTSTAT slot 1) 0 32 (adv - 1)).dropPacket slot else s
    if bits (u b 14 2) 0 1 == 0 then ((s.countSat (Reg.SIC_SLOTSTAT slot 0) 0 32 1).inconsistent slot).dropPacket slot
    else if arr < u b 16 8 * nsT || ptTime b (u b 6 2 - 1) * nsT + recTol x.record * 100000 * nsT < arr then (s.violate slot 0x21).dropPacket slot
    else
      let s := (s.consistent slot).passPoints slot b
      if bits (u b 14 2) 1 1 == 1 then s.calStep slot else s

/-- A datagram reaches the intake: its port is live and not held, and the SIC core is powered. -/
def State.intake (s : State) (d : Datagram) : Bool := s.ethLive d.port && s.powered 94 && !s.sic.heldPorts.contains (272 + d.port.val)

/-- A point packet (R104 to R109). -/
def State.pointPacket (s : State) (d : Datagram) : State :=
  if !s.intake d then s
  else
    let s := s.reach d.raw
    match s.findSlot (fun r => recKind r == kScanner && recVlan r == d.vlan.toNat && recMac r == d.smac.toNat && recUdp r == d.udp.toNat) with
    | none => s.unmatched d.port d.smac d.vlan d.udp
    | some k =>
      let s := (s.yieldPatch [k]).received k
      if packetOk (s.slot k).record d.payload then s.judgePacket k (s.capture d.port d.raw) d.payload
      else (s.violate k 0x20).dropPacket k

/-- POINT_PACKET row (R104). -/
def execPointPacket (d : Datagram) (s : State) : Host.Outcome State Fault Refusal := .next (s.pointPacket d)

end Sys2Proof.Machine
end

