-- ==== Sys2Proof/Machine/Partner.lean ====
section
/-! DEFINITION. Machine/Partner.lean: the partner-list intake (R110, R111, R756). -/

namespace Sys2Proof.Machine

/-- Record k of a list (R453). -/
def listRec (b : List Byte) (k : Nat) : List Byte := (b.drop (128 + u b 46 2 + 96 * k)).take 96

/-- The form checks of R110 on a list: CRC, MAGIC, VERSION, OUTPUT, reserved bytes, MASK_LEN, segment numbers, length, OUT_TIME (R43).
HFLAGS [7], which Table 10.2 marks zero, counts as a reserved bit, and an OUT_TIME that is no valid HTW128 as a wrong format (DESIGN
CHOICE, log entry 34: R110 names neither). -/
def listOk (b : List Byte) : Bool :=
  let n := u b 44 2
  let m := u b 46 2
  132 ≤ b.length && u b 0 4 == 0x48464C31 && u b 4 1 == 1 && u b 5 1 ≤ 3 && bits (u b 7 1) 7 1 == 0 && u b 43 1 == 0 && allZero b 58 6 &&
  (m == 0 || m == 256) && u b 42 1 != 0 && u b 41 1 < u b 42 1 && b.length == 132 + m + 96 * n && u b 20 4 < 1000000000 &&
  (List.range n).all (fun k => allZero (listRec b k) 62 2) &&
  u b (b.length - 4) 4 == (crc32c (b.take (b.length - 4))).toNat

/-- OUT_TIME of a list as NS64. -/
def listNs (b : List Byte) : Nat := u b 24 8 * 1000000000 + u b 20 4

/-- A record gives a detection unless it is RETIRING or RETIRED (R111). -/
def recMeasures (r : List Byte) : Bool := u r 8 1 != 5 && bits (u r 11 1) 3 1 == 0

/-- The detection of a record: time, class, existence, extent and embedding as the list has them; its measurement is the model's own
conversion (R111, R361, R362; log entry 12). -/
def State.partnerDetection (s : State) (slot : Nat) (b : List Byte) (k : Nat) : List Byte :=
  let r := listRec b k
  let x := fit 128 (Config.partnerDet (b.take 128) r (u (s.slot slot).record 6 1))
  let x := patch x 0 (leBytes 8 (listNs b))
  let x := patch (patch x 10 (leBytes 1 (u r 10 1) ++ leBytes 1 (u r 9 1))) 14 [0, 0]
  s.asDet slot k (patch (patch x 88 ((r.drop 52).take 6)) 96 ((r.drop 64).take 32))

/-- FLD makes one detection of each record that carries a measurement (R111). -/
def State.partnerDets (s : State) (slot : Nat) (b : List Byte) : State :=
  ((List.range (u b 44 2)).filter (fun k => recMeasures (listRec b k))).foldl (fun s k => s.detReady (s.partnerDetection slot b k) (u b 6 1)) s

/-- A list in form is judged by its SEQ within its START_ID and by its output time (R110, R116); one at L0 ends there (R111). -/
def State.judgeList (s : State) (slot : Nat) (arr : Time) (b : List Byte) : State :=
  let x := s.slot slot
  let seq := u b 32 4
  let id := u b 54 4
  let back := match SMap.find? x.starts id with
    | some l => let a := (seq + 2 ^ 32 - l) % 2 ^ 32; a == 0 || decide (2 ^ 31 ≤ a)
    | none => false
  if back then (s.received slot).violate slot 0x30
  else
    let s := s.setSlot slot { x with starts := SMap.insert x.starts id seq }
    let out := u b 16 4 + listNs b * nsT
    if arr < out || out + recTol x.record * 100000 * nsT < arr then (s.received slot).violate slot 0x31
    else if u b 6 1 == 0 then s
    else
      let s := ((s.received slot).consistent slot)
      if s.forwards slot then (s.handOn slot 0 out b).partnerDets slot b else s

/-- The PARTNER slot a list belongs to: VLAN, SRC_MAC, UDP_PORT and SOURCE_ID, 0 of which matches any SOURCE (R756). -/
def State.partnerSlot (s : State) (d : Datagram) : Option Nat :=
  s.findSlot (fun r => recKind r == kPartner && recVlan r == d.vlan.toNat && recMac r == d.smac.toNat && recUdp r == d.udp.toNat &&
    (recSource r == 0 || recSource r == u d.payload 52 2))

/-- A partner list arrives (R110, R111, R756). -/
def State.partnerList (s : State) (d : Datagram) : State :=
  if !s.intake d then s
  else
    let s := s.reach d.raw
    match s.partnerSlot d with
    | none => s.unmatched d.port d.smac d.vlan d.udp
    | some k =>
      let s := s.yieldPatch [k]
      if listOk d.payload then s.judgeList k (s.capture d.port d.raw) d.payload else (s.received k).violate k 0x30

/-- PARTNER_LIST row (R110). -/
def execPartnerList (d : Datagram) (s : State) : Host.Outcome State Fault Refusal := .next (s.partnerList d)

end Sys2Proof.Machine
end

