-- ==== Sys2Proof/Machine/Slots.lean ====
section
/-! DEFINITION. Machine/Slots.lean: slot timeouts, SIC_SLOT_CMD (R115, R118 to R125, R130, R131, R151, R152) and the patch test (R134 to
R143). -/

namespace Sys2Proof.Machine

/-! ### Timeouts -/

/-- A PRESENT slot without a sample for three periods enters SILENT (R115). -/
def State.silence (s : State) (n : Nat) : State :=
  if s.powered 94 && (s.slot n).st == .present then
    let s := s.reach ((s.slot n).lastRx + 3 * s.periodT n)
    s.setSlot n { s.slot n with st := .silent }
  else s

/-- SLOT_SILENCE row (R115). -/
def execSlotSilence (slot : BitVec 8) (s : State) : Host.Outcome State Fault Refusal := .next (s.silence slot.toNat)

/-- A RUNTIME slot without a sample for SIC_LEAVE_TO is released (R124); a quarantined one once its hold has ended (R131). -/
def State.leave (s : State) (n : Nat) : State :=
  let x := s.slot n
  if s.powered 94 && x.bound && x.runtime && x.st != .quarantined then
    (s.reach (x.lastRx + s.regN Reg.SIC_LEAVE_TO * msT)).releaseSlot n true
  else s

/-- PARTNER_LEAVE row (R124). -/
def execPartnerLeave (slot : BitVec 8) (s : State) : Host.Outcome State Fault Refusal := .next (s.leave slot.toNat)

/-- The end of a hold; a link port begins its fresh HELLO exchange and its ECHO test (R130, R630). -/
def State.holdOver (s : State) (k : Nat) : State :=
  let held := (s.vrec k).hold.isSome
  let s := s.endHold k
  if 304 ≤ k && held && (s.vrec k).hold.isNone then (s.sendHello (k - 304) true).sendEcho (k - 304) false else s

/-- QUARANTINE_HOLD_END row (R130). -/
def execQuarantineHoldEnd (u : QUnit) (s : State) : Host.Outcome State Fault Refusal :=
  .next (s.holdOver (QUnit.code u))

/-! ### SIC_SLOT_CMD -/

/-- The hold of a unit has lasted SIC_QUAR_HOLD steps (R130). -/
def State.holdDue (s : State) (k : Nat) : Bool :=
  match (s.vrec k).hold with
  | some h => decide (h + s.regN Reg.SIC_QUAR_HOLD ≤ s.stepNo)
  | none => false

/-- The automatic changes of a slot that are due now: the end of a hold of its own or of its port, silence, and the leave timeout (R115,
R124, R130). -/
def State.autoDue (s : State) (n : Nat) : State :=
  let port := recUnit (s.slot n).record
  let s := if (s.slot n).bound && s.sic.heldPorts.contains port && s.holdDue port then s.endHold port else s
  let s := if s.holdDue n then s.endHold n else s
  let x := s.slot n
  let s := if x.st == .present && decide (x.lastRx + 3 * s.periodT n ≤ s.now) then s.setSlot n { x with st := .silent } else s
  let x := s.slot n
  if x.bound && x.runtime && x.st != .quarantined && decide (x.lastRx + s.regN Reg.SIC_LEAVE_TO * msT ≤ s.now) then s.releaseSlot n true else s

/-- A SIC_SLOT_CMD: an automatic change of the slot that falls due in the same cycle is made first, and the command is judged against the
state it leaves (R120); its slot and status in SIC_SLOT_CMD_ST (R151). -/
def State.slotCmd (s : State) (n : Nat) (f : State → Nat × State) : State :=
  s.unlessBusy Reg.SIC_SLOT_CMD_ST 16 (fun s =>
    let (c, s) := f (s.autoDue n)
    (s.setFld Reg.SIC_SLOT_CMD_ST 8 8 n).status Reg.SIC_SLOT_CMD_ST c)

/-- The staged SLOTS record (R751). -/
def State.staged (s : State) : List Byte := s.regBytes (Reg.SIC_SLOT_XSTAGE 0) 16 ++ s.regBytes (Reg.SIC_SLOT_STAGE 0) 16

/-- ADMIT (R118, R119, R152, R752). -/
def State.doAdmit (s : State) (n : Nat) : State := s.slotCmd n (fun s => s.admitRec n s.staged)

/-- ADMIT row (R118). -/
def execAdmission (slot : BitVec 8) (s : State) : Host.Outcome State Fault Refusal :=
  .next (s.hostCmd Reg.SIC_SLOT_CMD (fun s => s.doAdmit slot.toNat))

/-- RELEASE: only a RUNTIME slot (R125, R152). -/
def State.doSlotRelease (s : State) (n : Nat) : State :=
  s.slotCmd n (fun s => if (s.slot n).bound && (s.slot n).runtime then (DONE, s.releaseSlot n true) else (REFUSED_STATE, s))

/-- SLOT_RELEASE row (R152). -/
def execSlotRelease (slot : BitVec 8) (s : State) : Host.Outcome State Fault Refusal :=
  .next (s.hostCmd Reg.SIC_SLOT_CMD (fun s => s.doSlotRelease slot.toNat))

/-- READMIT: only an EXCLUDED slot (R152); calibration LOST starts again in NOMINAL (R181). -/
def State.doReadmit (s : State) (n : Nat) : State :=
  s.slotCmd n (fun s =>
    if (s.slot n).st == .excluded then
      let s := s.startAdmitting n
      let s := if (s.calOf n).st == 3 then (s.setCal n { cmd := (s.calOf n).cmd }).calEvent n 3 0 else s
      (DONE, s)
    else (REFUSED_STATE, s))

/-- SLOT_READMIT row (R152). -/
def execSlotReadmit (slot : BitVec 8) (s : State) : Host.Outcome State Fault Refusal :=
  .next (s.hostCmd Reg.SIC_SLOT_CMD (fun s => s.doReadmit slot.toNat))

/-- QUARANTINE: the hold of R130 as if the threshold had been reached (R152). -/
def State.doSlotQuar (s : State) (n : Nat) : State :=
  s.slotCmd n (fun s => if (s.slot n).bound then (DONE, s.quarSlot n) else (REFUSED_STATE, s))

/-- SLOT_QUARANTINE row (R152). -/
def execSlotQuarantine (slot : BitVec 8) (s : State) : Host.Outcome State Fault Refusal :=
  .next (s.hostCmd Reg.SIC_SLOT_CMD (fun s => s.doSlotQuar slot.toNat))

/-! ### The patch test -/

/-- Set a patch path. -/
def State.setPath (s : State) (k : Nat) (x : PatchPath) : State := { s with sic := { s.sic with paths := SMap.insert s.sic.paths k x } }

/-- The test of a path falls due PATCH_PERIOD after its last completed test started (R136). -/
def State.patchDue (s : State) (k : Nat) : State :=
  match s.patchRuns && s.powered 94, SMap.find? s.sic.paths k with
  | true, some x =>
    if x.due then s else (s.reach (x.lastStart + s.regN Reg.SIC_PATCH_PERIOD * msT)).setPath k { x with due := true }
  | _, _ => s

/-- PATCH_DUE row (R136). -/
def execPatchDue (path : Nat) (s : State) : Host.Outcome State Fault Refusal := .next (s.patchDue path)

/-- The path has an opportunity now (Table 3.10): a camera stream in vertical blanking, the FCU between revolutions; the other paths between
two commands. -/
def State.patchOpen (s : State) (x : PatchPath) : Bool :=
  match x.slot with
  | none => s.sic.fcu.all (fun (p : Nat × Fcu) => p.2.rev.isNone)
  | some n => let r := (s.slot n).record; recKind r != kCamera || (s.vc (recPort r) (recVc r)).blank

/-- The patch is injected at the first opportunity; when it is complete is drawn (R134, R136). -/
def State.patchInject (s : State) (k : Nat) : State :=
  match s.patchRuns && s.powered 94, SMap.find? s.sic.paths k with
  | true, some x =>
    if x.due && x.injected.isNone && s.patchOpen x then
      let (v, s) := s.draw
      s.setPath k { x with injected := some s.now, inBuf := true, complete := s.now + v }
    else s
  | _, _ => s

/-- PATCH_INJECT row (R134). -/
def execPatchInject (path : Nat) (s : State) : Host.Outcome State Fault Refusal := .next (s.patchInject path)

/-! ### A patch runs through its path (R134, R135, R177)

Each engine works on PATCH data apart from real data: the functions below are the engines' own, on the patch bytes, and their results go to
the comparison alone. -/

/-- A scanner's patch packet: decoded points, and what PAE makes of each with the nominal extrinsic and an identity pose (R177). -/
def State.patchScan (s : State) (slot : Nat) (b : List Byte) : List Int :=
  ((List.range (u b 6 2)).map (decodePt slot b)).flatMap (fun p =>
    [(p.time : Int), p.a, p.b, p.c, (p.inten : Int)] ++ s.patchNums p)

/-- The cluster records of the FCU's patch packet, whose scanner is the first bound one with its SCANNER_ID (R134, R144 to R148). -/
def State.patchFcu (s : State) (b : List Byte) : List Byte :=
  match s.boundSlots.find? (fun n => recKind (s.slot n).record == kScanner && recSource (s.slot n).record == u b 12 2 && (s.fcuEntry n).isSome) with
  | none => []
  | some n =>
    let f := (s.fcuEntry n).getD 0
    let rows := s.fld' (Reg.SIC_FCU_CFG f) 0 8
    let cols := s.fld' (Reg.SIC_FCU_CFG f) 8 12
    let priv := ((List.range (u b 6 2)).map (decodePt n b)).foldl (fun s p => s.fcuPoint f p) (s.setFcu f {})
    (sortBy nearFirst (s.fcuClusters cols (priv.fcuOf f).cells)).flatMap (clusterRecord rows cols n (u b 28 4) [] false)

/-- What a path makes of its patch: the records or rows that its last decoder or engine gives (R135). -/
def State.patchBytes (s : State) (x : PatchPath) : List Byte :=
  match x.slot with
  | none => s.patchFcu x.patch
  | some n =>
    match recKind (s.slot n).record with
    | 2 => (s.patchScan n x.patch).flatMap (fun v => leBytes 8 (ofSigned 64 v))
    | 3 => ((List.range (u x.patch 44 2)).filter (fun k => recMeasures (listRec x.patch k))).flatMap (s.partnerDetection n x.patch)
    | 4 => ((s.canTable n).map (fun t => (t.sigs.map (fun g => g.value x.patch)).flatMap (fun v => leBytes 8 (ofSigned 64 v)))).getD []
    | _ => x.patch

/-- CRC-32C of what a path makes of its patch (R135); how output tensors and records lie in the bytes it is taken over is open (log
entry 12). -/
def State.patchCrc (s : State) (x : PatchPath) : BitVec 32 :=
  crc32c (Config.patchLayout ((x.slot.map (fun n => recKind (s.slot n).record)).getD 0) (s.patchBytes x))

/-- The lowest-priority perception job by slot PRIORITY, ties to the lower slot (R140). -/
def State.lowestJob (s : State) : Option Nat :=
  (s.boundSlots.filter (fun n => (s.slot n).st == .present && (recKind (s.slot n).record == kCamera || recKind (s.slot n).record == kScanner))).foldl
    (fun b n => match b with
      | none => some n
      | some m => if recPrio (s.slot n).record < recPrio (s.slot m).record then some n else b) none

/-- The fifth attempt is forced, and a perception job deferred (R140). -/
def State.patchForce (s : State) : State :=
  let s := s.countSat Reg.SIC_PATCH_CNT 24 8 1
  { s with sic := { s.sic with forced := true, deferred := s.lowestJob.toList ++ s.sic.deferred } }

/-- The counts that the work of the present step is taken from (R502). -/
def State.stepCounts (s : State) : Counts :=
  { updated := min s.content.uMax s.tac.new.length, pairs := s.fld.step.length * s.regN Reg.FLD_PAIR_K,
    active := s.regN Reg.TAC_ACTIVE_CNT, compared := s.content.compared }

/-- Evaluation time of a path on the test slot's tiles, ns (R137, R501). -/
def State.patchCost (s : State) (x : PatchPath) : Nat :=
  (x.cost.map (partNs (Config.cycleTable s.part.stepping) s.lth.fclk s.stepCounts)).sum

/-- Running an evaluation in the present step would push a stage that works on the test slot's tiles past its window, or overrun the test
slot, 3 % of the time of the 32 active tiles on its tiles (R139). -/
def State.testOverrun (s : State) (x : PatchPath) : Bool :=
  let ct := s.content
  let d := SMap.get { cadence := 0, cutoff := 0, win := [] } s.csq.scheds s.csq.sched
  let busy (k : Nat) : Bool := ct.full.any (fun p => p.stage == k && p.tiles.any ct.testTiles.contains)
  let t (k : Nat) : Nat := stageNs (Config.cycleTable s.part.stepping) s.lth.fclk s.stepCounts (ct.shiftRes.getD s.csq.sched 0)
    (ct.costs.getD 0 default) k
  stages.any (fun k => busy k && decide (((d.w k).2.1 - (d.w k).1) * 1000 < (t k + s.patchCost x : Nat))) ||
  decide (s.regN Reg.CSQ_CADENCE * 1000 * 96 < (s.sic.testUsed + s.patchCost x) * 100 * max 1 ct.testTiles.length)

/-- A test ends: the next falls due from its start (R136). Its patch leaves the buffer when it passed (R141). -/
def PatchPath.finish (x : PatchPath) (passed : Bool) : PatchPath :=
  { x with lastStart := x.injected.getD x.lastStart, due := false, injected := none, inBuf := !passed, defers := 0, bad := 0, retest := false }

/-- A test passes (R123); a pass on the FCU path is told to the island (R143). -/
def State.patchPass (s : State) (k : Nat) (x : PatchPath) : State :=
  let s := (s.setPath k (x.finish true)).countSat Reg.SIC_PATCH_CNT 0 16 1
  match x.slot with
  | some _ =>
    (s.pathSlots k x).foldl (fun s n =>
      let y := s.slot n
      if y.st == .admitting then (s.setSlot n { y with patchOk := true }).admitPass n else s) s
  | none => { s with saf := { s.saf with fcuFail := 0, fcuPass := s.saf.fcuPass + 1 } }.setBit Reg.SIC_FCU_STATUS 16 false

/-- A mismatch: a retest in the next step, and the exclusion of the sensor at the second in a row (R141 to R143). -/
def State.patchFail (s : State) (k : Nat) (x : PatchPath) : State :=
  let s := s.countSat Reg.SIC_PATCH_CNT 16 8 1
  let s := if x.slot.isNone then
      { s with saf := { s.saf with fcuFail := s.saf.fcuFail + 1, fcuPass := 0 } }.setBit Reg.SIC_FCU_STATUS 16 true
    else s
  if x.bad == 0 then s.setPath k { x with bad := 1, retest := true, badStep := s.stepNo }
  else (s.pathSlots k x).foldl (fun s n => s.exclude n 1) (s.setPath k (x.finish false))

/-- PAE's results of a scanner's patch are in its private buffer (R177). -/
def State.patchPrivate (s : State) (k : Nat) (x : PatchPath) : State :=
  match x.slot with
  | some n =>
    if recKind (s.slot n).record == kScanner then { s with pae := { s.pae with patchBuf := SMap.insert s.pae.patchBuf k (s.patchScan n x.patch) } }
    else s
  | none => s

/-- The result of a complete patch is evaluated, once a step: deferred at most four times in a row, or forced (R139 to R143). A retest
re-reads the patch from its buffer and runs it again (R141). A fault of the path's hardware may keep the result away (`lost`) or change bits
of its CRC (`flip`). -/
def State.patchEval (s : State) (k : Nat) (lost : Bool) (flip : BitVec 32) : State :=
  match s.patchRuns && s.powered 94, SMap.find? s.sic.paths k with
  | true, some x =>
    if x.injected.isNone || (x.retest && x.badStep == s.stepNo) || x.tried == some s.stepNo then s
    else
      let s := s.reach x.complete
      let x := { x with tried := some s.stepNo }
      let full := !x.retest && s.testOverrun x
      if full && x.defers < 4 then s.setPath k { x with defers := x.defers + 1 }
      else
        let s := if full then s.patchForce else s
        let s := { s.patchPrivate k x with sic := { s.sic with testUsed := s.sic.testUsed + s.patchCost x } }
        if !lost && s.patchCrc x ^^^ flip == x.golden then s.patchPass k x else s.patchFail k x
  | _, _ => s

/-- PATCH_EVALUATION row (R139). -/
def execPatchEvaluation (path : Nat) (lost : Bool) (flip : BitVec 32) (s : State) : Host.Outcome State Fault Refusal :=
  .next (s.patchEval path lost flip)

end Sys2Proof.Machine
end

