-- ==== Sys2Proof/Machine/Link.lean ====
section
/-! DEFINITION. Machine/Link.lean: the Salarur Link, pairs and droves (14_pair_and_drove.md). Readings the chapter leaves open are in log entry
19. -/

namespace Sys2Proof.Machine

/-! ### Epochs (R604, R605) -/

/-- A SYNCING device asks the primary for a full copy: a SYNC_DATA frame with ACK_REQ and no payload (R613; log entry 19). -/
def State.requestCopy (s : State) : State :=
  ({ s.dropDelta with slk := { s.dropDelta.slk with copies := [], syncDone := false } }).sendPair 0x15 s.stepNo 1 []

/-- A device enters SYNCING (R605, R610, R632). -/
def State.enterSyncing (s : State) : State :=
  { s with slk := { s.slk with role := roleSYNCING, noAck := 0, mirrorLost := false, peerMirror := false, copyNext := none, handoff := none } }.requestCopy

/-- A higher epoch is taken; a primary stops publishing and enters SYNCING (R605). -/
def State.takeEpoch (s : State) (e : Nat) : State :=
  if e ≤ s.epoch then s
  else
    let s := s.raiseEpoch e
    if s.slk.role == rolePRIMARY then s.enterSyncing else s

/-- The epoch is agreed over a port (R602 step 5). -/
def State.agreed (s : State) (p : Nat) : State := s.setLinkPort p { s.linkPort p with epochOk := true }

/-- A member was heard now. -/
def State.hear (s : State) (n : Nat) : State :=
  { s with slk := { s.slk with heard := SMap.insert s.slk.heard n s.now, bellLost := s.slk.bellLost && n != 0 } }

/-- The group forms: device 0 becomes PRIMARY or BELLWETHER, and every device of it a member (R604, R606, R619). -/
def State.foundGroup (s : State) : State :=
  let n := if s.slkConfig == 1 then 2 else s.dimX * s.dimY
  let s := (List.range n).foldl (fun s k => (s.setMember k true).hear k) s
  { s with slk := { s.slk with role := if s.slkConfig == 1 then rolePRIMARY else roleBELLWETHER } }

/-- A device is admitted to the membership map, with event 0x1004 (R621, Table 14.10). -/
def State.admitMember (s : State) (n : Nat) : State :=
  if s.member n then s.hear n else ((s.setMember n true).hear n).event 0x10 2 0x1004 0 (leBytes 1 n)

/-- The deciding device sets the epoch to one more than the largest of its own and those of every HELLO, and sends it (R604). -/
def State.lead (s : State) (p : Nat) : State :=
  let top := (List.range 6).foldl (fun m q => max m (s.linkPort q).peerEpoch) s.epoch
  let s := s.raiseEpoch (top + 1)
  let s := if s.slk.role == roleFORMING then s.foundGroup else s.admitMember (s.linkPort p).expect
  (s.agreed p).tellEpoch

/-- Step 5 of R602 at this device: device 0 leads; a device that already belongs sends the epoch it holds; any other waits for EPOCH (R604,
R616; log entry 19). -/
def State.agreeEpoch (s : State) (p : Nat) : State :=
  let r := s.slk.role
  if s.devNo == 0 && (r == roleFORMING || r == rolePRIMARY || r == roleBELLWETHER) then s.lead p
  else if r == rolePRIMARY || r == roleMEMBER then (s.agreed p).sendEpoch p
  else s

/-! ### Bring-up (R602, R603) -/

/-- The features this device accepts of a peer's (R603). -/
def State.featAccept (s : State) (p : Nat) : Nat := if s.locked then s.featDrv &&& (s.linkPort p).peerFeats.toNat else 0

/-- A port goes through the phases of R602 as far as what has arrived allows. -/
def State.bringUp (s : State) (p : Nat) : Nat → State
  | 0 => s
  | fuel + 1 =>
    let x := s.linkPort p
    let go (n : Nat) : State := s.setLinkPort p { x with phase := n }
    if x.held then s
    else
      match x.phase with
      | 1 => if x.helloOk then ((go 2).sendEcho p false).bringUp p fuel else s
      | 2 => if x.echoOk then ((go 3).linkSend p 3 x.expect 0 (leBytes 32 (s.featAccept p))).bringUp p fuel else s
      | 3 => if x.featOk then ((go 4).agreeEpoch p).bringUp p fuel else s
      | 4 => if x.epochOk then go 5 else s
      | _ => s

/-- Bring-up starts: nothing of the peer is known, and HELLO is sent (R602). -/
def State.startBringUp (s : State) (p : Nat) (ask : Bool) : State :=
  let x := s.linkPort p
  let s := s.setLinkPort p { x with phase := 1, helloOk := false, echoOk := false, featOk := false, epochOk := false, good := 0 }
  if s.linkRole p == 0 then s else s.sendHello p ask

/-- All four lanes of a port lock: sequence numbers begin at 0, and bring-up starts (R596, R599, R602). -/
def State.linkLock (s : State) (p : Nat) : State :=
  let x := s.linkPort p
  if !s.linkOn p || x.up then s
  else
    let s := s.setLinkPort p { up := true, held := x.held, quar := x.quar, expect := x.expect, ackAt := s.now, reqAt := s.now }
    s.startBringUp p false

/-- LINK_LOCK row (R596). -/
def execLinkLock (p : Fin 6) (s : State) : Host.Outcome State Fault Refusal := .next (s.linkLock p)

/-- A port is down: what it held for its peer is lost; a hold stays (R596, R599). -/
def State.linkDown (s : State) (p : Nat) : State :=
  let x := s.linkPort p
  s.setLinkPort p { held := x.held, quar := x.quar, expect := x.expect }

/-- LINK_DOWN row (R596). -/
def execLinkDown (p : Fin 6) (s : State) : Host.Outcome State Fault Refusal := .next (s.linkDown p)

/-- A quarantined port is admitted again after its hold, a fresh HELLO exchange, READMIT_N consistent frames and a passed ECHO test (R630). -/
def State.linkAdmit (s : State) (p : Nat) : State :=
  let x := s.linkPort p
  if x.held && x.quar && (s.vrec (304 + p)).hold.isNone && x.helloOk && x.echoOk && decide (s.regN Reg.SIC_READMIT_N ≤ x.good) then
    s.setLinkPort p { x with held := false, quar := false }
  else s

/-! ### Receiving (R13, R598 to R600, R605, R630) -/

/-- Frames in the retry buffer cover at most this many link sequence numbers: 128 KiB of frames of 36 bytes. -/
def retryWindow : Nat := 3640

/-- A frame's place in the port's order: the next one is taken and acknowledged; one already taken is acknowledged again; one ahead of its turn
is answered with a NAK; one outside the retry window is violation 0x64 (R599, Table 14.8). -/
def State.linkSeq (s : State) (p lseq : Nat) : Bool × State :=
  let x := s.linkPort p
  let d := (lseq + 2 ^ 32 - x.rxSeq) % 2 ^ 32
  if d == 0 then (true, (s.setLinkPort p { x with rxSeq := (x.rxSeq + 1) % 2 ^ 32 }).linkCtl p false lseq)
  else if 2 ^ 32 ≤ d + retryWindow then (false, s.linkCtl p false ((x.rxSeq + 2 ^ 32 - 1) % 2 ^ 32))
  else if d < retryWindow then (false, s.linkCtl p true x.rxSeq)
  else (false, (s.violate (304 + p) 0x64).linkCtl p true x.rxSeq)

/-- A HELLO that came through the torus from a device other than the port's peer (R621). -/
def State.farHello (s : State) (p type : Nat) (h : LinkHdr) : Bool :=
  type == 2 && s.slkConfig == 2 && (s.linkPort p).phase == 5 && h.srcDev.toNat != (s.linkPort p).expect

/-- A frame type that travels through the torus: the pair and drove levels. -/
def State.travels (s : State) (p type : Nat) (h : LinkHdr) : Bool := type == 5 || 0x10 ≤ type || s.farHello p type h

/-- SRC_DEV could have sent the frame over this port (R13, R600). -/
def State.srcOk (s : State) (p type : Nat) (h : LinkHdr) : Bool :=
  let src := h.srcDev.toNat
  if s.travels p type h then
    s.linkRole p != 0 && (if s.slkConfig == 1 then src == (s.linkPort p).peer else s.arrivesOver src == some (s.linkRole p))
  else type == 2 || (s.linkPort p).phase < 2 || src == (s.linkPort p).peer

/-- A frame's epoch is judged: pair and drove frames, and link frames once the port's bring-up is over; HELLO carries the epochs that bring-up
agrees (R604, R605; log entry 19). -/
def State.epochJudged (s : State) (p type : Nat) : Bool := type != 2 && (type == 5 || 0x10 ≤ type || (s.linkPort p).phase == 5)

/-- What the device does with a frame that has come in order and from a possible source: forward it, ignore it as stale, or take its epoch and
its content (R600, R602, R605). -/
def State.linkTake (s : State) (p type : Nat) (h : LinkHdr) (pl : List Byte) (f : State → State) : State :=
  let dst := h.dstDev.toNat
  if s.travels p type h && !h.all && dst != s.devNo then
    match s.routeTo dst with
    | some q => s.linkPost ⟨q, type, h.srcDev.toNat, dst, h.epoch.toNat, 0, h.step, pad8 pl, h.flags.toNat⟩
    | none => s
  else if 0x10 ≤ type && (s.linkPort p).phase != 5 then s
  else if s.epochJudged p type && decide (h.epoch.toNat < s.epoch) then s.countSat Reg.SLK_STALE 0 32 1
  else f (if s.epochJudged p type || type == 2 then s.takeEpoch h.epoch.toNat else s)

/-- A frame arrives on a port (R598 to R600, R605, R630): its type, header, payload bytes for forwarding, and what its content does here. -/
def State.linkRx (s : State) (p type : Nat) (h : LinkHdr) (pl : List Byte) (f : State → State) : State :=
  let x := s.linkPort p
  if !s.linkOn p || !x.up then s
  else if !h.hcrcOk || !h.pcrcOk then (s.countSat (Reg.SLK_P_CRC p) 0 32 1).linkCtl p true x.rxSeq
  else if !h.lenOk || decide (8192 < h.len) || h.len % 8 != 0 then (s.violate (304 + p) 0x61).linkCtl p true x.rxSeq
  else
    let (mine, s) := if type == 1 then (true, s) else s.linkSeq p h.lseq.toNat
    if !mine then s
    else if !h.reservedZero then s.violate (304 + p) 0x60
    else if x.held && !(type == 1 || type == 2 || type == 6) then s
    else if !s.srcOk p type h then s.violate (304 + p) 0x62
    else
      let s := s.hear h.srcDev.toNat
      let y := s.linkPort p
      let s := if y.held && y.quar && (s.vrec (304 + p)).hold.isNone then s.setLinkPort p { y with good := y.good + 1 } else s
      (s.linkTake p type h pl f).linkAdmit p

/-! ### The retry buffer (R599) -/

/-- Replay from the first unacknowledged frame; after 8 replays without progress the port goes down and retrains. -/
def State.replay (s : State) (p : Nat) : State :=
  let x := s.linkPort p
  if x.retry.isEmpty then s
  else if 8 ≤ x.replays then s.linkDown p
  else
    let s := (s.setLinkPort p { x with replays := x.replays + 1, ackAt := s.now }).countSat (Reg.SLK_P_REPLAY p) 0 32 1
    x.retry.foldl (fun s f => s.emit (.link f)) s

/-- A cumulative acknowledgement up to and including LSEQ `n` frees the retry buffer, and waiting frames leave. -/
def State.linkAck (s : State) (p n : Nat) : State :=
  let x := s.linkPort p
  let left := x.retry.filter (fun f => decide (2 ^ 31 ≤ (n + 2 ^ 32 - f.lseq) % 2 ^ 32))
  if left.length == x.retry.length then s
  else (s.setLinkPort p { x with retry := left, replays := 0, ackAt := s.now }).linkPump p (x.txq.length + 1)

/-- LINK_CTL row (R599): an acknowledgement, or a NAK that names the LSEQ expected. -/
def execLinkCtl (p : Fin 6) (h : LinkHdr) (a : LinkAck) (s : State) : Host.Outcome State Fault Refusal :=
  .next (s.linkRx p 1 h [] (fun s =>
    if a.nak then (s.linkAck p ((a.upTo.toNat + 2 ^ 32 - 1) % 2 ^ 32)).replay p else s.linkAck p a.upTo.toNat))

/-- LINK_REPLAY_TIMEOUT row (R599): no acknowledgement within 10 µs. -/
def execLinkReplayTimeout (p : Fin 6) (s : State) : Host.Outcome State Fault Refusal :=
  .next (if (s.linkPort p).retry.isEmpty then s else (s.reach ((s.linkPort p).ackAt + 10 * usT)).replay p)

/-! ### Bring-up frames -/

/-- The bellwether admits a lost member again on a fresh HELLO: its bit is set and the epoch raised (R621). -/
def State.readmitMember (s : State) (n : Nat) : State :=
  if s.slk.role != roleBELLWETHER || s.member n then s else ((s.admitMember n).raiseEpoch (s.epoch + 1)).tellEpoch

/-- HELLO names the device the image names for the port, and the local GROUP_DIGEST (R602). -/
def State.helloGood (s : State) (p : Nat) (h : LinkHdr) (m : Hello) : Bool :=
  m.dev == h.srcDev && m.dev.toNat == (s.linkPort p).expect && m.digest == s.slk.digest

/-- The content of a HELLO (R602, R621, Table 14.8). -/
def State.onHello (s : State) (p : Nat) (h : LinkHdr) (m : Hello) : State :=
  if s.farHello p 2 h then (if m.digest == s.slk.digest && m.dev == h.srcDev then s.readmitMember m.dev.toNat else s)
  else
    let x := s.linkPort p
    let x := { x with peer := m.dev.toNat, peerFeats := m.feats, peerEpoch := m.epoch.toNat }
    if !s.helloGood p h m then (s.setLinkPort p { x with held := true, helloOk := false }).violate (304 + p) 0x63
    else
      let s := s.setLinkPort p { x with helloOk := true }
      let s := if h.flags.getLsbD 0 then s.sendHello p false else s
      let s := if x.phase == 5 then s.readmitMember m.dev.toNat else s
      s.bringUp p 5

/-- HELLO row (R602). -/
def execHello (p : Fin 6) (h : LinkHdr) (m : Hello) (s : State) : Host.Outcome State Fault Refusal :=
  .next (s.linkRx p 2 h (leBytes 1 m.dev.toNat ++ leBytes 1 m.stepping.toNat ++ leBytes 32 m.feats.toNat ++ (leBytes 48 m.digest.toNat).reverse ++
    leBytes 4 m.epoch.toNat ++ leBytes 1 m.posX ++ leBytes 1 m.posY) (fun s => s.onHello p h m))

/-- The content of an ECHO: returned, or the reply's CRC judged; a failed reply holds the port, with an event whose code the manual does not give
(R602; log entry 6). -/
def State.onEcho (s : State) (p : Nat) (reply crcOk : Bool) : State :=
  let x := s.linkPort p
  if !reply then s.sendEcho p true
  else if crcOk then (s.setLinkPort p { x with echoOk := true }).bringUp p 5
  else
    let (v, s) := (s.setLinkPort p { x with held := true, echoOk := false }).draw
    s.event 0x10 1 (0x1000 + v % 256) 0 (leBytes 1 p)

/-- ECHO row (R602). -/
def execEcho (p : Fin 6) (h : LinkHdr) (reply crcOk : Bool) (s : State) : Host.Outcome State Fault Refusal :=
  .next (s.linkRx p 6 h [] (fun s => s.onEcho p reply crcOk))

/-- The content of a FEAT: a locked set that lacks a bit of FEAT_REQ holds every pair and torus port (R603); otherwise bring-up goes on. A peer
that starts again is answered (log entry 19). -/
def State.onFeat (s : State) (p : Nat) (feats : BitVec 256) : State :=
  let x := s.linkPort p
  if (lowestMissing s.featReq (if s.locked then s.featDrv else 0)).isSome then
    (List.range 6).foldl (fun s q => if s.linkRole q == 0 then s else s.setLinkPort q { s.linkPort q with held := true }) s
  else if x.phase == 5 then (s.linkSend p 3 x.expect 0 (leBytes 32 (s.featAccept p))).agreeEpoch p
  else (s.setLinkPort p { x with featOk := true, peerFeats := feats }).bringUp p 5

/-- FEAT row (R603). -/
def execFeat (p : Fin 6) (h : LinkHdr) (feats : BitVec 256) (s : State) : Host.Outcome State Fault Refusal :=
  .next (s.linkRx p 3 h [] (fun s => s.onFeat p feats))

/-- A device discards its Fold and closes every sequence (R621). -/
def State.dropFold (s : State) : State :=
  let s := s.liveSeqs.foldl (fun s n => (s.doClose n).2) s
  let s := s.tracks.foldl (fun s n => s.freeTrk n) s
  { s with fld := { gens := s.fld.gens, gates := s.fld.gates }, slk := { s.slk with handing := [], installs := [], retry := [], borders := [] } }

/-- T_0 of the group; a running cycle goes on with the step that follows on the new grid (R442, R604). -/
def State.groupT0 (s : State) (t : Time) (n : Nat) : State :=
  if t == 0 || (s.csq.t0Set && s.csq.t0 == t) then s
  else
    let s := s.setT0 t
    if s.csq.running then { s with csq := { s.csq with next := max n s.stepAhead } } else s

/-- Ask device 0 for admission with a fresh HELLO (R621). -/
def State.helloRoot (s : State) : State :=
  match s.routeTo 0 with
  | some p => s.linkSendFlags p 2 s.devNo 0 0 1 s.helloBytes
  | none => s

/-- What the new epoch makes of the device's role (R605, R606, R621). -/
def State.epochRole (s : State) : State :=
  let r := s.slk.role
  if s.slkConfig == 1 then (if r == roleFORMING || r == roleSYNCING then s.enterSyncing else s)
  else if s.devNo == 0 then s
  else if s.member s.devNo then { s with slk := { s.slk with role := roleMEMBER, bellLost := false } }.hear 0
  else { s.dropFold with slk := { s.dropFold.slk with role := roleJOINING } }.helloRoot

/-- The content of an EPOCH frame: the epoch, the membership map, T_0 and the numbering (R604, R606, R621). -/
def State.onEpoch (s : State) (m : EpochMsg) : State :=
  if m.epoch.toNat < s.epoch then s.countSat Reg.SLK_STALE 0 32 1
  else
    let s := (s.takeEpoch m.epoch.toNat).setReg64 Reg.SLK_MEMBERS_LO m.members.toNat
    let s := s.groupT0 m.t0 m.step
    let s := (List.range 6).foldl (fun s p => if 1 ≤ (s.linkPort p).phase then (s.agreed p).bringUp p 5 else s) s
    s.epochRole

/-- EPOCH row (R604). -/
def execEpoch (p : Fin 6) (h : LinkHdr) (m : EpochMsg) (s : State) : Host.Outcome State Fault Refusal :=
  .next (s.linkRx p 5 h (leBytes 4 m.epoch.toNat ++ leBytes 8 m.members.toNat ++ htw m.t0 ++ leBytes 8 m.step) (fun s => s.onEpoch m))

/-! ### The delta at the mirror (R608 to R611) -/

/-- The device takes deltas. -/
def State.takesDelta (s : State) : Bool := s.slk.role == roleMIRROR || s.slk.role == roleSYNCING

/-- Mark sequences for resynchronisation (R610, Table 14.8). -/
def State.markResync (s : State) (l : List Nat) : State :=
  { s with slk := { s.slk with resync := s.slk.resync ++ (l.eraseDups).filter (fun n => !s.slk.resync.contains n) } }

/-- A record of a slot is of the Fold's form (Table 8.1). -/
def recForm (n : Nat) (b : List Byte) : Bool :=
  b.length == 256 && (b.all (· == 0) || (tkId b % 2 ^ 20 == n && tkSt b ≤ tkRETIRING && (crc32c (b.take 252)).toNat == u b 252 4))

/-- A delta frame joins the delta of its step, or is dropped as violation 0x65 with its sequences marked (R609, Table 14.8). -/
def State.deltaFrame (s : State) (p : Nat) (ok : Bool) (slots : List Nat) (bytes : List Byte) (put : Slk → Slk) : State :=
  if !s.takesDelta then s
  else if !ok then (s.violate (304 + p) 0x65).markResync slots
  else { s with slk := { put s.slk with deltaBytes := s.slk.deltaBytes ++ pad8 bytes } }

/-- DELTA_REC row (R609). -/
def execDeltaRec (p : Fin 6) (h : LinkHdr) (recs : List DeltaRec) (s : State) : Host.Outcome State Fault Refusal :=
  let pl := recs.flatMap (fun (r : DeltaRec) => recPayload r.slot.toNat r.bytes r.digest)
  .next (s.linkRx p 0x10 h pl (fun s => s.deltaFrame p (recs.all (fun (r : DeltaRec) => recForm r.slot.toNat r.bytes))
    (recs.map (fun (r : DeltaRec) => r.slot.toNat)) pl (fun k => { k with recs := k.recs ++ recs })))

/-- DELTA_KV row (R609). -/
def execDeltaKv (p : Fin 6) (h : LinkHdr) (items : List KvItem) (s : State) : Host.Outcome State Fault Refusal :=
  let pl := items.flatMap (fun (k : KvItem) => kvPayload k.slot.toNat k.bytes)
  .next (s.linkRx p 0x11 h pl (fun s => s.deltaFrame p (items.all (fun (k : KvItem) => k.bytes.length == s.entrySize))
    (items.map (fun (k : KvItem) => k.slot.toNat)) pl (fun k => { k with kvs := k.kvs ++ items })))

/-- DELTA_SEQ row (R610). -/
def execDeltaSeq (p : Fin 6) (h : LinkHdr) (items : List SeqItem) (s : State) : Host.Outcome State Fault Refusal :=
  let pl := items.flatMap (fun (q : SeqItem) => seqPayload q.slot.toNat q.state.toNat q.entries q.oldest)
  .next (s.linkRx p 0x12 h pl (fun s => s.deltaFrame p (items.all (fun (q : SeqItem) => q.state.toNat ≤ 2))
    (items.map (fun (q : SeqItem) => q.slot.toNat)) pl (fun k => { k with seqs := k.seqs ++ items })))

/-- Take a given slot off the free list (R372). -/
def State.takeSlot (s : State) (n : Nat) : State :=
  if n < s.fld.freeNext then { s with fld := { s.fld with freed := s.fld.freed.filter (· != n) } }
  else { s with fld := { s.fld with freed := s.fld.freed ++ (List.range (n - s.fld.freeNext)).map (· + s.fld.freeNext), freeNext := n + 1 } }

/-- A record leaves the Fold, and its slot goes to the end of the free list (R372). -/
def State.giveSlot (s : State) (n : Nat) : State :=
  let s := s.freeTrk n
  { s with fld := { s.fld with freed := if s.fld.freed.contains n then s.fld.freed else s.fld.freed ++ [n]
                               entered := SMap.erase s.fld.entered n, stateT := SMap.erase s.fld.stateT n } }

/-- Put a whole record into a slot, its state as of an instant in ns. -/
def State.putTrack (s : State) (n : Nat) (b : List Byte) (t : Nat) : State :=
  let old := tkSt (s.trk n)
  let new := tkSt b
  if new == tkFREE then (if old == tkFREE then s else s.giveSlot n)
  else
    let s := (if old == tkFREE then s.takeSlot n else s).setTrk n b
    { s with fld := { s.fld with gens := SMap.insert s.fld.gens n (tkId b / 2 ^ 20), stateT := SMap.insert s.fld.stateT n t
                                 entered := if old == new then s.fld.entered else SMap.insert s.fld.entered n s.ns } }

/-- Open, fallow, activate or close the sequence as the record's LSTATE requires (R610). -/
def State.seqFollow (s : State) (n : Nat) (b : List Byte) : State :=
  let st := tkSt b
  let run (op : State → Nat × State) (s : State) : State := (s.fldCmd op).2
  let s := if s.seqSt n != 0 && (st == tkFREE || s.seqTid n != tkId b) then run (fun s => s.doClose n) s else s
  let s := if st != tkFREE && s.seqSt n == 0 then run (fun s => s.doOpen n (tkId b) (tkFlock b)) s else s
  if st == tkFALLOW && s.seqSt n == 1 then run (fun s => s.doFallow n) s
  else if 1 ≤ st && st ≤ 3 && s.seqSt n == 2 then run (fun s => s.doActivate n) s
  else s

/-- Append a copied entry through this device's allocator, with its own entry number and generation (R610, R613, R627). -/
def State.installEntry (s : State) (n : Nat) (e : List Byte) : Option State :=
  (s.makeRoom n).bind (fun s =>
    (s.nextSlot n).map (fun a =>
      let no := s.seqNext n
      let b := patch (patch (fit s.entrySize e) 8 (leBytes 4 no)) 18 (leBytes 2 (s.seqTid n / 2 ^ 20))
      let s := s.store a b
      ((((s.setSeqF n 24 3 ((no + 1) % entMod)).setSeqF n 32 4 (u e 12 4)).setSeqF n 30 2 (setBits (s.seqHist n) 0 1 1)).recount n).sweepRetired))

/-- Leading pages that hold only entries older than the primary's oldest (R610). -/
def State.oldPages (s : State) (n oldest : Nat) : Nat :=
  let ps := s.ptes n
  ((List.range ps.length).takeWhile (fun k =>
    let stop := match ps[k + 1]? with
      | some q => pteFirst q
      | none => s.seqNext n
    let d := (oldest + entMod - stop) % entMod
    decide (d < entMod / 2))).length

/-- The mirror compares its record with the primary's where the input digests agree (R611). -/
def State.hotCompare (s : State) (r : DeltaRec) : State :=
  let n := r.slot.toNat
  if !(s.hot && s.slk.role == roleMIRROR) || s.inputDigest n != r.digest || (s.trk n).take 252 == r.bytes.take 252 then s
  else
    let k := s.stepNo
    let near := ((k :: s.slk.diffs).filter (fun x => decide (k < x + 1000))).take 8
    let s := { s.countSat Reg.SLK_HOT_MISMATCH 0 32 1 with slk := { s.slk with diffs := near } }
    if 8 ≤ near.length then { s with slk := { s.slk with hotLimit := true, diffs := [] } }.event 0x10 2 0x1006 0 [] else s

/-- Apply one changed record of step i. -/
def State.applyRec (s : State) (i : Nat) (r : DeltaRec) : State :=
  let n := r.slot.toNat
  let s := s.hotCompare r
  let s := (s.putTrack n r.bytes (s.tOf i / nsT)).seqFollow n r.bytes
  { s with slk := { s.slk with copies := s.slk.copies.map (fun (c : Nat × Nat) => if c.1 == n then (n, i) else c) } }

/-- Drop the pages the primary no longer holds. -/
def State.applyDrop (s : State) (q : SeqItem) : State :=
  let n := q.slot.toNat
  let k := s.oldPages n q.oldest
  if k == 0 then s else (s.doPgt n 1 k).2

/-- Append one entry; where it finds no place, its sequence is marked. -/
def State.applyKv (s : State) (k : KvItem) : State :=
  let n := k.slot.toNat
  if s.seqSt n != 1 then s.markResync [n]
  else
    match s.installEntry n k.bytes with
    | some s => s
    | none => s.markResync [n]

/-- A sequence that is not at the primary's ENTRIES and STATE is marked for resynchronisation (R610). -/
def State.checkSeq (s : State) (q : SeqItem) : State :=
  let n := q.slot.toNat
  if (s.entries n).length == q.entries && s.seqSt n == q.state.toNat then s else s.markResync [n]

/-- The whole delta of step i is applied: by a syncing device, to the tracks it already holds (R610, R613). -/
def State.applyDelta (s : State) (i : Nat) : State :=
  let held (n : Nat) : Bool := s.slk.role == roleMIRROR || s.slk.copies.any (fun (c : Nat × Nat) => c.1 == n)
  let recs := s.slk.recs.filter (fun (r : DeltaRec) => held r.slot.toNat)
  let seqs := s.slk.seqs.filter (fun (q : SeqItem) => held q.slot.toNat)
  let kvs := s.slk.kvs.filter (fun (k : KvItem) => held k.slot.toNat)
  let s := seqs.foldl (fun s q => s.applyDrop q) (recs.foldl (fun s r => s.applyRec i r) s)
  seqs.foldl (fun s q => s.checkSeq q) (kvs.foldl (fun s k => s.applyKv k) s)

/-- A syncing device that has every copy becomes MIRROR; a track the primary did not copy is not the primary's (R613). -/
def State.becomeMirror (s : State) : State :=
  if s.slk.role == roleSYNCING && s.slk.syncDone then
    let stray := s.tracks.filter (fun n => !s.slk.copies.any (fun (c : Nat × Nat) => c.1 == n))
    let s := stray.foldl (fun s n => ((s.fldCmd (fun s => s.doClose n)).2).giveSlot n) s
    { s with slk := { s.slk with role := roleMIRROR, copies := [], syncDone := false } }
  else s

/-- STEP_END of step i (R608, R610, R613): apply the delta and acknowledge it, or go to SYNCING. -/
def State.onStepEnd (s : State) (i : Nat) (m : StepEnd) : State :=
  if !s.takesDelta then s
  else if crc32c s.slk.deltaBytes != m.dcrc || s.slk.recs.length != m.nrec || s.slk.kvs.length != m.nkv || s.slk.seqs.length != m.nseq then
    s.enterSyncing
  else
    let s := (s.applyDelta i).dropDelta
    let s := { s with slk := { s.slk with lastStep := some i, lastEgo := m.ego, lastSeqs := m.seqs.map (fun (w : W32) => w.toNat)
                                          heldDets := s.slk.heldDets.filter (fun (p : Nat × Det) => decide (i < p.1)) } }
    let s := (s.countWrap Reg.SLK_DELTA_CNT 0 32 1).becomeMirror
    if s.slk.role == roleMIRROR then s.sendPair 0x14 i 0 [] else s

/-- STEP_END row (R610). -/
def execStepEnd (p : Fin 6) (h : LinkHdr) (m : StepEnd) (s : State) : Host.Outcome State Fault Refusal :=
  .next (s.linkRx p 0x13 h [] (fun s => s.onStepEnd h.step m))

/-- Event 0x1003: the mirror is lost or regained. -/
def State.setMirrorLost (s : State) (v : Bool) : State :=
  if s.slk.mirrorLost == v then s else { s with slk := { s.slk with mirrorLost := v } }.event 0x10 2 0x1003 0 []

/-- DELTA_ACK at the primary (R612). -/
def State.onDeltaAck (s : State) : State :=
  if s.slk.role != rolePRIMARY then s
  else
    let s := s.countWrap Reg.SLK_DELTA_CNT 0 32 1
    { s with slk := { s.slk with noAck := 0, peerMirror := true } }.setMirrorLost false

/-- DELTA_ACK row (R612). -/
def execDeltaAck (p : Fin 6) (h : LinkHdr) (s : State) : Host.Outcome State Fault Refusal :=
  .next (s.linkRx p 0x14 h [] State.onDeltaAck)

/-- DELTA_ACK_TIMEOUT row (R612): no DELTA_ACK for 3 consecutive steps. -/
def execDeltaAckTimeout (s : State) : Host.Outcome State Fault Refusal :=
  .next (if s.slk.role == rolePRIMARY && 3 ≤ s.slk.noAck then { s with slk := { s.slk with peerMirror := false } }.setMirrorLost true else s)

/-! ### Resynchronisation (R613) -/

/-- Copy a track: its record, and its entries from the first one's number on. -/
def State.copyTrack (s : State) (n : Nat) (c : TrackCopy) : State :=
  let s := if s.seqSt n == 0 then s else (s.fldCmd (fun s => s.doClose n)).2
  let s := (s.putTrack n c.bytes (s.tOf c.step / nsT)).seqFollow n c.bytes
  let s := match c.entries with
    | e :: _ => if s.seqSt n == 0 then s else s.setSeqF n 24 3 (u e 8 4 % entMod)
    | [] => s
  let (s, ok) := c.entries.foldl (fun (r : State × Bool) e =>
    match r.1.installEntry n e with
    | some s => (s, r.2)
    | none => (r.1, false)) (s, true)
  let s := { s with slk := { s.slk with resync := s.slk.resync.filter (· != n) } }
  if ok then s else s.markResync [n]

/-- SYNC_DATA: a request at the primary; at a syncing device a copy, taken when it is newer than what is held (R613, Table 14.8). -/
def State.onSyncData (s : State) (p : Nat) (h : LinkHdr) (c : TrackCopy) : State :=
  let n := c.slot.toNat
  if h.flags.getLsbD 0 then
    if s.slk.role == rolePRIMARY then { s with slk := { s.slk with copyNext := some 0, peerMirror := false } } else s
  else if s.slk.role != roleSYNCING then s
  else if !recForm n c.bytes || !c.entries.all (fun e => e.length == s.entrySize) then (s.violate (304 + p) 0x65).markResync [n]
  else
    let newer := !s.slk.copies.any (fun (q : Nat × Nat) => q.1 == n && decide (c.step ≤ q.2))
    let s := if newer then { s.copyTrack n c with slk := { (s.copyTrack n c).slk with
                copies := (n, c.step) :: s.slk.copies.filter (fun (q : Nat × Nat) => q.1 != n) } } else s
    if h.flags.getLsbD 1 then { s with slk := { s.slk with syncDone := true } } else s

/-- SYNC_DATA row (R613). -/
def execSyncData (p : Fin 6) (h : LinkHdr) (c : TrackCopy) (s : State) : Host.Outcome State Fault Refusal :=
  .next (s.linkRx p 0x15 h [] (fun s => s.onSyncData p h c))

/-! ### Failover (R614 to R618) -/

/-- LOSS_TO in force: the lesser of LOSS_TO and cadence − CUTOFF − 40 µs (R614). -/
def State.lossTo (s : State) : Time := min (s.fld' Reg.SLK_TIMEOUTS 0 16) (s.regN Reg.CSQ_CADENCE - s.regN Reg.CSQ_CUTOFF - 40) * usT

/-- STEP_END_TIMEOUT row (R614): STEP_END of the step after the last applied one has not arrived by T_i + LOSS_TO. -/
def execStepEndTimeout (s : State) : Host.Outcome State Fault Refusal :=
  .next (match s.slk.lastStep with
    | some k => if s.slk.role == roleMIRROR && s.csq.t0Set then (s.reach (s.tOf (k + 1) + s.lossTo)).promoteMirror (k + 1) else s
    | none => s)

/-- HANDOFF row (R617). -/
def execHandoff (p : Fin 6) (h : LinkHdr) (k : Nat) (s : State) : Host.Outcome State Fault Refusal :=
  .next (s.linkRx p 0x16 h [] (fun s => if s.slk.role == roleMIRROR then { s with slk := { s.slk with handoff := some k } } else s))

/-- HANDOFF_STEP row (R617): C_k of a planned change. -/
def execHandoffStep (s : State) : Host.Outcome State Fault Refusal :=
  .next (match s.slk.handoff with
    | some k => if s.csq.next ≤ k then (s.reach (s.cOf k)).handoffNow k else s.handoffNow k
    | none => s)

/-! ### Droves: members (R621, R622) -/

/-- MEMBER_TO in device-time units. -/
def State.memberTo (s : State) : Time := s.fld' Reg.SLK_TIMEOUTS 16 8 * msT

/-- The bellwether declares a member lost: its bit is cleared, the epoch raised and sent to all members (R621). -/
def State.loseMember (s : State) (n : Nat) : State :=
  if s.slk.role != roleBELLWETHER || n == 0 || !s.member n then s
  else
    let s := s.reach (SMap.get 0 s.slk.heard n + s.memberTo)
    let s := ((s.setMember n false).raiseEpoch (s.epoch + 1)).event 0x10 2 0x1004 0 (leBytes 1 n)
    (s.tellEpoch).sendDev n 5 0 s.epochBytes

/-- MEMBER_TIMEOUT row (R621). -/
def execMemberTimeout (dev : BitVec 6) (s : State) : Host.Outcome State Fault Refusal := .next (s.loseMember dev.toNat)

/-- BELLWETHER_TIMEOUT row (R622): BELLWETHER_LOST, and the time enters HOLDOVER. -/
def execBellwetherTimeout (s : State) : Host.Outcome State Fault Refusal :=
  .next (if s.slk.role == roleMEMBER && !s.slk.bellLost then
      let s := s.reach (SMap.get 0 s.slk.heard 0 + s.memberTo)
      { s with slk := { s.slk with bellLost := true } }.enterHoldover
    else s)

/-! ### Droves: lists (R620) -/

/-- Address of a slot of a member's ring. -/
def State.mringAddr (s : State) (m k : Nat) : Nat :=
  s.regN Reg.SLK_MRING_BASE_LO + 2 ^ 32 * s.fld' Reg.SLK_MRING_BASE_HI 0 16 +
    (m * s.regN Reg.SLK_MRING_SLOTS + k % max 1 (s.regN Reg.SLK_MRING_SLOTS)) * (s.regN Reg.CSQ_RING_SLOT_SIZE * 4096)

/-- A whole list of a member goes into its ring under the COMMIT discipline, stamped with the member's initiator ID; a full ring drops it (R463,
R464, R600, R620, R697). -/
def State.mringPut (s : State) (m i : Nat) (list : List Byte) : State :=
  let prod := s.regN (Reg.SLK_MRING_PROD m)
  if (prod + 2 ^ 32 - s.regN (Reg.SLK_MRING_CONS m)) % 2 ^ 32 == s.regN Reg.SLK_MRING_SLOTS then s.countSat Reg.SLK_MRING_DROP 0 32 1
  else
    let a := s.mringAddr m prod
    let old := s.peek a 8 % 2 ^ 63
    let w (a : Nat) (b : List Byte) (s : State) : State := (s.busWrite (0x100 + m) a b).2
    let s := w a (leBytes 8 (i % 2 ^ 63)) (w (a + 64) list (w a (leBytes 8 (old + 2 ^ 63)) s))
    let s := s.countWrap (Reg.SLK_MRING_PROD m) 0 32 1
    if s.slk.mringStep == some i then s else { s with slk := { s.slk with mringStep := some i } }.msix 5

/-- LIST at the bellwether. -/
def State.onList (s : State) (h : LinkHdr) (bytes : List Byte) : State :=
  let m := h.srcDev.toNat
  if s.slk.role != roleBELLWETHER || !s.member m then s
  else
    let buf := SMap.get [] s.slk.listBuf m ++ bytes
    if h.flags.getLsbD 1 then { s with slk := { s.slk with listBuf := SMap.erase s.slk.listBuf m } }.mringPut m h.step buf
    else { s with slk := { s.slk with listBuf := SMap.insert s.slk.listBuf m buf } }

/-- LIST row (R620). -/
def execListFrame (p : Fin 6) (h : LinkHdr) (bytes : List Byte) (s : State) : Host.Outcome State Fault Refusal :=
  .next (s.linkRx p 0x25 h bytes (fun s => s.onList h bytes))

/-- A write of SLK_MRINGm_CONS (R467, R620). -/
def State.mringCons (s : State) (m : Nat) (v : W32) : State :=
  if consOk (s.regN (Reg.SLK_MRING_CONS m)) (s.regN (Reg.SLK_MRING_PROD m)) v.toNat then s.setReg (Reg.SLK_MRING_CONS m) v
  else s.setBit Reg.CSQ_STATUS 8 true

/-- MRING_CONS_WRITE row (R620). -/
def execMringConsWrite (m : BitVec 6) (v : W32) (s : State) : Host.Outcome State Fault Refusal :=
  .next (s.hostReg (Reg.SLK_MRING_CONS m.toNat) (fun s => s.mringCons m.toNat v))

/-! ### Droves: detections (R624, R625) -/

/-- The own pasture. -/
def State.myPasture (s : State) : Option Pasture := s.slk.pastures.find? (fun p => p.dev == s.devNo)

/-- A forwarded detection belongs here: inside the own pasture, or a BORDER copy within FWD_MARGIN of it (R624). -/
def State.fwdMine (s : State) (d : FwdDet) : Bool :=
  let (px, py) := s.detPos d.bytes
  let m : Int := s.fld' Reg.SLK_HAND_CFG 8 8 * 100 * 1024
  match s.myPasture with
  | some p => if d.border then decide (p.dist2 px py < m * m) else p.holds px py
  | none => false

/-- Forwarded detections enter the intake, or the frame is dropped as violation 0x66 (R362, R624, Table 14.8). -/
def State.onDetFwd (s : State) (p : Nat) (h : LinkHdr) (dets : List FwdDet) : State :=
  if !s.inDrove || !dets.all (fun d => s.fwdMine d) then s.violate (304 + p) 0x66
  else dets.foldl (fun s d =>
    if !s.powered 97 then s
    else if !s.detOk d.bytes then s.countSat Reg.FLD_DET_DROP 0 32 1
    else s.detEnter { bytes := d.bytes, ready := s.now, border := if d.border then some (h.srcDev.toNat, s.stepNo) else none, fwd := true }) s

/-- DET_FWD row (R624). -/
def execDetFwd (p : Fin 6) (h : LinkHdr) (dets : List FwdDet) (s : State) : Host.Outcome State Fault Refusal :=
  .next (s.linkRx p 0x20 h (dets.flatMap (fun (d : FwdDet) => d.bytes ++ leBytes 8 (if d.border then 1 else 0))) (fun s => s.onDetFwd p h dets))

/-- A claim names a border detection of this device; it starts no track here (R625, Table 14.8). -/
def State.onDetClaim (s : State) (p : Nat) (claims : List Claim) : State :=
  if !s.inDrove || claims.any (fun c => c.origin.toNat != s.devNo) then s.violate (304 + p) 0x66
  else
    let hit (x : Det) : Bool := claims.any (fun c => dtSlot x.bytes == c.slot.toNat && dtNo x.bytes == c.detNo.toNat)
    { s with slk := { s.slk with borders := s.slk.borders.filter (fun (q : Nat × Det) => !hit q.2) } }

/-- DET_CLAIM row (R625). -/
def execDetClaim (p : Fin 6) (h : LinkHdr) (claims : List Claim) (s : State) : Host.Outcome State Fault Refusal :=
  .next (s.linkRx p 0x21 h (claims.flatMap (fun (c : Claim) => leBytes 1 c.origin.toNat ++ leBytes 1 c.slot.toNat ++ leBytes 2 c.detNo.toNat))
    (fun s => s.onDetClaim p claims))

/-- After 2 steps an unclaimed border detection goes to the birth rule, at its own time (R372, R625). -/
def State.borderHold (s : State) : State :=
  if !s.fldOn || !s.runsStages then s
  else
    let (due, keep) := s.slk.borders.partition (fun (q : Nat × Det) => decide (q.1 + 2 ≤ s.stepNo))
    let n := s.fld.step.length
    let s := { s with slk := { s.slk with borders := keep }, fld := { s.fld with step := s.fld.step ++ due.map (fun (q : Nat × Det) => q.2) } }
    s.births ((List.range due.length).map (fun k => (n + k, (due.getD k default).2)))

/-- BORDER_HOLD_EXPIRY row (R625). -/
def execBorderHoldExpiry (s : State) : Host.Outcome State Fault Refusal := .next s.borderHold

/-! ### Droves: hand-over (R626 to R629) -/

/-- Install entries in append order; those that find no page are dropped oldest first, and TRUNCATED is set (R627). -/
def State.installAll (s : State) (n : Nat) : List (List Byte) → State
  | [] => s
  | e :: r =>
    match (e :: r).foldl (fun (o : Option State) e => o.bind (fun s => s.installEntry n e)) (some s) with
    | some s => s
    | none => (s.setSeqFlag n 1 true).installAll n r

/-- The receiver discards an install: its sequence is closed and its slot freed (R628). -/
def State.dropInstall (s : State) (gid : Nat) : State :=
  match s.slk.installs.find? (fun q => q.gid == gid) with
  | none => s
  | some q =>
    let s := { s with slk := { s.slk with installs := s.slk.installs.filter (fun q => q.gid != gid) } }
    if tkGid (s.trk q.slot) == gid && tkSt (s.trk q.slot) != tkFREE then ((s.fldCmd (fun s => s.doClose q.slot)).2).giveSlot q.slot else s

/-- HAND_ACK with a status. -/
def State.handAnswer (s : State) (n gid step status : Nat) : State := s.sendDev n 0x23 step (leBytes 8 gid ++ leBytes 1 status)

/-- Install a handed-over track (R627): status and state. -/
def State.installHand (s : State) (src step : Nat) (c : TrackCopy) : Nat × State :=
  let gid := tkGid c.bytes
  let flock := tkFlock c.bytes
  match (s.dropInstall gid).openTrack flock with
  | (.error e, s) => (e, s)
  | (.ok n, s) =>
    let b := setFlagA (patch c.bytes 0 (leBytes 4 (SMap.get 0 s.fld.gens n * 2 ^ 20 + n))) 7 false
    let s := (s.setTrk n b).installAll n c.entries
    let s := s.setTrk n (setFlagA (s.trk n) 4 (s.seqFlag n 1))
    let s := { s with fld := { s.fld with stateT := SMap.insert s.fld.stateT n (s.tOf c.step / nsT), entered := SMap.insert s.fld.entered n s.ns }
                      slk := { s.slk with installs := ⟨gid, n, src, step⟩ :: s.slk.installs.filter (fun q => decide (step ≤ q.step + 3)) } }
    (DONE, s.countWrap Reg.SLK_HAND_CNT 16 16 1)

/-- HAND at the receiver (R627, Table 14.8). -/
def State.onHand (s : State) (p : Nat) (h : LinkHdr) (c : TrackCopy) : State :=
  let src := h.srcDev.toNat
  let gid := tkGid c.bytes
  let mine := match s.myPasture with
    | some q => q.holds (tkX c.bytes 0) (tkX c.bytes 1)
    | none => false
  if !s.inDrove || !mine then (s.violate (304 + p) 0x66).handAnswer src gid h.step REFUSED_STATE
  else
    let (st, s) := s.installHand src h.step c
    s.handAnswer src gid h.step st

/-- HAND row (R627). -/
def execHand (p : Fin 6) (h : LinkHdr) (c : TrackCopy) (s : State) : Host.Outcome State Fault Refusal :=
  .next (s.linkRx p 0x22 h (c.bytes ++ c.entries.flatten) (fun s => s.onHand p h c))

/-- HAND_ACK at the sender: DONE is kept for C_(i+1); a refusal keeps the track and waits HAND_RETRY steps (R627, R628). -/
def State.onHandAck (s : State) (src gid status : Nat) : State :=
  match s.slk.handing.find? (fun g => g.gid == gid && g.dev == src && !g.acked) with
  | none => s
  | some g =>
    if isDone status then
      { s with slk := { s.slk with handing := s.slk.handing.map (fun q => if q.slot == g.slot then { q with acked := true } else q) } }
    else
      let again := (g.slot, s.stepNo + s.fld' Reg.SLK_HAND_CFG 16 16)
      let s := { s with slk := { s.slk with handing := s.slk.handing.filter (fun q => q.slot != g.slot), retry := again :: s.slk.retry } }
      let s := if tkSt (s.trk g.slot) == tkFREE then s else s.setTrk g.slot (setFlagA (s.trk g.slot) 7 false)
      (s.countSat Reg.SLK_HAND_FAIL 0 32 1).handEvent gid

/-- HAND_ACK row (R628). -/
def execHandAck (p : Fin 6) (h : LinkHdr) (globalId : BitVec 64) (status : BitVec 8) (s : State) : Host.Outcome State Fault Refusal :=
  .next (s.linkRx p 0x23 h (leBytes 8 globalId.toNat ++ leBytes 1 status.toNat) (fun s => s.onHandAck h.srcDev.toNat globalId.toNat status.toNat))

/-- HAND_ABORT row (R628). -/
def execHandAbort (p : Fin 6) (h : LinkHdr) (globalId : BitVec 64) (s : State) : Host.Outcome State Fault Refusal :=
  .next (s.linkRx p 0x24 h (leBytes 8 globalId.toNat) (fun s => s.dropInstall globalId.toNat))

/-- A deadline of a hand-over in progress, `k` cut-offs after its step (R628). -/
def State.handDeadline (s : State) (n k : Nat) (f : State → Handing → State) : State :=
  match s.slk.handing.find? (fun g => g.slot == n) with
  | some g => f (s.reach (s.cOf (g.step + k))) g
  | none => s

/-- HAND_ACK_DEADLINE row (R628). -/
def execHandAckDeadline (slot : BitVec 20) (s : State) : Host.Outcome State Fault Refusal :=
  .next (s.handDeadline slot.toNat 1 (fun s g => s.handTaken g))

/-- HAND_ABORT_DEADLINE row (R628). -/
def execHandAbortDeadline (slot : BitVec 20) (s : State) : Host.Outcome State Fault Refusal :=
  .next (s.handDeadline slot.toNat 2 (fun s g => s.handLost g))

/-- HAND_RETRY_EXPIRY row (R627): the track may be marked HANDING again at the next seal. -/
def execHandRetryExpiry (slot : BitVec 20) (s : State) : Host.Outcome State Fault Refusal :=
  .next (match s.slk.retry.find? (fun r => r.1 == slot.toNat) with
    | some r =>
      match s.reachStep r.2 with
      | some s => { s with slk := { s.slk with retry := s.slk.retry.filter (fun q => q.1 != slot.toNat) } }
      | none => s
    | none => s)

/-! ### SLK_CMD (R617, R632) -/

/-- A write of SLK_CMD, judged and carried out at once. -/
def State.doSlkCmd (s : State) (w : W32) : State :=
  s.unlessBusy Reg.SLK_CMD_ST 16 (fun s =>
    let p := fieldOf w 8 3
    match fieldOf w 0 3 with
    | 1 =>
      if s.slk.role != rolePRIMARY || !s.slk.peerMirror then s.status Reg.SLK_CMD_ST REFUSED_STATE
      else
        let k := s.stepAhead
        ({ s with slk := { s.slk with handoff := some k } }.sendPair 0x16 k 0 (leBytes 8 k)).status Reg.SLK_CMD_ST DONE
    | 2 => if s.slk.role == roleMIRROR then (s.enterSyncing).status Reg.SLK_CMD_ST DONE else s.status Reg.SLK_CMD_ST REFUSED_STATE
    | 3 =>
      if p < 6 && (s.linkPort p).held then
        let s := s.setLinkPort p { s.linkPort p with held := false, quar := false }
        let s := s.setVrec (304 + p) { s.vrec (304 + p) with hold := none }
        (if (s.linkPort p).up then s.startBringUp p true else s).status Reg.SLK_CMD_ST DONE
      else s.status Reg.SLK_CMD_ST REFUSED_STATE
    | _ => s.status Reg.SLK_CMD_ST REFUSED_DESCRIPTOR)

/-- SWITCHOVER row (R617). -/
def execSwitchover (s : State) : Host.Outcome State Fault Refusal := .next (s.hostCmd Reg.SLK_CMD (fun s => s.doSlkCmd 1))

/-- RESYNC row (R632). -/
def execResync (s : State) : Host.Outcome State Fault Refusal := .next (s.hostCmd Reg.SLK_CMD (fun s => s.doSlkCmd 2))

/-- PORT_READMIT row (R632). -/
def execPortReadmit (p : BitVec 3) (s : State) : Host.Outcome State Fault Refusal :=
  .next (s.hostCmd Reg.SLK_CMD (fun s => s.doSlkCmd (BitVec.ofNat 32 (3 + 256 * p.toNat))))

/-! ### Register views (Table 14.9) -/

/-- SLK_STATUS. -/
def State.slkStatus (s : State) : Nat :=
  s.slk.role + (if s.slk.mirrorLost then 8 else 0) + (if s.slk.bellLost then 16 else 0) + (if s.slk.hotLimit then 32 else 0) +
  (if (List.range 6).any (fun p => (s.linkPort p).held) then 64 else 0)

/-- SLK_Pp_STAT: lanes locked are all four of a port that is up (R596). -/
def State.slkPStat (s : State) (p : Nat) : Nat :=
  let x := s.linkPort p
  (if x.up then 31 else 0) + (if x.held then 32 else 0) + 256 * (x.peer % 64) + 65536 * (min x.phase 5)

end Sys2Proof.Machine
end

