-- ==== Sys2Proof/Machine/LathCheck.lean ====
section
/-! DEFINITION. Machine/LathCheck.lean: the checks of a load, phase by phase (R481 to R506, R516 to R518, R745, R752, Table 11.8). A failure
is a reason and the index of the failing item; none where the manual names no item, and then a free value (log entry 6). -/

namespace Sys2Proof.Machine

/-- A failed check: its reason (Table 11.8) and the index of the item. -/
abbrev Fail := Nat × Option Nat

/-- A failure when a condition does not hold. -/
def failUnless (ok : Bool) (f : Fail) : Option Fail := if ok then none else some f

/-! ### Bytes of the image -/

/-- BODY_LEN. -/
abbrev bodyLen (img : List Byte) : Nat := u img 96 4

/-- ENCRYPTED (Table 11.1). -/
abbrev encrypted (img : List Byte) : Bool := bits (u img 12 4) 0 1 == 1

/-- ROLLBACK of an image (Table 11.1). -/
abbrev rollbackOf (img : List Byte) : Nat := u img 24 1

/-- FEAT_REQ of an image (Table 11.1). -/
abbrev featReqOf (img : List Byte) : Nat := u img 32 32

/-- A region lies in DRAM data space outside the retained region (Table 1.5, R488). -/
def dramData (a n : Nat) : Bool := decide (dramBase ≤ a) && decide (a + n ≤ retainedBase)

/-! ### Phase 2: header (R745, R516 to R518) -/

/-- The byte offset of the first header field that fails R745. -/
def headFail (img : List Byte) : Option Nat :=
  let total := u img 8 4
  let n := u img 6 2
  firstSome [
    if u img 0 4 == 0x4854414C then none else some 0,
    if 1 ≤ n && n ≤ 64 then none else some 6,
    if 512 ≤ img.length && total == img.length && total % 64 == 0 && total ≤ 0x8000000 && total == bodyLen img + 512 then none else some 8,
    if u img 12 4 < 64 && configOf img != 3 then none else some 12,
    if rollbackOf img ≤ 64 then none else some 24,
    if u img 27 1 ≤ 15 && (encrypted img || u img 27 1 == 0) then none else some 27,
    if encrypted img || allZero img 64 12 then none else some 64,
    if allZero img 76 4 then none else some 76,
    if encrypted img || allZero img 80 16 then none else some 80,
    if allZero img 112 144 then none else some 112]

/-- Feature bits that header properties need (R518). -/
def headNeeds (img : List Byte) : List Nat :=
  (if configOf img == 1 then [5] else []) ++ (if configOf img == 2 then [7] else []) ++ (if encrypted img then [14] else []) ++
  (if spareless img then [15] else [])

/-- The lowest needed feature bit that FEAT_REQ lacks (R518). -/
def missingNeed (img : List Byte) (needs : List Nat) : Option Nat :=
  (List.range 256).find? (fun b => needs.contains b && !(featReqOf img).testBit b)

/-- Phase 2 (Table 11.6). -/
def State.headCheck (s : State) (img : List Byte) : Option Fail :=
  firstSome [
    (headFail img).map (fun o => (0x0001, some o)),
    failUnless (u img 4 1 == 1) (0x0002, none),
    failUnless (u img 25 1 ≤ s.part.stepping.toNat && s.part.stepping.toNat ≤ u img 26 1) (0x0003, none),
    (lowestMissing (featReqOf img) s.featDrv).map (fun b => (0x0004, some b)),
    (missingNeed img (headNeeds img)).map (fun b => (0x0004, some b))]

/-! ### Phase 3: keys, signature, rollback and binding (R493, R494, R496, R498, R636) -/

/-- PUBKEY and SIG of the signature block (R486). -/
def pubKey (img : List Byte) : List Byte := (img.drop (256 + bodyLen img)).take 96
def sigOf (img : List Byte) : List Byte := (img.drop (256 + bodyLen img + 96)).take 96

/-- Lifecycle state (Table 15.2): 0 BLANK, 1 OWNED, 2 LOCKED, 3 SPENT. -/
def Otp.life (o : Otp) : Nat := if !o.owned then 0 else if 7 ≤ o.lockGen then 3 else if o.lockGen % 2 == 0 then 1 else 2

/-- The device serves its signers, and an unrevoked signer slot with a usage bit holds the digest of a public key (R493, R635, R636). -/
def State.signerFor (s : State) (pub : List Byte) (usage : Nat) : Bool :=
  s.sec.otp.life == 1 && s.sec.otp.signers.any (fun (p : Nat × Signer) => p.2.digest == sha384 pub && !p.2.revoked && p.2.usage.getLsbD usage)

/-- Phase 3 (Table 11.6). -/
def State.authCheck (s : State) (img : List Byte) : Option Fail :=
  firstSome [
    failUnless (s.signerFor (pubKey img) 0) (0x0010, none),
    failUnless (ecdsaVerify (pubKey img) (sha384 (img.take (256 + bodyLen img))) (sigOf img)) (0x0011, none),
    failUnless (s.sec.otp.rollback ≤ rollbackOf img) (0x0012, none),
    failUnless (u img 104 8 == 0 || u img 104 8 == s.part.serial.toNat) (0x0013, none)]

/-! ### Phase 4: decryption (R495) -/

/-- The image with its body in plain text; none when the key slot is empty or the tag fails. -/
def State.decrypted (s : State) (img : List Byte) : Option (List Byte) :=
  if !encrypted img then some img
  else
    match SMap.find? s.sec.keys (u img 27 1) with
    | none => none
    | some k =>
      (gcmOpen (k.take 32) ((img.drop 64).take 12) (img.take 64) ((img.drop 256).take (bodyLen img)) ((img.drop 80).take 16)).map
        (fun b => img.take 256 ++ fit (bodyLen img) b ++ img.drop (256 + bodyLen img))

/-! ### Phase 5: sections and records (R482 to R485, R499, R518, R623, R752) -/

/-- The bytes of a section. -/
def sectBytes (img : List Byte) (t : Sect) : List Byte := (img.drop (256 + t.off)).take t.len

/-- Section k of the table keeps the rules of R482 and R483 and its CRC. -/
def sectOk (img : List Byte) (ts : List Sect) (k : Nat) (t : Sect) : Bool :=
  let o := 256 + 32 * k
  let before := ts.take k
  bits (u img (o + 2) 2) 1 15 == 0 && allZero img (o + 20) 12 && t.off % 64 == 0 && 32 * ts.length ≤ t.off && 16 ≤ t.len &&
  t.off + t.len ≤ bodyLen img && before.all (fun r => decide (r.off + r.len ≤ t.off) && r.type != t.type) &&
  (crc32c (sectBytes img t)).toNat == t.crc

/-- The types marked required in Table 11.3. -/
def requiredTypes (img : List Byte) : List Nat :=
  [0x0001, 0x0002, 0x0003, 0x0004, 0x0005, 0x000A, 0x0012, 0x0013] ++ (if configOf img == 2 then [0x0010] else [])

/-- The section table is good; otherwise the index of the first section that fails, or NSECT for a missing one. -/
def tableFail (img : List Byte) : Option Nat :=
  let ts := sections img
  match (List.range ts.length).find? (fun k => !sectOk img ts k (ts.getD k default)) with
  | some k => some k
  | none => if (requiredTypes img).all (fun t => ts.any (fun x => x.type == t)) then none else some ts.length

/-- A section's preamble and padding have the form of R484. -/
def preambleOk (img : List Byte) (t : Sect) : Bool :=
  let b := sectBytes img t
  allZero b 8 8 && 16 + u b 0 4 * u b 4 4 ≤ t.len && (b.drop (16 + u b 0 4 * u b 4 4)).all (· == 0)

/-- The DEVICE section holds one record in the form of Table 11.4. -/
def deviceOk (img : List Byte) : Bool :=
  let r := deviceRec img
  let top := match configOf img with
    | 0 => 0
    | 1 => 1
    | _ => 63
  (records img 0x0001).length == 1 && r.length == 64 && u r 4 1 ≤ top && 1 ≤ u r 5 1 && u r 5 1 ≤ 4 && allZero r 6 2 &&
  (configOf img != 0 || allZero r 16 48)

/-- The blocks a REGS record may name (R485). -/
def regsBlock (off : Nat) : Bool :=
  let b := off / 0x100000
  (1 ≤ b && b ≤ 11) || b == 13 || b == 14 || b == 16

/-- A REGS record keeps R485. -/
def regsOk (r : List Byte) : Bool :=
  r.length == 8 && regsBlock (u r 0 4) &&
  (match regDef? (u r 0 4) with
   | none => false
   | some d => (d.acc == .rw || d.acc == .rwl) && d.chks.all (Chk.ok (BitVec.ofNat 32 (u r 4 4))))

/-- A SLOTS record of a partner template keeps R752. -/
def templateOk (r : List Byte) : Bool :=
  r.length == 128 && u r 0 1 == 2 && u r 2 2 < 16 && u r 8 1 ≤ u r 9 1 && recordOk (templateRecord r (u r 8 1) 0) (u r 8 1)

/-- Record k of the SLOTS section keeps R752, and no earlier record has its slot or template index. -/
def slotRecOk (rs : List (List Byte)) (k : Nat) : Bool :=
  let r := rs.getD k []
  (if u r 0 1 == 2 then templateOk r else recordOk r (u r 2 2)) &&
  (rs.take k).all (fun q => !(u q 0 1 == u r 0 1 && u q 2 2 == u r 2 2))

/-- A WEIGHTS record keeps R499. -/
def weightOk (r : List Byte) : Bool := r.length == 64 && u r 8 8 % 64 == 0 && dramData (u r 0 8) (u r 8 8)

/-- The first record of a list that fails. -/
def firstBad (rs : List (List Byte)) (ok : Nat → List Byte → Bool) : Option Nat :=
  (List.range rs.length).find? (fun k => !ok k (rs.getD k []))

/-- Two rectangles overlap (R623). -/
def Pasture.meets (a b : Pasture) : Bool :=
  decide (a.xmin < b.xmax) && decide (b.xmin < a.xmax) && decide (a.ymin < b.ymax) && decide (b.ymin < a.ymax)

/-- A pasture map that fails R623: the first pasture that overlaps an earlier one, or past the last for a device without one. -/
def pastureFail (ct : Content) : Option Nat :=
  let ps := ct.pastures
  match (List.range ps.length).find? (fun k => (ps.take k).any (fun p => p.meets (ps.getD k default))) with
  | some k => some k
  | none => if (List.range (ct.dimX * ct.dimY)).all (fun n => ps.any (fun p => p.dev == n)) then none else some ps.length

/-- Feature bits that the sections need (R518). -/
def bodyNeeds (img : List Byte) (ct : Content) : List Nat := (if 1050000 < fclk img then [16] else []) ++ ct.needs

/-- Failures of a phase among the checks whose records have no layout in the manual (log entry 17). -/
def Content.fails (ct : Content) (phase : Nat) : List Fail :=
  (ct.other.filter (fun (x : Nat × Nat × Nat) => x.1 == phase)).map (fun x => (x.2.1, some x.2.2))

/-- Failures of a phase with one reason. -/
def Content.failsOf (ct : Content) (phase reason : Nat) : Option Fail := (ct.fails phase).find? (fun f => f.1 == reason)

/-- The index of the first record that names a part or variant absent from the cycle table (R500). -/
def partFail (ct : Content) (tab : List CycEntry) : Option Nat :=
  (ct.named.find? (fun x => !tab.any (fun e => e.part == x.2.part && e.variant == x.2.variant))).map (·.1)

/-- Phase 5 (Table 11.6): the section table, unknown sections, features, then the records. -/
def bodyCheck (img : List Byte) (ct : Content) (tab : List CycEntry) : Option Fail :=
  let ts := sections img
  let rec7 (k : Option Nat) : Option Fail := k.map (fun k => (0x0007, some k))
  firstSome [
    (tableFail img).map (fun k => (0x0005, some k)),
    ((List.range ts.length).find? (fun k => !(ts.getD k default).known && !(ts.getD k default).opt)).map (fun k => (0x0006, some k)),
    (missingNeed img (bodyNeeds img ct)).map (fun b => (0x0004, some b)),
    rec7 ((List.range ts.length).find? (fun k => (ts.getD k default).known && !preambleOk img (ts.getD k default))),
    rec7 (if deviceOk img then none else some 0),
    rec7 (firstBad (records img 0x0002) (fun _ r => regsOk r)),
    rec7 (firstBad (records img 0x0008) (fun k _ => slotRecOk (records img 0x0008) k)),
    rec7 (firstBad (records img 0x000B) (fun _ r => weightOk r)),
    rec7 (if configOf img == 2 then pastureFail ct else none),
    rec7 (partFail ct tab),
    ct.failsOf 5 0x0007]

/-- Sections skipped under R516. -/
def skipped (img : List Byte) : Nat := ((sections img).filter (fun t => t.opt && !t.known)).length

/-! ### Phase 6: weights (R499) -/

/-- A read of LTH; nothing for no bytes. -/
def State.lthRead (s : State) (a n : Nat) : Except Nat (List Byte) × State := if n = 0 then (.ok [], s) else s.busRead idLth a n

/-- The weight blobs in record order: none when every digest holds, the first failing record, or a bus error. -/
def State.weightsFrom (s : State) (k : Nat) : List (List Byte) → Except Nat (Option Nat) × State
  | [] => (.ok none, s)
  | r :: rs =>
    match s.lthRead (u r 0 8) (u r 8 8) with
    | (.error e, s) => (.error e, s)
    | (.ok b, s) => if digestBytes (sha384 b) == (r.drop 16).take 48 then s.weightsFrom (k + 1) rs else (.ok (some k), s)

/-! ### Phase 7: the fit check (R500 to R506) -/

/-- What a REGS record leaves in a register other than those whose writes have an effect of their own (R508, R718). -/
def maskedWrite (old : W32) (off : Nat) (v : W32) : W32 :=
  match regDef? off with
  | some d => (old &&& ~~~d.mask) ||| (v &&& d.mask)
  | none => old

/-- The register file as the REGS records will leave it, for the checks that need it. -/
def State.afterRegs (s : State) (img : List Byte) : State :=
  (records img 0x0002).foldl (fun s r => s.setReg (u r 0 4) (maskedWrite (s.reg (u r 0 4)) (u r 0 4) (BitVec.ofNat 32 (u r 4 4)))) s

/-- The slot bindings of an image: RKIND 1 records. -/
def bindings (img : List Byte) : List (List Byte) := (records img 0x0008).filter (fun r => u r 0 1 == 1)

/-- Σ DET_MAX over the bindings (R364). -/
def detMaxSum (img : List Byte) : Nat := ((bindings img).map recDetMax).sum

/-- The worst cases an image declares (R502), over the registers it leaves. -/
def imageCounts (t : State) (img : List Byte) (ct : Content) : Counts :=
  { updated := min ct.uMax (t.regN Reg.TAC_ACTIVE_MAX), pairs := detMaxSum img * t.regN Reg.FLD_PAIR_K,
    active := t.regN Reg.TAC_ACTIVE_MAX, compared := ct.compared }

/-- The stage times and sums in the order they are compared with the claims (R503, R505). -/
def fitValues (ct : Content) (tab : List CycEntry) (f : Nat) (c : Counts) : List Nat :=
  ct.scheds.flatMap (fun (p : Nat × Sched) => ct.costs.flatMap (fun pc =>
    let t := stages.map (stageNs tab f c (ct.shiftRes.getD p.1 0) pc)
    t ++ [t.sum]))

/-- The first value that differs from its claim (R505). -/
def claimFail (ct : Content) (vals : List Nat) : Option Nat :=
  (List.range (max vals.length ct.claims.length)).find? (fun k => vals[k]? != ct.claims[k]?)

/-- The grade checks (reason 0x0020). -/
def State.gradeOk (s : State) (img : List Byte) (t : State) : Bool :=
  if s.part.gradeI then bits (u img 12 4) 3 1 == 1 && 700000 ≤ fclk img && fclk img ≤ 1200000
  else bits (u img 12 4) 2 1 == 1 && fclk img == 1050000 && !spareless img && t.bit Reg.SIC_CTRL 3

/-- The tile checks (reason 0x0021). -/
def State.tilesOk (s : State) (img : List Byte) (ct : Content) : Bool :=
  let full := ct.full.flatMap (·.tiles)
  let top := if spareless img then 34 else 32
  full.length ≤ top && full.all (fun t => decide (t < top)) && full.eraseDups.length == full.length &&
  ct.short.all (fun p => p.tiles.all (fun t => decide (t < top))) &&
  ct.full.all (fun p => decide ((p.tiles.filter (fun t => s.deadBit t)).length ≤ 1))

/-- A tile's image and buffers fit its memory: otherwise the first tile (reason 0x0022). -/
def tileMemFail (ct : Content) : Option Nat :=
  (List.range 34).find? (fun t =>
    let own := ct.tileImg.filter (fun (x : Nat × Nat × List Byte) => x.1 == t)
    own.any (fun x => decide (0x100000 < x.2.1 + x.2.2.length)) ||
    decide (0x100000 < (own.map (fun x => x.2.2.length)).sum + SMap.get 0 ct.buffers t))

/-- Bytes of the solver tables: programs, patterns, orders and the elements of the transitions. -/
def solverBytes (ct : Content) : Nat :=
  ((ct.progs ++ ct.patterns ++ ct.orders).map (fun (p : Nat × List Byte) => p.2.length)).sum +
  (ct.trans.map (fun (p : Nat × Nat × Nat × List Int) => 4 * p.2.2.2.length)).sum

/-- The on-die tables (reason 0x0023). -/
def onDieOk (t : State) (ct : Content) : Bool :=
  decide (solverBytes ct ≤ 0x200000) && decide (ct.descs.length ≤ 4096) && decide (ct.signals ≤ 1024) &&
  decide (t.fld' Reg.TAC_CACHE_CFG 0 5 ≤ 16)

/-- The base registers of DRAM tables are aligned as their registers state (Tables 7.12, 8.7 and 10.7). -/
def basesOk (t : State) : Bool :=
  [(Reg.TAC_SEQ_BASE_LO, 0x4000000), (Reg.TAC_PTB_BASE_LO, 0x100000), (Reg.TAC_POOL_BASE_LO, 0x10000), (Reg.FLD_FOLD_BASE_LO, 0x10000000),
   (Reg.FLD_PRICE_BASE_LO, 0x800000), (Reg.CSQ_RING_BASE_LO, 0x1000)].all (fun (p : Nat × Nat) => t.regN p.1 % p.2 == 0)

/-- The first schedule under which the DRAM traffic of a step exceeds 80 % of 182 GB/s over the cadence (reason 0x0025). -/
def trafficFail (ct : Content) : Option Nat :=
  (List.find? (fun (p : Nat × Sched) => decide (145600 * p.2.cadence < SMap.get 0 ct.traffic p.1)) ct.scheds).map (·.1)

/-- Perception: the tile cycles per second of all networks at their sensors' rates fit the partition, and the test slot has 3 % of 32 tiles
(reason 0x002C). -/
def perceptionOk (img : List Byte) (ct : Content) (tab : List CycEntry) (c : Counts) : Bool :=
  let period (n : Nat) : Nat := max 1 ((((bindings img).find? (fun r => u r 2 2 == n)).map recPeriod).getD 1)
  let load : Rat := (ct.networks.map (fun (x : PartUse × Nat) => ((partCycles tab c x.1 * 1000000 : Nat) : Rat) / (period x.2 : Nat))).sum
  decide (load ≤ ((ct.perception.length * fclk img * 1000 : Nat) : Rat)) && decide (960 ≤ ct.testShare)

/-- The gate of a class stays open for 25 µs from every T_i: no entry of the list that closes it meets the start of a step (R473). -/
def gateHolds (x : SwPort) (cls cad : Nat) : Bool :=
  let cyc := (x.gcl.map (·.2)).sum
  x.gcl.isEmpty || cyc == 0 ||
  (List.range (cyc / Nat.gcd cyc cad)).all (fun i =>
    let off := i * cad % cyc
    (List.range x.gcl.length).all (fun k =>
      let e := x.gcl.getD k (0xFF, 0)
      let lo := ((x.gcl.take k).map (·.2)).sum
      e.1.getLsbD cls || e.2 == 0 || !(overlaps off 25000 lo e.2 || overlaps off 25000 (lo + cyc) e.2)))

/-- The controller stream: the wire time of its largest step, and its gates under every schedule (R473, reason 0x002E). -/
def streamOk (t : State) (ct : Content) : Bool :=
  !t.bit Reg.CSQ_CTRL 2 ||
  (let x := SMap.get ({} : SwPort) ct.ports (t.fld' Reg.CSQ_CS_CFG 8 4)
   let most := u (ct.filters.getD 1 []) 4 2
   let segs := max 1 (ceilDiv most (max 1 (t.fld' Reg.CSQ_CS_CFG 0 7)))
   decide ((segs * (388 + 70) + 96 * most) * 8 ≤ 20 * x.speed) &&
   ct.scheds.all (fun (p : Nat × Sched) => gateHolds x (t.fld' Reg.CSQ_CS_CFG 12 3) (p.2.cadence * 1000)))

/-- The first batch whose SHIFT_RES is below the time to shift and write its problems (R424, reason 0x0033). -/
def shiftFail (img : List Byte) (ct : Content) (tab : List CycEntry) (c : Counts) : Option Nat :=
  (List.range ct.shifts.length).find? (fun k =>
    let x := ct.shifts.getD k default
    decide (x.1 * 1000 < partNs tab (fclk img) c x.2))

/-- Address ranges that the fixed rules close to an ID, for reads or for other accesses, once the image is applied (R572). -/
def closedRanges (t : State) (img : List Byte) (id : Nat) (write : Bool) : List (Nat × Nat) :=
  let at' (lo hi : Nat) : Nat := t.regN lo + 2 ^ 32 * t.regN hi
  (if id == idLth then [] else [(retainedBase, 0x10000000)]) ++
  (if !write || id == idLth then []
   else
     (records img 0x000B).map (fun r => (u r 0 8, u r 8 8)) ++
     (if id == idTac then []
      else [(at' Reg.TAC_SEQ_BASE_LO Reg.TAC_SEQ_BASE_HI, 0x4000000), (at' Reg.TAC_PTB_BASE_LO Reg.TAC_PTB_BASE_HI, (0x100000 + 1024) * 256),
            (cacheBase, t.scratchBase - cacheBase)]) ++
     (if id == idFld || id == idBse then [] else [(at' Reg.FLD_FOLD_BASE_LO Reg.FLD_FOLD_BASE_HI, 0x10000000)]))

/-- A rule grants some kind over no address that is open to any ID it admits (R572). -/
def ruleDead (t : State) (img : List Byte) (r : Rule) : Bool :=
  decide (r.h ≤ 35) &&
  [Kind.read, .write, .command].any (fun k => r.kinds.getLsbD (kindBit k) &&
    (List.range (r.idHi + 1 - r.idLo)).all (fun j =>
      ((closedRanges t img (r.idLo + j) (k != .read)).foldl (fun l x => ivTake l x.1 x.2)
        [(r.base * 4096, (r.limit + 1 - r.base) * 4096)]).isEmpty))

/-- Rules a hurdle holds (Table 13.4). -/
def hurdleRoom (h : Nat) : Nat := if h < 34 then 16 else if h == 34 then 32 else if h == 35 then 256 else if h == 36 then 128 else 64

/-- The first rule that names an ID outside Table 1.4 or whose grant could never take effect, or that its hurdle has no room for (R572, Table
13.4; reason 0x0031). -/
def ruleFail (t : State) (img : List Byte) (ct : Content) : Option Nat :=
  (List.range ct.rules.length).find? (fun k =>
    let r := ct.rules.getD k default
    !(List.range (r.idHi + 1 - r.idLo)).all (fun j => idKnown (r.idLo + j)) || ruleDead t img r ||
    decide (hurdleRoom r.h ≤ ((ct.rules.take k).filter (fun q => q.h == r.h)).length))

/-- The DRAM regions of an image (reason 0x0024). -/
def State.regionsOk (s : State) (ct : Content) : Bool :=
  ct.regions.all (fun (r : Nat × Nat) => dramData r.1 r.2 && !s.retiredAt r.1 r.2) &&
  (List.range ct.regions.length).all (fun k => (ct.regions.take k).all (fun (q : Nat × Nat) =>
    !overlaps q.1 q.2 (ct.regions.getD k (0, 0)).1 (ct.regions.getD k (0, 0)).2))

/-- A switch port with no PHY mode in the SWITCH section that a slot or the controller stream uses (R758). -/
def phyMissing (t : State) (img : List Byte) (ct : Content) : Bool :=
  let has (q : Nat) : Bool := (SMap.get ({} : SwPort) ct.ports q).phy
  (bindings img).any (fun r => (recKind r == kScanner || recKind r == kPartner) && !has (recPort r)) ||
  (t.bit Reg.CSQ_CTRL 2 && !has (t.fld' Reg.CSQ_CS_CFG 8 4))

/-- The port and slot checks (reason 0x0026): the first record of the SLOTS section at fault, or another item. -/
def portsFail (t : State) (img : List Byte) (ct : Content) : Option Fail :=
  let rs := records img 0x0008
  let bad (k : Nat) : Bool :=
    let r := rs.getD k []
    let before := (rs.take k).filter (fun q => u q 0 1 == 1)
    u r 0 1 == 1 &&
    ((recKind r == kCan && recPort r == 3) || before.any (fun q => sameSource q r) ||
     (recKind r == kCamera && 48 ≤ (before.filter (fun q => recKind q == kCamera)).length) ||
     (recKind r == kScanner && (16 ≤ (before.filter (fun q => recKind q == kScanner)).length ||
       (bits (recFlags r) 2 1 == 1 && (t.fcuEntry (u r 2 2)).isNone))))
  match (List.range rs.length).find? bad with
  | some k => some (0x0026, some k)
  | none =>
    failUnless (decide (ct.qci.length ≤ 512) && ct.ports.all (fun (p : Nat × SwPort) => decide (p.2.gcl.length ≤ 256)) && !phyMissing t img ct)
      (0x0026, none)

/-- The record limits (reason 0x0027). -/
def limitsOk (t : State) (img : List Byte) (ct : Content) : Bool :=
  detMaxSum img * t.regN Reg.FLD_PAIR_K ≤ 65536 &&
  (ct.flocks.map (fun (f : Nat × Nat × Nat) => f.2.1)).sum ≤ t.poolUnits - t.reserveUnits &&
  u (ct.filters.getD 2 []) 4 2 ≤ 19 &&
  ct.scheds.all (fun (p : Nat × Sched) => decide (t.fld' Reg.PAE_GRID_TIME 0 16 * 1000 % p.2.cadence = 0))

/-- The index of the first patch path whose test cannot come within 100 ms: PATCH_PERIOD, the larger of its declared gap and its slot's
PERIOD, 5 of the longest cadence, and its evaluation time (R137, reason 0x002D). -/
def patchMisfit (t : State) (img : List Byte) (ct : Content) (tab : List CycEntry) (c : Counts) : Option Nat :=
  let cad := ct.scheds.foldl (fun m p => max m p.2.cadence) 0
  let period (n : Nat) : Nat := (((bindings img).find? (fun r => u r 2 2 == n)).map recPeriod).getD 0
  (List.find? (fun (p : Nat × PatchPath) =>
    let gap := max p.2.gap ((p.2.slot.map period).getD 0)
    let eval := (p.2.cost.map (partNs tab (fclk img) c)).sum
    decide (100000000 < (t.regN Reg.SIC_PATCH_PERIOD * 1000 + gap + 5 * cad) * 1000 + eval)) ct.paths).map (·.1)

/-- The failures of the fit check that this model computes, in ascending reason order (R506). -/
def State.fitFails (s : State) (img : List Byte) (ct : Content) : List Fail :=
  let t := s.afterRegs img
  let tab := Config.cycleTable s.part.stepping
  let c := imageCounts t img ct
  [failUnless (s.gradeOk img t) (0x0020, none),
   failUnless (s.tilesOk img ct) (0x0021, none),
   (tileMemFail ct).map (fun k => (0x0022, some k)),
   failUnless (onDieOk t ct) (0x0023, none),
   failUnless (s.regionsOk ct && basesOk t) (0x0024, none),
   (trafficFail ct).map (fun k => (0x0025, some k)),
   portsFail t img ct,
   failUnless (limitsOk t img ct) (0x0027, none),
   (fitTime ct tab (fclk img) c ct.scheds).map (fun r => (r.1, some r.2)),
   failUnless (perceptionOk img ct tab c) (0x002C, none),
   (patchMisfit t img ct tab c).map (fun k => (0x002D, some k)),
   failUnless (streamOk t ct) (0x002E, none),
   failUnless (BitVec.ofNat 32 (u img 100 4) == Config.cycId s.part.stepping) (0x002F, none),
   (claimFail ct (fitValues ct tab (fclk img) c)).map (fun k => (0x0030, some k)),
   (ruleFail t img ct).map (fun k => (0x0031, some k)),
   failUnless (u img 8 4 + u (deviceRec img) 8 8 ≤ 320 * 0x100000) (0x0032, none),
   (shiftFail img ct tab c).map (fun k => (0x0033, some k))].filterMap id

/-- The failure of the lowest reason, the earlier of two with one reason (R506). -/
def lowestFail (l : List Fail) : Option Fail :=
  l.foldl (fun m f => match m with
    | none => some f
    | some g => if f.1 < g.1 then some f else some g) none

/-- Phase 7 (Table 11.6). -/
def State.fitCheck (s : State) (img : List Byte) (ct : Content) : Option Fail := lowestFail (s.fitFails img ct ++ ct.fails 7)

/-- The status of a reason (Table 11.8). -/
def reasonStatus (r : Nat) : Nat :=
  if r == 0 then REFUSED_STATE
  else if r == 0x0003 || r == 0x0004 || r == 0x0006 then REFUSED_FEATURE
  else if r ≤ 0x0008 then REFUSED_DESCRIPTOR
  else if r ≤ 0x0015 then REFUSED_AUTH
  else REFUSED_FIT

end Sys2Proof.Machine
end

