-- ==== Sys2Proof/Machine/Lath.lean ====
section
/-! DEFINITION. Machine/Lath.lean: loading, applying, resuming and unloading a Lath image (11_lath_image.md). The copy of the image in the
staging half and in the applied half of the retained region are `lth.img` and `lth.applied`; the codes of those lines are kept with all
others (log entry 17). -/

namespace Sys2Proof.Machine

/-! ### The retained region -/

/-- First address of the applied half, and of the staging half (11_lath_image.md, The load). -/
def State.appliedBase (s : State) : Nat := retainedBase + (if s.lth.half then 0x8000000 else 0)
def State.stagingBase (s : State) : Nat := retainedBase + (if s.lth.half then 0 else 0x8000000)

/-- LTH writes bytes of the retained region: their codes are renewed (R532, R554). -/
def State.retainedWrite (s : State) (a : Nat) (bs : List Byte) : Nat × State :=
  let r := s.rawStore idLth a bs
  (r.1, { r.2 with mem := s.mem })

/-- LTH reads bytes of the retained region: no uncorrectable error, and DRAM not being refilled (R531, R658). -/
def State.retainedRead (s : State) (a n : Nat) : Bool × State := if s.sec.refill then (false, s) else s.checkRead idLth a n 0

/-! ### The end of a load (R489, R492) -/

/-- LTH_REASON: the reason and index of the check that failed; what the manual does not state is a free value (log entry 6). -/
def State.putReason (s : State) (f : Option Fail) : State :=
  match f with
  | some (r, some k) => s.setReg Reg.LTH_REASON (BitVec.ofNat 32 (r + 65536 * k))
  | some (r, none) => let (v, s) := s.draw; s.setReg Reg.LTH_REASON (BitVec.ofNat 32 (r + 65536 * v))
  | none => let (v, s) := s.draw; s.setReg Reg.LTH_REASON (BitVec.ofNat 32 v)

/-- The command in progress ends with a status: BUSY clears, and vector 2 is raised (R520, Table 17.3). -/
def State.lthDone (s : State) (status : Nat) : State :=
  (({ s with lth := { s.lth with busyOp := 0 } }.status Reg.LTH_CMD_ST status).setBit Reg.LTH_CMD_ST 16 false).msix 2

/-- A load ends before phase 8: the image already applied stays applied (R489). -/
def State.loadStop (s : State) (status : Nat) (f : Option Fail) : State :=
  let s := { s with lth := { s.lth with img := [] } }.setReg Reg.LTH_STATE (if s.lth.applied.isEmpty then 0 else 3)
  ((s.putReason f).countSat Reg.LTH_LOAD_CNT 16 16 1).lthDone status

/-- A load is refused at acceptance (R488, R489). -/
def State.loadRefuse (s : State) (f : Fail) : State :=
  ((s.status Reg.LTH_CMD_ST (reasonStatus f.1)).putReason (some f)).countSat Reg.LTH_LOAD_CNT 16 16 1

/-- LOAD: judged, then phase 1 copies the image (R487 to R489). -/
def State.doLoad (s : State) : State :=
  s.unlessBusy Reg.LTH_CMD_ST 16 (fun s =>
    let src := s.regN Reg.LTH_SRC_LO + 2 ^ 32 * s.fld' Reg.LTH_SRC_HI 0 16
    let len := s.regN Reg.LTH_LEN
    if !s.locked || s.bit Reg.CSQ_STATUS 0 || s.lthState == 1 || s.lthState == 2 || s.lthState == 4 then s.loadRefuse (0x0000, some 0)
    else if src % 64 != 0 || decide (0x8000000 < len) || !dramData src len then s.loadRefuse (0x0008, none)
    else
      let s := ((s.setReg Reg.LTH_STATE 1).setFld Reg.LTH_CMD_ST 8 4 1).setBit Reg.LTH_CMD_ST 16 true
      let s := { s with lth := { s.lth with busyOp := 1 } }
      match s.lthRead src len with
      | (.error e, s) => s.loadStop e none
      | (.ok bs, s) =>
        let (e, s) := s.retainedWrite s.stagingBase bs
        if e == DONE then { s with lth := { s.lth with img := bs } } else s.loadStop e none)

/-- LOAD row (R487): a host write of LTH_CMD. -/
def execLoad (s : State) : Host.Outcome State Fault Refusal := .next (s.hostCmd Reg.LTH_CMD State.doLoad)

/-! ### Phase 8: what every command in progress comes to (R507 step 1) -/

/-- The commands of a tile complete with a status, and its queues are empty. -/
def State.discardTile (s : State) (t : Nat) (code : Nat) : State :=
  let x := s.tile t
  let cmds := (x.run.map (·.cmd)).toList ++ x.stageQ ++ x.bgQ
  let s := (s.noWait (.tile t .stage)).noWait (.tile t .background)
  let s := s.setTile t { x with stageQ := [], bgQ := [], run := none, stageGo := false, bgGo := false }
  cmds.foldl (fun s c => s.cmdComplete t c code) s

/-- A solver batch is discarded with a status at its issuer. -/
def State.discardBatch (s : State) (x : Batch) (code : Nat) : State :=
  let s := { s with bse := { s.bse with batches := s.bse.batches.filter (fun b => b.seq != x.seq) } }
  let s := (s.noWait (.batch x.seq)).setReg Reg.BSE_LAST_DONE (BitVec.ofNat 32 (code + 256 * x.tag + 65536 * (bdStep x.desc % 65536)))
  let s := s.emit (.done 0x0A x.id code)
  if bdSigDone x.desc == 0xFFFF then s else s.raiseSig (bdSigDone x.desc) 1

/-- Every program channel, tile command and solver batch ends with DEADLINE_ABANDONED (R507 step 1). -/
def State.discardWork (s : State) : State :=
  let s := (List.range 16).foldl (fun s n =>
    if (s.chan n).prog.isEmpty then s
    else ((s.chan n).moves.foldl (fun s (x, l) => s.partMove (idChan n) (s.inJob x l)) s).endProg n DEADLINE_ABANDONED) s
  let s := (List.range 34).foldl (fun s t => s.discardTile t DEADLINE_ABANDONED) s
  let s := s.bse.batches.foldl (fun s x => s.discardBatch x DEADLINE_ABANDONED) s
  { s with bse := { s.bse with lanes := s.bse.lanes.map (fun (p : Nat × Lane) => (p.1, { p.2 with run := none })) } }

/-! ### Steps 2 and 3 -/

/-- Registers of a range return to their reset values. -/
def State.clearRegs (s : State) (lo hi : Nat) : State := { s with regs := s.regs.filter (fun p => p.1 < lo || hi ≤ p.1) }

/-- Every descriptor is destroyed and every signal is zero (R251, R272, R507 step 2). -/
def State.clearDescs (s : State) : State :=
  { s.clearRegs (Reg.DML_SIG 0) (Reg.DML_SIG 1024) with dml := { owner := s.dml.owner, ranges := s.dml.ranges } }

/-- A range of DRAM is filled with zero, and its codes are renewed. -/
def State.wipe (s : State) (a n : Nat) : State :=
  { s.zero a n with msys := { s.msys with damage := s.msys.damage.filter (fun d =>
      !(d.array == 39 && a ≤ dramBase + 64 * d.loc && dramBase + 64 * d.loc + 64 ≤ a + n)) } }

/-- Every COMMIT of the list rings is empty (R463, R620). -/
def State.emptyRings (s : State) : State :=
  let empty : List Byte := leBytes 8 0x7FFFFFFFFFFFFFFF
  let s := (List.range (s.regN Reg.CSQ_RING_SLOTS)).foldl (fun s k => s.store (s.ringAddr k) empty) s
  if s.slkConfig != 2 || s.devNo != 0 then s
  else (List.range (s.dimX * s.dimY * s.regN Reg.SLK_MRING_SLOTS)).foldl (fun s k =>
    s.store (s.regN Reg.SLK_MRING_BASE_LO + 2 ^ 32 * s.fld' Reg.SLK_MRING_BASE_HI 0 16 + k * s.regN Reg.CSQ_RING_SLOT_SIZE * 4096) empty) s

/-- The Fold, the sequence descriptors, the page-table block pool and the price table are FREE and zero (R507 step 3). Fold generations
stay (R372). -/
def State.resetFold (s : State) : State :=
  let base (lo hi : Nat) : Nat := s.regN lo + 2 ^ 32 * s.fld' hi 0 16
  let s := s.wipe (base Reg.FLD_FOLD_BASE_LO Reg.FLD_FOLD_BASE_HI) 0x10000000
  let s := (s.wipe s.seqBase 0x4000000).wipe s.ptbBase ((0x100000 + 1024) * 256)
  let s := s.wipe (base Reg.FLD_PRICE_BASE_LO Reg.FLD_PRICE_BASE_HI) (8 * 0x100000)
  let s := s.enabledFlocks.foldl (fun s f => (s.setReg (Reg.TAC_FLOCK_USED f) 0).setReg (Reg.TAC_FLOCK_SEQ f) 0) s
  { s.setReg Reg.TAC_ACTIVE_CNT 0 with
    fld := { gens := s.fld.gens }
    tac := { free := [(0, s.poolUnits)], blocks := [(0, 0x100000 + 1024)] }
    saf := { s.saf with trackDoubt := [], prev := [], confirmed := [], counter := [] } }

/-! ### Step 4: hurdles and registers (R485, R508) -/

/-- LTH writes a register of a REGS record, whatever its lock. RUN is not a REGS record's to write: it is accepted only in APPLIED (R441). -/
def State.lthReg (s : State) (off : Nat) (v : W32) : State :=
  let v := s.featBits off v
  if off == Reg.CSQ_CTRL then s.setFld Reg.CSQ_CTRL 1 3 (fieldOf v 1 3)
  else
    s.setReg off (maskedWrite (s.reg off) off v)

/-- The hurdle rules, signal ranges and channel owners of an image (R273, R283, R572). -/
def State.applyHurdles (s : State) (ct : Content) : State :=
  { s with saf := { s.saf with rules := ct.rules, built := false }, dml := { s.dml with ranges := ct.ranges, owner := ct.chanOwner } }

/-- The REGS records in record order; at a resume none that names CSQ_T0 (R507, R511). -/
def State.applyRegs (s : State) (img : List Byte) (resume : Bool) : State :=
  let keep := s.lth.rwl
  let s := { s with lth := { s.lth with rwl := false } }
  let s := (records img 0x0002).foldl (fun s r =>
    let off := u r 0 4
    if resume && Reg.CSQ_T0 0 ≤ off && off ≤ Reg.CSQ_T0 3 then s else s.lthReg off (BitVec.ofNat 32 (u r 4 4))) s
  { s with lth := { s.lth with rwl := keep } }

/-! ### Step 5: tiles (R28, R29, R236, R242, R746) -/

/-- The stage a tile serves under an image: by its plans, or in an image that plans no tile by the default partition of Table 1.8, decode on
tiles 20 to 29 (R28). -/
def stageOfTile (ct : Content) (t : Nat) : Option Nat :=
  if ct.full.isEmpty then (if 20 ≤ t && t < 30 then some 1 else none) else (ct.full.find? (fun p => p.tiles.contains t)).map (·.stage)

/-- An image uses a tile: a plan holds it, or it lies in a partition of Table 1.8, perception on 0 to 19 and shared work on 30 and 31 among
them (R28). -/
def planned (ct : Content) (t : Nat) : Bool := if ct.full.isEmpty then decide (t < 32) else (stageOfTile ct t).isSome

/-- The states of the tiles under an image: plan tiles ACTIVE, DEAD tiles DEAD, tiles 32 and 33 SPARE unless the image is spare-less, the
others OFF (R242). -/
def State.placeTiles (s : State) (ct : Content) (less : Bool) : State :=
  (List.range 34).foldl (fun s t =>
    let st : TileSt := if s.deadBit t then .dead else if planned ct t then .active else if 32 ≤ t && !less then .spare else .off
    let s := if st == .active && s.powered t then s else { s with mem := memZero s.mem (t * 0x100000) 0x100000 }
    let x : Tile := { st := st, serves := stageOfTile ct t, nextOrd := (s.tile t).nextOrd, fencedLog := (s.tile t).fencedLog }
    (s.setTile t x).setPower t (st == .active)) s

/-- The tile images of the ACTIVE plan tiles are loaded (R236). -/
def State.loadTiles (s : State) (ct : Content) : State :=
  ct.tileImg.foldl (fun s (x : Nat × Nat × List Byte) =>
    if (s.tile x.1).st == .active then s.store (x.1 * 0x100000 + x.2.1) x.2.2 else s) s

/-- Stages whose full plan holds a DEAD tile start on their short plan, and the swaps follow (R746). -/
def State.swapDead (s : State) (ct : Content) : State :=
  let s := ((s.setReg Reg.TCA_SWAP_ST 0).setCond 6 false)
  let s := { s with tca := { s.tca with swap := none, waiting := [], subst := [], short := [], noSpare := false } }
  let dead := (List.range 34).filter (fun t => (s.tile t).st == .dead && (s.tile t).serves.isSome)
  let s := ct.full.foldl (fun s p => if p.tiles.any (fun t => dead.contains t) then s.raiseSwap p.stage else s) s
  { s with tca := { s.tca with waiting := dead } }.nextSwap

/-! ### Step 5: the other sections -/

/-- Solver tables, descriptors and streaming sets (R245, R251, R276, R410). -/
def State.applyTables (s : State) (ct : Content) : State :=
  let s := { s with bse := { s.bse with progs := ct.progs, patterns := ct.patterns, orders := ct.orders, trans := ct.trans } }
  let locked (b : List Byte) : Desc := { bytes := patch b 19 [BitVec.ofNat 8 (setBits (u b 19 1) 2 1 1)] }
  let descs : SMap Desc := ct.descs.foldl (fun m (x : Nat × List Byte) => SMap.insert m x.1 (locked x.2)) []
  let s := { s with dml := { s.dml with descs := descs } }
  ct.streams.foldl (fun s (n, act, shd) =>
    let s := (s.setRegBytes (Reg.DML_SS_ACT n 0) (fit 32 act)).setRegBytes (Reg.DML_SS_SHD n 0) (fit 32 shd)
    (s.addRefs (ssHandles act)).armSet n) s

/-- Sensor slots, templates, switch and CAN tables, and patch paths (R87, R98, R99, R114, R121, R133, R137, R145, R751). -/
def State.applySlots (s : State) (img : List Byte) (ct : Content) : State :=
  let silent (r : List Byte) : Slot := { record := ownFields r false, st := .silent, lastRx := s.now }
  let slots : SMap Slot := (bindings img).foldl (fun m r => SMap.insert m (u r 2 2) (silent r)) []
  let temps : SMap Template :=
    ((records img 0x0008).filter (fun r => u r 0 1 == 2)).foldl (fun m r => SMap.insert m (u r 2 2) (Template.mk r)) []
  let sic : Sic := { s.sic with slots := slots, templates := temps, cam := [], fcu := [], items := [], deferred := [] }
  let sic : Sic := { sic with vrec := sic.vrec.filter (fun p => 256 ≤ p.1), qciFreed := [], canSig := ct.canSig, canFilt := ct.canFilt, can := ct.can }
  let sic : Sic := { sic with sources := sic.sources.map (fun c => { c with waitSlot := false }), paths := ct.paths, ports := ct.ports }
  let sic : Sic := { sic with recov := ct.recov, qci := ct.qci, fdb := ct.fdb, ground := ct.ground, sgates := ct.sgates, seqGen := ct.seqGen }
  let calBefore := s.pae.cal
  let pae : Pae := { s.pae with camExt := ct.camExt, bind := ct.camBind, cal := [] }
  let s := { s with sic := sic, pae := pae, lth := { s.lth with detSum := detMaxSum img } }
  let s := (calBefore.foldl (fun s (p : Nat × Cal) => s.calEvent p.1 p.2.st 0) s).setBit Reg.PAE_CAL_CMD_ST 16 false
  let s := (s.clearRegs (Reg.SIC_SLOTSTAT 0 0) (Reg.SIC_SLOTSTAT 256 0)).clearExp
  let s := ct.csiLanes.foldl (fun s (p : Nat × Nat) => s.setFld (Reg.SIC_CSI_STAT p.1) 0 4 p.2) s
  ct.camBlocks.foldl (fun s (p : Nat × List Byte) => s.setRegBytes (Reg.PAE_CAM p.1 0) (fit 64 p.2)) s

/-- Gates, filters, flocks, schedules, coverage and safety parameters (R349, R378, R398, R451, R462, R475, R566, R578, R588). -/
def State.applyFusion (s : State) (ct : Content) (resume : Bool) : State :=
  let s := ct.gates.foldl (fun s (p : Nat × List Nat) =>
    (List.range 4).foldl (fun s k => s.setReg (Reg.FLD_GATE_MAH p.1 + 4 * k) (BitVec.ofNat 32 (p.2.getD k 0))) s) s
  let s := (List.range ct.filters.length).foldl (fun s f => s.setRegBytes (Reg.FLD_PUB f 0) (fit 32 (ct.filters.getD f []))) s
  let s := s.setFld (Reg.TAC_FLOCK_SEQ 0) 20 2 1
  let s := ct.flocks.foldl (fun s (f, q, lim) => (s.setQuotas f q lim).setFld (Reg.TAC_FLOCK_SEQ f) 20 2 1) s
  let s := s.setReg Reg.CSQ_RING_SLOT_SIZE (BitVec.ofNat 32 ((64 + 132 + 256 + 96 * s.maxRecords 0 + 4095) / 4096))
  let s := { s with
    fld := { s.fld with gates := ct.gates.map (fun (p : Nat × List Nat) => p.1) }
    csq := { s.csq with scheds := ct.scheds, coverage := ct.coverage, source := ct.source }
    saf := { s.saf with swapLevel := ct.swapLevel, windows := ct.windows } }
  let s := s.setFld Reg.SAF_CTRL 0 2 ct.safeMode
  if resume then s.putSched s.csq.sched
  else
    let s := { s with csq := { s.csq with t0 := 0, t0Set := false, change := none, next := 0, pub := none, cur := {}, segs := [] } }
    let s := s.putSched 0
    match ct.t0 with
    | some t => s.setRegBytes (Reg.CSQ_T0 0) (htw t)
    | none => s

/-- The configured values of a gPTP domain (Table 2.2). -/
def GptpDom.configure (g c : GptpDom) : GptpDom :=
  { g with logSync := c.logSync, receipt := c.receipt, clockClass := c.clockClass, extPort := c.extPort }

/-- In a drove the grid covers the device's own pasture: XMIN and YMIN are the pasture's, NX and NY cover its extents in multiples of 64
cells (R173, R176; the rounding up is a DESIGN CHOICE, log entry 29). -/
def State.ownPasture (s : State) : State :=
  match s.slk.pastures.find? (fun x => x.dev == s.devNo) with
  | some x =>
    if s.fld' Reg.SLK_CTRL 1 2 != 2 then s
    else
      let cell : Int := max 1 (s.regN Reg.PAE_GRID_CELL)
      let n (a b : Int) : Nat := 64 * max 1 (min 32 ((b - a + 64 * cell - 1) / (64 * cell)).toNat)
      ((s.setReg Reg.PAE_GRID_SIZE (BitVec.ofNat 32 (n x.xmin x.xmax + 65536 * n x.ymin x.ymax))).setReg Reg.PAE_GRID_XMIN
        (BitVec.ofInt 32 x.xmin)).setReg Reg.PAE_GRID_YMIN (BitVec.ofInt 32 x.ymin)
  | none => s

/-- The time tree, the device's place in its pair or drove, and its links (R71, R602, R619, R623). After a resume a role given before the
reset stays (R618). -/
def State.applyLinks (s : State) (img : List Byte) (ct : Content) : State :=
  let s := { s with tbu := { s.tbu with up := ct.up, down := ct.down, logPdelay := ct.logPdelay, domA := s.tbu.domA.configure ct.domA,
                                        domB := s.tbu.domB.configure ct.domB } }
  let cfg := configOf img
  let role := if s.slk.role != 0 && cfg != 0 then s.slk.role else if cfg == 0 then roleSINGLE else roleFORMING
  let s := { s with slk := { s.slk with role := role, digest := BitVec.ofNat 384 (leNat ((deviceRec img).drop 16).reverse),
                                        pastures := ct.pastures } }
  let s := s.setReg Reg.SLK_DEVNO (BitVec.ofNat 32 (u (deviceRec img) 4 1 + 256 * (ct.dimX - 1) + 4096 * (ct.dimY - 1)))
  let s := s.setFld Reg.SLK_CTRL 1 2 cfg
  let s := s.ownPasture
  ct.peers.foldl (fun s (p : Nat × Nat) => s.setLinkPort p.1 { s.linkPort p.1 with expect := p.2 }) s

/-- Steps 4 and 5 of R507, and the power domains the image uses (Table 16.1). -/
def State.applySections (s : State) (img : List Byte) (ct : Content) (resume : Bool) : State :=
  let was := s.noSource
  let s := (s.applyHurdles ct).applyRegs img resume
  let s := if resume then s else s.resetFold
  let s := s.setBit Reg.TCA_CTRL 0 (spareless img)
  let s := { s with saf := { s.saf with swapLevel := ct.swapLevel } }
  let s := (s.placeTiles ct (spareless img)).loadTiles ct
  let s := (s.applyTables ct).applySlots img ct
  let s := (((s.applyFusion ct resume).applyLinks img ct).followSource was).refreshDoms
  let s := { s with lth := { s.lth with blobs := (records img 0x000B).map (fun r => (u r 0 8, u r 8 8)) } }
  s.swapDead ct

/-- LTH enters APPLIED: the domains the image uses are powered, and the RWL registers are locked (Table 0.4, Table 16.1). -/
def State.enterApplied (s : State) : State :=
  let s := s.setReg Reg.LTH_STATE 3
  let s := { s with lth := { s.lth with rwl := true } }
  (s.setDomains (s.idleDomains ++ s.tileDomains)).pllStops

/-- Phase 8 of a load (R507, R678): FCLK is set first; step 3 works on the tables where the new image places them (log entry 25). -/
def State.applyImage (s : State) (img : List Byte) (ct : Content) : State :=
  let s := ((s.setReg Reg.LTH_STATE 2).discardWork).clearDescs
  let s := { s with slk := { s.slk with role := 0 }, lth := { s.lth with fclk := fclk img } }
  let s := (List.range 4).foldl (fun s k => s.setReg (Reg.CSQ_T0 k) 0) s
  let s := s.applySections img ct false
  let s := s.emptyRings
  let s := { s with lth := { s.lth with half := !s.lth.half, applied := img, img := [] } }
  s.enterApplied

/-! ### The rows -/

/-- Phases 2 to 8 of a load (R489 to R509). -/
def State.runLoad (s : State) : State :=
  let img := s.lth.img
  let phase (s : State) (p : Nat) : State := s.setFld Reg.LTH_CMD_ST 8 4 p
  let stop (s : State) (p : Nat) (f : Fail) : State := (phase s p).loadStop (reasonStatus f.1) (some f)
  match s.retainedRead s.stagingBase img.length with
  | (false, s) => (phase s 2).loadStop BUS_ERROR_UNCORRECTABLE none
  | (true, s) =>
    match s.headCheck img with
    | some f => stop s 2 f
    | none =>
      match s.authCheck img with
      | some f => stop s 3 f
      | none =>
        match s.decrypted img with
        | none => stop s 4 (0x0014, none)
        | some img =>
          let ct := Config.content img
          let s := s.setReg Reg.LTH_SKIPPED (BitVec.ofNat 32 (skipped img))
          match bodyCheck img ct (Config.cycleTable s.part.stepping) with
          | some f => stop s 5 f
          | none =>
            match s.weightsFrom 0 (records img 0x000B) with
            | (.error e, s) => (phase s 6).loadStop e none
            | (.ok (some k), s) => stop s 6 (0x0015, some k)
            | (.ok none, s) =>
              match s.fitCheck img ct with
              | some f => stop s 7 f
              | none =>
                let s := phase s 8
                match s.retainedRead s.stagingBase img.length with
                | (false, s) =>
                  let s := { s.loadStop BUS_ERROR_UNCORRECTABLE none with saf := { s.saf with built := true, rules := [] } }
                  { s.setReg Reg.LTH_STATE 0 with lth := { s.lth with applied := [], blobs := [] }, fld := { s.fld with gates := [] } }
                | (true, s) =>
                  (((s.applyImage img ct).setReg Reg.LTH_REASON 0).countSat Reg.LTH_LOAD_CNT 0 16 1).lthDone DONE

/-- LOAD_END: the load in progress has run its phases (R489, R491). -/
def State.loadEnd (s : State) : State := if s.lthState == 1 then s.runLoad else s

/-- LOAD_END row (R489). -/
def execLoadEnd (s : State) : Host.Outcome State Fault Refusal := .next s.loadEnd

/-- ABORT: ends a load in phases 1 to 7, and is otherwise ignored (R490). -/
def State.doAbort (s : State) : State := if s.lthState == 1 then s.loadStop REFUSED_STATE (some (0x0000, some 0)) else s

/-- ABORT row (R490): a host write of LTH_CMD. -/
def execAbort (s : State) : Host.Outcome State Fault Refusal := .next (s.hostCmd Reg.LTH_CMD State.doAbort)

/-- RB_ADVANCE: refused unless APPLIED; with nothing to burn it completes at once (R497). -/
def State.doRbAdvance (s : State) : State :=
  s.unlessBusy Reg.LTH_CMD_ST 16 (fun s =>
    if s.lthState != 3 then s.status Reg.LTH_CMD_ST REFUSED_STATE
    else if rollbackOf s.lth.applied ≤ s.sec.otp.rollback then s.lthDone DONE
    else { s with lth := { s.lth with busyOp := 3 } }.setBit Reg.LTH_CMD_ST 16 true)

/-- RB_ADVANCE row (R497): a host write of LTH_CMD. -/
def execRbAdvance (s : State) : Host.Outcome State Fault Refusal := .next (s.hostCmd Reg.LTH_CMD State.doRbAdvance)

/-- The last pair of fuses is burned: the counter holds the ROLLBACK of the applied image (R497). -/
def State.rbDone (s : State) : State :=
  if s.lth.busyOp != 3 then s
  else { s with sec := { s.sec with otp := { s.sec.otp with rollback := max s.sec.otp.rollback (rollbackOf s.lth.applied) } } }.lthDone DONE

/-- RB_ADVANCE_DONE row (R497). -/
def execRbAdvanceDone (s : State) : Host.Outcome State Fault Refusal := .next s.rbDone

/-- No image is applied: tiles off, tiles 32 and 33 SPARE again, the built-in rules in force (R242, R510, R757). -/
def State.toNone (s : State) : State :=
  let s := { s with tca := { s.tca with tiles := s.tilesFresh, swap := none, waiting := [], subst := [], short := [] } }
  let s := (List.range 34).foldl (fun s t => s.setPower t false) s
  let s := { s with mem := memZero s.mem 0 tileEnd, saf := { s.saf with built := true, rules := [] },
                    lth := { s.lth with applied := [], blobs := [], detSum := 0 } }
  let s := s.setReg Reg.LTH_STATE 0
  (s.setDomains s.idleDomains).pllStops

/-- UNLOAD: in APPLIED with the cycle stopped (R510). -/
def State.doUnload (s : State) : State :=
  s.unlessBusy Reg.LTH_CMD_ST 16 (fun s =>
    if s.lthState != 3 || s.bit Reg.CSQ_STATUS 0 then s.status Reg.LTH_CMD_ST REFUSED_STATE
    else ((((s.discardWork).clearDescs).resetFold).emptyRings.toNone).lthDone DONE)

/-- UNLOAD row (R510): a host write of LTH_CMD. -/
def execUnload (s : State) : Host.Outcome State Fault Refusal := .next (s.hostCmd Reg.LTH_CMD State.doUnload)

/-- The resume fails: no image is applied (R511). -/
def State.resumeFail (s : State) : State :=
  let s := ({ s with saf := { s.saf with rsPhase := 0 } }.toNone).event 0x0C 3 0x0C01 REFUSED_AUTH []
  (s.putReason (some (0x0015, none))).lthDone REFUSED_AUTH

/-- After the reset has filled on-die memory, LTH verifies the applied half and the weights and re-applies the image (R511, R588). -/
def State.resume (s : State) : State :=
  if s.lthState != 4 || !s.bit Reg.MEM_FILL_ST 0 then s
  else
    let img := s.lth.applied
    match s.retainedRead s.appliedBase img.length with
    | (false, s) => s.resumeFail
    | (true, s) =>
      match s.weightsFrom 0 (records img 0x000B) with
      | (.ok none, s) =>
        let s := (s.clearDescs).applySections img (Config.content img) true
        let s := (s.tacRebuild.foldResume).enterApplied
        let s := s.lthDone DONE
        if s.saf.rsPhase == 2 then { s with saf := { s.saf with rsPhase := 3 } }.doRun else s
      | (_, s) => s.resumeFail

/-- RESUME_DONE row (R511). -/
def execResumeDone (s : State) : Host.Outcome State Fault Refusal := .next s.resume

end Sys2Proof.Machine
end

