-- ==== Sys2Proof/Machine/Integrity.lean ====
section
/-! DEFINITION. Machine/Integrity.lean: the scrubbers, the lap target, retirement, injection and the crossing FIFOs (12_memory_integrity.md).
Corrections and write-backs are one step here, so that no write comes between them and R530 discards none. -/

namespace Sys2Proof.Machine

/-- MEM lies in domain 99 (Table 16.1). -/
def State.memOn (s : State) : Bool := s.powered 99

/-! ### Filling (R535, R536, R658) -/

/-- The SRAM fill ends: a DRAM that holds data is ready too; otherwise its key is drawn and its fill begins. -/
def State.sramFilled (s : State) : State :=
  let s := s.setBit Reg.MEM_FILL_ST 0 true
  if s.msys.keyed && !s.sec.refill then s.setBit Reg.MEM_FILL_ST 1 true
  else s.newDramKey

/-- The DRAM fill ends; its time is a free value (log entry 6). -/
def State.dramFilled (s : State) : State :=
  let (v, s) := s.draw
  ({ s with sec := { s.sec with refill := false } }.setBit Reg.MEM_FILL_ST 1 true).setFld Reg.MEM_FILL_ST 16 16 v

/-- Fills complete. -/
def State.memFill (s : State) (sram dram : Bool) : State :=
  if !s.memOn then s
  else
    let s := if sram && !s.bit Reg.MEM_FILL_ST 0 then s.sramFilled else s
    if dram && s.sec.refill && s.msys.keyed then s.dramFilled else s

/-- MEM_FILL_DONE row (R535). -/
def execMemFillDone (sram dram : Bool) (s : State) : Host.Outcome State Fault Refusal := .next (s.memFill sram dram)

/-! ### The scrubbers (R537 to R541) -/

/-- Rows of an SRAM array, and its spare rows (Table 12.1). -/
def arrayRows (a : Nat) : Nat := if a < 34 then 128 else if a == 34 then 4096 else if a == 35 then 512 else 256
def arraySpares (a : Nat) : Nat := if a < 34 then 2 else if a == 34 then 64 else if a == 35 then 8 else 4

/-- DRAM lines, check lines included (R525). -/
abbrev dramLines : Nat := 0x20000000 + 0x4000000

/-- What one lap reads: every DRAM line and every row of arrays 0 to 37. -/
def lapUnits : Nat := dramLines + 34 * 128 + 4096 + 512 + 256 + 256

/-- A location that the MEM scrubber reads: not retired, and in an array it reaches (R537, R541). -/
def State.scrubs (s : State) : MemLoc → Option (Nat × Nat)
  | .dram line => if decide (line < dramLines) && !s.retiredAt (dramBase + 64 * line) 64 then some (39, line) else none
  | .sram array off =>
    if array ≤ 37 && decide (off < arrayRows array * 8192) &&
       !s.msys.retired.any (fun e => bits e 62 2 == 2 && bits e 40 8 == array && bits e 0 12 == off / 8192) then some (array, off) else none

/-- The lap target in force changes, with its event (R540). -/
def State.lapTarget (s : State) (v code sev : Nat) : State :=
  if v == s.regN Reg.MEM_SCRUB_TARGET then s
  else (s.setReg Reg.MEM_SCRUB_TARGET (BitVec.ofNat 32 v)).event 0x0D sev code 0 []

/-- One unit of a lap is done; at the last, the lap is complete (R538, R540). -/
def State.lapUnit (s : State) : State :=
  if s.msys.pos + 1 < lapUnits then { s with msys := { s.msys with pos := s.msys.pos + 1 } }
  else
    let s := (s.setReg Reg.MEM_SKIM_LAST (BitVec.ofNat 32 ((s.now - s.msys.lapFrom) / secT))).countWrap Reg.MEM_SKIM_CNT 0 32 1
    let quiet := s.bit Reg.MEM_CTRL 1 && !s.msys.exceeded
    let s := { s with msys := { s.msys with pos := 0, lapFrom := s.now, exceeded := false } }
    if quiet then s.lapTarget (min (s.regN Reg.MEM_SCRUB_LAP) (4 * s.regN Reg.MEM_SCRUB_TARGET)) 0x0D04 0 else s

/-- What a scrubber read finds: nothing, a corrected error, or an uncorrectable one (R529, R531). -/
def State.scrubFinds (s : State) (id array loc n : Nat) : State :=
  if n = 0 then s
  else
    let s := if s.isInjected array loc then s.countSat Reg.MEM_INJ_CNT 0 32 1 else s
    if correctable array n then s.corrected id array loc 4 else s.uncorrectable id array loc 4

/-- A read of the MEM scrubber (R537 to R541). -/
def State.scrub (s : State) (l : MemLoc) : State :=
  if !s.memOn || !s.bit Reg.MEM_CTRL 0 then s
  else
    match s.scrubs l with
    | none => s
    | some (a, n) => (s.scrubFinds idScrub a n (s.damageAt a n)).lapUnit

/-- SCRUB_READ row (R538). -/
def execScrubRead (loc : MemLoc) (s : State) : Host.Outcome State Fault Refusal := .next (s.scrub loc)

/-- The island's own scrubber reads a byte of island SRAM and passes what it finds to MEM (R537). -/
def State.islandScrub (s : State) (off n : Nat) : State :=
  if !s.islandOn || decide (0x200000 ≤ off) then s else s.scrubFinds idIslA 38 off n

/-- ISLAND_SCRUB_READ row (R537). -/
def execIslandScrubRead (offset bits : Nat) (s : State) : Host.Outcome State Fault Refusal := .next (s.islandScrub offset bits)

/-- A 60 s period of corrected errors ends (R540). -/
def State.adaptPeriod (s : State) : State :=
  if !s.memOn then s
  else
    let s := s.reach (s.msys.at60 + 60 * secT)
    let n := s.msys.ce60
    let s := { s with msys := { s.msys with ce60 := 0, at60 := s.now } }
    if s.bit Reg.MEM_CTRL 1 && decide (s.fld' Reg.MEM_SCRUB_ADAPT 0 16 < n) then
      ({ s with msys := { s.msys with exceeded := true } }).lapTarget (max 10 (s.regN Reg.MEM_SCRUB_TARGET / 4)) 0x0D03 1
    else s

/-- SCRUB_ADAPT_PERIOD row (R540). -/
def execScrubAdaptPeriod (s : State) : Host.Outcome State Fault Refusal := .next s.adaptPeriod

/-- A second ends: corrected errors in it are reported (R543). -/
def State.ceReport (s : State) : State :=
  if !s.memOn then s
  else
    let s := s.reach (s.msys.at1 + secT)
    let n := s.msys.ce1
    let s := { s with msys := { s.msys with ce1 := 0, at1 := s.now } }
    if n = 0 then s else s.event 0x0D 0 0x0D01 0 (leBytes 4 n)

/-- CE_RATE_REPORT row (R543). -/
def execCeRateReport (s : State) : Host.Outcome State Fault Refusal := .next s.ceReport

/-! ### Retirement (R544 to R546) -/

/-- Free spare rows of an array (MEM_SPARE_FREE). -/
def State.sparesFree (s : State) (a : Nat) : Nat :=
  arraySpares a - (s.msys.retired.filter (fun e => bits e 62 2 == 2 && bits e 40 8 == a)).length

/-- The form of a retirement entry (R546, Table 12.4). -/
def retireForm (e : Nat) : Bool :=
  bits e 48 14 == 0 &&
  (match bits e 62 2 with
   | 1 => decide (dramBase ≤ bits e 12 36 * 4096) && decide (bits e 12 36 * 4096 ≤ dramLast) && bits e 0 12 == 0
   | 2 => bits e 12 28 == 0 && bits e 40 8 ≤ 37 && decide (bits e 0 12 < arrayRows (bits e 40 8))
   | 3 => bits e 12 36 == 0 && bits e 8 4 == 0
   | _ => false)

/-- The code an ADD is answered with (R40, R545, R546). -/
def State.retireCode (s : State) (e : Nat) : Nat :=
  let kind := bits e 62 2
  if s.msys.retired.contains e then DONE
  else topCode (
    (if retireForm e then [] else [REFUSED_DESCRIPTOR]) ++
    (if (kind == 2 || kind == 3) && s.lthState != 0 then [REFUSED_STATE] else []) ++
    (if kind == 2 && s.sparesFree (bits e 40 8) == 0 then [REFUSED_FIT] else []) ++
    (if kind == 3 && bits e 4 4 == 15 then [REFUSED_FIT] else []) ++
    (if 1024 ≤ s.msys.retired.length then [REFUSED_FIT] else []))

/-- A row's addresses lead to a spare row filled with zero (R545). -/
def State.swapRow (s : State) (a row : Nat) : State :=
  let base := if a < 34 then a * 0x100000 + row * 8192 else cacheBase + row * 8192
  let s := if a ≤ 34 then s.zero base 8192 else s
  { s with msys := { s.msys with damage := s.msys.damage.filter (fun d => !(d.array == a && d.loc / 8192 == row)) } }

/-- A page lies in a region of the applied image (R545). -/
def State.inUse (s : State) (page : Nat) : Bool := s.content.regions.any (fun (r : Nat × Nat) => overlaps r.1 r.2 page 4096)

/-- ADD from staging (R544 to R546, R553). -/
def State.doRetire (s : State) : State :=
  s.unlessBusy Reg.MEM_RET_ST 16 (fun s =>
    let e := s.reg64 Reg.MEM_RET_STAGE_LO
    let c := s.retireCode e
    if c != DONE || s.msys.retired.contains e then s.status Reg.MEM_RET_ST c
    else
      let s := { s with msys := { s.msys with retired := s.msys.retired ++ [e] } }.countWrap Reg.MEM_RET_CNT 0 11 1
      let s := if bits e 62 2 == 2 then s.swapRow (bits e 40 8) (bits e 0 12) else s
      let s := if bits e 62 2 == 1 && s.inUse (bits e 12 36 * 4096) then s.event 0x0D 2 0x0D05 0 [] else s
      s.status Reg.MEM_RET_ST DONE)

/-- RETIRE_ADD row (R544): a host write of MEM_RET_CMD. -/
def execRetireAdd (s : State) : Host.Outcome State Fault Refusal := .next (s.hostCmd Reg.MEM_RET_CMD State.doRetire)

/-! ### Injection (R554) -/

/-- Arm an injection at MEM_INJ_ADDR: the damage must be one its memory can take. -/
def State.doMemInject (s : State) (w : W32) : State :=
  let a := s.regN Reg.MEM_INJ_ADDR_LO + 2 ^ 32 * s.fld' Reg.MEM_INJ_ADDR_HI 0 16
  let n := fieldOf w 1 3
  let dram := w.getLsbD 0
  let fits := if dram then 1 ≤ n && decide (dramBase ≤ a) else 1 ≤ n && n ≤ 2 && decide (a < dramBase)
  if s.feat 9 && w.getLsbD 8 && fits && (hurdleOf a).isSome then { s with msys := { s.msys with inj := some (w.toNat, a) } } else s

/-- MEM_INJECT row (R554): a host write of MEM_INJECT. -/
def execMemInject (w : W32) (s : State) : Host.Outcome State Fault Refusal := .next (s.hostAccess .write Reg.MEM_INJECT (fun s => s.doMemInject w))

/-! ### Crossing FIFOs (R547 to R551) -/

/-- The power domain of a FIFO's writer (Table 12.5). -/
def fifoDomain : FifoId → Nat
  | .publish => 99
  | .sicCsi p => 58 + p
  | .sicEth q => 70 + q
  | .sicCan _ => 94
  | .sicImu _ => 94
  | _ => 88

/-- The frames a camera port is receiving are dropped (R86, Table 12.5). -/
def State.portOverrun (s : State) (p : Nat) : State :=
  (List.range 16).foldl (fun s c => (s.vc p c).frames.foldl (fun s f => if f.dropped then s else s.overrun p c f.slot) s) s

/-- A writer writes a word; OVERFLOW at a camera port is an overrun (R548, R550, R86). -/
def State.fifoWrite (s : State) (f : FifoId) (w : W64) : State :=
  if !s.powered (fifoDomain f) then s
  else
    let full := (s.fifo (FifoId.num f)).full
    let s := s.fifoPut (FifoId.num f) w
    match f with
    | .sicCsi p => if full then s.portOverrun p else s
    | _ => s

/-- FIFO_WRITE row (R547). -/
def execFifoWrite (f : FifoId) (w : W64) (s : State) : Host.Outcome State Fault Refusal := .next (s.fifoWrite f w)

/-- FIFO_FLUSH row (R548). -/
def execFifoFlush (f : FifoId) (s : State) : Host.Outcome State Fault Refusal :=
  .next (if s.powered (fifoDomain f) then s.fifoFlush (FifoId.num f) else s)

/-- The reader of a FIFO (Tables 1.4, 3.1, 12.5). -/
def fifoReader : FifoId → Nat
  | .mboxVerdict => idCsq
  | .mboxObserve => idIslA
  | .mboxFcu => idIslB
  | .mboxMotion => idIslB
  | .mboxPartner => idIslB
  | .publish => idHost
  | .sicCsi p => 0x070 + p
  | .sicEth _ => 0x07C
  | .sicCan n => if n == 3 then idIslB else 0x07D
  | .sicImu _ => 0x07D

/-- The reader of a FIFO takes a word (R548 to R550); the Publish FIFO's reader is the host. -/
def State.fifoRead (s : State) (f : FifoId) : State :=
  match f with
  | .publish => s.hostAccessN .read Reg.CSQ_PF_DATA 8 (fun s => s.pfRead true)
  | f =>
    if !s.powered (fifoDomain f) then s
    else
      let id := fifoReader f
      match s.fifoGet (FifoId.num f) id with
      | (.ok w, s) => s.emit (.bus id DONE (leBytes 8 w.toNat))
      | (.error e, s) => s.emit (.bus id e [])

/-- FIFO_READ row (R550). -/
def execFifoRead (f : FifoId) (s : State) : Host.Outcome State Fault Refusal := .next (s.fifoRead f)

end Sys2Proof.Machine
end

