-- ==== Sys2Proof/Machine/SecOps.lean ====
section
/-! DEFINITION. Machine/SecOps.lean: what SEC judges and burns (15_security.md): lifecycle, signed records, provisioning and key blobs.
Readings the chapter leaves open are in log entry 26. -/

namespace Sys2Proof.Machine

/-- The lifecycle state (Table 15.2). -/
def State.life (s : State) : Nat := s.sec.otp.life

/-- Change the fuses. -/
def State.setOtp (s : State) (o : Otp) : State := { s with sec := { s.sec with otp := o } }

/-- The SERIAL field of a record names this device. -/
def State.serialIs (s : State) (b : List Byte) : Bool := u b 8 8 == s.part.serial.toNat

/-- The unrevoked signer slot whose key signed, with a usage bit (R636). -/
def State.signerSlot (s : State) (pub : List Byte) (usage : Nat) : Option Nat :=
  (List.find? (fun (p : Nat × Signer) => p.2.digest == sha384 pub && !p.2.revoked && p.2.usage.getLsbD usage) s.sec.otp.signers).map (·.1)

/-- Event 0x0F02, at most one per second (Table 15.11). -/
def State.secRefusal (s : State) (kind status : Nat) : State :=
  if dueAfter s.sec.log02 secT s.now then
    { s with sec := { s.sec with log02 := some s.now } }.event 0x0F 2 0x0F02 status [BitVec.ofNat 8 kind, BitVec.ofNat 8 status]
  else s

/-- Event 0x0F06 after a change of the fuses. -/
def State.lifeEvent (s : State) (old : Nat) : State :=
  s.event 0x0F 3 0x0F06 0 [BitVec.ofNat 8 old, BitVec.ofNat 8 s.life, BitVec.ofNat 8 s.sec.otp.lockGen]

/-- The KEK of lock generation g: HKDF-SHA-384 of the PUF secret with g as salt (R638). -/
def Otp.kek (o : Otp) (g : Nat) : List Byte := hkdf256 (fit 32 (Config.pufSecret o.pufHelper)) [BitVec.ofNat 8 g] []

/-- ID_WRAPn as the fuses hold it: the identity key of generation n wrapped under the KEK of its lock generation, or blank (Table 15.1, R646,
R647). Only that KEK unwraps it. -/
def Otp.idWrap (o : Otp) (n : Nat) : List Byte :=
  match SMap.find? o.idWraps n with
  | some v => aesWrap (o.kek (2 * n)) (beBytes 48 (privOf v))
  | none => List.replicate 56 0

/-- The identity public key in SEC_ID_PUB0 to 23, big-endian (R646). -/
def State.showIdentity (s : State) : State :=
  match s.sec.ident with
  | none => s
  | some k =>
    let b := pubOf (privOf k)
    (List.range 24).foldl (fun s j => s.setReg (Reg.SEC_ID_PUB j) (BitVec.ofNat 32 (leNat ((b.drop (4 * j)).take 4).reverse))) s

/-- Draw a new identity and write its ID_WRAP of a generation (R646, R647). -/
def State.newIdentity (s : State) (gen : Nat) : State :=
  let (v, s) := s.draw
  let s := s.setOtp { s.sec.otp with idWraps := SMap.insert s.sec.otp.idWraps gen v }
  { s with sec := { s.sec with ident := some v, kek := true } }.showIdentity

/-! ### The challenge and the keys (R643, R657) -/

/-- SEC_CHAL as bytes. -/
def State.chalBytes (s : State) : List Byte := s.regBytes (Reg.SEC_CHAL 0) 8

/-- The challenge is used up. -/
def State.useChallenge (s : State) : State :=
  { (List.range 8).foldl (fun s j => s.setReg (Reg.SEC_CHAL j) 0) s with sec := { s.sec with challenge := false } }

/-- Zeroisation of key RAM, the DRBG state and the challenge (R657); associations bound to the lost keys go with them (log entry 26). -/
def State.zeroiseKeys (s : State) : State :=
  let s := s.useChallenge
  { s with sec := { s.sec with keys := [], kek := false, ident := none, assocs := [], txAn := [] } }

/-- Zeroisation without a reset (R658): the cycle stops, LTH enters NONE, the event log is off, and DRAM is filled again under a new key. -/
def State.zeroiseLive (s : State) : State :=
  let s := s.zeroiseKeys.doStop
  let s := { s with csq := { s.csq with cur := { s.csq.cur with active := false }, segs := [] } }.cycleStopped
  let s := if s.lth.busyOp != 0 then s.lthDone REFUSED_STATE else s
  let s := if s.lthState == 0 then s else (((s.discardWork).clearDescs).resetFold).toNone
  let s := s.setEvtEn false
  { (s.setBit Reg.MEM_FILL_ST 1 false).newDramKey with
    mem := s.mem.filter (fun p => decide (p.1 < dramBase))
    lth := { s.lth with img := [], applied := [], blobs := [] } }

/-! ### Signed records (R643 to R645, R647) -/

/-- Signers left with ADMIN when a slot is revoked. -/
def State.adminsWithout (s : State) (k : Nat) : Nat :=
  (s.sec.otp.signers.filter (fun (p : Nat × Signer) => p.1 != k && !p.2.revoked && p.2.usage.getLsbD 3)).length

/-- Every refusal that applies to a signed record, DONE with none: the highest is reported (R40, R635, R643 to R647, R654, R703). -/
def State.signedCode (s : State) (b : List Byte) : Nat :=
  let op := u b 4 1
  let arg := u b 48 1
  let pub := (b.drop 64).take 96
  let who := s.signerSlot pub (if op == 1 then 2 else 3)
  let form := u b 0 4 == 0x48434D31 && allZero b 5 3 && 1 ≤ op && op ≤ 3 && (op != 3 || allZero b 48 16) && (op != 2 || arg ≤ 7)
  let auth := s.serialIs b && s.sec.challenge && (b.drop 16).take 32 == s.chalBytes && who.isSome && (op != 1 || s.life == 1) &&
    ecdsaVerify pub (sha384 (b.take 64)) ((b.drop 160).take 96) && (op != 1 || arg ≤ s.sec.otp.debugCeil)
  let st := match op with
    | 1 => s.feat 17 || arg ≤ 1
    | 2 => s.life == 1 && s.adminsWithout arg != 0 && who != some arg
    | _ => s.life == 2 && s.aon.bootSel == 1 && !s.sec.trngFail
  topCode ((if form then [] else [REFUSED_DESCRIPTOR]) ++ (if auth then [] else [REFUSED_AUTH]) ++ (if st then [] else [REFUSED_STATE]))

/-- UNLOCK opens a debug level; level 2 or 3 zeroises first and holds FORCE at L0 (R654, R655). -/
def State.unlock (s : State) (level slot : Nat) : State :=
  let s := if 2 ≤ level then
      { (s.zeroiseLive.setReg Reg.SAF_FORCE 0).setCond 9 true with sec := { s.zeroiseLive.sec with debugForce := true } }
    else s
  { s with sec := { s.sec with debug := max s.sec.debug level } }.event 0x0F 3 0x0F03 0 [BitVec.ofNat 8 level, BitVec.ofNat 8 slot]

/-- REVOKE burns the revocation fuse of a slot (R645). -/
def State.revokeSlot (s : State) (k : Nat) : State :=
  let o := s.sec.otp
  (s.setOtp { o with signers := o.signers.map (fun (p : Nat × Signer) => if p.1 == k then (k, { p.2 with revoked := true }) else p) }).event 0x0F 3
    0x0F04 0 [BitVec.ofNat 8 k]

/-- Re-provision: the next LOCK_GEN fuse, a new KEK and a new identity; the device is OWNED (R647). -/
def State.reprov (s : State) : State :=
  let old := s.life
  let g := s.sec.otp.lockGen + 1
  ((s.setOtp { s.sec.otp with lockGen := g }).newIdentity (g / 2)).lifeEvent old

/-- A signed record is judged and carried out; the challenge is used up whatever comes of it (R643). -/
def State.signedRun (s : State) (b : List Byte) : Nat × State :=
  let c := s.signedCode b
  let who := s.signerSlot ((b.drop 64).take 96) 2
  let s := s.useChallenge
  if c != DONE then (c, s)
  else
    (DONE, match u b 4 1 with
      | 1 => s.unlock (u b 48 1) (who.getD 0)
      | 2 => s.revokeSlot (u b 48 1)
      | _ => s.reprov)

/-! ### Provisioning (R646) -/

/-- Signer entry k of a provision record: digest, and the usage byte. -/
def provDigest (b : List Byte) (k : Nat) : Nat := leNat ((b.drop (4 + 49 * k)).take 48).reverse
def provUsage (b : List Byte) (k : Nat) : Nat := u b (4 + 49 * k + 48) 1

/-- The signers a provision record names. -/
def provSigners (b : List Byte) : SMap Signer :=
  ((List.range 8).filter (fun k => provUsage b k != 0)).map (fun k =>
    (k, ({ digest := BitVec.ofNat 384 (provDigest b k), usage := BitVec.ofNat 4 (provUsage b k) } : Signer)))

/-- The status of an unsigned PROVISION (R646, R647). -/
def State.provCode (s : State) (b : List Byte) : Nat :=
  let use (bit : Nat) : Bool := (List.range 8).any (fun k => bits (provUsage b k) bit 1 == 1)
  let form := u b 0 4 == 0x48505631 && (List.range 8).all (fun k => provUsage b k ≤ 15 && (provUsage b k != 0 || provDigest b k == 0)) &&
    u b 396 2 < 4096 && u b 398 1 ≤ 3 && allZero b 399 113 && use 3 && use 0
  topCode ((if form then [] else [REFUSED_DESCRIPTOR]) ++
    (if s.life == 0 && s.aon.bootSel == 1 && !s.sec.trngFail then [] else [REFUSED_STATE]))

/-- PROVISION of a BLANK device. -/
def State.provRun (s : State) (b : List Byte) : Nat × State :=
  let c := s.provCode b
  if c != DONE then (c, s)
  else
    let s := s.newIdentity 0
    let o := { s.sec.otp with owned := true, signers := provSigners b, floors := BitVec.ofNat 12 (u b 396 2), debugCeil := u b 398 1 }
    (DONE, (s.setOtp o).lifeEvent 0)

/-! ### Importing keys (R649 to R651) -/

/-- The kind of a numbered slot (Table 15.4). -/
def slotKind (n : Nat) : Nat := if n < 16 then 1 else 2

/-- Plain content of a key blob; none when its tag fails (R650). -/
def State.blobPlain (s : State) (b : List Byte) : Option (List Byte) :=
  (blobKey (privOf (s.sec.ident.getD 0)) ((b.drop 24).take 96) s.part.serial (b.take 24)).bind (fun key =>
    gcmOpen key ((b.drop 120).take 12) (b.take 24) ((b.drop 132).take 48) ((b.drop 180).take 16))

/-- Every refusal that applies to a key blob (R40, R635, R640, R649 to R651). -/
def State.importCode (s : State) (b : List Byte) : Nat :=
  let n := u b 6 2
  let pub := (b.drop 224).take 96
  let form := u b 0 4 == 0x484B5931 && u b 4 1 == 1 && n ≤ 255 && u b 5 1 == slotKind n && allZero b 196 28 && allZero b 416 96
  let auth := s.life == 1 && (s.signerSlot pub 1).isSome && ecdsaVerify pub (sha384 (b.take 224)) ((b.drop 320).take 96) &&
    s.serialIs b && (allZero b 16 8 || (b.drop 16).take 8 == s.regBytes Reg.SEC_BOOT_NONCE_LO 2) && (s.blobPlain b).isSome
  let st := s.sec.kek && s.sec.ident.isSome && !(slotKind n == 1 && (s.lthState == 1 || s.lthState == 4)) &&
    !s.sec.assocs.any (fun a => a.slot == n)
  topCode ((if form then [] else [REFUSED_DESCRIPTOR]) ++ (if auth then [] else [REFUSED_AUTH]) ++ (if st then [] else [REFUSED_STATE]))

/-- IMPORT of a blob. -/
def State.importRun (s : State) (b : List Byte) : Nat × State :=
  let c := s.importCode b
  if c != DONE then (c, s)
  else (DONE, { s with sec := { s.sec with keys := SMap.insert s.sec.keys (u b 6 2) (fit 64 (fit 48 ((s.blobPlain b).getD []))) } })

/-! ### Attestation (R663) -/

/-- LTH_DIGEST of the applied image; zero with none (R519, R663). -/
def State.digestOf (s : State) : List Byte :=
  if s.lth.applied.isEmpty then List.replicate 48 0
  else digestBytes (sha384 s.lth.applied)

/-- The report of ATTEST, signed by the identity key with a drawn per-message secret. -/
def State.attestBytes (s : State) (ident k : Nat) : List Byte :=
  let b := leBytes 4 0x48415431 ++ leBytes 1 s.life ++ leBytes 1 s.sec.debug ++ leBytes 1 s.sec.otp.rollback ++ [0] ++ leBytes 8 s.part.serial.toNat ++
    htw s.now ++ s.regBytes (Reg.SEC_NONCE 0) 8 ++ s.digestOf
  let b := fit 160 b
  b ++ ecdsaSign (privOf ident) k (sha384 b)

/-- Address in SEC_SRC. -/
def State.secSrc (s : State) : Nat := s.regN Reg.SEC_SRC_LO + 2 ^ 32 * s.fld' Reg.SEC_SRC_HI 0 16

/-- ATTEST: refused without the identity key (R640, R658, R663). -/
def State.attestRun (s : State) : Nat × State :=
  match s.sec.ident with
  | some v =>
    if !s.sec.kek then (REFUSED_STATE, s)
    else
      let (k, s) := s.draw
      s.busWrite idSec s.secSrc (s.attestBytes v k)
  | none => (REFUSED_STATE, s)

/-! ### An interrupted burn (R497, R648, R659) -/

/-- How far a burn in progress had come when a reset or a loss of power ended it is a free value (log entry 6). -/
def State.cutBurn (s : State) : State :=
  let (v, s) := s.draw
  let o := s.sec.otp
  let s := if s.lth.busyOp == 3 then
      let top := max o.rollback (rollbackOf s.lth.applied)
      s.setOtp { o with rollback := o.rollback + v % (top - o.rollback + 1) }
    else s
  match s.sec.busy with
  | some b =>
    if b.err.isSome || b.void then s
    else if b.op == 8 && s.provCode b.bytes == DONE then
      (match v % 3 with
       | 0 => s
       | 1 => s.setOtp { s.sec.otp with signers := provSigners b.bytes }
       | _ => (s.provRun b.bytes).2)
    else if b.op == 7 && u b.bytes 4 1 != 1 && s.signedCode b.bytes == DONE then
      (match v % 3 with
       | 0 => s
       | 1 => if u b.bytes 4 1 == 3 then s.setOtp { s.sec.otp with lockGen := s.sec.otp.lockGen + 1 } else s
       | _ => (s.signedRun b.bytes).2)
    else s
  | none => s

/-- The fuses are partly burned (R648). -/
def Otp.broken (o : Otp) : Bool :=
  if o.owned then (o.idWraps.map (·.1)) != List.range (o.lockGen / 2 + 1) else !o.signers.isEmpty || !o.idWraps.isEmpty || o.lockGen != 0

end Sys2Proof.Machine
end

