-- ==== Sys2Proof/Machine/Boot.lean ====
section
/-! DEFINITION. Machine/Boot.lean: what a power-on reset and a warm reset lead to: the pins, the domains, the boot steps of Table 15.3 and the
findings of the power-on BIST (15_security.md, 16_power_clocks_startup.md; log entry 27). -/

namespace Sys2Proof.Machine

/-- The pins after a reset: FLT_N low, PPS_OUT low, and after a power-on reset HB_OUT low and WAKE_N released (R676; 0 PPS_OUT, 1 FLT_N,
2 HB_OUT, 3 WAKE_N). -/
def State.resetPins (s old : State) (cold : Bool) : State :=
  let s := { s with saf := { s.saf with fltLow := true, hb := old.saf.hb && !cold } }.setBit Reg.SAF_STATUS 3 true
  let s := if old.saf.fltLow then s else s.emit (.pin 1 false)
  let s := if old.tbu.ppsHigh then s.emit (.pin 0 false) else s
  let s := if cold && old.saf.hb then s.emit (.pin 2 false) else s
  if cold && old.aon.wakeLow then s.emit (.pin 3 true) else s

/-- A power-on reset as every cause brings it about: a burn in progress is cut, and the pins return to reset. -/
def State.coldReset (s : State) (pin : Bool) (cause : Nat) : State :=
  let s := s.cutBurn
  (s.powerOn pin cause).resetPins s true

/-- The domains powered with no image (Table 16.2). -/
def baseDomains : List Nat := (List.range 16).map (42 + ·) ++ (List.range 12).map (88 + ·)

/-- Tiles and lanes that failed power-on BIST (R242, R435). -/
def State.bistResult (s : State) (tiles : List (Fin 34)) (lanes : List (Fin 32)) : State :=
  let s := tiles.foldl (fun s t => if t.val < 32 then s.setBit Reg.TCA_DEAD_MAP0 t.val true else s.setBit Reg.TCA_DEAD_MAP1 (t.val - 32) true) s
  let s := lanes.foldl (fun s l => s.setBit Reg.BSE_LANE_MAP l.val true) s
  { s with tca := { s.tca with tiles := s.tilesFresh } }

/-- A power-on start (R637 to R641, R648, R650): BOOT_SEL, the domains, the boot steps, and the findings of the BIST. -/
def State.startUp (s : State) (sel : BitVec 2) (o : BootOutcome) : State :=
  let s := (s.setDomains baseDomains).pllStops
  let s := { s with aon := { s.aon with porLow := false, booting := true, bootFrom := s.now, bootSel := sel } }
  let s := s.bistResult o.tileFail o.laneFail
  let bad := match o.halt with
    | some k => if k == 1 || k == 2 || k == 6 then some k.val else none
    | none => none
  let halt := if s.sec.otp.broken then some 1 else bad
  let (a, s) := s.draw
  let (b, s) := s.draw
  let s := (s.setReg Reg.SEC_BOOT_NONCE_LO (BitVec.ofNat 32 a)).setReg Reg.SEC_BOOT_NONCE_HI (BitVec.ofNat 32 b)
  let early := halt == some 1 || halt == some 2
  let ok := !o.idFail && !early
  let ident := if ok then SMap.find? s.sec.otp.idWraps (s.sec.otp.lockGen / 2) else none
  { s with sec := { s.sec with halt := halt, idFail := o.idFail && !early, kek := ok, ident := ident } }.showIdentity

/-- A warm reset as every cause brings it about: DRAM and key RAM stay, LTH is in NONE, and start-up begins again (R679 to R681). -/
def State.warmReset (s : State) (cause : Nat) : State :=
  let s := s.cutBurn
  let halt := s.sec.halt
  let t := ((s.warm cause).setDomains baseDomains).pllStops
  let t := { t with aon := { t.aon with booting := true, bootFrom := t.now }, sec := { t.sec with halt := halt } }
  t.resetPins s false

end Sys2Proof.Machine
end

