-- ==== Sys2Proof/Machine/Sec.lean ====
section
/-! DEFINITION. Machine/Sec.lean: the SEC commands and the alarms (15_security.md). -/

namespace Sys2Proof.Machine

/-! ### Alarms (R656 to R660) -/

/-- The effective policy of an alarm source: the higher of its floor and its field in SEC_ALARM_POL (R656). -/
def State.alarmEff (s : State) (k : Nat) : Nat := max (bits s.sec.otp.floors.toNat (2 * k) 2) (s.fld' Reg.SEC_ALARM_POL (2 * k) 2)

/-- A trip of one source is counted, recorded and logged: LOG at most once per second (R659, R660, Table 15.11). -/
def State.alarmNote (s : State) (k : Nat) : State :=
  let p := s.alarmEff k
  let s := s.countSat (Reg.SEC_ALARM_CNT k) 0 32 1
  let h := htw s.now
  let s := s.setRegBytes (Reg.SEC_ALARM_LAST 0) (patch h 0 (leBytes 1 (setBits (u h 0 1) 0 3 k)))
  if p == 0 && !dueAfter (SMap.find? s.sec.logSrc k) secT s.now then s
  else { s with sec := { s.sec with logSrc := SMap.insert s.sec.logSrc k s.now } }.event 0x0F 3 0x0F01 0 [BitVec.ofNat 8 k, BitVec.ofNat 8 p]

/-- LOCK burns one LOCK_GEN fuse of an OWNED device (Table 15.9). -/
def State.lockBurn (s : State) : State :=
  if s.life != 1 then s else (s.setOtp { s.sec.otp with lockGen := s.sec.otp.lockGen + 1 }).lifeEvent 1

/-- An alarm without a reset ends a burn and voids an unlock in progress (R659). -/
def State.alarmVoid (s : State) : State :=
  match s.sec.busy with
  | some b =>
    if b.op == 7 || b.op == 8 then
      let s := s.cutBurn
      { s with sec := { s.sec with busy := some { b with void := true } } }
    else s
  | none => s

/-- Alarm sources trip in one cycle: each is counted and recorded, and the highest of their effective policies acts (R656 to R660). -/
def State.alarm (s : State) (srcs : List Nat) : State :=
  if srcs.isEmpty || s.aon.porLow then s
  else
    let p := srcs.foldl (fun m k => max m (s.alarmEff k)) 0
    let s := srcs.foldl (fun s k => s.alarmNote k) s
    match p with
    | 0 => s.alarmVoid
    | 1 => s.warmReset 2
    | 2 => let s := s.zeroiseKeys; (s.coldReset false 3).startUp s.aon.bootSel { halt := none, idFail := false, tileFail := [], laneFail := [] }
    | _ => let s := s.zeroiseKeys.lockBurn
           (s.coldReset false 3).startUp s.aon.bootSel { halt := none, idFail := false, tileFail := [], laneFail := [] }

/-- ALARM_TRIP row (R656): the clock monitor rests in Sentinel. -/
def execAlarmTrip (sources : BitVec 6) (s : State) : Host.Outcome State Fault Refusal :=
  .next (s.alarm ((List.range 6).filter (fun k => sources.getLsbD k && !(k == 2 && s.pwr == 1))))

/-- TRNG_HEALTH_FAIL row (R639): draws stop, and the clock source's alarm trips. -/
def execTrngHealthFail (s : State) : Host.Outcome State Fault Refusal :=
  .next (if s.powered 89 then { s with sec := { s.sec with trngFail := true } }.alarm [2] else s)

/-- A write of SEC_ALARM_POL raises policies; a field that would lower the effective policy of its source stays (R656). -/
def State.alarmPolicy (s : State) (v : W32) : State :=
  (List.range 6).foldl (fun s k =>
    let new := fieldOf v (2 * k) 2
    if max (bits s.sec.otp.floors.toNat (2 * k) 2) new < s.alarmEff k then s else s.setFld Reg.SEC_ALARM_POL (2 * k) 2 new) s

/-- ALARM_POLICY_WRITE row (R656). -/
def execAlarmPolicyWrite (v : W32) (s : State) : Host.Outcome State Fault Refusal :=
  .next (s.hostReg Reg.SEC_ALARM_POL (fun s => s.alarmPolicy v))

/-! ### Commands that complete at once (R643, R651, R652, R657, R664) -/

/-- Fields of SEC_ARG. -/
def State.argSlot (s : State) : Nat := s.fld' Reg.SEC_ARG 0 8
def State.argPort (s : State) : Nat := s.fld' Reg.SEC_ARG 8 4
def State.argTx (s : State) : Bool := s.bit Reg.SEC_ARG 12
def State.argChan (s : State) : Nat := s.fld' Reg.SEC_ARG 13 3
def State.argAn (s : State) : Nat := s.fld' Reg.SEC_ARG 16 2

/-- The association SEC_ARG names. -/
def State.argAssoc (s : State) (a : Assoc) : Bool :=
  a.port == s.argPort && a.tx == s.argTx && a.chan == s.argChan && a.an == s.argAn

/-- CLEAR empties a numbered slot (R651). -/
def State.doClear (s : State) : Nat × State := (DONE, { s with sec := { s.sec with keys := SMap.erase s.sec.keys s.argSlot } })

/-- BIND ties a loaded MACSEC slot to a free association (R652; FEAT_MACSEC absent refuses it, Table 17.4). -/
def State.doBind (s : State) : Nat × State :=
  let form := 16 ≤ s.argSlot && s.argPort ≤ 11 && (!s.argTx || s.argChan == 0)
  let st := s.feat 10 && (SMap.find? s.sec.keys s.argSlot).isSome && !s.sec.assocs.any s.argAssoc
  let c := topCode ((if form then [] else [REFUSED_DESCRIPTOR]) ++ (if st then [] else [REFUSED_STATE]))
  if c != DONE then (c, s)
  else
    let x : SwPort := SMap.get {} s.sic.ports s.argPort
    let a : Assoc := { slot := s.argSlot, port := s.argPort, tx := s.argTx, chan := s.argChan, an := s.argAn, xpn := x.xpn }
    (DONE, { s with sec := { s.sec with assocs := s.sec.assocs ++ [a] } })

/-- UNBIND releases an association (R652). -/
def State.doUnbind (s : State) : Nat × State :=
  if s.sec.assocs.any s.argAssoc then (DONE, { s with sec := { s.sec with assocs := s.sec.assocs.filter (fun a => !s.argAssoc a) } })
  else (REFUSED_STATE, s)

/-- SELECT_TX names the bound AN of the port's transmit channel (R652). -/
def State.doSelectTx (s : State) : Nat × State :=
  if s.sec.assocs.any (fun a => a.port == s.argPort && a.tx && a.an == s.argAn) then
    (DONE, { s with sec := { s.sec with txAn := SMap.insert s.sec.txAn s.argPort s.argAn } })
  else (REFUSED_STATE, s)

/-- CHALLENGE draws 32 fresh bytes; none while the TRNG's draws are stopped (R639, R643). -/
def State.doChallenge (s : State) : Nat × State :=
  if s.sec.trngFail then (REFUSED_STATE, s)
  else
    let s := (List.range 8).foldl (fun s j => let (v, s) := s.draw; s.setReg (Reg.SEC_CHAL j) (BitVec.ofNat 32 v)) s
    (DONE, { s with sec := { s.sec with challenge := true } })

/-! ### Commands that take time (R649, R663, R664) -/

/-- Bytes a command reads at SEC_SRC (R643, R646, R649). -/
def secReads (op : Nat) : Nat := if op == 7 then 256 else if op == 9 then 0 else 512

/-- A long command is accepted: SEC reads its record and is busy. -/
def State.secStart (s : State) (op : Nat) : State :=
  let n := secReads op
  let (r, s) := if n == 0 then (.ok [], s) else s.busRead idSec s.secSrc n
  let b : SecBusy := match r with
    | .ok bs => { op := op, bytes := bs }
    | .error e => { op := op, err := some e }
  { s with sec := { s.sec with busy := some b } }.setBit Reg.SEC_CMD_ST 16 true

/-- A write of SEC_CMD (Table 15.12, R664). -/
def State.doSecCmd (s : State) (w : W32) : State :=
  s.unlessBusy Reg.SEC_CMD_ST 16 (fun s =>
    let now (r : Nat × State) : State := r.2.status Reg.SEC_CMD_ST r.1
    match fieldOf w 0 4 with
    | 1 => s.secStart 1
    | 2 => now s.doClear
    | 3 => now s.doBind
    | 4 => now s.doUnbind
    | 5 => now s.doSelectTx
    | 6 => now s.doChallenge
    | 7 => s.secStart 7
    | 8 => s.secStart 8
    | 9 => s.secStart 9
    | 10 => now (DONE, s.zeroiseLive)
    | _ => now (REFUSED_DESCRIPTOR, s))

/-- What a command that has run its time comes to (R643 to R651, R663): status and state. -/
def State.secRun (s : State) (b : SecBusy) : Nat × State :=
  match b.err with
  | some e => (e, if b.op == 7 then s.useChallenge else s)
  | none =>
    if b.void then (REFUSED_STATE, if b.op == 7 then s.useChallenge else s)
    else
      match b.op with
      | 1 => s.importRun b.bytes
      | 7 => s.signedRun b.bytes
      | 8 => s.provRun b.bytes
      | _ => s.attestRun

/-- Three consecutive REFUSED_AUTH results of signed records raise the DEBUG alarm (R644). -/
def State.authCount (s : State) (op code : Nat) : State :=
  let s := if code == REFUSED_AUTH then s.countSat Reg.SEC_AUTH_FAIL 0 32 1 else s
  if op != 7 then s
  else if code != REFUSED_AUTH then { s with sec := { s.sec with authFails := 0 } }
  else if s.sec.authFails < 2 then { s with sec := { s.sec with authFails := s.sec.authFails + 1 } }
  else { s with sec := { s.sec with authFails := 0 } }.alarm [5]

/-- A long command completes: status, vector 2, event 0x0F02 of a refusal, and the count of R644 (R661, R664, R697). -/
def State.secDone (s : State) : State :=
  match s.sec.busy with
  | none => s
  | some b =>
    let (c, s) := { s with sec := { s.sec with busy := none } }.secRun b
    let s := ((s.status Reg.SEC_CMD_ST c).setBit Reg.SEC_CMD_ST 16 false).msix 2
    let s := if isDone c || b.op == 9 || b.op == 8 then s else s.secRefusal (u b.bytes (if b.op == 7 then 4 else 5) 1) c
    s.authCount b.op c

/-- SEC_COMMAND_COMPLETE row (R664). -/
def execSecCommandComplete (s : State) : Host.Outcome State Fault Refusal := .next (if s.powered 89 then s.secDone else s)

/-! ### The rows: host writes of SEC_CMD -/

/-- IMPORT row (R649). -/
def execImportKey (s : State) : Host.Outcome State Fault Refusal := .next (s.hostCmd Reg.SEC_CMD (fun s => s.doSecCmd 1))
/-- CLEAR row (R651). -/
def execClearKey (s : State) : Host.Outcome State Fault Refusal := .next (s.hostCmd Reg.SEC_CMD (fun s => s.doSecCmd 2))
/-- BIND row (R652). -/
def execBind (s : State) : Host.Outcome State Fault Refusal := .next (s.hostCmd Reg.SEC_CMD (fun s => s.doSecCmd 3))
/-- UNBIND row (R652). -/
def execUnbind (s : State) : Host.Outcome State Fault Refusal := .next (s.hostCmd Reg.SEC_CMD (fun s => s.doSecCmd 4))
/-- SELECT_TX row (R652). -/
def execSelectTx (s : State) : Host.Outcome State Fault Refusal := .next (s.hostCmd Reg.SEC_CMD (fun s => s.doSecCmd 5))
/-- CHALLENGE row (R643). -/
def execChallenge (s : State) : Host.Outcome State Fault Refusal := .next (s.hostCmd Reg.SEC_CMD (fun s => s.doSecCmd 6))
/-- UNLOCK row (R654): SIGNED, with a record of OP 1. -/
def execUnlock (s : State) : Host.Outcome State Fault Refusal := .next (s.hostCmd Reg.SEC_CMD (fun s => s.doSecCmd 7))
/-- REVOKE row (R645): SIGNED, with a record of OP 2. -/
def execRevoke (s : State) : Host.Outcome State Fault Refusal := .next (s.hostCmd Reg.SEC_CMD (fun s => s.doSecCmd 7))
/-- REPROVISION row (R647): SIGNED, with a record of OP 3. -/
def execReprovision (s : State) : Host.Outcome State Fault Refusal := .next (s.hostCmd Reg.SEC_CMD (fun s => s.doSecCmd 7))
/-- PROVISION row (R646). -/
def execProvision (s : State) : Host.Outcome State Fault Refusal := .next (s.hostCmd Reg.SEC_CMD (fun s => s.doSecCmd 8))
/-- ATTEST row (R663). -/
def execAttest (s : State) : Host.Outcome State Fault Refusal := .next (s.hostCmd Reg.SEC_CMD (fun s => s.doSecCmd 9))
/-- ZEROISE row (R657, R658). -/
def execZeroise (s : State) : Host.Outcome State Fault Refusal := .next (s.hostCmd Reg.SEC_CMD (fun s => s.doSecCmd 10))

/-! ### Register views (Table 15.12) -/

/-- SEC_STATUS. -/
def State.secStatus (s : State) : Nat :=
  (if s.sec.trngFail then 1 else 0) + (if s.sec.idFail then 2 else 0) + (if s.sec.halt.isSome then 4 else 0) + 8 * (s.sec.halt.getD 0) +
  64 * s.sec.debug + (if s.aon.bootSel == 1 then 256 else 0)

/-- SEC_LIFECYCLE. -/
def State.secLife (s : State) : Nat := s.life + 256 * s.sec.otp.lockGen

/-- SEC_SIGNERS, and SEC_REVOKED. -/
def State.secSigners (s : State) : Nat :=
  (s.sec.otp.signers.map (fun (p : Nat × Signer) => if p.2.revoked then 0 else p.2.usage.toNat * 16 ^ p.1)).sum
def State.secRevoked (s : State) : Nat := (s.sec.otp.signers.map (fun (p : Nat × Signer) => if p.2.revoked then 2 ^ p.1 else 0)).sum

/-- SEC_KEY_MAPj. -/
def State.keyMap (s : State) (j : Nat) : Nat := (s.sec.keys.map (fun p => if p.1 / 32 == j then 2 ^ (p.1 % 32) else 0)).sum

/-- SEC_ALARM_EFF. -/
def State.alarmEffReg (s : State) : Nat := ((List.range 6).map (fun k => s.alarmEff k * 4 ^ k)).sum

end Sys2Proof.Machine
end

