-- ==== Sys2Proof/Machine/Power.lean ====
section
/-! DEFINITION. Machine/Power.lean: power states, wake sources, resets and start-up (16_power_clocks_startup.md, 19_electrical_package.md).
Readings the chapters leave open are in log entry 27. -/

namespace Sys2Proof.Machine

/-! ### AON_PWR_CMD (R669 to R674) -/

/-- A power command is accepted: BUSY, and the transition begins. -/
def State.pwrAccept (s : State) (dest : PwrTo) : State := (s.startPwr dest).setBit Reg.AON_PWR_CMD_ST 16 true

/-- A STANDBY command is admitted (R669, R673). -/
def State.standbyOk (s : State) : Bool :=
  s.pwr == 3 && (s.lthState == 0 || s.lthState == 3) && !s.bit Reg.CSQ_STATUS 0 && s.bse.batches.isEmpty &&
  (List.range 16).all (fun n => (s.chan n).prog.isEmpty)

/-- A write of AON_PWR_CMD (Table 16.3, R687). -/
def State.doPwrCmd (s : State) (w : W32) : State :=
  s.unlessBusy Reg.AON_PWR_CMD_ST 16 (fun s =>
    let no : State := s.status Reg.AON_PWR_CMD_ST REFUSED_STATE
    match fieldOf w 0 3 with
    | 1 => if s.standbyOk && !s.inTransition then s.pwrAccept .standby else no
    | 2 => if s.pwr == 2 && !s.inTransition then s.pwrAccept .idle else no
    | 3 =>
      if s.pwr == 2 && !s.inTransition && s.aon.xtalOk then
        { s with aon := { s.aon with dramKeep := w.getLsbD 8 } }.pwrAccept .sentinel
      else no
    | _ => s.status Reg.AON_PWR_CMD_ST REFUSED_DESCRIPTOR)

/-- STANDBY row (R673). -/
def execStandby (s : State) : Host.Outcome State Fault Refusal := .next (s.hostCmd Reg.AON_PWR_CMD (fun s => s.doPwrCmd 1))
/-- WAKE row (R672). -/
def execWake (s : State) : Host.Outcome State Fault Refusal := .next (s.hostCmd Reg.AON_PWR_CMD (fun s => s.doPwrCmd 2))
/-- SENTINEL row (R674). -/
def execSentinel (dramKeep : Bool) (s : State) : Host.Outcome State Fault Refusal :=
  .next (s.hostCmd Reg.AON_PWR_CMD (fun s => s.doPwrCmd (if dramKeep then 0x103 else 3)))

/-- Standby: domains off but those of Table 16.1, ACTIVE tiles OFF, links and unkept switch ports down (R670). -/
def State.enterStandby (s : State) : State :=
  let act := (List.range 34).filter (fun t => (s.tile t).st == .active)
  let s := act.foldl (fun s t => (s.discardTile t DEADLINE_ABANDONED).setTile t { (s.discardTile t DEADLINE_ABANDONED).tile t with st := .off }) s
  let s := (List.range 6).foldl (fun s p => s.linkDown p) s
  let s := (List.range 12).foldl (fun s q => if s.bit Reg.AON_STBY_KEEP q then s else s.ethLink q false) s
  let s := { s with mem := memZero s.mem 0 tileEnd, aon := { s.aon with wasActive := act } }
  ((s.setDomains s.standbyDomains).pllStops).setFld Reg.AON_PWR_STATE 0 3 2

/-- Idle again from Standby: the image's domains, the tiles that were ACTIVE wake, and the track cache starts empty (R672). -/
def State.leaveStandby (s : State) : State :=
  let was := s.aon.wasActive.filter (fun t => (s.tile t).st == .off)
  let s := was.foldl (fun s t => s.setTile t { s.tile t with st := .waking }) s
  let s := s.setDomains (s.idleDomains ++ was)
  { s.setFld Reg.AON_PWR_STATE 0 3 3 with
    mem := memZero s.mem 0 tileEnd, tac := { s.tac with cache := [] }, aon := { s.aon with wasActive := [] } }

/-- WAKE_N falls for a wake source (R675). -/
def State.wakeStart (s : State) (src : Nat) : State :=
  let s := { s.setFld Reg.AON_WAKE_SRC 0 4 src with aon := { s.aon with wakePend := src, wakeLow := true } }
  s.emit (.pin 3 false)

/-- Sentinel: every switched domain is off; with DRAM_KEEP clear, DRAM and key RAM are lost (R674, Table 16.2). A wake that came during the entry
acts at once (R675). -/
def State.enterSentinel (s : State) : State :=
  let s := ((s.setDomains []).pllStops).setFld Reg.AON_PWR_STATE 0 3 1
  let s := if s.aon.dramKeep then s
    else { s.zeroiseKeys with mem := [], msys := { s.msys with keyed := false, key := 0 } }
  let s := { s with hif := { s.hif with linkUp := false } }
  if s.aon.wakePend == 0 then s else s.wakeStart s.aon.wakePend

/-- The transition in progress completes; a command's status is DONE, with vector 2 (R669, R697). -/
def State.pwrDone (s : State) : State :=
  let dest := s.aon.pwrTo
  let s := { s with aon := { s.aon with pwrTo := .none } }.setBit Reg.AON_PWR_STATE 8 false
  let s := if s.bit Reg.AON_PWR_CMD_ST 16 then ((s.status Reg.AON_PWR_CMD_ST DONE).setBit Reg.AON_PWR_CMD_ST 16 false).msix 2 else s
  match dest with
  | .standby => s.enterStandby
  | .idle => s.leaveStandby
  | .sentinel => s.enterSentinel
  | .none => s

/-- POWER_TRANSITION_DONE row (R669). -/
def execPowerTransitionDone (s : State) : Host.Outcome State Fault Refusal := .next (if s.inTransition then s.pwrDone else s)

/-! ### Wake sources (R675, R735) -/

/-- A wake source acts in Sentinel, or waits for the entry to complete. -/
def State.wakeBy (s : State) (src : Nat) : State :=
  if s.inTransition && s.aon.pwrTo == .sentinel then
    if s.aon.wakePend == 0 then { s with aon := { s.aon with wakePend := src } } else s
  else if s.pwr == 1 && s.aon.wakePend == 0 then s.wakeStart src
  else s

/-- TC10_WAKE row (R675). -/
def execTc10Wake (s : State) : Host.Outcome State Fault Refusal := .next (if s.bit Reg.AON_WAKE_CFG 0 then s.wakeBy 1 else s)

/-- CAN_WAKE row (R675): a dominant level of `us` µs on a controller enabled for wake. -/
def execCanWake (n : Fin 4) (us : Nat) (s : State) : Host.Outcome State Fault Refusal :=
  .next (if s.bit Reg.AON_WAKE_CFG (1 + n.val) && decide (s.fld' Reg.AON_WAKE_CFG 8 6 < us) then s.wakeBy 2 else s)

/-- WAKE_TIMER_EXPIRY row (R675). -/
def execWakeTimerExpiry (s : State) : Host.Outcome State Fault Refusal :=
  .next (if s.bit Reg.AON_WAKE_CFG 6 && s.regN Reg.AON_WAKE_TIMER != 0 then s.wakeBy 4 else s)

/-- The supplies have been in range for 100 µs: a wake that waits starts, as a warm start with DRAM kept, otherwise as a power-on start
(R669, R735, Table 16.5). -/
def State.suppliesOk (s : State) : State :=
  let src := s.aon.wakePend
  let s := { s with aon := { s.aon with supplies := true } }
  if s.pwr != 1 || src == 0 then s
  else if s.aon.dramKeep then
    let s := s.warmReset 7
    { s with msys := { s.msys with damage := s.msys.damage.filter (fun d => d.array != 38) } }
  else
    let low := s.aon.wakeLow
    let sel := s.aon.bootSel
    let quiet : State := { s with aon := { s.aon with wakeLow := false } }
    let s := (quiet.coldReset false 7).startUp sel { halt := none, idFail := false, tileFail := [], laneFail := [] }
    { s.setFld Reg.AON_WAKE_SRC 0 4 src with aon := { s.aon with wakeLow := low } }

/-- SUPPLIES_IN_RANGE row (R735). -/
def execSuppliesInRange (s : State) : Host.Outcome State Fault Refusal := .next s.suppliesOk

/-- SUPPLIES_REMOVED row (R669): OFF from any state. -/
def execSuppliesRemoved (s : State) : Host.Outcome State Fault Refusal :=
  .next (let t := s.coldReset true 0
         { t.setFld Reg.AON_PWR_STATE 0 3 0 with aon := { t.aon with supplies := false, xtalOk := false } })

/-! ### POR_N, WARM_N, PERST_N (R637, R679, R683, R684) -/

/-- POR_N_ASSERT row (R679). -/
def execPorNAssert (s : State) : Host.Outcome State Fault Refusal :=
  .next (if s.aon.supplies then
      let t := s.coldReset true 0
      { t with aon := { t.aon with xtalOk := false } }
    else s)

/-- POR_N_RELEASE row (R637): BOOT_SEL is sampled and boot starts. -/
def execPorNRelease (bootSel : BitVec 2) (boot : BootOutcome) (s : State) : Host.Outcome State Fault Refusal :=
  .next (if s.aon.porLow && s.aon.supplies then (s.setFld Reg.AON_PWR_STATE 0 9 3).startUp bootSel boot else s)

/-- WARM_N_ASSERT row (R679, R740): a pulse shorter than 1 µs may be ignored, and is; POR_N low and Sentinel prevail. -/
def execWarmNAssert (ns : Nat) (s : State) : Host.Outcome State Fault Refusal :=
  .next (if 1000 ≤ ns && !s.aon.porLow && s.pwr != 1 then s.warmReset 1 else s)

/-- PERST_RELEASE row (R675, R683, R684): the link trains from here; in Sentinel the device wakes. -/
def execPerstRelease (s : State) : Host.Outcome State Fault Refusal :=
  .next (if s.hif.perstLow then
      let s := { s with hif := { s.hif with perstLow := false } }
      if s.bit Reg.AON_WAKE_CFG 5 then s.wakeBy 3 else s
    else s)

/-- DEVICE_READY row (R637, R641, R684): start-up completes once memory is filled, or at once where boot has halted. -/
def execDeviceReady (s : State) : Host.Outcome State Fault Refusal :=
  .next (if s.aon.booting && s.powered 91 && !s.aon.porLow && (s.sec.halt.isSome || s.fld' Reg.MEM_FILL_ST 0 2 == 3) then
      let s := { s with aon := { s.aon with booting := false } }.setBit Reg.HIF_STATUS 0 true
      s.setReg Reg.AON_BOOT_TIME (BitVec.ofNat 32 ((s.now - s.aon.bootFrom) / msT))
    else s)

/-! ### Clocks, tile domains, heat (R667, R677, R732, R738) -/

/-- PLL_LOCK row (R677). -/
def execPllLock (i : Fin 8) (s : State) : Host.Outcome State Fault Refusal :=
  .next (if s.pllRuns i.val then s.setBit Reg.AON_PLL_ST i.val true else s)

/-- TILE_DOMAIN_READY row (R667, R672): a tile that wakes with the device is ACTIVE once powered and loaded. A waking spare has its own rows
(Table 5.9). -/
def execTileDomainReady (tile : Fin 34) (s : State) : Host.Outcome State Fault Refusal :=
  .next (
    let t := tile.val
    let spare := match s.tca.swap with
      | some w => w.spare == t
      | none => false
    if s.powered t && (s.tile t).st == .waking && !spare && s.bit Reg.AON_PLL_ST 0 then
      (s.setTile t { s.tile t with st := .active }).reloadTile t
    else s)

/-- XTAL32K_STABLE row (R732). -/
def execXtal32kStable (s : State) : Host.Outcome State Fault Refusal :=
  .next (if s.aon.porLow then s else { s with aon := { s.aon with xtalOk := true } })

/-- The grade's maximum junction, in 0.25 °C (Table 0.2). -/
def State.maxJunction (s : State) : Int := if s.part.gradeI then 4 * 110 else 4 * 125

/-- THERMAL_NEAR row (R738): a new highest temperature; within 5 °C of the maximum, event 0x0101 at most once per second. -/
def execThermalNear (temp : BitVec 16) (s : State) : Host.Outcome State Fault Refusal :=
  .next (
    if s.aon.porLow then s
    else
      let s := s.setReg Reg.AON_TEMP (BitVec.ofInt 32 temp.toInt)
      if s.maxJunction - 20 ≤ temp.toInt && dueAfter s.aon.thermalAt secT s.now then
        { s with aon := { s.aon with thermalAt := some s.now } }.event 0x01 2 0x0101 0 (leBytes 2 temp.toNat)
      else s)

/-! ### AON_RST_CMD (R680 to R682) -/

/-- A tile reset (R682, Table 16.5): controller and queues cleared, memory zero, the tile ACTIVE; its image is loaded at the next RUN. -/
def State.tileRst (s : State) (t : Nat) : State :=
  let s := s.discardTile t DEADLINE_ABANDONED
  let x := s.tile t
  let s := s.setTile t { st := .active, serves := x.serves, nextOrd := x.nextOrd, fencedLog := x.fencedLog }
  { s with mem := memZero s.mem (t * 0x100000) 0x100000
           tca := { s.tca with reload := (s.tca.reload.filter (· != t)) ++ [t] } }

/-- A write of AON_RST_CMD (Table 16.6, R682, R687). -/
def State.doRstCmd (s : State) (w : W32) : State :=
  s.unlessBusy Reg.AON_RST_ST 16 (fun s =>
    let t := fieldOf w 8 6
    match fieldOf w 0 2 with
    | 1 => (s.status Reg.AON_RST_ST DONE).warmReset 4
    | 2 =>
      if s.bit Reg.CSQ_STATUS 0 then s.status Reg.AON_RST_ST REFUSED_STATE
      else (s.accel.setBit Reg.AON_RST_CAUSE 6 true).status Reg.AON_RST_ST DONE
    | 3 =>
      if 34 ≤ t then s.status Reg.AON_RST_ST REFUSED_DESCRIPTOR
      else if (s.tile t).st != .active || s.bit Reg.CSQ_STATUS 0 then s.status Reg.AON_RST_ST REFUSED_STATE
      else (s.tileRst t).status Reg.AON_RST_ST DONE
    | _ => s.status Reg.AON_RST_ST REFUSED_DESCRIPTOR)

/-- WARM row (R681). -/
def execWarm (s : State) : Host.Outcome State Fault Refusal := .next (s.hostCmd Reg.AON_RST_CMD (fun s => s.doRstCmd 1))
/-- ACCEL row (R682). -/
def execAccel (s : State) : Host.Outcome State Fault Refusal := .next (s.hostCmd Reg.AON_RST_CMD (fun s => s.doRstCmd 2))
/-- TILE row (R682). -/
def execTileReset (tile : BitVec 6) (s : State) : Host.Outcome State Fault Refusal :=
  .next (s.hostCmd Reg.AON_RST_CMD (fun s => s.doRstCmd (BitVec.ofNat 32 (3 + 256 * tile.toNat))))

end Sys2Proof.Machine
end

