-- ==== Sys2Proof/Machine/Flags.lean ====
section
/-! DEFINITION. Machine/Flags.lean: what a read of a register shows. Most registers hold their own word; the status words, counts and
windows below show the state of their block (Chapters 2 to 17, register indices). -/

namespace Sys2Proof.Machine

/-- Word `k` of a record. -/
def wordOf (bs : List Byte) (k : Nat) : Nat := u bs (4 * k) 4

/-- Index and word of an offset in a window of `n` records of `words` words at a stride. -/
def inWindow? (base stride n words off : Nat) : Option (Nat × Nat) :=
  if base ≤ off && (off - base) / stride < n && (off - base) % stride < 4 * words then some ((off - base) / stride, (off - base) % stride / 4)
  else none

/-! ### HIF, SIC, PAE and EGO -/

/-- HIF_ID (Table 17.9). -/
def State.hifId (s : State) : Nat := 0x9640 + 65536 * s.part.stepping.toNat + (if s.part.gradeI then 2 ^ 24 else 0)

/-- HIF (Table 17.9). -/
def State.viewHif (s : State) (off : Nat) : Option Nat :=
  if off == Reg.HIF_ID then some s.hifId
  else if off == Reg.HIF_FEAT_DEV 0 then some s.featDev
  else if off == Reg.HIF_FEAT_MAND 0 then some s.featMand
  else if off == Reg.HIF_EVT_PEND then some s.hif.pend.length
  else none

/-- SIC_SLOT_STATE word `w`: four bits for each of eight slots (Table 3.13). -/
def State.slotStates (s : State) (w : Nat) : Nat := ((List.range 8).map (fun k => (s.slot (8 * w + k)).st.code * 16 ^ k)).sum

/-- SIC (Table 3.13). -/
def State.viewSic (s : State) (off : Nat) : Option Nat :=
  if off == Reg.SIC_STATUS then some s.sicStatus
  else if off == Reg.SIC_PORT_HELD then some s.portHeld
  else
    match inWindow? (Reg.SIC_SLOT_STATE 0) 4 32 1 off, inWindow? (Reg.SIC_SLOT 0 0) 64 256 16 off, inWindow? (Reg.SIC_SLOTX 0 0) 64 256 16 off with
    | some (w, _), _, _ => some (s.slotStates w)
    | _, some (n, k), _ => some (wordOf (s.slotDesc n) k)
    | _, _, some (n, k) => some (if (s.slot n).bound then wordOf ((s.slot n).record.take 64) k else 0)
    | _, _, _ => none

/-- PAE and EGO (Tables 4.8 and 4.9). -/
def State.viewPae (s : State) (off : Nat) : Option Nat :=
  if off == Reg.PAE_STATUS then some s.paeStatus
  else if off == Reg.EGO_STATUS then some s.egoStatus
  else (inWindow? (Reg.PAE_CAL 0 0) 32 256 8 off).map (fun w => wordOf (s.calBytes w.1) w.2)

/-! ### TCA, DML, TAC, FLD and BSE -/

/-- The tiles in SPARE, one bit each from tile `lo` (Table 5.10). -/
def State.spareMap (s : State) (lo n : Nat) : Nat :=
  ((List.range n).map (fun k => if (s.tile (lo + k)).st == .spare then 2 ^ k else 0)).sum

/-- TCA (Table 5.10). -/
def State.viewTca (s : State) (off : Nat) : Option Nat :=
  let t := (off - 0x600000) / 0x4000
  if off == Reg.TCA_SPARE_MAP0 then some (s.spareMap 0 32)
  else if off == Reg.TCA_SPARE_MAP1 then some (s.spareMap 32 2)
  else if 34 ≤ t then none
  else if off == Reg.TCA_T_STATUS t then some (s.tileStatus t)
  else if off == Reg.TCA_T_STAGE t then some ((s.tile t).serves.getD 0xFF)
  else if off == Reg.TCA_T_CMD_ST t then
    some (s.fld' off 0 8 + 2 ^ 8 * (s.tile t).bgQ.length + 2 ^ 16 * (s.tile t).stageQ.length)
  else none

/-- DML (Table 6.4). -/
def State.viewDml (s : State) (off : Nat) : Option Nat :=
  if off == Reg.DML_DESC_FREE then some (4096 - s.dml.descs.length)
  else (inWindow? (Reg.DML_DESC 0 0) 64 4096 16 off).map (fun w => wordOf (s.descB w.1) w.2)

/-- TAC_STATUS: free space below the reserve, a flock OVER_QUOTA, the reclaimer working, and the last step's bits (Table 7.12). -/
def State.tacStatus (s : State) : Nat :=
  (if ivLen s.tac.free < s.reserveUnits then 1 else 0) + (if s.enabledFlocks.any (fun f => s.flockSt f == 2) then 2 else 0) +
  (if s.tac.reclaiming then 4 else 0) + 8 * s.fld' Reg.TAC_STATUS 3 2

/-- TAC (Table 7.12). -/
def State.viewTac (s : State) (off : Nat) : Option Nat :=
  if off == Reg.TAC_STATUS then some s.tacStatus
  else if off == Reg.TAC_POOL_FREE then some (ivLen s.tac.free)
  else if off == Reg.TAC_RESERVE then some s.reserveUnits
  else if off == Reg.TAC_WALKS then some (s.tac.walks.length % 2048 + 65536 * (s.tac.retire.length % 2048))
  else (inWindow? (Reg.TAC_FREE 0) 4 8 1 off).map (fun w => (s.freePages.filter (fun p => p.2 == w.1)).length)

/-- FLD (Table 8.7). -/
def State.viewFld (s : State) (off : Nat) : Option Nat :=
  if off == Reg.FLD_CNT_LIVE then some s.cntLive
  else if off == Reg.FLD_CNT_COAST then some s.cntCoast
  else if off == Reg.FLD_CNT_FALLOW then some s.cntFallow
  else (inWindow? (Reg.FLD_CRED 0) 4 256 1 off).map (fun w => s.credReg w.1)

/-- BSE (Table 9.10). -/
def State.viewBse (s : State) (off : Nat) : Option Nat :=
  if off == Reg.BSE_STATUS then some s.bseStatus
  else if off == Reg.BSE_QUEUE then some s.bseQueue
  else if off == Reg.BSE_PROG_CNT then
    some (s.bse.progs.length % 256 + 2 ^ 8 * (s.bse.patterns.length % 256) + 2 ^ 16 * (s.bse.orders.length % 256) +
      2 ^ 24 * (s.bse.trans.length % 64))
  else none

/-! ### CSQ, LTH and MEM -/

/-- CSQ (Table 10.7): the Publish FIFO. -/
def State.viewCsq (s : State) (off : Nat) : Option Nat :=
  if off == Reg.CSQ_PF_COUNT then some (s.fifo 0).count
  else if off == Reg.CSQ_PF_STATUS then some ((if (s.fifo 0).underrun then 1 else 0) + 65536 * (s.fifo 0).corr)
  else none

/-- The 16 bytes of a cycle table entry (Table 11.7). -/
def CycEntry.bytes (e : CycEntry) : List Byte :=
  leBytes 2 e.part ++ leBytes 2 e.variant ++ leBytes 4 e.cycles ++ leBytes 2 e.per ++ leBytes 1 (if e.island then 1 else 0) ++ leBytes 5 0

/-- The cycle table of the stepping (R500). -/
def State.cycTab (s : State) : List CycEntry := Config.cycleTable s.part.stepping

/-- Time of stage `k` of the schedule in force under the full plan, ns (Table 11.10). -/
def State.fitStage (s : State) (k : Nat) : Nat :=
  if s.lth.applied.isEmpty then 0
  else stageNs s.cycTab s.lth.fclk (s.counts 0) (s.content.shiftRes.getD s.csq.sched 0) (s.content.costs.getD 0 default) k

/-- Ahead decode time of the full plan, ns (Table 11.10). -/
def State.fitAhead (s : State) : Nat :=
  if s.lth.applied.isEmpty then 0 else partNs s.cycTab s.lth.fclk (s.counts 0) (s.content.costs.getD 0 default).ahead

/-- LTH_DIGESTj: SHA-384 of the applied image, word 0 first (Table 11.10; byte order log entry 25). -/
def State.digestWord (s : State) (j : Nat) : Nat := leNat ((s.digestOf.drop (4 * j)).take 4)

/-- LTH (Table 11.10). -/
def State.viewLth (s : State) (off : Nat) : Option Nat :=
  if off == Reg.LTH_ROLLBACK then some (s.sec.otp.rollback + 256 * rollbackOf s.lth.applied)
  else if off == Reg.LTH_IMAGE_ID_LO then some (u s.lth.applied 16 4)
  else if off == Reg.LTH_IMAGE_ID_HI then some (u s.lth.applied 20 4)
  else if off == Reg.LTH_STEPPING then some (s.part.stepping.toNat + 2 ^ 8 * (Config.fmtMinor s.part.stepping).toNat + 2 ^ 16)
  else if off == Reg.LTH_CYC_ID then some (Config.cycId s.part.stepping).toNat
  else if off == Reg.LTH_CYC_CRC then some (crc32c (s.cycTab.flatMap CycEntry.bytes)).toNat
  else if off == Reg.LTH_DEV_SERIAL_LO then some (s.part.serial.toNat % 2 ^ 32)
  else if off == Reg.LTH_DEV_SERIAL_HI then some (s.part.serial.toNat / 2 ^ 32)
  else if off == Reg.LTH_FIT_SUM then some (stages.map s.fitStage).sum
  else if off == Reg.LTH_FIT_AHEAD then some s.fitAhead
  else
    match inWindow? (Reg.LTH_DIGEST 0) 4 12 1 off, inWindow? (Reg.LTH_FIT 0) 4 5 1 off, inWindow? (Reg.LTH_CYC 0 0) 16 4096 4 off with
    | some (j, _), _, _ => some (s.digestWord j)
    | _, some (k, _), _ => some (s.fitStage k)
    | _, _, some (e, k) => some (((s.cycTab[e]?).map (fun x => wordOf x.bytes k)).getD 0)
    | _, _, _ => none

/-- MEM_STATUS: IDLE mode of the scrubber, lap target below its setting, an uncorrectable error in the last second, DRAM key (Table 12.6). -/
def State.memStatus (s : State) : Nat :=
  let recent := match s.msys.ueAt with
    | some t => decide (s.now < t + secT)
    | none => false
  (if s.lthState != 3 || !s.bit Reg.CSQ_CTRL 0 then 1 else 0) + (if s.regN Reg.MEM_SCRUB_TARGET < s.regN Reg.MEM_SCRUB_LAP then 2 else 0) +
  (if recent then 4 else 0) + (if s.msys.keyed then 8 else 0)

/-- MEM (Table 12.6). -/
def State.viewMem (s : State) (off : Nat) : Option Nat :=
  if off == Reg.MEM_STATUS then some s.memStatus
  else if off == Reg.MEM_SKIM_POS then some (s.msys.pos * 1024 / lapUnits)
  else if off == Reg.MEM_SPARE_FREE then some (s.sparesFree (s.fld' Reg.MEM_SPARE_SEL 0 6))
  else
    match inWindow? (Reg.MEM_LOG 0 0) 32 64 8 off, inWindow? (Reg.MEM_RET 0 0) 8 1024 2 off with
    | some (e, k), _ => some (wordOf (SMap.get [] s.msys.log e) k)
    | _, some (r, k) => some (s.msys.retired.getD r 0 / 2 ^ (32 * k) % 2 ^ 32)
    | _, _ => none

/-! ### SAF, SEC and SLK -/

/-- A mailbox's COUNT, UNDERRUN and corrected words (Table 13.12). -/
def State.mboxStatus (s : State) (m : Nat) : Nat :=
  let f := s.fifo (31 + m)
  f.count + (if f.underrun then 512 else 0) + 65536 * f.corr

/-- SEC (Table 15.12). -/
def State.viewSec (s : State) (off : Nat) : Option Nat :=
  if off == Reg.SEC_STATUS then some s.secStatus
  else if off == Reg.SEC_LIFECYCLE then some s.secLife
  else if off == Reg.SEC_SIGNERS then some s.secSigners
  else if off == Reg.SEC_REVOKED then some s.secRevoked
  else if off == Reg.SEC_ALARM_EFF then some s.alarmEffReg
  else (inWindow? (Reg.SEC_KEY_MAP 0) 4 8 1 off).map (fun w => s.keyMap w.1)

/-- SLK (Table 14.9). -/
def State.viewSlk (s : State) (off : Nat) : Option Nat :=
  if off == Reg.SLK_STATUS then some s.slkStatus
  else (inWindow? (Reg.SLK_P_STAT 0) 32 6 1 off).map (fun w => s.slkPStat w.1)

/-- What a register shows that does not hold its own word. -/
def State.view (s : State) (off : Nat) : Option Nat :=
  match off / 0x100000 with
  | 0 => s.viewHif off
  | 3 => s.viewSic off
  | 4 => s.viewPae off
  | 5 => s.viewPae off
  | 6 => s.viewTca off
  | 7 => s.viewDml off
  | 8 => s.viewTac off
  | 9 => s.viewFld off
  | 10 => s.viewBse off
  | 11 => s.viewCsq off
  | 12 => s.viewLth off
  | 13 => s.viewMem off
  | 14 => (inWindow? (Reg.SAF_MBOX_ST 0) 4 5 1 off).map (fun w => s.mboxStatus w.1)
  | 15 => s.viewSec off
  | 16 => s.viewSlk off
  | _ => none

/-- The value a read of a word shows: zero at a reserved offset (R717) and from a write-only register (R721). -/
def State.regRead (s : State) (off : Nat) : W32 :=
  match regDef? off with
  | none => 0
  | some d => if d.acc == .wo then 0 else ((s.view off).map (BitVec.ofNat 32)).getD (s.reg off)

end Sys2Proof.Machine
end

