-- ==== Sys2Proof/Machine/Access.lean ====
section
/-! DEFINITION. Machine/Access.lean: host requests through BAR2 (R19, R20, R695) and BAR0 (R693, R694, R717 to R724), and transactions on
the on-die network (R10, R18, R573, R575). Every access to a register comes to `regTake` or `regPut`, which route command registers to the
operations of their own rows. Readings the manual leaves open are in log entry 28. -/

namespace Sys2Proof.Machine

/-! ### Command registers (Table 18.7, R718, R729) -/

/-- The status register of a command register, and its busy bit. -/
def cmdStatus (off : Nat) : Option (Nat × Option Nat) :=
  let t := (off - 0x600000) / 0x4000
  let n := (off - 0x701000) / 128
  let c := (off - 0x702000) / 64
  if off == Reg.HIF_FEAT_CTRL then some (Reg.HIF_FEAT_ST, some 16)
  else if off == Reg.AON_PWR_CMD then some (Reg.AON_PWR_CMD_ST, some 16)
  else if off == Reg.AON_RST_CMD then some (Reg.AON_RST_ST, some 16)
  else if off == Reg.SIC_SLOT_CMD then some (Reg.SIC_SLOT_CMD_ST, some 16)
  else if off == Reg.PAE_CAL_CMD then some (Reg.PAE_CAL_CMD_ST, some 16)
  else if off == Reg.TCA_BIST_REQ then some (Reg.TCA_BIST_ST, some 16)
  else if off == Reg.DML_DESC_CMD then some (Reg.DML_DESC_CMD_ST, some 20)
  else if off == Reg.TAC_CMD_SEQ then some (Reg.TAC_CMD_SEQ_ST, some 16)
  else if off == Reg.TAC_CMD_PGT_EDIT then some (Reg.TAC_CMD_PGT_ST, some 8)
  else if off == Reg.TAC_CMD_FLOCK then some (Reg.TAC_CMD_FLOCK_ST, some 8)
  else if off == Reg.FLD_TRACK_CMD then some (Reg.FLD_TRACK_CMD_ST, some 16)
  else if off == Reg.BSE_DOORBELL then some (Reg.BSE_SUBMIT_ST, some 16)
  else if off == Reg.CSQ_CAD_REQ then some (Reg.CSQ_CAD_ST, some 16)
  else if off == Reg.LTH_CMD then some (Reg.LTH_CMD_ST, some 16)
  else if off == Reg.MEM_RET_CMD then some (Reg.MEM_RET_ST, some 16)
  else if off == Reg.SAF_CMD then some (Reg.SAF_CMD_ST, some 16)
  else if off == Reg.SLK_CMD then some (Reg.SLK_CMD_ST, some 16)
  else if off == Reg.SEC_CMD then some (Reg.SEC_CMD_ST, some 16)
  else if t < 34 && off == Reg.TCA_T_DOORBELL t then some (Reg.TCA_T_CMD_ST t, none)
  else if n < 16 && off == Reg.DML_SS_COMMIT n then some (Reg.DML_SS_ST n, none)
  else if c < 16 && off == Reg.DML_PC_CTRL c then some (Reg.DML_PC_ST c, some 16)
  else none

/-- How a write to a register is judged by H36: COMMAND for the registers of Table 18.7 and DML_SIG_RAISE, otherwise WRITE (R573). TBU_CTRL
is a command register where SET is written (log entry 28). -/
def writeKind (off : Nat) (v : W32) : Kind :=
  if (cmdStatus off).isSome || off == Reg.DML_SIG_RAISE || (off == Reg.TBU_CTRL && v.getLsbD 7) then .command else .write

/-- A TAC sequence command from TAC_CMD_SEQ (Table 7.12). -/
def State.seqReg (s : State) (v : W32) : State :=
  let n := fieldOf v 0 20
  s.tacReg Reg.TAC_CMD_SEQ_ST 16 (fun s =>
    match fieldOf v 20 3 with
    | 1 => s.doOpen n (s.regN Reg.TAC_CMD_SEQ_TID) (s.fld' Reg.TAC_CMD_SEQ_FLOCK 0 12)
    | 2 => s.doFallow n
    | 3 => s.doActivate n
    | 4 => s.doClose n
    | _ => (REFUSED_DESCRIPTOR, s))

/-- A flock command from TAC_CMD_FLOCK (Table 7.12). -/
def State.flockReg (s : State) (v : W32) : State :=
  let f := fieldOf v 0 12
  s.tacReg Reg.TAC_CMD_FLOCK_ST 8 (fun s =>
    match fieldOf v 12 3 with
    | 1 => s.doFlockCreate f (s.regN Reg.TAC_CMD_FLOCK_Q) (s.regN Reg.TAC_CMD_FLOCK_S)
    | 2 => s.doSetQuota f (s.regN Reg.TAC_CMD_FLOCK_Q) (s.regN Reg.TAC_CMD_FLOCK_S)
    | 3 => s.doDisable f
    | _ => (REFUSED_DESCRIPTOR, s))

/-- A slot command from SIC_SLOT_CMD (Table 3.15). -/
def State.slotReg (s : State) (v : W32) : State :=
  let n := fieldOf v 0 8
  match fieldOf v 16 3 with
  | 1 => s.doAdmit n
  | 2 => s.doSlotRelease n
  | 3 => s.doReadmit n
  | 4 => s.doSlotQuar n
  | _ => s.slotCmd n (fun s => (REFUSED_DESCRIPTOR, s))

/-- A calibration command from PAE_CAL_CMD (Table 4.8): an OP that is none of three is refused whatever the slot (R194). -/
def State.calReg (s : State) (v : W32) : State :=
  let n := fieldOf v 0 8
  let op := fieldOf v 8 3
  if 1 ≤ op && op ≤ 3 then s.calCmd n op
  else s.unlessBusy Reg.PAE_CAL_CMD_ST 16 (fun s => (s.setFld Reg.PAE_CAL_CMD_ST 8 8 n).status Reg.PAE_CAL_CMD_ST
      (if (s.slot n).bound then REFUSED_DESCRIPTOR else REFUSED_STATE))

/-- A descriptor command from DML_DESC_CMD (Table 6.5). -/
def State.descReg (s : State) (id : Nat) (v : W32) : State :=
  let h := fieldOf v 0 12
  match fieldOf v 16 3 with
  | 1 => s.doDescCreate id h
  | 2 => s.doDescDestroy id h
  | _ => s.descStatus h REFUSED_DESCRIPTOR

/-- GO and ABORT of a program channel; both in one write act in the order of their bits (log entry 28). -/
def State.chanReg (s : State) (id n : Nat) (v : W32) : State :=
  let s := if v.getLsbD 0 then s.doGoProg id n else s
  if v.getLsbD 1 then s.doAbortProg id n else s

/-- GO and UNLOCK of the handshake; both in one write are refused (R715). -/
def State.featReg (s : State) (v : W32) : State :=
  if v.getLsbD 0 && v.getLsbD 1 then s.status Reg.HIF_FEAT_ST REFUSED_STATE
  else if v.getLsbD 0 then s.doGo
  else if v.getLsbD 1 then s.doUnlockFeat
  else s

/-- A command of LTH_CMD (Table 11.11). -/
def State.lthCmd (s : State) (v : W32) : State :=
  match fieldOf v 0 3 with
  | 1 => s.doLoad
  | 2 => s.doAbort
  | 3 => s.doRbAdvance
  | 4 => s.doUnload
  | _ => s.unlessBusy Reg.LTH_CMD_ST 16 (fun s => s.status Reg.LTH_CMD_ST REFUSED_DESCRIPTOR)

/-- A command register is written; reserved fields are zero. -/
def State.runCommand (s : State) (id off : Nat) (v : W32) : State :=
  let t := (off - 0x600000) / 0x4000
  let n := (off - 0x701000) / 128
  let c := (off - 0x702000) / 64
  if off == Reg.HIF_FEAT_CTRL then s.featReg v
  else if off == Reg.AON_PWR_CMD then s.doPwrCmd v
  else if off == Reg.AON_RST_CMD then s.doRstCmd v
  else if off == Reg.SIC_SLOT_CMD then s.slotReg v
  else if off == Reg.PAE_CAL_CMD then s.calReg v
  else if off == Reg.TCA_BIST_REQ then (if v.getLsbD 8 then s.doBistReq (fieldOf v 0 6) else s)
  else if off == Reg.DML_DESC_CMD then s.descReg id v
  else if off == Reg.DML_SIG_RAISE then s.doSignalRaise id (fieldOf v 0 10) (fieldOf v 16 16)
  else if off == Reg.TAC_CMD_SEQ then s.seqReg v
  else if off == Reg.TAC_CMD_PGT_EDIT then s.pgtReg (fieldOf v 0 20) (fieldOf v 20 3) (fieldOf v 24 5)
  else if off == Reg.TAC_CMD_FLOCK then s.flockReg v
  else if off == Reg.FLD_TRACK_CMD then s.doTrackCmd v
  else if off == Reg.BSE_DOORBELL then (if v.getLsbD 0 then s.doBatchDoorbell id else s)
  else if off == Reg.BSE_INJECT then s.doBseInject v
  else if off == Reg.CSQ_CAD_REQ then s.cadenceReq (fieldOf v 0 2)
  else if off == Reg.LTH_CMD then s.lthCmd v
  else if off == Reg.MEM_RET_CMD then
    (if fieldOf v 0 3 == 1 then s.doRetire
     else s.unlessBusy Reg.MEM_RET_ST 16 (fun s => s.status Reg.MEM_RET_ST REFUSED_DESCRIPTOR))
  else if off == Reg.MEM_INJECT then s.doMemInject v
  else if off == Reg.SAF_CMD then s.doSafCmd (fieldOf v 0 3) (fieldOf v 8 3)
  else if off == Reg.SLK_CMD then s.doSlkCmd v
  else if off == Reg.SEC_CMD then s.doSecCmd v
  else if t < 34 && off == Reg.TCA_T_DOORBELL t then (if v.getLsbD 0 then s.doDoorbell t id else s)
  else if t < 34 && off == Reg.TCA_T_INJECT t then s.doTileInject t v
  else if n < 16 && off == Reg.DML_SS_COMMIT n then (if v.getLsbD 0 then s.doCommit n else s)
  else if c < 16 && off == Reg.DML_PC_CTRL c then s.chanReg id c v
  else s

/-- The slot a refused slot or calibration command names shows in the status register (Tables 3.15 and 4.8). -/
def State.cmdSlot (s : State) (off : Nat) (v : W32) : State :=
  if off == Reg.SIC_SLOT_CMD then s.setFld Reg.SIC_SLOT_CMD_ST 8 8 (fieldOf v 0 8)
  else if off == Reg.PAE_CAL_CMD then s.setFld Reg.PAE_CAL_CMD_ST 8 8 (fieldOf v 0 8)
  else s

/-- The code of a command whose reserved fields are not zero: REFUSED_DESCRIPTOR, or a higher refusal that the rest of the command earns
(R40, R718, R729). -/
def State.reservedCode (s : State) (id off st : Nat) (v : W32) : Nat :=
  let c := ((s.setFld st 0 8 0).runCommand id off v).fld' st 0 8
  if REFUSED_DESCRIPTOR < c && c < 0x20 then c else REFUSED_DESCRIPTOR

/-- A write of a write-only register: a non-zero reserved field refuses the command (R40, R718, R729); one without a status register is not
carried out. -/
def State.command (s : State) (id off : Nat) (v mask : W32) : State :=
  if v &&& ~~~mask == 0 then s.runCommand id off v
  else
    match cmdStatus off with
    | some (st, busy) =>
      let s' := match busy with
        | some b => if s.bit st b then s else s.cmdSlot off v
        | none => s
      s'.status st (s.reservedCode id off st (v &&& mask))
    | none => s

/-! ### The other registers (R718 to R724) -/

/-- Writing 1 clears (Table 0.4); CSQ_PF_STATUS_W1C clears UNDERRUN of the Publish FIFO. -/
def State.writeClear (s : State) (off : Nat) (v mask : W32) : State :=
  let s := s.setReg off (s.reg off &&& ~~~(v &&& mask))
  if off == Reg.CSQ_PF_STATUS_W1C && v.getLsbD 0 then s.setFifo 0 { s.fifo 0 with underrun := false } else s

/-- The bits of a status register that a host write of 1 clears: CONS_REJECTED of CSQ_STATUS (Table 10.7) and WR_IGNORED of a streaming
set (Table 6.4). -/
def State.writeStatus (s : State) (off : Nat) (v : W32) : State :=
  let n := (off - 0x701000) / 128
  if off == Reg.CSQ_STATUS && v.getLsbD 8 then s.setBit off 8 false
  else if n < 16 && off == Reg.DML_SS_ST n && v.getLsbD 10 then s.setBit off 10 false
  else s

/-- TBU_CTRL: EN and WORK_DOM, SRC while it is not locked, then SET (Table 2.5). -/
def State.tbuCtrl (s : State) (v : W32) : State :=
  let s := (s.setBit Reg.TBU_CTRL 0 (v.getLsbD 0)).setWorkDom (if v.getLsbD 1 then .b else .a)
  let s := s.setSrc (BitVec.ofNat 2 (fieldOf v 2 2))
  if v.getLsbD 7 then s.doTimeSet else s

/-- SLK_CTRL.CONFIG names a configuration whose feature is absent: refused (Table 17.4). -/
def State.configAbsent (s : State) (off : Nat) (v : W32) : Bool :=
  off == Reg.SLK_CTRL && ((fieldOf v 1 2 == 1 && !s.feat 5) || (fieldOf v 1 2 == 2 && !s.feat 7))

/-- Writes that a register's own rule ignores: HIF_FEAT_DRV while LOCKED (R702), HIF_EVT_BASE and SIZE while EN is set (R710). -/
def State.ignores (s : State) (off : Nat) : Bool :=
  (Reg.HIF_FEAT_DRV 0 ≤ off && off ≤ Reg.HIF_FEAT_DRV 7 && s.locked) ||
  ((off == Reg.HIF_EVT_BASE_LO || off == Reg.HIF_EVT_BASE_HI || off == Reg.HIF_EVT_SIZE) && s.bit Reg.HIF_EVT_CFG 0)

/-- What follows at once from a new value: MEM_SCRUB_LAP sets the target in force as well (log entry 28), a raised TBU_PPS_CFG.GATE takes
PPS_OUT low (R74), the GM bits follow the domain configuration (Table 2.6), and FREE_RUN follows the device's place in a pair or drove
(R748). `was`: SRC named no source before. -/
def State.wroteReg (s : State) (off : Nat) (was : Bool) : State :=
  if off == Reg.MEM_SCRUB_LAP then s.setReg Reg.MEM_SCRUB_TARGET (s.reg off)
  else if off == Reg.TBU_PPS_CFG then s.ppsGate
  else if off == Reg.TBU_DOMA_CFG || off == Reg.TBU_DOMB_CFG then s.refreshDoms
  else if off == Reg.SLK_CTRL then s.followSource was
  else s

/-- A register without behaviour of its own takes the bits that are not reserved. -/
def State.plainWrite (s : State) (off : Nat) (v mask : W32) : State :=
  (s.setReg off ((s.reg off &&& ~~~mask) ||| (s.featBits off v &&& mask))).wroteReg off s.noSource

/-- A write of an RW or RWL register: those with rules of their own, then R719 and R720, then the rest. -/
def State.writeRw (s : State) (off : Nat) (v : W32) (d : RegDef) : State :=
  let n := (off - 0x701000) / 128
  let w := (off - Reg.DML_SS_SHD n 0) / 4
  if off == Reg.TBU_CTRL then s.tbuCtrl v
  else if off == Reg.HIF_EVT_CFG then s.evtCfg v
  else if off == Reg.HIF_EVT_CONS then s.evtCons v
  else if off == Reg.CSQ_CTRL then s.csqCtrl v
  else if off == Reg.CSQ_RING_CONS then s.ringCons v
  else if off == Reg.SEC_ALARM_POL then s.alarmPolicy v
  else if Reg.HIF_SIGMAP 0 ≤ off && off ≤ Reg.HIF_SIGMAP 55 then s.sigmap ((off - Reg.HIF_SIGMAP 0) / 4) v
  else if Reg.SLK_MRING_CONS 0 ≤ off && off ≤ Reg.SLK_MRING_CONS 63 then s.mringCons ((off - Reg.SLK_MRING_CONS 0) / 8) v
  else if n < 16 && Reg.DML_SS_SHD n 0 ≤ off && w < 8 then s.doShadow n w v
  else if !d.chks.all (Chk.ok v) || s.ignores off || s.configAbsent off v then s
  else s.plainWrite off v d.mask

/-- A 32-bit write to BAR0 past its hurdle, by an initiator. R724 freezes host writes only. -/
def State.regPut (s : State) (id off : Nat) (v : W32) : State :=
  match regDef? off with
  | none => s
  | some d =>
    match d.acc with
    | .ro => s
    | .rws => s
    | .rov => s.writeStatus off v
    | .w1c => s.writeClear off v d.mask
    | .wo => s.command id off v d.mask
    | .rw => if id == idHost && s.frozen off then s else s.writeRw off v d
    | .rwl => if (id == idHost && s.frozen off) || (s.lth.rwl && id != idLth) then s else s.writeRw off v d

/-- A 32-bit read past its hurdle, with the side effects of Table 18.3. -/
def State.regTake (s : State) (id off : Nat) : Except Nat W32 × State :=
  if off == Reg.CSQ_PF_DATA then
    match s.fifoGet 0 id with
    | (.ok w, s) => (.ok (w.setWidth 32), s.setReg Reg.CSQ_PF_DATA_HI (BitVec.ofNat 32 (w.toNat / 2 ^ 32)))
    | (.error e, s) => (.error e, s)
  else
    let s := if off == Reg.TBU_TIME_SNAP 0 then s.snapTime
      else if off == Reg.EGO_LAST_REC 0 then s.latchEgo
      else if off == Reg.HIF_EVT_LAST 0 then s.latchLast
      else s
    (.ok (s.regRead off), s)

/-! ### BAR0 requests (R693) -/

/-- A register request has a size and alignment that R693 admits. -/
def sizeOk (off size : Nat) : Bool := (size == 4 || size == 8) && off % size == 0

/-- The registers a request acts on, in ascending order, with the word written to each. -/
def halves (off size : Nat) (data : BitVec 64) : List (Nat × W32) :=
  if size == 8 then [(off, data.setWidth 32), (off + 4, (data >>> 32).setWidth 32)] else [(off, data.setWidth 32)]

/-- The kind of access to each register of a request. -/
def reqKind (write : Bool) (p : Nat × W32) : Kind := if write then writeKind p.1 p.2 else .read

/-- The kinds of a request's registers that H36 denies an initiator. -/
def State.refusedKinds (s : State) (id : Nat) (write : Bool) (ps : List (Nat × W32)) : List Kind :=
  (ps.map (reqKind write)).filter (fun k => !s.admitsReg 36 id k ((ps.map (·.1)).headD 0) (4 * ps.length))

/-- Perform a request past the hurdle: writes in ascending order, or the bytes read and the first error. -/
def State.regAccess (s : State) (id : Nat) (write : Bool) (ps : List (Nat × W32)) : Except Nat (List Byte) × State :=
  if write then (.ok [], ps.foldl (fun s p => s.regPut id p.1 p.2) s)
  else ps.foldl (fun (r, s) p =>
    match r with
    | .error e => (.error e, s)
    | .ok bs =>
      match s.regTake id p.1 with
      | (.ok v, s) => (.ok (bs ++ leBytes 4 v.toNat), s)
      | (.error e, s) => (.error e, s)) (.ok [], s)

/-- A host request to BAR0: D3hot, size and alignment, a halted boot, H36, a dark domain, then the registers (R641, R690, R693, R694, R717). -/
def State.bar0 (s : State) (write : Bool) (off size : Nat) (data : BitVec 64) : State :=
  if !s.hostUp then s
  else if s.bit Reg.HIF_STATUS 8 then s.failHost .ur
  else if !sizeOk off size || (s.sec.halt.isSome && (write || off / 0x100000 != 15)) then s.failHost .ca
  else
    let ps := halves off size data
    match s.refusedKinds idHost write ps with
    | k :: _ => (s.refuseAccess (some 36) idHost k off).failHost .ca
    | [] =>
      if s.dark off then (if write then s.darkAccess else s.darkAccess.emit (.host .sc (leBytes size 0)))
      else
        match s.regAccess idHost write ps with
        | (.ok bs, s) => if write then s else s.emit (.host .sc bs)
        | (.error _, s) => s.failHost .ca

/-- REGISTER_WRITE row (R718): a host request to BAR0. -/
def execRegisterWrite (write : Bool) (off : BitVec 25) (size : Nat) (data : BitVec 64) (s : State) : Host.Outcome State Fault Refusal :=
  .next (s.bar0 write off.toNat size data)

/-! ### BAR2 requests (R19, R20, R695) -/

/-- The device address of a BAR2 offset (Table 1.6). -/
def bar2Addr (off : Nat) : Option Nat :=
  if off < 0x800000000 then some (0x1000000000 + off)
  else if 0x800000000 ≤ off && off ≤ 0x8021FFFFF then some (off - 0x800000000)
  else if 0x840000000 ≤ off && off ≤ 0x841FFFFFF then some (off - 0x800000000)
  else none

/-- A malformed TLP: no part of it is performed, and AER logs an uncorrectable error as PCI Express 4.0 states, Malformed TLP Status being bit
18 of its status word (R20, log entry 14); event 0x0004 reports it at most once per second (Table 17.8). -/
def State.malformedTlp (s : State) : State :=
  let (v, s) := s.draw
  let s := if dueAfter s.hif.aerLog secT s.now then
    { s with hif := { s.hif with aerLog := some s.now } }.event 0x00 2 0x0004 0 (leBytes 4 (v % 2 ^ 32 ||| 2 ^ 18)) else s
  s.emit (.host .malformed [])

/-- A host request to BAR2; writes are posted, so only one that fails completes. -/
def State.bar2 (s : State) (write : Bool) (off len : Nat) (data : List Byte) : State :=
  if !s.hostUp then s
  else if s.bit Reg.HIF_STATUS 8 then s.failHost .ur
  else if len == 0 || 4096 < off % 4096 + len then s.malformedTlp
  else if s.sec.halt.isSome || s.pwr == 2 then s.failHost .ca
  else
    match bar2Addr off with
    | none => s.failHost .ur
    | some a =>
      if write then
        let (e, s) := s.busWrite idHost a (fit len data)
        if e == DONE then s else s.failHost .ca
      else
        match s.busRead idHost a len with
        | (.ok bs, s) => s.emit (.host .sc bs)
        | (.error _, s) => s.failHost .ca

/-- HOST_BAR2_REQUEST row (R20). -/
def execHostBar2Request (write : Bool) (off : BitVec 36) (len : Nat) (data : List Byte) (s : State) : Host.Outcome State Fault Refusal :=
  .next (s.bar2 write off.toNat len data)

/-! ### On-die transactions (R10, R18, R573, R575) -/

/-- Completion of a transaction at its initiator. -/
def State.busDone (s : State) (id code : Nat) (bs : List Byte) : State := s.emit (.bus id code bs)

/-- A transaction that a hurdle refuses: BUS_ERROR_FENCED for a revoked ID, otherwise BUS_ERROR_HURDLE (R18, R232, Table 1.10). -/
def State.busRefuse (s : State) (h : Option Nat) (id : Nat) (k : Kind) (a : Nat) : State :=
  let code := if s.revoked id then BUS_ERROR_FENCED else BUS_ERROR_HURDLE
  (s.refuseAccess h id k a).busDone id code []

/-- A transaction to a device address: memory, or a tile's command window (Table 13.4). CSQ and TAC write stage queues (R217). -/
def State.busDev (s : State) (id : Nat) (k : Kind) (a n : Nat) (data : List Byte) : State :=
  match k with
  | .read =>
    if s.revoked id then s.busRefuse (hurdleOf a) id k a
    else
      match s.busRead id a n with
      | (.ok bs, s) => s.busDone id DONE bs
      | (.error e, s) => s.busDone id e []
  | .write =>
    if s.revoked id then s.busRefuse (hurdleOf a) id k a
    else
      let (c, s) := s.busWrite id a (fit n data)
      s.busDone id c []
  | .command =>
    if tileEnd ≤ a || !s.admits id .command a n then s.busRefuse (hurdleOf a) id k a
    else
      let (c, s) := s.tileEnqueue (a / 0x100000) (if id == idCsq || id == idTac then .stage else .background) id (fit 64 data)
      if c == DONE then s else s.emit (.done 0x06 id c)

/-- A transaction to BAR0, behind H36. Its kind is that of the register (R573); a size or alignment that R693 does not admit has no
effect. -/
def State.busBar0 (s : State) (id : Nat) (k : Kind) (off n : Nat) (data : List Byte) : State :=
  let write := k != .read
  let ps := halves off n (BitVec.ofNat 64 (leNat (data.take n)))
  if s.revoked id then s.busRefuse (some 36) id k off
  else if !sizeOk off n then s.busDone id BUS_ERROR_HURDLE []
  else
    match s.refusedKinds id write ps with
    | k' :: _ => s.busRefuse (some 36) id k' off
    | [] =>
      if s.dark off then s.busDone id DONE (if write then [] else leBytes n 0)
      else
        match s.regAccess id write ps with
        | (.ok bs, s) => s.busDone id DONE bs
        | (.error e, s) => s.busDone id e []

/-- A command written to a command port behind H37: the word of the block's command register, followed for TAC by its argument words and for
the BSE in place of it by the 64-byte descriptor (Table 13.4; forms log entry 28). Its status goes to the initiator (R37). -/
def State.busPort (s : State) (id off : Nat) (data : List Byte) : State :=
  let w : W32 := BitVec.ofNat 32 (u data 0 4)
  let a1 := u data 4 4
  let a2 := u data 8 4
  let n := fieldOf w 0 20
  let tac (r : Nat × State) : State := r.2.emit (.done 0x08 id r.1)
  let viaReg (block st : Nat) (s : State) : State := s.emit (.done block id (s.fld' st 0 8))
  if s.revoked id || !s.admitsReg 37 id .command off 4 then s.busRefuse (some 37) id .command off
  else if s.dark off then s
  else if off == Reg.TAC_CMD_SEQ then
    match fieldOf w 20 12 with
    | 1 => tac (s.doOpen n a1 (a2 % 4096))
    | 2 => tac (s.doFallow n)
    | 3 => tac (s.doActivate n)
    | 4 => tac (s.doClose n)
    | _ => tac (REFUSED_DESCRIPTOR, s)
  else if off == Reg.TAC_CMD_PGT_EDIT then
    match s.doPgt n (fieldOf w 20 3) (fieldOf w 24 5) with
    | (some c, s) => tac (c, s)
    | (none, s) => s.pgtWait ⟨id, n, fieldOf w 20 3, fieldOf w 24 5⟩
  else if off == Reg.TAC_CMD_FLOCK then
    match fieldOf w 12 20 with
    | 1 => tac (s.doFlockCreate (fieldOf w 0 12) a1 a2)
    | 2 => tac (s.doSetQuota (fieldOf w 0 12) a1 a2)
    | 3 => tac (s.doDisable (fieldOf w 0 12))
    | _ => tac (REFUSED_DESCRIPTOR, s)
  else if off == Reg.BSE_DOORBELL then
    let (c, s) := s.submit id (fit 64 data)
    if c == DONE then s else s.emit (.done 0x0A id c)
  else if off == Reg.FLD_TRACK_CMD then viaReg 0x09 Reg.FLD_TRACK_CMD_ST (s.doTrackCmd w)
  else if off == Reg.SLK_CMD then viaReg 0x10 Reg.SLK_CMD_ST (s.doSlkCmd w)
  else if off == Reg.LTH_CMD then viaReg 0x0C Reg.LTH_CMD_ST (s.lthCmd w)
  else s.busDone id BUS_ERROR_HURDLE []

/-- A transaction meets the hurdle in front of its target: nothing while the network is off (Table 16.1); a revoked ID first (R576), then
checkers that disagree (R575), then the rules. -/
def State.busTxn (s : State) (t : BusTxn) : State :=
  let id := t.id.toNat
  let a := t.addr.toNat
  if !s.powered 92 then s
  else if t.disagree && !s.revoked id then s.checkersDisagree.busDone id BUS_ERROR_HURDLE []
  else
    match t.space with
    | .dev => s.busDev id t.kind a t.len t.data
    | .bar0 => s.busBar0 id t.kind a t.len t.data
    | .port => s.busPort id a t.data

/-- ON_DIE_TRANSACTION row (R573). -/
def execOnDieTransaction (t : BusTxn) (s : State) : Host.Outcome State Fault Refusal := .next (s.busTxn t)

end Sys2Proof.Machine
end

