-- ==== Sys2Proof/Machine/Dispatch.lean ====
section
/-! DEFINITION. Machine/Dispatch.lean: one arm per command. -/

namespace Sys2Proof.Machine

/-- The effect of a command on everything but the queue. -/
def exec (i : Instr) (s : State) : Host.Outcome State Fault Refusal :=
  match i with
  | .hostBar2Request write off len data => Sys2Proof.Machine.execHostBar2Request write off len data s
  | .onDieTransaction t => Sys2Proof.Machine.execOnDieTransaction t s
  | .registerWrite write off size data => Sys2Proof.Machine.execRegisterWrite write off size data s
  | .gptpSync m => Sys2Proof.Machine.execGptpSync m s
  | .gptpSyncMonitored m => Sys2Proof.Machine.execGptpSyncMonitored m s
  | .gptpAnnounce dom a => Sys2Proof.Machine.execGptpAnnounce dom a s
  | .gptpPdelay port x => Sys2Proof.Machine.execGptpPdelay port x s
  | .syncReceiptTimeout => Sys2Proof.Machine.execSyncReceiptTimeout s
  | .holdoverMaxExpiry => Sys2Proof.Machine.execHoldoverMaxExpiry s
  | .timeBlockSend => Sys2Proof.Machine.execTimeBlockSend s
  | .timeBlock port b => Sys2Proof.Machine.execTimeBlock port b s
  | .timeBlockTimeout => Sys2Proof.Machine.execTimeBlockTimeout s
  | .delayRequestSend port => Sys2Proof.Machine.execDelayRequestSend port s
  | .delayRequest port rx => Sys2Proof.Machine.execDelayRequest port rx s
  | .delayResponse port x => Sys2Proof.Machine.execDelayResponse port x s
  | .ppsOutRise => Sys2Proof.Machine.execPpsOutRise s
  | .ppsOutFall => Sys2Proof.Machine.execPpsOutFall s
  | .ppsInEdge raw => Sys2Proof.Machine.execPpsInEdge raw s
  | .ppsInTimeout => Sys2Proof.Machine.execPpsInTimeout s
  | .timeSnapshot => Sys2Proof.Machine.execTimeSnapshot s
  | .timeSet => Sys2Proof.Machine.execTimeSet s
  | .workDomWrite dom => Sys2Proof.Machine.execWorkDomWrite dom s
  | .tbuSrcWrite src => Sys2Proof.Machine.execTbuSrcWrite src s
  | .csiFrameStart p h raw => Sys2Proof.Machine.execCsiFrameStart p h raw s
  | .csiImageLine p vc line => Sys2Proof.Machine.execCsiImageLine p vc line s
  | .csiEmbeddedData p vc line => Sys2Proof.Machine.execCsiEmbeddedData p vc line s
  | .csiFrameEnd p h => Sys2Proof.Machine.execCsiFrameEnd p h s
  | .csiLineMarker p h isEnd => Sys2Proof.Machine.execCsiLineMarker p h isEnd s
  | .csiUnboundPacket p h dt => Sys2Proof.Machine.execCsiUnboundPacket p h dt s
  | .csiBadHeader p => Sys2Proof.Machine.execCsiBadHeader p s
  | .ethFrameReceived q f => Sys2Proof.Machine.execEthFrameReceived q f s
  | .ethFrameTransmit q => Sys2Proof.Machine.execEthFrameTransmit q s
  | .tasGateEvent q => Sys2Proof.Machine.execTasGateEvent q s
  | .pointPacket d => Sys2Proof.Machine.execPointPacket d s
  | .partnerList d => Sys2Proof.Machine.execPartnerList d s
  | .canMessage n m => Sys2Proof.Machine.execCanMessage n m s
  | .canErrorFrame e => Sys2Proof.Machine.execCanErrorFrame e s
  | .canBusOff n => Sys2Proof.Machine.execCanBusOff n s
  | .canBusRecovery n => Sys2Proof.Machine.execCanBusRecovery n s
  | .imuDrdyEdge n e => Sys2Proof.Machine.execImuDrdyEdge n e s
  | .imuResponse n data => Sys2Proof.Machine.execImuResponse n data s
  | .imuDrdyMiss n => Sys2Proof.Machine.execImuDrdyMiss n s
  | .sqiDegraded q sqi => Sys2Proof.Machine.execSqiDegraded q sqi s
  | .slotSilence slot => Sys2Proof.Machine.execSlotSilence slot s
  | .partnerLeave slot => Sys2Proof.Machine.execPartnerLeave slot s
  | .quarantineHoldEnd u => Sys2Proof.Machine.execQuarantineHoldEnd u s
  | .admission slot => Sys2Proof.Machine.execAdmission slot s
  | .slotRelease slot => Sys2Proof.Machine.execSlotRelease slot s
  | .slotReadmit slot => Sys2Proof.Machine.execSlotReadmit slot s
  | .slotQuarantine slot => Sys2Proof.Machine.execSlotQuarantine slot s
  | .patchDue path => Sys2Proof.Machine.execPatchDue path s
  | .patchInject path => Sys2Proof.Machine.execPatchInject path s
  | .patchEvaluation path lost flip => Sys2Proof.Machine.execPatchEvaluation path lost flip s
  | .fcuClusterEmit slot => Sys2Proof.Machine.execFcuClusterEmit slot s
  | .pointDeskew => Sys2Proof.Machine.execPointDeskew s
  | .deskewHoldResume => Sys2Proof.Machine.execDeskewHoldResume s
  | .deskewExtrapolate => Sys2Proof.Machine.execDeskewExtrapolate s
  | .depthImageClose cam => Sys2Proof.Machine.execDepthImageClose cam s
  | .gridFrameClose => Sys2Proof.Machine.execGridFrameClose s
  | .calEstimate slot est => Sys2Proof.Machine.execCalEstimate slot est s
  | .calReset slot => Sys2Proof.Machine.execCalReset slot s
  | .freeze slot => Sys2Proof.Machine.execFreeze slot s
  | .unfreeze slot => Sys2Proof.Machine.execUnfreeze slot s
  | .egoKeyframe k => Sys2Proof.Machine.execEgoKeyframe k s
  | .egoSmootherResult r => Sys2Proof.Machine.execEgoSmootherResult r s
  | .egoHoldTimeout => Sys2Proof.Machine.execEgoHoldTimeout s
  | .egoRecordSnapshot => Sys2Proof.Machine.execEgoRecordSnapshot s
  | .tileCommandEnqueue tile q id desc => Sys2Proof.Machine.execTileCommandEnqueue tile q id desc s
  | .matmul tile e => Sys2Proof.Machine.execMatmul tile e s
  | .conv tile e => Sys2Proof.Machine.execConv tile e s
  | .vector tile e => Sys2Proof.Machine.execVector tile e s
  | .kernel tile e => Sys2Proof.Machine.execKernel tile e s
  | .attend tile e => Sys2Proof.Machine.execAttend tile e s
  | .sync tile => Sys2Proof.Machine.execSync tile s
  | .bist tile passed => Sys2Proof.Machine.execBist tile passed s
  | .tileCommandComplete tile => Sys2Proof.Machine.execTileCommandComplete tile s
  | .tileDeadline tile => Sys2Proof.Machine.execTileDeadline tile s
  | .tileHeartbeatMiss tile => Sys2Proof.Machine.execTileHeartbeatMiss tile s
  | .spareWakeDone => Sys2Proof.Machine.execSpareWakeDone s
  | .spareBistDone passed => Sys2Proof.Machine.execSpareBistDone passed s
  | .spareLoadDone => Sys2Proof.Machine.execSpareLoadDone s
  | .tileInject tile w => Sys2Proof.Machine.execTileInject tile w s
  | .tileDoorbell tile => Sys2Proof.Machine.execTileDoorbell tile s
  | .offlineBistRequest tile => Sys2Proof.Machine.execOfflineBistRequest tile s
  | .offlineBistDone passed => Sys2Proof.Machine.execOfflineBistDone passed s
  | .descCreate handle => Sys2Proof.Machine.execDescCreate handle s
  | .descDestroy handle => Sys2Proof.Machine.execDescDestroy handle s
  | .signalRaise sig inc => Sys2Proof.Machine.execSignalRaise sig inc s
  | .setTriggerIngress set row item => Sys2Proof.Machine.execSetTriggerIngress set row item s
  | .setTriggerStep set => Sys2Proof.Machine.execSetTriggerStep set s
  | .setTriggerSignal set => Sys2Proof.Machine.execSetTriggerSignal set s
  | .setTriggerOnce set => Sys2Proof.Machine.execSetTriggerOnce set s
  | .setTransferDone set => Sys2Proof.Machine.execSetTransferDone set s
  | .setTransferDeadline set => Sys2Proof.Machine.execSetTransferDeadline set s
  | .shadowWrite set word v => Sys2Proof.Machine.execShadowWrite set word v s
  | .setCommit set => Sys2Proof.Machine.execSetCommit set s
  | .programGo ch => Sys2Proof.Machine.execProgramGo ch s
  | .programAbort ch => Sys2Proof.Machine.execProgramAbort ch s
  | .move ch => Sys2Proof.Machine.execMove ch s
  | .loop ch => Sys2Proof.Machine.execLoop ch s
  | .wait ch => Sys2Proof.Machine.execWait ch s
  | .signal ch => Sys2Proof.Machine.execSignal ch s
  | .fence ch => Sys2Proof.Machine.execFence ch s
  | .endProgram ch => Sys2Proof.Machine.execEndProgram ch s
  | .moveDone ch k => Sys2Proof.Machine.execMoveDone ch k s
  | .waitTimeout ch => Sys2Proof.Machine.execWaitTimeout ch s
  | .openSeq id slot tid flock => Sys2Proof.Machine.execOpenSeq id slot tid flock s
  | .fallow id slot => Sys2Proof.Machine.execFallow id slot s
  | .activate id slot => Sys2Proof.Machine.execActivate id slot s
  | .close id slot => Sys2Proof.Machine.execClose id slot s
  | .dropOldest id slot count => Sys2Proof.Machine.execDropOldest id slot count s
  | .dropAll id slot => Sys2Proof.Machine.execDropAll id slot s
  | .addPage id slot size => Sys2Proof.Machine.execAddPage id slot size s
  | .flockCreate id flock pageQ lim => Sys2Proof.Machine.execFlockCreate id flock pageQ lim s
  | .setQuota id flock pageQ lim => Sys2Proof.Machine.execSetQuota id flock pageQ lim s
  | .disableFlock id flock => Sys2Proof.Machine.execDisableFlock id flock s
  | .kvAppend slot time sensor late => Sys2Proof.Machine.execKvAppend slot time sensor late s
  | .reclaimer => Sys2Proof.Machine.execReclaimer s
  | .walkStart slot tile ahead => Sys2Proof.Machine.execWalkStart slot tile ahead s
  | .walkEnd slot => Sys2Proof.Machine.execWalkEnd slot s
  | .ingestCutoff => Sys2Proof.Machine.execIngestCutoff s
  | .detectionReady d => Sys2Proof.Machine.execDetectionReady d s
  | .trackConfirmTimeout slot => Sys2Proof.Machine.execTrackConfirmTimeout slot s
  | .trackCoastTimeout slot => Sys2Proof.Machine.execTrackCoastTimeout slot s
  | .trackFallowTimeout slot => Sys2Proof.Machine.execTrackFallowTimeout slot s
  | .fallowMaxTimeout slot => Sys2Proof.Machine.execFallowMaxTimeout slot s
  | .kill slot => Sys2Proof.Machine.execKill slot s
  | .clearContra slot => Sys2Proof.Machine.execClearContra slot s
  | .contraDecay => Sys2Proof.Machine.execContraDecay s
  | .batchSubmit id desc => Sys2Proof.Machine.execBatchSubmit id desc s
  | .bseDoorbell => Sys2Proof.Machine.execBseDoorbell s
  | .problemStart lane => Sys2Proof.Machine.execProblemStart lane s
  | .problemDone lane r => Sys2Proof.Machine.execProblemDone lane r s
  | .batchCutoff tag => Sys2Proof.Machine.execBatchCutoff tag s
  | .batchDone tag => Sys2Proof.Machine.execBatchDone tag s
  | .bseInject w => Sys2Proof.Machine.execBseInject w s
  | .runStart => Sys2Proof.Machine.execRunStart s
  | .runStop => Sys2Proof.Machine.execRunStop s
  | .cycleStopped => Sys2Proof.Machine.execCycleStopped s
  | .stageOpen k => Sys2Proof.Machine.execStageOpen k s
  | .stageClose k w => Sys2Proof.Machine.execStageClose k w s
  | .stageComplete k => Sys2Proof.Machine.execStageComplete k s
  | .windowWatchdogTimeout k sig => Sys2Proof.Machine.execWindowWatchdogTimeout k sig s
  | .publicationStart => Sys2Proof.Machine.execPublicationStart s
  | .csSegmentSent => Sys2Proof.Machine.execCsSegmentSent s
  | .cadenceRequest idx => Sys2Proof.Machine.execCadenceRequest idx s
  | .cadenceSwitch => Sys2Proof.Machine.execCadenceSwitch s
  | .ringConsWrite v => Sys2Proof.Machine.execRingConsWrite v s
  | .pfifoRead wide => Sys2Proof.Machine.execPfifoRead wide s
  | .load => Sys2Proof.Machine.execLoad s
  | .loadEnd => Sys2Proof.Machine.execLoadEnd s
  | .abort => Sys2Proof.Machine.execAbort s
  | .rbAdvance => Sys2Proof.Machine.execRbAdvance s
  | .rbAdvanceDone => Sys2Proof.Machine.execRbAdvanceDone s
  | .unload => Sys2Proof.Machine.execUnload s
  | .resumeDone => Sys2Proof.Machine.execResumeDone s
  | .memFillDone sram dram => Sys2Proof.Machine.execMemFillDone sram dram s
  | .scrubRead loc => Sys2Proof.Machine.execScrubRead loc s
  | .islandScrubRead offset bits => Sys2Proof.Machine.execIslandScrubRead offset bits s
  | .scrubAdaptPeriod => Sys2Proof.Machine.execScrubAdaptPeriod s
  | .ceRateReport => Sys2Proof.Machine.execCeRateReport s
  | .retireAdd => Sys2Proof.Machine.execRetireAdd s
  | .memInject w => Sys2Proof.Machine.execMemInject w s
  | .fifoWrite f w => Sys2Proof.Machine.execFifoWrite f w s
  | .fifoFlush f => Sys2Proof.Machine.execFifoFlush f s
  | .fifoRead f => Sys2Proof.Machine.execFifoRead f s
  | .lockstepMismatch p => Sys2Proof.Machine.execLockstepMismatch p s
  | .pairRestartDone p => Sys2Proof.Machine.execPairRestartDone p s
  | .islandPairMiss p => Sys2Proof.Machine.execIslandPairMiss p s
  | .conditionHoldExpiry c => Sys2Proof.Machine.execConditionHoldExpiry c s
  | .force level => Sys2Proof.Machine.execForce level s
  | .release => Sys2Proof.Machine.execRelease s
  | .restart => Sys2Proof.Machine.execRestart s
  | .fbCluster slot => Sys2Proof.Machine.execFbCluster slot s
  | .fbMotionSample m => Sys2Proof.Machine.execFbMotionSample m s
  | .fbPartnerList slot bytes => Sys2Proof.Machine.execFbPartnerList slot bytes s
  | .fbTrackTimeout n => Sys2Proof.Machine.execFbTrackTimeout n s
  | .hbToggle => Sys2Proof.Machine.execHbToggle s
  | .safeReqChange level => Sys2Proof.Machine.execSafeReqChange level s
  | .linkLock p => Sys2Proof.Machine.execLinkLock p s
  | .linkCtl p h a => Sys2Proof.Machine.execLinkCtl p h a s
  | .linkReplayTimeout p => Sys2Proof.Machine.execLinkReplayTimeout p s
  | .hello p h m => Sys2Proof.Machine.execHello p h m s
  | .echo p h reply crcOk => Sys2Proof.Machine.execEcho p h reply crcOk s
  | .feat p h feats => Sys2Proof.Machine.execFeat p h feats s
  | .epoch p h m => Sys2Proof.Machine.execEpoch p h m s
  | .deltaRec p h recs => Sys2Proof.Machine.execDeltaRec p h recs s
  | .deltaKv p h items => Sys2Proof.Machine.execDeltaKv p h items s
  | .deltaSeq p h items => Sys2Proof.Machine.execDeltaSeq p h items s
  | .stepEnd p h m => Sys2Proof.Machine.execStepEnd p h m s
  | .deltaAck p h => Sys2Proof.Machine.execDeltaAck p h s
  | .syncData p h c => Sys2Proof.Machine.execSyncData p h c s
  | .handoff p h k => Sys2Proof.Machine.execHandoff p h k s
  | .detFwd p h dets => Sys2Proof.Machine.execDetFwd p h dets s
  | .detClaim p h claims => Sys2Proof.Machine.execDetClaim p h claims s
  | .hand p h c => Sys2Proof.Machine.execHand p h c s
  | .handAck p h globalId status => Sys2Proof.Machine.execHandAck p h globalId status s
  | .handAbort p h globalId => Sys2Proof.Machine.execHandAbort p h globalId s
  | .listFrame p h bytes => Sys2Proof.Machine.execListFrame p h bytes s
  | .stepEndTimeout => Sys2Proof.Machine.execStepEndTimeout s
  | .deltaAckTimeout => Sys2Proof.Machine.execDeltaAckTimeout s
  | .memberTimeout dev => Sys2Proof.Machine.execMemberTimeout dev s
  | .bellwetherTimeout => Sys2Proof.Machine.execBellwetherTimeout s
  | .handAckDeadline slot => Sys2Proof.Machine.execHandAckDeadline slot s
  | .handAbortDeadline slot => Sys2Proof.Machine.execHandAbortDeadline slot s
  | .handRetryExpiry slot => Sys2Proof.Machine.execHandRetryExpiry slot s
  | .borderHoldExpiry => Sys2Proof.Machine.execBorderHoldExpiry s
  | .switchover => Sys2Proof.Machine.execSwitchover s
  | .handoffStep => Sys2Proof.Machine.execHandoffStep s
  | .resync => Sys2Proof.Machine.execResync s
  | .portReadmit p => Sys2Proof.Machine.execPortReadmit p s
  | .mringConsWrite m v => Sys2Proof.Machine.execMringConsWrite m v s
  | .importKey => Sys2Proof.Machine.execImportKey s
  | .clearKey => Sys2Proof.Machine.execClearKey s
  | .bind => Sys2Proof.Machine.execBind s
  | .unbind => Sys2Proof.Machine.execUnbind s
  | .selectTx => Sys2Proof.Machine.execSelectTx s
  | .challenge => Sys2Proof.Machine.execChallenge s
  | .unlock => Sys2Proof.Machine.execUnlock s
  | .revoke => Sys2Proof.Machine.execRevoke s
  | .reprovision => Sys2Proof.Machine.execReprovision s
  | .provision => Sys2Proof.Machine.execProvision s
  | .attest => Sys2Proof.Machine.execAttest s
  | .zeroise => Sys2Proof.Machine.execZeroise s
  | .secCommandComplete => Sys2Proof.Machine.execSecCommandComplete s
  | .alarmTrip sources => Sys2Proof.Machine.execAlarmTrip sources s
  | .trngHealthFail => Sys2Proof.Machine.execTrngHealthFail s
  | .alarmPolicyWrite v => Sys2Proof.Machine.execAlarmPolicyWrite v s
  | .standby => Sys2Proof.Machine.execStandby s
  | .wake => Sys2Proof.Machine.execWake s
  | .sentinel dramKeep => Sys2Proof.Machine.execSentinel dramKeep s
  | .powerTransitionDone => Sys2Proof.Machine.execPowerTransitionDone s
  | .tc10Wake => Sys2Proof.Machine.execTc10Wake s
  | .canWake n us => Sys2Proof.Machine.execCanWake n us s
  | .wakeTimerExpiry => Sys2Proof.Machine.execWakeTimerExpiry s
  | .warm => Sys2Proof.Machine.execWarm s
  | .accel => Sys2Proof.Machine.execAccel s
  | .tileReset tile => Sys2Proof.Machine.execTileReset tile s
  | .porNAssert => Sys2Proof.Machine.execPorNAssert s
  | .porNRelease bootSel boot => Sys2Proof.Machine.execPorNRelease bootSel boot s
  | .warmNAssert ns => Sys2Proof.Machine.execWarmNAssert ns s
  | .perstAssert => Sys2Proof.Machine.execPerstAssert s
  | .perstRelease => Sys2Proof.Machine.execPerstRelease s
  | .deviceReady => Sys2Proof.Machine.execDeviceReady s
  | .pllLock n => Sys2Proof.Machine.execPllLock n s
  | .tileDomainReady tile => Sys2Proof.Machine.execTileDomainReady tile s
  | .xtal32kStable => Sys2Proof.Machine.execXtal32kStable s
  | .thermalNear temp => Sys2Proof.Machine.execThermalNear temp s
  | .go => Sys2Proof.Machine.execGo s
  | .featureUnlock => Sys2Proof.Machine.execFeatureUnlock s
  | .eventLogEntry => Sys2Proof.Machine.execEventLogEntry s
  | .evtConsWrite v => Sys2Proof.Machine.execEvtConsWrite v s
  | .evtCfgWrite v => Sys2Proof.Machine.execEvtCfgWrite v s
  | .evtLastSnapshot => Sys2Proof.Machine.execEvtLastSnapshot s
  | .sigmapWrite v w => Sys2Proof.Machine.execSigmapWrite v w s
  | .msixModerationEnd => Sys2Proof.Machine.execMsixModerationEnd s
  | .msixUnmask v => Sys2Proof.Machine.execMsixUnmask v s
  | .busMasterEnable => Sys2Proof.Machine.execBusMasterEnable s
  | .d3hotEntry => Sys2Proof.Machine.execD3hotEntry s
  | .d3hotExit => Sys2Proof.Machine.execD3hotExit s
  | .l1EntryRequest => Sys2Proof.Machine.execL1EntryRequest s
  | .functionLevelReset => Sys2Proof.Machine.execFunctionLevelReset s
  | .pdelayReqSend port => Sys2Proof.Machine.execPdelayReqSend port s
  | .gmSyncSend dom => Sys2Proof.Machine.execGmSyncSend dom s
  | .linkDown p => Sys2Proof.Machine.execLinkDown p s
  | .ethLinkChange q up => Sys2Proof.Machine.execEthLinkChange q up s
  | .pcieLinkUp => Sys2Proof.Machine.execPcieLinkUp s
  | .suppliesInRange => Sys2Proof.Machine.execSuppliesInRange s
  | .suppliesRemoved => Sys2Proof.Machine.execSuppliesRemoved s
  | .fbDeadReckoningLost => Sys2Proof.Machine.execFbDeadReckoningLost s

end Sys2Proof.Machine
end

