-- ==== Sys2Proof/Safety.lean ====
section
/-! DEFINITION. Safety.lean: the terms claims use: the canonical form of the block's tables, so that equal contents are equal data; when a
host access reaches its register; and what one state leaves of another as it was. -/

namespace Sys2Proof.Machine

/-- Device memory is canonical: addresses strictly rise and no listed byte is the zero an unlisted byte reads as. -/
abbrev Memory.wf (m : SMap Byte) : Bool := SMap.wf (fun _ => 0) m

/-- The register file is canonical: offsets strictly rise and no listed word is its register's reset value. -/
abbrev RegFile.wf (m : SMap W32) : Bool := SMap.wf resetOf m

/-- Memory and register file are canonical. -/
def State.Canonical (s : State) : Prop := Memory.wf s.mem = true ∧ RegFile.wf s.regs = true

/-- A host access of `n` bytes reaches its register: the function is ready, in D0, no boot is halted, H36 admits the access and the
register's domain is powered (R684, R690, R641, R573, R694). -/
def State.hostOpenN (s : State) (k : Kind) (off n : Nat) : Bool :=
  s.hostUp && !s.bit Reg.HIF_STATUS 8 && s.sec.halt.isNone && s.admitsReg 36 idHost k off n && !s.dark off

/-- A host access to one register reaches it. -/
def State.hostOpen (s : State) (k : Kind) (off : Nat) : Bool := s.hostOpenN k off 4

/-- A host write of an RW register reaches it and the image load does not hold its block (R724). -/
def State.hostFree (s : State) (off : Nat) : Bool := s.hostOpen .write off && !s.frozen off

/-- A command of an initiator to a command register of TAC is carried out: the host's through the register, free of a command in hand, any
other's on the command port (R300, R573, R729). -/
def State.tacOpen (s : State) (id off st busy : Nat) : Bool :=
  if id == idHost then s.hostOpen .command off && !s.bit st busy else s.tacOn && s.admitsReg 37 id .command off 4

/-- The status of a TAC command reaches its initiator: in the status register for the host, on the command port for any other (R300). -/
def State.tacAnswer (t : State) (id st code : Nat) : Prop :=
  if id == idHost then t.fld' st 0 8 = code else t.out.getLast? = some (.done 0x08 id code)

/-- A frame of the Salarur Link at the epoch held arrives in order, whole and admissible, and its content is for this device (R13, R598 to
R600, R605, R630). -/
def State.linkTakes (s : State) (p type : Nat) (h : LinkHdr) : Bool :=
  s.linkOn p && (s.linkPort p).up && h.hcrcOk && h.pcrcOk && h.lenOk && decide (h.len ≤ 8192) && h.len % 8 == 0 &&
  (type == 1 || h.lseq.toNat == (s.linkPort p).rxSeq) && h.reservedZero && (!(s.linkPort p).held || type == 1 || type == 2 || type == 6) &&
  s.srcOk p type h && (!s.travels p type h || h.all || h.dstDev.toNat == s.devNo) && (decide (type < 0x10) || (s.linkPort p).phase == 5) &&
  h.epoch.toNat == s.epoch

/-- A memory access of an initiator reaches its bytes: the hurdle admits it, no page of it is retired, DRAM is not being refilled, its tile
is not DEAD, its domain is powered, and no location holds damage (R18, R529, R545, R573, R658). -/
def State.reaches (s : State) (id : Nat) (k : Kind) (a n : Nat) : Bool :=
  s.admits id k a n && !s.retiredAt a n && !s.dramLost a && !s.fencedTarget a && !s.asleep a && s.msys.damage.isEmpty

/-- Every byte of device memory reads in `t` as in `s`. -/
def State.SameMemory (s t : State) : Prop := ∀ a, t.byteAt a = s.byteAt a

/-- Every byte of device memory outside `n` bytes from `a` reads in `t` as in `s`. -/
def State.SameMemoryOutside (s t : State) (a n : Nat) : Prop := ∀ x, x < a ∨ a + n ≤ x → t.byteAt x = s.byteAt x

/-- Every register but those listed holds in `t` what it holds in `s`. -/
def State.SameRegsBut (s t : State) (own : List Nat) : Prop := ∀ o, o ∉ own → t.reg o = s.reg o

end Sys2Proof.Machine
end

