-- ==== Sys2Proof/Certificates/Slice0/Obligations.lean ====
section
/-! DEFINITION. Certificates/Slice0/Obligations.lean: the statements for the provers. -/

open Sys2Proof Sys2Proof.Machine

/-! ### Device time -/

/-- R58, R59: a valid Sync of the working domain, within the slew limit, moves the frequency adjustment by the two servo equations; a y
beyond the clamp is clamped and I keeps its last value. -/
def Obligations.SyncWithinSlewLimitSteersServo : Prop :=
  ∀ (m : SyncMsg) (s : State), s.powered 90 = true → s.syncValid s.workDom m = true → s.isMember = false → s.tbuSrc = 0 →
    s.bit Reg.TBU_CTRL 0 = true → (s.syncOffset m).natAbs ≤ s.regN Reg.TBU_SLEW_LIMIT * nsT →
    let g : Int := syncGain (s.dom s.workDom).logSync
    let i' := s.tbu.i + g * s.regN Reg.TBU_SERVO_KI * s.syncOffset m
    let y' := g * s.regN Reg.TBU_SERVO_KP * s.syncOffset m + i'
    ∃ t, exec (.gptpSync m) s = .next t ∧
      t.tbu.y = (if y' < -yMax then -yMax else if yMax < y' then yMax else y') ∧
      t.tbu.i = (if y' < -yMax ∨ yMax < y' then s.tbu.i else i')

/-- R63: a valid Sync beyond the slew limit with the step cycle stopped steps the time counter by -θ, keeps the integral and clears
LOCKED. -/
def Obligations.SyncBeyondSlewLimitStepsTime : Prop :=
  ∀ (m : SyncMsg) (s : State), s.powered 90 = true → s.syncValid s.workDom m = true → s.isMember = false → s.tbuSrc = 0 →
    s.regN Reg.TBU_SLEW_LIMIT * nsT < (s.syncOffset m).natAbs → s.csq.running = false →
    ∃ t, exec (.gptpSync m) s = .next t ∧
      t.tbu.now = ((max s.tbu.now m.raw : Nat) - s.syncOffset m).toNat ∧ t.tbu.i = s.tbu.i ∧ t.tbu.y = s.tbu.y ∧
      t.bit Reg.TBU_STATUS 0 = false

/-- The other gPTP rows: a Sync of the monitored domain is measured into TBU_DOM_DIFF (R47); an Announce of an eligible grandmaster where
the domain has none and the device is not eligible makes it the domain's grandmaster (R46); a peer-delay exchange gives the mean link delay;
a Pdelay_Req leaves a switch port in use with its corrected time; a domain's own grandmaster sends Sync and Announce on every port in use. -/
def Obligations.GptpMessagesHaveTheirEffect : Prop :=
  (∀ (m : SyncMsg) (s : State), s.powered 90 = true → s.syncValid (otherDom s.workDom) m = true → s.isMember = false → s.tbuSrc = 0 →
    ∃ t, exec (.gptpSyncMonitored m) s = .next t ∧ t.tbu.domOffset = s.syncOffset m ∧ t.tbu.y = s.tbu.y ∧
      t.regI Reg.TBU_DOM_DIFF = satInt 32 (toNsRound (s.syncOffset m))) ∧
  (∀ (d : Dom) (a : Announce) (s : State), s.powered 90 = true → s.bit (domCfg d) 16 = false → (s.dom d).best = none →
    a.priority1 ≠ 255 → s.fld' (domCfg d) 8 8 = 255 → (∀ x ∈ (s.dom d).ports, x.2.priority1 = 255 ∨ announceRank a < announceRank x.2) →
    ∃ t, exec (.gptpAnnounce d a) s = .next t ∧ (t.dom d).best = some a ∧ (t.dom d).self = false ∧
      t.bit Reg.TBU_STATUS (1 + domByte d) = true ∧ s.SameRegsBut t [Reg.TBU_STATUS, Reg.TBU_STATUS_W1C]) ∧
  (∀ (q : Fin 12) (x : DelayTimes) (s : State), s.powered 90 = true →
    ∃ t, exec (.gptpPdelay q x) s = .next t ∧ s.SameRegsBut t [] ∧ t.tbu.now = max s.tbu.now x.t4 ∧
      SMap.find? t.tbu.linkDelay q.val =
        some ((((s.capture q.val x.t4 : Int) - s.stampOut q.val x.t1) - ((x.t3 : Int) - x.t2)) / 2)) ∧
  (∀ (q : Fin 12) (s : State), s.powered 90 = true → s.powered (70 + q.val) = true →
    let r := s.reachPdelay q.val
    exec (.pdelayReqSend q) s = .next ({ r with tbu := { r.tbu with pdelayAt := SMap.insert r.tbu.pdelayAt q.val r.now } }.emit
      (.eth q.val 2 (htw (r.stampOut q.val r.now))))) ∧
  (∀ (d : Dom) (s : State), s.powered 90 = true → s.gmSelf d (s.dom d) = true → s.powered 93 = true →
    ∃ t, exec (.gmSyncSend d) s = .next t ∧ (t.dom d).seq = (s.dom d).seq + 1 ∧
      ∀ q, q < 12 → s.powered (70 + q) = true →
        Out.eth q 3 (leBytes 2 (s.dom d).seq.toNat ++ htw (s.stampOut q s.now)) ∈ t.out)

/-- R65, R67, R72, R75: each way of losing the source sets HOLDOVER and freezes y at the last I, at the instant the time-out falls due;
HOLDOVER that lasts TBU_HOLDOVER_MAX becomes FREE_RUN. -/
def Obligations.LostSourceEntersHoldoverThenFreeRun : Prop :=
  (∀ s : State, s.powered 90 = true → s.tbuSrc = 0 → s.isMember = false → s.gmSelf s.workDom (s.dom s.workDom) = false →
    s.coasting = false → s.tbu.first = true →
    ∃ t, exec .syncReceiptTimeout s = .next t ∧ t.bit Reg.TBU_STATUS 3 = true ∧ t.tbu.y = s.tbu.i ∧
      (t.dom s.workDom).best = none ∧ t.tbu.holdFrom = t.tbu.now ∧
      t.tbu.now = max s.tbu.now ((s.dom s.workDom).lastSync + (s.dom s.workDom).timeout)) ∧
  (∀ s : State, s.powered 90 = true → s.isMember = true → s.coasting = false → s.tbu.first = true →
    ∃ t, exec .timeBlockTimeout s = .next t ∧ t.bit Reg.TBU_STATUS 3 = true ∧ t.tbu.y = s.tbu.i ∧
      t.tbu.now = max s.tbu.now (s.tbu.lastBlock + 3 * msT)) ∧
  (∀ (s : State) (p : Time), s.tbu.lastPps = some p → s.powered 90 = true → s.tbuSrc = 1 → s.isMember = false → s.coasting = false →
    s.tbu.first = true →
    ∃ t, exec .ppsInTimeout s = .next t ∧ t.bit Reg.TBU_STATUS 3 = true ∧ t.tbu.y = s.tbu.i ∧
      t.tbu.now = max s.tbu.now (p + 1500 * msT)) ∧
  (∀ s : State, s.powered 90 = true → s.bit Reg.TBU_STATUS 3 = true →
    ∃ t, exec .holdoverMaxExpiry s = .next t ∧ t.bit Reg.TBU_STATUS 3 = false ∧ t.bit Reg.TBU_STATUS 4 = true ∧
      t.tbu.y = s.tbu.y ∧ t.tbu.now = max s.tbu.now (s.tbu.holdFrom + s.regN Reg.TBU_HOLDOVER_MAX * secT) ∧
      s.SameRegsBut t [Reg.TBU_STATUS, Reg.TBU_STATUS_W1C])

/-- R71, R72, R73, R601: time on the Salarur Link. Device 0 sends a time block down each live port once per millisecond; a member takes one
whose time rises, and shows the bellwether's HOLDOVER and FREE_RUN; delay requests and answers carry corrected times; a response joins the
last 8 path delays of its port. -/
def Obligations.TimeCrossesTheLink : Prop :=
  (∀ s : State, s.powered 90 = true → s.isMember = false → s.fld' Reg.SLK_CTRL 1 2 ≠ 0 →
    ∃ t, exec .timeBlockSend s = .next t ∧ s.SameRegsBut t [] ∧
      t.tbu.now = max s.tbu.now (s.tbu.lastBlock + msT) ∧ t.tbu.lastBlock = t.tbu.now ∧
      ∀ p ∈ s.tbu.down, (s.lport p.val).up = true → (s.lport p.val).held = false →
        Out.linkTime p.val 2 (t.stampOut (12 + p.val) t.tbu.now) ((if s.bit Reg.TBU_STATUS 3 then 1 else 0) + (if s.bit Reg.TBU_STATUS 4 then 2 else 0)) ∈ t.out) ∧
  (∀ (p : Fin 6) (b : TimeBlock) (s : State), s.powered 90 = true → s.isMember = true → s.tbu.up = some p →
    (s.lport p.val).up = true → (s.lport p.val).held = false → s.tbu.lastSent < b.sent →
    ∃ t, exec (.timeBlock p b) s = .next t ∧ t.tbu.lastSent = b.sent ∧
      t.bit Reg.TBU_STATUS 3 = (b.holdover && !b.freeRun) ∧ t.bit Reg.TBU_STATUS 4 = b.freeRun) ∧
  (∀ (p : Fin 6) (s : State), (s.lport p.val).up = true → (s.lport p.val).held = false →
    let r := s.reach ((s.lport p.val).reqAt + msT)
    exec (.delayRequestSend p) s = .next ((r.setLport p.val { s.lport p.val with reqAt := r.now }).emit
      (.linkTime p.val 0 (r.stampOut (12 + p.val) r.now) 0))) ∧
  (∀ (p : Fin 6) (rx : Time) (s : State), (s.lport p.val).up = true → (s.lport p.val).held = false →
    exec (.delayRequest p rx) s = .next ((s.reach rx).emit
      (.linkTime p.val 1 (s.capture (12 + p.val) rx) (s.stampOut (12 + p.val) (max s.now rx))))) ∧
  (∀ (p : Fin 6) (x : DelayTimes) (s : State), (s.lport p.val).up = true → (s.lport p.val).held = false →
    let d := (((s.capture (12 + p.val) x.t4 : Int) - s.stampOut (12 + p.val) x.t1) - ((x.t3 : Int) - x.t2)) / 2
    0 ≤ d → d ≤ usT →
    ∃ t, exec (.delayResponse p x) s = .next t ∧ s.SameRegsBut t [Reg.SLK_P_DELAY p.val] ∧
      (t.lport p.val).delays = (d :: (s.lport p.val).delays).take 8 ∧
      t.regI (Reg.SLK_P_DELAY p.val) = satInt 32 (toPsRound (t.lport p.val).meanDelay))

/-- R74, R75: PPS_OUT rises at the next whole second where the output correction is zero, and falls WIDTH milliseconds later; a PPS_IN edge
in time steers the servo with the captured time modulo one second, signed. -/
def Obligations.PpsEdgesHaveTheirEffect : Prop :=
  (∀ s : State, s.powered 90 = true → s.tbu.ppsHigh = false → s.ppsGated = false → s.regI (Reg.TBU_CORR_TX 25) = 0 →
    ∃ t, exec .ppsOutRise s = .next t ∧ s.SameRegsBut t [] ∧ t.tbu.ppsHigh = true ∧ t.tbu.now % secT = 0 ∧
      s.tbu.now < t.tbu.now ∧ t.tbu.now ≤ s.tbu.now + secT ∧ t.out = s.out ++ [.pin 0 true]) ∧
  (∀ s : State, s.powered 90 = true → s.tbu.ppsHigh = true →
    ∃ t, exec .ppsOutFall s = .next t ∧ s.SameRegsBut t [] ∧ t.tbu.ppsHigh = false ∧
      t.tbu.now = max s.tbu.now (s.tbu.ppsRise + s.fld' Reg.TBU_PPS_CFG 0 16 * msT) ∧ t.out = s.out ++ [.pin 0 false]) ∧
  (∀ (raw : Time) (s : State), s.powered 90 = true → s.tbuSrc = 1 → s.isMember = false →
    (∀ p, s.tbu.lastPps = some p → s.capture 24 raw ≤ p + 1500 * msT) → s.bit Reg.TBU_CTRL 0 = true →
    let f : Int := s.capture 24 raw % secT
    let θ := if f * 2 < secT then f else f - secT
    θ.natAbs ≤ s.regN Reg.TBU_SLEW_LIMIT * nsT →
    let i' := s.tbu.i + s.regN Reg.TBU_SERVO_KI * θ
    let y' := s.regN Reg.TBU_SERVO_KP * θ + i'
    ∃ t, exec (.ppsInEdge raw) s = .next t ∧ t.tbu.lastPps = some (movedBy ((t.tbu.now : Int) - max s.tbu.now raw) (s.capture 24 raw)) ∧
      t.tbu.y = (if y' < -yMax then -yMax else if yMax < y' then yMax else y'))

/-- R77, R43, R69, R748: a host read of TBU_TIME_SNAP0 latches all four words of device time; TBU_CTRL.SET with the cycle stopped and NSEC
in range sets device time and reports done, while the cycle runs it is refused; WORK_DOM and SRC are written. -/
def Obligations.HostTimeCommandsHaveTheirEffect : Prop :=
  (∀ s : State, s.hostOpen .read (Reg.TBU_TIME_SNAP 0) = true →
    ∃ t, exec .timeSnapshot s = .next t ∧
      s.SameRegsBut t [Reg.TBU_TIME_SNAP 0, Reg.TBU_TIME_SNAP 1, Reg.TBU_TIME_SNAP 2, Reg.TBU_TIME_SNAP 3] ∧
      t.regN (Reg.TBU_TIME_SNAP 0) = s.now % nsT ∧ t.regN (Reg.TBU_TIME_SNAP 1) = s.now / nsT % 1000000000 ∧
      t.regN (Reg.TBU_TIME_SNAP 2) = s.now / secT % 2 ^ 32 ∧ t.regN (Reg.TBU_TIME_SNAP 3) = s.now / secT / 2 ^ 32 % 2 ^ 32 ∧
      t.out = s.out ++ [.host .sc (leBytes 4 (s.now % nsT))]) ∧
  (∀ (s : State) (x : Time), s.hostOpen .command Reg.TBU_CTRL = true → s.csq.running = false →
    htwTime (s.regBytes (Reg.TBU_TIME_SET 0) 4) = some x →
    ∃ t, exec .timeSet s = .next t ∧ s.SameRegsBut t [Reg.TBU_CTRL] ∧ t.tbu.now = x ∧ t.fld' Reg.TBU_CTRL 4 3 = 0) ∧
  (∀ s : State, s.hostOpen .command Reg.TBU_CTRL = true → s.csq.running = true →
    ∃ t, exec .timeSet s = .next t ∧ s.SameRegsBut t [Reg.TBU_CTRL] ∧ t.tbu = s.tbu ∧ t.fld' Reg.TBU_CTRL 4 3 = 5) ∧
  (∀ (d : Dom) (s : State), s.hostFree Reg.TBU_CTRL = true →
    ∃ t, exec (.workDomWrite d) s = .next t ∧ s.SameRegsBut t [Reg.TBU_CTRL, Reg.TBU_STATUS] ∧ t.workDom = d ∧
      t.tbu = { s.tbu with domWrite := some s.now, autoAt := none } ∧
      (s.tbu.autoAt = some s.now → t.bit Reg.TBU_STATUS 3 = true) ∧
      (s.tbu.autoAt ≠ some s.now → t.reg Reg.TBU_STATUS = s.reg Reg.TBU_STATUS)) ∧
  (∀ (v : BitVec 2) (s : State), s.hostFree Reg.TBU_CTRL = true → s.lth.rwl = false →
    ∃ t, exec (.tbuSrcWrite v) s = .next t ∧
      s.SameRegsBut t [Reg.TBU_CTRL, Reg.TBU_STATUS, Reg.TBU_STATUS_W1C] ∧ t.tbuSrc = v.toNat ∧
      (2 ≤ v.toNat → s.isMember = false → t.bit Reg.TBU_STATUS 4 = true))
/-! ### Sensor ingress -/

/-- R54 to R57, R80 to R86: what the packets of a CSI-2 receiver do. A Frame Start captures the time of the frames of its virtual channel; a
line in form is counted in its frame, stamps its slot and goes on from a PRESENT slot; embedded data sets the exposure; a Frame End closes
the frames; line markers are ignored; packets of no bound stream are counted, and so is each corrected header; a bad header is a violation of the port and closes its
frames. -/
def Obligations.CsiPacketsHaveTheirEffect : Prop :=
  (∀ (p : Fin 12) (c : BitVec 4) (raw : Time) (e : Bool) (s : State), s.csiLive p.val = true → (s.vc p.val c.toNat).active = false →
    ∃ t, exec (.csiFrameStart p ⟨c, e⟩ raw) s = .next t ∧ (t.vc p.val c.toNat).active = true ∧ (t.vc p.val c.toNat).toFs = false ∧
      (t.vc p.val c.toNat).frames.map (·.slot) = s.camSlots p.val c.toNat ∧
      ∀ f ∈ (t.vc p.val c.toNat).frames, f.tfs = s.capture (26 + p.val) raw ∧ f.lines = 0 ∧ f.dropped = false) ∧
  (∀ (p : Fin 12) (c : BitVec 4) (l : CsiLine) (f : CamFrame) (s : State), s.csiLive p.val = true →
    (s.camSlots p.val c.toNat).any (fun n => recDt (s.slot n).record == l.dt.toNat) = true → imageDt l.dt.toNat = true →
    (s.vc p.val c.toNat).toFs = false → (s.vc p.val c.toNat).active = true →
    (s.vc p.val c.toNat).frames.find? (fun f => recDt (s.slot f.slot).record == l.dt.toNat) = some f → f.dropped = false →
    l.crcOk = true → f.lines < 4096 → l.data.length ≤ 16384 → s.lineOverrun p.val f.slot = false →
    ∃ t, exec (.csiImageLine p c l) s = .next t ∧
      (t.vc p.val c.toNat).frames =
        (s.vc p.val c.toNat).frames.map (fun g => if g.slot == f.slot then { g with lines := g.lines + 1 } else g) ∧
      (t.slot f.slot).lastRx = s.now ∧
      ((s.slot f.slot).st = .present → t.sic.items =
        { slot := f.slot, row := f.lines, time := s.now, bytes := l.data, id := slotId (s.slot f.slot).record } :: s.sic.items) ∧
      (l.ecc1 = true → t.regN (Reg.SIC_CSI_ECC1 p.val) = satAdd 32 (s.regN (Reg.SIC_CSI_ECC1 p.val)) 1)) ∧
  (∀ (p : Fin 12) (c : BitVec 4) (l : CsiLine) (s : State), s.csiLive p.val = true →
    (s.camSlots p.val c.toNat).isEmpty = false → (s.vc p.val c.toNat).toFs = false → (s.vc p.val c.toNat).active = true → l.crcOk = true →
    exec (.csiEmbeddedData p c l) s = .next ((s.ecc1 p.val l.ecc1).setVc p.val c.toNat { s.vc p.val c.toNat with
      frames := (s.vc p.val c.toNat).frames.map (fun f =>
        match f.cam with
        | some k => { f with exp := match s.expOf k l.data with | some e => some e | none => f.exp }
        | none => f) })) ∧
  (∀ (p : Fin 12) (c : BitVec 4) (e : Bool) (s : State), s.csiLive p.val = true → (s.vc p.val c.toNat).active = true →
    (s.vc p.val c.toNat).toFs = false →
    ∃ t, exec (.csiFrameEnd p ⟨c, e⟩) s = .next t ∧ (t.vc p.val c.toNat).active = false ∧ (t.vc p.val c.toNat).frames = [] ∧
      ∀ f, (s.vc p.val c.toNat).frames = [f] → f.dropped = false → f.cam = none →
        (SMap.find? (s.vc p.val c.toNat).prev f.slot = none ∨ SMap.find? (s.vc p.val c.toNat).prev f.slot = some f.lines) →
        (t.slot f.slot).lastStep = s.stepNo) ∧
  (∀ (p : Fin 12) (c : BitVec 4) (b e : Bool) (s : State), exec (.csiLineMarker p ⟨c, e⟩ b) s = .next (s.ecc1 p.val (e && s.csiLive p.val))) ∧
  (∀ (p : Fin 12) (c : BitVec 4) (dt : BitVec 6) (e : Bool) (s : State), s.csiLive p.val = true → csiDt dt.toNat = false →
    exec (.csiUnboundPacket p ⟨c, e⟩ dt) s = .next ((s.ecc1 p.val e).countSat (Reg.SIC_CSI_UNBOUND p.val) 0 32 1)) ∧
  (∀ (p : Fin 12) (s : State), s.csiLive p.val = true →
    ∃ t, exec (.csiBadHeader p) s = .next t ∧ (t.vrec (256 + p.val)).total = satAdd 32 (s.vrec (256 + p.val)).total 1 ∧
      ∀ c, c < 16 → (t.vc p.val c).active = false ∧ ((s.vc p.val c).active = true → (t.vc p.val c).toFs = true))

/-- R87, R88, R93, R94, R653: the switch. A frame with a bad FCS is counted and dropped; one that passes the port's checks is queued on the
live ports its static entry names; a port sends its first frame whose gate is open, protected with the next packet number where the port has
a transmit association; a gate event sets the gates of the next entry; the signal quality is shown, and
the step from which it has been below its limit kept. -/
def Obligations.SwitchCommandsHaveTheirEffect : Prop :=
  (∀ (q : Fin 12) (f : EthFrame) (s : State), s.ethLive q.val = true → s.pwr ≠ 2 → f.fcsOk = false →
    exec (.ethFrameReceived q f) s = .next ((s.reach f.raw).countSat (Reg.SIC_ETH_FCS q.val) 0 32 1)) ∧
  (∀ (q : Fin 12) (f : EthFrame) (s : State), s.ethLive q.val = true → s.pwr ≠ 2 → f.fcsOk = true →
    s.sic.heldPorts.contains (272 + q.val) = false → f.sec = none → s.macsecReq q.val f = false →
    f.len ≤ (if f.vlan.toNat == 0 then 9018 else 9022) →
    List.find? (fun (p : Nat × Qci) => p.2.stream.holds f) s.sic.qci = none → f.rseq = none → f.etype ≠ gptpType →
    ∃ t, exec (.ethFrameReceived q f) s = .next t ∧
      ∀ p, p ∈ (s.sic.fdb.filter (fun (v, m, _) => v == f.vlan && m == f.dmac)).flatMap (·.2.2) → p ≠ q.val → p < 12 →
        s.ethLive p = true → (f.pcp.toNat, ethBytes f (s.seqStamp f).1) ∈ (t.swPort p).txq) ∧
  (∀ (q : Fin 12) (c : Nat) (bs : List Byte) (s : State),
    (s.swPort q.val).txq.find? (fun (c, _) => (s.swPort q.val).gates.getLsbD c) = some (c, bs) → s.ethLive q.val = true →
    s.bit (Reg.SIC_ETH_STAT q.val) 2 = true → s.txAssoc q.val = none → (s.swPort q.val).macsecReq = false →
    exec (.ethFrameTransmit q) s = .next ((s.setSwPort q.val { s.swPort q.val with txq := (s.swPort q.val).txq.erase (c, bs) }).emit
      (.eth q.val 10 bs))) ∧
  (∀ (q : Fin 12) (c : Nat) (bs : List Byte) (a : Assoc) (s : State),
    (s.swPort q.val).txq.find? (fun (c, _) => (s.swPort q.val).gates.getLsbD c) = some (c, bs) → s.ethLive q.val = true →
    s.bit (Reg.SIC_ETH_STAT q.val) 2 = true → s.txAssoc q.val = some a → a.pn < a.space →
    ∃ t, exec (.ethFrameTransmit q) s = .next t ∧ t.out = s.out ++ [.eth q.val 11 (s.macsecFrame q.val a bs)]) ∧
  (∀ (q : Fin 12) (s : State), s.ethLive q.val = true → (s.swPort q.val).gcl.isEmpty = false → s.csq.t0Set = true →
    let x := s.swPort q.val
    let k := (x.gclIdx + 1) % x.gcl.length
    exec (.tasGateEvent q) s = .next ((s.reach x.gclEnd).setSwPort q.val { x with
      gclIdx := k, gates := (x.gcl.getD k (0xFF, 0)).1, gclEnd := x.gclEnd + (x.gcl.getD k (0xFF, 0)).2 * nsT })) ∧
  (∀ (q : Fin 12) (v : BitVec 8) (s : State), s.ethLive q.val = true → q.val < 8 →
    ∃ t, exec (.sqiDegraded q v) s = .next t ∧ t.fld' (Reg.SIC_ETH_STAT q.val) 3 8 = v.toNat ∧
      s.SameRegsBut t [Reg.SIC_ETH_STAT q.val] ∧ 
      (t.swPort q.val).sqiFrom =
        (if (s.swPort q.val).sqiLim ≤ v.toNat then none else some ((s.swPort q.val).sqiFrom.getD s.stepNo)))

/-- R104 to R111: a point packet in form and in time from a PRESENT scanner advances its SEQ and puts its points in the queue of PAE; a
partner list in form and in time notes its SEQ under its START_ID and is a consistent sample of its slot. -/
def Obligations.PointPacketsAndPartnerListsAreTaken : Prop :=
  (∀ (d : Datagram) (k : Nat) (s : State), s.intake d = true →
    s.findSlot (fun r => recKind r == kScanner && recVlan r == d.vlan.toNat && recMac r == d.smac.toNat && recUdp r == d.udp.toNat) = some k →
    (s.slot k).st = .present → packetOk (s.slot k).record d.payload = true →
    (∀ l, (s.slot k).seq = some l → 0 < (u d.payload 8 4 + 2 ^ 32 - l) % 2 ^ 32 ∧ (u d.payload 8 4 + 2 ^ 32 - l) % 2 ^ 32 < 2 ^ 31) →
    bits (u d.payload 14 2) 0 1 = 1 → u d.payload 16 8 * nsT ≤ s.capture d.port.val d.raw →
    s.capture d.port.val d.raw ≤ ptTime d.payload (u d.payload 6 2 - 1) * nsT + recTol (s.slot k).record * 100000 * nsT →
    ∃ t, exec (.pointPacket d) s = .next t ∧ (t.slot k).seq = some (u d.payload 8 4) ∧
      t.pae.queue = s.pae.queue ++ (List.range (u d.payload 6 2)).map (decodePt k d.payload)) ∧
  (∀ (d : Datagram) (k : Nat) (s : State), s.intake d = true → s.partnerSlot d = some k → listOk d.payload = true →
    (∀ l, SMap.find? (s.slot k).starts (u d.payload 54 4) = some l →
      0 < (u d.payload 32 4 + 2 ^ 32 - l) % 2 ^ 32 ∧ (u d.payload 32 4 + 2 ^ 32 - l) % 2 ^ 32 < 2 ^ 31) →
    u d.payload 16 4 + listNs d.payload * nsT ≤ s.capture d.port.val d.raw →
    s.capture d.port.val d.raw ≤ u d.payload 16 4 + listNs d.payload * nsT + recTol (s.slot k).record * 100000 * nsT →
    u d.payload 6 1 ≠ 0 →
    ∃ t, exec (.partnerList d) s = .next t ∧ SMap.find? (t.slot k).starts (u d.payload 54 4) = some (u d.payload 32 4) ∧
      (t.slot k).lastRx = max s.now d.raw ∧ (t.slot k).lastStep = (s.reach d.raw).stepNo)

/-- R97 to R103: CAN and the inertial units. An accepted message of the right length is a sample of its slot and a consistent one; error
frames are counted; bus-off stops a controller and its recovery starts it again where the controller rejoins; an active DRDY edge is timestamped
and starts the SPI command of its slot; a response is a sample; a missing edge is counted. -/
def Obligations.CanAndImuCommandsHaveTheirEffect : Prop :=
  (∀ (n : Fin 4) (m : CanMsg) (e : CanFilter) (g : CanTable) (s : State), s.canLive n.val = true →
    (m.fmt = .xl → s.feat 11 = true) → s.sic.canFilt.find? (fun e => e.holds n.val m) = some e →
    recKind (s.slot e.slot).record = kCan → (s.slot e.slot).bound = true → s.canTable e.slot = some g → m.data.length = g.len →
    ∃ t, exec (.canMessage n m) s = .next t ∧ (t.slot e.slot).lastRx = max s.now m.raw ∧
      (t.slot e.slot).lastStep = (s.reach m.raw).stepNo) ∧
  (∀ (n : Fin 4) (e : CanErr) (s : State), s.canLive n.val = true → n.val ≠ 3 → ((s.canCtl n.val).count e).txErr ≤ 255 →
    ∃ t, exec (.canErrorFrame ⟨n, e⟩) s = .next t ∧ t.canCtl n.val = (s.canCtl n.val).count e ∧
      t.fld' (Reg.SIC_CAN_STAT n.val) 18 14 = satAdd 14 (s.fld' (Reg.SIC_CAN_STAT n.val) 18 14) 1 ∧
      (t.vrec (288 + n.val)).total = satAdd 32 (s.vrec (288 + n.val)).total 1 ∧ s.SameRegsBut t [Reg.SIC_CAN_STAT n.val]) ∧
  (∀ (n : Fin 4) (s : State), s.canLive n.val = true →
    ∃ t, exec (.canBusOff n) s = .next t ∧ (t.canCtl n.val).off = true) ∧
  (∀ (n : Fin 4) (s : State), (s.canCtl n.val).off = true → (n.val = 3 ∨ s.bit Reg.SIC_CTRL n.val = true) →
    ∃ t, exec (.canBusRecovery n) s = .next t ∧ (t.canCtl n.val).off = false) ∧
  (∀ (n : Fin 2) (falling : Bool) (raw : Time) (k : Nat) (s : State), s.imuLive n.val = true → s.imuSlot n.val = some k →
    let x := imuTransfer (s.slot k).record
    (falling = s.bit Reg.TBU_IMU_CFG n.val → ∃ t, exec (.imuDrdyEdge n ⟨falling, raw⟩) s = .next t ∧
      (t.slot k).drdy = some (s.capture (22 + n.val) raw) ∧ t.out = s.out ++ [.spi n.val x.1 x.2.1 x.2.2.1 x.2.2.2]) ∧
    (falling ≠ s.bit Reg.TBU_IMU_CFG n.val → exec (.imuDrdyEdge n ⟨falling, raw⟩) s = .next s)) ∧
  (∀ (n : Fin 2) (data : List Byte) (k : Nat) (d : Time) (s : State), s.imuLive n.val = true → s.imuSlot n.val = some k →
    (s.slot k).drdy = some d →
    ∃ t, exec (.imuResponse n data) s = .next t ∧ (t.slot k).lastRx = s.now ∧ (t.slot k).early = false ∧
      (t.slot k).imuCnt =
        Config.imuCounter (recExt (s.slot k).record) (data.take (imuTransfer (s.slot k).record).2.2.2)) ∧
  (∀ (n : Fin 2) (k : Nat) (d : Time) (s : State), s.imuLive n.val = true → s.imuSlot n.val = some k → (s.slot k).drdy = some d →
    let x := (s.slot k).missAt.getD d + s.periodT k * 3 / 2
    exec (.imuDrdyMiss n) s = .next (((s.reach x).setSlot k { s.slot k with missAt := some x }).countSat (Reg.SIC_IMU_MISS n.val) 0 32 1))

/-- R115, R118, R120, R124, R130, R152: the states of a sensor slot. A PRESENT slot without a sample for three periods is SILENT; a RUNTIME slot
without one for SIC_LEAVE_TO is released; a hold that ends starts ADMITTING; ADMIT, RELEASE, READMIT and QUARANTINE act on the slots that
allow them in the state that an automatic change due in the same cycle leaves, and report done with the slot. -/
def Obligations.SlotCommandsHaveTheirEffect : Prop :=
  (∀ (n : BitVec 8) (s : State), s.powered 94 = true → (s.slot n.toNat).st = .present →
    ∃ t, exec (.slotSilence n) s = .next t ∧ (t.slot n.toNat).st = .silent ∧
      t.now = max s.now ((s.slot n.toNat).lastRx + 3 * s.periodT n.toNat)) ∧
  (∀ (n : BitVec 8) (s : State), s.powered 94 = true → (s.slot n.toNat).bound = true → (s.slot n.toNat).runtime = true →
    (s.slot n.toNat).st ≠ .quarantined →
    ∃ t, exec (.partnerLeave n) s = .next t ∧ t.slot n.toNat = {} ∧
      t.now = max s.now ((s.slot n.toNat).lastRx + s.regN Reg.SIC_LEAVE_TO * msT)) ∧
  (∀ (n : BitVec 8) (h : Nat) (s : State), (s.vrec n.toNat).hold = some h →
    (s.csq.running = false ∨ h + s.regN Reg.SIC_QUAR_HOLD ≤ s.stepNo) → (s.slot n.toNat).st = .quarantined →
    (s.slot n.toNat).byPort = false →
    ∃ t, exec (.quarantineHoldEnd (.slot n)) s = .next t ∧ (t.slot n.toNat).st = .admitting ∧ (t.vrec n.toNat).hold = none ∧
      (t.slot n.toNat).good = 0) ∧
  (∀ (n : BitVec 8) (s : State), s.hostOpen .command Reg.SIC_SLOT_CMD = true → s.bit Reg.SIC_SLOT_CMD_ST 16 = false →
    let r := s.autoDue n.toNat
    r.admitCode n.toNat r.staged = DONE →
    ∃ t, exec (.admission n) s = .next t ∧ (t.slot n.toNat).st = .admitting ∧ (t.slot n.toNat).runtime = true ∧
      t.fld' Reg.SIC_SLOT_CMD_ST 0 8 = DONE ∧ t.fld' Reg.SIC_SLOT_CMD_ST 8 8 = n.toNat) ∧
  (∀ (n : BitVec 8) (s : State), s.hostOpen .command Reg.SIC_SLOT_CMD = true → s.bit Reg.SIC_SLOT_CMD_ST 16 = false →
    let r := s.autoDue n.toNat
    (r.slot n.toNat).bound = true → (r.slot n.toNat).runtime = true →
    ∃ t, exec (.slotRelease n) s = .next t ∧ t.slot n.toNat = {} ∧ t.fld' Reg.SIC_SLOT_CMD_ST 0 8 = DONE ∧
      t.fld' Reg.SIC_SLOT_CMD_ST 8 8 = n.toNat) ∧
  (∀ (n : BitVec 8) (s : State), s.hostOpen .command Reg.SIC_SLOT_CMD = true → s.bit Reg.SIC_SLOT_CMD_ST 16 = false →
    ((s.autoDue n.toNat).slot n.toNat).st = .excluded →
    ∃ t, exec (.slotReadmit n) s = .next t ∧ (t.slot n.toNat).st = .admitting ∧ t.fld' Reg.SIC_SLOT_CMD_ST 0 8 = DONE ∧
      t.fld' Reg.SIC_SLOT_CMD_ST 8 8 = n.toNat) ∧
  (∀ (n : BitVec 8) (s : State), s.hostOpen .command Reg.SIC_SLOT_CMD = true → s.bit Reg.SIC_SLOT_CMD_ST 16 = false →
    let r := s.autoDue n.toNat
    (r.slot n.toNat).bound = true → (r.slot n.toNat).st ≠ .excluded →
    ∃ t, exec (.slotQuarantine n) s = .next t ∧ (t.slot n.toNat).st = .quarantined ∧ (t.vrec n.toNat).hold = some r.stepNo ∧
      t.fld' Reg.SIC_SLOT_CMD_ST 0 8 = DONE ∧ t.fld' Reg.SIC_SLOT_CMD_ST 8 8 = n.toNat)

/-- R134 to R136, R139, R147: the patch test of a path falls due, is injected at an opportunity and, where the CRC-32C of what the path makes
of it is the golden one, ends as a counted pass; the FCU takes the oldest completed revolution of its scanner. -/
def Obligations.PatchTestAndFcuCommandsHaveTheirEffect : Prop :=
  (∀ (k : Nat) (x : PatchPath) (s : State), s.patchRuns = true → s.powered 94 = true → SMap.find? s.sic.paths k = some x → x.due = false →
    ∃ t, exec (.patchDue k) s = .next t ∧ SMap.find? t.sic.paths k = some { x with due := true } ∧
      t.now = max s.now (x.lastStart + s.regN Reg.SIC_PATCH_PERIOD * msT)) ∧
  (∀ (k : Nat) (x : PatchPath) (s : State), s.patchRuns = true → s.powered 94 = true → SMap.find? s.sic.paths k = some x → x.due = true →
    x.injected = none → s.patchOpen x = true →
    ∃ t y, exec (.patchInject k) s = .next t ∧ SMap.find? t.sic.paths k = some y ∧ y.injected = some s.now ∧ y.inBuf = true ∧
      s.now ≤ y.complete) ∧
  (∀ (k : Nat) (flip : BitVec 32) (x : PatchPath) (s : State), s.patchRuns = true → s.powered 94 = true →
    SMap.find? s.sic.paths k = some x → x.injected ≠ none → (x.retest && x.badStep == s.stepNo) = false → x.tried ≠ some s.stepNo →
    let r := s.reach x.complete
    let y := { x with tried := some r.stepNo }
    (x.retest = true ∨ r.testOverrun y = false) → r.patchCrc y ^^^ flip = x.golden →
    ∃ t, exec (.patchEvaluation k false flip) s = .next t ∧ SMap.find? t.sic.paths k = some (y.finish true) ∧
      t.fld' Reg.SIC_PATCH_CNT 0 16 = satAdd 16 (s.fld' Reg.SIC_PATCH_CNT 0 16) 1) ∧
  (∀ (n : BitVec 8) (f rev : Nat) (cells : SMap FcuCell) (gaps : List (Nat × Nat)) (r : List (Nat × SMap FcuCell × List (Nat × Nat)))
    (s : State), s.fcuRuns = true → s.fcuEntry n.toNat = some f → (s.fcuOf f).ready = (rev, cells, gaps) :: r →
    ∃ t, exec (.fcuClusterEmit n) s = .next t ∧ (t.fcuOf f).ready = r ∧
      t.fld' Reg.SIC_FCU_STATUS 0 16 = (s.fld' Reg.SIC_FCU_STATUS 0 16 + 1) % 2 ^ 16)

/-- R158 to R196: projection, calibration and ego-motion. Points leave their queues; a point newer than the ring is held and one older is
counted; held points resume or are extrapolated or dropped; images and grid frames close; an estimate in bounds is accepted; the calibration
commands take effect at the slot's next boundary, or at once where it has none; a keyframe submits a solve, a Done result replaces the
smoothed state unless it is INVALID, HOLD that lasts becomes INVALID; a host
read of EGO_LAST_REC0 latches the ego record. -/
def Obligations.ProjectionAndEgoCommandsHaveTheirEffect : Prop :=
  (∀ (p : Pt) (r : List Pt) (s : State), s.paeRuns = true → s.pae.queue = p :: r →
    ∃ t, exec .pointDeskew s = .next t ∧ t.pae.queue = r ∧
      (∀ o n, s.oldestPose = some o → s.newestPose = some n →
        (p.time < o → t.regN Reg.PAE_DESKEW_OLD = satAdd 32 (s.regN Reg.PAE_DESKEW_OLD) 1) ∧
        (o ≤ p.time → n < p.time → t.pae.held = s.pae.held ++ [(p, s.now)]))) ∧
  (∀ (n : Nat) (s : State), s.paeRuns = true → s.newestPose = some n →
    ∃ t, exec .deskewHoldResume s = .next t ∧ t.pae.held = s.pae.held.filter (fun (p, _) => !decide (p.time ≤ n))) ∧
  (∀ (p : Pt) (h : Time) (r : List (Pt × Time)) (s : State), s.paeRuns = true → s.pae.held = (p, h) :: r →
    (∀ n, s.newestPose = some n → n < p.time) →
    ∃ t, exec .deskewExtrapolate s = .next t ∧ t.pae.held = r ∧ t.now = max s.now (h + s.fld' Reg.PAE_EXTRAP 0 16 * usT) ∧
      ((∀ n, s.newestPose = some n → n + s.fld' Reg.PAE_EXTRAP 16 16 * 1000 < p.time) →
        t.regN Reg.PAE_DESKEW_LATE = satAdd 32 (s.regN Reg.PAE_DESKEW_LATE) 1)) ∧
  (∀ (c : Fin 48) (g : DepthImg) (s : State), s.pae.images.find? (fun g => g.cam == c.val) = some g →
    ∃ t, exec (.depthImageClose c) s = .next t ∧ t.pae.images = s.pae.images.erase g ∧ t.pae.closed.head? = some g ∧
      (g.extrap = true → t.pae.stepExtrap = true) ∧
      t.sic.items = { slot := u (s.camBlock c) 6 1, row := 0, time := g.tmid, bytes := s.depthBytes g, id := idPae } :: s.sic.items) ∧
  (∀ (k : Nat) (s : State), s.nextGrid = some k → s.paeRuns = true → s.bit Reg.PAE_CTRL 2 = true →
    ∃ t, exec .gridFrameClose s = .next t ∧ t.pae.gridDone = some k ∧ ∀ g ∈ t.pae.grids, k < g.k) ∧
  (∀ (n : BitVec 8) (e : CalEst) (s : State), s.paeRuns = true → s.bit Reg.PAE_CTRL 1 = true → (s.calOf n.toNat).frozen = false →
    (s.calOf n.toNat).cmd = none → (s.calOf n.toNat).st ≤ 1 → (s.slot n.toNat).bound = true → estInBounds e 1 = true →
    ∃ t, exec (.calEstimate n e) s = .next t ∧ (t.calOf n.toNat).st = 1 ∧ (t.calOf n.toNat).target = some e ∧
      (t.calOf n.toNat).accepted = satAdd 32 (s.calOf n.toNat).accepted 1) ∧
  (∀ (n : BitVec 8) (s : State), s.hostOpen .command Reg.PAE_CAL_CMD = true → s.bit Reg.PAE_CAL_CMD_ST 16 = false →
    (s.slot n.toNat).bound = true →
    (s.hasBoundary n.toNat = true →
      (∃ t, exec (.calReset n) s = .next t ∧ t.calOf n.toNat = { s.calOf n.toNat with cmd := some 1 } ∧ t.bit Reg.PAE_CAL_CMD_ST 16 = true) ∧
      (∃ t, exec (.freeze n) s = .next t ∧ t.calOf n.toNat = { s.calOf n.toNat with cmd := some 2 } ∧ t.bit Reg.PAE_CAL_CMD_ST 16 = true) ∧
      (∃ t, exec (.unfreeze n) s = .next t ∧ t.calOf n.toNat = { s.calOf n.toNat with cmd := some 3 } ∧ t.bit Reg.PAE_CAL_CMD_ST 16 = true)) ∧
    (s.hasBoundary n.toNat = false →
      (∃ t, exec (.calReset n) s = .next t ∧ (t.calOf n.toNat).rot = (0, 0, 0) ∧ (t.calOf n.toNat).trans = (0, 0, 0) ∧
        (t.calOf n.toNat).st = (if (s.calOf n.toNat).st = 3 then 3 else 0) ∧ t.fld' Reg.PAE_CAL_CMD_ST 0 8 = DONE) ∧
      (∃ t, exec (.freeze n) s = .next t ∧ t.calOf n.toNat = { s.calOf n.toNat with frozen := true, cmd := none } ∧
        t.fld' Reg.PAE_CAL_CMD_ST 0 8 = DONE) ∧
      (∃ t, exec (.unfreeze n) s = .next t ∧ t.calOf n.toNat = { s.calOf n.toNat with frozen := false, cmd := none } ∧
        t.fld' Reg.PAE_CAL_CMD_ST 0 8 = DONE))) ∧
  (∀ (k : KeyframeObs) (s : State), s.egoRuns = true → s.egoStatic = false →
    ∃ t, exec (.egoKeyframe k) s = .next t ∧ t.ego.solving = true ∧ t.ego.kf.head?.map (·.time) = some t.now ∧
      t.ego.invalid = (s.ego.invalid && !(s.egoAnyImu || s.egoWheelLive)) ∧
      (t.ego.hold = none ↔ (s.egoAnyImu || s.egoWheelLive) = true)) ∧
  (∀ (r : SmootherResult) (s : State), s.egoRuns = true → s.ego.solving = true → isDone r.status.toNat = true →
    ∃ t, exec (.egoSmootherResult r) s = .next t ∧ t.ego.solving = false ∧
      (t.ego.shifted = true ↔ r.shifted = true ∨ r.status.toNat = DONE_SHIFTED) ∧
      (s.ego.invalid = false → t.ego.pos = r.pos ∧ t.ego.vel = r.vel ∧ t.ego.att = r.att ∧ t.ego.bias = r.bias) ∧
      (s.ego.invalid = true → t.ego.pos = s.ego.pos ∧ t.ego.vel = s.ego.vel ∧ t.ego.att = s.ego.att ∧ t.ego.bias = s.ego.bias)) ∧
  (∀ (h : Time) (s : State), s.egoRuns = true → s.ego.hold = some h →
    ∃ t, exec .egoHoldTimeout s = .next t ∧ t.ego.invalid = true ∧ t.bit Reg.EGO_STATUS_W1C 3 = true ∧
      t.now = max s.now (h + s.regN Reg.EGO_HOLD_MAX * msT) ∧ s.SameRegsBut t [Reg.EGO_STATUS_W1C]) ∧
  (∀ s : State, s.hostOpen .read (Reg.EGO_LAST_REC 0) = true →
    ∃ t, exec .egoRecordSnapshot s = .next t ∧ t.ego = s.ego ∧
      ∀ k, k < 16 → t.reg (Reg.EGO_LAST_REC k) = BitVec.ofNat 32 (u (fit 64 s.ego.record) (4 * k) 4))
/-! ### The tile array -/

/-- R216, R217, R227, R239, R243: commands to a tile. A command in form from an initiator that the tile's hurdle lets pass joins the end of
its queue, whether written to the command window or by the doorbell; an armed injection is kept; an offline BIST of a DEAD tile in Standby
begins. -/
def Obligations.TileRequestsAreTaken : Prop :=
  (∀ (n : Fin 34) (q : TileQueue) (id : BitVec 10) (c : List Byte) (s : State), s.tileAdmits id.toNat n.val = true →
    tileStateCode (s.tile n.val) q c = DONE → s.tileCmdOk q id.toNat c = true →
    ∃ t, exec (.tileCommandEnqueue n q id c) s = .next t ∧
      (t.tile n.val).queue q = (s.tile n.val).queue q ++ [{ id := id.toNat, desc := c, ord := (s.tile n.val).nextOrd }]) ∧
  (∀ (n : Fin 34) (s : State), s.hostOpen .command (Reg.TCA_T_DOORBELL n.val) = true → s.tileAdmits idHost n.val = true →
    let c := s.regBytes (Reg.TCA_T_CMD n.val 0) 16
    tileStateCode (s.tile n.val) .background c = DONE → s.tileCmdOk .background idHost c = true →
    ∃ t, exec (.tileDoorbell n) s = .next t ∧
      (t.tile n.val).bgQ = (s.tile n.val).bgQ ++ [{ id := idHost, desc := c, ord := (s.tile n.val).nextOrd }] ∧
      t.fld' (Reg.TCA_T_CMD_ST n.val) 0 8 = DONE) ∧
  (∀ (n : Fin 34) (w : W32) (s : State), s.hostOpen .write (Reg.TCA_T_INJECT n.val) = true → s.feat 9 = true → bits w.toNat 0 2 ≠ 0 →
    exec (.tileInject n w) s = .next (s.setTile n.val { s.tile n.val with inj := some w })) ∧
  (∀ (n : BitVec 6) (s : State), s.hostOpen .command Reg.TCA_BIST_REQ = true → s.bit Reg.TCA_BIST_ST 16 = false → s.pwr = 2 →
    s.inTransition = false → n.toNat < 34 → (s.tile n.toNat).st = .dead →
    ∃ t, exec (.offlineBistRequest n) s = .next t ∧ t.tca.bist = some n.toNat ∧ t.bit Reg.TCA_BIST_ST 16 = true ∧
      t.fld' Reg.TCA_BIST_ST 8 6 = n.toNat ∧ s.SameRegsBut t [Reg.TCA_BIST_ST])

/-- R205 to R214, R218, R226, R330 to R338, Table 5.6: a tile whose next command has an opcode starts it. Where no fault strikes, it does all of
its work and reaches its result: the blocks of a MATMUL or CONV, the vectors of a VECTOR, the list of a KERNEL, the rows of an ATTEND; under any
fault, or where a DEADLINE is reached, it reaches a result or is ended. A SYNC and a passed BIST reach their result with DONE; a failed BIST is
the tile's death. -/
def Obligations.TileOpcodesDoTheirWork : Prop :=
  (∀ (n : Fin 34) (q : TileQueue) (c : TileCmd) (s : State), s.tileNext n.val = some (q, c) → tcOp c.desc = opMatmul →
    let u := (s.tileStart n.val q c).useInjection n.val
    let w := u.matWork n.val c.desc (u.matShape c.desc) .none none
    (∃ t, exec (.matmul n {}) s = .next t ∧ t = w.2.tileResult n.val w.1.codes ∧ w.1.stays = false ∧
      (t.tile n.val).run = some { cmd := c, q := q, codes := w.1.codes, finished := true } ∧
      (t.tile n.val).queue q = ((s.tile n.val).queue q).drop 1) ∧
    (∀ e : TileEvents, ∃ t, exec (.matmul n e) s = .next t ∧
      ((t.tile n.val).run = none ∨ ∃ codes, (t.tile n.val).run = some { cmd := c, q := q, codes := codes, finished := true }))) ∧
  (∀ (n : Fin 34) (q : TileQueue) (c : TileCmd) (s : State), s.tileNext n.val = some (q, c) → tcOp c.desc = opConv →
    let u := (s.tileStart n.val q c).useInjection n.val
    let w := u.matWork n.val c.desc (u.convShape c.desc) .none none
    (∃ t, exec (.conv n {}) s = .next t ∧ t = w.2.tileResult n.val w.1.codes ∧ w.1.stays = false ∧
      (t.tile n.val).run = some { cmd := c, q := q, codes := w.1.codes, finished := true } ∧
      (t.tile n.val).queue q = ((s.tile n.val).queue q).drop 1) ∧
    (∀ e : TileEvents, ∃ t, exec (.conv n e) s = .next t ∧
      ((t.tile n.val).run = none ∨ ∃ codes, (t.tile n.val).run = some { cmd := c, q := q, codes := codes, finished := true }))) ∧
  (∀ (n : Fin 34) (q : TileQueue) (c : TileCmd) (s : State), s.tileNext n.val = some (q, c) → tcOp c.desc = opVector →
    let u := (s.tileStart n.val q c).useInjection n.val
    let w := u.vecWork n.val c.desc .none none
    (∃ t, exec (.vector n {}) s = .next t ∧ t = w.2.tileResult n.val w.1.codes ∧ w.1.stays = false ∧
      (t.tile n.val).run = some { cmd := c, q := q, codes := w.1.codes, finished := true } ∧
      (t.tile n.val).queue q = ((s.tile n.val).queue q).drop 1) ∧
    (∀ e : TileEvents, ∃ t, exec (.vector n e) s = .next t ∧
      ((t.tile n.val).run = none ∨ ∃ codes, (t.tile n.val).run = some { cmd := c, q := q, codes := codes, finished := true }))) ∧
  (∀ (n : Fin 34) (q : TileQueue) (c : TileCmd) (s : State), s.tileNext n.val = some (q, c) → tcOp c.desc = opKernel →
    let u := (s.tileStart n.val q c).useInjection n.val
    let w := State.kernelWork n.val .none (u.kernelOf n.val c.desc) none u
    (∃ t, exec (.kernel n {}) s = .next t ∧ t = w.2.tileResult n.val w.1.codes ∧ w.1.stays = false ∧
      (t.tile n.val).run = some { cmd := c, q := q, codes := w.1.codes, finished := true } ∧
      (t.tile n.val).queue q = ((s.tile n.val).queue q).drop 1) ∧
    (∀ e : TileEvents, ∃ t, exec (.kernel n e) s = .next t ∧
      ((t.tile n.val).run = none ∨ ∃ codes, (t.tile n.val).run = some { cmd := c, q := q, codes := codes, finished := true }))) ∧
  (∀ (n : Fin 34) (q : TileQueue) (c : TileCmd) (s : State), s.tileNext n.val = some (q, c) → tcOp c.desc = opAttend →
    let u := (s.tileStart n.val q c).useInjection n.val
    let w := u.attWork n.val c.desc .none none
    (∃ t, exec (.attend n {}) s = .next t ∧ t = w.2.tileResult n.val w.1.codes ∧ w.1.stays = false ∧
      (t.tile n.val).run = some { cmd := c, q := q, codes := w.1.codes, finished := true } ∧
      (t.tile n.val).queue q = ((s.tile n.val).queue q).drop 1) ∧
    (∀ e : TileEvents, ∃ t, exec (.attend n e) s = .next t ∧
      ((t.tile n.val).run = none ∨ ∃ codes, (t.tile n.val).run = some { cmd := c, q := q, codes := codes, finished := true }))) ∧
  (∀ (n : Fin 34) (q : TileQueue) (c : TileCmd) (s : State), s.tileNext n.val = some (q, c) → tcOp c.desc = opSync →
    ∃ t, exec (.sync n) s = .next t ∧ (t.tile n.val).run = some { cmd := c, q := q, codes := [DONE], finished := true }) ∧
  (∀ (n : Fin 34) (q : TileQueue) (c : TileCmd) (s : State), s.tileNext n.val = some (q, c) → tcOp c.desc = opBist →
    (∃ t, exec (.bist n true) s = .next t ∧ (t.tile n.val).run = some { cmd := c, q := q, codes := [DONE], finished := true }) ∧
    (∃ t, exec (.bist n false) s = .next t ∧ (t.tile n.val).st = .dead ∧ (t.tile n.val).run = none))

/-- R218, R219, R229, R230: a finished command completes with its highest code in TCA_Tn_DONE, DEADLINE_ABANDONED among
them once its DEADLINE has been reached, and leaves the tile free; a command at its
deadline completes with DEADLINE_ABANDONED; a missed heartbeat is counted, and the third in a row is the tile's death. -/
def Obligations.TileCommandsCompleteOrDie : Prop :=
  (∀ (n : Fin 34) (r : TileRun) (s : State), (s.tile n.val).run = some r → r.finished = true →
    ∃ t, exec (.tileCommandComplete n) s = .next t ∧ (t.tile n.val).run = none ∧
      t.reg (Reg.TCA_T_DONE n.val) =
        BitVec.ofNat 32 (topCode ((if s.pastDeadline r.cmd.desc then [DEADLINE_ABANDONED] else []) ++ r.codes) +
          256 * tcOp r.cmd.desc + 65536 * (tcStep r.cmd.desc % 65536))) ∧
  (∀ (n : Fin 34) (w : Option TileQueue) (c : TileCmd) (s : State), s.tileDue n.val = some (w, c) →
    ∃ t, exec (.tileDeadline n) s = .next t ∧ t.now = max s.now (tcDeadline c.desc * nsT) ∧
      t.regN (Reg.TCA_T_DONE n.val) % 256 = DEADLINE_ABANDONED) ∧
  (∀ (n : Fin 34) (s : State), (s.tile n.val).st = .active → (s.tile n.val).missed = false → s.csq.running = true →
    ∃ t, exec (.tileHeartbeatMiss n) s = .next t ∧
      t.fld' (Reg.TCA_T_HB n.val) 16 16 = satAdd 16 (s.fld' (Reg.TCA_T_HB n.val) 16 16) 1 ∧
      (s.fld' (Reg.TCA_T_HB n.val) 0 2 < 2 → (t.tile n.val).st = .active ∧
        t.fld' (Reg.TCA_T_HB n.val) 0 2 = s.fld' (Reg.TCA_T_HB n.val) 0 2 + 1) ∧
      (2 ≤ s.fld' (Reg.TCA_T_HB n.val) 0 2 → (t.tile n.val).st = .dead))

/-- R235 to R240, R577: a spare goes through WAKING, TESTING and its load to ACTIVE in the dead tile's place, with the dead tile's hurdle
rules granted at the passed BIST; a DEAD tile that passes an offline BIST is SPARE, its ID restored and its dead mark gone. -/
def Obligations.SparesTakeTheDeadTilesPlace : Prop :=
  (∀ (w : Swap) (s : State), s.tca.swap = some w → w.phase = 0 →
    ∃ t, exec .spareWakeDone s = .next t ∧ (t.tile w.spare).st = .testing ∧ t.tca.swap = some { w with phase := 1 } ∧
      s.SameRegsBut t []) ∧
  (∀ (w : Swap) (s : State), s.tca.swap = some w → w.phase = 1 →
    ∃ t, exec (.spareBistDone true) s = .next t ∧ t.tca.swap = some { w with phase := 2 } ∧ s.SameRegsBut t [] ∧
      ∀ r ∈ s.saf.rules, r.idLo ≤ w.dead → w.dead ≤ r.idHi → { r with idLo := w.spare, idHi := w.spare } ∈ t.saf.rules) ∧
  (∀ (w : Swap) (s : State), s.tca.swap = some w → w.phase = 2 → w.spare ≠ w.dead →
    ∃ t, exec .spareLoadDone s = .next t ∧ (t.tile w.spare).st = .active ∧ (t.tile w.spare).serves = (s.tile w.dead).serves ∧
      (t.tile w.dead).serves = none ∧ t.tca.swap = some { w with phase := 3 }) ∧
  (∀ (n : Nat) (s : State), s.tca.bist = some n → n < 34 →
    ∃ t, exec (.offlineBistDone true) s = .next t ∧ (t.tile n).st = .spare ∧ t.revoked n = false ∧ t.deadBit n = false ∧
      t.tca.bist = none ∧ t.fld' Reg.TCA_BIST_ST 0 8 = DONE ∧ t.bit Reg.TCA_BIST_ST 16 = false ∧ t.bit Reg.TCA_BIST_ST 17 = true)

/-! ### Data movement -/

/-- R248, R249, R272 to R275, R292: descriptors and signals. CREATE of a valid staged descriptor at a free handle lists it with its creator;
DESTROY frees an unreferenced handle and leaves a referenced one RETIRING; a raise by a host that holds the signal adds to its counter,
saturating at 65,535. -/
def Obligations.DescriptorAndSignalCommandsHaveTheirEffect : Prop :=
  (∀ (h : BitVec 12) (s : State), s.hostOpen .command Reg.DML_DESC_CMD = true →
    let b := s.regBytes (Reg.DML_DESC_STAGE 0) 16
    descOk b = true → s.fmtOffered (dFmt b) = true → SMap.find? s.dml.descs h.toNat = none → s.extentOk idHost b = true →
    ∃ t, exec (.descCreate h) s = .next t ∧ SMap.find? t.dml.descs h.toNat = some { bytes := patch b 62 (leBytes 2 idHost) } ∧
      t.fld' Reg.DML_DESC_CMD_ST 0 8 = DONE ∧ t.fld' Reg.DML_DESC_CMD_ST 8 12 = h.toNat ∧ s.SameRegsBut t [Reg.DML_DESC_CMD_ST]) ∧
  (∀ (h : BitVec 12) (x : Desc) (s : State), s.hostOpen .command Reg.DML_DESC_CMD = true → SMap.find? s.dml.descs h.toNat = some x →
    x.retiring = false → dFlag x.bytes 2 = false →
    ∃ t, exec (.descDestroy h) s = .next t ∧
      SMap.find? t.dml.descs h.toNat = (if x.refs = 0 then none else some { x with retiring := true }) ∧
      t.fld' Reg.DML_DESC_CMD_ST 0 8 = DONE ∧ t.fld' Reg.DML_DESC_CMD_ST 8 12 = h.toNat ∧ s.SameRegsBut t [Reg.DML_DESC_CMD_ST]) ∧
  (∀ (sig : BitVec 10) (inc : BitVec 16) (s : State), s.hostOpen .command Reg.DML_SIG_RAISE = true → s.sigGranted idHost sig.toNat = true →
    inc ≠ 0 → (∀ w ∈ s.dml.waits, w.sig ≠ sig.toNat) →
    ∃ t, exec (.signalRaise sig inc) s = .next t ∧ t.sigCount sig.toNat = min (s.sigCount sig.toNat + inc.toNat) 65535 ∧
      (65535 < s.sigCount sig.toNat + inc.toNat → t.bit Reg.DML_STATUS 2 = true))

/-- R276 to R282: streaming sets. A triggered set that is ready begins its transfer: at once for an ingress item (kept in its queue while the set moves another or the slot's job is deferred), its instant
for a STEP trigger; a transfer that is carried out ends with the move's status, one at its DEADLINE is counted late; a shadow word is written while no
shadow is valid; a commit of a valid record makes it valid, and active at once in an empty set. -/
def Obligations.StreamingSetCommandsHaveTheirEffect : Prop :=
  (∀ (n : Fin 16) (row : Nat) (item : List Byte) (s : State), s.dmlOn = true → s.bit (Reg.DML_SS_ST n.val) 8 = true →
    ssTrig (s.ssAct n.val) = 0 →
    let slot := ssArg (s.ssAct n.val)
    let x : Item := { slot := slot, row := row, time := s.now, bytes := item, id := slotId (s.slot slot).record }
    ((s.sset n.val).run = none → s.sic.deferred.contains slot = false →
      exec (.setTriggerIngress n row item) s = .next (s.startSet n.val (some x))) ∧
    ((s.sset n.val).run ≠ none ∨ s.sic.deferred.contains slot = true → (s.sset n.val).queue.length < 8 →
      ∃ t, exec (.setTriggerIngress n row item) s = .next t ∧ (t.sset n.val).queue = (s.sset n.val).queue ++ [x])) ∧
  (∀ (n : Fin 16) (s : State), s.setReady n.val 1 = true → s.csq.running = true →
    ∃ t i, exec (.setTriggerStep n) s = .next t ∧ (t.sset n.val).run = some (t.now, none) ∧ (t.sset n.val).lastStep = some i ∧
      t.now = max s.now ((s.tOf i : Int) + toSigned 32 (ssArg (s.ssAct n.val)) * usT).toNat ∧ t.bit (Reg.DML_SS_ST n.val) 11 = true) ∧
  (∀ (n : Fin 16) (s : State), s.setReady n.val 2 = true → (s.sset n.val).trig ≠ none →
    exec (.setTriggerSignal n) s = .next (s.startSet n.val none)) ∧
  (∀ (n : Fin 16) (s : State), s.setReady n.val 3 = true → exec (.setTriggerOnce n) s = .next (s.startSet n.val none)) ∧
  (∀ (n : Fin 16) (τ : Time) (s : State), s.dmlOn = true → (s.sset n.val).run = some (τ, none) →
    s.bit (Reg.DML_SS_ST n.val) 9 = false → ssRepeat (s.ssAct n.val) = false →
    ∃ t, exec (.setTransferDone n) s = .next t ∧ (t.sset n.val).run = none ∧ t.bit (Reg.DML_SS_ST n.val) 8 = false ∧
      t.bit (Reg.DML_SS_ST n.val) 11 = false ∧
      t.fld' (Reg.DML_SS_ST n.val) 0 8 = (s.doMove (idSet n.val) (s.ssJob (s.ssAct n.val))).1 % 256) ∧
  (∀ (n : Fin 16) (τ : Time) (x : Option Item) (s : State), s.dmlOn = true → (s.sset n.val).run = some (τ, x) →
    ssDeadline (s.ssAct n.val) ≠ 0 →
    ∃ t, exec (.setTransferDeadline n) s = .next t ∧ t.now = max s.now (τ + ssDeadline (s.ssAct n.val) * usT) ∧
      t.regN (Reg.DML_SS_LATE n.val) = satAdd 32 (s.regN (Reg.DML_SS_LATE n.val)) 1) ∧
  (∀ (n : Fin 16) (k : Fin 8) (v : W32) (s : State), s.hostFree (Reg.DML_SS_SHD n.val k.val) = true →
    s.bit (Reg.DML_SS_ST n.val) 9 = false → exec (.shadowWrite n k v) s = .next (s.setReg (Reg.DML_SS_SHD n.val k.val) v)) ∧
  (∀ (n : Fin 16) (s : State), s.hostOpen .command (Reg.DML_SS_COMMIT n.val) = true → s.bit (Reg.DML_SS_ST n.val) 9 = false →
    s.ssOk n.val (s.ssShd n.val) = true →
    ∃ t, exec (.setCommit n) s = .next t ∧ t.fld' (Reg.DML_SS_ST n.val) 0 8 = DONE ∧ t.bit (Reg.DML_SS_ST n.val) 8 = true ∧
      t.bit (Reg.DML_SS_ST n.val) 9 = s.bit (Reg.DML_SS_ST n.val) 8)

/-- R283 to R291: program channels. GO by the owner fetches and starts a valid program; ABORT ends it with DEADLINE_ABANDONED; each
instruction has its effect where the channel stands at it; a completed MOVE leaves the channel's list; a WAIT at its TIMEOUT ends the
program. -/
def Obligations.ProgramInstructionsHaveTheirEffect : Prop :=
  (∀ (n : Fin 16) (p : List (List Byte)) (s s' : State), s.hostOpen .command (Reg.DML_PC_CTRL n.val) = true → s.notOwner idHost n.val = false →
    s.bit (Reg.DML_PC_ST n.val) 16 = false →
    s.fetchProg (idChan n.val) (s.regN (Reg.DML_PC_PROG_LO n.val) + 2 ^ 32 * s.fld' (Reg.DML_PC_PROG_HI n.val) 0 16) 128 = (.ok p, s') →
    s'.progOk n.val p = true →
    ∃ t, exec (.programGo n) s = .next t ∧ t.chan n.val = { prog := p } ∧ (p ≠ [] → t.bit (Reg.DML_PC_ST n.val) 16 = true)) ∧
  (∀ (n : Fin 16) (s : State), s.hostOpen .command (Reg.DML_PC_CTRL n.val) = true → s.notOwner idHost n.val = false →
    (s.chan n.val).prog ≠ [] →
    ∃ t, exec (.programAbort n) s = .next t ∧ (t.chan n.val).prog = [] ∧ t.fld' (Reg.DML_PC_ST n.val) 0 8 = DEADLINE_ABANDONED) ∧
  (∀ (n : Fin 16) (x : List Byte) (s : State), s.instrAt n.val 1 = some x → (s.chan n.val).moves.length < 4 →
    exec (.move n) s = .next (s.setChan n.val { s.chan n.val with
      moves := (s.chan n.val).moves ++ [(x, (s.chan n.val).loops.getD (inLreg x) 0)], pc := (s.chan n.val).pc + 1 })) ∧
  (∀ (n : Fin 16) (x : List Byte) (s : State), s.instrAt n.val 2 = some x →
    let l := (s.chan n.val).loops.getD (inLreg x) 0 + 1
    exec (.loop n) s = .next (s.setChan n.val (if l < inCount x
      then { s.chan n.val with loops := (s.chan n.val).loops.set (inLreg x) l, pc := inTarget x }
      else { s.chan n.val with loops := (s.chan n.val).loops.set (inLreg x) 0, pc := (s.chan n.val).pc + 1 }))) ∧
  (∀ (n : Fin 16) (x : List Byte) (s : State), s.instrAt n.val 3 = some x →
    exec (.wait n) s = .next ((s.setChan n.val { s.chan n.val with wait := some s.now }).waitOn ⟨idChan n.val, inSig x, inN x, .chan n.val⟩)) ∧
  (∀ (n : Fin 16) (x : List Byte) (s : State), s.instrAt n.val 4 = some x → (s.chan n.val).moves = [] →
    exec (.signal n) s = .next ((s.setChan n.val { s.chan n.val with pc := (s.chan n.val).pc + 1 }).raiseSig (inSig x) (inN x))) ∧
  (∀ (n : Fin 16) (x : List Byte) (s : State), s.instrAt n.val 5 = some x → (s.chan n.val).moves = [] →
    exec (.fence n) s = .next (s.setChan n.val { s.chan n.val with pc := (s.chan n.val).pc + 1 })) ∧
  (∀ (n : Fin 16) (x : List Byte) (s : State), s.instrAt n.val 6 = some x → (s.chan n.val).moves = [] →
    ∃ t, exec (.endProgram n) s = .next t ∧ (t.chan n.val).prog = [] ∧
      t.fld' (Reg.DML_PC_ST n.val) 0 8 = topCode (s.chan n.val).codes % 256) ∧
  (∀ (n : Fin 16) (k : Fin 4) (x : List Byte) (l : Nat) (s : State), s.dmlOn = true → (s.chan n.val).moves[k.val]? = some (x, l) →
    (s.chan n.val).failed = none → isDone (s.doMove (idChan n.val) (s.inJob x l)).1 = true →
    ∃ t, exec (.moveDone n k) s = .next t ∧ (t.chan n.val).moves = (s.chan n.val).moves.eraseIdx k.val ∧
      (t.chan n.val).codes = (s.doMove (idChan n.val) (s.inJob x l)).1 :: (s.chan n.val).codes) ∧
  (∀ (n : Fin 16) (τ : Time) (x : List Byte) (s : State), s.dmlOn = true → (s.chan n.val).wait = some τ →
    (s.chan n.val).prog[(s.chan n.val).pc]? = some x → inTimeout x ≠ 0 → (s.chan n.val).moves = [] →
    ∃ t, exec (.waitTimeout n) s = .next t ∧ (t.chan n.val).prog = [] ∧ t.now = max s.now (τ + inTimeout x * usT) ∧
      t.fld' (Reg.DML_PC_ST n.val) 0 8 = DEADLINE_ABANDONED)
/-! ### Track attention cache -/

/-- R298, R299, R324: the sequence commands. OPEN makes a FREE slot ACTIVE for its track and flock, FALLOW makes an ACTIVE sequence FALLOW,
ACTIVATE a FALLOW one ACTIVE, ending a reclamation with TRUNCATED, and CLOSE leaves the slot FREE; the active count follows, and the
initiator is answered DONE. -/
def Obligations.SequenceCommandsHaveTheirEffect : Prop :=
  (∀ (id : BitVec 10) (n : BitVec 20) (tid : W32) (f : BitVec 12) (s : State),
    s.tacOpen id.toNat Reg.TAC_CMD_SEQ Reg.TAC_CMD_SEQ_ST 16 = true → s.seqSt n.toNat = 0 → tid.toNat % 2 ^ 20 = n.toNat →
    s.flockSt f.toNat = 1 → s.fld' (Reg.TAC_FLOCK_SEQ f.toNat) 0 20 < s.fld' (Reg.TAC_FLOCK_LIM f.toNat) 0 20 → s.activeFull = false →
    ∃ t, exec (.openSeq id n tid f) s = .next t ∧ t.seqSt n.toNat = 1 ∧ t.seqTid n.toNat = tid.toNat ∧ t.seqFlock n.toNat = f.toNat ∧
      t.seqPages n.toNat = 0 ∧ t.seqNext n.toNat = 0 ∧ t.regN Reg.TAC_ACTIVE_CNT = s.regN Reg.TAC_ACTIVE_CNT + 1 ∧
      t.fld' (Reg.TAC_FLOCK_SEQ f.toNat) 0 20 = s.fld' (Reg.TAC_FLOCK_SEQ f.toNat) 0 20 + 1 ∧
      t.tacAnswer id.toNat Reg.TAC_CMD_SEQ_ST DONE ∧ s.SameMemoryOutside t (s.seqAddr n.toNat) 64) ∧
  (∀ (id : BitVec 10) (n : BitVec 20) (s : State), s.tacOpen id.toNat Reg.TAC_CMD_SEQ Reg.TAC_CMD_SEQ_ST 16 = true →
    s.seqSt n.toNat = 1 →
    ∃ t, exec (.fallow id n) s = .next t ∧ t.seqSt n.toNat = 2 ∧ t.seqFlock n.toNat = s.seqFlock n.toNat ∧
      t.regN Reg.TAC_ACTIVE_CNT = s.regN Reg.TAC_ACTIVE_CNT - 1 ∧ t.tacAnswer id.toNat Reg.TAC_CMD_SEQ_ST DONE ∧
      s.SameMemoryOutside t (s.seqAddr n.toNat + 4) 2) ∧
  (∀ (id : BitVec 10) (n : BitVec 20) (s : State), s.tacOpen id.toNat Reg.TAC_CMD_SEQ Reg.TAC_CMD_SEQ_ST 16 = true →
    s.seqSt n.toNat = 2 → s.activeFull = false →
    ∃ t, exec (.activate id n) s = .next t ∧ t.seqSt n.toNat = 1 ∧ t.seqFlag n.toNat 2 = false ∧
      t.seqFlag n.toNat 1 = (s.seqFlag n.toNat 1 || s.seqFlag n.toNat 2) ∧
      t.regN Reg.TAC_ACTIVE_CNT = s.regN Reg.TAC_ACTIVE_CNT + 1 ∧ t.tacAnswer id.toNat Reg.TAC_CMD_SEQ_ST DONE ∧
      s.SameMemoryOutside t (s.seqAddr n.toNat + 4) 4) ∧
  (∀ (id : BitVec 10) (n : BitVec 20) (s : State), s.tacOpen id.toNat Reg.TAC_CMD_SEQ Reg.TAC_CMD_SEQ_ST 16 = true →
    s.seqSt n.toNat ≠ 0 →
    ∃ t, exec (.close id n) s = .next t ∧ t.seqSt n.toNat = 0 ∧ t.seqTid n.toNat = 0 ∧ t.tacAnswer id.toNat Reg.TAC_CMD_SEQ_ST DONE ∧
      s.SameMemoryOutside t (s.seqAddr n.toNat) 64)

/-- R304, R325, R326, R356: the page-table commands. DROP_OLDEST takes pages off the front, DROP_ALL takes all, ADD_PAGE puts one at the
end; each with the block a new table needs, answered DONE. A host's command that needs a block while none is free waits, and the host sees it
busy. -/
def Obligations.PageTableCommandsHaveTheirEffect : Prop :=
  (∀ (id : BitVec 10) (n : BitVec 20) (k : BitVec 5) (s : State),
    s.tacOpen id.toNat Reg.TAC_CMD_PGT_EDIT Reg.TAC_CMD_PGT_ST 8 = true → 0 < k.toNat → k.toNat ≤ s.seqPages n.toNat →
    (k.toNat = s.seqPages n.toNat ∨ 0 < ivLen s.tac.blocks) →
    ∃ t, exec (.dropOldest id n k) s = .next t ∧ t.seqPages n.toNat = s.seqPages n.toNat - k.toNat ∧
      t.tacAnswer id.toNat Reg.TAC_CMD_PGT_ST DONE) ∧
  (∀ (id : BitVec 10) (n : BitVec 20) (s : State), s.tacOpen id.toNat Reg.TAC_CMD_PGT_EDIT Reg.TAC_CMD_PGT_ST 8 = true →
    ∃ t, exec (.dropAll id n) s = .next t ∧ t.seqPages n.toNat = 0 ∧ t.tacAnswer id.toNat Reg.TAC_CMD_PGT_ST DONE ∧
      s.SameMemoryOutside t (s.seqAddr n.toNat) 64) ∧
  (∀ (id : BitVec 10) (n : BitVec 20) (c : BitVec 5) (s : State),
    s.tacOpen id.toNat Reg.TAC_CMD_PGT_EDIT Reg.TAC_CMD_PGT_ST 8 = true → c.toNat ≤ 7 → s.seqSt n.toNat ≠ 0 →
    s.flockFull (s.seqFlock n.toNat) c.toNat = false → s.seqPages n.toNat < 32 →
    s.seqCap n.toNat + 2 ^ c.toNat ≤ 2 ^ s.fld' Reg.TAC_ENTRY_CFG 8 3 → 0 < ivLen s.tac.blocks →
    s.freePages.any (fun p => decide (c.toNat ≤ p.2)) = true → s.reserveUnits + 2 ^ c.toNat ≤ ivLen s.tac.free →
    ∃ t, exec (.addPage id n c) s = .next t ∧ t.seqPages n.toNat = s.seqPages n.toNat + 1 ∧
      t.tacAnswer id.toNat Reg.TAC_CMD_PGT_ST DONE) ∧
  (∀ (n : BitVec 20) (k : BitVec 5) (s : State), s.tacOpen idHost Reg.TAC_CMD_PGT_EDIT Reg.TAC_CMD_PGT_ST 8 = true →
    0 < k.toNat → k.toNat < s.seqPages n.toNat → ivLen s.tac.blocks = 0 →
    ∃ t, exec (.dropOldest (BitVec.ofNat 10 idHost) n k) s = .next t ∧ t.tac.waits = s.tac.waits ++ [⟨idHost, n.toNat, 1, k.toNat⟩] ∧
      t.bit Reg.TAC_CMD_PGT_ST 8 = true ∧ s.SameMemory t ∧ s.SameRegsBut t [Reg.TAC_CMD_PGT_ST])

/-- R349, R350: FLOCK_CREATE enables a DISABLED flock with its quotas, SET_QUOTA changes them and puts the flock in or out of OVER_QUOTA by
its usage, DISABLE disables a flock without sequences. -/
def Obligations.FlockCommandsHaveTheirEffect : Prop :=
  (∀ (id : BitVec 10) (f : BitVec 12) (q lim : W32) (s : State),
    s.tacOpen id.toNat Reg.TAC_CMD_FLOCK Reg.TAC_CMD_FLOCK_ST 8 = true → s.flockSt f.toNat = 0 → s.lthState = 3 →
    s.quotaFits f.toNat q.toNat = true →
    ∃ t, exec (.flockCreate id f q lim) s = .next t ∧ t.flockSt f.toNat = 1 ∧ t.reg (Reg.TAC_FLOCK_Q f.toNat) = q ∧
      t.regN (Reg.TAC_FLOCK_LIM f.toNat) = lim.toNat % 2 ^ 28 ∧ t.tacAnswer id.toNat Reg.TAC_CMD_FLOCK_ST DONE) ∧
  (∀ (id : BitVec 10) (f : BitVec 12) (q lim : W32) (s : State),
    s.tacOpen id.toNat Reg.TAC_CMD_FLOCK Reg.TAC_CMD_FLOCK_ST 8 = true → (s.flockSt f.toNat = 1 ∨ s.flockSt f.toNat = 2) →
    s.lthState = 3 → s.quotaFits f.toNat q.toNat = true →
    ∃ t, exec (.setQuota id f q lim) s = .next t ∧ t.reg (Reg.TAC_FLOCK_Q f.toNat) = q ∧
      t.regN (Reg.TAC_FLOCK_LIM f.toNat) = lim.toNat % 2 ^ 28 ∧
      t.flockSt f.toNat = (if q.toNat < s.regN (Reg.TAC_FLOCK_USED f.toNat) then 2 else 1) ∧
      t.tacAnswer id.toNat Reg.TAC_CMD_FLOCK_ST DONE) ∧
  (∀ (id : BitVec 10) (f : BitVec 12) (s : State), s.tacOpen id.toNat Reg.TAC_CMD_FLOCK Reg.TAC_CMD_FLOCK_ST 8 = true →
    s.flockSt f.toNat ≠ 0 → s.fld' (Reg.TAC_FLOCK_SEQ f.toNat) 0 20 = 0 →
    ∃ t, exec (.disableFlock id f) s = .next t ∧ t.flockSt f.toNat = 0 ∧ t.tacAnswer id.toNat Reg.TAC_CMD_FLOCK_ST DONE)

/-- R309, R312, R322, R327, R329, R341: an append in a free slot of the last page writes the entry's header and advances NEXT_ENTRY; one to a
sequence that is not ACTIVE is refused, and one beyond APPEND_MAX is refused and counted; the
reclaimer runs once after a publication; a walk takes a reference on the version in force, and its end releases it. -/
def Obligations.AppendsReclaimerAndWalksHaveTheirEffect : Prop :=
  (∀ (n : BitVec 20) (time : Nat) (x : BitVec 8) (late : Bool) (a : Nat) (s : State), s.tacOn = true → s.seqSt n.toNat = 1 →
    SMap.get 0 s.tac.appends n.toNat < s.appendMax → s.nextSlot n.toNat = some a →
    (a + 32 ≤ s.seqAddr n.toNat ∨ s.seqAddr n.toNat + 64 ≤ a) →
    ∃ t, exec (.kvAppend n time x late) s = .next t ∧ t.peek a 8 = time % 2 ^ 64 ∧ t.peek (a + 8) 4 = s.seqNext n.toNat ∧
      t.peek (a + 16) 1 = x.toNat ∧ t.peek (a + 17) 1 = (if late then 4 else 0) ∧
      t.seqNext n.toNat = (s.seqNext n.toNat + 1) % 2 ^ 21 ∧
      SMap.get 0 t.tac.appends n.toNat = SMap.get 0 s.tac.appends n.toNat + 1 ∧ t.out = s.out ++ [.done 0x08 idFld DONE]) ∧
  (∀ (n : BitVec 20) (time : Nat) (x : BitVec 8) (late : Bool) (s : State), s.tacOn = true →
    (s.seqSt n.toNat ≠ 1 → exec (.kvAppend n time x late) s = .next (s.emit (.done 0x08 idFld REFUSED_STATE))) ∧
    (s.seqSt n.toNat = 1 → s.appendMax ≤ SMap.get 0 s.tac.appends n.toNat →
      exec (.kvAppend n time x late) s = .next ((s.countSat Reg.FLD_APPEND_DROP 0 32 1).emit (.done 0x08 idFld REFUSED_STATE)))) ∧
  (∀ (k : Nat) (s : State), s.tacOn = true → s.csq.pub = some k → s.tac.reclaimed ≠ some k →
    ∃ t, exec .reclaimer s = .next t ∧ t.tac.reclaimed = some k ∧ t.tac.walks = s.tac.walks) ∧
  (∀ (n : BitVec 20) (m : Fin 34) (ahead : Bool) (s : State), s.tacOn = true → s.seqSt n.toNat = 1 → s.tac.walks.length < 1024 →
    (∀ w ∈ s.tac.walks, w.slot ≠ n.toNat) → s.decodeTile m.val = true → (ahead = true → SMap.get 0 s.tac.appends n.toNat = 0) →
    ∃ t w, exec (.walkStart n m ahead) s = .next t ∧ t.tac.walks = s.tac.walks ++ [w] ∧ w.slot = n.toNat ∧ w.tile = m.val ∧
      w.ahead = ahead ∧ w.version = s.seqVersion n.toNat ∧ w.block = s.seqPtb n.toNat) ∧
  (∀ (n : BitVec 20) (w : Walk) (s : State), s.tacOn = true → s.tac.walks.find? (fun v => v.slot == n.toNat) = some w →
    s.staging w.tile = false →
    ∃ t, exec (.walkEnd n) s = .next t ∧ t.tac.walks = s.tac.walks.filter (fun v => v.slot != n.toNat))

/-! ### Fold -/

/-- R22, R23, R362, R363, R367, R393, R403: a detection in form from a PRESENT slot joins the intake; C_i fixes step i; a track command waits for
the cut-off; every CONTRA_DECAY steps each contradiction counter falls by one. -/
def Obligations.DetectionsCutoffAndTrackCommandsHaveTheirEffect : Prop :=
  (∀ (b : List Byte) (box : DetBox) (s : State), s.powered 97 = true →
    let x := s.passed b box
    (s.slot (dtSlot x)).st = .present →
    (s.detOk x = true → s.inDrove = false →
      exec (.detectionReady ⟨b, box⟩) s = .next { s with fld := { s.fld with intake := s.fld.intake ++ [{ bytes := x, ready := s.now, level := 4 }] } }) ∧
    (s.detOk x = false → exec (.detectionReady ⟨b, box⟩) s = .next (s.countSat Reg.FLD_DET_DROP 0 32 1)) ∧
    (recKind (s.slot (dtSlot b)).record ≠ kCamera → x = patch b 14 [0, 0])) ∧
  (∀ s : State, s.csq.running = true → s.csq.t0Set = true → s.csq.cur.active = false → s.csq.stopAt = none → s.csq.change = none → s.slk.handoff = none →
    s.csqOn = true →
    ∃ t, exec .ingestCutoff s = .next t ∧ t.csq.cur.i = s.csq.next ∧ t.csq.cur.active = true ∧ t.csq.next = s.csq.next + 1) ∧
  (∀ (n : BitVec 20) (s : State), s.hostOpen .command Reg.FLD_TRACK_CMD = true → s.bit Reg.FLD_TRACK_CMD_ST 16 = false →
    (tkSt (s.trk n.toNat) = tkFREE → exec (.kill n) s = .next (s.status Reg.FLD_TRACK_CMD_ST REFUSED_STATE)) ∧
    (tkSt (s.trk n.toNat) ≠ tkFREE →
      ∃ t, exec (.kill n) s = .next t ∧ t.fld.cmds = s.fld.cmds ++ [.kill n.toNat] ∧ t.bit Reg.FLD_TRACK_CMD_ST 16 = true ∧
        s.SameMemory t ∧ s.SameRegsBut t [Reg.FLD_TRACK_CMD_ST])) ∧
  (∀ (n : BitVec 8) (s : State), s.hostOpen .command Reg.FLD_TRACK_CMD = true → s.bit Reg.FLD_TRACK_CMD_ST 16 = false →
    ∃ t, exec (.clearContra n) s = .next t ∧ t.fld.cmds = s.fld.cmds ++ [.clear n.toNat] ∧ t.bit Reg.FLD_TRACK_CMD_ST 16 = true ∧
      s.SameMemory t ∧ s.SameRegsBut t [Reg.FLD_TRACK_CMD_ST]) ∧
  (∀ s : State, s.Canonical → s.fldOn = true → s.fld' Reg.FLD_CONTRA_CFG 0 16 ≠ 0 →
    s.fld.decayAt + s.fld' Reg.FLD_CONTRA_CFG 0 16 ≤ s.stepNo →
    ∃ t, exec .contraDecay s = .next t ∧ t.fld.decayAt = s.stepNo ∧ (∀ a b, a < 256 → b < 256 → t.cp a b = s.cp a b - 1) ∧
      s.SameMemory t ∧ ∀ o, (o < Reg.FLD_CP 0 ∨ Reg.FLD_CP 32768 ≤ o) → t.reg o = s.reg o)

/-- R366, R367, Table 8.4: the time-based transitions of a track, at a cut-off at or after its deadline: a TENTATIVE track is CONFIRMED or
retires, a CONFIRMED one coasts, goes FALLOW or retires, a COASTING one goes FALLOW or retires, a FALLOW one retires. -/
def Obligations.TrackTimeoutsTakeTheTransitionsOfTheTable : Prop :=
  ∀ (n : BitVec 20) (s : State), s.fldOn = true → s.runsStages = true → s.fld.cmds.contains (.kill n.toNat) = false →
    let b := s.trk n.toNat
    let due (d : Nat) : Prop := s.csq.running = false ∨ s.cOf s.csq.next < d * nsT + s.cadence ∨ d * nsT ≤ s.now
    (tkSt b = tkTENTATIVE → due (tkBirth b + s.confMs * 1000000) →
      ∃ t, exec (.trackConfirmTimeout n) s = .next t ∧ tkSt (t.trk n.toNat) = (if confirms s b then tkCONFIRMED else tkRETIRING)) ∧
    (tkSt b = tkCONFIRMED → due (tkLastTime b + s.coastMs * 1000000) →
      ∃ t, exec (.trackCoastTimeout n) s = .next t ∧
        tkSt (t.trk n.toNat) = (if !s.inRegionOf b then tkRETIRING
          else if tkLastTime b + s.fallowMs * 1000000 ≤ t.ns ∨ tkExist b < s.dropExist then tkFALLOW else tkCOASTING)) ∧
    ((tkSt b = tkCONFIRMED ∨ tkSt b = tkCOASTING) → due (tkLastTime b + s.fallowMs * 1000000) →
      ∃ t, exec (.trackFallowTimeout n) s = .next t ∧
        tkSt (t.trk n.toNat) = (if s.inRegionOf b then tkFALLOW else tkRETIRING)) ∧
    (tkSt b = tkFALLOW → due (SMap.get 0 s.fld.entered n.toNat + s.fallowMax * 1000000000) →
      ∃ t, exec (.fallowMaxTimeout n) s = .next t ∧ tkSt (t.trk n.toNat) = tkRETIRING)
/-! ### Batched solver engine -/

/-- R405 to R409, R424, R427, R432 to R436, R439: a batch in form joins the queue, from the command port or the host's doorbell; a free lane
takes the next problem; a problem that completes ends in the Done class and frees its lane; at the cut-off every unfinished problem ends;
a batch whose problems have ended leaves the queue and raises its signal; an armed fault waits in its lane. -/
def Obligations.SolverCommandsHaveTheirEffect : Prop :=
  (∀ (id : BitVec 10) (b : List Byte) (s : State), s.bseOn = true → s.admitsReg 37 id.toNat .command Reg.BSE_DOORBELL 4 = true →
    s.batchOk id.toNat b = true → s.batchAdmits id.toNat b = true → s.bse.batches.length < 8 →
    ∃ t x, exec (.batchSubmit id b) s = .next t ∧ x ∈ t.bse.batches ∧ t.bse.batches.length = s.bse.batches.length + 1 ∧ x.desc = b ∧
      x.id = id.toNat ∧ x.seq = s.bse.accepted ∧ x.tag = s.bse.nextTag % 256 ∧ x.probs = List.replicate (bdCount b) .waiting ∧
      t.bse.accepted = s.bse.accepted + 1 ∧ (bdCtl b 5 = false → s.SameMemory t ∧ s.SameRegsBut t [])) ∧
  (∀ s : State, s.hostOpen .command Reg.BSE_DOORBELL = true →
    let b := s.regBytes (Reg.BSE_BATCH_STAGE 0) 16
    s.batchOk idHost b = true → s.batchAdmits idHost b = true → s.bse.batches.length < 8 → s.bse.nextTag < 256 →
    ∃ t x, exec .bseDoorbell s = .next t ∧ x ∈ t.bse.batches ∧ t.bse.batches.length = s.bse.batches.length + 1 ∧ x.desc = b ∧
      x.id = idHost ∧ x.seq = s.bse.accepted ∧ t.fld' Reg.BSE_SUBMIT_ST 0 8 = DONE ∧ t.fld' Reg.BSE_SUBMIT_ST 8 8 = s.bse.nextTag) ∧
  (∀ (l : Fin 32) (x : Batch) (k : Nat) (s : State), s.bseOn = true → s.laneFree l.val = true → s.nextProb = some (x, k) →
    s.msys.damage = [] → s.hdrOk x (s.probHdr x k) = true → s.pastCut x = false →
    exec (.problemStart l) s = .next ((s.setProb x.seq k (.running l.val)).setLane l.val { s.lane l.val with run := some (x.seq, k) })) ∧
  (∀ (l : Fin 32) (r : ProblemOutcome) (q k : Nat) (x : Batch) (s : State), s.bseOn = true → (s.lane l.val).run = some (q, k) →
    s.bse.batches.find? (fun b => b.seq == q) = some x → k < x.probs.length → r.lane ≠ .uncorrectable → r.badInput = false →
    (s.pastCut x = false ∨ r.cut ≠ none) →
    let u := s.takeInjection l.val
    (u.probRun x k r.cut).2.2 ≠ .rejected →
    ∃ t y c, exec (.problemDone l r) s = .next t ∧ (t.lane l.val).run = none ∧ y ∈ t.bse.batches ∧ y.seq = q ∧
      y.probs = x.probs.set k (.ended c) ∧ isDone c = true ∧
      ((u.probRun x k r.cut).1.sats = 0 → (u.probRun x k r.cut).1.pivot = none → (u.probRun x k r.cut).2.2 ≠ .partialAt →
        bdFold x.desc = false → bdCtl x.desc 2 = false → c = DONE)) ∧
  (∀ (g : BitVec 8) (x : Batch) (s : State), s.bseOn = true →
    s.bse.batches.find? (fun b => b.tag == g.toNat && !b.cut && bdDeadline b.desc != 0) = some x →
    ∃ t y, exec (.batchCutoff g) s = .next t ∧ t.now = max s.now (bdDeadline x.desc * nsT - bdRes x.desc * usT) ∧ y ∈ t.bse.batches ∧
      y.seq = x.seq ∧ y.desc = x.desc ∧ y.cut = true ∧ y.probs.length = x.probs.length ∧ y.probs.all (fun p => !p.open) = true) ∧
  (∀ (g : BitVec 8) (x : Batch) (s : State), s.bseOn = true →
    s.bse.batches.find? (fun b => b.tag == g.toNat && b.probs.all (fun p => !p.open)) = some x →
    let c := topCode (x.probs.map (fun p => match p with
      | .ended c => c
      | _ => DONE))
    let u := (({ s with bse := { s.bse with batches := s.bse.batches.filter (fun b => b.seq != x.seq) } }).setReg Reg.BSE_LAST_DONE
      (BitVec.ofNat 32 (c + 256 * x.tag + 65536 * (bdStep x.desc % 65536)))).emit (.done 0x0A x.id c)
    exec (.batchDone g) s = .next (if bdSigDone x.desc = 0xFFFF then u else u.raiseSig (bdSigDone x.desc) 1)) ∧
  (∀ (w : W32) (s : State), s.hostOpen .write Reg.BSE_INJECT = true → s.feat 9 = true → (fieldOf w 8 2 = 1 ∨ fieldOf w 8 2 = 2) →
    exec (.bseInject w) s = .next (s.setLane (fieldOf w 0 5) { s.lane (fieldOf w 0 5) with inj := some (fieldOf w 8 2) }))

/-! ### Step cycle and publishing -/

/-- R441 to R443, R451, R452: RUN starts the cycle in Idle at the first step of the grid whose cut-off lies at least two cadences ahead,
forming T_0 when none is set (a member of a pair or drove other than device 0 waits for its EPOCH instead, R32); clearing it stops the cycle after the steps in hand; a cadence request that fits takes effect at the step
named, and leaves the instant of that step where it was. -/
def Obligations.RunAndCadenceCommandsHaveTheirEffect : Prop :=
  (∀ s : State, s.hostFree Reg.CSQ_CTRL = true → s.lthState = 3 → s.csq.running = false → s.pwr = 3 → s.bit Reg.AON_PWR_STATE 8 = false →
    s.csq.change = none → 0 < s.cadence →
    let a := s.now + 2 * s.cadence + s.regN Reg.CSQ_CUTOFF * usT
    ∃ t, exec .runStart s = .next t ∧ t.csq.running = true ∧ t.csq.stopAt = none ∧ t.csq.cur.active = false ∧
      (s.regT0 = none → (s.slkConfig = 0 ∨ s.devNo = 0) → t.csq.t0Set = true ∧ t.csq.t0 = ceilDiv s.now msT * msT + 2 * s.cadence) ∧
      (s.regT0 = none → s.slkConfig ≠ 0 → s.devNo ≠ 0 → t.csq.t0Set = s.csq.t0Set ∧ t.csq.t0 = s.csq.t0) ∧
      (∀ x, s.regT0 = some x → t.csq.t0Set = true ∧ t.csq.t0 = x) ∧
      a ≤ t.csq.t0 + t.csq.next * s.cadence ∧ (∀ j, a ≤ t.csq.t0 + j * s.cadence → t.csq.next ≤ j) ∧
      t.bit Reg.CSQ_CTRL 0 = true ∧ t.bit Reg.CSQ_STATUS 0 = true ∧ t.pwr = 4) ∧
  (∀ s : State, s.hostFree Reg.CSQ_CTRL = true → s.csq.running = true → s.csq.stopAt = none →
    ∃ t, exec .runStop s = .next t ∧ t.csq.running = true ∧ t.csq.stopAt = some s.csq.next ∧ t.bit Reg.CSQ_CTRL 0 = false) ∧
  (∀ (k : Nat) (s : State), s.csq.stopAt = some k → s.csq.running = true → s.csq.cur.active = false → s.csq.segs = [] →
    ∃ t, exec .cycleStopped s = .next t ∧ t.csq.running = false ∧ t.csq.stopAt = none ∧ t.bit Reg.CSQ_STATUS 0 = false ∧ t.pwr = 3) ∧
  (∀ (x : BitVec 2) (d : Sched) (s : State), s.hostOpen .command Reg.CSQ_CAD_REQ = true → s.bit Reg.CSQ_CAD_ST 16 = false →
    SMap.find? s.csq.scheds x.toNat = some d → s.lthState = 3 → s.csq.t0Set = true →
    ∃ t, exec (.cadenceRequest x) s = .next t ∧
      (s.fitNow 0 [(x.toNat, d)] = none → t.csq.change = some (x.toNat, s.stepAhead) ∧ t.bit Reg.CSQ_CAD_ST 16 = true ∧
        t.reg Reg.CSQ_CAD_STEP = BitVec.ofNat 32 s.stepAhead) ∧
      (s.fitNow 0 [(x.toNat, d)] ≠ none → t.csq.change = s.csq.change ∧ t.fld' Reg.CSQ_CAD_ST 0 8 = REFUSED_FIT)) ∧
  (∀ (x k : Nat) (d : Sched) (s : State), s.csq.change = some (x, k) → s.csq.running = true → s.csq.cur.active = false → k ≤ s.csq.next →
    s.csq.t0Set = true → SMap.find? s.csq.scheds x = some d → d.cadence < 2 ^ 32 → k * (d.cadence * usT) ≤ s.tOf k →
    ∃ t, exec .cadenceSwitch s = .next t ∧ t.csq.sched = x ∧ t.csq.change = none ∧ t.cadence = d.cadence * usT ∧ t.tOf k = s.tOf k ∧
      t.fld' Reg.CSQ_CAD_ST 0 8 = DONE ∧ t.bit Reg.CSQ_CAD_ST 16 = false)

/-- R445, R446, R448, R449, R566: a stage opens, completes and closes in order; at its OPEN the tiles that serve it see the window, at its
completion they no longer do; a stage unfinished at CLOSE is counted and makes the step late; the last stage's OPEN seals the lists. -/
def Obligations.StageCommandsHaveTheirEffect : Prop :=
  (∀ (k : Fin 5) (s : State), s.csq.cur.active = true → s.csqOn = true → s.csq.cur.opened.length = k.val → s.csq.cur.closed.length = k.val →
    ∃ t, exec (.stageOpen k) s = .next t ∧ t.csq.cur.opened = s.csq.cur.opened ++ [k.val] ∧
      t.now = max s.now (s.atOff' (s.winOpen k.val)) ∧ (k.val = 4 → t.csq.cur.recs.length = 3) ∧
      (k.val ≠ 4 → ∀ n, n < 34 → (s.tile n).serves = some k.val → (t.tile n).window = true)) ∧
  (∀ (k : Fin 5) (s : State), s.csq.cur.active = true → s.csqOn = true → s.csq.cur.opened.contains k.val = true →
    s.csq.cur.completed.contains k.val = false →
    ∃ t, exec (.stageComplete k) s = .next t ∧ t.csq.cur.completed = s.csq.cur.completed ++ [k.val] ∧
      (∀ n, n < 34 → (s.tile n).serves = some k.val → (t.tile n).window = false) ∧
      (s.now < s.atOff' (s.winOpen k.val + s.winMin k.val) →
        t.fld' (Reg.CSQ_WIN_CNT k.val) 16 16 = satAdd 16 (s.fld' (Reg.CSQ_WIN_CNT k.val) 16 16) 1) ∧
      (s.csq.cur.closed.contains k.val = false → s.atOff' (s.winClose k.val) < s.now → t.csq.cur.late = true)) ∧
  (∀ (k : Fin 5) (w : StageWork) (s : State), s.csq.cur.active = true → s.csqOn = true → s.csq.cur.opened.length = k.val + 1 →
    s.csq.cur.closed.length = k.val →
    ∃ t, exec (.stageClose k w) s = .next t ∧ t.csq.cur.closed = s.csq.cur.closed ++ [k.val] ∧
      t.now = max s.now (s.atOff' (s.winClose k.val)) ∧
      (s.csq.cur.completed.contains k.val = false → t.csq.cur.late = true))

/-- R25, R450, R456, R467, R474, R477: at T_i a sealed step is published and leaves the cycle; a started segment of the controller stream
leaves its port; a valid consumer index is taken and an invalid one sets its status bit; a read of the Publish FIFO takes its next word; a
switch port's link comes up or goes down. -/
def Obligations.PublishingCommandsHaveTheirEffect : Prop :=
  (∀ s : State, s.csq.cur.active = true → s.csqOn = true → s.csq.cur.opened.length = 5 → s.saf.rsPhase ≠ 1 →
    ∃ t, exec .publicationStart s = .next t ∧ t.csq.pub = some s.csq.cur.i ∧ t.csq.cur.active = false ∧
      s.tOf s.csq.cur.i ≤ t.now ∧ t.saf.chanStep = some s.csq.cur.i ∧
      (s.publishes = true → t.regN Reg.CSQ_STEP_LO = s.csq.cur.i % 2 ^ 32)) ∧
  (∀ (x : Seg) (r : List Seg) (s : State), s.csq.segs = x :: r → x.started = true → s.csLink = true → s.txAssoc s.csPort = none →
    (s.swPort s.csPort).macsecReq = false → s.saf.rsPhase ≠ 1 →
    let f := s.csFrame (leNat ((x.bytes.drop 32).take 4)) x.bytes
    ∃ t, exec .csSegmentSent s = .next t ∧ t.csq.segs.map (·.bytes) = r.map (·.bytes) ∧
      t.out = s.out ++ [.eth s.csPort 12 (ethBytes f (s.seqStamp f).1), .list 1 x.step x.bytes] ∧
      t.regN Reg.CSQ_CS_SENT = (s.regN Reg.CSQ_CS_SENT + 1) % 2 ^ 32) ∧
  (∀ (v : W32) (s : State), s.hostFree Reg.CSQ_RING_CONS = true →
    let d (x : Nat) := (x + 2 ^ 32 - s.regN Reg.CSQ_RING_CONS) % 2 ^ 32
    (d v.toNat ≤ d (s.regN Reg.CSQ_RING_PROD) → exec (.ringConsWrite v) s = .next (s.setReg Reg.CSQ_RING_CONS v)) ∧
    (d (s.regN Reg.CSQ_RING_PROD) < d v.toNat → exec (.ringConsWrite v) s = .next (s.setBit Reg.CSQ_STATUS 8 true))) ∧
  (∀ (wide : Bool) (w : BitVec 64) (u s : State), s.hostOpenN .read Reg.CSQ_PF_DATA (if wide then 8 else 4) = true →
    s.fifoGet 0 idHost = (.ok w, u) →
    exec (.pfifoRead wide) s = .next ((u.setReg Reg.CSQ_PF_DATA_HI (BitVec.ofNat 32 (w.toNat / 2 ^ 32))).emit
      (.host .sc (leBytes (if wide then 8 else 4) w.toNat)))) ∧
  (∀ (q : Fin 12) (s : State), s.ethLive q.val = true →
    (∃ t, exec (.ethLinkChange q true) s = .next t ∧ t.bit (Reg.SIC_ETH_STAT q.val) 2 = true ∧
      s.SameRegsBut t [Reg.SIC_ETH_STAT q.val] ∧ s.SameMemory t) ∧
    (s.saf.rsPhase ≠ 1 → ∃ t, exec (.ethLinkChange q false) s = .next t ∧ t.bit (Reg.SIC_ETH_STAT q.val) 2 = false ∧
      (q.val = s.csPort → t.csq.segs = [])))
/-! ### The Lath image -/

/-- R487 to R492, R497, R510, R511: LOAD copies the image and shows the load; the end of its phases leaves an image applied or the old one in
force, a bad header changing nothing but the status and its reason; ABORT ends it; RB_ADVANCE burns up to the applied image's counter; UNLOAD
leaves no image, the built-in rules and cleared tiles; a resume ends APPLIED or NONE. -/
def Obligations.LathCommandsHaveTheirEffect : Prop :=
  (∀ s : State, s.hostOpen .command Reg.LTH_CMD = true → s.bit Reg.LTH_CMD_ST 16 = false → s.locked = true →
    s.bit Reg.CSQ_STATUS 0 = false → (s.lthState = 0 ∨ s.lthState = 3) → s.msys.damage = [] → s.msys.retired = [] → s.sec.refill = false →
    let a := s.regN Reg.LTH_SRC_LO + 2 ^ 32 * s.fld' Reg.LTH_SRC_HI 0 16
    let n := s.regN Reg.LTH_LEN
    a % 64 = 0 → n ≤ 0x8000000 → dramData a n = true → s.admits idLth .read a n = true →
    ∃ t, exec .load s = .next t ∧ t.lth.img = s.bytesAt a n ∧ t.lth.busyOp = 1 ∧ t.lthState = 1 ∧ t.bit Reg.LTH_CMD_ST 16 = true ∧
      t.fld' Reg.LTH_CMD_ST 8 4 = 1 ∧ t.lth.applied = s.lth.applied ∧ s.SameMemory t ∧
      s.SameRegsBut t [Reg.LTH_STATE, Reg.LTH_CMD_ST]) ∧
  (∀ s : State, s.lthState = 1 →
    ∃ t, exec .loadEnd s = .next t ∧ t.bit Reg.LTH_CMD_ST 16 = false ∧ t.lth.busyOp = 0 ∧ t.lth.img = [] ∧
      (t.lthState = 0 ∨ t.lthState = 3) ∧
      (s.msys.damage = [] → s.sec.refill = false → ∀ f, s.headCheck s.lth.img = some f →
        t.fld' Reg.LTH_CMD_ST 0 8 = reasonStatus f.1 ∧ t.lth.applied = s.lth.applied ∧ t.saf.rules = s.saf.rules ∧ s.SameMemory t)) ∧
  (∀ s : State, s.hostOpen .command Reg.LTH_CMD = true →
    (s.lthState ≠ 1 → exec .abort s = .next s) ∧
    (s.lthState = 1 → ∃ t, exec .abort s = .next t ∧ t.lthState = (if s.lth.applied.isEmpty then 0 else 3) ∧ t.lth.img = [] ∧
      t.fld' Reg.LTH_CMD_ST 0 8 = REFUSED_STATE ∧ t.bit Reg.LTH_CMD_ST 16 = false ∧ t.reg Reg.LTH_REASON = 0)) ∧
  (∀ s : State, s.hostOpen .command Reg.LTH_CMD = true → s.bit Reg.LTH_CMD_ST 16 = false → s.lthState = 3 →
    ∃ t, exec .rbAdvance s = .next t ∧
      (rollbackOf s.lth.applied ≤ s.sec.otp.rollback → t.fld' Reg.LTH_CMD_ST 0 8 = DONE ∧ t.bit Reg.LTH_CMD_ST 16 = false) ∧
      (s.sec.otp.rollback < rollbackOf s.lth.applied → t.lth.busyOp = 3 ∧ t.bit Reg.LTH_CMD_ST 16 = true)) ∧
  (∀ s : State, s.lth.busyOp = 3 →
    ∃ t, exec .rbAdvanceDone s = .next t ∧ t.sec.otp.rollback = max s.sec.otp.rollback (rollbackOf s.lth.applied) ∧ t.lth.busyOp = 0 ∧
      t.fld' Reg.LTH_CMD_ST 0 8 = DONE ∧ t.bit Reg.LTH_CMD_ST 16 = false) ∧
  (∀ s : State, s.hostOpen .command Reg.LTH_CMD = true → s.bit Reg.LTH_CMD_ST 16 = false → s.lthState = 3 →
    s.bit Reg.CSQ_STATUS 0 = false →
    ∃ t, exec .unload s = .next t ∧ t.lthState = 0 ∧ t.lth.applied = [] ∧ t.saf.built = true ∧ t.saf.rules = [] ∧
      t.fld' Reg.LTH_CMD_ST 0 8 = DONE ∧ ∀ a, a < tileEnd → t.byteAt a = 0) ∧
  (∀ s : State, s.lthState = 4 → s.bit Reg.MEM_FILL_ST 0 = true →
    ∃ t, exec .resumeDone s = .next t ∧ t.lth.busyOp = 0 ∧ (t.lthState = 0 ∨ t.lthState = 3) ∧
      (s.sec.refill = true → t.lthState = 0 ∧ t.lth.applied = [] ∧ t.saf.built = true))

/-! ### Memory integrity -/

/-- R529, R535 to R541, R543 to R546, R554: fills end, a scrubber read heals what its code can correct and counts it, the lap target adapts,
corrected errors are reported, a retirement that is admitted joins the list, and an injection in form is armed. -/
def Obligations.MemoryCommandsHaveTheirEffect : Prop :=
  (∀ s : State, s.memOn = true → s.bit Reg.MEM_FILL_ST 0 = false →
    ∃ t, exec (.memFillDone true false) s = .next t ∧ t.bit Reg.MEM_FILL_ST 0 = true ∧ t.msys.keyed = true) ∧
  (∀ s : State, s.memOn = true → s.sec.refill = true → s.msys.keyed = true →
    ∃ t, exec (.memFillDone false true) s = .next t ∧ t.bit Reg.MEM_FILL_ST 1 = true ∧ t.sec.refill = false) ∧
  (∀ (l : MemLoc) (a n : Nat) (s : State), s.memOn = true → s.bit Reg.MEM_CTRL 0 = true → s.scrubs l = some (a, n) →
    ∃ t, exec (.scrubRead l) s = .next t ∧ (s.msys.pos + 1 < lapUnits → t.msys.pos = s.msys.pos + 1) ∧
      (lapUnits ≤ s.msys.pos + 1 → t.msys.pos = 0 ∧ t.regN Reg.MEM_SKIM_CNT = (s.regN Reg.MEM_SKIM_CNT + 1) % 2 ^ 32) ∧
      (s.damageAt a n ≠ 0 → correctable a (s.damageAt a n) = true → t.damageAt a n = 0 ∧
        t.regN (if a = 39 then Reg.MEM_CE_DRAM else Reg.MEM_CE_SRAM) =
          satAdd 32 (s.regN (if a = 39 then Reg.MEM_CE_DRAM else Reg.MEM_CE_SRAM)) 1)) ∧
  (∀ (o n : Nat) (s : State), s.islandOn = true → o < 0x200000 →
    (n = 0 → exec (.islandScrubRead o n) s = .next s) ∧
    (n = 1 → ∃ t, exec (.islandScrubRead o n) s = .next t ∧ t.regN Reg.MEM_CE_SRAM = satAdd 32 (s.regN Reg.MEM_CE_SRAM) 1) ∧
    (2 ≤ n → ∃ t, exec (.islandScrubRead o n) s = .next t ∧ t.regN Reg.MEM_UE_SRAM = satAdd 32 (s.regN Reg.MEM_UE_SRAM) 1 ∧
      t.bit Reg.MEM_STATUS_W1C 0 = true)) ∧
  (∀ s : State, s.memOn = true →
    ∃ t, exec .scrubAdaptPeriod s = .next t ∧ t.msys.ce60 = 0 ∧ t.now = max s.now (s.msys.at60 + 60 * secT) ∧ t.msys.at60 = t.now ∧
      t.regN Reg.MEM_SCRUB_TARGET =
        (if s.bit Reg.MEM_CTRL 1 && decide (s.fld' Reg.MEM_SCRUB_ADAPT 0 16 < s.msys.ce60) then max 10 (s.regN Reg.MEM_SCRUB_TARGET / 4)
         else s.regN Reg.MEM_SCRUB_TARGET) ∧ s.SameRegsBut t [Reg.MEM_SCRUB_TARGET]) ∧
  (∀ s : State, s.memOn = true →
    ∃ t, exec .ceRateReport s = .next t ∧ t.msys.ce1 = 0 ∧ t.now = max s.now (s.msys.at1 + secT) ∧ t.msys.at1 = t.now ∧
      t.hif.wire.length = s.hif.wire.length + (if s.msys.ce1 = 0 then 0 else 1) ∧ s.SameRegsBut t []) ∧
  (∀ s : State, s.hostOpen .command Reg.MEM_RET_CMD = true → s.bit Reg.MEM_RET_ST 16 = false →
    s.retireCode (s.reg64 Reg.MEM_RET_STAGE_LO) = DONE → s.msys.retired.contains (s.reg64 Reg.MEM_RET_STAGE_LO) = false →
    ∃ t, exec .retireAdd s = .next t ∧ t.msys.retired = s.msys.retired ++ [s.reg64 Reg.MEM_RET_STAGE_LO] ∧
      t.fld' Reg.MEM_RET_ST 0 8 = DONE ∧ t.fld' Reg.MEM_RET_CNT 0 11 = (s.fld' Reg.MEM_RET_CNT 0 11 + 1) % 2 ^ 11) ∧
  (∀ (w : W32) (s : State), s.hostOpen .write Reg.MEM_INJECT = true → s.feat 9 = true → w.getLsbD 8 = true →
    let a := s.regN Reg.MEM_INJ_ADDR_LO + 2 ^ 32 * s.fld' Reg.MEM_INJ_ADDR_HI 0 16
    (hurdleOf a).isSome = true → 1 ≤ fieldOf w 1 3 → (if w.getLsbD 0 then dramBase ≤ a else fieldOf w 1 3 ≤ 2 ∧ a < dramBase) →
    exec (.memInject w) s = .next { s with msys := { s.msys with inj := some (w.toNat, a) } })

/-- R547 to R550: a word written to a crossing FIFO that is not full joins its fill bank; one that is full drops it with OVERFLOW; a flush
swaps the banks when the drain bank is empty; a read hands its reader the oldest word, and the room it makes in the cluster FIFO takes the cluster words that wait. -/
def Obligations.CrossingFifosPassTheirWords : Prop :=
  (∀ (f : FifoId) (w : W64) (s : State), s.powered (fifoDomain f) = true →
    ∃ t, exec (.fifoWrite f w) s = .next t ∧
      ((s.fifo (FifoId.num f)).full = false → t = s.setFifo (FifoId.num f) ((s.fifo (FifoId.num f)).put w)) ∧
      ((s.fifo (FifoId.num f)).full = true → t.fifo (FifoId.num f) = { s.fifo (FifoId.num f) with overflow := true })) ∧
  (∀ (f : FifoId) (s : State), s.powered (fifoDomain f) = true →
    exec (.fifoFlush f) s = .next (s.setFifo (FifoId.num f) (s.fifo (FifoId.num f)).flush)) ∧
  (∀ (f : FifoId) (w : W64) (g : XFifo) (s : State), f ≠ .publish → s.powered (fifoDomain f) = true →
    (s.fifo (FifoId.num f)).get = (w, false, g) →
    ∃ t, exec (.fifoRead f) s = .next t ∧ (f ≠ .mboxFcu → t.fifo (FifoId.num f) = g) ∧
      (f = .mboxFcu → t.fifo 31 = (fcuFill g s.sic.fcuOut).1 ∧ t.sic.fcuOut = (fcuFill g s.sic.fcuOut).2) ∧
      t.out = s.out ++ [.bus (fifoReader f) DONE (leBytes 8 w.toNat)] ∧ s.SameMemory t ∧ s.SameRegsBut t []) ∧
  (∀ (w : W64) (g : XFifo) (s : State), s.hostOpenN .read Reg.CSQ_PF_DATA 8 = true → (s.fifo 0).get = (w, false, g) →
    exec (.fifoRead .publish) s = .next (((s.setFifo 0 g).setReg Reg.CSQ_PF_DATA_HI (BitVec.ofNat 32 (w.toNat / 2 ^ 32))).emit
      (.host .sc (leBytes 8 w.toNat))))

/-! ### Safety -/

/-- R556, R557, R563, R564, R566, R585, R587, R594: a pair that fails lockstep, or misses two steps in a row, goes down with FLT_N low; a pair
that passed its restart is up; HB_OUT and SAFE_REQ_N follow; a window signal that does not come is a STEP doubt; a hold that has run clears
its condition; a SAF_CMD in form waits for the next verdict. -/
def Obligations.SafetyCommandsHaveTheirEffect : Prop :=
  (∀ (p : PairId) (s : State), s.powered 88 = true → (s.pair p).up = true →
    ∃ t, exec (.lockstepMismatch p) s = .next t ∧ (t.pair p).up = false ∧ t.saf.fltLow = true ∧
      t.bit Reg.SAF_COND (match p with | .a => 11 | .b => 14) = true) ∧
  (∀ (p : PairId) (s : State), s.powered 88 = true → (s.pair p).up = false → (s.pair p).stuck = false →
    ∃ t, exec (.pairRestartDone p) s = .next t ∧ (t.pair p).up = true ∧ t.bit Reg.SAF_COND 7 = true ∧
      t.bit Reg.SAF_COND (match p with | .a => 11 | .b => 14) = false) ∧
  (∀ (p : PairId) (s : State), s.powered 88 = true → (s.pair p).up = true → (s.pair (PairId.other p)).up = true →
    (s.pair p).missStep ≠ some s.stepNo →
    ∃ t, exec (.islandPairMiss p) s = .next t ∧
      (1 ≤ s.stepNo → (s.pair p).missStep = some (s.stepNo - 1) → 1 ≤ (s.pair p).missed → (t.pair p).up = false ∧ t.saf.fltLow = true) ∧
      ((s.pair p).missStep ≠ some (s.stepNo - 1) → (t.pair p).up = true ∧ (t.pair p).missed = 1 ∧ (t.pair p).missStep = some s.stepNo)) ∧
  (∀ s : State, s.islandOn = true → 1 ≤ s.level →
    ∃ t, exec .hbToggle s = .next t ∧ t.saf.hb = !s.saf.hb ∧ t.now = max s.now (s.saf.hbAt + 500 * usT) ∧
      t.out = s.out ++ [.pin 2 (!s.saf.hb)] ∧ s.SameRegsBut t []) ∧
  (∀ (v : Bool) (s : State), s.powered 88 = true → s.saf.safeReq = v →
    ∃ t, exec (.safeReqChange v) s = .next t ∧ t.saf.safeReq = !v ∧ t.bit Reg.SAF_STATUS 8 = !v ∧ s.SameRegsBut t [Reg.SAF_STATUS]) ∧
  (∀ (k : Fin 5) (g : WdSignal) (s : State), s.csq.cur.active = true → s.saf.pairA.up = true →
    (match g with
      | .openSig => s.csq.cur.opened
      | .closeSig => s.csq.cur.closed
      | .completion => s.csq.cur.completed).contains k.val = false →
    s.csq.cur.wd.contains (3 * k.val + WdSignal.num g) = false →
    ∃ t, exec (.windowWatchdogTimeout k g) s = .next t ∧ t.saf.stepDoubt = true ∧ t.csq.cur.wd.contains (3 * k.val + WdSignal.num g) = true ∧
      t.fld' (Reg.SAF_WD_CNT k.val) 0 16 = satAdd 16 (s.fld' (Reg.SAF_WD_CNT k.val) 0 16) 1) ∧
  (∀ s : State,
    (s.bit Reg.SAF_COND 0 = true → s.fld' Reg.SAF_HOLD 16 16 ≤ s.saf.startup →
      exec (.conditionHoldExpiry 0) s = .next (s.setBit Reg.SAF_COND 0 false)) ∧
    (s.bit Reg.SAF_COND 7 = true → s.fld' Reg.SAF_HOLD 0 16 ≤ s.saf.checkRun →
      exec (.conditionHoldExpiry 7) s = .next (s.setBit Reg.SAF_COND 7 false))) ∧
  (∀ s : State, s.hostOpen .command Reg.SAF_CMD = true → s.bit Reg.SAF_CMD_ST 16 = false →
    (∀ l : BitVec 3, l.toNat ≤ 3 →
      exec (.force l) s = .next ({ s with saf := { s.saf with cmd := some (1, l.toNat) } }.setBit Reg.SAF_CMD_ST 16 true)) ∧
    exec .release s = .next ({ s with saf := { s.saf with cmd := some (2, 0) } }.setBit Reg.SAF_CMD_ST 16 true) ∧
    (s.bit Reg.SAF_COND 15 = true →
      exec .restart s = .next ({ s with saf := { s.saf with cmd := some (3, 0) } }.setBit Reg.SAF_CMD_ST 16 true)) ∧
    (s.bit Reg.SAF_COND 15 = false → exec .restart s = .next (s.status Reg.SAF_CMD_ST REFUSED_STATE)))

/-- R563, R579 to R582: a cluster record that waits in its FIFO updates or starts a fallback track, or is dropped; a motion sample carries the pose and gives its speed; a
partner list changes only the tracks its records match; a track past its time is deleted; without motion samples dead reckoning is lost. -/
def Obligations.FallbackCommandsHaveTheirEffect : Prop :=
  (∀ (n : BitVec 8) (b : List Byte) (u' s : State), s.fbOn = true → 4 ≤ (s.fifo 31).drain.length → s.clusterSlot = n.toNat → s.takeCluster = (b, u') → b.length = 32 →
    ∃ t, exec (.fbCluster n) s = .next t ∧
      ((∃ k f, SMap.find? t.saf.fb k = some f ∧ f.last = u b 0 8) ∨ t.regN Reg.SAF_FB_DROP = satAdd 32 (s.regN Reg.SAF_FB_DROP) 1 ∨
        u b 26 2 < s.fld' Reg.SAF_FB_CFG 8 8) ∧
      (s.saf.fb = [] → s.fld' Reg.SAF_FB_CFG 8 8 ≤ u b 26 2 →
        ∃ k f, SMap.find? t.saf.fb k = some f ∧ f.st = 1 ∧ f.born = u b 0 8 ∧ f.last = u b 0 8)) ∧
  (∀ (m : MotionSample) (s : State), s.fbOn = true → s.toSaf m.slot.toNat = true → s.forwards m.slot.toNat = true →
    ∃ t, exec (.fbMotionSample m) s = .next t ∧ t.saf.motionAt = s.now ∧ t.saf.drTime = max s.saf.drTime m.time ∧
      (∀ v, m.speed = some v → t.saf.dr.getD 3 0 = v) ∧ t.bit Reg.SAF_FB_ST 17 = false ∧ s.SameRegsBut t [Reg.SAF_FB_ST]) ∧
  (∀ (n : BitVec 8) (b : List Byte) (s : State), s.fbOn = true → s.toSaf n.toNat = true → s.forwards n.toNat = true → s.egoStatic = true → s.bit Reg.SAF_CTRL 2 = true →
    bits (u b 7 1) 5 1 = 1 → 2 ≤ u b 6 1 →
    ∃ t, exec (.fbPartnerList n b) s = .next t ∧
      ∀ k f, SMap.find? t.saf.fb k = some f → SMap.find? s.saf.fb k = some f ∨ f.last = u b 24 8 * 1000000000 + u b 20 4) ∧
  (∀ (k : BitVec 8) (f : FbTrk) (s : State), s.fbOn = true → SMap.find? s.saf.fb k.toNat = some f →
    ∃ t, exec (.fbTrackTimeout k) s = .next t ∧ t.saf.fb = SMap.erase s.saf.fb k.toNat ∧
      t.now = max s.now ((if f.st = 1 then f.born + 300000000 else f.last + s.fld' Reg.SAF_FB_CFG 16 16 * 1000000) * nsT)) ∧
  (∀ s : State, s.fbOn = true → s.egoStatic = false →
    ∃ t, exec .fbDeadReckoningLost s = .next t ∧ t.bit Reg.SAF_FB_ST 17 = true ∧ t.bit Reg.SAF_COND 13 = true ∧
      t.now = max s.now (s.saf.motionAt + 200 * msT))
/-! ### Salarur Link, pairs and droves -/

/-- R596, R599, R602 to R604: a port that locks begins bring-up, sending HELLO where it has a role; a port goes down with what it held for
its peer; an acknowledgement frees the retry buffer and a NAK or a timeout replays it, the ninth time in vain taking the port down; HELLO,
ECHO, FEAT and EPOCH each carry bring-up on. -/
def Obligations.LinkPortCommandsHaveTheirEffect : Prop :=
  (∀ (p : Fin 6) (s : State), s.linkOn p.val = true → (s.linkPort p.val).up = false →
    ∃ t, exec (.linkLock p) s = .next t ∧ (t.linkPort p.val).up = true ∧ (t.linkPort p.val).phase = 1 ∧ (t.linkPort p.val).rxSeq = 0 ∧
      (t.linkPort p.val).held = (s.linkPort p.val).held ∧
      (s.linkRole p.val ≠ 0 → ∃ f, t.out = s.out ++ [.link f] ∧ f.port = p.val ∧ f.type = 2 ∧ f.lseq = 0)) ∧
  (∀ (p : Fin 6) (s : State), exec (.linkDown p) s = .next (s.setLinkPort p.val
    { held := (s.linkPort p.val).held, quar := (s.linkPort p.val).quar, expect := (s.linkPort p.val).expect })) ∧
  (∀ (p : Fin 6) (h : LinkHdr) (a : LinkAck) (s : State), s.linkTakes p.val 1 h = true → (s.linkPort p.val).txq = [] →
    let keep (n : Nat) : List LinkOut := (s.linkPort p.val).retry.filter (fun f => decide (2 ^ 31 ≤ (n + 2 ^ 32 - f.lseq) % 2 ^ 32))
    ∃ t, exec (.linkCtl p h a) s = .next t ∧
      (a.nak = false → (t.linkPort p.val).retry = keep a.upTo.toNat ∧ t.out = s.out) ∧
      (a.nak = true → (s.linkPort p.val).replays < 8 → (t.linkPort p.val).retry = keep ((a.upTo.toNat + 2 ^ 32 - 1) % 2 ^ 32) ∧
        t.out = s.out ++ ((t.linkPort p.val).retry.map (fun f => .link f)))) ∧
  (∀ (p : Fin 6) (s : State), (s.linkPort p.val).retry ≠ [] →
    ∃ t, exec (.linkReplayTimeout p) s = .next t ∧ t.now = max s.now ((s.linkPort p.val).ackAt + 10 * usT) ∧
      ((s.linkPort p.val).replays < 8 → (t.linkPort p.val).replays = (s.linkPort p.val).replays + 1 ∧
        t.out = s.out ++ (s.linkPort p.val).retry.map (fun f => .link f)) ∧
      (8 ≤ (s.linkPort p.val).replays → (t.linkPort p.val).up = false ∧ (t.linkPort p.val).retry = [])) ∧
  (∀ (p : Fin 6) (h : LinkHdr) (m : Hello) (s : State), s.linkTakes p.val 2 h = true → s.helloGood p.val h m = true →
    (s.linkPort p.val).held = false → (s.linkPort p.val).phase = 1 →
    ∃ t, exec (.hello p h m) s = .next t ∧ (t.linkPort p.val).helloOk = true ∧ (t.linkPort p.val).peer = m.dev.toNat ∧
      2 ≤ (t.linkPort p.val).phase) ∧
  (∀ (p : Fin 6) (h : LinkHdr) (reply crcOk : Bool) (s : State), s.linkTakes p.val 6 h = true →
    ∃ t, exec (.echo p h reply crcOk) s = .next t ∧
      (reply = false → (s.linkPort p.val).retry = [] → (s.linkPort p.val).txq = [] →
        ∃ a f, t.out = s.out ++ [.link a, .link f] ∧ a.type = 1 ∧ f.type = 6 ∧ f.port = p.val) ∧
      (reply = true → crcOk = true → (s.linkPort p.val).held = false → (s.linkPort p.val).phase = 2 → 3 ≤ (t.linkPort p.val).phase) ∧
      (reply = true → crcOk = false → (t.linkPort p.val).held = true)) ∧
  (∀ (p : Fin 6) (h : LinkHdr) (v : BitVec 256) (s : State), s.linkTakes p.val 3 h = true →
    lowestMissing s.featReq (if s.locked then s.featDrv else 0) = none → (s.linkPort p.val).phase = 3 →
    ∃ t, exec (.feat p h v) s = .next t ∧ (t.linkPort p.val).featOk = true ∧ 4 ≤ (t.linkPort p.val).phase) ∧
  (∀ (p : Fin 6) (h : LinkHdr) (m : EpochMsg) (s : State), s.linkTakes p.val 5 h = true → s.epoch ≤ m.epoch.toNat → s.devNo ≠ 0 →
    ∃ t, exec (.epoch p h m) s = .next t ∧
      (s.slkConfig = 1 → t.epoch = m.epoch.toNat ∧ (s.slk.role = rolePRIMARY → s.epoch < m.epoch.toNat → t.slk.role = roleSYNCING) ∧
        (s.slk.role = roleFORMING → t.slk.role = roleSYNCING)) ∧
      (s.slkConfig = 2 → m.members.getLsbD s.devNo = true → t.epoch = m.epoch.toNat ∧ t.slk.role = roleMEMBER ∧
        t.reg64 Reg.SLK_MEMBERS_LO = m.members.toNat) ∧
      (m.t0 ≠ 0 → t.csq.t0 = m.t0 ∧ t.csq.t0Set = true))

/-- R598, R599, R605, Table 14.8: whatever its type and content, a frame with a bad CRC is counted and answered with a NAK; one whose LEN does
not hold is violation 0x61; one already taken is acknowledged again and has no other effect; an admissible one of an older epoch is counted
as stale and dropped. -/
def Obligations.LinkFramesOutOfFormAreNotTaken : Prop :=
  ∀ (p type : Nat) (h : LinkHdr) (pl : List Byte) (f : State → State) (s : State), s.linkOn p = true → (s.linkPort p).up = true →
    ((h.hcrcOk = false ∨ h.pcrcOk = false) → s.linkRx p type h pl f = (s.countSat (Reg.SLK_P_CRC p) 0 32 1).linkCtl p true (s.linkPort p).rxSeq) ∧
    (h.hcrcOk = true → h.pcrcOk = true → h.lenOk = false →
      s.linkRx p type h pl f = (s.violate (304 + p) 0x61).linkCtl p true (s.linkPort p).rxSeq ∧
      ((s.violate (304 + p) 0x61).vrec (304 + p)).total = satAdd 32 (s.vrec (304 + p)).total 1) ∧
    (h.hcrcOk = true → h.pcrcOk = true → h.lenOk = true → h.len ≤ 8192 → h.len % 8 = 0 → type ≠ 1 →
      (s.linkPort p).rxSeq = (h.lseq.toNat + 1) % 2 ^ 32 → s.linkRx p type h pl f = s.linkCtl p false h.lseq.toNat) ∧
    (0x10 ≤ type → h.hcrcOk = true → h.pcrcOk = true → h.lenOk = true → h.len ≤ 8192 → h.len % 8 = 0 → h.reservedZero = true →
      h.lseq.toNat = (s.linkPort p).rxSeq → (s.linkPort p).held = false → s.srcOk p type h = true → (s.linkPort p).phase = 5 →
      (h.all = true ∨ h.dstDev.toNat = s.devNo) → h.epoch.toNat < s.epoch →
      (s.linkRx p type h pl f).regN Reg.SLK_STALE = satAdd 32 (s.regN Reg.SLK_STALE) 1 ∧ s.SameMemory (s.linkRx p type h pl f) ∧
        s.SameRegsBut (s.linkRx p type h pl f) [Reg.SLK_STALE])

/-- R608 to R618: the delta of a step is gathered, applied at STEP_END or answered with a resynchronisation, and acknowledged; missing
acknowledgements lose the mirror; copies are requested and taken; a mirror that misses STEP_END promotes itself; a planned change names its
step and swaps the roles there. -/
def Obligations.PairCommandsHaveTheirEffect : Prop :=
  (∀ (p : Fin 6) (h : LinkHdr) (l : List DeltaRec) (s : State), s.linkTakes p.val 0x10 h = true → s.takesDelta = true →
    l.all (fun r => recForm r.slot.toNat r.bytes) = true →
    ∃ t, exec (.deltaRec p h l) s = .next t ∧ t.slk.recs = s.slk.recs ++ l ∧ t.slk.role = s.slk.role ∧ s.SameMemory t) ∧
  (∀ (p : Fin 6) (h : LinkHdr) (l : List KvItem) (s : State), s.linkTakes p.val 0x11 h = true → s.takesDelta = true →
    l.all (fun k => k.bytes.length == s.entrySize) = true →
    ∃ t, exec (.deltaKv p h l) s = .next t ∧ t.slk.kvs = s.slk.kvs ++ l ∧ t.slk.role = s.slk.role ∧ s.SameMemory t) ∧
  (∀ (p : Fin 6) (h : LinkHdr) (l : List SeqItem) (s : State), s.linkTakes p.val 0x12 h = true → s.takesDelta = true →
    l.all (fun q => q.state.toNat ≤ 2) = true →
    ∃ t, exec (.deltaSeq p h l) s = .next t ∧ t.slk.seqs = s.slk.seqs ++ l ∧ t.slk.role = s.slk.role ∧ s.SameMemory t) ∧
  (∀ (p : Fin 6) (h : LinkHdr) (m : StepEnd) (s : State), s.linkTakes p.val 0x13 h = true → s.takesDelta = true →
    let ok := crc32c s.slk.deltaBytes = m.dcrc ∧ s.slk.recs.length = m.nrec ∧ s.slk.kvs.length = m.nkv ∧ s.slk.seqs.length = m.nseq
    ∃ t, exec (.stepEnd p h m) s = .next t ∧ t.slk.recs = [] ∧ t.slk.kvs = [] ∧ t.slk.seqs = [] ∧ t.slk.deltaBytes = [] ∧
      (ok → t.slk.lastStep = some h.step ∧ t.slk.lastEgo = m.ego ∧ (s.slk.role = roleMIRROR → t.slk.role = roleMIRROR)) ∧
      (¬ ok → t.slk.role = roleSYNCING ∧ t.slk.lastStep = s.slk.lastStep)) ∧
  (∀ (p : Fin 6) (h : LinkHdr) (s : State), s.linkTakes p.val 0x14 h = true → s.slk.role = rolePRIMARY →
    ∃ t, exec (.deltaAck p h) s = .next t ∧ t.slk.noAck = 0 ∧ t.slk.peerMirror = true ∧ t.slk.mirrorLost = false ∧
      t.regN Reg.SLK_DELTA_CNT = (s.regN Reg.SLK_DELTA_CNT + 1) % 2 ^ 32) ∧
  (∀ s : State, s.slk.role = rolePRIMARY → 3 ≤ s.slk.noAck →
    ∃ t, exec .deltaAckTimeout s = .next t ∧ t.slk.peerMirror = false ∧ t.slk.mirrorLost = true) ∧
  (∀ (p : Fin 6) (h : LinkHdr) (c : TrackCopy) (s : State), s.linkTakes p.val 0x15 h = true →
    ∃ t, exec (.syncData p h c) s = .next t ∧
      (h.flags.getLsbD 0 = true → s.slk.role = rolePRIMARY → t.slk.copyNext = some 0 ∧ t.slk.peerMirror = false) ∧
      (h.flags.getLsbD 0 = false → s.slk.role = roleSYNCING → recForm c.slot.toNat c.bytes = true →
        c.entries.all (fun e => e.length == s.entrySize) = true →
        (∀ q ∈ s.slk.copies, q.1 = c.slot.toNat → q.2 < c.step) →
        (c.slot.toNat, c.step) ∈ t.slk.copies ∧ (h.flags.getLsbD 1 = true → t.slk.syncDone = true))) ∧
  (∀ (k : Nat) (s : State), s.slk.lastStep = some k → s.slk.role = roleMIRROR → s.csq.t0Set = true →
    ∃ t, exec .stepEndTimeout s = .next t ∧ t.slk.role = rolePRIMARY ∧ t.epoch = (s.epoch + 1) % 2 ^ 32 ∧
      t.now = max s.now (s.tOf (k + 1) + s.lossTo) ∧ t.regN Reg.SLK_FAILOVER = satAdd 32 (s.regN Reg.SLK_FAILOVER) 1 ∧ s.SameMemory t) ∧
  (∀ (p : Fin 6) (h : LinkHdr) (k : Nat) (s : State), s.linkTakes p.val 0x16 h = true → s.slk.role = roleMIRROR →
    ∃ t, exec (.handoff p h k) s = .next t ∧ t.slk.handoff = some k) ∧
  (∀ (k : Nat) (s : State), s.slk.handoff = some k →
    ∃ t, exec .handoffStep s = .next t ∧ t.slk.handoff = none ∧ (s.slk.role = roleMIRROR → t.slk.role = rolePRIMARY) ∧
      (s.slk.role = rolePRIMARY → t.slk.role = roleMIRROR) ∧ t.now = (if s.csq.next ≤ k then max s.now (s.cOf k) else s.now) ∧ s.SameMemory t) ∧
  (∀ s : State, s.hostOpen .command Reg.SLK_CMD = true → s.bit Reg.SLK_CMD_ST 16 = false →
    (s.slk.role = rolePRIMARY → s.slk.peerMirror = true →
      ∃ t, exec .switchover s = .next t ∧ t.slk.handoff = some s.stepAhead ∧ t.fld' Reg.SLK_CMD_ST 0 8 = DONE) ∧
    (s.slk.role = roleMIRROR → ∃ t, exec .resync s = .next t ∧ t.slk.role = roleSYNCING ∧ t.fld' Reg.SLK_CMD_ST 0 8 = DONE) ∧
    (∀ p : BitVec 3, p.toNat < 6 → (s.linkPort p.toNat).held = true →
      ∃ t, exec (.portReadmit p) s = .next t ∧ (t.linkPort p.toNat).held = false ∧ t.fld' Reg.SLK_CMD_ST 0 8 = DONE))

/-- R619 to R629: a lost member leaves the map under a new epoch; a member loses the bellwether; lists reach the member's ring; detections
are forwarded, claimed or go to the birth rule; a track is handed over, taken, refused, aborted and retried. -/
def Obligations.DroveCommandsHaveTheirEffect : Prop :=
  (∀ (n : BitVec 6) (s : State), s.slk.role = roleBELLWETHER → n.toNat ≠ 0 → s.member n.toNat = true →
    ∃ t, exec (.memberTimeout n) s = .next t ∧ t.member n.toNat = false ∧ t.epoch = (s.epoch + 1) % 2 ^ 32 ∧
      t.now = max s.now (SMap.get 0 s.slk.heard n.toNat + s.memberTo)) ∧
  (∀ s : State, s.slk.role = roleMEMBER → s.slk.bellLost = false →
    ∃ t, exec .bellwetherTimeout s = .next t ∧ t.slk.bellLost = true ∧ t.now = max s.now (SMap.get 0 s.slk.heard 0 + s.memberTo)) ∧
  (∀ (p : Fin 6) (h : LinkHdr) (b : List Byte) (s : State), s.linkTakes p.val 0x25 h = true → s.slk.role = roleBELLWETHER →
    s.member h.srcDev.toNat = true →
    let m := h.srcDev.toNat
    let full := (s.regN (Reg.SLK_MRING_PROD m) + 2 ^ 32 - s.regN (Reg.SLK_MRING_CONS m)) % 2 ^ 32 = s.regN Reg.SLK_MRING_SLOTS
    ∃ t, exec (.listFrame p h b) s = .next t ∧
      (h.flags.getLsbD 1 = false → SMap.get [] t.slk.listBuf m = SMap.get [] s.slk.listBuf m ++ b ∧ s.SameMemory t) ∧
      (h.flags.getLsbD 1 = true → SMap.get [] t.slk.listBuf m = [] ∧
        (full → t.regN Reg.SLK_MRING_DROP = satAdd 32 (s.regN Reg.SLK_MRING_DROP) 1 ∧ s.SameMemory t) ∧
        (¬ full → t.regN (Reg.SLK_MRING_PROD m) = (s.regN (Reg.SLK_MRING_PROD m) + 1) % 2 ^ 32))) ∧
  (∀ (m : BitVec 6) (v : W32) (s : State), s.hostFree (Reg.SLK_MRING_CONS m.toNat) = true →
    exec (.mringConsWrite m v) s = .next (if consOk (s.regN (Reg.SLK_MRING_CONS m.toNat)) (s.regN (Reg.SLK_MRING_PROD m.toNat)) v.toNat
      then s.setReg (Reg.SLK_MRING_CONS m.toNat) v else s.setBit Reg.CSQ_STATUS 8 true)) ∧
  (∀ (p : Fin 6) (h : LinkHdr) (l : List FwdDet) (s : State), s.linkTakes p.val 0x20 h = true → s.inDrove = true → s.powered 97 = true →
    l.all (fun d => s.fwdMine d && s.detOk d.bytes) = true →
    ∃ t, exec (.detFwd p h l) s = .next t ∧ t.fld.intake.map (·.bytes) = s.fld.intake.map (·.bytes) ++ l.map (·.bytes)) ∧
  (∀ (p : Fin 6) (h : LinkHdr) (l : List Claim) (s : State), s.linkTakes p.val 0x21 h = true → s.inDrove = true →
    l.all (fun c => c.origin.toNat == s.devNo) = true →
    ∃ t, exec (.detClaim p h l) s = .next t ∧ ∀ q, q ∈ t.slk.borders ↔ q ∈ s.slk.borders ∧
      ∀ c ∈ l, ¬ (dtSlot q.2.bytes = c.slot.toNat ∧ dtNo q.2.bytes = c.detNo.toNat)) ∧
  (∀ s : State, s.fldOn = true → s.runsStages = true →
    ∃ t, exec .borderHoldExpiry s = .next t ∧ t.slk.borders = s.slk.borders.filter (fun q => decide (s.stepNo < q.1 + 2))) ∧
  (∀ (p : Fin 6) (h : LinkHdr) (c : TrackCopy) (q : Pasture) (n : Nat) (s : State), s.linkTakes p.val 0x22 h = true → s.inDrove = true →
    s.myPasture = some q → q.holds (tkX c.bytes 0) (tkX c.bytes 1) = true → s.slk.installs.find? (fun r => r.gid == tkGid c.bytes) = none →
    s.freeHead = some n → n < 0x100000 → s.admitsReg 37 idFld .command Reg.TAC_CMD_SEQ 4 = true → s.seqSt n = 0 →
    s.flockSt (tkFlock c.bytes) = 1 →
    s.fld' (Reg.TAC_FLOCK_SEQ (tkFlock c.bytes)) 0 20 < s.fld' (Reg.TAC_FLOCK_LIM (tkFlock c.bytes)) 0 20 → s.activeFull = false →
    ∃ t r, exec (.hand p h c) s = .next t ∧ t.slk.installs.head? = some r ∧ r.gid = tkGid c.bytes ∧ r.slot = n ∧
      r.src = h.srcDev.toNat ∧ r.step = h.step) ∧
  (∀ (p : Fin 6) (h : LinkHdr) (gid : BitVec 64) (st : BitVec 8) (g : Handing) (s : State), s.linkTakes p.val 0x23 h = true →
    s.slk.handing.find? (fun g => g.gid == gid.toNat && g.dev == h.srcDev.toNat && !g.acked) = some g →
    ∃ t, exec (.handAck p h gid st) s = .next t ∧
      (isDone st.toNat = true → t.slk.handing = s.slk.handing.map (fun q => if q.slot == g.slot then { q with acked := true } else q)) ∧
      (isDone st.toNat = false → t.slk.handing = s.slk.handing.filter (fun q => q.slot != g.slot) ∧
        t.slk.retry = (g.slot, s.stepNo + s.fld' Reg.SLK_HAND_CFG 16 16) :: s.slk.retry ∧
        t.regN Reg.SLK_HAND_FAIL = satAdd 32 (s.regN Reg.SLK_HAND_FAIL) 1)) ∧
  (∀ (p : Fin 6) (h : LinkHdr) (gid : BitVec 64) (s : State), s.linkTakes p.val 0x24 h = true →
    ∃ t, exec (.handAbort p h gid) s = .next t ∧ t.slk.installs = s.slk.installs.filter (fun q => q.gid != gid.toNat)) ∧
  (∀ (n : BitVec 20) (g : Handing) (s : State), s.slk.handing.find? (fun g => g.slot == n.toNat) = some g →
    (∃ t, exec (.handAckDeadline n) s = .next t ∧ t.now = max s.now (s.cOf (g.step + 1)) ∧
      (g.acked = true → t.slk.handing = s.slk.handing.filter (fun q => q.slot != g.slot) ∧
        (tkGid (s.trk g.slot) = g.gid → s.liveTrk g.slot = true → tkSt (t.trk g.slot) = tkRETIRING)) ∧
      (g.acked = false → t.slk.handing = s.slk.handing)) ∧
    (∃ t, exec (.handAbortDeadline n) s = .next t ∧ t.now = max s.now (s.cOf (g.step + 2)) ∧
      t.slk.handing = s.slk.handing.filter (fun q => q.slot != g.slot) ∧
      (g.acked = false → t.regN Reg.SLK_HAND_FAIL = satAdd 32 (s.regN Reg.SLK_HAND_FAIL) 1))) ∧
  (∀ (n : BitVec 20) (r : Nat × Nat) (s : State), s.slk.retry.find? (fun r => r.1 == n.toNat) = some r →
    (s.csq.running = false ∨ r.2 ≤ s.stepNo) →
    ∃ t, exec (.handRetryExpiry n) s = .next t ∧ t.slk.retry = s.slk.retry.filter (fun q => q.1 != n.toNat))

/-! ### Security -/

/-- R643, R651, R652, R657, R658, R664: the SEC commands that end at once. CLEAR empties a slot, BIND and UNBIND add and release an
association, SELECT_TX names the transmit AN, CHALLENGE sets a challenge and is refused while draws are stopped, ZEROISE removes the keys, the
image and DRAM's contents; each answers in SEC_CMD_ST. -/
def Obligations.SecurityCommandsThatEndAtOnce : Prop :=
  ∀ s : State, s.hostOpen .command Reg.SEC_CMD = true → s.bit Reg.SEC_CMD_ST 16 = false →
    exec .clearKey s =
      .next ({ s with sec := { s.sec with keys := SMap.erase s.sec.keys s.argSlot } }.status Reg.SEC_CMD_ST DONE) ∧
    (16 ≤ s.argSlot → s.argPort ≤ 11 → (s.argTx = false ∨ s.argChan = 0) → s.feat 10 = true →
      (SMap.find? s.sec.keys s.argSlot).isSome = true → s.sec.assocs.any s.argAssoc = false →
      let a : Assoc := { slot := s.argSlot, port := s.argPort, tx := s.argTx, chan := s.argChan, an := s.argAn,
                         xpn := (SMap.get {} s.sic.ports s.argPort : SwPort).xpn }
      exec .bind s = .next ({ s with sec := { s.sec with assocs := s.sec.assocs ++ [a] } }.status Reg.SEC_CMD_ST DONE)) ∧
    (s.sec.assocs.any s.argAssoc = true →
      exec .unbind s =
        .next ({ s with sec := { s.sec with assocs := s.sec.assocs.filter (fun a => !s.argAssoc a) } }.status Reg.SEC_CMD_ST DONE)) ∧
    (s.sec.assocs.any (fun a => a.port == s.argPort && a.tx && a.an == s.argAn) = true →
      exec .selectTx s =
        .next ({ s with sec := { s.sec with txAn := SMap.insert s.sec.txAn s.argPort s.argAn } }.status Reg.SEC_CMD_ST DONE)) ∧
    (s.sec.trngFail = false →
      ∃ t, exec .challenge s = .next t ∧ t.sec = { s.sec with challenge := true } ∧ t.fld' Reg.SEC_CMD_ST 0 8 = DONE ∧ t.out = s.out ∧
        s.SameMemory t ∧ s.SameRegsBut t (Reg.SEC_CMD_ST :: (List.range 8).map Reg.SEC_CHAL)) ∧
    (s.sec.trngFail = true → exec .challenge s = .next (s.status Reg.SEC_CMD_ST REFUSED_STATE)) ∧
    (∃ t, exec .zeroise s = .next t ∧ t.sec.keys = [] ∧ t.sec.kek = false ∧ t.sec.ident = none ∧ t.sec.assocs = [] ∧ t.sec.challenge = false ∧
      t.lthState = 0 ∧ t.lth.applied = [] ∧ t.bit Reg.HIF_EVT_CFG 0 = false ∧ t.bit Reg.MEM_FILL_ST 1 = false ∧ t.sec.refill = true ∧
      (∀ a, dramBase ≤ a → t.byteAt a = 0) ∧ t.fld' Reg.SEC_CMD_ST 0 8 = DONE)

/-- R643 to R650, R663, R664: IMPORT, the three SIGNED records, PROVISION and ATTEST are busy from acceptance and read their record at SEC_SRC;
at completion BUSY clears and the status is the verdict, with the effect of a record that passed: the key is held, the debug level open, the
signer revoked, the owner's signers burnt, a further LOCK_GEN fuse burnt. A signed record uses up the challenge whatever comes of it. R651 whole:
an IMPORT to an IMAGE slot while LTH is LOADING or RESUMING, and one to a MACSEC slot that is bound, are refused with REFUSED_STATE; otherwise
an IMPORT replaces the slot's content, and a CLEAR empties it. -/
def Obligations.SecurityCommandsThatTakeTime : Prop :=
  (∀ s : State, s.hostOpen .command Reg.SEC_CMD = true → s.bit Reg.SEC_CMD_ST 16 = false →
    let starts (t : State) (op : Nat) : Prop := ∃ b, t.sec.busy = some b ∧ b.op = op ∧ b.void = false ∧ t.bit Reg.SEC_CMD_ST 16 = true ∧
      t.sec.keys = s.sec.keys ∧ t.sec.otp = s.sec.otp ∧ s.SameMemory t ∧
      (∀ bs u, op ≠ 9 → s.busRead idSec s.secSrc (if op = 7 then 256 else 512) = (.ok bs, u) → b.bytes = bs ∧ b.err = none)
    (∃ t, exec .importKey s = .next t ∧ starts t 1) ∧ (∃ t, exec .unlock s = .next t ∧ starts t 7) ∧
    (∃ t, exec .revoke s = .next t ∧ starts t 7) ∧ (∃ t, exec .reprovision s = .next t ∧ starts t 7) ∧
    (∃ t, exec .provision s = .next t ∧ starts t 8) ∧ (∃ t, exec .attest s = .next t ∧ starts t 9)) ∧
  (∀ (b : SecBusy) (s : State), s.powered 89 = true → s.sec.busy = some b →
    (b.op = 7 → s.sec.authFails < 2) →
    ∃ t c, exec .secCommandComplete s = .next t ∧ t.sec.busy = none ∧ t.bit Reg.SEC_CMD_ST 16 = false ∧
      t.fld' Reg.SEC_CMD_ST 0 8 = c % 256 ∧ (b.op = 7 → t.sec.challenge = false) ∧
      (∀ e, b.err = some e → c = e) ∧
      (b.err = none → b.void = true → c = REFUSED_STATE) ∧
      (b.err = none → b.void = false →
        (b.op = 1 → c = s.importCode b.bytes ∧
          ((u b.bytes 6 2 < 16 ∧ (s.lthState = 1 ∨ s.lthState = 4)) ∨
              (16 ≤ u b.bytes 6 2 ∧ s.sec.assocs.any (fun a => a.slot == u b.bytes 6 2) = true) → c = REFUSED_STATE) ∧
          t.sec.keys = (if c = DONE then
            SMap.insert s.sec.keys (u b.bytes 6 2) (fit 64 (fit 48 ((s.blobPlain b.bytes).getD []))) else s.sec.keys)) ∧
        (b.op = 7 → c = s.signedCode b.bytes) ∧
        (b.op = 7 → c = DONE → u b.bytes 4 1 = 1 → t.sec.debug = max s.sec.debug (u b.bytes 48 1)) ∧
        (b.op = 7 → c = DONE → u b.bytes 4 1 = 2 → t.sec.otp.signers =
          s.sec.otp.signers.map (fun (p : Nat × Signer) => if p.1 == u b.bytes 48 1 then (p.1, { p.2 with revoked := true }) else p)) ∧
        (b.op = 7 → c = DONE → u b.bytes 4 1 = 3 → t.sec.otp.lockGen = s.sec.otp.lockGen + 1) ∧
        (b.op = 8 → c = s.provCode b.bytes ∧ (c = DONE → t.sec.otp.owned = true ∧ t.sec.otp.signers = provSigners b.bytes)))) ∧
  (∀ s : State, s.hostOpen .command Reg.SEC_CMD = true → s.bit Reg.SEC_CMD_ST 16 = false →
    ∃ t, exec .clearKey s = .next t ∧ SMap.find? t.sec.keys s.argSlot = none ∧ t.fld' Reg.SEC_CMD_ST 0 8 = DONE ∧
      ∀ k, k ≠ s.argSlot → SMap.find? t.sec.keys k = SMap.find? s.sec.keys k)

/-- R639, R656 to R660: each source that trips is counted; the highest effective policy acts: LOG leaves the device as it runs, RESET is a
warm reset, ZEROISE and LOCK lose the keys and all memory in a power-on reset, and LOCK of an owned device burns one LOCK_GEN fuse. A failed
TRNG trips the clock source. A write of SEC_ALARM_POL raises policies and never lowers one. -/
def Obligations.AlarmsActByTheirPolicy : Prop :=
  (∀ (m : BitVec 6) (s : State), s.aon.porLow = false → s.pwr ≠ 1 → s.sec.busy = none →
    (m = 0 → exec (.alarmTrip m) s = .next s) ∧
    (∀ p, m ≠ 0 → p = ((List.range 6).filter m.getLsbD).foldl (fun x k => max x (s.alarmEff k)) 0 →
      ∃ t, exec (.alarmTrip m) s = .next t ∧
        (p = 0 → t.sec.keys = s.sec.keys ∧ s.SameMemory t ∧ ∀ k < 6, t.regN (Reg.SEC_ALARM_CNT k) =
          (if m.getLsbD k then satAdd 32 (s.regN (Reg.SEC_ALARM_CNT k)) 1 else s.regN (Reg.SEC_ALARM_CNT k))) ∧
        (p = 1 → t.bit Reg.AON_RST_CAUSE 2 = true ∧ t.lthState = 0 ∧ t.sec.keys = s.sec.keys ∧ ∀ a, dramBase ≤ a → t.byteAt a = s.byteAt a) ∧
        (2 ≤ p → t.bit Reg.AON_RST_CAUSE 3 = true ∧ t.sec.keys = [] ∧ ∀ a, t.byteAt a = 0) ∧
        (p = 3 → s.life = 1 → t.sec.otp.lockGen = s.sec.otp.lockGen + 1))) ∧
  (∀ s : State, s.powered 89 = true → s.aon.porLow = false →
    ∃ t, exec .trngHealthFail s = .next t ∧
      (s.alarmEff 2 = 0 → t.sec.trngFail = true ∧ t.regN (Reg.SEC_ALARM_CNT 2) = satAdd 32 (s.regN (Reg.SEC_ALARM_CNT 2)) 1) ∧
      (s.alarmEff 2 = 1 → t.bit Reg.AON_RST_CAUSE 2 = true) ∧ (2 ≤ s.alarmEff 2 → t.bit Reg.AON_RST_CAUSE 3 = true)) ∧
  (∀ (v : W32) (s : State), s.hostFree Reg.SEC_ALARM_POL = true →
    ∃ t, exec (.alarmPolicyWrite v) s = .next t ∧ s.SameMemory t ∧ s.SameRegsBut t [Reg.SEC_ALARM_POL] ∧
      ∀ k < 6, s.alarmEff k ≤ t.alarmEff k ∧
        (s.alarmEff k ≤ fieldOf v (2 * k) 2 → t.fld' Reg.SEC_ALARM_POL (2 * k) 2 = fieldOf v (2 * k) 2) ∧
        (max (bits s.sec.otp.floors.toNat (2 * k) 2) (fieldOf v (2 * k) 2) < s.alarmEff k →
          t.fld' Reg.SEC_ALARM_POL (2 * k) 2 = s.fld' Reg.SEC_ALARM_POL (2 * k) 2))

/-! ### Power, resets and start-up -/

/-- R669 to R674, Table 16.1, Table 16.2: STANDBY, WAKE and SENTINEL start their transition where it is admitted and are refused where not;
the end of a transition leaves its state, its domains and what it keeps. -/
def Obligations.PowerCommandsHaveTheirEffect : Prop :=
  (∀ s : State, s.hostOpen .command Reg.AON_PWR_CMD = true → s.bit Reg.AON_PWR_CMD_ST 16 = false →
    (s.standbyOk = true → s.inTransition = false →
      exec .standby s = .next (({ s with aon := { s.aon with pwrTo := .standby } }.setBit Reg.AON_PWR_STATE 8 true).setBit
        Reg.AON_PWR_CMD_ST 16 true)) ∧
    (s.pwr = 2 → s.inTransition = false →
      exec .wake s = .next (({ s with aon := { s.aon with pwrTo := .idle } }.setBit Reg.AON_PWR_STATE 8 true).setBit
        Reg.AON_PWR_CMD_ST 16 true) ∧
      (s.aon.xtalOk = true → ∀ d : Bool, exec (.sentinel d) s =
        .next (({ s with aon := { s.aon with pwrTo := .sentinel, dramKeep := d } }.setBit Reg.AON_PWR_STATE 8 true).setBit
          Reg.AON_PWR_CMD_ST 16 true))) ∧
    (s.standbyOk = false → exec .standby s = .next (s.status Reg.AON_PWR_CMD_ST REFUSED_STATE)) ∧
    (s.pwr ≠ 2 → exec .wake s = .next (s.status Reg.AON_PWR_CMD_ST REFUSED_STATE) ∧
      ∀ d : Bool, exec (.sentinel d) s = .next (s.status Reg.AON_PWR_CMD_ST REFUSED_STATE))) ∧
  (∀ s : State, s.inTransition = false → exec .powerTransitionDone s = .next s) ∧
  (∀ s : State, s.inTransition = true →
    ∃ t, exec .powerTransitionDone s = .next t ∧ t.inTransition = false ∧
      (s.bit Reg.AON_PWR_CMD_ST 16 = true → t.fld' Reg.AON_PWR_CMD_ST 0 8 = DONE ∧ t.bit Reg.AON_PWR_CMD_ST 16 = false) ∧
      (s.aon.pwrTo = .standby → t.pwr = 2 ∧ (∀ d < 128, t.powered d = s.standbyDomains.contains d) ∧ (∀ a < tileEnd, t.byteAt a = 0) ∧
        t.sec.keys = s.sec.keys ∧ ∀ k < 34, (s.tile k).st = .active → (t.tile k).st = .off) ∧
      (s.aon.pwrTo = .idle → t.pwr = 3 ∧ t.tac.cache = [] ∧ (∀ a < tileEnd, t.byteAt a = 0) ∧
        ∀ k ∈ s.aon.wasActive, (s.tile k).st = .off → (t.tile k).st = .waking) ∧
      (s.aon.pwrTo = .sentinel → t.pwr = 1 ∧ (∀ d < 128, t.powered d = false) ∧ t.hif.linkUp = false ∧
        (s.aon.dramKeep = true → s.SameMemory t ∧ t.sec.keys = s.sec.keys) ∧
        (s.aon.dramKeep = false → t.sec.keys = [] ∧ ∀ a, t.byteAt a = 0)))

/-- R675, R735, Table 16.5: in Sentinel each enabled wake source drives WAKE_N low and is recorded; a source not enabled has no effect; with
the supplies in range a wake that waits becomes a warm start with DRAM kept, and a power-on start otherwise. -/
def Obligations.WakeSourcesStartTheDevice : Prop :=
  (∀ s : State, s.pwr = 1 → s.inTransition = false → s.aon.wakePend = 0 →
    let woken (s : State) (src : Nat) : State :=
      { s.setFld Reg.AON_WAKE_SRC 0 4 src with aon := { s.aon with wakePend := src, wakeLow := true }, out := s.out ++ [.pin 3 false] }
    (s.bit Reg.AON_WAKE_CFG 0 = true → exec .tc10Wake s = .next (woken s 1)) ∧
    (∀ (n : Fin 4) (us : Nat), s.bit Reg.AON_WAKE_CFG (1 + n.val) = true → s.fld' Reg.AON_WAKE_CFG 8 6 < us →
      exec (.canWake n us) s = .next (woken s 2)) ∧
    (s.bit Reg.AON_WAKE_CFG 5 = true → s.hif.perstLow = true →
      exec .perstRelease s = .next (woken { s with hif := { s.hif with perstLow := false } } 3)) ∧
    (s.bit Reg.AON_WAKE_CFG 6 = true → s.regN Reg.AON_WAKE_TIMER ≠ 0 → exec .wakeTimerExpiry s = .next (woken s 4))) ∧
  (∀ s : State,
    (s.bit Reg.AON_WAKE_CFG 0 = false → exec .tc10Wake s = .next s) ∧
    (∀ (n : Fin 4) (us : Nat), s.bit Reg.AON_WAKE_CFG (1 + n.val) = false ∨ us ≤ s.fld' Reg.AON_WAKE_CFG 8 6 →
      exec (.canWake n us) s = .next s) ∧
    (s.bit Reg.AON_WAKE_CFG 6 = false ∨ s.regN Reg.AON_WAKE_TIMER = 0 → exec .wakeTimerExpiry s = .next s)) ∧
  (∀ s : State, (s.pwr ≠ 1 ∨ s.aon.wakePend = 0) →
    exec .suppliesInRange s = .next { s with aon := { s.aon with supplies := true } }) ∧
  (∀ s : State, s.pwr = 1 → s.aon.wakePend ≠ 0 →
    ∃ t, exec .suppliesInRange s = .next t ∧ t.aon.supplies = true ∧ t.aon.booting = true ∧ t.bit Reg.AON_RST_CAUSE 7 = true ∧
      (∀ d < 128, t.powered d = baseDomains.contains d) ∧ t.lthState = 0 ∧
      (s.aon.dramKeep = true → t.sec.keys = s.sec.keys ∧ ∀ a, dramBase ≤ a → t.byteAt a = s.byteAt a) ∧
      (s.aon.dramKeep = false → t.sec.keys = [] ∧ (∀ a, t.byteAt a = 0) ∧ t.fld' Reg.AON_WAKE_SRC 0 4 = s.aon.wakePend % 16))

/-- R637, R669, R679 to R683, R691, Table 16.5: what each reset clears and what it keeps. Loss of the supplies and POR_N clear all but the
fuses; POR_N release starts with the domains of Table 16.2; a warm reset keeps DRAM, keys and the AON registers; an accelerator reset keeps
DRAM, time and the island; a tile reset clears one tile; PERST_N and a Function Level Reset touch HIF only. -/
def Obligations.ResetsClearAndKeepTheirParts : Prop :=
  (∀ s : State, s.sec.busy = none → s.lth.busyOp ≠ 3 →
    (∃ t, exec .suppliesRemoved s = .next t ∧ t.pwr = 0 ∧ t.aon.supplies = false ∧ t.sec = { otp := s.sec.otp } ∧ t.lthState = 0 ∧
      ∀ a, t.byteAt a = 0) ∧
    (s.aon.supplies = true → ∃ t, exec .porNAssert s = .next t ∧ t.aon.porLow = true ∧ t.sec = { otp := s.sec.otp } ∧ t.lthState = 0 ∧
      t.reg Reg.AON_RST_CAUSE = 1 ∧ ∀ a, t.byteAt a = 0) ∧
    (s.aon.supplies = false → exec .porNAssert s = .next s)) ∧
  (∀ (b : BitVec 2) (o : BootOutcome) (s : State),
    (s.aon.porLow = false ∨ s.aon.supplies = false → exec (.porNRelease b o) s = .next s) ∧
    (s.aon.porLow = true → s.aon.supplies = true →
      ∃ t, exec (.porNRelease b o) s = .next t ∧ t.pwr = 3 ∧ t.aon.porLow = false ∧ t.aon.bootSel = b ∧ t.aon.booting = true ∧
        (∀ d < 128, t.powered d = baseDomains.contains d) ∧ (s.sec.otp.broken = true → t.sec.halt = some 1) ∧
        ∀ k ∈ o.tileFail, t.deadBit k.val = true)) ∧
  (∀ (ns : Nat) (s : State),
    (ns < 1000 ∨ s.aon.porLow = true ∨ s.pwr = 1 → exec (.warmNAssert ns) s = .next s) ∧
    (1000 ≤ ns → s.aon.porLow = false → s.pwr ≠ 1 →
      ∃ t, exec (.warmNAssert ns) s = .next t ∧ t.bit Reg.AON_RST_CAUSE 1 = true ∧ t.lthState = 0 ∧ t.sec.keys = s.sec.keys ∧
        t.aon.booting = true ∧ (∀ a, t.byteAt a = if dramBase ≤ a then s.byteAt a else 0))) ∧
  (∀ s : State, s.hostOpen .command Reg.AON_RST_CMD = true → s.bit Reg.AON_RST_ST 16 = false →
    (∃ t, exec .warm s = .next t ∧ t.bit Reg.AON_RST_CAUSE 4 = true ∧ t.lthState = 0 ∧ t.sec.keys = s.sec.keys ∧
      t.fld' Reg.AON_RST_ST 0 8 = DONE ∧ (∀ a, t.byteAt a = if dramBase ≤ a then s.byteAt a else 0) ∧
      t.reg Reg.AON_WAKE_CFG = s.reg Reg.AON_WAKE_CFG) ∧
    (s.bit Reg.CSQ_STATUS 0 = false →
      ∃ t, exec .accel s = .next t ∧ t.bit Reg.AON_RST_CAUSE 6 = true ∧ t.fld' Reg.AON_RST_ST 0 8 = DONE ∧ t.tbu = s.tbu ∧
        t.saf.fb = s.saf.fb ∧ t.sec.keys = s.sec.keys ∧ (∀ a, t.byteAt a = if dramBase ≤ a then s.byteAt a else 0) ∧
        (s.lthState = 3 → t.lthState = 4)) ∧
    (∀ n : BitVec 6, n.toNat < 34 → (s.tile n.toNat).st = .active → s.bit Reg.CSQ_STATUS 0 = false →
      ∃ t, exec (.tileReset n) s = .next t ∧ (t.tile n.toNat).st = .active ∧ (t.tile n.toNat).run = none ∧
        (t.tile n.toNat).stageQ = [] ∧ (t.tile n.toNat).bgQ = [] ∧ n.toNat ∈ t.tca.reload ∧ t.fld' Reg.AON_RST_ST 0 8 = DONE ∧
        ∀ a, n.toNat * 0x100000 ≤ a → a < n.toNat * 0x100000 + 0x100000 → t.byteAt a = 0)) ∧
  (∀ s : State, s.powered 91 = true →
    ∃ t, exec .perstAssert s = .next t ∧ t.hif.perstLow = true ∧ t.hif.linkUp = false ∧ t.locked = false ∧ s.SameMemory t ∧
      ∀ o, 0x100000 ≤ o → t.reg o = s.reg o) ∧
  (∀ s : State, s.hostUp = true →
    ∃ t, exec .functionLevelReset s = .next t ∧ t.hif.linkUp = true ∧ t.locked = false ∧ t.hif.pend = s.hif.pend ∧ s.SameMemory t ∧
      ∀ o, 0x100000 ≤ o → t.reg o = s.reg o)

/-- R675, R677, R684, R667, R732, R738: the link that has trained is up at a speed and width of the standard and WAKE_N is released; start-up
ends READY; a PLL that runs locks; a tile that wakes becomes ACTIVE; the crystal is stable; the temperature is shown. -/
def Obligations.StartUpEventsAreRecorded : Prop :=
  (∀ s : State, s.powered 91 = true → s.hif.perstLow = false → s.aon.porLow = false →
    ∃ t, exec .pcieLinkUp s = .next t ∧ t.hif.linkUp = true ∧ t.aon.wakeLow = false ∧ t.fld' Reg.HIF_STATUS 1 3 ∈ [1, 2, 3, 4] ∧
      t.fld' Reg.HIF_STATUS 4 4 ∈ [1, 2, 4, 8] ∧ s.SameMemory t ∧ s.SameRegsBut t [Reg.HIF_STATUS]) ∧
  (∀ s : State, s.aon.booting = true → s.powered 91 = true → s.aon.porLow = false →
    (s.sec.halt.isSome = true ∨ s.fld' Reg.MEM_FILL_ST 0 2 = 3) →
    ∃ t, exec .deviceReady s = .next t ∧ t.bit Reg.HIF_STATUS 0 = true ∧ t.aon.booting = false ∧
      t.regN Reg.AON_BOOT_TIME = (s.now - s.aon.bootFrom) / msT % 2 ^ 32 ∧ s.SameMemory t ∧
      s.SameRegsBut t [Reg.HIF_STATUS, Reg.AON_BOOT_TIME]) ∧
  (∀ (k : Fin 8) (s : State),
    (s.pllRuns k.val = true → exec (.pllLock k) s = .next (s.setBit Reg.AON_PLL_ST k.val true)) ∧
    (s.pllRuns k.val = false → exec (.pllLock k) s = .next s)) ∧
  (∀ (k : Fin 34) (s : State), s.powered k.val = true → (s.tile k.val).st = .waking → s.tca.swap = none → s.bit Reg.AON_PLL_ST 0 = true →
    ∃ t, exec (.tileDomainReady k) s = .next t ∧ (t.tile k.val).st = .active ∧ s.SameRegsBut t [] ∧
      ∀ n, n ≠ k.val → t.tile n = s.tile n) ∧
  (∀ s : State, s.aon.porLow = false → exec .xtal32kStable s = .next { s with aon := { s.aon with xtalOk := true } }) ∧
  (∀ (v : BitVec 16) (s : State), s.aon.porLow = false →
    ∃ t, exec (.thermalNear v) s = .next t ∧ t.reg Reg.AON_TEMP = v.signExtend 32 ∧ s.SameMemory t ∧ s.SameRegsBut t [Reg.AON_TEMP] ∧
      t.hif.wire.length = s.hif.wire.length +
        (if s.maxJunction - 20 ≤ v.toInt ∧ dueAfter s.aon.thermalAt secT s.now = true then 1 else 0))

/-! ### The host interface -/

/-- R700 to R702, R715: GO judges the requested set by the four checks in order: it locks a set that passes them all, and otherwise reports the
lowest bit that fails the first check that fails, and locks nothing. A GO while BUSY or LOCKED is refused, and writes of the requested set
while LOCKED are ignored; UNLOCK is accepted in NONE only; GO with UNLOCK is refused and neither is carried out; PERST_N, a Function Level
Reset, a warm and a power-on reset clear LOCKED and abandon a handshake. -/
def Obligations.FeatureHandshakeLocksAndUnlocks : Prop :=
  (∀ s : State, s.hostOpen .command Reg.HIF_FEAT_CTRL = true →
    let fails (check k : Nat) : Bool := match check with
      | 1 => s.featDrv.testBit k && !s.featDev.testBit k
      | 2 => s.featMand.testBit k && !s.featDrv.testBit k
      | 3 => k == 6 && s.featDrv.testBit 6 && !s.featDrv.testBit 5
      | _ => s.featReq.testBit k && !s.featDrv.testBit k
    ((s.bit Reg.HIF_FEAT_ST 16 = true ∨ s.locked = true) → exec .go s = .next (s.status Reg.HIF_FEAT_ST REFUSED_STATE)) ∧
    (s.bit Reg.HIF_FEAT_ST 16 = false → s.locked = false →
      ((∀ c, 1 ≤ c → c ≤ 4 → ∀ k < 256, fails c k = false) →
        ∃ t, exec .go s = .next t ∧ t.locked = true ∧ t.fld' Reg.HIF_FEAT_ST 0 8 = DONE ∧ s.SameMemory t ∧
          s.SameRegsBut t [Reg.HIF_FEAT_ST] ∧ t.hif.wire.length = s.hif.wire.length + 1) ∧
      (∀ c k, 1 ≤ c → c ≤ 4 → k < 256 → fails c k = true → (∀ j < k, fails c j = false) →
        (∀ d, 1 ≤ d → d < c → ∀ j < 256, fails d j = false) →
        ∃ t, exec .go s = .next t ∧ t.locked = false ∧ t.fld' Reg.HIF_FEAT_ST 0 8 = REFUSED_FEATURE ∧ t.fld' Reg.HIF_FEAT_ST 8 8 = k ∧
          s.SameMemory t ∧ s.SameRegsBut t [Reg.HIF_FEAT_ST] ∧ t.hif.wire.length = s.hif.wire.length + 1)) ∧
    (s.lthState ≠ 0 → exec .featureUnlock s = .next (s.status Reg.HIF_FEAT_ST REFUSED_STATE)) ∧
    (s.lthState = 0 → s.bit Reg.HIF_FEAT_ST 16 = false →
      exec .featureUnlock s = .next ((s.status Reg.HIF_FEAT_ST DONE).setBit Reg.HIF_FEAT_ST 17 false)) ∧
    (∀ d : BitVec 64, d.setWidth 32 = (3 : W32) →
      exec (.registerWrite true (BitVec.ofNat 25 Reg.HIF_FEAT_CTRL) 4 d) s = .next (s.status Reg.HIF_FEAT_ST REFUSED_STATE))) ∧
  (∀ (k : Fin 8) (d : BitVec 64) (s : State), s.hostOpen .write (Reg.HIF_FEAT_DRV k) = true → s.locked = true →
    exec (.registerWrite true (BitVec.ofNat 25 (Reg.HIF_FEAT_DRV k)) 4 d) s = .next s) ∧
  (∀ s : State,
    let unlocked (c : Instr) : Prop := ∃ t, exec c s = .next t ∧ t.locked = false ∧ t.bit Reg.HIF_FEAT_ST 16 = false
    (s.powered 91 = true → unlocked .perstAssert) ∧ (s.hostUp = true → unlocked .functionLevelReset) ∧
    (∀ ns, 1000 ≤ ns → s.aon.porLow = false → s.pwr ≠ 1 → unlocked (.warmNAssert ns)) ∧
    (s.aon.supplies = true → unlocked .porNAssert) ∧
    (s.hostOpen .command Reg.AON_RST_CMD = true → s.bit Reg.AON_RST_ST 16 = false → unlocked .warm))

/-- R689, R690, R697 to R699: a moderated EVENT message is sent at the end of its interval; unmasking a vector, Bus Master Enable and the
return to D0 send the messages that pend; D3hot holds them; L1 is accepted; a signal maps to a vector only in a range granted to the host. -/
def Obligations.MessagesAreHeldAndSent : Prop :=
  (∀ s : State,
    (s.hif.covered = false → exec .msixModerationEnd s = .next s) ∧
    (∀ t0, s.hif.covered = true → s.hif.lastEvent = some t0 → s.mayPost = true → s.hif.masked.getLsbD 0 = false →
      ∃ t, exec .msixModerationEnd s = .next t ∧ t.hif.covered = false ∧ t.now = max s.now (t0 + s.modT) ∧
        t.hif.lastEvent = some t.now ∧ t.out = s.out ++ [.msix 0] ∧ s.SameMemory t ∧ s.SameRegsBut t [])) ∧
  (∀ (v : Fin 64) (s : State), s.hostUp = true → s.bit Reg.HIF_STATUS 8 = false →
    ∃ t, exec (.msixUnmask v) s = .next t ∧ t.hif.masked.getLsbD v.val = false ∧
      (∀ w < 64, w ≠ v.val → t.hif.masked.getLsbD w = s.hif.masked.getLsbD w) ∧
      (s.hif.pba.getLsbD v.val = true → s.bit Reg.HIF_STATUS 9 = true →
        t.out = s.out ++ [.msix v.val] ∧ t.hif.pba.getLsbD v.val = false) ∧
      (s.hif.pba.getLsbD v.val = false → t.out = s.out) ∧ s.SameMemory t ∧ s.SameRegsBut t []) ∧
  (∀ s : State, s.hostUp = true →
    (∃ t, exec .busMasterEnable s = .next t ∧ t.bit Reg.HIF_STATUS 9 = true ∧ s.SameMemory t ∧ s.SameRegsBut t [Reg.HIF_STATUS] ∧
      ∀ v < 64, s.bit Reg.HIF_STATUS 8 = false → s.hif.pba.getLsbD v = true → s.hif.masked.getLsbD v = false →
        t.hif.pba.getLsbD v = false ∧ Out.msix v ∈ t.out) ∧
    (∃ t, exec .d3hotExit s = .next t ∧ t.bit Reg.HIF_STATUS 8 = false ∧ s.SameMemory t ∧ s.SameRegsBut t [Reg.HIF_STATUS] ∧
      ∀ v < 64, s.bit Reg.HIF_STATUS 9 = true → s.hif.pba.getLsbD v = true → s.hif.masked.getLsbD v = false →
        t.hif.pba.getLsbD v = false ∧ Out.msix v ∈ t.out) ∧
    exec .d3hotEntry s = .next (s.setBit Reg.HIF_STATUS 8 true) ∧
    exec .l1EntryRequest s = .next { s with out := s.out ++ [.done 0x00 idHost DONE] }) ∧
  (∀ (j : Fin 56) (w : W32) (s : State), s.hostFree (Reg.HIF_SIGMAP j) = true →
    (s.sigGranted idHost (fieldOf w 0 10) = true →
      exec (.sigmapWrite j w) s = .next (s.setReg (Reg.HIF_SIGMAP j) (w &&& 0x000103FF))) ∧
    (s.sigGranted idHost (fieldOf w 0 10) = false → exec (.sigmapWrite j w) s = .next s))

/-- R705 to R711: the next entry leaves the wire for the log at PROD, or the pending buffer while the log is off, or is dropped and counted
when its place is full; a severity 3 entry is the last entry shown; a CONS write from the present CONS to PROD is taken; setting EN with
nothing pending only sets it; a read of HIF_EVT_LAST0 latches all eight words. -/
def Obligations.EventLogKeepsItsEntries : Prop :=
  (∀ (e : Evt) (s : State), s.powered 91 = true → nextEvt s.hif.wire = some e →
    ∃ t, exec .eventLogEntry s = .next t ∧
      (e.sev = 3 → (s.bit Reg.HIF_EVT_CFG 0 = false ∨ s.evtFill = s.regN Reg.HIF_EVT_SIZE ∨
          (s.admits idHost .write s.evtAddr 32 = true ∧ s.retiredAt s.evtAddr 32 = false)) → t.hif.last = words8 e.bytes) ∧
      (s.bit Reg.HIF_EVT_CFG 0 = false → t.hif.wire = s.hif.wire.erase e ∧ s.SameMemory t ∧
        (s.hif.pend.length < 64 → t.hif.pend = s.hif.pend ++ [e]) ∧
        (64 ≤ s.hif.pend.length → t.hif.pend = s.hif.pend ∧ t.bit Reg.HIF_STATUS_W1C 0 = true ∧
          t.regN Reg.HIF_EVT_DROP = satAdd 32 (s.regN Reg.HIF_EVT_DROP) 1)) ∧
      (s.bit Reg.HIF_EVT_CFG 0 = true → s.evtFill = s.regN Reg.HIF_EVT_SIZE → s.SameMemory t ∧ t.bit Reg.HIF_STATUS_W1C 0 = true ∧
        t.regN Reg.HIF_EVT_DROP = satAdd 32 (s.regN Reg.HIF_EVT_DROP) 1) ∧
      (s.bit Reg.HIF_EVT_CFG 0 = true → s.evtFill ≠ s.regN Reg.HIF_EVT_SIZE → s.reaches idHost .write s.evtAddr 32 = true →
        t.bytesAt s.evtAddr 32 = e.bytes ∧ t.regN Reg.HIF_EVT_PROD = (s.regN Reg.HIF_EVT_PROD + 1) % 2 ^ 32 ∧
        t.hif.wire = s.hif.wire.erase e ∧ s.SameMemoryOutside t s.evtAddr 32)) ∧
  (∀ (v : W32) (s : State), s.hostFree Reg.HIF_EVT_CONS = true →
    let d (x : Nat) := (x + 2 ^ 32 - s.regN Reg.HIF_EVT_CONS) % 2 ^ 32
    (d v.toNat ≤ d (s.regN Reg.HIF_EVT_PROD) → exec (.evtConsWrite v) s = .next (s.setReg Reg.HIF_EVT_CONS v)) ∧
    (d (s.regN Reg.HIF_EVT_PROD) < d v.toNat → exec (.evtConsWrite v) s = .next (s.setBit Reg.HIF_STATUS_W1C 1 true))) ∧
  (∀ (v : W32) (s : State), s.hostFree Reg.HIF_EVT_CFG = true → (s.hif.pend = [] ∨ v.getLsbD 0 = false ∨ s.bit Reg.HIF_EVT_CFG 0 = true) →
    ∃ t, exec (.evtCfgWrite v) s = .next t ∧ t.reg Reg.HIF_EVT_CFG = v &&& 0xFFFF0007 ∧ t.bit Reg.HIF_STATUS 10 = v.getLsbD 0 ∧
      t.hif.pend = s.hif.pend ∧ s.SameMemory t ∧ s.SameRegsBut t [Reg.HIF_EVT_CFG, Reg.HIF_STATUS]) ∧
  (∀ s : State, s.hostOpen .read (Reg.HIF_EVT_LAST 0) = true →
    ∃ t, exec .evtLastSnapshot s = .next t ∧ (∀ k < 8, t.reg (Reg.HIF_EVT_LAST k) = s.hif.last.getD k 0) ∧
      t.out = s.out ++ [.host .sc (leBytes 4 (s.hif.last.getD 0 0).toNat)] ∧ s.SameMemory t ∧
      s.SameRegsBut t ((List.range 8).map Reg.HIF_EVT_LAST))

/-- R641, R690, R693, R694, R717 to R724: a 32-bit BAR0 request that reaches its register. A read gives the register's value, zero at a
reserved offset; a write to a reserved, read-only or status register, to a locked or frozen one, or outside a stated range changes nothing; a
1 clears a W1C bit; the other registers named take the bits that are not reserved, and GATE takes a pulse of PPS_OUT down at once. A request of another size or alignment is aborted. -/
def Obligations.RegisterRequestsFollowTheirAccessType : Prop :=
  (∀ (write : Bool) (off : BitVec 25) (size : Nat) (d : BitVec 64) (s : State), s.hostUp = true → s.bit Reg.HIF_STATUS 8 = false →
    ((size ≠ 4 ∧ size ≠ 8) ∨ off.toNat % size ≠ 0) → exec (.registerWrite write off size d) s = .next (s.failHost .ca)) ∧
  (∀ (off : BitVec 25) (d : BitVec 64) (s : State), off.toNat % 4 = 0 → s.hostOpen .read off.toNat = true →
    off.toNat ∉ [Reg.CSQ_PF_DATA, Reg.TBU_TIME_SNAP 0, Reg.EGO_LAST_REC 0, Reg.HIF_EVT_LAST 0] →
    exec (.registerWrite false off 4 d) s = .next (s.emit (.host .sc (leBytes 4 (s.regRead off.toNat).toNat))) ∧
    (regDef? off.toNat = none → exec (.registerWrite false off 4 d) s = .next (s.emit (.host .sc [0, 0, 0, 0])))) ∧
  (∀ (off : BitVec 25) (d : BitVec 64) (s : State), off.toNat % 4 = 0 → s.hostOpen (writeKind off.toNat (d.setWidth 32)) off.toNat = true →
    let v : W32 := d.setWidth 32
    (regDef? off.toNat = none → exec (.registerWrite true off 4 d) s = .next s) ∧
    ∀ r, regDef? off.toNat = some r →
      (r.acc = .ro ∨ r.acc = .rws → exec (.registerWrite true off 4 d) s = .next s) ∧
      (r.acc = .w1c → off.toNat ≠ Reg.CSQ_PF_STATUS_W1C →
        exec (.registerWrite true off 4 d) s = .next (s.setReg off.toNat (s.reg off.toNat &&& ~~~(v &&& r.mask)))) ∧
      (r.acc = .rw ∨ r.acc = .rwl → s.frozen off.toNat = true → exec (.registerWrite true off 4 d) s = .next s) ∧
      (r.acc = .rwl → s.lth.rwl = true → exec (.registerWrite true off 4 d) s = .next s) ∧
      (off.toNat ∈ [Reg.AON_WAKE_CFG, Reg.TBU_PPS_CFG, Reg.SIC_VIOL, Reg.PAE_GRID_CELL, Reg.EGO_KF_DT, Reg.TCA_ABFT_TOL, Reg.TAC_CACHE_CFG,
          Reg.FLD_BIRTH_MAX, Reg.CSQ_CS_CFG, Reg.MEM_SCRUB_ADAPT, Reg.SAF_HOLD, Reg.SEC_SRC_LO, Reg.SLK_PORT_CFG] →
        s.frozen off.toNat = false → s.lth.rwl = false →
        (r.chks.all (Chk.ok v) = false → exec (.registerWrite true off 4 d) s = .next s) ∧
        (r.chks.all (Chk.ok v) = true →
          let t := s.setReg off.toNat ((s.reg off.toNat &&& ~~~r.mask) ||| (v &&& r.mask))
          exec (.registerWrite true off 4 d) s = .next (if off.toNat = Reg.TBU_PPS_CFG then t.ppsGate else t))))

/-- R10, R18, R20, R573, R575, R695: memory requests. The host reads and writes device memory through BAR2, and an initiator of the on-die
network its target, where the hurdle admits the range; a request across a 4 KiB boundary is malformed, one outside the map unsupported; a
refused transaction has no effect at its target and ends with BUS_ERROR_HURDLE; checkers that disagree refuse it and raise a STEP doubt. -/
def Obligations.MemoryRequestsReachWhatTheirHurdleAdmits : Prop :=
  (∀ (off : BitVec 36) (len a : Nat) (bs : List Byte) (s : State), s.hostUp = true → s.bit Reg.HIF_STATUS 8 = false →
    (4096 < off.toNat % 4096 + len → ∀ w, ∃ t, exec (.hostBar2Request w off len bs) s = .next t ∧ t.out = s.out ++ [.host .malformed []] ∧
      s.SameMemory t ∧ s.SameRegsBut t []) ∧
    (s.sec.halt = none → s.pwr ≠ 2 → 0 < len → off.toNat % 4096 + len ≤ 4096 →
      (bar2Addr off.toNat = none → ∀ w, exec (.hostBar2Request w off len bs) s = .next (s.failHost .ur)) ∧
      (bar2Addr off.toNat = some a → s.reaches idHost .read a len = true →
        exec (.hostBar2Request false off len bs) s = .next (s.emit (.host .sc (s.bytesAt a len)))) ∧
      (bar2Addr off.toNat = some a → s.reaches idHost .write a len = true → s.msys.inj = none →
        exec (.hostBar2Request true off len bs) s = .next (s.store a (fit len bs))))) ∧
  (∀ (x : BusTxn) (s : State), s.powered 92 = true → x.space = .dev → s.revoked x.id.toNat = false →
    let id := x.id.toNat
    let a := x.addr.toNat
    (x.disagree = false → x.kind = .read → s.reaches id .read a x.len = true →
      exec (.onDieTransaction x) s = .next (s.emit (.bus id DONE (s.bytesAt a x.len)))) ∧
    (x.disagree = false → x.kind = .write → s.reaches id .write a x.len = true → s.msys.inj = none →
      exec (.onDieTransaction x) s = .next ((s.store a (fit x.len x.data)).emit (.bus id DONE []))) ∧
    (x.disagree = false → s.admits id x.kind a x.len = false →
      exec (.onDieTransaction x) s = .next ((s.refuseAccess (hurdleOf a) id x.kind a).emit (.bus id BUS_ERROR_HURDLE []))) ∧
    (x.disagree = true →
      ∃ t, exec (.onDieTransaction x) s = .next t ∧ t.saf.stepDoubt = true ∧ t.out = s.out ++ [.bus id BUS_ERROR_HURDLE []] ∧ s.SameMemory t))

/-! ### The whole block -/

/-- The block takes the command at the front of its queue and runs it on the state with the queue's rest; on an empty queue one cycle of the
time counter passes (the model's choice, log entry 2). -/
def Obligations.StepRunsTheCommandInFront : Prop :=
  (∀ (c : Instr) (s : State), step { s with pending := c :: s.pending } = exec c s) ∧
  (∀ s : State, s.pending = [] → step s = .next s.tick)

/-- R492, R535, R725 and the register indices: right after reset every register holds the reset value of its row, device memory reads zero,
LTH is in NONE, no command waits, tiles 32 and 33 are SPARE and no slot is bound. -/
def Obligations.ResetLeavesTheStatedValues : Prop :=
  (∀ off, State.reset.reg off = resetOf off) ∧ (∀ a, State.reset.byteAt a = 0) ∧ State.reset.pending = [] ∧ State.reset.lthState = 0 ∧
  (∀ n, (State.reset.slot n).bound = false) ∧ (State.reset.tile 32).st = .spare ∧ (State.reset.tile 33).st = .spare ∧
  (∀ n < 32, (State.reset.tile n).st = .off) ∧ State.reset.regN Reg.HIF_EVT_SIZE = 1024 ∧ State.reset.regN Reg.MEM_SCRUB_TARGET = 0x5460 ∧
  State.reset.regN Reg.CSQ_RING_SLOTS = 16 ∧ State.reset.regN Reg.TAC_CACHE_CFG = 0x400100

/-- After reset memory and register file are canonical: entries strictly rise, and none holds what an unlisted one reads as. -/
def Obligations.ResetIsCanonical : Prop := State.reset.Canonical

/-- Every step, whatever the command, keeps memory and register file canonical, so that equal contents are equal data. -/
def Obligations.StepKeepsCanonical : Prop := ∀ s t : State, s.Canonical → step s = .next t → t.Canonical

/-- R43 to R77: the frame of time commands. What the network and PPS_IN tell the time base, what it sends, and the edges of PPS_OUT change no
byte of memory, no register outside TBU, and nothing of security, safety, the applied image or the queue. -/
def Obligations.TimeCommandsKeepTheRest : Prop :=
  ∀ (c : Instr) (s t : State),
    (match c with
      | .gptpSync .. => true
      | .gptpSyncMonitored .. => true
      | .gptpAnnounce .. => true
      | .gptpPdelay .. => true
      | .syncReceiptTimeout .. => true
      | .holdoverMaxExpiry .. => true
      | .timeBlockTimeout .. => true
      | .delayRequestSend .. => true
      | .delayRequest .. => true
      | .pdelayReqSend .. => true
      | .gmSyncSend .. => true
      | .bellwetherTimeout .. => true
      | .ppsInEdge .. => true
      | .ppsInTimeout .. => true
      | .ppsOutRise .. => true
      | .ppsOutFall .. => true
      | _ => false) = true →
    exec c s = .next t →
    s.SameMemory t ∧ (∀ o, o / 0x100000 ≠ 2 → t.reg o = s.reg o) ∧ t.sec = s.sec ∧ t.saf = s.saf ∧ t.lth = s.lth ∧ t.csq = s.csq ∧
      t.pending = s.pending

/-- R79 to R196: the frame of sensor commands. Packets, samples, the patch test, slot time-outs, projection and ego-motion store nothing in
device memory and change only the registers of SIC, PAE, EGO and, where a port is held, SLK; the tiles, DML, the track cache, Fold, the solver,
the cycle, the applied image and security stay as they were. A keyframe submits its solve, so the solver, the signal it may wait on with who
waits there, and a refusal at the hurdle follow it; the sensors, the track cache, Fold and the rest stay. -/
def Obligations.SensorCommandsKeepTheRest : Prop :=
  (∀ (c : Instr) (s t : State),
    (match c with
      | .csiFrameStart .. => true
      | .csiImageLine .. => true
      | .csiEmbeddedData .. => true
      | .csiLineMarker .. => true
      | .csiUnboundPacket .. => true
      | .csiBadHeader .. => true
      | .sqiDegraded .. => true
      | .tasGateEvent .. => true
      | .imuDrdyEdge .. => true
      | .imuDrdyMiss .. => true
      | .imuResponse .. => true
      | .patchDue .. => true
      | .patchInject .. => true
      | .patchEvaluation .. => true
      | .slotSilence .. => true
      | .quarantineHoldEnd .. => true
      | .fcuClusterEmit .. => true
      | .deskewExtrapolate .. => true
      | .deskewHoldResume .. => true
      | .pointDeskew .. => true
      | .depthImageClose .. => true
      | .calEstimate .. => true
      | .egoHoldTimeout .. => true
      | .egoSmootherResult .. => true
      | _ => false) = true →
    exec c s = .next t →
    s.SameMemory t ∧ (∀ o, o < 0x1000000 → o / 0x100000 ∉ [3, 4, 5] → t.reg o = s.reg o) ∧ t.pending = s.pending ∧ t.part = s.part ∧
      t.tca = s.tca ∧ t.dml = s.dml ∧ t.tac = s.tac ∧ t.fld = s.fld ∧ t.bse = s.bse ∧ t.csq = s.csq ∧ t.lth = s.lth ∧ t.msys = s.msys ∧ t.sec = s.sec ∧
      t.aon = s.aon) ∧
  (∀ (k : KeyframeObs) (s t : State), exec (.egoKeyframe k) s = .next t →
    s.SameMemory t ∧ (∀ o, o < 0x1000000 → o / 0x100000 ∉ [7, 14] → t.reg o = s.reg o) ∧ t.pending = s.pending ∧ t.part = s.part ∧
      t.sic = s.sic ∧ t.pae = s.pae ∧ t.tac = s.tac ∧ t.fld = s.fld ∧ t.csq = s.csq ∧ t.lth = s.lth ∧ t.msys = s.msys ∧ t.sec = s.sec ∧ t.aon = s.aon)

/-- R596 to R629: the frame of link commands. Bring-up, acknowledgement and the frames of a pair or drove that only gather what they carry
store nothing in device memory and change only the registers of SLK; everything but the ports, the switch's violation records, events and
output stays as it was. -/
def Obligations.LinkCommandsKeepTheRest : Prop :=
  ∀ (c : Instr) (s t : State),
    (match c with
      | .hello .. => true
      | .handoff .. => true
      | .linkReplayTimeout .. => true
      | .deltaSeq .. => true
      | .memberTimeout .. => true
      | .deltaAck .. => true
      | .deltaKv .. => true
      | .linkCtl .. => true
      | .deltaRec .. => true
      | .feat .. => true
      | .echo .. => true
      | .detClaim .. => true
      | .handRetryExpiry .. => true
      | .delayResponse .. => true
      | .linkLock .. => true
      | .linkDown .. => true
      | .deltaAckTimeout .. => true
      | _ => false) = true →
    exec c s = .next t →
    s.SameMemory t ∧ (∀ o, o < 0x1000000 → t.reg o = s.reg o) ∧ t.pending = s.pending ∧ t.part = s.part ∧
      t.pae = s.pae ∧ t.ego = s.ego ∧ t.tca = s.tca ∧ t.dml = s.dml ∧ t.tac = s.tac ∧ t.fld = s.fld ∧ t.bse = s.bse ∧ t.csq = s.csq ∧ t.lth = s.lth ∧ t.msys = s.msys ∧ t.saf = s.saf ∧ t.sec = s.sec ∧ t.aon = s.aon

/-- R556 to R594, R675 to R699, R732 to R738: the frame of host, power and island events. Messages, D-states, wake sources, clocks, heat, the
island pairs, its outputs and its fallback tracks store nothing in device memory and change only the registers of HIF, AON and SAF; the sensors,
the compute blocks, the applied image and security stay as they were. -/
def Obligations.HostPowerAndIslandEventsKeepTheRest : Prop :=
  ∀ (c : Instr) (s t : State),
    (match c with
      | .pcieLinkUp .. => true
      | .busMasterEnable .. => true
      | .d3hotEntry .. => true
      | .d3hotExit .. => true
      | .l1EntryRequest .. => true
      | .msixUnmask .. => true
      | .msixModerationEnd .. => true
      | .pllLock .. => true
      | .canWake .. => true
      | .perstRelease .. => true
      | .tc10Wake .. => true
      | .wakeTimerExpiry .. => true
      | .thermalNear .. => true
      | .xtal32kStable .. => true
      | .deviceReady .. => true
      | .islandPairMiss .. => true
      | .lockstepMismatch .. => true
      | .pairRestartDone .. => true
      | .safeReqChange .. => true
      | .hbToggle .. => true
      | .fbMotionSample .. => true
      | .fbTrackTimeout .. => true
      | .fbPartnerList .. => true
      | .fbDeadReckoningLost .. => true
      | .conditionHoldExpiry .. => true
      | _ => false) = true →
    exec c s = .next t →
    s.SameMemory t ∧ (∀ o, o / 0x100000 ∉ [0, 1, 14] → t.reg o = s.reg o) ∧ t.pending = s.pending ∧ t.part = s.part ∧
      t.sic = s.sic ∧ t.pae = s.pae ∧ t.ego = s.ego ∧ t.tca = s.tca ∧ t.dml = s.dml ∧ t.tac = s.tac ∧ t.fld = s.fld ∧ t.bse = s.bse ∧ t.csq = s.csq ∧ t.lth = s.lth ∧ t.msys = s.msys ∧ t.slk = s.slk ∧ t.sec = s.sec
end

