-- ==== Sys2Proof/Laws/Bus.lean ====
section
/-! SUPPORT. Laws/Bus.lean: what a transaction on the on-die network does where it reaches device memory, and what it answers where the
hurdle does not admit it. -/

namespace Sys2Proof.Machine

/-- A read that reaches its target returns the bytes there and changes nothing. -/
theorem busRead_reaches {s : State} {id a n : Nat} (h : s.reaches id .read a n = true) : s.busRead id a n = (.ok (s.bytesAt a n), s) := by
  simp only [State.reaches, Bool.and_eq_true, Bool.not_eq_true'] at h
  simp [State.busRead, h, State.checkRead]

/-- A write that reaches its target stores its bytes and nothing else, when no error injection is armed. -/
theorem busWrite_reaches {s : State} {id a : Nat} {bs : List Byte} (h : s.reaches id .write a bs.length = true) (hi : s.msys.inj = none) :
    s.busWrite id a bs = (DONE, s.store a bs) := by
  simp only [State.reaches, Bool.and_eq_true, Bool.not_eq_true'] at h
  have : s.msys.damage = [] := by simpa using h.2
  simp [State.busWrite, h, State.rawStore, this, hi, DONE, State.store]

/-- A read that the hurdle does not admit ends with BUS_ERROR_HURDLE and leaves only the refusal's own record. -/
theorem busRead_denied {s : State} {id a n : Nat} (h : s.admits id .read a n = false) :
    s.busRead id a n = (.error BUS_ERROR_HURDLE, s.refuseAccess (hurdleOf a) id .read a) := by simp [State.busRead, h]

/-- A write that the hurdle does not admit ends with BUS_ERROR_HURDLE and stores nothing. -/
theorem busWrite_denied {s : State} {id a : Nat} {bs : List Byte} (h : s.admits id .write a bs.length = false) :
    s.busWrite id a bs = (BUS_ERROR_HURDLE, s.refuseAccess (hurdleOf a) id .write a) := by simp [State.busWrite, h]

/-- A hurdle's refusal stores nothing in memory and puts nothing out. -/
theorem refuseAccess_mem (s : State) (h : Option Nat) (id : Nat) (k : Kind) (a : Nat) :
    (s.refuseAccess h id k a).mem = s.mem ∧ (s.refuseAccess h id k a).out = s.out := by
  unfold State.refuseAccess State.fencedSpeaker
  grind [State.event, State.countSat, State.setFld, State.setReg]

end Sys2Proof.Machine
end

