-- ==== Sys2Proof/Laws/SMap.lean ====
section
/-! SUPPORT. Laws/SMap.lean: the laws of sparse tables: a look-up after a put, and that every operation keeps the canonical form. -/

namespace Sys2Proof.Machine

variable {β : Type}

@[simp] theorem SMap.find?_insert_same (m : SMap β) (k : Nat) (v : β) : SMap.find? (SMap.insert m k v) k = some v := by
  induction m with
  | nil => simp [SMap.insert, SMap.find?]
  | cons p m ih =>
    obtain ⟨j, w⟩ := p
    by_cases h1 : k < j
    · simp [SMap.insert, SMap.find?, h1]
    · by_cases h2 : k = j
      · simp [SMap.insert, SMap.find?, h2]
      · simp [SMap.insert, SMap.find?, h1, h2, ih]

theorem SMap.find?_insert_ne (m : SMap β) {k k' : Nat} (v : β) (h : k' ≠ k) :
    SMap.find? (SMap.insert m k v) k' = SMap.find? m k' := by
  induction m with
  | nil => simp [SMap.insert, SMap.find?, h]
  | cons p m ih =>
    obtain ⟨j, w⟩ := p
    by_cases h1 : k < j
    · simp [SMap.insert, SMap.find?, h1, h]
    · by_cases h2 : k = j
      · subst h2; simp [SMap.insert, SMap.find?, h]
      · simp [SMap.insert, SMap.find?, h1, h2, ih]

@[simp] theorem SMap.find?_erase_same (m : SMap β) (k : Nat) : SMap.find? (SMap.erase m k) k = none := by
  induction m with
  | nil => rfl
  | cons p m ih =>
    obtain ⟨j, w⟩ := p
    by_cases h : j = k
    · simpa [SMap.erase, h] using ih
    · simpa [SMap.erase, SMap.find?, h, Ne.symm h] using ih

theorem SMap.find?_erase_ne (m : SMap β) {k k' : Nat} (h : k' ≠ k) : SMap.find? (SMap.erase m k) k' = SMap.find? m k' := by
  induction m with
  | nil => rfl
  | cons p m ih =>
    obtain ⟨j, w⟩ := p
    by_cases h1 : j = k
    · subst h1; simpa [SMap.erase, SMap.find?, h] using ih
    · by_cases h2 : k' = j
      · simp [SMap.erase, SMap.find?, h1, h2]
      · simpa [SMap.erase, SMap.find?, h1, h2] using ih

/-- A look-up after a put. -/
theorem SMap.get_put [DecidableEq β] (d : β) (m : SMap β) (k : Nat) (v : β) (d' : β) (k' : Nat) (hd : k' = k → d' = d) :
    SMap.get d' (SMap.put d m k v) k' = if k' = k then v else SMap.get d' m k' := by
  by_cases h : k' = k
  · subst h
    by_cases hv : v = d
    · simp [SMap.get, SMap.put, hv, hd rfl]
    · simp [SMap.get, SMap.put, hv]
  · by_cases hv : v = d
    · simp [SMap.get, SMap.put, hv, h, SMap.find?_erase_ne m h]
    · simp [SMap.get, SMap.put, hv, h, SMap.find?_insert_ne m v h]

/-! ### The canonical form -/

theorem SMap.sorted_iff (m : SMap β) : SMap.sorted m = true ↔ m.Pairwise (fun p q => p.1 < q.1) := by
  induction m with
  | nil => simp [SMap.sorted]
  | cons p m ih =>
    obtain ⟨j, v⟩ := p
    cases m with
    | nil => simp [SMap.sorted]
    | cons q m =>
      obtain ⟨k, w⟩ := q
      rw [List.pairwise_cons, ← ih]
      simp only [SMap.sorted, Bool.and_eq_true, decide_eq_true_eq]
      constructor
      · rintro ⟨h, hs⟩
        refine ⟨?_, hs⟩
        have hp := ih.1 hs
        intro x hx
        rcases List.mem_cons.1 hx with rfl | hx
        · exact h
        · exact lt_trans h ((List.pairwise_cons.1 hp).1 x hx)
      · rintro ⟨h, hs⟩
        exact ⟨h (k, w) (by simp), hs⟩

theorem SMap.insert_mem (m : SMap β) (k : Nat) (v : β) : ∀ p ∈ SMap.insert m k v, p = (k, v) ∨ p ∈ m := by
  induction m with
  | nil => simp [SMap.insert]
  | cons q m ih =>
    obtain ⟨j, w⟩ := q
    intro p hp
    unfold SMap.insert at hp
    split at hp
    · simpa [List.mem_cons] using hp
    · split at hp
      · rcases List.mem_cons.1 hp with h | h
        · exact .inl h
        · exact .inr (List.mem_cons_of_mem _ h)
      · rcases List.mem_cons.1 hp with h | h
        · exact .inr (by simp [h])
        · rcases ih p h with h | h
          · exact .inl h
          · exact .inr (List.mem_cons_of_mem _ h)

theorem SMap.sorted_insert (m : SMap β) (k : Nat) (v : β) (h : SMap.sorted m = true) : SMap.sorted (SMap.insert m k v) = true := by
  rw [SMap.sorted_iff] at h ⊢
  induction m with
  | nil => simp [SMap.insert]
  | cons q m ih =>
    obtain ⟨j, w⟩ := q
    obtain ⟨hq, hm⟩ := List.pairwise_cons.1 h
    unfold SMap.insert
    split
    · rename_i hk
      refine List.pairwise_cons.2 ⟨?_, h⟩
      intro p hp
      rcases List.mem_cons.1 hp with rfl | hp
      · exact hk
      · exact lt_trans hk (hq p hp)
    · split
      · rename_i hk
        subst hk
        exact List.pairwise_cons.2 ⟨hq, hm⟩
      · rename_i h1 h2
        refine List.pairwise_cons.2 ⟨?_, ih hm⟩
        intro p hp
        rcases SMap.insert_mem m k v p hp with rfl | hp
        · show j < k; omega
        · exact hq p hp

theorem SMap.sorted_filter (m : SMap β) (f : Nat × β → Bool) (h : SMap.sorted m = true) : SMap.sorted (m.filter f) = true := by
  rw [SMap.sorted_iff] at h ⊢
  exact h.filter f

/-- A table filtered keeps the canonical form. -/
theorem SMap.wf_filter [DecidableEq β] {d : Nat → β} {m : SMap β} (f : Nat × β → Bool) (h : SMap.wf d m = true) :
    SMap.wf d (m.filter f) = true := by
  simp only [SMap.wf, Bool.and_eq_true, List.all_eq_true] at h ⊢
  exact ⟨SMap.sorted_filter m f h.1, fun p hp => h.2 p (List.mem_of_mem_filter hp)⟩

/-- A put keeps the canonical form. -/
theorem SMap.wf_put [DecidableEq β] {d : Nat → β} {m : SMap β} (k : Nat) (v : β) (h : SMap.wf d m = true) :
    SMap.wf d (SMap.put (d k) m k v) = true := by
  unfold SMap.put
  split
  · exact SMap.wf_filter _ h
  · rename_i hv
    simp only [SMap.wf, Bool.and_eq_true, List.all_eq_true] at h ⊢
    refine ⟨SMap.sorted_insert m k v h.1, fun p hp => ?_⟩
    rcases SMap.insert_mem m k v p hp with rfl | hp
    · simpa using hv
    · exact h.2 p hp

@[simp] theorem SMap.wf_nil [DecidableEq β] (d : Nat → β) : SMap.wf d [] = true := rfl

end Sys2Proof.Machine
end

