-- ==== Sys2Proof/Laws/State.lean ====
section
/-! SUPPORT. Laws/State.lean: what each named update of the state leaves in every field, by `rfl`, so that no later proof unfolds a record
update. -/

namespace Sys2Proof.Machine

variable (s : State)

/-! ### setReg -/

@[simp] theorem State.setReg_pending (o : Nat) (v : W32) : (s.setReg o v).pending = s.pending := rfl
@[simp] theorem State.setReg_regs (o : Nat) (v : W32) : (s.setReg o v).regs = SMap.put (resetOf o) s.regs o v := rfl
@[simp] theorem State.setReg_mem (o : Nat) (v : W32) : (s.setReg o v).mem = s.mem := rfl
@[simp] theorem State.setReg_out (o : Nat) (v : W32) : (s.setReg o v).out = s.out := rfl
@[simp] theorem State.setReg_free (o : Nat) (v : W32) : (s.setReg o v).free = s.free := rfl
@[simp] theorem State.setReg_part (o : Nat) (v : W32) : (s.setReg o v).part = s.part := rfl
@[simp] theorem State.setReg_hif (o : Nat) (v : W32) : (s.setReg o v).hif = s.hif := rfl
@[simp] theorem State.setReg_aon (o : Nat) (v : W32) : (s.setReg o v).aon = s.aon := rfl
@[simp] theorem State.setReg_tbu (o : Nat) (v : W32) : (s.setReg o v).tbu = s.tbu := rfl
@[simp] theorem State.setReg_sic (o : Nat) (v : W32) : (s.setReg o v).sic = s.sic := rfl
@[simp] theorem State.setReg_pae (o : Nat) (v : W32) : (s.setReg o v).pae = s.pae := rfl
@[simp] theorem State.setReg_ego (o : Nat) (v : W32) : (s.setReg o v).ego = s.ego := rfl
@[simp] theorem State.setReg_tca (o : Nat) (v : W32) : (s.setReg o v).tca = s.tca := rfl
@[simp] theorem State.setReg_dml (o : Nat) (v : W32) : (s.setReg o v).dml = s.dml := rfl
@[simp] theorem State.setReg_tac (o : Nat) (v : W32) : (s.setReg o v).tac = s.tac := rfl
@[simp] theorem State.setReg_fld (o : Nat) (v : W32) : (s.setReg o v).fld = s.fld := rfl
@[simp] theorem State.setReg_bse (o : Nat) (v : W32) : (s.setReg o v).bse = s.bse := rfl
@[simp] theorem State.setReg_csq (o : Nat) (v : W32) : (s.setReg o v).csq = s.csq := rfl
@[simp] theorem State.setReg_lth (o : Nat) (v : W32) : (s.setReg o v).lth = s.lth := rfl
@[simp] theorem State.setReg_msys (o : Nat) (v : W32) : (s.setReg o v).msys = s.msys := rfl
@[simp] theorem State.setReg_saf (o : Nat) (v : W32) : (s.setReg o v).saf = s.saf := rfl
@[simp] theorem State.setReg_slk (o : Nat) (v : W32) : (s.setReg o v).slk = s.slk := rfl
@[simp] theorem State.setReg_sec (o : Nat) (v : W32) : (s.setReg o v).sec = s.sec := rfl

/-! ### setFld -/

@[simp] theorem State.setFld_pending (o l w v : Nat) : (s.setFld o l w v).pending = s.pending := rfl
@[simp] theorem State.setFld_mem (o l w v : Nat) : (s.setFld o l w v).mem = s.mem := rfl
@[simp] theorem State.setFld_out (o l w v : Nat) : (s.setFld o l w v).out = s.out := rfl
@[simp] theorem State.setFld_free (o l w v : Nat) : (s.setFld o l w v).free = s.free := rfl
@[simp] theorem State.setFld_part (o l w v : Nat) : (s.setFld o l w v).part = s.part := rfl
@[simp] theorem State.setFld_hif (o l w v : Nat) : (s.setFld o l w v).hif = s.hif := rfl
@[simp] theorem State.setFld_aon (o l w v : Nat) : (s.setFld o l w v).aon = s.aon := rfl
@[simp] theorem State.setFld_tbu (o l w v : Nat) : (s.setFld o l w v).tbu = s.tbu := rfl
@[simp] theorem State.setFld_sic (o l w v : Nat) : (s.setFld o l w v).sic = s.sic := rfl
@[simp] theorem State.setFld_pae (o l w v : Nat) : (s.setFld o l w v).pae = s.pae := rfl
@[simp] theorem State.setFld_ego (o l w v : Nat) : (s.setFld o l w v).ego = s.ego := rfl
@[simp] theorem State.setFld_tca (o l w v : Nat) : (s.setFld o l w v).tca = s.tca := rfl
@[simp] theorem State.setFld_dml (o l w v : Nat) : (s.setFld o l w v).dml = s.dml := rfl
@[simp] theorem State.setFld_tac (o l w v : Nat) : (s.setFld o l w v).tac = s.tac := rfl
@[simp] theorem State.setFld_fld (o l w v : Nat) : (s.setFld o l w v).fld = s.fld := rfl
@[simp] theorem State.setFld_bse (o l w v : Nat) : (s.setFld o l w v).bse = s.bse := rfl
@[simp] theorem State.setFld_csq (o l w v : Nat) : (s.setFld o l w v).csq = s.csq := rfl
@[simp] theorem State.setFld_lth (o l w v : Nat) : (s.setFld o l w v).lth = s.lth := rfl
@[simp] theorem State.setFld_msys (o l w v : Nat) : (s.setFld o l w v).msys = s.msys := rfl
@[simp] theorem State.setFld_saf (o l w v : Nat) : (s.setFld o l w v).saf = s.saf := rfl
@[simp] theorem State.setFld_slk (o l w v : Nat) : (s.setFld o l w v).slk = s.slk := rfl
@[simp] theorem State.setFld_sec (o l w v : Nat) : (s.setFld o l w v).sec = s.sec := rfl

/-! ### setBit -/

@[simp] theorem State.setBit_pending (o b : Nat) (v : Bool) : (s.setBit o b v).pending = s.pending := rfl
@[simp] theorem State.setBit_mem (o b : Nat) (v : Bool) : (s.setBit o b v).mem = s.mem := rfl
@[simp] theorem State.setBit_out (o b : Nat) (v : Bool) : (s.setBit o b v).out = s.out := rfl
@[simp] theorem State.setBit_free (o b : Nat) (v : Bool) : (s.setBit o b v).free = s.free := rfl
@[simp] theorem State.setBit_part (o b : Nat) (v : Bool) : (s.setBit o b v).part = s.part := rfl
@[simp] theorem State.setBit_hif (o b : Nat) (v : Bool) : (s.setBit o b v).hif = s.hif := rfl
@[simp] theorem State.setBit_aon (o b : Nat) (v : Bool) : (s.setBit o b v).aon = s.aon := rfl
@[simp] theorem State.setBit_tbu (o b : Nat) (v : Bool) : (s.setBit o b v).tbu = s.tbu := rfl
@[simp] theorem State.setBit_sic (o b : Nat) (v : Bool) : (s.setBit o b v).sic = s.sic := rfl
@[simp] theorem State.setBit_pae (o b : Nat) (v : Bool) : (s.setBit o b v).pae = s.pae := rfl
@[simp] theorem State.setBit_ego (o b : Nat) (v : Bool) : (s.setBit o b v).ego = s.ego := rfl
@[simp] theorem State.setBit_tca (o b : Nat) (v : Bool) : (s.setBit o b v).tca = s.tca := rfl
@[simp] theorem State.setBit_dml (o b : Nat) (v : Bool) : (s.setBit o b v).dml = s.dml := rfl
@[simp] theorem State.setBit_tac (o b : Nat) (v : Bool) : (s.setBit o b v).tac = s.tac := rfl
@[simp] theorem State.setBit_fld (o b : Nat) (v : Bool) : (s.setBit o b v).fld = s.fld := rfl
@[simp] theorem State.setBit_bse (o b : Nat) (v : Bool) : (s.setBit o b v).bse = s.bse := rfl
@[simp] theorem State.setBit_csq (o b : Nat) (v : Bool) : (s.setBit o b v).csq = s.csq := rfl
@[simp] theorem State.setBit_lth (o b : Nat) (v : Bool) : (s.setBit o b v).lth = s.lth := rfl
@[simp] theorem State.setBit_msys (o b : Nat) (v : Bool) : (s.setBit o b v).msys = s.msys := rfl
@[simp] theorem State.setBit_saf (o b : Nat) (v : Bool) : (s.setBit o b v).saf = s.saf := rfl
@[simp] theorem State.setBit_slk (o b : Nat) (v : Bool) : (s.setBit o b v).slk = s.slk := rfl
@[simp] theorem State.setBit_sec (o b : Nat) (v : Bool) : (s.setBit o b v).sec = s.sec := rfl

/-! ### countSat -/

@[simp] theorem State.countSat_pending (o l w n : Nat) : (s.countSat o l w n).pending = s.pending := rfl
@[simp] theorem State.countSat_mem (o l w n : Nat) : (s.countSat o l w n).mem = s.mem := rfl
@[simp] theorem State.countSat_out (o l w n : Nat) : (s.countSat o l w n).out = s.out := rfl
@[simp] theorem State.countSat_free (o l w n : Nat) : (s.countSat o l w n).free = s.free := rfl
@[simp] theorem State.countSat_part (o l w n : Nat) : (s.countSat o l w n).part = s.part := rfl
@[simp] theorem State.countSat_hif (o l w n : Nat) : (s.countSat o l w n).hif = s.hif := rfl
@[simp] theorem State.countSat_aon (o l w n : Nat) : (s.countSat o l w n).aon = s.aon := rfl
@[simp] theorem State.countSat_tbu (o l w n : Nat) : (s.countSat o l w n).tbu = s.tbu := rfl
@[simp] theorem State.countSat_sic (o l w n : Nat) : (s.countSat o l w n).sic = s.sic := rfl
@[simp] theorem State.countSat_pae (o l w n : Nat) : (s.countSat o l w n).pae = s.pae := rfl
@[simp] theorem State.countSat_ego (o l w n : Nat) : (s.countSat o l w n).ego = s.ego := rfl
@[simp] theorem State.countSat_tca (o l w n : Nat) : (s.countSat o l w n).tca = s.tca := rfl
@[simp] theorem State.countSat_dml (o l w n : Nat) : (s.countSat o l w n).dml = s.dml := rfl
@[simp] theorem State.countSat_tac (o l w n : Nat) : (s.countSat o l w n).tac = s.tac := rfl
@[simp] theorem State.countSat_fld (o l w n : Nat) : (s.countSat o l w n).fld = s.fld := rfl
@[simp] theorem State.countSat_bse (o l w n : Nat) : (s.countSat o l w n).bse = s.bse := rfl
@[simp] theorem State.countSat_csq (o l w n : Nat) : (s.countSat o l w n).csq = s.csq := rfl
@[simp] theorem State.countSat_lth (o l w n : Nat) : (s.countSat o l w n).lth = s.lth := rfl
@[simp] theorem State.countSat_msys (o l w n : Nat) : (s.countSat o l w n).msys = s.msys := rfl
@[simp] theorem State.countSat_saf (o l w n : Nat) : (s.countSat o l w n).saf = s.saf := rfl
@[simp] theorem State.countSat_slk (o l w n : Nat) : (s.countSat o l w n).slk = s.slk := rfl
@[simp] theorem State.countSat_sec (o l w n : Nat) : (s.countSat o l w n).sec = s.sec := rfl

/-! ### countWrap -/

@[simp] theorem State.countWrap_pending (o l w n : Nat) : (s.countWrap o l w n).pending = s.pending := rfl
@[simp] theorem State.countWrap_mem (o l w n : Nat) : (s.countWrap o l w n).mem = s.mem := rfl
@[simp] theorem State.countWrap_out (o l w n : Nat) : (s.countWrap o l w n).out = s.out := rfl
@[simp] theorem State.countWrap_free (o l w n : Nat) : (s.countWrap o l w n).free = s.free := rfl
@[simp] theorem State.countWrap_part (o l w n : Nat) : (s.countWrap o l w n).part = s.part := rfl
@[simp] theorem State.countWrap_hif (o l w n : Nat) : (s.countWrap o l w n).hif = s.hif := rfl
@[simp] theorem State.countWrap_aon (o l w n : Nat) : (s.countWrap o l w n).aon = s.aon := rfl
@[simp] theorem State.countWrap_tbu (o l w n : Nat) : (s.countWrap o l w n).tbu = s.tbu := rfl
@[simp] theorem State.countWrap_sic (o l w n : Nat) : (s.countWrap o l w n).sic = s.sic := rfl
@[simp] theorem State.countWrap_pae (o l w n : Nat) : (s.countWrap o l w n).pae = s.pae := rfl
@[simp] theorem State.countWrap_ego (o l w n : Nat) : (s.countWrap o l w n).ego = s.ego := rfl
@[simp] theorem State.countWrap_tca (o l w n : Nat) : (s.countWrap o l w n).tca = s.tca := rfl
@[simp] theorem State.countWrap_dml (o l w n : Nat) : (s.countWrap o l w n).dml = s.dml := rfl
@[simp] theorem State.countWrap_tac (o l w n : Nat) : (s.countWrap o l w n).tac = s.tac := rfl
@[simp] theorem State.countWrap_fld (o l w n : Nat) : (s.countWrap o l w n).fld = s.fld := rfl
@[simp] theorem State.countWrap_bse (o l w n : Nat) : (s.countWrap o l w n).bse = s.bse := rfl
@[simp] theorem State.countWrap_csq (o l w n : Nat) : (s.countWrap o l w n).csq = s.csq := rfl
@[simp] theorem State.countWrap_lth (o l w n : Nat) : (s.countWrap o l w n).lth = s.lth := rfl
@[simp] theorem State.countWrap_msys (o l w n : Nat) : (s.countWrap o l w n).msys = s.msys := rfl
@[simp] theorem State.countWrap_saf (o l w n : Nat) : (s.countWrap o l w n).saf = s.saf := rfl
@[simp] theorem State.countWrap_slk (o l w n : Nat) : (s.countWrap o l w n).slk = s.slk := rfl
@[simp] theorem State.countWrap_sec (o l w n : Nat) : (s.countWrap o l w n).sec = s.sec := rfl

/-! ### setReg64 -/

@[simp] theorem State.setReg64_pending (o v : Nat) : (s.setReg64 o v).pending = s.pending := rfl
@[simp] theorem State.setReg64_mem (o v : Nat) : (s.setReg64 o v).mem = s.mem := rfl
@[simp] theorem State.setReg64_out (o v : Nat) : (s.setReg64 o v).out = s.out := rfl
@[simp] theorem State.setReg64_free (o v : Nat) : (s.setReg64 o v).free = s.free := rfl
@[simp] theorem State.setReg64_part (o v : Nat) : (s.setReg64 o v).part = s.part := rfl
@[simp] theorem State.setReg64_hif (o v : Nat) : (s.setReg64 o v).hif = s.hif := rfl
@[simp] theorem State.setReg64_aon (o v : Nat) : (s.setReg64 o v).aon = s.aon := rfl
@[simp] theorem State.setReg64_tbu (o v : Nat) : (s.setReg64 o v).tbu = s.tbu := rfl
@[simp] theorem State.setReg64_sic (o v : Nat) : (s.setReg64 o v).sic = s.sic := rfl
@[simp] theorem State.setReg64_pae (o v : Nat) : (s.setReg64 o v).pae = s.pae := rfl
@[simp] theorem State.setReg64_ego (o v : Nat) : (s.setReg64 o v).ego = s.ego := rfl
@[simp] theorem State.setReg64_tca (o v : Nat) : (s.setReg64 o v).tca = s.tca := rfl
@[simp] theorem State.setReg64_dml (o v : Nat) : (s.setReg64 o v).dml = s.dml := rfl
@[simp] theorem State.setReg64_tac (o v : Nat) : (s.setReg64 o v).tac = s.tac := rfl
@[simp] theorem State.setReg64_fld (o v : Nat) : (s.setReg64 o v).fld = s.fld := rfl
@[simp] theorem State.setReg64_bse (o v : Nat) : (s.setReg64 o v).bse = s.bse := rfl
@[simp] theorem State.setReg64_csq (o v : Nat) : (s.setReg64 o v).csq = s.csq := rfl
@[simp] theorem State.setReg64_lth (o v : Nat) : (s.setReg64 o v).lth = s.lth := rfl
@[simp] theorem State.setReg64_msys (o v : Nat) : (s.setReg64 o v).msys = s.msys := rfl
@[simp] theorem State.setReg64_saf (o v : Nat) : (s.setReg64 o v).saf = s.saf := rfl
@[simp] theorem State.setReg64_slk (o v : Nat) : (s.setReg64 o v).slk = s.slk := rfl
@[simp] theorem State.setReg64_sec (o v : Nat) : (s.setReg64 o v).sec = s.sec := rfl

/-! ### status -/

@[simp] theorem State.status_pending (o c : Nat) : (s.status o c).pending = s.pending := rfl
@[simp] theorem State.status_mem (o c : Nat) : (s.status o c).mem = s.mem := rfl
@[simp] theorem State.status_out (o c : Nat) : (s.status o c).out = s.out := rfl
@[simp] theorem State.status_free (o c : Nat) : (s.status o c).free = s.free := rfl
@[simp] theorem State.status_part (o c : Nat) : (s.status o c).part = s.part := rfl
@[simp] theorem State.status_hif (o c : Nat) : (s.status o c).hif = s.hif := rfl
@[simp] theorem State.status_aon (o c : Nat) : (s.status o c).aon = s.aon := rfl
@[simp] theorem State.status_tbu (o c : Nat) : (s.status o c).tbu = s.tbu := rfl
@[simp] theorem State.status_sic (o c : Nat) : (s.status o c).sic = s.sic := rfl
@[simp] theorem State.status_pae (o c : Nat) : (s.status o c).pae = s.pae := rfl
@[simp] theorem State.status_ego (o c : Nat) : (s.status o c).ego = s.ego := rfl
@[simp] theorem State.status_tca (o c : Nat) : (s.status o c).tca = s.tca := rfl
@[simp] theorem State.status_dml (o c : Nat) : (s.status o c).dml = s.dml := rfl
@[simp] theorem State.status_tac (o c : Nat) : (s.status o c).tac = s.tac := rfl
@[simp] theorem State.status_fld (o c : Nat) : (s.status o c).fld = s.fld := rfl
@[simp] theorem State.status_bse (o c : Nat) : (s.status o c).bse = s.bse := rfl
@[simp] theorem State.status_csq (o c : Nat) : (s.status o c).csq = s.csq := rfl
@[simp] theorem State.status_lth (o c : Nat) : (s.status o c).lth = s.lth := rfl
@[simp] theorem State.status_msys (o c : Nat) : (s.status o c).msys = s.msys := rfl
@[simp] theorem State.status_saf (o c : Nat) : (s.status o c).saf = s.saf := rfl
@[simp] theorem State.status_slk (o c : Nat) : (s.status o c).slk = s.slk := rfl
@[simp] theorem State.status_sec (o c : Nat) : (s.status o c).sec = s.sec := rfl

/-! ### setPower -/

@[simp] theorem State.setPower_pending (d : Nat) (v : Bool) : (s.setPower d v).pending = s.pending := rfl
@[simp] theorem State.setPower_mem (d : Nat) (v : Bool) : (s.setPower d v).mem = s.mem := rfl
@[simp] theorem State.setPower_out (d : Nat) (v : Bool) : (s.setPower d v).out = s.out := rfl
@[simp] theorem State.setPower_free (d : Nat) (v : Bool) : (s.setPower d v).free = s.free := rfl
@[simp] theorem State.setPower_part (d : Nat) (v : Bool) : (s.setPower d v).part = s.part := rfl
@[simp] theorem State.setPower_hif (d : Nat) (v : Bool) : (s.setPower d v).hif = s.hif := rfl
@[simp] theorem State.setPower_aon (d : Nat) (v : Bool) : (s.setPower d v).aon = s.aon := rfl
@[simp] theorem State.setPower_tbu (d : Nat) (v : Bool) : (s.setPower d v).tbu = s.tbu := rfl
@[simp] theorem State.setPower_sic (d : Nat) (v : Bool) : (s.setPower d v).sic = s.sic := rfl
@[simp] theorem State.setPower_pae (d : Nat) (v : Bool) : (s.setPower d v).pae = s.pae := rfl
@[simp] theorem State.setPower_ego (d : Nat) (v : Bool) : (s.setPower d v).ego = s.ego := rfl
@[simp] theorem State.setPower_tca (d : Nat) (v : Bool) : (s.setPower d v).tca = s.tca := rfl
@[simp] theorem State.setPower_dml (d : Nat) (v : Bool) : (s.setPower d v).dml = s.dml := rfl
@[simp] theorem State.setPower_tac (d : Nat) (v : Bool) : (s.setPower d v).tac = s.tac := rfl
@[simp] theorem State.setPower_fld (d : Nat) (v : Bool) : (s.setPower d v).fld = s.fld := rfl
@[simp] theorem State.setPower_bse (d : Nat) (v : Bool) : (s.setPower d v).bse = s.bse := rfl
@[simp] theorem State.setPower_csq (d : Nat) (v : Bool) : (s.setPower d v).csq = s.csq := rfl
@[simp] theorem State.setPower_lth (d : Nat) (v : Bool) : (s.setPower d v).lth = s.lth := rfl
@[simp] theorem State.setPower_msys (d : Nat) (v : Bool) : (s.setPower d v).msys = s.msys := rfl
@[simp] theorem State.setPower_saf (d : Nat) (v : Bool) : (s.setPower d v).saf = s.saf := rfl
@[simp] theorem State.setPower_slk (d : Nat) (v : Bool) : (s.setPower d v).slk = s.slk := rfl
@[simp] theorem State.setPower_sec (d : Nat) (v : Bool) : (s.setPower d v).sec = s.sec := rfl

/-! ### store -/

@[simp] theorem State.store_pending (a : Nat) (bs : List Byte) : (s.store a bs).pending = s.pending := rfl
@[simp] theorem State.store_regs (a : Nat) (bs : List Byte) : (s.store a bs).regs = s.regs := rfl
@[simp] theorem State.store_mem (a : Nat) (bs : List Byte) : (s.store a bs).mem = memStore s.mem a bs := rfl
@[simp] theorem State.store_out (a : Nat) (bs : List Byte) : (s.store a bs).out = s.out := rfl
@[simp] theorem State.store_free (a : Nat) (bs : List Byte) : (s.store a bs).free = s.free := rfl
@[simp] theorem State.store_part (a : Nat) (bs : List Byte) : (s.store a bs).part = s.part := rfl
@[simp] theorem State.store_hif (a : Nat) (bs : List Byte) : (s.store a bs).hif = s.hif := rfl
@[simp] theorem State.store_aon (a : Nat) (bs : List Byte) : (s.store a bs).aon = s.aon := rfl
@[simp] theorem State.store_tbu (a : Nat) (bs : List Byte) : (s.store a bs).tbu = s.tbu := rfl
@[simp] theorem State.store_sic (a : Nat) (bs : List Byte) : (s.store a bs).sic = s.sic := rfl
@[simp] theorem State.store_pae (a : Nat) (bs : List Byte) : (s.store a bs).pae = s.pae := rfl
@[simp] theorem State.store_ego (a : Nat) (bs : List Byte) : (s.store a bs).ego = s.ego := rfl
@[simp] theorem State.store_tca (a : Nat) (bs : List Byte) : (s.store a bs).tca = s.tca := rfl
@[simp] theorem State.store_dml (a : Nat) (bs : List Byte) : (s.store a bs).dml = s.dml := rfl
@[simp] theorem State.store_tac (a : Nat) (bs : List Byte) : (s.store a bs).tac = s.tac := rfl
@[simp] theorem State.store_fld (a : Nat) (bs : List Byte) : (s.store a bs).fld = s.fld := rfl
@[simp] theorem State.store_bse (a : Nat) (bs : List Byte) : (s.store a bs).bse = s.bse := rfl
@[simp] theorem State.store_csq (a : Nat) (bs : List Byte) : (s.store a bs).csq = s.csq := rfl
@[simp] theorem State.store_lth (a : Nat) (bs : List Byte) : (s.store a bs).lth = s.lth := rfl
@[simp] theorem State.store_msys (a : Nat) (bs : List Byte) : (s.store a bs).msys = s.msys := rfl
@[simp] theorem State.store_saf (a : Nat) (bs : List Byte) : (s.store a bs).saf = s.saf := rfl
@[simp] theorem State.store_slk (a : Nat) (bs : List Byte) : (s.store a bs).slk = s.slk := rfl
@[simp] theorem State.store_sec (a : Nat) (bs : List Byte) : (s.store a bs).sec = s.sec := rfl

/-! ### poke -/

@[simp] theorem State.poke_pending (a n v : Nat) : (s.poke a n v).pending = s.pending := rfl
@[simp] theorem State.poke_regs (a n v : Nat) : (s.poke a n v).regs = s.regs := rfl
@[simp] theorem State.poke_out (a n v : Nat) : (s.poke a n v).out = s.out := rfl
@[simp] theorem State.poke_free (a n v : Nat) : (s.poke a n v).free = s.free := rfl
@[simp] theorem State.poke_part (a n v : Nat) : (s.poke a n v).part = s.part := rfl
@[simp] theorem State.poke_hif (a n v : Nat) : (s.poke a n v).hif = s.hif := rfl
@[simp] theorem State.poke_aon (a n v : Nat) : (s.poke a n v).aon = s.aon := rfl
@[simp] theorem State.poke_tbu (a n v : Nat) : (s.poke a n v).tbu = s.tbu := rfl
@[simp] theorem State.poke_sic (a n v : Nat) : (s.poke a n v).sic = s.sic := rfl
@[simp] theorem State.poke_pae (a n v : Nat) : (s.poke a n v).pae = s.pae := rfl
@[simp] theorem State.poke_ego (a n v : Nat) : (s.poke a n v).ego = s.ego := rfl
@[simp] theorem State.poke_tca (a n v : Nat) : (s.poke a n v).tca = s.tca := rfl
@[simp] theorem State.poke_dml (a n v : Nat) : (s.poke a n v).dml = s.dml := rfl
@[simp] theorem State.poke_tac (a n v : Nat) : (s.poke a n v).tac = s.tac := rfl
@[simp] theorem State.poke_fld (a n v : Nat) : (s.poke a n v).fld = s.fld := rfl
@[simp] theorem State.poke_bse (a n v : Nat) : (s.poke a n v).bse = s.bse := rfl
@[simp] theorem State.poke_csq (a n v : Nat) : (s.poke a n v).csq = s.csq := rfl
@[simp] theorem State.poke_lth (a n v : Nat) : (s.poke a n v).lth = s.lth := rfl
@[simp] theorem State.poke_msys (a n v : Nat) : (s.poke a n v).msys = s.msys := rfl
@[simp] theorem State.poke_saf (a n v : Nat) : (s.poke a n v).saf = s.saf := rfl
@[simp] theorem State.poke_slk (a n v : Nat) : (s.poke a n v).slk = s.slk := rfl
@[simp] theorem State.poke_sec (a n v : Nat) : (s.poke a n v).sec = s.sec := rfl

/-! ### zero -/

@[simp] theorem State.zero_pending (a n : Nat) : (s.zero a n).pending = s.pending := rfl
@[simp] theorem State.zero_regs (a n : Nat) : (s.zero a n).regs = s.regs := rfl
@[simp] theorem State.zero_mem (a n : Nat) : (s.zero a n).mem = memZero s.mem a n := rfl
@[simp] theorem State.zero_out (a n : Nat) : (s.zero a n).out = s.out := rfl
@[simp] theorem State.zero_free (a n : Nat) : (s.zero a n).free = s.free := rfl
@[simp] theorem State.zero_part (a n : Nat) : (s.zero a n).part = s.part := rfl
@[simp] theorem State.zero_hif (a n : Nat) : (s.zero a n).hif = s.hif := rfl
@[simp] theorem State.zero_aon (a n : Nat) : (s.zero a n).aon = s.aon := rfl
@[simp] theorem State.zero_tbu (a n : Nat) : (s.zero a n).tbu = s.tbu := rfl
@[simp] theorem State.zero_sic (a n : Nat) : (s.zero a n).sic = s.sic := rfl
@[simp] theorem State.zero_pae (a n : Nat) : (s.zero a n).pae = s.pae := rfl
@[simp] theorem State.zero_ego (a n : Nat) : (s.zero a n).ego = s.ego := rfl
@[simp] theorem State.zero_tca (a n : Nat) : (s.zero a n).tca = s.tca := rfl
@[simp] theorem State.zero_dml (a n : Nat) : (s.zero a n).dml = s.dml := rfl
@[simp] theorem State.zero_tac (a n : Nat) : (s.zero a n).tac = s.tac := rfl
@[simp] theorem State.zero_fld (a n : Nat) : (s.zero a n).fld = s.fld := rfl
@[simp] theorem State.zero_bse (a n : Nat) : (s.zero a n).bse = s.bse := rfl
@[simp] theorem State.zero_csq (a n : Nat) : (s.zero a n).csq = s.csq := rfl
@[simp] theorem State.zero_lth (a n : Nat) : (s.zero a n).lth = s.lth := rfl
@[simp] theorem State.zero_msys (a n : Nat) : (s.zero a n).msys = s.msys := rfl
@[simp] theorem State.zero_saf (a n : Nat) : (s.zero a n).saf = s.saf := rfl
@[simp] theorem State.zero_slk (a n : Nat) : (s.zero a n).slk = s.slk := rfl
@[simp] theorem State.zero_sec (a n : Nat) : (s.zero a n).sec = s.sec := rfl

/-! ### failHost -/

@[simp] theorem State.failHost_pending (c : Cpl) : (s.failHost c).pending = s.pending := rfl
@[simp] theorem State.failHost_regs (c : Cpl) : (s.failHost c).regs = s.regs := rfl
@[simp] theorem State.failHost_mem (c : Cpl) : (s.failHost c).mem = s.mem := rfl
@[simp] theorem State.failHost_out (c : Cpl) : (s.failHost c).out = s.out ++ [.host c []] := rfl
@[simp] theorem State.failHost_free (c : Cpl) : (s.failHost c).free = s.free := rfl
@[simp] theorem State.failHost_part (c : Cpl) : (s.failHost c).part = s.part := rfl
@[simp] theorem State.failHost_hif (c : Cpl) : (s.failHost c).hif = { s.hif with advisory := true } := rfl
@[simp] theorem State.failHost_aon (c : Cpl) : (s.failHost c).aon = s.aon := rfl
@[simp] theorem State.failHost_tbu (c : Cpl) : (s.failHost c).tbu = s.tbu := rfl
@[simp] theorem State.failHost_sic (c : Cpl) : (s.failHost c).sic = s.sic := rfl
@[simp] theorem State.failHost_pae (c : Cpl) : (s.failHost c).pae = s.pae := rfl
@[simp] theorem State.failHost_ego (c : Cpl) : (s.failHost c).ego = s.ego := rfl
@[simp] theorem State.failHost_tca (c : Cpl) : (s.failHost c).tca = s.tca := rfl
@[simp] theorem State.failHost_dml (c : Cpl) : (s.failHost c).dml = s.dml := rfl
@[simp] theorem State.failHost_tac (c : Cpl) : (s.failHost c).tac = s.tac := rfl
@[simp] theorem State.failHost_fld (c : Cpl) : (s.failHost c).fld = s.fld := rfl
@[simp] theorem State.failHost_bse (c : Cpl) : (s.failHost c).bse = s.bse := rfl
@[simp] theorem State.failHost_csq (c : Cpl) : (s.failHost c).csq = s.csq := rfl
@[simp] theorem State.failHost_lth (c : Cpl) : (s.failHost c).lth = s.lth := rfl
@[simp] theorem State.failHost_msys (c : Cpl) : (s.failHost c).msys = s.msys := rfl
@[simp] theorem State.failHost_saf (c : Cpl) : (s.failHost c).saf = s.saf := rfl
@[simp] theorem State.failHost_slk (c : Cpl) : (s.failHost c).slk = s.slk := rfl
@[simp] theorem State.failHost_sec (c : Cpl) : (s.failHost c).sec = s.sec := rfl

/-! ### emit -/

@[simp] theorem State.emit_pending (o : Out) : (s.emit o).pending = s.pending := rfl
@[simp] theorem State.emit_regs (o : Out) : (s.emit o).regs = s.regs := rfl
@[simp] theorem State.emit_mem (o : Out) : (s.emit o).mem = s.mem := rfl
@[simp] theorem State.emit_out (o : Out) : (s.emit o).out = s.out ++ [o] := rfl
@[simp] theorem State.emit_free (o : Out) : (s.emit o).free = s.free := rfl
@[simp] theorem State.emit_part (o : Out) : (s.emit o).part = s.part := rfl
@[simp] theorem State.emit_hif (o : Out) : (s.emit o).hif = s.hif := rfl
@[simp] theorem State.emit_aon (o : Out) : (s.emit o).aon = s.aon := rfl
@[simp] theorem State.emit_tbu (o : Out) : (s.emit o).tbu = s.tbu := rfl
@[simp] theorem State.emit_sic (o : Out) : (s.emit o).sic = s.sic := rfl
@[simp] theorem State.emit_pae (o : Out) : (s.emit o).pae = s.pae := rfl
@[simp] theorem State.emit_ego (o : Out) : (s.emit o).ego = s.ego := rfl
@[simp] theorem State.emit_tca (o : Out) : (s.emit o).tca = s.tca := rfl
@[simp] theorem State.emit_dml (o : Out) : (s.emit o).dml = s.dml := rfl
@[simp] theorem State.emit_tac (o : Out) : (s.emit o).tac = s.tac := rfl
@[simp] theorem State.emit_fld (o : Out) : (s.emit o).fld = s.fld := rfl
@[simp] theorem State.emit_bse (o : Out) : (s.emit o).bse = s.bse := rfl
@[simp] theorem State.emit_csq (o : Out) : (s.emit o).csq = s.csq := rfl
@[simp] theorem State.emit_lth (o : Out) : (s.emit o).lth = s.lth := rfl
@[simp] theorem State.emit_msys (o : Out) : (s.emit o).msys = s.msys := rfl
@[simp] theorem State.emit_saf (o : Out) : (s.emit o).saf = s.saf := rfl
@[simp] theorem State.emit_slk (o : Out) : (s.emit o).slk = s.slk := rfl
@[simp] theorem State.emit_sec (o : Out) : (s.emit o).sec = s.sec := rfl

/-! ### event -/

@[simp] theorem State.event_pending (a b c d : Nat) (bs : List Byte) : (s.event a b c d bs).pending = s.pending := rfl
@[simp] theorem State.event_regs (a b c d : Nat) (bs : List Byte) : (s.event a b c d bs).regs = s.regs := rfl
@[simp] theorem State.event_mem (a b c d : Nat) (bs : List Byte) : (s.event a b c d bs).mem = s.mem := rfl
@[simp] theorem State.event_out (a b c d : Nat) (bs : List Byte) : (s.event a b c d bs).out = s.out := rfl
@[simp] theorem State.event_free (a b c d : Nat) (bs : List Byte) : (s.event a b c d bs).free = s.free := rfl
@[simp] theorem State.event_part (a b c d : Nat) (bs : List Byte) : (s.event a b c d bs).part = s.part := rfl
@[simp] theorem State.event_hif (a b c d : Nat) (bs : List Byte) : (s.event a b c d bs).hif = { s.hif with wire := s.hif.wire ++ [⟨s.now, a, b, c, d, fit 10 bs⟩] } := rfl
@[simp] theorem State.event_aon (a b c d : Nat) (bs : List Byte) : (s.event a b c d bs).aon = s.aon := rfl
@[simp] theorem State.event_tbu (a b c d : Nat) (bs : List Byte) : (s.event a b c d bs).tbu = s.tbu := rfl
@[simp] theorem State.event_sic (a b c d : Nat) (bs : List Byte) : (s.event a b c d bs).sic = s.sic := rfl
@[simp] theorem State.event_pae (a b c d : Nat) (bs : List Byte) : (s.event a b c d bs).pae = s.pae := rfl
@[simp] theorem State.event_ego (a b c d : Nat) (bs : List Byte) : (s.event a b c d bs).ego = s.ego := rfl
@[simp] theorem State.event_tca (a b c d : Nat) (bs : List Byte) : (s.event a b c d bs).tca = s.tca := rfl
@[simp] theorem State.event_dml (a b c d : Nat) (bs : List Byte) : (s.event a b c d bs).dml = s.dml := rfl
@[simp] theorem State.event_tac (a b c d : Nat) (bs : List Byte) : (s.event a b c d bs).tac = s.tac := rfl
@[simp] theorem State.event_fld (a b c d : Nat) (bs : List Byte) : (s.event a b c d bs).fld = s.fld := rfl
@[simp] theorem State.event_bse (a b c d : Nat) (bs : List Byte) : (s.event a b c d bs).bse = s.bse := rfl
@[simp] theorem State.event_csq (a b c d : Nat) (bs : List Byte) : (s.event a b c d bs).csq = s.csq := rfl
@[simp] theorem State.event_lth (a b c d : Nat) (bs : List Byte) : (s.event a b c d bs).lth = s.lth := rfl
@[simp] theorem State.event_msys (a b c d : Nat) (bs : List Byte) : (s.event a b c d bs).msys = s.msys := rfl
@[simp] theorem State.event_saf (a b c d : Nat) (bs : List Byte) : (s.event a b c d bs).saf = s.saf := rfl
@[simp] theorem State.event_slk (a b c d : Nat) (bs : List Byte) : (s.event a b c d bs).slk = s.slk := rfl
@[simp] theorem State.event_sec (a b c d : Nat) (bs : List Byte) : (s.event a b c d bs).sec = s.sec := rfl

/-! ### reach -/

@[simp] theorem State.reach_pending (t : Time) : (s.reach t).pending = s.pending := rfl
@[simp] theorem State.reach_regs (t : Time) : (s.reach t).regs = s.regs := rfl
@[simp] theorem State.reach_mem (t : Time) : (s.reach t).mem = s.mem := rfl
@[simp] theorem State.reach_out (t : Time) : (s.reach t).out = s.out := rfl
@[simp] theorem State.reach_free (t : Time) : (s.reach t).free = s.free := rfl
@[simp] theorem State.reach_part (t : Time) : (s.reach t).part = s.part := rfl
@[simp] theorem State.reach_hif (t : Time) : (s.reach t).hif = s.hif := rfl
@[simp] theorem State.reach_aon (t : Time) : (s.reach t).aon = s.aon := rfl
@[simp] theorem State.reach_tbu (t : Time) : (s.reach t).tbu = { s.tbu with now := max s.tbu.now t } := rfl
@[simp] theorem State.reach_sic (t : Time) : (s.reach t).sic = s.sic := rfl
@[simp] theorem State.reach_pae (t : Time) : (s.reach t).pae = s.pae := rfl
@[simp] theorem State.reach_ego (t : Time) : (s.reach t).ego = s.ego := rfl
@[simp] theorem State.reach_tca (t : Time) : (s.reach t).tca = s.tca := rfl
@[simp] theorem State.reach_dml (t : Time) : (s.reach t).dml = s.dml := rfl
@[simp] theorem State.reach_tac (t : Time) : (s.reach t).tac = s.tac := rfl
@[simp] theorem State.reach_fld (t : Time) : (s.reach t).fld = s.fld := rfl
@[simp] theorem State.reach_bse (t : Time) : (s.reach t).bse = s.bse := rfl
@[simp] theorem State.reach_csq (t : Time) : (s.reach t).csq = s.csq := rfl
@[simp] theorem State.reach_lth (t : Time) : (s.reach t).lth = s.lth := rfl
@[simp] theorem State.reach_msys (t : Time) : (s.reach t).msys = s.msys := rfl
@[simp] theorem State.reach_saf (t : Time) : (s.reach t).saf = s.saf := rfl
@[simp] theorem State.reach_slk (t : Time) : (s.reach t).slk = s.slk := rfl
@[simp] theorem State.reach_sec (t : Time) : (s.reach t).sec = s.sec := rfl

end Sys2Proof.Machine
end

