-- ==== Sys2Proof/Laws/Regs.lean ====
section
/-! SUPPORT. Laws/Regs.lean: what a read of the register file or of memory gives after each base operation, and what the base operations
leave alone. -/

namespace Sys2Proof.Machine

/-! ### The register file -/

/-- A register read after a register write. -/
theorem reg_setReg (s : State) (o : Nat) (v : W32) (o' : Nat) : (s.setReg o v).reg o' = if o' = o then v else s.reg o' :=
  SMap.get_put _ _ _ _ _ _ (fun h => by rw [h])

@[simp] theorem reg_setReg_same (s : State) (o : Nat) (v : W32) : (s.setReg o v).reg o = v := by simp [reg_setReg]

theorem reg_setReg_ne (s : State) {o o' : Nat} (v : W32) (h : o' ≠ o) : (s.setReg o v).reg o' = s.reg o' := by simp [reg_setReg, h]

/-- Two states with one register file read alike. -/
theorem reg_congr {s t : State} (h : s.regs = t.regs) (o : Nat) : s.reg o = t.reg o := by simp [State.reg, h]

theorem setBits_lt {v lo w x : Nat} (hv : v < 2 ^ 32) (hw : lo + w ≤ 32) : setBits v lo w x < 2 ^ 32 := by
  have h1 : v % 2 ^ (lo + w) = v % 2 ^ lo + bits v lo w * 2 ^ lo := by
    rw [pow_add, Nat.mod_mul, bits]; ring
  have h2 : v = v / 2 ^ (lo + w) * 2 ^ (lo + w) + v % 2 ^ (lo + w) := (Nat.div_add_mod' v _).symm
  have h3 : x % 2 ^ w < 2 ^ w := Nat.mod_lt _ (by positivity)
  have h4 : v % 2 ^ lo < 2 ^ lo := Nat.mod_lt _ (by positivity)
  have h5 : x % 2 ^ w * 2 ^ lo + v % 2 ^ lo < 2 ^ (lo + w) := by
    have := Nat.mul_le_mul_right (2 ^ lo) (Nat.succ_le_of_lt h3)
    rw [Nat.succ_mul] at this
    rw [pow_add, mul_comm (2 ^ lo)]
    omega
  have h6 : (2 : Nat) ^ 32 = 2 ^ (32 - (lo + w)) * 2 ^ (lo + w) := by rw [← pow_add]; congr 1; omega
  have h7 : v / 2 ^ (lo + w) < 2 ^ (32 - (lo + w)) := by
    rw [Nat.div_lt_iff_lt_mul (by positivity), ← h6]; exact hv
  have h8 : setBits v lo w x = v / 2 ^ (lo + w) * 2 ^ (lo + w) + (x % 2 ^ w * 2 ^ lo + v % 2 ^ lo) := by
    unfold setBits; omega
  have h9 := Nat.mul_le_mul_right (2 ^ (lo + w)) (Nat.succ_le_of_lt h7)
  rw [Nat.succ_mul, ← h6] at h9
  omega

/-- A field of a number after that field is replaced. -/
theorem bits_setBits_same (v lo w x : Nat) : bits (setBits v lo w x) lo w = x % 2 ^ w := by
  have h1 : v % 2 ^ (lo + w) = v % 2 ^ lo + bits v lo w * 2 ^ lo := by
    rw [pow_add, Nat.mod_mul, bits]; ring
  have h2 : v = v / 2 ^ (lo + w) * 2 ^ (lo + w) + v % 2 ^ (lo + w) := (Nat.div_add_mod' v _).symm
  have h8 : setBits v lo w x = (v / 2 ^ (lo + w) * 2 ^ w + x % 2 ^ w) * 2 ^ lo + v % 2 ^ lo := by
    have : v / 2 ^ (lo + w) * 2 ^ (lo + w) = v / 2 ^ (lo + w) * 2 ^ w * 2 ^ lo := by rw [pow_add]; ring
    unfold setBits; rw [add_mul]; omega
  have h4 : v % 2 ^ lo < 2 ^ lo := Nat.mod_lt _ (by positivity)
  rw [h8, bits, mul_comm _ (2 ^ lo), Nat.mul_add_div (by positivity), Nat.div_eq_of_lt h4, add_zero, mul_comm (_ / _), Nat.mul_add_mod]
  exact Nat.mod_mod _ _

theorem testBit_setBits (v lo w x j : Nat) :
    (setBits v lo w x).testBit j = if lo ≤ j ∧ j < lo + w then x.testBit (j - lo) else v.testBit j := by
  have h1 : v % 2 ^ (lo + w) = v % 2 ^ lo + bits v lo w * 2 ^ lo := by
    rw [pow_add, Nat.mod_mul, bits]; ring
  have h2 : v = v / 2 ^ (lo + w) * 2 ^ (lo + w) + v % 2 ^ (lo + w) := (Nat.div_add_mod' v _).symm
  have h8 : setBits v lo w x = 2 ^ lo * (2 ^ w * (v / 2 ^ (lo + w)) + x % 2 ^ w) + v % 2 ^ lo := by
    have : v / 2 ^ (lo + w) * 2 ^ (lo + w) = 2 ^ lo * (2 ^ w * (v / 2 ^ (lo + w))) := by rw [pow_add]; ring
    unfold setBits; rw [mul_add, mul_comm (2 ^ lo) (x % 2 ^ w)]; omega
  have h4 : v % 2 ^ lo < 2 ^ lo := Nat.mod_lt _ (by positivity)
  have h3 : x % 2 ^ w < 2 ^ w := Nat.mod_lt _ (by positivity)
  rw [h8, Nat.testBit_two_pow_mul_add _ h4]
  by_cases a : j < lo
  · rw [if_pos a, if_neg (by omega), Nat.testBit_mod_two_pow]; simp [a]
  · rw [if_neg a, Nat.testBit_two_pow_mul_add _ h3]
    by_cases b : j - lo < w
    · rw [if_pos b, if_pos (by omega), Nat.testBit_mod_two_pow]; simp [b]
    · rw [if_neg b, if_neg (by omega), Nat.testBit_div_two_pow]; congr 1; omega

theorem testBit_bits (v lo w j : Nat) : (bits v lo w).testBit j = (decide (j < w) && v.testBit (j + lo)) := by
  rw [bits, Nat.testBit_mod_two_pow, Nat.testBit_div_two_pow]

/-- A field of a number after another field is replaced. -/
theorem bits_setBits_disjoint (v lo w x lo' w' : Nat) (h : lo + w ≤ lo' ∨ lo' + w' ≤ lo) :
    bits (setBits v lo w x) lo' w' = bits v lo' w' := by
  apply Nat.eq_of_testBit_eq
  intro j
  rw [testBit_bits, testBit_bits, testBit_setBits]
  by_cases hj : j < w'
  · rw [if_neg (by omega)]
  · simp [hj]

/-- The field a `setFld` writes. -/
theorem fld_setFld_same (s : State) (o lo w v : Nat) (h : lo + w ≤ 32) : (s.setFld o lo w v).fld' o lo w = v % 2 ^ w := by
  simp only [State.fld', State.setFld, reg_setReg_same, fieldOf, BitVec.toNat_ofNat]
  rw [Nat.mod_eq_of_lt (setBits_lt (s.reg o).isLt h)]
  exact bits_setBits_same _ _ _ _

/-- A `setFld` leaves the other fields of its register alone. -/
theorem fld_setFld_disjoint (s : State) (o lo w v lo' w' : Nat) (hw : lo + w ≤ 32) (h : lo + w ≤ lo' ∨ lo' + w' ≤ lo) :
    (s.setFld o lo w v).fld' o lo' w' = s.fld' o lo' w' := by
  simp only [State.fld', State.setFld, reg_setReg_same, fieldOf, BitVec.toNat_ofNat]
  rw [Nat.mod_eq_of_lt (setBits_lt (s.reg o).isLt hw)]
  exact bits_setBits_disjoint _ _ _ _ _ _ h

/-- A `setFld` leaves every other register alone. -/
theorem reg_setFld_ne (s : State) {o o' : Nat} (lo w v : Nat) (h : o' ≠ o) : (s.setFld o lo w v).reg o' = s.reg o' :=
  reg_setReg_ne _ _ h

theorem fld_setFld_ne (s : State) {o o' : Nat} (lo w v lo' w' : Nat) (h : o' ≠ o) :
    (s.setFld o lo w v).fld' o' lo' w' = s.fld' o' lo' w' := by
  simp only [State.fld', reg_setFld_ne s lo w v h]

@[simp] theorem bit_setBit_same (s : State) (o b : Nat) (v : Bool) (h : b < 32) : (s.setBit o b v).bit o b = v := by
  unfold State.bit State.setBit
  rw [fld_setFld_same _ _ _ _ _ (by omega)]
  cases v <;> rfl

/-- Bits of one register are set apart from one another. -/
theorem bit_setBit_other (s : State) (o : Nat) {b b' : Nat} (v : Bool) (hb : b < 32) (h : b' ≠ b) :
    (s.setBit o b v).bit o b' = s.bit o b' := by
  unfold State.bit State.setBit
  rw [fld_setFld_disjoint _ _ _ _ _ _ _ (by omega) (by omega)]

theorem bit_setBit_ne (s : State) {o o' : Nat} (b b' : Nat) (v : Bool) (h : o' ≠ o) : (s.setBit o b v).bit o' b' = s.bit o' b' := by
  simp only [State.bit, State.setBit, fld_setFld_ne s _ _ _ _ _ h]

theorem reg_setBit_ne (s : State) {o o' : Nat} (b : Nat) (v : Bool) (h : o' ≠ o) : (s.setBit o b v).reg o' = s.reg o' :=
  reg_setFld_ne _ _ _ _ h

/-- The status code a command leaves in its status register. -/
theorem fld_status (s : State) (o code : Nat) (h : code < 256) : (s.status o code).fld' o 0 8 = code := by
  unfold State.status
  rw [fld_setFld_same _ _ _ _ _ (by omega)]
  exact Nat.mod_eq_of_lt h

/-! ### Memory -/

/-- A byte read after bytes are stored. -/
theorem byteAt_store (s : State) (bs : List Byte) (a x : Nat) :
    (s.store a bs).byteAt x = if h : a ≤ x ∧ x < a + bs.length then bs[x - a]'(by omega) else s.byteAt x := by
  suffices H : ∀ (bs : List Byte) (m : SMap Byte) (a : Nat), SMap.get 0 (memStore m a bs) x
      = if h : a ≤ x ∧ x < a + bs.length then bs[x - a]'(by omega) else SMap.get 0 m x from H bs s.mem a
  intro bs
  induction bs with
  | nil => intro m a; simp [memStore]
  | cons b bs ih =>
    intro m a
    rw [memStore, ih, SMap.get_put 0 m a b 0 x (fun _ => rfl)]
    by_cases h1 : x = a
    · subst h1; simp
    · by_cases h2 : a + 1 ≤ x ∧ x < a + 1 + bs.length
      · have h3 : a ≤ x ∧ x < a + (b :: bs).length := by simp; omega
        rw [dif_pos h2, dif_pos h3]
        have h4 : x - a = (x - (a + 1)) + 1 := by omega
        simp [h4]
      · have h3 : ¬ (a ≤ x ∧ x < a + (b :: bs).length) := by simp; omega
        rw [dif_neg h2, dif_neg h3, if_neg h1]

/-- A store leaves every byte outside it as it was. -/
theorem byteAt_store_out (s : State) (bs : List Byte) (a x : Nat) (h : x < a ∨ a + bs.length ≤ x) :
    (s.store a bs).byteAt x = s.byteAt x := by
  rw [byteAt_store, dif_neg (by omega)]

theorem SMap.find?_filter (β : Type) (m : SMap β) (p : Nat → Bool) (k : Nat) :
    SMap.find? (m.filter (fun q => p q.1)) k = if p k then SMap.find? m k else none := by
  induction m with
  | nil => simp [SMap.find?]
  | cons q m ih =>
    obtain ⟨j, v⟩ := q
    by_cases hk : k = j
    · subst hk
      by_cases hp : p k
      · simp [SMap.find?, hp]
      · simpa [SMap.find?, hp] using ih
    · by_cases hp : p j
      · simp [SMap.find?, hp, hk, ih]
      · simp [SMap.find?, hp, hk, ih]

/-- A byte read after a range is filled with zero. -/
theorem byteAt_zero (s : State) (a n x : Nat) : (s.zero a n).byteAt x = if a ≤ x ∧ x < a + n then 0 else s.byteAt x := by
  unfold State.zero State.byteAt memZero SMap.get
  have := SMap.find?_filter Byte s.mem (fun k => decide (k < a) || decide (a + n ≤ k)) x
  simp only at this ⊢
  rw [this]
  by_cases h : a ≤ x ∧ x < a + n
  · have h1 : ¬ x < a := by omega
    have h2 : ¬ a + n ≤ x := by omega
    simp [h1, h2]
  · have h1 : x < a ∨ a + n ≤ x := by omega
    simp only [Bool.or_eq_true, decide_eq_true_eq, h1, if_true, if_neg h]

/-! ### The canonical form -/

theorem memStore_wf (bs : List Byte) (m : SMap Byte) (a : Nat) (h : SMap.wf (fun _ => 0) m = true) :
    SMap.wf (fun _ => 0) (memStore m a bs) = true := by
  induction bs generalizing m a with
  | nil => exact h
  | cons b bs ih => exact ih _ _ (SMap.wf_put a b h)

theorem memZero_wf (m : SMap Byte) (a n : Nat) (h : SMap.wf (fun _ => 0) m = true) : SMap.wf (fun _ => 0) (memZero m a n) = true :=
  SMap.wf_filter _ h

end Sys2Proof.Machine
end

