-- ==== Sys2Proof/Laws/Canonical.lean ====
section
/-! SUPPORT. Laws/Canonical.lean: the canonical form of memory and register file is kept by every operation that writes one of them, and by the
shared operations built on those; a fold of operations that keep it keeps it. -/

namespace Sys2Proof.Machine

theorem canon_foldl {α : Type} (f : State → α → State) (l : List α) (s : State) (h : s.Canonical)
    (hf : ∀ s a, s.Canonical → (f s a).Canonical) : (l.foldl f s).Canonical := by
  induction l generalizing s with
  | nil => exact h
  | cons a l ih => exact ih _ (hf _ _ h)

theorem canon_foldl_pair {α β : Type} (f : β × State → α → β × State) (l : List α) (p : β × State) (h : p.2.Canonical)
    (hf : ∀ p a, p.2.Canonical → (f p a).2.Canonical) : (l.foldl f p).2.Canonical := by
  induction l generalizing p with
  | nil => exact h
  | cons a l ih => exact ih _ (hf _ _ h)

theorem canon_congr {s t : State} (h : s.Canonical) (hm : t.mem = s.mem) (hr : t.regs = s.regs) : t.Canonical := by
  unfold State.Canonical; rw [hm, hr]; exact h

theorem canon_setReg (s : State) (off : Nat) (v : W32) (h : s.Canonical) : (s.setReg off v).Canonical := ⟨h.1, SMap.wf_put _ _ h.2⟩

theorem canon_setFld (s : State) (off lo w v : Nat) (h : s.Canonical) : (s.setFld off lo w v).Canonical := canon_setReg _ _ _ h

theorem canon_setBit (s : State) (off b : Nat) (v : Bool) (h : s.Canonical) : (s.setBit off b v).Canonical := canon_setReg _ _ _ h

theorem canon_status (s : State) (off code : Nat) (h : s.Canonical) : (s.status off code).Canonical := canon_setReg _ _ _ h

theorem canon_countSat (s : State) (off lo w n : Nat) (h : s.Canonical) : (s.countSat off lo w n).Canonical := canon_setReg _ _ _ h

theorem canon_setRegBytes (s : State) (off : Nat) (bs : List Byte) (h : s.Canonical) : (s.setRegBytes off bs).Canonical := by
  induction s, off, bs using State.setRegBytes.induct with
  | case1 s off a b c d bs ih => unfold State.setRegBytes; exact ih (canon_setReg _ _ _ h)
  | case2 s off l hl => rw [State.setRegBytes]; exact h; exact hl

theorem canon_regsAfter (s : State) (h : s.Canonical) (f g : Nat → Bool) : RegFile.wf (s.regsAfter f g) = true := SMap.wf_filter _ h.2

theorem canon_clearRegs (s : State) (lo hi : Nat) (h : s.Canonical) : (s.clearRegs lo hi).Canonical := ⟨h.1, SMap.wf_filter _ h.2⟩

theorem canon_store (s : State) (a : Nat) (bs : List Byte) (h : s.Canonical) : (s.store a bs).Canonical := ⟨memStore_wf bs s.mem a h.1, h.2⟩

theorem canon_zero (s : State) (a n : Nat) (h : s.Canonical) : (s.zero a n).Canonical := ⟨memZero_wf s.mem a n h.1, h.2⟩

theorem canon_wipe (s : State) (a n : Nat) (h : s.Canonical) : (s.wipe a n).Canonical := canon_zero s a n h

theorem canon_poke (s : State) (a n v : Nat) (h : s.Canonical) : (s.poke a n v).Canonical := canon_store _ _ _ h

theorem canon_emit (s : State) (o : Out) (h : s.Canonical) : (s.emit o).Canonical := h

theorem canon_failHost (s : State) (c : Cpl) (h : s.Canonical) : (s.failHost c).Canonical := h

theorem canon_event (s : State) (source sev code status : Nat) (data : List Byte) (h : s.Canonical) :
    (s.event source sev code status data).Canonical := h

theorem canon_refuseAccess (s : State) (x : Option Nat) (id : Nat) (k : Kind) (a : Nat) (h : s.Canonical) :
    (s.refuseAccess x id k a).Canonical := by
  unfold State.refuseAccess State.fencedSpeaker
  grind [canon_event, canon_countSat, State.Canonical]

theorem canon_darkAccess (s : State) (h : s.Canonical) : s.darkAccess.Canonical := canon_setBit _ _ _ _ (canon_countSat _ _ _ _ _ h)

theorem canon_hostAccessN (s : State) (k : Kind) (off n : Nat) (f : State → State) (h : s.Canonical) (hf : (f s).Canonical) :
    (s.hostAccessN k off n f).Canonical := by
  unfold State.hostAccessN
  grind [canon_emit, canon_failHost, canon_refuseAccess, canon_darkAccess]

theorem canon_unlessBusy (s : State) (st b : Nat) (f : State → State) (h : s.Canonical) (hf : (f s).Canonical) :
    (s.unlessBusy st b f).Canonical := by
  unfold State.unlessBusy
  grind [canon_status]

end Sys2Proof.Machine
end

