-- ==== Sys2Proof/Laws/Host.lean ====
section
/-! SUPPORT. Laws/Host.lean: what a host access does where it reaches its register. -/

namespace Sys2Proof.Machine

/-- A host access that reaches its registers has its effect and no other. -/
theorem hostAccessN_open {s : State} {k : Kind} {off n : Nat} (h : s.hostOpenN k off n = true) (f : State → State) :
    s.hostAccessN k off n f = f s := by
  simp only [State.hostOpenN, Bool.and_eq_true, Bool.not_eq_true', Option.isNone_iff_eq_none] at h
  obtain ⟨⟨⟨⟨h1, h2⟩, h3⟩, h4⟩, h5⟩ := h
  simp [State.hostAccessN, h1, h2, h3, h4, h5]

theorem hostAccess_open {s : State} {k : Kind} {off : Nat} (h : s.hostOpen k off = true) (f : State → State) :
    s.hostAccess k off f = f s := hostAccessN_open h f

theorem hostCmd_open {s : State} {off : Nat} (h : s.hostOpen .command off = true) (f : State → State) :
    s.hostCmd off f = f s := hostAccessN_open h f

theorem hostReg_free {s : State} {off : Nat} (h : s.hostFree off = true) (f : State → State) : s.hostReg off f = f s := by
  simp only [State.hostFree, Bool.and_eq_true, Bool.not_eq_true'] at h
  simp [State.hostReg, hostAccess_open h.1, h.2]

end Sys2Proof.Machine
end

