-- ==== Sys2Proof/Laws/Tables.lean ====
section
/-! SUPPORT. Laws/Tables.lean: what is read back from the typed tables of the state after an entry of one has been written, the entry itself
and every other. -/

namespace Sys2Proof.Machine

variable (s : State)

@[simp] theorem slot_setSlot (n : Nat) (x : Slot) : (s.setSlot n x).slot n = x := by
  simp [State.slot, State.setSlot, SMap.get_put]

theorem slot_setSlot_ne {n m : Nat} (x : Slot) (h : m ≠ n) : (s.setSlot n x).slot m = s.slot m := by
  simp [State.slot, State.setSlot, SMap.get_put, h]

@[simp] theorem vrec_setVrec (n : Nat) (x : VRec) : (s.setVrec n x).vrec n = x := by
  simp [State.vrec, State.setVrec, SMap.get_put]

theorem vrec_setVrec_ne {n m : Nat} (x : VRec) (h : m ≠ n) : (s.setVrec n x).vrec m = s.vrec m := by
  simp [State.vrec, State.setVrec, SMap.get_put, h]

@[simp] theorem swPort_setSwPort (n : Nat) (x : SwPort) : (s.setSwPort n x).swPort n = x := by
  simp [State.swPort, State.setSwPort, SMap.get_put]

theorem swPort_setSwPort_ne {n m : Nat} (x : SwPort) (h : m ≠ n) : (s.setSwPort n x).swPort m = s.swPort m := by
  simp [State.swPort, State.setSwPort, SMap.get_put, h]

@[simp] theorem tile_setTile (n : Nat) (x : Tile) : (s.setTile n x).tile n = x := by
  simp [State.tile, State.setTile, SMap.get_put]

theorem tile_setTile_ne {n m : Nat} (x : Tile) (h : m ≠ n) : (s.setTile n x).tile m = s.tile m := by
  simp [State.tile, State.setTile, SMap.get_put, h]

@[simp] theorem sset_setSset (n : Nat) (x : StreamSet) : (s.setSset n x).sset n = x := by
  simp [State.sset, State.setSset, SMap.get_put]

theorem sset_setSset_ne {n m : Nat} (x : StreamSet) (h : m ≠ n) : (s.setSset n x).sset m = s.sset m := by
  simp [State.sset, State.setSset, SMap.get_put, h]

@[simp] theorem fcuOf_setFcu (n : Nat) (x : Fcu) : (s.setFcu n x).fcuOf n = x := by
  simp [State.fcuOf, State.setFcu, SMap.get_put]

theorem fcuOf_setFcu_ne {n m : Nat} (x : Fcu) (h : m ≠ n) : (s.setFcu n x).fcuOf m = s.fcuOf m := by
  simp [State.fcuOf, State.setFcu, SMap.get_put, h]

@[simp] theorem fifo_setFifo (n : Nat) (x : XFifo) : (s.setFifo n x).fifo n = x := by
  simp [State.fifo, State.setFifo, SMap.get_put]

theorem fifo_setFifo_ne {n m : Nat} (x : XFifo) (h : m ≠ n) : (s.setFifo n x).fifo m = s.fifo m := by
  simp [State.fifo, State.setFifo, SMap.get_put, h]

@[simp] theorem lane_setLane (n : Nat) (x : Lane) : (s.setLane n x).lane n = x := by
  simp [State.lane, State.setLane, SMap.get_put]

theorem lane_setLane_ne {n m : Nat} (x : Lane) (h : m ≠ n) : (s.setLane n x).lane m = s.lane m := by
  simp [State.lane, State.setLane, SMap.get_put, h]

@[simp] theorem linkPort_setLinkPort (n : Nat) (x : LinkPort) : (s.setLinkPort n x).linkPort n = x := by
  simp [State.linkPort, State.setLinkPort, SMap.get_put]

theorem linkPort_setLinkPort_ne {n m : Nat} (x : LinkPort) (h : m ≠ n) : (s.setLinkPort n x).linkPort m = s.linkPort m := by
  simp [State.linkPort, State.setLinkPort, SMap.get_put, h]

@[simp] theorem lport_setLport (n : Nat) (x : LinkPort) : (s.setLport n x).lport n = x := by
  simp [State.lport, State.setLport, SMap.get_put]

theorem lport_setLport_ne {n m : Nat} (x : LinkPort) (h : m ≠ n) : (s.setLport n x).lport m = s.lport m := by
  simp [State.lport, State.setLport, SMap.get_put, h]

@[simp] theorem calOf_setCal (n : Nat) (x : Cal) : (s.setCal n x).calOf n = x := by
  simp [State.calOf, State.setCal, SMap.get_put]

theorem calOf_setCal_ne {n m : Nat} (x : Cal) (h : m ≠ n) : (s.setCal n x).calOf m = s.calOf m := by
  simp [State.calOf, State.setCal, SMap.get_put, h]

@[simp] theorem vc_setVc (p c : Nat) (x : CamVc) : (s.setVc p c x).vc p c = x := by
  simp [State.vc, State.setVc, SMap.get_put]

theorem vc_setVc_ne {p c q d : Nat} (x : CamVc) (h : 16 * q + d ≠ 16 * p + c) : (s.setVc p c x).vc q d = s.vc q d := by
  simp [State.vc, State.setVc, SMap.get_put, h]

end Sys2Proof.Machine
end

