-- ==== Sys2Proof/WellFormed.lean ====
section
/-! DEFINITION. WellFormed.lean: the commands whose operands have the sizes the manual gives them. A command that is not well formed
stands for nothing the device can meet. -/

namespace Sys2Proof

/-- Data bytes of a CAN frame format (R97). -/
def CanFmt.maxData : CanFmt → Nat
  | .classical => 8
  | .fd => 64
  | .xl => 2048

/-- A location a scrubber can name: a DRAM line, or a byte of one of the arrays of Table 12.1. -/
def memLocOk : MemLoc → Bool
  | .dram line => decide (line < 0x24000000)
  | .sram array _ => decide (array ≤ 38)

/-- A command is well formed: Table 5.5 (tile commands), Table 9.1 (batches), Table 8.2 (detections), Table 8.1 (Fold
records), Table 4.6 (ego records), R97 (CAN data), R20 (host writes carry their bytes). -/
def Instr.wf : Instr → Bool
  | .hostBar2Request write _ len data => !write || data.length == len
  | .onDieTransaction t => t.kind == .read || t.data.length == t.len
  | .registerWrite _ _ _ _ => true
  | .gptpSync _ => true
  | .gptpSyncMonitored _ => true
  | .gptpAnnounce _ _ => true
  | .gptpPdelay _ _ => true
  | .syncReceiptTimeout => true
  | .holdoverMaxExpiry => true
  | .timeBlockSend => true
  | .timeBlock _ _ => true
  | .timeBlockTimeout => true
  | .delayRequestSend _ => true
  | .delayRequest _ _ => true
  | .delayResponse _ _ => true
  | .ppsOutRise => true
  | .ppsOutFall => true
  | .ppsInEdge _ => true
  | .ppsInTimeout => true
  | .timeSnapshot => true
  | .timeSet => true
  | .workDomWrite _ => true
  | .tbuSrcWrite _ => true
  | .csiFrameStart _ _ _ => true
  | .csiImageLine _ _ line => line.data.length ≤ 65535
  | .csiEmbeddedData _ _ line => line.data.length ≤ 65535
  | .csiFrameEnd _ _ => true
  | .csiLineMarker _ _ _ => true
  | .csiUnboundPacket _ _ _ => true
  | .csiBadHeader _ => true
  | .ethFrameReceived _ f => 64 ≤ f.len && f.payload.length ≤ f.len
  | .ethFrameTransmit _ => true
  | .tasGateEvent _ => true
  | .pointPacket d => d.payload.length ≤ 65507
  | .partnerList d => d.payload.length ≤ 65507
  | .canMessage _ m => m.data.length ≤ m.fmt.maxData
  | .canErrorFrame _ => true
  | .canBusOff _ => true
  | .canBusRecovery _ => true
  | .imuDrdyEdge _ _ => true
  | .imuResponse _ _ => true
  | .imuDrdyMiss _ => true
  | .sqiDegraded _ _ => true
  | .slotSilence _ => true
  | .partnerLeave _ => true
  | .quarantineHoldEnd _ => true
  | .admission _ => true
  | .slotRelease _ => true
  | .slotReadmit _ => true
  | .slotQuarantine _ => true
  | .patchDue _ => true
  | .patchInject _ => true
  | .patchEvaluation _ _ _ => true
  | .fcuClusterEmit _ => true
  | .pointDeskew => true
  | .deskewHoldResume => true
  | .deskewExtrapolate => true
  | .depthImageClose _ => true
  | .gridFrameClose => true
  | .calEstimate _ _ => true
  | .calReset _ => true
  | .freeze _ => true
  | .unfreeze _ => true
  | .egoKeyframe _ => true
  | .egoSmootherResult r => r.pos.length == 3 && r.vel.length == 3 && r.att.length == 3 && r.bias.length == 6 && r.older.all (fun v => v.length == 15)
  | .egoHoldTimeout => true
  | .egoRecordSnapshot => true
  | .tileCommandEnqueue _ _ _ desc => desc.length == 64
  | .matmul _ _ => true
  | .conv _ _ => true
  | .vector _ _ => true
  | .kernel _ _ => true
  | .attend _ _ => true
  | .sync _ => true
  | .bist _ _ => true
  | .tileCommandComplete _ => true
  | .tileDeadline _ => true
  | .tileHeartbeatMiss _ => true
  | .spareWakeDone => true
  | .spareBistDone _ => true
  | .spareLoadDone => true
  | .tileInject _ _ => true
  | .tileDoorbell _ => true
  | .offlineBistRequest _ => true
  | .offlineBistDone _ => true
  | .descCreate _ => true
  | .descDestroy _ => true
  | .signalRaise _ _ => true
  | .setTriggerIngress _ _ _ => true
  | .setTriggerStep _ => true
  | .setTriggerSignal _ => true
  | .setTriggerOnce _ => true
  | .setTransferDone _ => true
  | .setTransferDeadline _ => true
  | .shadowWrite _ _ _ => true
  | .setCommit _ => true
  | .programGo _ => true
  | .programAbort _ => true
  | .move _ => true
  | .loop _ => true
  | .wait _ => true
  | .signal _ => true
  | .fence _ => true
  | .endProgram _ => true
  | .moveDone _ _ => true
  | .waitTimeout _ => true
  | .openSeq _ _ _ _ => true
  | .fallow _ _ => true
  | .activate _ _ => true
  | .close _ _ => true
  | .dropOldest _ _ _ => true
  | .dropAll _ _ => true
  | .addPage _ _ _ => true
  | .flockCreate _ _ _ _ => true
  | .setQuota _ _ _ _ => true
  | .disableFlock _ _ => true
  | .kvAppend _ _ _ _ => true
  | .reclaimer => true
  | .walkStart _ _ _ => true
  | .walkEnd _ => true
  | .ingestCutoff => true
  | .detectionReady d => d.bytes.length == 128
  | .trackConfirmTimeout _ => true
  | .trackCoastTimeout _ => true
  | .trackFallowTimeout _ => true
  | .fallowMaxTimeout _ => true
  | .kill _ => true
  | .clearContra _ => true
  | .contraDecay => true
  | .batchSubmit _ desc => desc.length == 64
  | .bseDoorbell => true
  | .problemStart _ => true
  | .problemDone _ r => r.cut.getD 0 ≤ 64
  | .batchCutoff _ => true
  | .batchDone _ => true
  | .bseInject _ => true
  | .runStart => true
  | .runStop => true
  | .cycleStopped => true
  | .stageOpen _ => true
  | .stageClose _ w => w.phases ≤ 15
  | .stageComplete _ => true
  | .windowWatchdogTimeout _ _ => true
  | .publicationStart => true
  | .csSegmentSent => true
  | .cadenceRequest _ => true
  | .cadenceSwitch => true
  | .ringConsWrite _ => true
  | .pfifoRead _ => true
  | .load => true
  | .loadEnd => true
  | .abort => true
  | .rbAdvance => true
  | .rbAdvanceDone => true
  | .unload => true
  | .resumeDone => true
  | .memFillDone _ _ => true
  | .scrubRead loc => memLocOk loc
  | .islandScrubRead _ bits => bits ≤ 8
  | .scrubAdaptPeriod => true
  | .ceRateReport => true
  | .retireAdd => true
  | .memInject _ => true
  | .fifoWrite _ _ => true
  | .fifoFlush _ => true
  | .fifoRead _ => true
  | .lockstepMismatch _ => true
  | .pairRestartDone _ => true
  | .islandPairMiss _ => true
  | .conditionHoldExpiry _ => true
  | .force _ => true
  | .release => true
  | .restart => true
  | .fbCluster _ => true
  | .fbMotionSample _ => true
  | .fbPartnerList _ _ => true
  | .fbTrackTimeout _ => true
  | .hbToggle => true
  | .safeReqChange _ => true
  | .linkLock _ => true
  | .linkCtl _ _ _ => true
  | .linkReplayTimeout _ => true
  | .hello _ _ m => m.posX < 8 && m.posY < 8
  | .echo _ _ _ _ => true
  | .feat _ _ _ => true
  | .epoch _ _ _ => true
  | .deltaRec _ _ recs => recs.all (fun r => r.bytes.length == 256)
  | .deltaKv _ _ items => items.all (fun k => k.bytes.length ≤ 512)
  | .deltaSeq _ _ _ => true
  | .stepEnd _ _ m => m.ego.length == 64 && m.seqs.length == 3
  | .deltaAck _ _ => true
  | .syncData _ _ c => c.bytes.length == 256
  | .handoff _ _ _ => true
  | .detFwd _ _ dets => dets.all (fun d => d.bytes.length == 128)
  | .detClaim _ _ _ => true
  | .hand _ _ c => c.bytes.length == 256
  | .handAck _ _ _ _ => true
  | .handAbort _ _ _ => true
  | .listFrame _ _ bytes => bytes.length ≤ 8192
  | .stepEndTimeout => true
  | .deltaAckTimeout => true
  | .memberTimeout _ => true
  | .bellwetherTimeout => true
  | .handAckDeadline _ => true
  | .handAbortDeadline _ => true
  | .handRetryExpiry _ => true
  | .borderHoldExpiry => true
  | .switchover => true
  | .handoffStep => true
  | .resync => true
  | .portReadmit _ => true
  | .mringConsWrite _ _ => true
  | .importKey => true
  | .clearKey => true
  | .bind => true
  | .unbind => true
  | .selectTx => true
  | .challenge => true
  | .unlock => true
  | .revoke => true
  | .reprovision => true
  | .provision => true
  | .attest => true
  | .zeroise => true
  | .secCommandComplete => true
  | .alarmTrip _ => true
  | .trngHealthFail => true
  | .alarmPolicyWrite _ => true
  | .standby => true
  | .wake => true
  | .sentinel _ => true
  | .powerTransitionDone => true
  | .tc10Wake => true
  | .canWake _ _ => true
  | .wakeTimerExpiry => true
  | .warm => true
  | .accel => true
  | .tileReset _ => true
  | .porNAssert => true
  | .porNRelease _ _ => true
  | .warmNAssert _ => true
  | .perstAssert => true
  | .perstRelease => true
  | .deviceReady => true
  | .pllLock _ => true
  | .tileDomainReady _ => true
  | .xtal32kStable => true
  | .thermalNear _ => true
  | .go => true
  | .featureUnlock => true
  | .eventLogEntry => true
  | .evtConsWrite _ => true
  | .evtCfgWrite _ => true
  | .evtLastSnapshot => true
  | .sigmapWrite _ _ => true
  | .msixModerationEnd => true
  | .msixUnmask _ => true
  | .busMasterEnable => true
  | .d3hotEntry => true
  | .d3hotExit => true
  | .l1EntryRequest => true
  | .functionLevelReset => true
  | .pdelayReqSend _ => true
  | .gmSyncSend _ => true
  | .linkDown _ => true
  | .ethLinkChange _ _ => true
  | .pcieLinkUp => true
  | .suppliesInRange => true
  | .suppliesRemoved => true
  | .fbDeadReckoningLost => true

end Sys2Proof
end

