-- ==== Sys2Proof/Tests/Slice0.lean ====
section
/-! SUPPORT. Tests/Slice0.lean: for each obligation a witness that its hypotheses can hold together, clause by clause; the ill-formed
commands that `Instr.wf` refuses; and small tests whose expected results the manual states. -/

set_option maxRecDepth 100000

namespace Sys2Proof.Tests

open Sys2Proof Sys2Proof.Machine

/-! ### Small states and operands -/

/-- Bytes with some fields set: (offset, width, value), little-endian. -/
def mk (n : Nat) (l : List (Nat × Nat × Nat)) : List Byte :=
  l.foldl (fun b (o, w, v) => b.take o ++ leBytes w v ++ b.drop (o + w)) (List.replicate n 0)

/-- Some registers written in front of a state's register file. -/
def wr (r : SMap W32) (s : State) : State := { s with regs := r ++ s.regs }

/-- A device that has started: every domain powered, the host's link up, power state Idle. -/
def up : State :=
  { State.reset with
    regs := [(Reg.HIF_STATUS, 0x201), (Reg.AON_DOM 0, 0xFFFFFFFF), (Reg.AON_DOM 1, 0xFFFFFFFF),
      (Reg.AON_DOM 2, 0xFFFFFFFF), (Reg.AON_DOM 3, 0xFFFFFFFF)]
    hif := { linkUp := true, perstLow := false }
    aon := { porLow := false, booting := false, xtalOk := true } }

/-- `up` with hurdle rules of an image that admit every access. -/
def wide : State :=
  { up with saf := { built := false, rules := (List.range 38).map (fun h => { h := h, idLo := 0, idHi := 0x3FF, kinds := 7, base := 0, limit := 0xFFFFFFFFFFFF }) } }

/-- A sensor slot in PRESENT with driver bytes from offset 64 on. -/
def slotOf (l : List (Nat × Nat × Nat)) : Slot := { record := mk 128 (l.map (fun (o, w, v) => (64 + o, w, v))), st := .present }

/-- `s` with one sensor slot. -/
def withSlot (n : Nat) (x : Slot) (s : State) : State := { s with sic := { s.sic with slots := [(n, x)] } }

def ann : Announce := { priority1 := 1, clockClass := 6, accuracy := 0x21, variance := 0, priority2 := 1, identity := 1, steps := 0, port := 0 }

/-- A Sync on switch port 0 captured at `raw`. -/
def sm (raw : Time) : SyncMsg := { port := 0, t1 := 0, correction := 0, raw := raw, utcOffset := 0 }

/-- The time base on domain A, both domains with a grandmaster. -/
def timed : State := { wr [(Reg.TBU_CTRL, 1)] up with tbu := { domA := { best := some ann }, domB := { best := some ann }, first := true } }

/-- `s` as a member of a group. -/
def memberOf (s : State) : State := wr [(Reg.SLK_CTRL, 3), (Reg.SLK_DEVNO, 1), (Reg.SLK_PORT_CFG, 0x111111)] s

/-- `s` with link port 5 in a phase of its bring-up, and a role. -/
def linkAt (role phase : Nat) (x : LinkPort) (s : State) : State :=
  { wr [(Reg.SLK_CTRL, 3), (Reg.SLK_PORT_CFG, 0x111111)] s with slk := { s.slk with role := role, ports := [(5, { x with up := true, phase := phase })] } }

/-- A frame header in form, from device `src`. -/
def hdr (src : BitVec 6) (seq : BitVec 32) : LinkHdr :=
  { flags := 0, len := 0, srcDev := src, dstDev := 0, all := true, epoch := 0, lseq := seq, step := 0, hcrcOk := true, pcrcOk := true,
    reservedZero := true, lenOk := true }

def frame (ok : Bool) (len : Nat) : EthFrame :=
  { raw := 0, dmac := 1, smac := 2, vlan := 3, pcp := 7, etype := 0x0800, udp := 5, len := len, fcsOk := ok, sec := none, rseq := none, payload := [] }

def tileOn (n : Nat) (x : Tile) (s : State) : State := { s with tca := { s.tca with tiles := [(n, x)] } }
def stageOf (op : Nat) : Tile := { st := .active, stageQ := [⟨0x65, [BitVec.ofNat 8 op], 0⟩] }
def setOf (ctl : SMap W32) (x : StreamSet) : State := { wr ctl up with dml := { sets := [(15, x)] } }
def chanOf (x : Chan) : State := { up with dml := { chans := [(15, x)], owner := [(15, idHost)] } }
/-- A tensor of 32 INT8 values at address 0. -/
def desc : List Byte := mk 64 [(12, 4, 32), (16, 1, 1), (18, 1, 1), (20, 2, 32)]
/-- A solver program of at most 32 unknowns, 64 bytes a problem and a result, and a batch of one problem at address 0. -/
def solver : List Byte := mk 32 [(2, 1, 32), (3, 1, 32), (4, 2, 1), (6, 2, 1)]
def batchB : List Byte := mk 64 [(2, 2, 1), (6, 2, 0xFFFF), (16, 8, 64), (50, 1, 1)]
def batch (p : ProbSt) : Batch := { desc := batchB, id := idHost, tag := 255, probs := [p], seq := 7 }
def solving (b : Batch) (s : State) : State := { s with mem := [(4, 2)], bse := { progs := [(0, solver)], batches := [b], lanes := [(31, { run := some (7, 0) })] } }
/-- Sequence 0 in state `st` with `pages` pages, its page table at 0x1000, its page at 0x2000. -/
def seqMem (st pages : Byte) : SMap Byte := [(5, st), (6, pages), (9, 0x10), (0x1000, 16)]
def inMem (m : SMap Byte) (s : State) : State := { s with mem := m }
/-- A step being worked on, with so many stages opened and closed. -/
def stepAt (o c : Nat) : State := { up with csq := { cur := { active := true, opened := List.range o, closed := List.range c } } }
def sched : Sched := { cadence := 10000, cutoff := 1000, win := [] }
def evt : Evt := { time := 0, source := 2, sev := 1, code := 3, status := 0, data := [] }
/-- A point packet of one cartesian point, SEQ 1, and a partner list of no record, SEQ 1. -/
def packet : List Byte :=
  let b := mk 52 [(0, 4, 0x48504B31), (4, 1, 1), (6, 2, 1), (8, 4, 1), (14, 2, 1), (24, 4, 1)]
  b.take 36 ++ leBytes 4 (crc32c (b.take 36 ++ b.drop 40)).toNat ++ b.drop 40
def plist : List Byte :=
  let b := mk 128 [(0, 4, 0x48464C31), (4, 1, 1), (6, 1, 1), (32, 4, 1), (42, 1, 1)]
  b ++ leBytes 4 (crc32c b).toNat
/-- A detection of one measured value from slot 255. -/
def detB : List Byte := mk 128 [(8, 1, 255), (16, 1, 1)]
/-- A path whose patch waits for its retest in a later step. -/
def path9 : PatchPath := { injected := some 0, retest := true, badStep := 9 }
/-- The filter of CAN controller 2 that accepts identifier 0x123 for slot 200. -/
def filter200 : CanFilter := { ctl := 2, id := 0x123, mask := 0x1FFFFFFF, slot := 200 }
def outcome : ProblemOutcome := { cut := none, badInput := false, lane := .none }
def box : DetBox := { frame := 0, u0 := 0, u1 := 0, v0 := 0, v1 := 0, range := 0 }
def locked1 (b : W32) (s : State) : State := wr [(Reg.HIF_FEAT_ST, 0x20000), (Reg.HIF_FEAT_DRV 0, b)] s
def withFifo (k : Nat) : State := { up with saf := { fifos := [(k, { drain := [⟨5, 0⟩] })] } }
/-- One cluster record waits in its FIFO. -/
def clusters : State := { up with saf := { fifos := [(31, { drain := List.replicate 4 ⟨0, 0⟩ })] } }
def txn (k : Kind) (bad : Bool) (len : Nat) : BusTxn := { id := 0x0C0, kind := k, space := .dev, addr := 0xFE0, len := len, data := [], disagree := bad }
/-- The four checks of the handshake, as the obligation writes them. -/
def featFails (s : State) (check k : Nat) : Bool :=
  match check with
  | 1 => s.featDrv.testBit k && !s.featDev.testBit k
  | 2 => s.featMand.testBit k && !s.featDrv.testBit k
  | 3 => k == 6 && s.featDrv.testBit 6 && !s.featDrv.testBit 5
  | _ => s.featReq.testBit k && !s.featDrv.testBit k

/-! ### Witnesses, one theorem for each obligation, one line of values for each of its clauses -/

theorem witness_SyncWithinSlewLimitSteersServo :
  (∃ (m : SyncMsg) (s : State),
    s.powered 90 = true ∧ s.syncValid s.workDom m = true ∧ s.isMember = false ∧ s.tbuSrc = 0 ∧ s.bit Reg.TBU_CTRL 0 = true ∧ (s.syncOffset m).natAbs ≤ s.regN Reg.TBU_SLEW_LIMIT * nsT) :=
  ⟨sm 0, timed, by decide⟩

theorem witness_SyncBeyondSlewLimitStepsTime :
  (∃ (m : SyncMsg) (s : State),
    s.powered 90 = true ∧ s.syncValid s.workDom m = true ∧ s.isMember = false ∧ s.tbuSrc = 0 ∧ s.regN Reg.TBU_SLEW_LIMIT * nsT < (s.syncOffset m).natAbs ∧ s.csq.running = false) :=
  ⟨sm (10 * secT), timed, by decide⟩

theorem witness_GptpMessagesHaveTheirEffect :
  (∃ (m : SyncMsg) (s : State),
    s.powered 90 = true ∧ s.syncValid (otherDom s.workDom) m = true ∧ s.isMember = false ∧ s.tbuSrc = 0) ∧
  (∃ (d : Dom) (a : Announce) (s : State),
    s.powered 90 = true ∧ s.bit (domCfg d) 16 = false ∧ (s.dom d).best = none ∧ a.priority1 ≠ 255 ∧ s.fld' (domCfg d) 8 8 = 255) ∧
  (∃ (s : State),
    s.powered 90 = true) ∧
  (∃ (q : Fin 12) (s : State),
    s.powered 90 = true ∧ s.powered (70 + q.val) = true) ∧
  (∃ (d : Dom) (s : State),
    s.powered 90 = true ∧ (s.dom d).self = true ∧ s.powered 93 = true) :=
  ⟨⟨sm 0, timed, by decide⟩,
   ⟨.a, ann, wr [(Reg.TBU_DOMA_CFG, 0xFF00)] up, by decide⟩,
   ⟨up, by decide⟩,
   ⟨11, up, by decide⟩,
   ⟨.b, { up with tbu := { domB := { self := true } } }, by decide⟩⟩

theorem witness_LostSourceEntersHoldoverThenFreeRun :
  (∃ (s : State),
    s.powered 90 = true ∧ s.tbuSrc = 0 ∧ s.isMember = false ∧ (s.dom s.workDom).self = false ∧ s.coasting = false ∧ s.tbu.first = true) ∧
  (∃ (s : State),
    s.powered 90 = true ∧ s.isMember = true ∧ s.coasting = false ∧ s.tbu.first = true) ∧
  (∃ (s : State) (p : Time),
    s.tbu.lastPps = some p ∧ s.powered 90 = true ∧ s.tbuSrc = 1 ∧ s.isMember = false ∧ s.coasting = false ∧ s.tbu.first = true) ∧
  (∃ (s : State),
    s.powered 90 = true ∧ s.bit Reg.TBU_STATUS 3 = true) :=
  ⟨⟨timed, by decide⟩,
   ⟨memberOf timed, by decide⟩,
   ⟨{ wr [(Reg.TBU_CTRL, 5)] up with tbu := { lastPps := some 9, first := true } }, 9, by decide⟩,
   ⟨wr [(Reg.TBU_STATUS, 8)] up, by decide⟩⟩

theorem witness_TimeCrossesTheLink :
  (∃ (s : State),
    s.powered 90 = true ∧ s.isMember = false ∧ s.fld' Reg.SLK_CTRL 1 2 ≠ 0) ∧
  (∃ (p : Fin 6) (b : TimeBlock) (s : State),
    s.powered 90 = true ∧ s.isMember = true ∧ s.tbu.up = some p ∧ (s.lport p.val).up = true ∧ (s.lport p.val).held = false ∧ s.tbu.lastSent < b.sent) ∧
  (∃ (p : Fin 6) (s : State),
    (s.lport p.val).up = true ∧ (s.lport p.val).held = false) ∧
  (∃ (p : Fin 6) (s : State),
    (s.lport p.val).up = true ∧ (s.lport p.val).held = false) ∧
  (∃ (p : Fin 6) (x : DelayTimes) (s : State),
    (s.lport p.val).up = true ∧ (s.lport p.val).held = false ∧ 0 ≤ ((((s.capture (12 + p.val) x.t4 : Int) - s.stampOut (12 + p.val) x.t1) - ((x.t3 : Int) - x.t2)) / 2) ∧ ((((s.capture (12 + p.val) x.t4 : Int) - s.stampOut (12 + p.val) x.t1) - ((x.t3 : Int) - x.t2)) / 2) ≤ usT) :=
  ⟨⟨wr [(Reg.SLK_CTRL, 2)] up, by decide⟩,
   ⟨5, ⟨1, false, false, 0⟩, { memberOf up with tbu := { up := some 5 }, slk := { ports := [(5, { up := true })] } }, by decide⟩,
   ⟨5, { up with slk := { ports := [(5, { up := true })] } }, by decide⟩,
   ⟨5, { up with slk := { ports := [(5, { up := true })] } }, by decide⟩,
   ⟨5, ⟨0, 0, 0, 0⟩, { up with slk := { ports := [(5, { up := true })] } }, by decide⟩⟩

theorem witness_PpsEdgesHaveTheirEffect :
  (∃ (s : State),
    s.powered 90 = true ∧ s.tbu.ppsHigh = false ∧ s.ppsGated = false ∧ s.regI (Reg.TBU_CORR_TX 25) = 0) ∧
  (∃ (s : State),
    s.powered 90 = true ∧ s.tbu.ppsHigh = true) ∧
  (∃ (raw : Time) (s : State),
    s.powered 90 = true ∧ s.tbuSrc = 1 ∧ s.isMember = false ∧ (∀ p, s.tbu.lastPps = some p → s.capture 24 raw ≤ p + 1500 * msT) ∧ s.bit Reg.TBU_CTRL 0 = true ∧ (if (s.capture 24 raw % secT : Int) * 2 < secT then (s.capture 24 raw % secT : Int) else (s.capture 24 raw % secT : Int) - secT).natAbs ≤ s.regN Reg.TBU_SLEW_LIMIT * nsT) :=
  ⟨⟨up, by decide⟩,
   ⟨{ up with tbu := { ppsHigh := true } }, by decide⟩,
   ⟨0, { wr [(Reg.TBU_CTRL, 5)] up with tbu := { lastPps := some 9 } }, by decide, by decide, by decide, by rintro _ ⟨⟩; decide, by decide, by decide⟩⟩

theorem witness_HostTimeCommandsHaveTheirEffect :
  (∃ (s : State),
    s.hostOpen .read (Reg.TBU_TIME_SNAP 0) = true) ∧
  (∃ (s : State) (x : Time),
    s.hostOpen .command Reg.TBU_CTRL = true ∧ s.csq.running = false ∧ htwTime (s.regBytes (Reg.TBU_TIME_SET 0) 4) = some x) ∧
  (∃ (s : State),
    s.hostOpen .command Reg.TBU_CTRL = true ∧ s.csq.running = true) ∧
  (∃ (s : State),
    s.hostFree Reg.TBU_CTRL = true) ∧
  (∃ (s : State),
    s.hostFree Reg.TBU_CTRL = true ∧ s.lth.rwl = false) :=
  ⟨⟨up, by decide⟩,
   ⟨up, 0, by decide⟩,
   ⟨{ up with csq := { running := true } }, by decide⟩,
   ⟨up, by decide⟩,
   ⟨up, by decide⟩⟩

theorem witness_CsiPacketsHaveTheirEffect :
  (∃ (p : Fin 12) (c : BitVec 4) (s : State),
    s.csiLive p.val = true ∧ (s.vc p.val c.toNat).active = false) ∧
  (∃ (p : Fin 12) (c : BitVec 4) (l : CsiLine) (f : CamFrame) (s : State),
    s.csiLive p.val = true ∧ (s.camSlots p.val c.toNat).any (fun n => recDt (s.slot n).record == l.dt.toNat) = true ∧ imageDt l.dt.toNat = true ∧ (s.vc p.val c.toNat).toFs = false ∧ (s.vc p.val c.toNat).active = true ∧ (s.vc p.val c.toNat).frames.find? (fun f => recDt (s.slot f.slot).record == l.dt.toNat) = some f ∧ f.dropped = false ∧ l.crcOk = true ∧ f.lines < 4096 ∧ l.data.length ≤ 16384 ∧ s.lineOverrun p.val f.slot = false) ∧
  (∃ (p : Fin 12) (c : BitVec 4) (l : CsiLine) (s : State),
    s.csiLive p.val = true ∧ (s.camSlots p.val c.toNat).isEmpty = false ∧ (s.vc p.val c.toNat).toFs = false ∧ (s.vc p.val c.toNat).active = true ∧ l.crcOk = true) ∧
  (∃ (p : Fin 12) (c : BitVec 4) (s : State),
    s.csiLive p.val = true ∧ (s.vc p.val c.toNat).active = true ∧ (s.vc p.val c.toNat).toFs = false) ∧
  (∃ (p : Fin 12) (dt : BitVec 6) (s : State),
    s.csiLive p.val = true ∧ csiDt dt.toNat = false) ∧
  (∃ (p : Fin 12) (s : State),
    s.csiLive p.val = true) :=
  ⟨⟨11, 15, up, by decide⟩,
   ⟨11, 15, ⟨0x2A, [], false, true⟩, { slot := 255, cam := none, tfs := 0 }, (let s := withSlot 255 (slotOf [(0, 1, 1), (1, 1, 11), (2, 1, 15), (3, 1, 0x2A)]) up; { s with sic := { s.sic with cam := [(191, { active := true, frames := [{ slot := 255, cam := none, tfs := 0 }] })] } }), by decide⟩,
   ⟨11, 15, ⟨0x12, [], false, true⟩, (let s := withSlot 255 (slotOf [(0, 1, 1), (1, 1, 11), (2, 1, 15), (3, 1, 0x2A)]) up; { s with sic := { s.sic with cam := [(191, { active := true, frames := [{ slot := 255, cam := none, tfs := 0 }] })] } }), by decide⟩,
   ⟨11, 15, (let s := withSlot 255 (slotOf [(0, 1, 1), (1, 1, 11), (2, 1, 15), (3, 1, 0x2A)]) up; { s with sic := { s.sic with cam := [(191, { active := true, frames := [{ slot := 255, cam := none, tfs := 0 }] })] } }), by decide⟩,
   ⟨11, 63, up, by decide⟩,
   ⟨11, up, by decide⟩⟩

theorem witness_SwitchCommandsHaveTheirEffect :
  (∃ (q : Fin 12) (f : EthFrame) (s : State),
    s.ethLive q.val = true ∧ s.pwr ≠ 2 ∧ f.fcsOk = false) ∧
  (∃ (q : Fin 12) (f : EthFrame) (s : State),
    s.ethLive q.val = true ∧ s.pwr ≠ 2 ∧ f.fcsOk = true ∧ s.sic.heldPorts.contains (272 + q.val) = false ∧ f.sec = none ∧ s.macsecReq q.val f = false ∧ f.len ≤ (if f.vlan.toNat == 0 then 9018 else 9022) ∧ List.find? (fun (p : Nat × Qci) => p.2.stream.holds f) s.sic.qci = none ∧ f.rseq = none ∧ f.etype ≠ gptpType) ∧
  (∃ (q : Fin 12) (c : Nat) (bs : List Byte) (s : State),
    (s.swPort q.val).txq.find? (fun (c, _) => (s.swPort q.val).gates.getLsbD c) = some (c, bs) ∧ s.ethLive q.val = true ∧ s.bit (Reg.SIC_ETH_STAT q.val) 2 = true ∧ s.txAssoc q.val = none ∧ (s.swPort q.val).macsecReq = false) ∧
  (∃ (q : Fin 12) (c : Nat) (bs : List Byte) (a : Assoc) (s : State),
    (s.swPort q.val).txq.find? (fun (c, _) => (s.swPort q.val).gates.getLsbD c) = some (c, bs) ∧ s.ethLive q.val = true ∧ s.bit (Reg.SIC_ETH_STAT q.val) 2 = true ∧ s.txAssoc q.val = some a ∧ a.pn < a.space) ∧
  (∃ (q : Fin 12) (s : State),
    s.ethLive q.val = true ∧ (s.swPort q.val).gcl.isEmpty = false ∧ s.csq.t0Set = true) ∧
  (∃ (q : Fin 12) (s : State),
    s.ethLive q.val = true ∧ q.val < 8) :=
  ⟨⟨11, frame false 64, up, by decide⟩,
   ⟨11, frame true 9022, up, by decide⟩,
   ⟨11, 7, [], { wr [(Reg.SIC_ETH_STAT 11, 4)] up with sic := { ports := [(11, { txq := [(7, [])] })] } }, by decide⟩,
   ⟨11, 7, [], ⟨0, 11, true, 0, 1, 1, false, true⟩, { wr [(Reg.SIC_ETH_STAT 11, 4)] up with sic := { ports := [(11, { txq := [(7, [])] })] }, sec := { txAn := [(11, 1)], assocs := [⟨0, 11, true, 0, 1, 1, false, true⟩] } }, by decide⟩,
   ⟨11, { wr [(Reg.SIC_ETH_STAT 11, 4)] up with sic := { ports := [(11, { gcl := [(1, 5)] })] }, csq := { t0Set := true } }, by decide⟩,
   ⟨7, up, by decide⟩⟩

theorem witness_PointPacketsAndPartnerListsAreTaken :
  (∃ (d : Datagram) (k : Nat) (s : State),
    s.intake d = true ∧ s.findSlot (fun r => recKind r == kScanner && recVlan r == d.vlan.toNat && recMac r == d.smac.toNat && recUdp r == d.udp.toNat) = some k ∧ (s.slot k).st = .present ∧ packetOk (s.slot k).record d.payload = true ∧ (∀ l, (s.slot k).seq = some l → 0 < (u d.payload 8 4 + 2 ^ 32 - l) % 2 ^ 32 ∧ (u d.payload 8 4 + 2 ^ 32 - l) % 2 ^ 32 < 2 ^ 31) ∧ bits (u d.payload 14 2) 0 1 = 1 ∧ u d.payload 16 8 * nsT ≤ s.capture d.port.val d.raw ∧ s.capture d.port.val d.raw ≤ ptTime d.payload (u d.payload 6 2 - 1) * nsT + recTol (s.slot k).record * 100000 * nsT) ∧
  (∃ (d : Datagram) (k : Nat) (s : State),
    s.intake d = true ∧ s.partnerSlot d = some k ∧ listOk d.payload = true ∧ (∀ l, SMap.find? (s.slot k).starts (u d.payload 54 4) = some l → 0 < (u d.payload 32 4 + 2 ^ 32 - l) % 2 ^ 32 ∧ (u d.payload 32 4 + 2 ^ 32 - l) % 2 ^ 32 < 2 ^ 31) ∧ u d.payload 16 4 + listNs d.payload * nsT ≤ s.capture d.port.val d.raw ∧ s.capture d.port.val d.raw ≤ u d.payload 16 4 + listNs d.payload * nsT + recTol (s.slot k).record * 100000 * nsT ∧ u d.payload 6 1 ≠ 0) :=
  ⟨⟨⟨11, 0, 3, 2, 5, packet⟩, 255, withSlot 255 { slotOf [(0, 1, 2), (14, 2, 3), (8, 6, 2), (6, 2, 5)] with seq := some 0 } up, by decide, by decide, by decide, by decide, by rintro _ ⟨⟩; decide, by decide, by decide, by decide⟩,
   ⟨⟨11, 0, 3, 2, 5, plist⟩, 255, withSlot 255 { slotOf [(0, 1, 3), (14, 2, 3), (8, 6, 2), (6, 2, 5)] with starts := [(0, 0)] } up, by decide, by decide, by decide, by rintro _ ⟨⟩; decide, by decide, by decide, by decide⟩⟩

theorem witness_CanAndImuCommandsHaveTheirEffect :
  (∃ (n : Fin 4) (m : CanMsg) (e : CanFilter) (g : CanTable) (s : State),
    s.canLive n.val = true ∧ (m.fmt = .xl → s.feat 11 = true) ∧ s.sic.canFilt.find? (fun e => e.holds n.val m) = some e ∧ recKind (s.slot e.slot).record = kCan ∧ (s.slot e.slot).bound = true ∧ s.canTable e.slot = some g ∧ m.data.length = g.len) ∧
  (∃ (n : Fin 4) (e : CanErr) (s : State),
    s.canLive n.val = true ∧ n.val ≠ 3 ∧ ((s.canCtl n.val).count e).txErr ≤ 255) ∧
  (∃ (n : Fin 4) (s : State),
    s.canLive n.val = true) ∧
  (∃ (n : Fin 4) (s : State),
    (s.canCtl n.val).off = true ∧ (n.val = 3 ∨ s.bit Reg.SIC_CTRL n.val = true)) ∧
  (∃ (n : Fin 2) (k : Nat) (s : State),
    s.imuLive n.val = true ∧ s.imuSlot n.val = some k ∧ (∃ falling, falling = s.bit Reg.TBU_IMU_CFG n.val) ∧ (∃ falling, falling ≠ s.bit Reg.TBU_IMU_CFG n.val)) ∧
  (∃ (n : Fin 2) (k : Nat) (d : Time) (s : State),
    s.imuLive n.val = true ∧ s.imuSlot n.val = some k ∧ (s.slot k).drdy = some d) ∧
  (∃ (n : Fin 2) (k : Nat) (d : Time) (s : State),
    s.imuLive n.val = true ∧ s.imuSlot n.val = some k ∧ (s.slot k).drdy = some d) :=
  ⟨⟨2, ⟨0, .fd, 0x123, 0, 0, 0, []⟩, filter200, { len := 0, sigs := [], object := false }, (let s := withSlot 200 (slotOf [(0, 1, 4)]) up; { s with sic := { s.sic with canFilt := [filter200], canSig := [(0, { len := 0, sigs := [], object := false })] } }), by decide⟩,
   ⟨2, .tx, up, by decide⟩,
   ⟨3, up, by decide⟩,
   ⟨3, { up with sic := { can := [(3, { off := true })] } }, by decide⟩,
   ⟨1, 255, withSlot 255 { slotOf [(0, 1, 5), (1, 1, 1)] with drdy := some 0 } up, by decide, by decide, ⟨_, rfl⟩, ⟨true, by decide⟩⟩,
   ⟨1, 255, 0, withSlot 255 { slotOf [(0, 1, 5), (1, 1, 1)] with drdy := some 0 } up, by decide⟩,
   ⟨1, 255, 0, withSlot 255 { slotOf [(0, 1, 5), (1, 1, 1)] with drdy := some 0 } up, by decide⟩⟩

theorem witness_SlotCommandsHaveTheirEffect :
  (∃ (n : BitVec 8) (s : State),
    s.powered 94 = true ∧ (s.slot n.toNat).st = .present) ∧
  (∃ (n : BitVec 8) (s : State),
    s.powered 94 = true ∧ (s.slot n.toNat).bound = true ∧ (s.slot n.toNat).runtime = true ∧ (s.slot n.toNat).st ≠ .quarantined) ∧
  (∃ (n : BitVec 8) (h : Nat) (s : State),
    (s.vrec n.toNat).hold = some h ∧ (s.csq.running = false ∨ h + s.regN Reg.SIC_QUAR_HOLD ≤ s.stepNo) ∧ (s.slot n.toNat).st = .quarantined ∧ (s.slot n.toNat).byPort = false) ∧
  (∃ (n : BitVec 8) (s : State),
    s.hostOpen .command Reg.SIC_SLOT_CMD = true ∧ s.bit Reg.SIC_SLOT_CMD_ST 16 = false ∧ (s.autoDue n.toNat).admitCode n.toNat (s.autoDue n.toNat).staged = DONE) ∧
  (∃ (n : BitVec 8) (s : State),
    s.hostOpen .command Reg.SIC_SLOT_CMD = true ∧ s.bit Reg.SIC_SLOT_CMD_ST 16 = false ∧ ((s.autoDue n.toNat).slot n.toNat).bound = true ∧ ((s.autoDue n.toNat).slot n.toNat).runtime = true) ∧
  (∃ (n : BitVec 8) (s : State),
    s.hostOpen .command Reg.SIC_SLOT_CMD = true ∧ s.bit Reg.SIC_SLOT_CMD_ST 16 = false ∧ ((s.autoDue n.toNat).slot n.toNat).st = .excluded) ∧
  (∃ (n : BitVec 8) (s : State),
    s.hostOpen .command Reg.SIC_SLOT_CMD = true ∧ s.bit Reg.SIC_SLOT_CMD_ST 16 = false ∧ ((s.autoDue n.toNat).slot n.toNat).bound = true ∧ ((s.autoDue n.toNat).slot n.toNat).st ≠ .excluded) :=
  ⟨⟨255, withSlot 255 { slotOf [(0, 1, 5), (1, 1, 1)] with drdy := some 0 } up, by decide⟩,
   ⟨255, withSlot 255 { slotOf [] with runtime := true } up, by decide⟩,
   ⟨255, 0, (let s := withSlot 255 { slotOf [] with st := .quarantined } up; { s with sic := { s.sic with vrec := [(255, { hold := some 0 })] } }), by decide⟩,
   ⟨255, (wr [(Reg.LTH_STATE, 3)] up).setRegBytes (Reg.SIC_SLOT_XSTAGE 0) (mk 64 [(0, 1, 1), (2, 2, 255)]) |>.setRegBytes (Reg.SIC_SLOT_STAGE 0) (mk 64 [(0, 1, 5), (1, 1, 1)]), by decide⟩,
   ⟨255, withSlot 255 { slotOf [] with runtime := true } up, by decide⟩,
   ⟨255, withSlot 255 { slotOf [] with st := .excluded } up, by decide⟩,
   ⟨255, withSlot 255 { slotOf [(0, 1, 5), (1, 1, 1)] with drdy := some 0 } up, by decide⟩⟩

theorem witness_PatchTestAndFcuCommandsHaveTheirEffect :
  (∃ (k : Nat) (x : PatchPath) (s : State),
    s.patchRuns = true ∧ s.powered 94 = true ∧ SMap.find? s.sic.paths k = some x ∧ x.due = false) ∧
  (∃ (k : Nat) (x : PatchPath) (s : State),
    s.patchRuns = true ∧ s.powered 94 = true ∧ SMap.find? s.sic.paths k = some x ∧ x.due = true ∧ x.injected = none ∧ s.patchOpen x = true) ∧
  (∃ (k : Nat) (flip : BitVec 32) (x : PatchPath) (s : State),
    s.patchRuns = true ∧ s.powered 94 = true ∧ SMap.find? s.sic.paths k = some x ∧ x.injected ≠ none ∧ (x.retest && x.badStep == s.stepNo) = false ∧ x.tried ≠ some s.stepNo ∧
    (x.retest = true ∨ (s.reach x.complete).testOverrun { x with tried := some (s.reach x.complete).stepNo } = false) ∧
    (s.reach x.complete).patchCrc { x with tried := some (s.reach x.complete).stepNo } ^^^ flip = x.golden) ∧
  (∃ (n : BitVec 8) (f : Nat) (rev : Nat) (cells : SMap FcuCell) (gaps : List (Nat × Nat)) (r : List (Nat × SMap FcuCell × List (Nat × Nat))) (s : State),
    s.fcuRuns = true ∧ s.fcuEntry n.toNat = some f ∧ (s.fcuOf f).ready = (rev, cells, gaps) :: r) :=
  ⟨⟨0, {}, { locked1 2 (wr [(Reg.SIC_CTRL, 8)] up) with sic := { paths := [(0, {})] } }, by decide⟩,
   ⟨0, { due := true }, { locked1 2 (wr [(Reg.SIC_CTRL, 8)] up) with sic := { paths := [(0, { due := true })] } }, by decide⟩,
   ⟨0, _, path9, { locked1 2 (wr [(Reg.SIC_CTRL, 8)] up) with sic := { paths := [(0, path9)] } }, by decide, by decide, by decide, by decide, by decide, by decide,
     .inl rfl, BitVec.xor_self⟩,
   ⟨40, 15, 7, [], [], [], { wr [(Reg.SIC_CTRL, 16), (Reg.SIC_FCU_CFG 15, 0x02800101), (Reg.SIC_FCU_ELEV 15, 0x10000)] up with sic := { fcu := [(15, { ready := [(7, [], [])] })] } }, by decide⟩⟩

theorem witness_ProjectionAndEgoCommandsHaveTheirEffect :
  (∃ (p : Pt) (r : List Pt) (s : State),
    s.paeRuns = true ∧ s.pae.queue = p :: r) ∧
  (∃ (n : Nat) (s : State),
    s.paeRuns = true ∧ s.newestPose = some n) ∧
  (∃ (p : Pt) (h : Time) (r : List (Pt × Time)) (s : State),
    s.paeRuns = true ∧ s.pae.held = (p, h) :: r ∧ (∀ n, s.newestPose = some n → n < p.time)) ∧
  (∃ (c : Fin 48) (g : DepthImg) (s : State),
    s.pae.images.find? (fun g => g.cam == c.val) = some g) ∧
  (∃ (k : Nat) (s : State),
    s.nextGrid = some k ∧ s.paeRuns = true ∧ s.bit Reg.PAE_CTRL 2 = true) ∧
  (∃ (n : BitVec 8) (e : CalEst) (s : State),
    s.paeRuns = true ∧ s.bit Reg.PAE_CTRL 1 = true ∧ (s.calOf n.toNat).frozen = false ∧ (s.calOf n.toNat).cmd = none ∧ (s.calOf n.toNat).st ≤ 1 ∧ (s.slot n.toNat).bound = true ∧ estInBounds e 1 = true) ∧
  (∃ (n : BitVec 8) (s : State),
    s.hostOpen .command Reg.PAE_CAL_CMD = true ∧ s.bit Reg.PAE_CAL_CMD_ST 16 = false ∧ (s.slot n.toNat).bound = true ∧ s.hasBoundary n.toNat = true) ∧
  (∃ (n : BitVec 8) (s : State),
    s.hostOpen .command Reg.PAE_CAL_CMD = true ∧ s.bit Reg.PAE_CAL_CMD_ST 16 = false ∧ (s.slot n.toNat).bound = true ∧ s.hasBoundary n.toNat = false) ∧
  (∃ (s : State),
    s.egoRuns = true ∧ s.egoStatic = false) ∧
  (∃ (r : SmootherResult) (s : State),
    s.egoRuns = true ∧ s.ego.solving = true ∧ isDone r.status.toNat = true ∧ s.ego.invalid = false) ∧
  (∃ (r : SmootherResult) (s : State),
    s.egoRuns = true ∧ s.ego.solving = true ∧ isDone r.status.toNat = true ∧ s.ego.invalid = true) ∧
  (∃ (h : Time) (s : State),
    s.egoRuns = true ∧ s.ego.hold = some h) ∧
  (∃ (s : State),
    s.hostOpen .read (Reg.EGO_LAST_REC 0) = true) :=
  ⟨⟨⟨40, 5, false, 0, 0, 0, 0⟩, [], { wr [(Reg.PAE_CTRL, 1)] up with pae := { queue := [⟨40, 5, false, 0, 0, 0, 0⟩] } }, by decide⟩,
   ⟨4, { wr [(Reg.PAE_CTRL, 1)] up with pae := {  }, ego := { ring := [⟨4, (0, 0, 0), (0, 0, 0, 0), 0⟩] } }, by decide⟩,
   ⟨⟨40, 5, false, 0, 0, 0, 0⟩, 0, [], { wr [(Reg.PAE_CTRL, 1)] up with pae := { held := [(⟨40, 5, false, 0, 0, 0, 0⟩, 0)] }, ego := { ring := [⟨4, (0, 0, 0), (0, 0, 0, 0), 0⟩] } }, by decide, by decide, by rintro _ ⟨⟩; decide⟩,
   ⟨47, ⟨47, 0, 0, 0, [], []⟩, { wr [(Reg.PAE_CTRL, 1)] up with pae := { images := [⟨47, 0, 0, 0, [], []⟩] } }, by decide⟩,
   ⟨5, { wr [(Reg.PAE_CTRL, 5)] up with pae := { gridDone := some 4 } }, by decide⟩,
   ⟨255, ⟨(8727, 0, 0), (0, 0, -20480)⟩, withSlot 255 (slotOf []) (wr [(Reg.PAE_CTRL, 3)] up), by decide⟩,
   ⟨255, withSlot 255 (slotOf [(0, 1, 2)]) up, by decide⟩,
   ⟨255, withSlot 255 (slotOf [(0, 1, 4)]) up, by decide⟩,
   ⟨{ wr [(Reg.EGO_CTRL, 1)] up with ego := {  } }, by decide⟩,
   ⟨⟨0, false, [], [], [], [], [], 0⟩, { wr [(Reg.EGO_CTRL, 1)] up with ego := { solving := true } }, by decide⟩,
   ⟨⟨0, true, [], [], [], [], [], 0⟩, { wr [(Reg.EGO_CTRL, 1)] up with ego := { solving := true, invalid := true } }, by decide⟩,
   ⟨7, { wr [(Reg.EGO_CTRL, 1)] up with ego := { hold := some 7 } }, by decide⟩,
   ⟨up, by decide⟩⟩

theorem witness_TileRequestsAreTaken :
  (∃ (n : Fin 34) (q : TileQueue) (id : BitVec 10) (c : List Byte) (s : State),
    s.tileAdmits id.toNat n.val = true ∧ tileStateCode (s.tile n.val) q c = DONE ∧ s.tileCmdOk q id.toNat c = true) ∧
  (∃ (n : Fin 34) (s : State),
    s.hostOpen .command (Reg.TCA_T_DOORBELL n.val) = true ∧ s.tileAdmits idHost n.val = true ∧ tileStateCode (s.tile n.val) .background (s.regBytes (Reg.TCA_T_CMD n.val 0) 16) = DONE ∧ s.tileCmdOk .background idHost (s.regBytes (Reg.TCA_T_CMD n.val 0) 16) = true) ∧
  (∃ (n : Fin 34) (w : W32) (s : State),
    s.hostOpen .write (Reg.TCA_T_INJECT n.val) = true ∧ s.feat 9 = true ∧ bits w.toNat 0 2 ≠ 0) ∧
  (∃ (n : BitVec 6) (s : State),
    s.hostOpen .command Reg.TCA_BIST_REQ = true ∧ s.bit Reg.TCA_BIST_ST 16 = false ∧ s.pwr = 2 ∧ s.inTransition = false ∧ n.toNat < 34 ∧ (s.tile n.toNat).st = .dead) :=
  ⟨⟨33, .background, 0x0C0, mk 64 [(0, 1, 0x10), (46, 2, 0xFFFF)], tileOn 33 { st := .active } wide, by decide⟩,
   ⟨33, (tileOn 33 { st := .active } wide).setRegBytes (Reg.TCA_T_CMD 33 0) (mk 64 [(0, 1, 0x10), (46, 2, 0xFFFF)]), by decide⟩,
   ⟨33, 2, locked1 0x200 up, by decide⟩,
   ⟨33, tileOn 33 { st := .dead } (wr [(Reg.AON_PWR_STATE, 2)] up), by decide⟩⟩

theorem witness_TileOpcodesDoTheirWork :
  (∃ (n : Fin 34) (q : TileQueue) (c : TileCmd) (s : State),
    s.tileNext n.val = some (q, c) ∧ tcOp c.desc = opMatmul) ∧
  (∃ (n : Fin 34) (q : TileQueue) (c : TileCmd) (s : State),
    s.tileNext n.val = some (q, c) ∧ tcOp c.desc = opAttend) ∧
  (∃ (n : Fin 34) (q : TileQueue) (c : TileCmd) (s : State),
    s.tileNext n.val = some (q, c) ∧ tcOp c.desc = opConv) ∧
  (∃ (n : Fin 34) (q : TileQueue) (c : TileCmd) (s : State),
    s.tileNext n.val = some (q, c) ∧ tcOp c.desc = opVector) ∧
  (∃ (n : Fin 34) (q : TileQueue) (c : TileCmd) (s : State),
    s.tileNext n.val = some (q, c) ∧ tcOp c.desc = opKernel) ∧
  (∃ (n : Fin 34) (q : TileQueue) (c : TileCmd) (s : State),
    s.tileNext n.val = some (q, c) ∧ tcOp c.desc = opSync) ∧
  (∃ (n : Fin 34) (q : TileQueue) (c : TileCmd) (s : State),
    s.tileNext n.val = some (q, c) ∧ tcOp c.desc = opBist) :=
  ⟨⟨33, .stage, ⟨0x65, [BitVec.ofNat 8 opMatmul], 0⟩, tileOn 33 (stageOf opMatmul) up, by decide⟩,
   ⟨33, .stage, ⟨0x65, [BitVec.ofNat 8 opAttend], 0⟩, tileOn 33 (stageOf opAttend) up, by decide⟩,
   ⟨33, .stage, ⟨0x65, [BitVec.ofNat 8 opConv], 0⟩, tileOn 33 (stageOf opConv) up, by decide⟩,
   ⟨33, .stage, ⟨0x65, [BitVec.ofNat 8 opVector], 0⟩, tileOn 33 (stageOf opVector) up, by decide⟩,
   ⟨33, .stage, ⟨0x65, [BitVec.ofNat 8 opKernel], 0⟩, tileOn 33 (stageOf opKernel) up, by decide⟩,
   ⟨33, .stage, ⟨0x65, [BitVec.ofNat 8 opSync], 0⟩, tileOn 33 (stageOf opSync) up, by decide⟩,
   ⟨33, .stage, ⟨0x65, [BitVec.ofNat 8 opBist], 0⟩, tileOn 33 (stageOf opBist) up, by decide⟩⟩

theorem witness_TileCommandsCompleteOrDie :
  (∃ (n : Fin 34) (r : TileRun) (s : State),
    (s.tile n.val).run = some r ∧ r.finished = true) ∧
  (∃ (n : Fin 34) (w : Option TileQueue) (c : TileCmd) (s : State),
    s.tileDue n.val = some (w, c)) ∧
  (∃ (n : Fin 34) (s : State),
    (s.tile n.val).st = .active ∧ (s.tile n.val).missed = false ∧ s.csq.running = true) :=
  ⟨⟨33, { cmd := ⟨0x65, [8], 0⟩, q := .stage, finished := true }, tileOn 33 { st := .active, run := some { cmd := ⟨0x65, [8], 0⟩, q := .stage, finished := true } } up, by decide⟩,
   ⟨33, some .stage, ⟨0x65, mk 64 [(32, 8, 1)], 0⟩, tileOn 33 { st := .active, stageQ := [⟨0x65, mk 64 [(32, 8, 1)], 0⟩] } up, by decide⟩,
   ⟨33, { tileOn 33 { st := .active } up with csq := { running := true } }, by decide⟩⟩

theorem witness_SparesTakeTheDeadTilesPlace :
  (∃ (w : Swap) (s : State),
    s.tca.swap = some w ∧ w.phase = 0) ∧
  (∃ (w : Swap) (s : State),
    s.tca.swap = some w ∧ w.phase = 1) ∧
  (∃ (w : Swap) (s : State),
    s.tca.swap = some w ∧ w.phase = 2 ∧ w.spare ≠ w.dead) ∧
  (∃ (n : Nat) (s : State),
    s.tca.bist = some n ∧ n < 34) :=
  ⟨⟨⟨0, 32, 0⟩, { up with tca := { swap := some ⟨0, 32, 0⟩ } }, by decide⟩,
   ⟨⟨0, 32, 1⟩, { up with tca := { swap := some ⟨0, 32, 1⟩ } }, by decide⟩,
   ⟨⟨0, 32, 2⟩, { up with tca := { swap := some ⟨0, 32, 2⟩ } }, by decide⟩,
   ⟨33, { up with tca := { bist := some 33 } }, by decide⟩⟩

theorem witness_DescriptorAndSignalCommandsHaveTheirEffect :
  (∃ (h : BitVec 12) (s : State),
    s.hostOpen .command Reg.DML_DESC_CMD = true ∧ descOk (s.regBytes (Reg.DML_DESC_STAGE 0) 16) = true ∧ s.fmtOffered (dFmt (s.regBytes (Reg.DML_DESC_STAGE 0) 16)) = true ∧ SMap.find? s.dml.descs h.toNat = none ∧ s.extentOk idHost (s.regBytes (Reg.DML_DESC_STAGE 0) 16) = true) ∧
  (∃ (h : BitVec 12) (x : Desc) (s : State),
    s.hostOpen .command Reg.DML_DESC_CMD = true ∧ SMap.find? s.dml.descs h.toNat = some x ∧ x.retiring = false ∧ dFlag x.bytes 2 = false) ∧
  (∃ (sig : BitVec 10) (inc : BitVec 16) (s : State),
    s.hostOpen .command Reg.DML_SIG_RAISE = true ∧ s.sigGranted idHost sig.toNat = true ∧ inc ≠ 0 ∧ (∀ w ∈ s.dml.waits, w.sig ≠ sig.toNat)) :=
  ⟨⟨0xFFF, wide.setRegBytes (Reg.DML_DESC_STAGE 0) desc, by decide⟩,
   ⟨0xFFF, { bytes := desc }, { up with dml := { descs := [(0xFFF, { bytes := desc })] } }, by decide⟩,
   ⟨1023, 0xFFFF, { up with dml := { ranges := [(idHost, 1023, 1023)], waits := [⟨0x65, 0, 1, .chan 3⟩] } }, by decide⟩⟩

theorem witness_StreamingSetCommandsHaveTheirEffect :
  (∃ (n : Fin 16) (s : State),
    s.dmlOn = true ∧ s.bit (Reg.DML_SS_ST n.val) 8 = true ∧ ssTrig (s.ssAct n.val) = 0 ∧ (s.sset n.val).run = none ∧ s.sic.deferred.contains (ssArg (s.ssAct n.val)) = false) ∧
  (∃ (n : Fin 16) (s : State),
    s.dmlOn = true ∧ s.bit (Reg.DML_SS_ST n.val) 8 = true ∧ ssTrig (s.ssAct n.val) = 0 ∧ (s.sset n.val).run ≠ none ∧ (s.sset n.val).queue.length < 8) ∧
  (∃ (n : Fin 16) (s : State),
    s.dmlOn = true ∧ s.bit (Reg.DML_SS_ST n.val) 8 = true ∧ ssTrig (s.ssAct n.val) = 0 ∧ s.sic.deferred.contains (ssArg (s.ssAct n.val)) = true ∧ (s.sset n.val).queue.length < 8) ∧
  (∃ (n : Fin 16) (s : State),
    s.setReady n.val 1 = true ∧ s.csq.running = true) ∧
  (∃ (n : Fin 16) (s : State),
    s.setReady n.val 2 = true ∧ (s.sset n.val).trig ≠ none) ∧
  (∃ (n : Fin 16) (s : State),
    s.setReady n.val 3 = true) ∧
  (∃ (n : Fin 16) (τ : Time) (s : State),
    s.dmlOn = true ∧ (s.sset n.val).run = some (τ, none) ∧ s.bit (Reg.DML_SS_ST n.val) 9 = false ∧ ssRepeat (s.ssAct n.val) = false) ∧
  (∃ (n : Fin 16) (τ : Time) (x : Option Item) (s : State),
    s.dmlOn = true ∧ (s.sset n.val).run = some (τ, x) ∧ ssDeadline (s.ssAct n.val) ≠ 0) ∧
  (∃ (n : Fin 16) (k : Fin 8) (s : State),
    s.hostFree (Reg.DML_SS_SHD n.val k.val) = true ∧ s.bit (Reg.DML_SS_ST n.val) 9 = false) ∧
  (∃ (n : Fin 16) (s : State),
    s.hostOpen .command (Reg.DML_SS_COMMIT n.val) = true ∧ s.bit (Reg.DML_SS_ST n.val) 9 = false ∧ s.ssOk n.val (s.ssShd n.val) = true) :=
  ⟨⟨15, setOf [(Reg.DML_SS_ST 15, 0x100)] {}, by decide⟩,
   ⟨15, setOf [(Reg.DML_SS_ST 15, 0x100)] { run := some (0, none) }, by decide⟩,
   ⟨15, { setOf [(Reg.DML_SS_ST 15, 0x100)] {} with sic := { deferred := [0] } }, by decide⟩,
   ⟨15, { setOf [(Reg.DML_SS_ST 15, 0x100), (Reg.DML_SS_ACT 15 1, 0x01000000)] {} with csq := { running := true } }, by decide⟩,
   ⟨15, setOf [(Reg.DML_SS_ST 15, 0x100), (Reg.DML_SS_ACT 15 1, 0x02000000)] { trig := some 0 }, by decide⟩,
   ⟨15, setOf [(Reg.DML_SS_ST 15, 0x100), (Reg.DML_SS_ACT 15 1, 0x03000000)] {}, by decide⟩,
   ⟨15, 0, setOf [] { run := some (0, none) }, by decide⟩,
   ⟨15, 0, none, setOf [(Reg.DML_SS_ACT 15 4, 1)] { run := some (0, none) }, by decide⟩,
   ⟨15, 7, up, by decide⟩,
   ⟨15, { wr [(Reg.DML_SS_SHD 15 1, 0xFFFF), (Reg.DML_SS_SHD 15 3, 0xFFFF)] up with dml := { descs := [(0, { bytes := desc })] } }, by decide⟩⟩

theorem witness_ProgramInstructionsHaveTheirEffect :
  (∃ (n : Fin 16) (p : List (List Byte)) (s : State) (s' : State),
    s.hostOpen .command (Reg.DML_PC_CTRL n.val) = true ∧ s.notOwner idHost n.val = false ∧ s.bit (Reg.DML_PC_ST n.val) 16 = false ∧ s.fetchProg (idChan n.val) (s.regN (Reg.DML_PC_PROG_LO n.val) + 2 ^ 32 * s.fld' (Reg.DML_PC_PROG_HI n.val) 0 16) 128 = (.ok p, s') ∧ s'.progOk n.val p = true) ∧
  (∃ (n : Fin 16) (s : State),
    s.hostOpen .command (Reg.DML_PC_CTRL n.val) = true ∧ s.notOwner idHost n.val = false ∧ (s.chan n.val).prog ≠ []) ∧
  (∃ (n : Fin 16) (x : List Byte) (s : State),
    s.instrAt n.val 1 = some x ∧ (s.chan n.val).moves.length < 4) ∧
  (∃ (n : Fin 16) (x : List Byte) (s : State),
    s.instrAt n.val 2 = some x) ∧
  (∃ (n : Fin 16) (x : List Byte) (s : State),
    s.instrAt n.val 3 = some x) ∧
  (∃ (n : Fin 16) (x : List Byte) (s : State),
    s.instrAt n.val 4 = some x ∧ (s.chan n.val).moves = []) ∧
  (∃ (n : Fin 16) (x : List Byte) (s : State),
    s.instrAt n.val 5 = some x ∧ (s.chan n.val).moves = []) ∧
  (∃ (n : Fin 16) (x : List Byte) (s : State),
    s.instrAt n.val 6 = some x ∧ (s.chan n.val).moves = []) ∧
  (∃ (n : Fin 16) (k : Fin 4) (x : List Byte) (l : Nat) (s : State),
    s.dmlOn = true ∧ (s.chan n.val).moves[k.val]? = some (x, l) ∧ (s.chan n.val).failed = none ∧ isDone (s.doMove (idChan n.val) (s.inJob x l)).1 = true) ∧
  (∃ (n : Fin 16) (τ : Time) (x : List Byte) (s : State),
    s.dmlOn = true ∧ (s.chan n.val).wait = some τ ∧ (s.chan n.val).prog[(s.chan n.val).pc]? = some x ∧ inTimeout x ≠ 0 ∧ (s.chan n.val).moves = []) :=
  ⟨⟨15, [mk 32 [(0, 1, 6)]], { wide with mem := [(0, 6)], dml := { owner := [(15, idHost)] } }, (({ wide with mem := [(0, 6)], dml := { owner := [(15, idHost)] } } : State).fetchProg (idChan 15) 0 128).2, by decide, by decide, by decide, rfl, by decide⟩,
   ⟨15, chanOf { prog := [[6]] }, by decide⟩,
   ⟨15, [1], chanOf { prog := [[1]] }, by decide⟩,
   ⟨15, [2], chanOf { prog := [[2]] }, by decide⟩,
   ⟨15, [3], chanOf { prog := [[3]] }, by decide⟩,
   ⟨15, [4], chanOf { prog := [[4]] }, by decide⟩,
   ⟨15, [5], chanOf { prog := [[5]] }, by decide⟩,
   ⟨15, [6], chanOf { prog := [[6]] }, by decide⟩,
   ⟨15, 3, mk 32 [(8, 2, 0xFFFF)], 0, { wide with dml := { chans := [(15, { moves := List.replicate 4 (mk 32 [(8, 2, 0xFFFF)], 0) })], descs := [(0, { bytes := desc })] } }, by decide⟩,
   ⟨15, 0, mk 32 [(0, 1, 3), (8, 4, 1)], chanOf { prog := [mk 32 [(0, 1, 3), (8, 4, 1)]], wait := some 0 }, by decide⟩⟩

theorem witness_SequenceCommandsHaveTheirEffect :
  (∃ (id : BitVec 10) (n : BitVec 20) (tid : W32) (f : BitVec 12) (s : State),
    s.tacOpen id.toNat Reg.TAC_CMD_SEQ Reg.TAC_CMD_SEQ_ST 16 = true ∧ s.seqSt n.toNat = 0 ∧ tid.toNat % 2 ^ 20 = n.toNat ∧ s.flockSt f.toNat = 1 ∧ s.fld' (Reg.TAC_FLOCK_SEQ f.toNat) 0 20 < s.fld' (Reg.TAC_FLOCK_LIM f.toNat) 0 20 ∧ s.activeFull = false) ∧
  (∃ (id : BitVec 10) (n : BitVec 20) (s : State),
    s.tacOpen id.toNat Reg.TAC_CMD_SEQ Reg.TAC_CMD_SEQ_ST 16 = true ∧ s.seqSt n.toNat = 1) ∧
  (∃ (id : BitVec 10) (n : BitVec 20) (s : State),
    s.tacOpen id.toNat Reg.TAC_CMD_SEQ Reg.TAC_CMD_SEQ_ST 16 = true ∧ s.seqSt n.toNat = 2 ∧ s.activeFull = false) ∧
  (∃ (id : BitVec 10) (n : BitVec 20) (s : State),
    s.tacOpen id.toNat Reg.TAC_CMD_SEQ Reg.TAC_CMD_SEQ_ST 16 = true ∧ s.seqSt n.toNat ≠ 0) :=
  ⟨⟨0x0C0, 0xFFFFF, 0xFFFFF, 4095, wr [(Reg.TAC_FLOCK_SEQ 4095, 0x100000), (Reg.TAC_FLOCK_LIM 4095, 1), (Reg.TAC_ACTIVE_MAX, 1)] up, by decide⟩,
   ⟨0x0C0, 0, inMem (seqMem 0x10 1) up, by decide⟩,
   ⟨0x0C0, 0, inMem (seqMem 0x20 1) (wr [(Reg.TAC_ACTIVE_MAX, 1)] up), by decide⟩,
   ⟨0x0C0, 0, inMem (seqMem 0x10 1) up, by decide⟩⟩

theorem witness_PageTableCommandsHaveTheirEffect :
  (∃ (id : BitVec 10) (n : BitVec 20) (k : BitVec 5) (s : State),
    s.tacOpen id.toNat Reg.TAC_CMD_PGT_EDIT Reg.TAC_CMD_PGT_ST 8 = true ∧ 0 < k.toNat ∧ k.toNat ≤ s.seqPages n.toNat ∧ (k.toNat = s.seqPages n.toNat ∨ 0 < ivLen s.tac.blocks)) ∧
  (∃ (id : BitVec 10) (s : State),
    s.tacOpen id.toNat Reg.TAC_CMD_PGT_EDIT Reg.TAC_CMD_PGT_ST 8 = true) ∧
  (∃ (id : BitVec 10) (n : BitVec 20) (c : BitVec 5) (s : State),
    s.tacOpen id.toNat Reg.TAC_CMD_PGT_EDIT Reg.TAC_CMD_PGT_ST 8 = true ∧ c.toNat ≤ 7 ∧ s.seqSt n.toNat ≠ 0 ∧ s.flockFull (s.seqFlock n.toNat) c.toNat = false ∧ s.seqPages n.toNat < 32 ∧ s.seqCap n.toNat + 2 ^ c.toNat ≤ 2 ^ s.fld' Reg.TAC_ENTRY_CFG 8 3 ∧ 0 < ivLen s.tac.blocks ∧ s.freePages.any (fun p => decide (c.toNat ≤ p.2)) = true ∧ s.reserveUnits + 2 ^ c.toNat ≤ ivLen s.tac.free) ∧
  (∃ (n : BitVec 20) (k : BitVec 5) (s : State),
    s.tacOpen idHost Reg.TAC_CMD_PGT_EDIT Reg.TAC_CMD_PGT_ST 8 = true ∧ 0 < k.toNat ∧ k.toNat < s.seqPages n.toNat ∧ ivLen s.tac.blocks = 0) :=
  ⟨⟨0x0C0, 0, 1, inMem (seqMem 0x10 1) up, by decide⟩,
   ⟨0x0C0, up, by decide⟩,
   ⟨0x0C0, 0, 0, { inMem (seqMem 0x10 1) (wr [(Reg.TAC_FLOCK_Q 0, 8), (Reg.TAC_ENTRY_CFG, 0x10700)] up) with tac := { free := [(0, 64)], blocks := [(0, 1)] } }, by decide⟩,
   ⟨0, 1, inMem (seqMem 0x10 2) up, by decide⟩⟩

theorem witness_FlockCommandsHaveTheirEffect :
  (∃ (id : BitVec 10) (f : BitVec 12) (q : W32) (s : State),
    s.tacOpen id.toNat Reg.TAC_CMD_FLOCK Reg.TAC_CMD_FLOCK_ST 8 = true ∧ s.flockSt f.toNat = 0 ∧ s.lthState = 3 ∧ s.quotaFits f.toNat q.toNat = true) ∧
  (∃ (id : BitVec 10) (f : BitVec 12) (q : W32) (s : State),
    s.tacOpen id.toNat Reg.TAC_CMD_FLOCK Reg.TAC_CMD_FLOCK_ST 8 = true ∧ (s.flockSt f.toNat = 1 ∨ s.flockSt f.toNat = 2) ∧ s.lthState = 3 ∧ s.quotaFits f.toNat q.toNat = true) ∧
  (∃ (id : BitVec 10) (f : BitVec 12) (s : State),
    s.tacOpen id.toNat Reg.TAC_CMD_FLOCK Reg.TAC_CMD_FLOCK_ST 8 = true ∧ s.flockSt f.toNat ≠ 0 ∧ s.fld' (Reg.TAC_FLOCK_SEQ f.toNat) 0 20 = 0) :=
  ⟨⟨0x0C0, 4095, 0, wr [(Reg.LTH_STATE, 3)] up, by decide⟩,
   ⟨0x0C0, 4095, 0, wr [(Reg.LTH_STATE, 3), (Reg.TAC_FLOCK_SEQ 4095, 0x100000)] up, by decide⟩,
   ⟨0x0C0, 4095, wr [(Reg.TAC_FLOCK_SEQ 4095, 0x100000)] up, by decide⟩⟩

theorem witness_AppendsReclaimerAndWalksHaveTheirEffect :
  (∃ (n : BitVec 20) (a : Nat) (s : State),
    s.tacOn = true ∧ s.seqSt n.toNat = 1 ∧ SMap.get 0 s.tac.appends n.toNat < s.appendMax ∧ s.nextSlot n.toNat = some a ∧ (a + 32 ≤ s.seqAddr n.toNat ∨ s.seqAddr n.toNat + 64 ≤ a)) ∧
  (∃ (n : BitVec 20) (s : State),
    s.tacOn = true ∧ s.seqSt n.toNat ≠ 1) ∧
  (∃ (n : BitVec 20) (s : State),
    s.tacOn = true ∧ s.seqSt n.toNat = 1 ∧ s.appendMax ≤ SMap.get 0 s.tac.appends n.toNat) ∧
  (∃ (k : Nat) (s : State),
    s.tacOn = true ∧ s.csq.pub = some k ∧ s.tac.reclaimed ≠ some k) ∧
  (∃ (n : BitVec 20) (m : Fin 34) (ahead : Bool) (s : State),
    s.tacOn = true ∧ s.seqSt n.toNat = 1 ∧ s.tac.walks.length < 1024 ∧ (∀ w ∈ s.tac.walks, w.slot ≠ n.toNat) ∧ s.decodeTile m.val = true ∧ (ahead = true → SMap.get 0 s.tac.appends n.toNat = 0)) ∧
  (∃ (n : BitVec 20) (w : Walk) (s : State),
    s.tacOn = true ∧ s.tac.walks.find? (fun v => v.slot == n.toNat) = some w ∧ s.staging w.tile = false) :=
  ⟨⟨0, 0x2000, inMem (seqMem 0x10 1) (wr [(Reg.TAC_ENTRY_CFG, 0x10700)] up), by decide⟩,
   ⟨0, up, by decide⟩,
   ⟨0, { inMem (seqMem 0x10 1) up with tac := { appends := [(0, 4)] } }, by decide⟩,
   ⟨7, { up with csq := { pub := some 7 } }, by decide⟩,
   ⟨0, 33, true, inMem (seqMem 0x10 1) (tileOn 33 { serves := some 1 } up), by decide⟩,
   ⟨0, ⟨0, 0, 0, 33, false, 0, [], 0, []⟩, { up with tac := { walks := [⟨0, 0, 0, 33, false, 0, [], 0, []⟩] } }, by decide⟩⟩

theorem witness_DetectionsCutoffAndTrackCommandsHaveTheirEffect :
  (∃ (b : List Byte) (x : DetBox) (s : State),
    s.powered 97 = true ∧ (s.slot (dtSlot (s.passed b x))).st = .present ∧ s.detOk (s.passed b x) = true ∧ s.inDrove = false) ∧
  (∃ (b : List Byte) (x : DetBox) (s : State),
    s.powered 97 = true ∧ (s.slot (dtSlot (s.passed b x))).st = .present ∧ s.detOk (s.passed b x) = false) ∧
  (∃ (s : State),
    s.csq.running = true ∧ s.csq.t0Set = true ∧ s.csq.cur.active = false ∧ s.csq.stopAt = none ∧ s.csq.change = none ∧ s.slk.handoff = none ∧ s.csqOn = true) ∧
  (∃ (n : BitVec 20) (s : State),
    s.hostOpen .command Reg.FLD_TRACK_CMD = true ∧ s.bit Reg.FLD_TRACK_CMD_ST 16 = false ∧ tkSt (s.trk n.toNat) = tkFREE) ∧
  (∃ (n : BitVec 20) (s : State),
    s.hostOpen .command Reg.FLD_TRACK_CMD = true ∧ s.bit Reg.FLD_TRACK_CMD_ST 16 = false ∧ tkSt (s.trk n.toNat) ≠ tkFREE) ∧
  (∃ (s : State),
    s.hostOpen .command Reg.FLD_TRACK_CMD = true ∧ s.bit Reg.FLD_TRACK_CMD_ST 16 = false) ∧
  (∃ (s : State),
    s.Canonical ∧ s.fldOn = true ∧ s.fld' Reg.FLD_CONTRA_CFG 0 16 ≠ 0 ∧ s.fld.decayAt + s.fld' Reg.FLD_CONTRA_CFG 0 16 ≤ s.stepNo) :=
  ⟨⟨detB, box, { withSlot 255 (slotOf []) up with fld := { gates := [0] } }, by decide⟩,
   ⟨mk 128 [(8, 1, 255)], box, { withSlot 255 (slotOf []) up with fld := { gates := [0] } }, by decide⟩,
   ⟨{ up with csq := { running := true, t0Set := true } }, by decide⟩,
   ⟨0xFFFFF, up, by decide⟩,
   ⟨0, inMem [(12, 2)] up, by decide⟩,
   ⟨up, by decide⟩,
   ⟨{ up with csq := { running := true, next := 0x10000 } }, ⟨by decide, by decide⟩, by decide, by decide, by decide⟩⟩

theorem witness_TrackTimeoutsTakeTheTransitionsOfTheTable :
  (∃ (n : BitVec 20) (s : State),
    s.fldOn = true ∧ s.runsStages = true ∧ s.fld.cmds.contains (.kill n.toNat) = false ∧ tkSt (s.trk n.toNat) = tkTENTATIVE ∧ ((fun (d : Nat) => s.csq.running = false ∨ s.cOf s.csq.next < d * nsT + s.cadence ∨ d * nsT ≤ s.now) (tkBirth (s.trk n.toNat) + s.confMs * 1000000))) ∧
  (∃ (n : BitVec 20) (s : State),
    s.fldOn = true ∧ s.runsStages = true ∧ s.fld.cmds.contains (.kill n.toNat) = false ∧ tkSt (s.trk n.toNat) = tkCONFIRMED ∧ ((fun (d : Nat) => s.csq.running = false ∨ s.cOf s.csq.next < d * nsT + s.cadence ∨ d * nsT ≤ s.now) (tkLastTime (s.trk n.toNat) + s.coastMs * 1000000))) ∧
  (∃ (n : BitVec 20) (s : State),
    s.fldOn = true ∧ s.runsStages = true ∧ s.fld.cmds.contains (.kill n.toNat) = false ∧ (tkSt (s.trk n.toNat) = tkCONFIRMED ∨ tkSt (s.trk n.toNat) = tkCOASTING) ∧ ((fun (d : Nat) => s.csq.running = false ∨ s.cOf s.csq.next < d * nsT + s.cadence ∨ d * nsT ≤ s.now) (tkLastTime (s.trk n.toNat) + s.fallowMs * 1000000))) ∧
  (∃ (n : BitVec 20) (s : State),
    s.fldOn = true ∧ s.runsStages = true ∧ s.fld.cmds.contains (.kill n.toNat) = false ∧ tkSt (s.trk n.toNat) = tkFALLOW ∧ ((fun (d : Nat) => s.csq.running = false ∨ s.cOf s.csq.next < d * nsT + s.cadence ∨ d * nsT ≤ s.now) (SMap.get 0 s.fld.entered n.toNat + s.fallowMax * 1000000000))) :=
  ⟨⟨0, inMem [(12, 1)] up, by decide⟩,
   ⟨0, inMem [(12, 2)] up, by decide⟩,
   ⟨0, inMem [(12, 3)] up, by decide⟩,
   ⟨0, inMem [(12, 4)] up, by decide⟩⟩

theorem witness_SolverCommandsHaveTheirEffect :
  (∃ (id : BitVec 10) (b : List Byte) (s : State),
    s.bseOn = true ∧ s.admitsReg 37 id.toNat .command Reg.BSE_DOORBELL 4 = true ∧ s.batchOk id.toNat b = true ∧ s.batchAdmits id.toNat b = true ∧ s.bse.batches.length < 8) ∧
  (∃ (s : State),
    s.hostOpen .command Reg.BSE_DOORBELL = true ∧ s.batchOk idHost (s.regBytes (Reg.BSE_BATCH_STAGE 0) 16) = true ∧ s.batchAdmits idHost (s.regBytes (Reg.BSE_BATCH_STAGE 0) 16) = true ∧ s.bse.batches.length < 8 ∧ s.bse.nextTag < 256) ∧
  (∃ (l : Fin 32) (x : Batch) (k : Nat) (s : State),
    s.bseOn = true ∧ s.laneFree l.val = true ∧ s.nextProb = some (x, k) ∧ s.msys.damage = [] ∧ s.hdrOk x (s.probHdr x k) = true ∧ s.pastCut x = false) ∧
  (∃ (l : Fin 32) (r : ProblemOutcome) (q : Nat) (k : Nat) (x : Batch) (s : State),
    s.bseOn = true ∧ (s.lane l.val).run = some (q, k) ∧ s.bse.batches.find? (fun b => b.seq == q) = some x ∧ k < x.probs.length ∧ r.lane ≠ .uncorrectable ∧ r.badInput = false ∧ (s.pastCut x = false ∨ r.cut ≠ none) ∧ ((s.takeInjection l.val).probRun x k r.cut).2.2 ≠ .rejected) ∧
  (∃ (g : BitVec 8) (x : Batch) (s : State),
    s.bseOn = true ∧ s.bse.batches.find? (fun b => b.tag == g.toNat && !b.cut && bdDeadline b.desc != 0) = some x) ∧
  (∃ (g : BitVec 8) (x : Batch) (s : State),
    s.bseOn = true ∧ s.bse.batches.find? (fun b => b.tag == g.toNat && b.probs.all (fun p => !p.open)) = some x) ∧
  (∃ (w : W32) (s : State),
    s.hostOpen .write Reg.BSE_INJECT = true ∧ s.feat 9 = true ∧ (fieldOf w 8 2 = 1 ∨ fieldOf w 8 2 = 2)) :=
  ⟨⟨0x0C0, batchB, solving (batch .waiting) wide, by decide⟩,
   ⟨{ (solving (batch .waiting) wide).setRegBytes (Reg.BSE_BATCH_STAGE 0) batchB with bse := { progs := [(0, solver)], nextTag := 255 } }, by decide⟩,
   ⟨30, batch .waiting, 0, solving (batch .waiting) up, by decide⟩,
   ⟨31, outcome, 7, 0, batch (.running 31), solving (batch (.running 31)) up, by decide⟩,
   ⟨255, { batch .waiting with desc := mk 64 [(32, 8, 1)] }, solving { batch .waiting with desc := mk 64 [(32, 8, 1)] } up, by decide⟩,
   ⟨255, batch (.ended 0), solving (batch (.ended 0)) up, by decide⟩,
   ⟨0x200, locked1 0x200 up, by decide⟩⟩

theorem witness_RunAndCadenceCommandsHaveTheirEffect :
  (∃ (s : State),
    s.hostFree Reg.CSQ_CTRL = true ∧ s.lthState = 3 ∧ s.csq.running = false ∧ s.pwr = 3 ∧ s.bit Reg.AON_PWR_STATE 8 = false ∧ s.csq.change = none ∧ 0 < s.cadence ∧ s.regT0 = none ∧ (s.slkConfig = 0 ∨ s.devNo = 0)) ∧
  (∃ (s : State),
    s.hostFree Reg.CSQ_CTRL = true ∧ s.lthState = 3 ∧ s.csq.running = false ∧ s.pwr = 3 ∧ s.bit Reg.AON_PWR_STATE 8 = false ∧ s.csq.change = none ∧ 0 < s.cadence ∧ s.regT0 = none ∧ s.slkConfig ≠ 0 ∧ s.devNo ≠ 0) ∧
  (∃ (s : State) (x : Time),
    s.hostFree Reg.CSQ_CTRL = true ∧ s.lthState = 3 ∧ s.csq.running = false ∧ s.pwr = 3 ∧ s.bit Reg.AON_PWR_STATE 8 = false ∧ s.csq.change = none ∧ 0 < s.cadence ∧ s.regT0 = some x) ∧
  (∃ (s : State),
    s.hostFree Reg.CSQ_CTRL = true ∧ s.csq.running = true ∧ s.csq.stopAt = none) ∧
  (∃ (k : Nat) (s : State),
    s.csq.stopAt = some k ∧ s.csq.running = true ∧ s.csq.cur.active = false ∧ s.csq.segs = []) ∧
  (∃ (x : BitVec 2) (d : Sched) (s : State),
    s.hostOpen .command Reg.CSQ_CAD_REQ = true ∧ s.bit Reg.CSQ_CAD_ST 16 = false ∧ SMap.find? s.csq.scheds x.toNat = some d ∧ s.lthState = 3 ∧ s.csq.t0Set = true) ∧
  (∃ (x : Nat) (k : Nat) (d : Sched) (s : State),
    s.csq.change = some (x, k) ∧ s.csq.running = true ∧ s.csq.cur.active = false ∧ k ≤ s.csq.next ∧ s.csq.t0Set = true ∧ SMap.find? s.csq.scheds x = some d ∧ d.cadence < 2 ^ 32 ∧ k * (d.cadence * usT) ≤ s.tOf k) :=
  ⟨⟨wr [(Reg.LTH_STATE, 3), (Reg.CSQ_CADENCE, 10000)] up, by decide⟩,
   ⟨memberOf (wr [(Reg.LTH_STATE, 3), (Reg.CSQ_CADENCE, 10000)] up), by decide⟩,
   ⟨wr [(Reg.LTH_STATE, 3), (Reg.CSQ_CADENCE, 10000), (Reg.CSQ_T0 0, 8)] up, 8, by decide⟩,
   ⟨{ up with csq := { running := true } }, by decide⟩,
   ⟨5, { up with csq := { running := true, stopAt := some 5 } }, by decide⟩,
   ⟨3, sched, { wr [(Reg.LTH_STATE, 3)] up with csq := { t0Set := true, scheds := [(3, sched)] } }, by decide⟩,
   ⟨3, 0, sched, { up with csq := { change := some (3, 0), running := true, t0Set := true, scheds := [(3, sched)] } }, by decide⟩⟩

theorem witness_StageCommandsHaveTheirEffect :
  (∃ (k : Fin 5) (s : State),
    s.csq.cur.active = true ∧ s.csqOn = true ∧ s.csq.cur.opened.length = k.val ∧ s.csq.cur.closed.length = k.val) ∧
  (∃ (k : Fin 5) (s : State),
    s.csq.cur.active = true ∧ s.csqOn = true ∧ s.csq.cur.opened.contains k.val = true ∧ s.csq.cur.completed.contains k.val = false) ∧
  (∃ (k : Fin 5) (s : State),
    s.csq.cur.active = true ∧ s.csqOn = true ∧ s.csq.cur.opened.length = k.val + 1 ∧ s.csq.cur.closed.length = k.val) :=
  ⟨⟨4, stepAt 4 4, by decide⟩,
   ⟨4, stepAt 5 4, by decide⟩,
   ⟨4, stepAt 5 4, by decide⟩⟩

theorem witness_PublishingCommandsHaveTheirEffect :
  (∃ (s : State),
    s.csq.cur.active = true ∧ s.csqOn = true ∧ s.csq.cur.opened.length = 5 ∧ s.saf.rsPhase ≠ 1) ∧
  (∃ (x : Seg) (r : List Seg) (s : State),
    s.csq.segs = x :: r ∧ x.started = true ∧ s.csLink = true ∧ s.txAssoc s.csPort = none ∧ (s.swPort s.csPort).macsecReq = false ∧ s.saf.rsPhase ≠ 1) ∧
  (∃ (v : W32) (s : State),
    s.hostFree Reg.CSQ_RING_CONS = true ∧ (fun (x : Nat) => (x + 2 ^ 32 - s.regN Reg.CSQ_RING_CONS) % 2 ^ 32) v.toNat ≤ (fun (x : Nat) => (x + 2 ^ 32 - s.regN Reg.CSQ_RING_CONS) % 2 ^ 32) (s.regN Reg.CSQ_RING_PROD)) ∧
  (∃ (v : W32) (s : State),
    s.hostFree Reg.CSQ_RING_CONS = true ∧ (fun (x : Nat) => (x + 2 ^ 32 - s.regN Reg.CSQ_RING_CONS) % 2 ^ 32) (s.regN Reg.CSQ_RING_PROD) < (fun (x : Nat) => (x + 2 ^ 32 - s.regN Reg.CSQ_RING_CONS) % 2 ^ 32) v.toNat) ∧
  (∃ (wide : Bool) (w : BitVec 64) (u : State) (s : State),
    s.hostOpenN .read Reg.CSQ_PF_DATA (if wide then 8 else 4) = true ∧ s.fifoGet 0 idHost = (.ok w, u)) ∧
  (∃ (q : Fin 12) (s : State),
    s.ethLive q.val = true) ∧
  (∃ (q : Fin 12) (s : State),
    s.ethLive q.val = true ∧ s.saf.rsPhase ≠ 1) :=
  ⟨⟨stepAt 5 5, by decide⟩,
   ⟨⟨1, 0, [], true⟩, [], { wr [(Reg.SIC_ETH_STAT 0, 4), (Reg.CSQ_CS_CFG, 0)] up with csq := { segs := [⟨1, 0, [], true⟩] } }, by decide⟩,
   ⟨4, wr [(Reg.CSQ_RING_PROD, 4)] up, by decide⟩,
   ⟨5, wr [(Reg.CSQ_RING_PROD, 4)] up, by decide⟩,
   ⟨true, 5, ((withFifo 0).fifoGet 0 idHost).2, withFifo 0, by decide, rfl⟩,
   ⟨11, up, by decide⟩,
   ⟨11, up, by decide⟩⟩

theorem witness_LathCommandsHaveTheirEffect :
  (∃ (s : State),
    s.hostOpen .command Reg.LTH_CMD = true ∧ s.bit Reg.LTH_CMD_ST 16 = false ∧ s.locked = true ∧ s.bit Reg.CSQ_STATUS 0 = false ∧ (s.lthState = 0 ∨ s.lthState = 3) ∧ s.msys.damage = [] ∧ s.msys.retired = [] ∧ s.sec.refill = false ∧ (s.regN Reg.LTH_SRC_LO + 2 ^ 32 * s.fld' Reg.LTH_SRC_HI 0 16) % 64 = 0 ∧ (s.regN Reg.LTH_LEN) ≤ 0x8000000 ∧ dramData (s.regN Reg.LTH_SRC_LO + 2 ^ 32 * s.fld' Reg.LTH_SRC_HI 0 16) (s.regN Reg.LTH_LEN) = true ∧ s.admits idLth .read (s.regN Reg.LTH_SRC_LO + 2 ^ 32 * s.fld' Reg.LTH_SRC_HI 0 16) (s.regN Reg.LTH_LEN) = true) ∧
  (∃ (s : State),
    s.lthState = 1) ∧
  (∃ (s : State),
    s.hostOpen .command Reg.LTH_CMD = true ∧ s.lthState ≠ 1) ∧
  (∃ (s : State),
    s.hostOpen .command Reg.LTH_CMD = true ∧ s.lthState = 1) ∧
  (∃ (s : State),
    s.hostOpen .command Reg.LTH_CMD = true ∧ s.bit Reg.LTH_CMD_ST 16 = false ∧ s.lthState = 3) ∧
  (∃ (s : State),
    s.lth.busyOp = 3) ∧
  (∃ (s : State),
    s.hostOpen .command Reg.LTH_CMD = true ∧ s.bit Reg.LTH_CMD_ST 16 = false ∧ s.lthState = 3 ∧ s.bit Reg.CSQ_STATUS 0 = false) ∧
  (∃ (s : State),
    s.lthState = 4 ∧ s.bit Reg.MEM_FILL_ST 0 = true) :=
  ⟨⟨locked1 1 (wr [(Reg.LTH_SRC_LO, 0), (Reg.LTH_SRC_HI, 0x10), (Reg.LTH_LEN, 64)] up), by decide⟩,
   ⟨wr [(Reg.LTH_STATE, 1)] up, by decide⟩,
   ⟨up, by decide⟩,
   ⟨wr [(Reg.LTH_STATE, 1)] up, by decide⟩,
   ⟨wr [(Reg.LTH_STATE, 3)] up, by decide⟩,
   ⟨{ up with lth := { busyOp := 3 } }, by decide⟩,
   ⟨wr [(Reg.LTH_STATE, 3)] up, by decide⟩,
   ⟨wr [(Reg.LTH_STATE, 4), (Reg.MEM_FILL_ST, 1)] up, by decide⟩⟩

theorem witness_MemoryCommandsHaveTheirEffect :
  (∃ (s : State),
    s.memOn = true ∧ s.bit Reg.MEM_FILL_ST 0 = false) ∧
  (∃ (s : State),
    s.memOn = true ∧ s.sec.refill = true ∧ s.msys.keyed = true) ∧
  (∃ (l : MemLoc) (a : Nat) (n : Nat) (s : State),
    s.memOn = true ∧ s.bit Reg.MEM_CTRL 0 = true ∧ s.scrubs l = some (a, n)) ∧
  (∃ (o : Nat) (n : Nat) (s : State),
    s.islandOn = true ∧ o < 0x200000 ∧ n = 0) ∧
  (∃ (o : Nat) (n : Nat) (s : State),
    s.islandOn = true ∧ o < 0x200000 ∧ n = 1) ∧
  (∃ (o : Nat) (n : Nat) (s : State),
    s.islandOn = true ∧ o < 0x200000 ∧ 2 ≤ n) ∧
  (∃ (s : State),
    s.memOn = true) ∧
  (∃ (s : State),
    s.hostOpen .command Reg.MEM_RET_CMD = true ∧ s.bit Reg.MEM_RET_ST 16 = false ∧ s.retireCode (s.reg64 Reg.MEM_RET_STAGE_LO) = DONE ∧ s.msys.retired.contains (s.reg64 Reg.MEM_RET_STAGE_LO) = false) ∧
  (∃ (w : W32) (s : State),
    s.hostOpen .write Reg.MEM_INJECT = true ∧ s.feat 9 = true ∧ w.getLsbD 8 = true ∧ (hurdleOf (s.regN Reg.MEM_INJ_ADDR_LO + 2 ^ 32 * s.fld' Reg.MEM_INJ_ADDR_HI 0 16)).isSome = true ∧ 1 ≤ fieldOf w 1 3 ∧ if w.getLsbD 0 then dramBase ≤ (s.regN Reg.MEM_INJ_ADDR_LO + 2 ^ 32 * s.fld' Reg.MEM_INJ_ADDR_HI 0 16) else fieldOf w 1 3 ≤ 2 ∧ (s.regN Reg.MEM_INJ_ADDR_LO + 2 ^ 32 * s.fld' Reg.MEM_INJ_ADDR_HI 0 16) < dramBase) :=
  ⟨⟨up, by decide⟩,
   ⟨{ up with sec := { refill := true }, msys := { keyed := true } }, by decide⟩,
   ⟨.sram 37 0, 37, 0, wr [(Reg.MEM_CTRL, 1)] up, by decide⟩,
   ⟨0x1FFFFF, 0, up, by decide⟩,
   ⟨0x1FFFFF, 1, up, by decide⟩,
   ⟨0x1FFFFF, 2, up, by decide⟩,
   ⟨up, by decide⟩,
   ⟨wr [(Reg.MEM_RET_STAGE_LO, 0), (Reg.MEM_RET_STAGE_HI, 0x40000010)] up, by decide⟩,
   ⟨0x103, locked1 0x200 (wr [(Reg.MEM_INJ_ADDR_LO, 0), (Reg.MEM_INJ_ADDR_HI, 0x10)] up), by decide⟩⟩

theorem witness_CrossingFifosPassTheirWords :
  (∃ (f : FifoId) (s : State),
    s.powered (fifoDomain f) = true) ∧
  (∃ (f : FifoId) (s : State),
    s.powered (fifoDomain f) = true) ∧
  (∃ (f : FifoId) (w : W64) (g : XFifo) (s : State),
    f ≠ .publish ∧ s.powered (fifoDomain f) = true ∧ (s.fifo (FifoId.num f)).get = (w, false, g)) ∧
  (∃ (w : W64) (g : XFifo) (s : State),
    s.hostOpenN .read Reg.CSQ_PF_DATA 8 = true ∧ (s.fifo 0).get = (w, false, g)) :=
  ⟨⟨.mboxVerdict, up, by decide⟩,
   ⟨.sicCsi 11, up, by decide⟩,
   ⟨.mboxFcu, 5, ((withFifo (FifoId.num .mboxFcu)).fifo (FifoId.num .mboxFcu)).get.2.2, withFifo (FifoId.num .mboxFcu), by decide, by decide, rfl⟩,
   ⟨5, ((withFifo 0).fifo 0).get.2.2, withFifo 0, by decide, rfl⟩⟩

theorem witness_SafetyCommandsHaveTheirEffect :
  (∃ (p : PairId) (s : State),
    s.powered 88 = true ∧ (s.pair p).up = true) ∧
  (∃ (p : PairId) (s : State),
    s.powered 88 = true ∧ (s.pair p).up = false ∧ (s.pair p).stuck = false) ∧
  (∃ (p : PairId) (s : State),
    s.powered 88 = true ∧ (s.pair p).up = true ∧ (s.pair (PairId.other p)).up = true ∧ (s.pair p).missStep ≠ some s.stepNo) ∧
  (∃ (s : State),
    s.islandOn = true ∧ 1 ≤ s.level) ∧
  (∃ (v : Bool) (s : State),
    s.powered 88 = true ∧ s.saf.safeReq = v) ∧
  (∃ (k : Fin 5) (g : WdSignal) (s : State),
    s.csq.cur.active = true ∧ s.saf.pairA.up = true ∧ (match g with | .openSig => s.csq.cur.opened | .closeSig => s.csq.cur.closed | .completion => s.csq.cur.completed).contains k.val = false ∧ s.csq.cur.wd.contains (3 * k.val + WdSignal.num g) = false) ∧
  (∃ (s : State),
    s.bit Reg.SAF_COND 0 = true ∧ s.fld' Reg.SAF_HOLD 16 16 ≤ s.saf.startup) ∧
  (∃ (s : State),
    s.bit Reg.SAF_COND 7 = true ∧ s.fld' Reg.SAF_HOLD 0 16 ≤ s.saf.checkRun) ∧
  (∃ (s : State) (l : BitVec 3),
    s.hostOpen .command Reg.SAF_CMD = true ∧ s.bit Reg.SAF_CMD_ST 16 = false ∧ l.toNat ≤ 3) ∧
  (∃ (s : State),
    s.hostOpen .command Reg.SAF_CMD = true ∧ s.bit Reg.SAF_CMD_ST 16 = false) ∧
  (∃ (s : State),
    s.hostOpen .command Reg.SAF_CMD = true ∧ s.bit Reg.SAF_CMD_ST 16 = false ∧ s.bit Reg.SAF_COND 15 = true) ∧
  (∃ (s : State),
    s.hostOpen .command Reg.SAF_CMD = true ∧ s.bit Reg.SAF_CMD_ST 16 = false ∧ s.bit Reg.SAF_COND 15 = false) :=
  ⟨⟨.a, up, by decide⟩,
   ⟨.b, { up with saf := { pairB := { up := false } } }, by decide⟩,
   ⟨.b, up, by decide⟩,
   ⟨wr [(Reg.SAF_STATUS, 1)] up, by decide⟩,
   ⟨true, { up with saf := { safeReq := true } }, by decide⟩,
   ⟨4, .completion, stepAt 5 4, by decide⟩,
   ⟨{ wr [(Reg.SAF_COND, 1)] up with saf := { startup := 65535 } }, by decide⟩,
   ⟨{ wr [(Reg.SAF_COND, 0x80)] up with saf := { checkRun := 65535 } }, by decide⟩,
   ⟨up, 3, by decide⟩,
   ⟨up, by decide⟩,
   ⟨wr [(Reg.SAF_COND, 0x8000)] up, by decide⟩,
   ⟨up, by decide⟩⟩

theorem witness_FallbackCommandsHaveTheirEffect :
  (∃ (n : BitVec 8) (b : List Byte) (u' s : State),
    s.fbOn = true ∧ 4 ≤ (s.fifo 31).drain.length ∧ s.clusterSlot = n.toNat ∧ s.takeCluster = (b, u') ∧ b.length = 32) ∧
  (∃ (m : MotionSample) (s : State),
    s.fbOn = true ∧ s.toSaf m.slot.toNat = true ∧ s.forwards m.slot.toNat = true) ∧
  (∃ (n : BitVec 8) (b : List Byte) (s : State),
    s.fbOn = true ∧ s.toSaf n.toNat = true ∧ s.forwards n.toNat = true ∧ s.egoStatic = true ∧ s.bit Reg.SAF_CTRL 2 = true ∧ bits (u b 7 1) 5 1 = 1 ∧ 2 ≤ u b 6 1) ∧
  (∃ (k : BitVec 8) (f : FbTrk) (s : State),
    s.fbOn = true ∧ SMap.find? s.saf.fb k.toNat = some f) ∧
  (∃ (s : State),
    s.fbOn = true ∧ s.egoStatic = false) :=
  ⟨⟨BitVec.ofNat 8 clusters.clusterSlot, clusters.takeCluster.1, clusters.takeCluster.2, clusters, by decide, by decide, by decide, rfl, by decide⟩,
   ⟨⟨255, 0, some 0, none⟩, withSlot 255 (slotOf [(28, 1, 8)]) up, by decide⟩,
   ⟨255, mk 8 [(6, 1, 2), (7, 1, 0x20)], withSlot 255 (slotOf [(28, 1, 8)]) (wr [(Reg.EGO_CTRL, 2), (Reg.SAF_CTRL, 4)] up), by decide⟩,
   ⟨255, { st := 2, gen := 0, x := 0, y := 0, speed := 0, heading := 0, yawRate := 0, cov := [], born := 0, last := 0 }, { up with saf := { fb := [(255, { st := 2, gen := 0, x := 0, y := 0, speed := 0, heading := 0, yawRate := 0, cov := [], born := 0, last := 0 })] } }, by decide⟩,
   ⟨up, by decide⟩⟩

theorem witness_LinkPortCommandsHaveTheirEffect :
  (∃ (p : Fin 6) (s : State),
    s.linkOn p.val = true ∧ (s.linkPort p.val).up = false) ∧
  (∃ (p : Fin 6) (h : LinkHdr) (s : State),
    s.linkTakes p.val 1 h = true ∧ (s.linkPort p.val).txq = []) ∧
  (∃ (p : Fin 6) (s : State),
    (s.linkPort p.val).retry ≠ []) ∧
  (∃ (p : Fin 6) (h : LinkHdr) (m : Hello) (s : State),
    s.linkTakes p.val 2 h = true ∧ s.helloGood p.val h m = true ∧ (s.linkPort p.val).held = false ∧ (s.linkPort p.val).phase = 1) ∧
  (∃ (p : Fin 6) (h : LinkHdr) (s : State),
    s.linkTakes p.val 6 h = true) ∧
  (∃ (p : Fin 6) (h : LinkHdr) (s : State),
    s.linkTakes p.val 3 h = true ∧ lowestMissing s.featReq (if s.locked then s.featDrv else 0) = none ∧ (s.linkPort p.val).phase = 3) ∧
  (∃ (p : Fin 6) (h : LinkHdr) (m : EpochMsg) (s : State),
    s.linkTakes p.val 5 h = true ∧ s.epoch ≤ m.epoch.toNat ∧ s.devNo ≠ 0) :=
  ⟨⟨5, wr [(Reg.SLK_CTRL, 1)] up, by decide⟩,
   ⟨5, hdr 0 9, linkAt 0 5 {} up, by decide⟩,
   ⟨5, { up with slk := { ports := [(5, { retry := [⟨5, 2, 0, 0, 0, 0, 0, [], 0⟩] })] } }, by decide⟩,
   ⟨5, hdr 1 0, ⟨1, 0, 0, 0, 0, 0, 0⟩, linkAt 0 1 { expect := 1 } up, by decide⟩,
   ⟨5, hdr 1 0, linkAt 0 1 {} up, by decide⟩,
   ⟨5, hdr 1 0, linkAt 0 3 { peer := 1 } up, by decide⟩,
   ⟨5, hdr 0 0, ⟨5, 3, 0, 1⟩, memberOf (linkAt 3 5 {} up), by decide⟩⟩

theorem witness_LinkFramesOutOfFormAreNotTaken :
  (∃ (p : Nat) (h : LinkHdr) (s : State),
    s.linkOn p = true ∧ (s.linkPort p).up = true ∧ (h.hcrcOk = false ∨ h.pcrcOk = false)) ∧
  (∃ (p : Nat) (h : LinkHdr) (s : State),
    s.linkOn p = true ∧ (s.linkPort p).up = true ∧ h.hcrcOk = true ∧ h.pcrcOk = true ∧ h.lenOk = false) ∧
  (∃ (p : Nat) (type : Nat) (h : LinkHdr) (s : State),
    s.linkOn p = true ∧ (s.linkPort p).up = true ∧ h.hcrcOk = true ∧ h.pcrcOk = true ∧ h.lenOk = true ∧ h.len ≤ 8192 ∧ h.len % 8 = 0 ∧ type ≠ 1 ∧ (s.linkPort p).rxSeq = (h.lseq.toNat + 1) % 2 ^ 32) ∧
  (∃ (p : Nat) (type : Nat) (h : LinkHdr) (s : State),
    s.linkOn p = true ∧ (s.linkPort p).up = true ∧ 0x10 ≤ type ∧ h.hcrcOk = true ∧ h.pcrcOk = true ∧ h.lenOk = true ∧ h.len ≤ 8192 ∧ h.len % 8 = 0 ∧ h.reservedZero = true ∧ h.lseq.toNat = (s.linkPort p).rxSeq ∧ (s.linkPort p).held = false ∧ s.srcOk p type h = true ∧ (s.linkPort p).phase = 5 ∧ (h.all = true ∨ h.dstDev.toNat = s.devNo) ∧ h.epoch.toNat < s.epoch) :=
  ⟨⟨5, { hdr 0 0 with hcrcOk := false }, linkAt 3 5 {} up, by decide⟩,
   ⟨5, { hdr 0 0 with lenOk := false }, linkAt 3 5 {} up, by decide⟩,
   ⟨5, 0x10, hdr 0 0, linkAt 3 5 { rxSeq := 1 } up, by decide⟩,
   ⟨5, 0x10, hdr 0 0, wr [(Reg.SLK_EPOCH, 1)] (memberOf (linkAt 3 5 {} up)), by decide⟩⟩

theorem witness_PairCommandsHaveTheirEffect :
  (∃ (p : Fin 6) (h : LinkHdr) (l : List DeltaRec) (s : State),
    s.linkTakes p.val 0x10 h = true ∧ s.takesDelta = true ∧ l.all (fun r => recForm r.slot.toNat r.bytes) = true) ∧
  (∃ (p : Fin 6) (h : LinkHdr) (l : List KvItem) (s : State),
    s.linkTakes p.val 0x11 h = true ∧ s.takesDelta = true ∧ l.all (fun k => k.bytes.length == s.entrySize) = true) ∧
  (∃ (p : Fin 6) (h : LinkHdr) (l : List SeqItem) (s : State),
    s.linkTakes p.val 0x12 h = true ∧ s.takesDelta = true ∧ l.all (fun q => q.state.toNat ≤ 2) = true) ∧
  (∃ (p : Fin 6) (h : LinkHdr) (s : State),
    s.linkTakes p.val 0x13 h = true ∧ s.takesDelta = true) ∧
  (∃ (p : Fin 6) (h : LinkHdr) (s : State),
    s.linkTakes p.val 0x14 h = true ∧ s.slk.role = rolePRIMARY) ∧
  (∃ (s : State),
    s.slk.role = rolePRIMARY ∧ 3 ≤ s.slk.noAck) ∧
  (∃ (p : Fin 6) (h : LinkHdr) (s : State),
    s.linkTakes p.val 0x15 h = true) ∧
  (∃ (k : Nat) (s : State),
    s.slk.lastStep = some k ∧ s.slk.role = roleMIRROR ∧ s.csq.t0Set = true) ∧
  (∃ (p : Fin 6) (h : LinkHdr) (s : State),
    s.linkTakes p.val 0x16 h = true ∧ s.slk.role = roleMIRROR) ∧
  (∃ (k : Nat) (s : State),
    s.slk.handoff = some k) ∧
  (∃ (s : State),
    s.hostOpen .command Reg.SLK_CMD = true ∧ s.bit Reg.SLK_CMD_ST 16 = false ∧ s.slk.role = rolePRIMARY ∧ s.slk.peerMirror = true) ∧
  (∃ (s : State),
    s.hostOpen .command Reg.SLK_CMD = true ∧ s.bit Reg.SLK_CMD_ST 16 = false ∧ s.slk.role = roleMIRROR) ∧
  (∃ (s : State) (p : BitVec 3),
    s.hostOpen .command Reg.SLK_CMD = true ∧ s.bit Reg.SLK_CMD_ST 16 = false ∧ p.toNat < 6 ∧ (s.linkPort p.toNat).held = true) :=
  ⟨⟨5, hdr 0 0, [⟨0xFFFFF, mk 256 [], 0⟩], memberOf (linkAt roleMIRROR 5 {} up), by decide⟩,
   ⟨5, hdr 0 0, [⟨0xFFFFF, mk 128 []⟩], wr [(Reg.TAC_ENTRY_CFG, 0x10700)] (memberOf (linkAt roleMIRROR 5 {} up)), by decide⟩,
   ⟨5, hdr 0 0, [⟨0xFFFFF, 2, 3, 4⟩], memberOf (linkAt roleMIRROR 5 {} up), by decide⟩,
   ⟨5, hdr 0 0, memberOf (linkAt roleMIRROR 5 {} up), by decide⟩,
   ⟨5, hdr 1 0, linkAt rolePRIMARY 5 { peer := 1 } up, by decide⟩,
   ⟨{ up with slk := { role := rolePRIMARY, noAck := 3 } }, by decide⟩,
   ⟨5, hdr 0 0, memberOf (linkAt roleMIRROR 5 {} up), by decide⟩,
   ⟨5, { up with slk := { role := roleMIRROR, lastStep := some 5 }, csq := { t0Set := true } }, by decide⟩,
   ⟨5, hdr 0 0, memberOf (linkAt roleMIRROR 5 {} up), by decide⟩,
   ⟨9, { up with slk := { handoff := some 9 } }, by decide⟩,
   ⟨{ up with slk := { role := rolePRIMARY, peerMirror := true } }, by decide⟩,
   ⟨{ up with slk := { role := roleMIRROR } }, by decide⟩,
   ⟨{ up with slk := { ports := [(5, { held := true })] } }, 5, by decide⟩⟩

theorem witness_DroveCommandsHaveTheirEffect :
  (∃ (n : BitVec 6) (s : State),
    s.slk.role = roleBELLWETHER ∧ n.toNat ≠ 0 ∧ s.member n.toNat = true) ∧
  (∃ (s : State),
    s.slk.role = roleMEMBER ∧ s.slk.bellLost = false) ∧
  (∃ (p : Fin 6) (h : LinkHdr) (s : State),
    s.linkTakes p.val 0x25 h = true ∧ s.slk.role = roleBELLWETHER ∧ s.member h.srcDev.toNat = true) ∧
  (∃ (m : BitVec 6) (s : State),
    s.hostFree (Reg.SLK_MRING_CONS m.toNat) = true) ∧
  (∃ (p : Fin 6) (h : LinkHdr) (l : List FwdDet) (s : State),
    s.linkTakes p.val 0x20 h = true ∧ s.inDrove = true ∧ s.powered 97 = true ∧ l.all (fun d => s.fwdMine d && s.detOk d.bytes) = true) ∧
  (∃ (p : Fin 6) (h : LinkHdr) (l : List Claim) (s : State),
    s.linkTakes p.val 0x21 h = true ∧ s.inDrove = true ∧ l.all (fun c => c.origin.toNat == s.devNo) = true) ∧
  (∃ (s : State),
    s.fldOn = true ∧ s.runsStages = true) ∧
  (∃ (p : Fin 6) (h : LinkHdr) (c : TrackCopy) (q : Pasture) (n : Nat) (s : State),
    s.linkTakes p.val 0x22 h = true ∧ s.inDrove = true ∧ s.myPasture = some q ∧ q.holds (tkX c.bytes 0) (tkX c.bytes 1) = true ∧ s.slk.installs.find? (fun r => r.gid == tkGid c.bytes) = none ∧ s.freeHead = some n ∧ n < 0x100000 ∧ s.admitsReg 37 idFld .command Reg.TAC_CMD_SEQ 4 = true ∧ s.seqSt n = 0 ∧ s.flockSt (tkFlock c.bytes) = 1 ∧ s.fld' (Reg.TAC_FLOCK_SEQ (tkFlock c.bytes)) 0 20 < s.fld' (Reg.TAC_FLOCK_LIM (tkFlock c.bytes)) 0 20 ∧ s.activeFull = false) ∧
  (∃ (p : Fin 6) (h : LinkHdr) (gid : BitVec 64) (g : Handing) (s : State),
    s.linkTakes p.val 0x23 h = true ∧ s.slk.handing.find? (fun g => g.gid == gid.toNat && g.dev == h.srcDev.toNat && !g.acked) = some g) ∧
  (∃ (p : Fin 6) (h : LinkHdr) (s : State),
    s.linkTakes p.val 0x24 h = true) ∧
  (∃ (n : BitVec 20) (g : Handing) (s : State),
    s.slk.handing.find? (fun g => g.slot == n.toNat) = some g) ∧
  (∃ (n : BitVec 20) (r : Nat × Nat) (s : State),
    s.slk.retry.find? (fun r => r.1 == n.toNat) = some r ∧ (s.csq.running = false ∨ r.2 ≤ s.stepNo)) :=
  ⟨⟨63, wr [(Reg.SLK_MEMBERS_LO, 2), (Reg.SLK_MEMBERS_HI, 0x80000000)] (linkAt roleBELLWETHER 5 {} up), by decide⟩,
   ⟨{ up with slk := { role := roleMEMBER } }, by decide⟩,
   ⟨5, hdr 1 0, wr [(Reg.SLK_MEMBERS_LO, 2), (Reg.SLK_MEMBERS_HI, 0x80000000)] (linkAt roleBELLWETHER 5 { peer := 1 } up), by decide⟩,
   ⟨63, up, by decide⟩,
   ⟨5, hdr 0 0, [], memberOf (linkAt roleMEMBER 5 {} up), by decide⟩,
   ⟨5, hdr 0 0, [⟨1, 255, 0xFFFF⟩], memberOf (linkAt roleMEMBER 5 {} up), by decide⟩,
   ⟨up, by decide⟩,
   ⟨5, hdr 0 0, ⟨1, mk 256 [], [], 5⟩, ⟨1, -1, -1, 1, 1⟩, 0, (let s := memberOf (linkAt roleMEMBER 5 {} (wr [(Reg.TAC_FLOCK_SEQ 0, 0x100000), (Reg.TAC_FLOCK_LIM 0, 1), (Reg.TAC_ACTIVE_MAX, 1)] wide)); { s with slk := { s.slk with pastures := [⟨1, -1, -1, 1, 1⟩] } }), by decide⟩,
   ⟨5, hdr 1 0, 77, ⟨7, 77, 1, 5, false⟩, (let s := linkAt roleBELLWETHER 5 { peer := 1 } up; { s with slk := { s.slk with handing := [⟨7, 77, 1, 5, false⟩] } }), by decide⟩,
   ⟨5, hdr 1 0, linkAt roleBELLWETHER 5 { peer := 1 } up, by decide⟩,
   ⟨7, ⟨7, 77, 1, 5, false⟩, { up with slk := { handing := [⟨7, 77, 1, 5, false⟩] } }, by decide⟩,
   ⟨7, (7, 0), { up with slk := { retry := [(7, 0)] } }, by decide⟩⟩

theorem witness_SecurityCommandsThatEndAtOnce :
  (∃ (s : State),
    s.hostOpen .command Reg.SEC_CMD = true ∧ s.bit Reg.SEC_CMD_ST 16 = false) :=
  ⟨up, by decide⟩

theorem witness_SecurityCommandsThatTakeTime :
  (∃ (s : State),
    s.hostOpen .command Reg.SEC_CMD = true ∧ s.bit Reg.SEC_CMD_ST 16 = false) ∧
  (∃ (b : SecBusy) (s : State),
    s.powered 89 = true ∧ s.sec.busy = some b ∧ (b.op = 7 → s.sec.authFails < 2)) ∧
  (∃ (s : State),
    s.hostOpen .command Reg.SEC_CMD = true ∧ s.bit Reg.SEC_CMD_ST 16 = false) :=
  ⟨⟨up, by decide⟩,
   ⟨{ op := 7 }, { up with sec := { authFails := 1, busy := some { op := 7 } } }, by decide⟩,
   ⟨up, by decide⟩⟩

theorem witness_AlarmsActByTheirPolicy :
  (∃ (m : BitVec 6) (s : State),
    s.aon.porLow = false ∧ s.pwr ≠ 1 ∧ s.sec.busy = none ∧ m = 0) ∧
  (∃ (m : BitVec 6) (s : State) (p : Nat),
    s.aon.porLow = false ∧ s.pwr ≠ 1 ∧ s.sec.busy = none ∧ m ≠ 0 ∧ p = ((List.range 6).filter m.getLsbD).foldl (fun x k => max x (s.alarmEff k)) 0) ∧
  (∃ (s : State),
    s.powered 89 = true ∧ s.aon.porLow = false) ∧
  (∃ (s : State),
    s.hostFree Reg.SEC_ALARM_POL = true) :=
  ⟨⟨0, up, by decide⟩,
   ⟨63, wr [(Reg.SEC_ALARM_POL, 0xFFF)] up, 3, by decide⟩,
   ⟨up, by decide⟩,
   ⟨up, by decide⟩⟩

theorem witness_PowerCommandsHaveTheirEffect :
  (∃ (s : State),
    s.hostOpen .command Reg.AON_PWR_CMD = true ∧ s.bit Reg.AON_PWR_CMD_ST 16 = false ∧ s.standbyOk = true ∧ s.inTransition = false) ∧
  (∃ (s : State),
    s.hostOpen .command Reg.AON_PWR_CMD = true ∧ s.bit Reg.AON_PWR_CMD_ST 16 = false ∧ s.pwr = 2 ∧ s.inTransition = false) ∧
  (∃ (s : State),
    s.hostOpen .command Reg.AON_PWR_CMD = true ∧ s.bit Reg.AON_PWR_CMD_ST 16 = false ∧ s.standbyOk = false) ∧
  (∃ (s : State),
    s.hostOpen .command Reg.AON_PWR_CMD = true ∧ s.bit Reg.AON_PWR_CMD_ST 16 = false ∧ s.pwr ≠ 2) ∧
  (∃ (s : State),
    s.inTransition = false) ∧
  (∃ (s : State),
    s.inTransition = true) :=
  ⟨⟨up, by decide⟩,
   ⟨wr [(Reg.AON_PWR_STATE, 2)] up, by decide⟩,
   ⟨wr [(Reg.CSQ_STATUS, 1)] up, by decide⟩,
   ⟨up, by decide⟩,
   ⟨up, by decide⟩,
   ⟨wr [(Reg.AON_PWR_STATE, 0x102)] up, by decide⟩⟩

theorem witness_WakeSourcesStartTheDevice :
  (∃ (s : State),
    s.pwr = 1 ∧ s.inTransition = false ∧ s.aon.wakePend = 0) ∧
  (∃ (s : State) (n : Fin 4) (us : Nat),
    s.pwr = 1 ∧ s.inTransition = false ∧ s.aon.wakePend = 0 ∧ s.bit Reg.AON_WAKE_CFG (1 + n.val) = true ∧ s.fld' Reg.AON_WAKE_CFG 8 6 < us) ∧
  (∃ (s : State),
    s.pwr = 1 ∧ s.inTransition = false ∧ s.aon.wakePend = 0 ∧ s.bit Reg.AON_WAKE_CFG 5 = true ∧ s.hif.perstLow = true) ∧
  (∃ (s : State),
    s.pwr = 1 ∧ s.inTransition = false ∧ s.aon.wakePend = 0 ∧ s.bit Reg.AON_WAKE_CFG 6 = true ∧ s.regN Reg.AON_WAKE_TIMER ≠ 0) ∧
  (∃ (s : State),
    s.bit Reg.AON_WAKE_CFG 0 = false) ∧
  (∃ (s : State) (n : Fin 4) (us : Nat),
    (s.bit Reg.AON_WAKE_CFG (1 + n.val) = false ∨ us ≤ s.fld' Reg.AON_WAKE_CFG 8 6)) ∧
  (∃ (s : State),
    (s.bit Reg.AON_WAKE_CFG 6 = false ∨ s.regN Reg.AON_WAKE_TIMER = 0)) ∧
  (∃ (s : State),
    (s.pwr ≠ 1 ∨ s.aon.wakePend = 0)) ∧
  (∃ (s : State),
    s.pwr = 1 ∧ s.aon.wakePend ≠ 0) :=
  ⟨⟨wr [(Reg.AON_PWR_STATE, 1)] up, by decide⟩,
   ⟨wr [(Reg.AON_PWR_STATE, 1), (Reg.AON_WAKE_CFG, 0x3F10)] up, 3, 64, by decide⟩,
   ⟨{ wr [(Reg.AON_PWR_STATE, 1), (Reg.AON_WAKE_CFG, 0x20)] up with hif := {} }, by decide⟩,
   ⟨wr [(Reg.AON_PWR_STATE, 1), (Reg.AON_WAKE_CFG, 0x40), (Reg.AON_WAKE_TIMER, 1)] up, by decide⟩,
   ⟨wr [(Reg.AON_WAKE_CFG, 0)] up, by decide⟩,
   ⟨wr [(Reg.AON_PWR_STATE, 1), (Reg.AON_WAKE_CFG, 0x3F10)] up, 3, 63, by decide⟩,
   ⟨wr [(Reg.AON_WAKE_CFG, 0x40), (Reg.AON_WAKE_TIMER, 0)] up, by decide⟩,
   ⟨up, by decide⟩,
   ⟨{ wr [(Reg.AON_PWR_STATE, 1)] up with aon := { wakePend := 1 } }, by decide⟩⟩

theorem witness_ResetsClearAndKeepTheirParts :
  (∃ (s : State),
    s.sec.busy = none ∧ s.lth.busyOp ≠ 3) ∧
  (∃ (s : State),
    s.sec.busy = none ∧ s.lth.busyOp ≠ 3 ∧ s.aon.supplies = true) ∧
  (∃ (s : State),
    s.sec.busy = none ∧ s.lth.busyOp ≠ 3 ∧ s.aon.supplies = false) ∧
  (∃ (s : State),
    (s.aon.porLow = false ∨ s.aon.supplies = false)) ∧
  (∃ (s : State),
    s.aon.porLow = true ∧ s.aon.supplies = true) ∧
  (∃ (ns : Nat) (s : State),
    (ns < 1000 ∨ s.aon.porLow = true ∨ s.pwr = 1)) ∧
  (∃ (ns : Nat) (s : State),
    1000 ≤ ns ∧ s.aon.porLow = false ∧ s.pwr ≠ 1) ∧
  (∃ (s : State),
    s.hostOpen .command Reg.AON_RST_CMD = true ∧ s.bit Reg.AON_RST_ST 16 = false) ∧
  (∃ (s : State),
    s.hostOpen .command Reg.AON_RST_CMD = true ∧ s.bit Reg.AON_RST_ST 16 = false ∧ s.bit Reg.CSQ_STATUS 0 = false) ∧
  (∃ (s : State) (n : BitVec 6),
    s.hostOpen .command Reg.AON_RST_CMD = true ∧ s.bit Reg.AON_RST_ST 16 = false ∧ n.toNat < 34 ∧ (s.tile n.toNat).st = .active ∧ s.bit Reg.CSQ_STATUS 0 = false) ∧
  (∃ (s : State),
    s.powered 91 = true) ∧
  (∃ (s : State),
    s.hostUp = true) :=
  ⟨⟨up, by decide⟩,
   ⟨up, by decide⟩,
   ⟨{ up with aon := { supplies := false } }, by decide⟩,
   ⟨up, by decide⟩,
   ⟨State.reset, by decide⟩,
   ⟨999, up, by decide⟩,
   ⟨1000, up, by decide⟩,
   ⟨up, by decide⟩,
   ⟨up, by decide⟩,
   ⟨tileOn 33 { st := .active } up, 33, by decide⟩,
   ⟨up, by decide⟩,
   ⟨up, by decide⟩⟩

theorem witness_StartUpEventsAreRecorded :
  (∃ (s : State),
    s.powered 91 = true ∧ s.hif.perstLow = false ∧ s.aon.porLow = false) ∧
  (∃ (s : State),
    s.aon.booting = true ∧ s.powered 91 = true ∧ s.aon.porLow = false ∧ (s.sec.halt.isSome = true ∨ s.fld' Reg.MEM_FILL_ST 0 2 = 3)) ∧
  (∃ (k : Fin 8) (s : State),
    s.pllRuns k.val = true) ∧
  (∃ (k : Fin 8) (s : State),
    s.pllRuns k.val = false) ∧
  (∃ (k : Fin 34) (s : State),
    s.powered k.val = true ∧ (s.tile k.val).st = .waking ∧ s.tca.swap = none ∧ s.bit Reg.AON_PLL_ST 0 = true) ∧
  (∃ (s : State),
    s.aon.porLow = false) ∧
  (∃ (s : State),
    s.aon.porLow = false) :=
  ⟨⟨up, by decide⟩,
   ⟨{ wr [(Reg.MEM_FILL_ST, 3)] up with aon := { porLow := false } }, by decide⟩,
   ⟨7, up, by decide⟩,
   ⟨7, State.reset, by decide⟩,
   ⟨33, tileOn 33 { st := .waking } (wr [(Reg.AON_PLL_ST, 1)] up), by decide⟩,
   ⟨up, by decide⟩,
   ⟨up, by decide⟩⟩

theorem witness_FeatureHandshakeLocksAndUnlocks :
  (∃ (s : State),
    s.hostOpen .command Reg.HIF_FEAT_CTRL = true ∧ ((s.bit Reg.HIF_FEAT_ST 16 = true ∨ s.locked = true))) ∧
  (∃ (s : State),
    s.hostOpen .command Reg.HIF_FEAT_CTRL = true ∧ s.bit Reg.HIF_FEAT_ST 16 = false ∧ s.locked = false ∧ (List.range 5).all (fun c => c == 0 || (List.range 256).all (fun k => !featFails s c k)) = true) ∧
  (∃ (s : State) (c : Nat) (k : Nat),
    s.hostOpen .command Reg.HIF_FEAT_CTRL = true ∧ s.bit Reg.HIF_FEAT_ST 16 = false ∧ s.locked = false ∧ 1 ≤ c ∧ c ≤ 4 ∧ k < 256 ∧ featFails s c k = true ∧ (∀ j < k, featFails s c j = false) ∧ (List.range c).all (fun d => d == 0 || (List.range 256).all (fun j => !featFails s d j)) = true) ∧
  (∃ (s : State),
    s.hostOpen .command Reg.HIF_FEAT_CTRL = true ∧ s.lthState ≠ 0) ∧
  (∃ (s : State),
    s.hostOpen .command Reg.HIF_FEAT_CTRL = true ∧ s.lthState = 0 ∧ s.bit Reg.HIF_FEAT_ST 16 = false) ∧
  (∃ (s : State) (d : BitVec 64),
    s.hostOpen .command Reg.HIF_FEAT_CTRL = true ∧ d.setWidth 32 = (3 : W32)) ∧
  (∃ (k : Fin 8) (s : State),
    s.hostOpen .write (Reg.HIF_FEAT_DRV k) = true ∧ s.locked = true) ∧
  (∃ (s : State),
    s.powered 91 = true) ∧
  (∃ (s : State),
    s.hostUp = true) ∧
  (∃ (s : State) (ns : Nat),
    1000 ≤ ns ∧ s.aon.porLow = false ∧ s.pwr ≠ 1) ∧
  (∃ (s : State),
    s.aon.supplies = true) ∧
  (∃ (s : State),
    s.hostOpen .command Reg.AON_RST_CMD = true ∧ s.bit Reg.AON_RST_ST 16 = false) :=
  ⟨⟨locked1 1 up, by decide⟩,
   ⟨wr [(Reg.HIF_FEAT_DRV 0, 3)] up, by decide⟩,
   ⟨wr [(Reg.HIF_FEAT_DRV 0, 0x43)] up, 3, 6, by decide⟩,
   ⟨wr [(Reg.LTH_STATE, 1)] up, by decide⟩,
   ⟨up, by decide⟩,
   ⟨up, 3, by decide⟩,
   ⟨7, locked1 1 up, by decide⟩,
   ⟨up, by decide⟩,
   ⟨up, by decide⟩,
   ⟨up, 1000, by decide⟩,
   ⟨up, by decide⟩,
   ⟨up, by decide⟩⟩

theorem witness_MessagesAreHeldAndSent :
  (∃ (s : State),
    s.hif.covered = false) ∧
  (∃ (s : State) (t0 : Time),
    s.hif.covered = true ∧ s.hif.lastEvent = some t0 ∧ s.mayPost = true ∧ s.hif.masked.getLsbD 0 = false) ∧
  (∃ (s : State),
    s.hostUp = true ∧ s.bit Reg.HIF_STATUS 8 = false) ∧
  (∃ (s : State),
    s.hostUp = true) ∧
  (∃ (j : Fin 56) (w : W32) (s : State),
    s.hostFree (Reg.HIF_SIGMAP j) = true ∧ s.sigGranted idHost (fieldOf w 0 10) = true) ∧
  (∃ (j : Fin 56) (w : W32) (s : State),
    s.hostFree (Reg.HIF_SIGMAP j) = true ∧ s.sigGranted idHost (fieldOf w 0 10) = false) :=
  ⟨⟨up, by decide⟩,
   ⟨{ up with hif := { covered := true, lastEvent := some 5, masked := 0, perstLow := false } }, 5, by decide⟩,
   ⟨up, by decide⟩,
   ⟨up, by decide⟩,
   ⟨55, 1023, { up with dml := { ranges := [(idHost, 1023, 1023)] } }, by decide⟩,
   ⟨55, 1023, up, by decide⟩⟩

theorem witness_EventLogKeepsItsEntries :
  (∃ (e : Evt) (s : State),
    s.powered 91 = true ∧ nextEvt s.hif.wire = some e) ∧
  (∃ (v : W32) (s : State),
    s.hostFree Reg.HIF_EVT_CONS = true ∧ (fun (x : Nat) => (x + 2 ^ 32 - s.regN Reg.HIF_EVT_CONS) % 2 ^ 32) v.toNat ≤ (fun (x : Nat) => (x + 2 ^ 32 - s.regN Reg.HIF_EVT_CONS) % 2 ^ 32) (s.regN Reg.HIF_EVT_PROD)) ∧
  (∃ (v : W32) (s : State),
    s.hostFree Reg.HIF_EVT_CONS = true ∧ (fun (x : Nat) => (x + 2 ^ 32 - s.regN Reg.HIF_EVT_CONS) % 2 ^ 32) (s.regN Reg.HIF_EVT_PROD) < (fun (x : Nat) => (x + 2 ^ 32 - s.regN Reg.HIF_EVT_CONS) % 2 ^ 32) v.toNat) ∧
  (∃ (v : W32) (s : State),
    s.hostFree Reg.HIF_EVT_CFG = true ∧ (s.hif.pend = [] ∨ v.getLsbD 0 = false ∨ s.bit Reg.HIF_EVT_CFG 0 = true)) ∧
  (∃ (s : State),
    s.hostOpen .read (Reg.HIF_EVT_LAST 0) = true) :=
  ⟨⟨evt, { up with hif := { wire := [evt] } }, by decide⟩,
   ⟨4, wr [(Reg.HIF_EVT_PROD, 4)] up, by decide⟩,
   ⟨5, wr [(Reg.HIF_EVT_PROD, 4)] up, by decide⟩,
   ⟨1, up, by decide⟩,
   ⟨up, by decide⟩⟩

theorem witness_RegisterRequestsFollowTheirAccessType :
  (∃ (off : BitVec 25) (size : Nat) (s : State),
    s.hostUp = true ∧ s.bit Reg.HIF_STATUS 8 = false ∧ ((size ≠ 4 ∧ size ≠ 8) ∨ off.toNat % size ≠ 0)) ∧
  (∃ (off : BitVec 25) (s : State),
    off.toNat % 4 = 0 ∧ s.hostOpen .read off.toNat = true ∧ off.toNat ∉ [Reg.CSQ_PF_DATA, Reg.TBU_TIME_SNAP 0, Reg.EGO_LAST_REC 0, Reg.HIF_EVT_LAST 0]) ∧
  (∃ (off : BitVec 25) (d : BitVec 64) (s : State),
    off.toNat % 4 = 0 ∧ s.hostOpen (writeKind off.toNat (d.setWidth 32)) off.toNat = true ∧ regDef? off.toNat = none) ∧
  (∃ (off : BitVec 25) (d : BitVec 64) (s : State) (r : RegDef),
    off.toNat % 4 = 0 ∧ s.hostOpen (writeKind off.toNat (d.setWidth 32)) off.toNat = true ∧ regDef? off.toNat = some r ∧ (r.acc = .ro ∨ r.acc = .rws)) ∧
  (∃ (off : BitVec 25) (d : BitVec 64) (s : State) (r : RegDef),
    off.toNat % 4 = 0 ∧ s.hostOpen (writeKind off.toNat (d.setWidth 32)) off.toNat = true ∧ regDef? off.toNat = some r ∧ r.acc = .w1c ∧ off.toNat ≠ Reg.CSQ_PF_STATUS_W1C) ∧
  (∃ (off : BitVec 25) (d : BitVec 64) (s : State) (r : RegDef),
    off.toNat % 4 = 0 ∧ s.hostOpen (writeKind off.toNat (d.setWidth 32)) off.toNat = true ∧ regDef? off.toNat = some r ∧ (r.acc = .rw ∨ r.acc = .rwl) ∧ s.frozen off.toNat = true) ∧
  (∃ (off : BitVec 25) (d : BitVec 64) (s : State) (r : RegDef),
    off.toNat % 4 = 0 ∧ s.hostOpen (writeKind off.toNat (d.setWidth 32)) off.toNat = true ∧ regDef? off.toNat = some r ∧ r.acc = .rwl ∧ s.lth.rwl = true) ∧
  (∃ (off : BitVec 25) (d : BitVec 64) (s : State) (r : RegDef),
    off.toNat % 4 = 0 ∧ s.hostOpen (writeKind off.toNat (d.setWidth 32)) off.toNat = true ∧ regDef? off.toNat = some r ∧ off.toNat ∈ [Reg.AON_WAKE_CFG, Reg.TBU_PPS_CFG, Reg.SIC_VIOL, Reg.PAE_GRID_CELL, Reg.EGO_KF_DT, Reg.TCA_ABFT_TOL, Reg.TAC_CACHE_CFG, Reg.FLD_BIRTH_MAX, Reg.CSQ_CS_CFG, Reg.MEM_SCRUB_ADAPT, Reg.SAF_HOLD, Reg.SEC_SRC_LO, Reg.SLK_PORT_CFG] ∧ s.frozen off.toNat = false ∧ s.lth.rwl = false ∧ r.chks.all (Chk.ok (d.setWidth 32 : W32)) = false) ∧
  (∃ (off : BitVec 25) (d : BitVec 64) (s : State) (r : RegDef),
    off.toNat % 4 = 0 ∧ s.hostOpen (writeKind off.toNat (d.setWidth 32)) off.toNat = true ∧ regDef? off.toNat = some r ∧ off.toNat ∈ [Reg.AON_WAKE_CFG, Reg.TBU_PPS_CFG, Reg.SIC_VIOL, Reg.PAE_GRID_CELL, Reg.EGO_KF_DT, Reg.TCA_ABFT_TOL, Reg.TAC_CACHE_CFG, Reg.FLD_BIRTH_MAX, Reg.CSQ_CS_CFG, Reg.MEM_SCRUB_ADAPT, Reg.SAF_HOLD, Reg.SEC_SRC_LO, Reg.SLK_PORT_CFG] ∧ s.frozen off.toNat = false ∧ s.lth.rwl = false ∧ r.chks.all (Chk.ok (d.setWidth 32 : W32)) = true) :=
  ⟨⟨0, 3, up, by decide⟩,
   ⟨0x1FFFFFC, up, by decide⟩,
   ⟨0x1FFFFFC, 0, up, by decide⟩,
   ⟨BitVec.ofNat 25 0, 5, up, (regDef? 0).get rfl, by decide⟩,
   ⟨BitVec.ofNat 25 0x200008, 5, up, (regDef? 0x200008).get rfl, by decide⟩,
   ⟨BitVec.ofNat 25 Reg.SIC_VIOL, 5, wr [(Reg.LTH_STATE, 2)] up, (regDef? Reg.SIC_VIOL).get rfl, by decide⟩,
   ⟨BitVec.ofNat 25 Reg.SIC_VIOL, 5, { up with lth := { rwl := true } }, (regDef? Reg.SIC_VIOL).get rfl, by decide⟩,
   ⟨BitVec.ofNat 25 Reg.PAE_GRID_CELL, 0, up, (regDef? Reg.PAE_GRID_CELL).get rfl, by decide⟩,
   ⟨BitVec.ofNat 25 Reg.SLK_PORT_CFG, 0, up, (regDef? Reg.SLK_PORT_CFG).get rfl, by decide⟩⟩

theorem witness_MemoryRequestsReachWhatTheirHurdleAdmits :
  (∃ (off : BitVec 36) (len : Nat) (s : State),
    s.hostUp = true ∧ s.bit Reg.HIF_STATUS 8 = false ∧ 4096 < off.toNat % 4096 + len) ∧
  (∃ (off : BitVec 36) (len : Nat) (s : State),
    s.hostUp = true ∧ s.bit Reg.HIF_STATUS 8 = false ∧ s.sec.halt = none ∧ s.pwr ≠ 2 ∧ 0 < len ∧ off.toNat % 4096 + len ≤ 4096 ∧ bar2Addr off.toNat = none) ∧
  (∃ (off : BitVec 36) (len : Nat) (a : Nat) (s : State),
    s.hostUp = true ∧ s.bit Reg.HIF_STATUS 8 = false ∧ s.sec.halt = none ∧ s.pwr ≠ 2 ∧ 0 < len ∧ off.toNat % 4096 + len ≤ 4096 ∧ bar2Addr off.toNat = some a ∧ s.reaches idHost .read a len = true) ∧
  (∃ (off : BitVec 36) (len : Nat) (a : Nat) (s : State),
    s.hostUp = true ∧ s.bit Reg.HIF_STATUS 8 = false ∧ s.sec.halt = none ∧ s.pwr ≠ 2 ∧ 0 < len ∧ off.toNat % 4096 + len ≤ 4096 ∧ bar2Addr off.toNat = some a ∧ s.reaches idHost .write a len = true ∧ s.msys.inj = none) ∧
  (∃ (x : BusTxn) (s : State),
    s.powered 92 = true ∧ x.space = .dev ∧ s.revoked x.id.toNat = false ∧ x.disagree = false ∧ x.kind = .read ∧ s.reaches (x.id.toNat) .read (x.addr.toNat) x.len = true) ∧
  (∃ (x : BusTxn) (s : State),
    s.powered 92 = true ∧ x.space = .dev ∧ s.revoked x.id.toNat = false ∧ x.disagree = false ∧ x.kind = .write ∧ s.reaches (x.id.toNat) .write (x.addr.toNat) x.len = true ∧ s.msys.inj = none) ∧
  (∃ (x : BusTxn) (s : State),
    s.powered 92 = true ∧ x.space = .dev ∧ s.revoked x.id.toNat = false ∧ x.disagree = false ∧ s.admits (x.id.toNat) x.kind (x.addr.toNat) x.len = false) ∧
  (∃ (x : BusTxn) (s : State),
    s.powered 92 = true ∧ x.space = .dev ∧ s.revoked x.id.toNat = false ∧ x.disagree = true) :=
  ⟨⟨0xFE1, 32, up, by decide⟩,
   ⟨0x802200000, 1, up, by decide⟩,
   ⟨0x800000FE0, 32, 0xFE0, wide, by decide⟩,
   ⟨0x800000FE0, 32, 0xFE0, wide, by decide⟩,
   ⟨txn .read false 32, wide, by decide⟩,
   ⟨txn .write false 32, wide, by decide⟩,
   ⟨txn .read false 0x200000, wide, by decide⟩,
   ⟨txn .read true 32, wide, by decide⟩⟩

theorem witness_StepRunsTheCommandInFront :
  (∃ (s : State),
    s.pending = []) :=
  ⟨up, by decide⟩

/-- The pasture of one square metre and device 1 around a point. -/
def around (p : Int × Int) : Pasture := ⟨1, p.1 / 1024, p.2 / 1024, p.1 / 1024 + 1, p.2 / 1024 + 1⟩

theorem around_holds (p : Int × Int) : (around p).holds p.1 p.2 = true := by
  have h (x : Int) : x / 1024 * 1024 ≤ x ∧ x < (x / 1024 + 1) * 1024 := by omega
  simp [Pasture.holds, around, h]

def grazing (l : List Pasture) : State :=
  let s := memberOf (linkAt roleMEMBER 5 {} up)
  { s with fld := { gates := [0] }, slk := { s.slk with pastures := l } }

/-- A frame with one detection to be forwarded, in a pasture that holds it whatever `Config.detPos` gives for its position. -/
theorem witness_DetFwdOfOneDetection :
    ∃ (p : Fin 6) (h : LinkHdr) (l : List FwdDet) (s : State), l ≠ [] ∧ s.linkTakes p.val 0x20 h = true ∧ s.inDrove = true ∧
      s.powered 97 = true ∧ l.all (fun d => s.fwdMine d && s.detOk d.bytes) = true := by
  have hf (p : Int × Int) (e : (grazing [around p]).detPos detB = p) : (grazing [around p]).fwdMine ⟨detB, false⟩ = true := by
    have n : (grazing [around p]).devNo = 1 := by
      have r : (grazing [around p]).regs = (grazing []).regs := rfl
      simp only [State.devNo, State.fld', State.reg, r]
      decide
    have m : (grazing [around p]).myPasture = some (around p) := by
      have r : (grazing [around p]).slk.pastures = [around p] := rfl
      have d : (around p).dev = 1 := rfl
      simp [State.myPasture, n, r, d]
    simp only [State.fwdMine, e, m, Bool.false_eq_true, if_false, around_holds]
  refine ⟨5, hdr 0 0, [⟨detB, false⟩], grazing [around ((grazing []).detPos detB)], by simp, by rfl, by rfl, by rfl, ?_⟩
  simp only [List.all_cons, List.all_nil, Bool.and_true]
  rw [hf _ rfl]
  rfl


/-- The state after a command, where it answers one. -/
def after (c : Instr) (s : State) : State := match exec c s with | .next t => t | _ => s

/-! ### Witnesses of the statements about every command or step -/

theorem witness_ResetLeavesTheStatedValues : ∃ n : Nat, n < 32 := ⟨31, by decide⟩

theorem witness_StepKeepsCanonical : ∃ s t : State, s.Canonical ∧ s ≠ t ∧ step s = .next t :=
  ⟨{ up with pending := [.pllLock 0] }, after (.pllLock 0) up, ⟨by decide, by decide⟩, by decide, by rfl⟩

theorem witness_TimeCommandsKeepTheRest : ∃ s t : State, s ≠ t ∧ exec .ppsOutRise s = .next t :=
  ⟨up, after .ppsOutRise up, by decide, by rfl⟩

theorem witness_SensorCommandsKeepTheRest : ∃ s t : State, s ≠ t ∧ exec (.csiFrameStart 11 ⟨15, true⟩ 0) s = .next t :=
  ⟨up, after (.csiFrameStart 11 ⟨15, true⟩ 0) up, by decide, by rfl⟩

theorem witness_LinkCommandsKeepTheRest : ∃ s t : State, s ≠ t ∧ exec (.linkLock 5) s = .next t :=
  ⟨wr [(Reg.SLK_CTRL, 1)] up, after (.linkLock 5) (wr [(Reg.SLK_CTRL, 1)] up), by decide, by rfl⟩

theorem witness_HostPowerAndIslandEventsKeepTheRest : ∃ s t : State, s ≠ t ∧ exec (.pllLock 7) s = .next t :=
  ⟨up, after (.pllLock 7) up, by decide, by rfl⟩

/-! ### Ill-formed commands, one for each check of `Instr.wf` -/

theorem ill_formed_requests :
    (Instr.hostBar2Request true 0 4 []).wf = false ∧ (Instr.onDieTransaction (txn .write false 4)).wf = false := by decide

theorem ill_formed_sensor_data (d : List Byte) (h : d.length = 65536) :
    (Instr.csiImageLine 0 0 ⟨0x2A, d, false, true⟩).wf = false ∧
    (Instr.csiEmbeddedData 0 0 ⟨0x12, d, false, true⟩).wf = false ∧
    (Instr.pointPacket ⟨0, 0, 0, 0, 0, d⟩).wf = false ∧
    (Instr.partnerList ⟨0, 0, 0, 0, 0, d⟩).wf = false := by
  simp [Instr.wf, h]

theorem ill_formed_network_and_can :
    (Instr.ethFrameReceived 0 (frame true 63)).wf = false ∧
    (Instr.ethFrameReceived 0 { frame true 64 with payload := List.replicate 65 0 }).wf = false ∧
    (Instr.canMessage 0 ⟨0, .classical, 0, 0, 0, 0, List.replicate 9 0⟩).wf = false ∧
    (Instr.canMessage 0 ⟨0, .fd, 0, 0, 0, 0, List.replicate 65 0⟩).wf = false := by decide

theorem ill_formed_engine_commands :
    (Instr.egoSmootherResult ⟨0, false, [], [], [0, 0, 0], [0, 0, 0], [0, 0, 0, 0, 0, 0], 0⟩).wf = false ∧
    (Instr.egoSmootherResult ⟨0, false, [], [0, 0, 0], [], [0, 0, 0], [0, 0, 0, 0, 0, 0], 0⟩).wf = false ∧
    (Instr.egoSmootherResult ⟨0, false, [], [0, 0, 0], [0, 0, 0], [], [0, 0, 0, 0, 0, 0], 0⟩).wf = false ∧
    (Instr.egoSmootherResult ⟨0, false, [], [0, 0, 0], [0, 0, 0], [0, 0, 0], [], 0⟩).wf = false ∧
    (Instr.egoSmootherResult ⟨0, false, [[]], [0, 0, 0], [0, 0, 0], [0, 0, 0], [0, 0, 0, 0, 0, 0], 0⟩).wf = false ∧
    (Instr.tileCommandEnqueue 0 .stage 0 []).wf = false ∧ (Instr.batchSubmit 0 []).wf = false ∧ (Instr.detectionReady ⟨[], box⟩).wf = false ∧
    (Instr.stageClose 0 ⟨16, 0⟩).wf = false := by
  decide

theorem ill_formed_memory_and_island :
    (Instr.scrubRead (.dram 0x24000000)).wf = false ∧ (Instr.scrubRead (.sram 39 0)).wf = false ∧
    (Instr.islandScrubRead 0 9).wf = false := by decide

theorem ill_formed_link_frames :
    (Instr.hello 0 (hdr 0 0) ⟨0, 0, 0, 0, 0, 8, 0⟩).wf = false ∧ (Instr.hello 0 (hdr 0 0) ⟨0, 0, 0, 0, 0, 0, 8⟩).wf = false ∧
    (Instr.deltaRec 0 (hdr 0 0) [⟨0, [], 0⟩]).wf = false ∧ (Instr.deltaKv 0 (hdr 0 0) [⟨0, List.replicate 513 0⟩]).wf = false ∧
    (Instr.stepEnd 0 (hdr 0 0) ⟨[], 0, 0, 0, 0, [0, 0, 0], 0, []⟩).wf = false ∧
    (Instr.stepEnd 0 (hdr 0 0) ⟨List.replicate 64 0, 0, 0, 0, 0, [], 0, []⟩).wf = false ∧
    (Instr.syncData 0 (hdr 0 0) ⟨0, [], [], 0⟩).wf = false ∧ (Instr.hand 0 (hdr 0 0) ⟨0, [], [], 0⟩).wf = false ∧
    (Instr.detFwd 0 (hdr 0 0) [⟨[], false⟩]).wf = false := by decide

theorem ill_formed_list_frame : (Instr.listFrame 0 (hdr 0 0) (List.replicate 8193 0)).wf = false := by simp [Instr.wf]

/-! ### Worked examples of the manual -/

/-- Chapter 18, Example: SIC_SLOT_STATE5, TCA_T22_DONE and FLD_CP1556. -/
theorem test_register_offsets :
    Reg.SIC_SLOT_STATE 5 = 0x300094 ∧ Reg.TCA_T_DONE 22 = 0x65801C ∧ Reg.FLD_CP 1556 = 0x911850 := by decide

/-- Chapter 5, Example: 300.0 is 0x79 in E4M3; 500.0 is 0x7E with SAT and 0x7F without. -/
theorem test_e4m3 :
    convertElem 8 4 true false 0x43960000 = (0x79, false) ∧ (convertElem 8 4 true false 0x43FA0000) = (0x7E, true) ∧
    (convertElem 8 4 false false 0x43FA0000) = (0x7F, true) := by decide

/-- Chapter 5, Example: 5,310 × 12,345 / 2^20 − 3 is 60. -/
theorem test_requantisation : (requant (mk 64 [(2, 1, 1), (4, 4, 0), (10, 1, 20), (11, 1, 0xFD), (12, 4, 12345)]) (.int 5310)).1 = 0x3C := by decide

/-- Chapter 7, Example: the phase of DT 850,000 ns at F_0 140,737. -/
theorem test_rope_phase : ropePhase 850000 140737 = 1825354 := by decide

/-- Chapter 8, Example: d² 1.453125, e 0.0625, W_MAH 1.0 and W_EMB 8.0 cost 500. -/
theorem test_pair_cost : pairCost 0x100 0x17400 0x800 2048 = 500 := by decide

def component : List GPair := [⟨0, 0xA, 600⟩, ⟨0, 0xB, 3000⟩, ⟨1, 0xA, 500⟩, ⟨1, 0xB, 1500⟩, ⟨1, 0xC, 3840⟩, ⟨2, 0xC, 1280⟩]

/-- Table 8.6: benefits, one component, and the greedy assignment of benefit 7,508 before scaling. -/
theorem test_greedy_pass :
    component.map (benefit 4096) = [3583400, 1123400, 3685900, 2660900, 262400, 2886400] ∧ (components component).length = 1 ∧
    (greedy component).map (fun p => (p.det, p.slot)) = [(1, 0xA), (2, 0xC), (0, 0xB)] ∧ totalBenefit 4096 (greedy component) = 7508 * 1025 := by
  decide

/-- Table 11.9, R501 to R503: the association and Checker stages of the default image. -/
theorem test_fit_times :
    partNs [⟨1, 0, 80, 1, false⟩] 1050000 ⟨3300, 65536, 8192, 512⟩ ⟨1, 0, .pairs, 1, 32⟩ = 156039 ∧
    partNs [⟨6, 0, 70, 1, true⟩] 1050000 ⟨3300, 65536, 8192, 512⟩ ⟨6, 0, .compared, 1, 1⟩ = 59734 := by decide

/-- Chapter 2, Example: θ = 170.880 ns, to the 2^−32 ns the capture holds. -/
theorem test_sync_offset :
    (({ wr [(Reg.TBU_CORR_RX 2, 3120)] up with tbu := { linkDelay := [(2, 86 * 2 ^ 32)] } } : State).syncOffset
      ⟨2, 250000000 * nsT, 1240 * 65536, 250001500 * nsT, 0⟩) / 4294967 = 170880 := by decide

/-- Chapter 17, Example: without FEAT_PATCH the handshake fails with BIT 1; with it the features are locked. -/
theorem test_handshake :
    (after .go (wr [(Reg.HIF_FEAT_DRV 0, 0x000C7C3D)] up)).fld' Reg.HIF_FEAT_ST 0 16 = 0x0112 ∧
    (after .go (wr [(Reg.HIF_FEAT_DRV 0, 0x000C7C3F)] up)).locked = true := by decide

/-- Chapter 12, R546: a page is retired once. -/
theorem test_retire_page :
    (after .retireAdd (wr [(Reg.MEM_RET_STAGE_LO, 0x34567000), (Reg.MEM_RET_STAGE_HI, 0x40000012)] up)).msys.retired = [0x4000001234567000] := by
  decide

/-! ### One step of some commands of each family -/

/-- R66: working domain. -/
theorem test_work_dom : (after (.workDomWrite .b) up).workDom = .b := by decide

/-- R82, R85: a Frame Start opens the virtual channel. -/
theorem test_frame_start : ((after (.csiFrameStart 11 ⟨15, true⟩ 0) up).vc 11 15).active = true := by decide

/-- R100: bus-off stops the controller. -/
theorem test_bus_off : ((after (.canBusOff 3) up).canCtl 3).off = true := by decide

/-- SIC_SLOT_CMD QUARANTINE. -/
theorem test_quarantine : ((after (.slotQuarantine 255) (withSlot 255 (slotOf []) up)).slot 255).st = .quarantined := by decide

/-- R182: a frozen slot keeps its correction. -/
theorem test_freeze : ((after (.freeze 255) (withSlot 255 (slotOf []) up)).calOf 255).frozen = true := by decide

/-- R217: a command to an ACTIVE tile waits in its queue; one to a DEAD tile ends with BUS_ERROR_FENCED. -/
theorem test_tile_enqueue :
    let c := mk 64 [(0, 1, 0x10), (46, 2, 0xFFFF)]
    ((after (.tileCommandEnqueue 33 .background 0x0C0 c) (tileOn 33 { st := .active } wide)).tile 33).bgQ.length = 1 ∧
    (after (.tileCommandEnqueue 33 .background 0x0C0 c) (tileOn 33 { st := .dead } wide)).out = [.done 6 0x0C0 BUS_ERROR_FENCED] := by decide

/-- R245, R246: a descriptor is created under its handle. -/
theorem test_desc_create :
    (SMap.find? (after (.descCreate 0xFFF) (wide.setRegBytes (Reg.DML_DESC_STAGE 0) desc)).dml.descs 0xFFF).isSome = true := by decide

/-- R280: the shadow record is writable while it is not valid, and a write is ignored while it is. -/
theorem test_shadow_write :
    (after (.shadowWrite 15 7 5) up).regN (Reg.DML_SS_SHD 15 7) = 5 ∧
    (after (.shadowWrite 15 7 5) (wr [(Reg.DML_SS_ST 15, 0x200)] up)).regN (Reg.DML_SS_SHD 15 7) = 0 := by decide

/-- R298, R299: OPEN, FALLOW and CLOSE leave ACTIVE, FALLOW and FREE. -/
theorem test_sequences :
    let s := wr [(Reg.TAC_FLOCK_SEQ 1, 0x100000), (Reg.TAC_FLOCK_LIM 1, 1), (Reg.TAC_ACTIVE_MAX, 1)] up
    (after (.openSeq 0x0C0 0 0x100000 1) s).seqSt 0 = 1 ∧ (after (.fallow 0x0C0 0) (inMem (seqMem 0x10 0) up)).seqSt 0 = 2 ∧
    (after (.close 0x0C0 0) (inMem (seqMem 0x10 0) up)).seqSt 0 = 0 := by decide

/-- R362: a record without its gate entry is dropped and counted. -/
theorem test_detection_drop : (after (.detectionReady ⟨detB, box⟩) (withSlot 255 (slotOf []) up)).regN Reg.FLD_DET_DROP = 1 := by decide

/-- R443: a write of 0 to RUN stops the cycle after the step whose cut-off lies before. -/
theorem test_run_stop : (after .runStop { up with csq := { running := true, next := 9 } }).csq.stopAt = some 9 := by decide

/-- R550: a FIFO read takes the oldest word of the drain bank. -/
theorem test_fifo_read : ((after (.fifoRead .mboxFcu) (withFifo (FifoId.num .mboxFcu))).fifo (FifoId.num .mboxFcu)).last = 5 := by decide

/-- R575: disagreeing checkers refuse the access. -/
theorem test_checkers_disagree : (after (.onDieTransaction (txn .read true 32)) wide).out = [.bus 0x0C0 BUS_ERROR_HURDLE []] := by decide

/-- R10, R18: the host reads device memory through BAR2. -/
theorem test_bar2_read :
    (after (.hostBar2Request false 0x800000000 2 []) (inMem [(1, 7)] wide)).out = [.host .sc [0, 7]] := by decide

/-- R602: a locked link port begins its bring-up. -/
theorem test_link_lock : ((after (.linkLock 5) (wr [(Reg.SLK_CTRL, 1)] up)).linkPort 5).phase = 1 := by decide

/-- R670: STANDBY starts a transition from Idle. -/
theorem test_standby : (after .standby up).inTransition = true := by decide

/-- R714: the driver takes events up to the producer's count. -/
theorem test_evt_cons : (after (.evtConsWrite 4) (wr [(Reg.HIF_EVT_PROD, 4)] up)).regN Reg.HIF_EVT_CONS = 4 := by decide

/-- CRC-32C of "123456789" (the check value of that CRC, log entry 16). -/
theorem test_crc32c : crc32c [0x31, 0x32, 0x33, 0x34, 0x35, 0x36, 0x37, 0x38, 0x39] = 0xE3069283 := by decide

/-- FIPS 197: the product {57}·{83} = {c1}, and S-box entry {53} = {ed} (R533). -/
theorem test_aes_field : gfMul aesPoly 0x57 0x83 = 0xC1 ∧ aesSbox 0x53 = 0xED := by decide

/-- R526: a message with its check symbols has no syndrome; a changed symbol has. -/
theorem test_line_code :
    syndromes ([1, 2, 3] ++ checkSyms [1, 2, 3]) = List.replicate 8 0 ∧
    syndromes ([1, 2, 7] ++ checkSyms [1, 2, 3]) ≠ List.replicate 8 0 := by decide

/-- The table gives its rows no bits: no word spells a command. -/
theorem test_no_words : decodeTableWord 32 5 = none ∧ (up.withFetchWord 32 5) = up := by decide

end Sys2Proof.Tests
end

section
/-! PROOFS. Memory requests (R10, R18, R20, R573, R575, R695): what a host request to BAR2 and an on-die transaction do at device memory. -/

namespace Sys2Proof.Machine

/-! ### State operations -/

/-- Bytes made up or cut to a length have that length. -/
@[simp] theorem fit_length (n : Nat) (bs : List Byte) : (fit n bs).length = n := by
  simp only [fit, List.length_append, List.length_take, List.length_replicate]
  omega

/-- Two states with one memory read alike. -/
theorem State.sameMemory_of_mem {s t : State} (h : t.mem = s.mem) : s.SameMemory t := fun a => by simp [State.byteAt, h]

/-- Two states with one register file hold the same registers. -/
theorem State.sameRegsBut_of_regs {s t : State} (own : List Nat) (h : t.regs = s.regs) : s.SameRegsBut t own :=
  fun o _ => reg_congr h o

/-! ### BAR2 requests (R20, R695) -/

/-- A malformed TLP answers nothing but that it was malformed; memory and registers keep their contents. -/
theorem malformedTlp_frame (s : State) :
    s.malformedTlp.out = s.out ++ [.host .malformed []] ∧ s.malformedTlp.mem = s.mem ∧ s.malformedTlp.regs = s.regs := by
  unfold State.malformedTlp State.draw
  dsimp only
  split <;> exact ⟨rfl, rfl, rfl⟩

section
variable {s : State} {off len a : Nat} {bs : List Byte} (hup : s.hostUp = true) (hd3 : s.bit Reg.HIF_STATUS 8 = false)
include hup hd3

/-- A BAR2 request across a 4 KiB boundary is a malformed TLP. -/
theorem bar2_malformed (hx : 4096 < off % 4096 + len) (w : Bool) : s.bar2 w off len bs = s.malformedTlp := by
  simp [State.bar2, hup, hd3, hx]

variable (hh : s.sec.halt = none) (hp : s.pwr ≠ 2) (h0 : 0 < len) (hfit : off % 4096 + len ≤ 4096)
include hh hp h0 hfit

/-- A well-formed BAR2 request outside the map of Table 1.6 is unsupported. -/
theorem bar2_unmapped (ha : bar2Addr off = none) (w : Bool) : s.bar2 w off len bs = s.failHost .ur := by
  simp [State.bar2, hup, hd3, hh, hp, h0.ne', hfit.not_gt, ha]

/-- A BAR2 read that reaches its bytes returns them. -/
theorem bar2_read_reaches (ha : bar2Addr off = some a) (hr : s.reaches idHost .read a len = true) :
    s.bar2 false off len bs = s.emit (.host .sc (s.bytesAt a len)) := by
  simp [State.bar2, hup, hd3, hh, hp, h0.ne', hfit.not_gt, ha, busRead_reaches hr]

/-- A BAR2 write that reaches its bytes stores them; being posted, it answers nothing. -/
theorem bar2_write_reaches (ha : bar2Addr off = some a) (hr : s.reaches idHost .write a len = true) (hi : s.msys.inj = none) :
    s.bar2 true off len bs = s.store a (fit len bs) := by
  simp [State.bar2, hup, hd3, hh, hp, h0.ne', hfit.not_gt, ha, busWrite_reaches (bs := fit len bs) (by simpa using hr) hi]

end

/-! ### On-die transactions (R10, R18, R573, R575) -/

section
variable {s : State} {id a n : Nat} {k : Kind} {bs : List Byte} (hrev : s.revoked id = false)
include hrev

/-- A hurdle's refusal of an ID that is not revoked ends with BUS_ERROR_HURDLE. -/
theorem busRefuse_hurdle (h : Option Nat) :
    s.busRefuse h id k a = (s.refuseAccess h id k a).emit (.bus id BUS_ERROR_HURDLE []) := by
  simp [State.busRefuse, State.busDone, hrev]

/-- An on-die read that reaches its target completes with the bytes there. -/
theorem busDev_read_reaches (hr : s.reaches id .read a n = true) :
    s.busDev id .read a n bs = s.emit (.bus id DONE (s.bytesAt a n)) := by
  simp [State.busDev, hrev, busRead_reaches hr, State.busDone]

/-- An on-die write that reaches its target stores its bytes and completes. -/
theorem busDev_write_reaches (hr : s.reaches id .write a n = true) (hi : s.msys.inj = none) :
    s.busDev id .write a n bs = (s.store a (fit n bs)).emit (.bus id DONE []) := by
  simp [State.busDev, hrev, busWrite_reaches (bs := fit n bs) (by simpa using hr) hi, State.busDone]

/-- An on-die transaction that its hurdle does not admit has no effect but the refusal's record, whatever its kind. -/
theorem busDev_denied (hd : s.admits id k a n = false) :
    s.busDev id k a n bs = (s.refuseAccess (hurdleOf a) id k a).emit (.bus id BUS_ERROR_HURDLE []) := by
  cases k with
  | read => simp [State.busDev, hrev, busRead_denied hd, State.busDone]
  | write => simp [State.busDev, hrev, busWrite_denied (bs := fit n bs) (by simpa using hd), State.busDone]
  | command => simp [State.busDev, hd, busRefuse_hurdle hrev]

end

/-- Checkers that disagree raise a STEP doubt; memory and output stay as they were. -/
theorem checkersDisagree_frame (s : State) :
    s.checkersDisagree.saf.stepDoubt = true ∧ s.checkersDisagree.mem = s.mem ∧ s.checkersDisagree.out = s.out := by
  unfold State.checkersDisagree State.raiseStepDoubt
  dsimp only
  split <;> exact ⟨rfl, rfl, rfl⟩

section
variable {s : State} {x : BusTxn} (hpow : s.powered 92 = true)
include hpow

/-- A transaction to a device address whose checkers agree meets the hurdle of its target. -/
theorem busTxn_dev (hs : x.space = .dev) (hd : x.disagree = false) :
    s.busTxn x = s.busDev x.id.toNat x.kind x.addr.toNat x.len x.data := by
  simp [State.busTxn, hpow, hs, hd]

/-- A transaction of an ID that is not revoked whose checkers disagree is refused. -/
theorem busTxn_disagree (hrev : s.revoked x.id.toNat = false) (hd : x.disagree = true) :
    s.busTxn x = s.checkersDisagree.emit (.bus x.id.toNat BUS_ERROR_HURDLE []) := by
  simp [State.busTxn, State.busDone, hpow, hrev, hd]

end

/-! ### The obligation -/

theorem exec_hostBar2Request (w : Bool) (off : BitVec 36) (len : Nat) (bs : List Byte) (s : State) :
    exec (.hostBar2Request w off len bs) s = .next (s.bar2 w off.toNat len bs) := rfl

theorem exec_onDieTransaction (x : BusTxn) (s : State) : exec (.onDieTransaction x) s = .next (s.busTxn x) := rfl

/-- Settles O52: each request is followed to the bus read or write it makes, or to the refusal that stands in its place. -/
theorem memoryRequestsReachWhatTheirHurdleAdmits : Obligations.MemoryRequestsReachWhatTheirHurdleAdmits := by
  unfold Obligations.MemoryRequestsReachWhatTheirHurdleAdmits
  simp only [exec_hostBar2Request, exec_onDieTransaction]
  constructor
  · intro off len a bs s hup hd3
    refine ⟨fun hx w => ?_, fun hh hp h0 hfit => ⟨fun ha w => ?_, fun ha hr => ?_, fun ha hr hi => ?_⟩⟩
    · obtain ⟨hout, hmem, hregs⟩ := malformedTlp_frame s
      rw [bar2_malformed hup hd3 hx]
      exact ⟨_, rfl, hout, State.sameMemory_of_mem hmem, State.sameRegsBut_of_regs [] hregs⟩
    · rw [bar2_unmapped hup hd3 hh hp h0 hfit ha]
    · rw [bar2_read_reaches hup hd3 hh hp h0 hfit ha hr]
    · rw [bar2_write_reaches hup hd3 hh hp h0 hfit ha hr hi]
  · intro x s hpow hs hrev
    refine ⟨fun hd hk hr => ?_, fun hd hk hr hi => ?_, fun hd hden => ?_, fun hd => ?_⟩
    · rw [busTxn_dev hpow hs hd, hk, busDev_read_reaches hrev hr]
    · rw [busTxn_dev hpow hs hd, hk, busDev_write_reaches hrev hr hi]
    · rw [busTxn_dev hpow hs hd, busDev_denied hrev hden]
    · obtain ⟨hdoubt, hmem, hout⟩ := checkersDisagree_frame s
      rw [busTxn_disagree hpow hrev hd]
      exact ⟨_, rfl, hdoubt, by rw [State.emit_out, hout], State.sameMemory_of_mem hmem⟩

end Sys2Proof.Machine
end

section
/-! PROOFS. The time base's operations: what each leaves of the TBU's own state, which registers it writes, and which bits of TBU_STATUS. -/

namespace Sys2Proof.Machine

/-! ### Registers left alone -/

theorem State.SameRegsBut.trans {s t u : State} {l : List Nat} (h : s.SameRegsBut t l) (h' : t.SameRegsBut u l) : s.SameRegsBut u l :=
  fun o ho => (h' o ho).trans (h o ho)

theorem State.SameRegsBut.mono {s t : State} {l m : List Nat} (h : s.SameRegsBut t l) (hlm : l ⊆ m) : s.SameRegsBut t m :=
  fun o ho => h o (fun hl => ho (hlm hl))

theorem State.SameRegsBut.congr {s t u : State} {l : List Nat} (h : s.SameRegsBut t l) (hu : u.regs = t.regs) : s.SameRegsBut u l :=
  fun o ho => (reg_congr hu o).trans (h o ho)

theorem sameRegsBut_setReg (s : State) {o : Nat} {own : List Nat} (v : W32) (h : o ∈ own) : s.SameRegsBut (s.setReg o v) own :=
  fun _ ho => reg_setReg_ne s v (fun e => ho (e ▸ h))

section
variable {s t : State} {own : List Nat} {o : Nat} (h : s.SameRegsBut t own) (ho : o ∉ own)
include h ho

theorem State.SameRegsBut.regN : t.regN o = s.regN o := by simp only [State.regN, h o ho]
theorem State.SameRegsBut.regI : t.regI o = s.regI o := by simp only [State.regI, h o ho]
theorem State.SameRegsBut.fld (lo w : Nat) : t.fld' o lo w = s.fld' o lo w := by simp only [State.fld', h o ho]
theorem State.SameRegsBut.bit (b : Nat) : t.bit o b = s.bit o b := by simp only [State.bit, h.fld ho]

end

theorem State.SameRegsBut.isMember {s t : State} {own : List Nat} (h : s.SameRegsBut t own) (hctrl : Reg.SLK_CTRL ∉ own)
    (hdev : Reg.SLK_DEVNO ∉ own) : t.isMember = s.isMember := by simp only [State.isMember, h.fld hctrl, h.fld hdev]

/-- The registers that Syncs and offset samples write: the TBU's status, what it shows of the source, and the servo's output (Table 2.4). -/
def tbuOwn : List Nat :=
  [Reg.TBU_STATUS, Reg.TBU_STATUS_W1C, Reg.TBU_UTC_OFFSET, Reg.TBU_OFFSET, Reg.TBU_FREQ_ADJ, Reg.TBU_JUMP_CNT]

/-- What steers the servo stands in registers that Syncs and offset samples do not write. -/
theorem State.SameRegsBut.source {s t : State} (h : s.SameRegsBut t tbuOwn) :
    t.workDom = s.workDom ∧ t.tbuSrc = s.tbuSrc ∧ t.isMember = s.isMember := by
  refine ⟨?_, h.fld (by decide) 2 2, h.isMember (by decide) (by decide)⟩
  simp only [State.workDom, h.bit (o := Reg.TBU_CTRL) (by decide)]

variable (s : State)

/-! ### Status bits -/

@[simp] theorem tbuSet_tbu (b : Nat) (v : Bool) : (s.tbuSet b v).tbu = s.tbu := by unfold State.tbuSet; dsimp only; split <;> rfl
@[simp] theorem tbuSet_csq (b : Nat) (v : Bool) : (s.tbuSet b v).csq = s.csq := by unfold State.tbuSet; dsimp only; split <;> rfl

theorem tbuSet_regs (b : Nat) (v : Bool) : s.SameRegsBut (s.tbuSet b v) [Reg.TBU_STATUS, Reg.TBU_STATUS_W1C] := by
  unfold State.tbuSet
  dsimp only
  split
  · exact (sameRegsBut_setReg s _ (by simp)).trans (sameRegsBut_setReg _ _ (by simp))
  · exact sameRegsBut_setReg s _ (by simp)

theorem tbuSet_status (b : Nat) (v : Bool) : (s.tbuSet b v).reg Reg.TBU_STATUS = (s.setBit Reg.TBU_STATUS b v).reg Reg.TBU_STATUS := by
  unfold State.tbuSet
  dsimp only
  split
  · exact reg_setBit_ne _ _ _ (by decide)
  · rfl

theorem bit_tbuSet_same {b : Nat} (v : Bool) (hb : b < 32) : (s.tbuSet b v).bit Reg.TBU_STATUS b = v := by
  rw [State.bit, State.fld', tbuSet_status]
  exact bit_setBit_same s _ _ _ hb

theorem bit_tbuSet_other {b b' : Nat} (v : Bool) (hb : b < 32) (h : b' ≠ b) :
    (s.tbuSet b v).bit Reg.TBU_STATUS b' = s.bit Reg.TBU_STATUS b' := by
  rw [State.bit, State.fld', tbuSet_status]
  exact bit_setBit_other s _ _ hb h

/-- PPS_OUT held low changes only the pin. -/
theorem ppsGate_eq : ∃ high out, s.ppsGate = { s with tbu := { s.tbu with ppsHigh := high }, out := out } := by
  unfold State.ppsGate
  split
  · exact ⟨false, _, rfl⟩
  · exact ⟨s.tbu.ppsHigh, s.out, rfl⟩

/-! ### gPTP domains -/

@[simp] theorem setDom_csq (d : Dom) (g : GptpDom) : (s.setDom d g).csq = s.csq := by cases d <;> simp [State.setDom]

theorem setDom_tbu (d : Dom) (g : GptpDom) :
    (s.setDom d g).tbu = match d with
      | .a => { s.tbu with domA := g }
      | .b => { s.tbu with domB := g } := by cases d <;> simp [State.setDom]

@[simp] theorem setDom_now (d : Dom) (g : GptpDom) : (s.setDom d g).tbu.now = s.tbu.now := by cases d <;> simp [setDom_tbu]
@[simp] theorem setDom_y (d : Dom) (g : GptpDom) : (s.setDom d g).tbu.y = s.tbu.y := by cases d <;> simp [setDom_tbu]
@[simp] theorem setDom_i (d : Dom) (g : GptpDom) : (s.setDom d g).tbu.i = s.tbu.i := by cases d <;> simp [setDom_tbu]
@[simp] theorem setDom_first (d : Dom) (g : GptpDom) : (s.setDom d g).tbu.first = s.tbu.first := by cases d <;> simp [setDom_tbu]

@[simp] theorem dom_setDom (d : Dom) (g : GptpDom) : (s.setDom d g).dom d = g := by cases d <;> simp [State.dom, setDom_tbu]

theorem setDom_regs (d : Dom) (g : GptpDom) : s.SameRegsBut (s.setDom d g) [Reg.TBU_STATUS, Reg.TBU_STATUS_W1C] := by
  cases d <;> exact fun o ho => tbuSet_regs _ _ _ o ho

/-- A domain's state shows in TBU_STATUS by its GM bit, 1 or 2, alone. -/
theorem bit_setDom_other (d : Dom) (g : GptpDom) {b : Nat} (hb : 2 < b) : (s.setDom d g).bit Reg.TBU_STATUS b = s.bit Reg.TBU_STATUS b := by
  cases d
  · exact bit_tbuSet_other _ _ (b := 1) (by decide) (by omega)
  · exact bit_tbuSet_other _ _ (b := 2) (by decide) (by omega)

/-- The relay forwards a Sync by output and free values alone. -/
theorem relaySync_eq (d : Dom) (m : SyncMsg) : ∃ free out, s.relaySync d m = { s with free := free, out := out } := by
  unfold State.relaySync
  refine List.foldlRecOn (motive := fun t => ∃ free out, t = { s with free := free, out := out }) _ _ ⟨s.free, s.out, rfl⟩ ?_
  rintro _ ⟨free, out, rfl⟩ q _
  dsimp only
  split
  · exact ⟨free + 1, _, rfl⟩
  · exact ⟨free, out, rfl⟩

/-- A domain notes a Sync that has just arrived (R65). -/
def State.notesSync (s : State) (d : Dom) : State := s.setDom d { s.dom d with lastSync := s.now, heard := true }

/-- A Sync that arrives moves device time to its capture and is noted by its domain; currentUtcOffset may follow. -/
theorem syncArrives_eq (d : Dom) (m : SyncMsg) : ∃ free out,
    let t := State.notesSync { s.reach m.raw with free := free, out := out } d
    s.syncArrives d m = t ∨ s.syncArrives d m = t.setReg Reg.TBU_UTC_OFFSET (BitVec.ofInt 32 m.utcOffset) := by
  obtain ⟨free, out, hr⟩ := relaySync_eq (s.reach m.raw) d m
  refine ⟨free, out, ?_⟩
  unfold State.syncArrives
  rw [hr]
  dsimp only
  split
  · exact .inr rfl
  · exact .inl rfl

theorem notesSync_regs (d : Dom) : s.SameRegsBut (s.notesSync d) tbuOwn := (setDom_regs s d _).mono (by simp [tbuOwn])

/-- What a Sync that arrives leaves for the servo. -/
theorem syncArrives_spec (d : Dom) (m : SyncMsg) :
    s.SameRegsBut (s.syncArrives d m) tbuOwn ∧ (s.syncArrives d m).tbu.now = max s.tbu.now m.raw ∧
      (s.syncArrives d m).tbu.y = s.tbu.y ∧ (s.syncArrives d m).tbu.i = s.tbu.i ∧ (s.syncArrives d m).csq = s.csq ∧
      ((s.syncArrives d m).dom d).logSync = (s.dom d).logSync := by
  obtain ⟨free, out, h⟩ := syncArrives_eq s d m
  generalize hr : { s.reach m.raw with free := free, out := out } = r at h
  have htbu : r.tbu = { s.tbu with now := max s.tbu.now m.raw } := by rw [← hr, State.reach_tbu]
  have hcsq : r.csq = s.csq := by rw [← hr, State.reach_csq]
  have hr' : s.SameRegsBut r tbuOwn := State.sameRegsBut_of_regs _ (by rw [← hr, State.reach_regs])
  have hregs := hr'.trans (notesSync_regs r d)
  have hdom : r.dom d = s.dom d := by cases d <;> simp [State.dom, htbu]
  have hnote : (r.notesSync d).tbu.now = max s.tbu.now m.raw ∧ (r.notesSync d).tbu.y = s.tbu.y ∧ (r.notesSync d).tbu.i = s.tbu.i ∧
      (r.notesSync d).csq = s.csq ∧ ((r.notesSync d).dom d).logSync = (s.dom d).logSync := by
    simp [State.notesSync, htbu, hcsq, hdom]
  rcases h with h | h <;> rw [h]
  · exact ⟨hregs, hnote⟩
  · exact ⟨hregs.trans (sameRegsBut_setReg _ _ (by decide)), hnote⟩

/-! ### The servo -/

@[simp] theorem setY_tbu (y : Int) : (s.setY y).tbu = { s.tbu with y := y } := rfl
@[simp] theorem setSlewing_tbu (θ : Int) (v : Bool) : (s.setSlewing θ v).tbu = s.tbu := tbuSet_tbu s 5 v

theorem setSlewing_regs (θ : Int) (v : Bool) : s.SameRegsBut (s.setSlewing θ v) [Reg.TBU_STATUS, Reg.TBU_STATUS_W1C] := tbuSet_regs s 5 v

/-- The integral after a sample (R58). -/
def State.servoI (s : State) (θ : Int) (g : Nat) : Int := s.tbu.i + g * s.regN Reg.TBU_SERVO_KI * θ

/-- The frequency adjustment after a sample, before its clamp (R58). -/
def State.servoY (s : State) (θ : Int) (g : Nat) : Int := g * s.regN Reg.TBU_SERVO_KP * θ + s.servoI θ g

/-- y held within its clamp (R59). -/
def clampY (y : Int) : Int := if y < -yMax then -yMax else if yMax < y then yMax else y

/-- The servo moves y and I, and clamped keeps I (R58, R59). -/
theorem servo_tbu {θ : Int} {g : Nat} (hen : s.bit Reg.TBU_CTRL 0 = true) :
    (s.servo θ g).tbu = { s.tbu with
      y := clampY (s.servoY θ g)
      i := if s.servoY θ g < -yMax ∨ yMax < s.servoY θ g then s.tbu.i else s.servoI θ g } := by
  unfold State.servo clampY State.servoY State.servoI
  simp only [hen, Bool.not_true, Bool.false_eq_true, if_false]
  split
  · next h => simp [h]
  · split
    · next h => simp [h]
    · next h h' => simp [h, h']

/-- The count towards LOCKED changes only that count and, with LOCKED, the pin that it gates. -/
theorem lockCount_tbu (θ : Int) : ∃ n high, (s.lockCount θ).tbu = { s.tbu with inLock := n, ppsHigh := high } := by
  unfold State.lockCount
  dsimp only
  split
  · exact ⟨_, s.tbu.ppsHigh, tbuSet_tbu _ _ _⟩
  · obtain ⟨high, out, h⟩ := ppsGate_eq ({ s with tbu := { s.tbu with inLock := 0 } }.tbuSet 0 false)
    exact ⟨0, high, by rw [h]; simp⟩

/-- The servo steers alike from states with one integral that differ in registers of `tbuOwn` alone. -/
theorem servoY_congr {s t : State} (h : s.SameRegsBut t tbuOwn) (hi : t.tbu.i = s.tbu.i) (θ : Int) (g : Nat) :
    t.servoI θ g = s.servoI θ g ∧ t.servoY θ g = s.servoY θ g := by
  have hki : t.regN Reg.TBU_SERVO_KI = s.regN Reg.TBU_SERVO_KI := h.regN (by decide)
  have hkp : t.regN Reg.TBU_SERVO_KP = s.regN Reg.TBU_SERVO_KP := h.regN (by decide)
  simp only [State.servoY, State.servoI, hi, hki, hkp, and_self]

/-- A sample shown in TBU_OFFSET, the source's first or a later one (R747). -/
def State.sampled (s : State) (θ : Int) : State :=
  let s := s.setRegSat Reg.TBU_OFFSET (toPsRound θ)
  { s with tbu := { s.tbu with first := true } }

theorem sampled_regs (θ : Int) : s.SameRegsBut (s.sampled θ) [Reg.TBU_OFFSET] :=
  fun o ho => sameRegsBut_setReg s _ (by simp) o ho

theorem sampled_slewLimit (θ : Int) : (s.sampled θ).regN Reg.TBU_SLEW_LIMIT = s.regN Reg.TBU_SLEW_LIMIT :=
  (sampled_regs s θ).regN (by decide)

/-- A sample within the slew limit ends the run of held-back samples, and a slew (R64). -/
def State.endRun (s : State) (θ : Int) : State :=
  let s := { s with tbu := { s.tbu with held := [] } }
  if s.bit Reg.TBU_STATUS 5 then s.setSlewing θ false else s

theorem endRun_tbu (θ : Int) : (s.endRun θ).tbu = { s.tbu with held := [] } := by
  unfold State.endRun
  dsimp only
  split
  · exact setSlewing_tbu _ _ _
  · rfl

theorem endRun_regs (θ : Int) : s.SameRegsBut (s.endRun θ) [Reg.TBU_STATUS, Reg.TBU_STATUS_W1C] := by
  unfold State.endRun
  dsimp only
  split
  · exact fun o ho => setSlewing_regs _ _ _ o ho
  · exact fun _ _ => rfl

/-- The three outcomes of an offset sample of the source: it steers, is held back, or steps the time counter (R58, R63, R64). -/
theorem offsetSample_eq (θ : Int) (g : Nat) :
    s.offsetSample θ g =
      if θ.natAbs ≤ s.regN Reg.TBU_SLEW_LIMIT * nsT then (((s.sampled θ).endRun θ).servo θ g).lockCount θ
      else if s.csq.running then (s.sampled θ).heldBack θ
      else (s.sampled θ).stepTime θ := by
  rw [← sampled_slewLimit s θ]
  rfl

/-- A sample within the slew limit leaves the servo's outcome in y and I, and no run of held-back samples (R58, R59, R64). -/
theorem offsetSample_within_tbu {θ : Int} {g : Nat} (hen : s.bit Reg.TBU_CTRL 0 = true) (hθ : θ.natAbs ≤ s.regN Reg.TBU_SLEW_LIMIT * nsT) :
    ∃ n high, (s.offsetSample θ g).tbu = { s.tbu with
      first := true, held := [], inLock := n, ppsHigh := high
      y := clampY (s.servoY θ g)
      i := if s.servoY θ g < -yMax ∨ yMax < s.servoY θ g then s.tbu.i else s.servoI θ g } := by
  have hregs : s.SameRegsBut ((s.sampled θ).endRun θ) tbuOwn :=
    ((sampled_regs s θ).mono (by simp [tbuOwn])).trans ((endRun_regs _ θ).mono (by simp [tbuOwn]))
  have htbu : ((s.sampled θ).endRun θ).tbu = { s.tbu with first := true, held := [] } := endRun_tbu _ θ
  have ⟨hI, hY⟩ := servoY_congr hregs (by rw [htbu]) θ g
  obtain ⟨n, high, hlock⟩ := lockCount_tbu (((s.sampled θ).endRun θ).servo θ g) θ
  refine ⟨n, high, ?_⟩
  rw [offsetSample_eq, if_pos hθ, hlock, servo_tbu _ ((hregs.bit (by decide) 0).trans hen), hI, hY, htbu]

@[simp] theorem jumpTime_regs (t : Time) : (s.jumpTime t).regs = s.regs := rfl

/-- A step of the time counter keeps y and I and clears LOCKED (R63). -/
theorem stepTime_spec (θ : Int) :
    (s.stepTime θ).tbu.now = ((s.tbu.now : Int) - θ).toNat ∧ (s.stepTime θ).tbu.i = s.tbu.i ∧ (s.stepTime θ).tbu.y = s.tbu.y ∧
      (s.stepTime θ).bit Reg.TBU_STATUS 0 = false := by
  generalize hj : s.jumpTime ((s.tbu.now : Int) - θ).toNat = j
  generalize ht : { j with tbu := { j.tbu with inLock := 0, held := [] } }.tbuSet 0 false = t
  have heq : s.stepTime θ = t.ppsGate := by rw [← ht, ← hj]; rfl
  have htbu : t.tbu = { j.tbu with inLock := 0, held := [] } := by rw [← ht, tbuSet_tbu]
  obtain ⟨high, out, hgate⟩ := ppsGate_eq t
  have hbit : t.bit Reg.TBU_STATUS 0 = false := by rw [← ht]; exact bit_tbuSet_same _ false (by decide)
  rw [heq, hgate]
  refine ⟨?_, ?_, ?_, hbit⟩ <;> rw [htbu, ← hj] <;> rfl

@[simp] theorem leaveCoast_tbu : s.leaveCoast.tbu = s.tbu := by unfold State.leaveCoast; split <;> simp
@[simp] theorem leaveCoast_csq : s.leaveCoast.csq = s.csq := by unfold State.leaveCoast; split <;> simp

theorem leaveCoast_regs : s.SameRegsBut s.leaveCoast [Reg.TBU_STATUS, Reg.TBU_STATUS_W1C] := by
  unfold State.leaveCoast
  split
  · exact ((tbuSet_regs s 3 false).trans (tbuSet_regs _ 4 false)).congr (State.event_regs _ _ _ _ _ _)
  · exact fun _ _ => rfl

end Sys2Proof.Machine
end

section
/-! PROOFS. Syncs of the working domain (R58, R59, R63). -/

namespace Sys2Proof.Machine

theorem exec_gptpSync (m : SyncMsg) (s : State) : exec (.gptpSync m) s = .next (s.doSync m) := rfl

section
variable {s : State} {m : SyncMsg} (hpow : s.powered 90 = true) (hval : s.syncValid s.workDom m = true) (hmem : s.isMember = false)
  (hsrc : s.tbuSrc = 0)
include hpow hval hmem hsrc

/-- A valid Sync of the working domain, where gPTP steers, is an offset sample: from a state that differs from the one it finds in the
device time, the domain's own mark and registers of `tbuOwn`. -/
theorem doSync_eq : ∃ t, s.SameRegsBut t tbuOwn ∧ t.tbu.now = max s.tbu.now m.raw ∧ t.tbu.y = s.tbu.y ∧ t.tbu.i = s.tbu.i ∧
    t.csq = s.csq ∧ s.doSync m = t.offsetSample (s.syncOffset m) (syncGain (s.dom s.workDom).logSync) := by
  obtain ⟨hregs, hnow, hy, hi, hcsq, hlog⟩ := syncArrives_spec s s.workDom m
  obtain ⟨hdom, hsrc', hmem'⟩ := hregs.source
  refine ⟨(s.syncArrives s.workDom m).leaveCoast, hregs.trans ((leaveCoast_regs _).mono (by simp [tbuOwn])), ?_, ?_, ?_, ?_, ?_⟩
  · rw [leaveCoast_tbu, hnow]
  · rw [leaveCoast_tbu, hy]
  · rw [leaveCoast_tbu, hi]
  · rw [leaveCoast_csq, hcsq]
  · simp [State.doSync, hpow, hval, hmem', hmem, hsrc', hsrc, hdom, hlog]

end

/-- Settles O1: the Sync is an offset sample within the slew limit, which steers the servo. -/
theorem syncWithinSlewLimitSteersServo : Obligations.SyncWithinSlewLimitSteersServo := by
  intro m s hpow hval hmem hsrc hen hθ
  obtain ⟨t, hregs, -, -, hi, -, heq⟩ := doSync_eq hpow hval hmem hsrc
  have ⟨hI, hY⟩ := servoY_congr hregs hi (s.syncOffset m) (syncGain (s.dom s.workDom).logSync)
  obtain ⟨n, high, ht⟩ := offsetSample_within_tbu t (g := syncGain (s.dom s.workDom).logSync) ((hregs.bit (by decide) 0).trans hen)
    (by rwa [hregs.regN (by decide)])
  rw [exec_gptpSync, heq]
  refine ⟨_, rfl, ?_, ?_⟩
  · rw [ht, hY]; rfl
  · rw [ht, hY, hI, hi]; rfl

/-- Settles O2: the Sync is an offset sample beyond the slew limit, which steps the time counter. -/
theorem syncBeyondSlewLimitStepsTime : Obligations.SyncBeyondSlewLimitStepsTime := by
  intro m s hpow hval hmem hsrc hθ hrun
  obtain ⟨t, hregs, hnow, hy, hi, hcsq, heq⟩ := doSync_eq hpow hval hmem hsrc
  have hbeyond : ¬ (s.syncOffset m).natAbs ≤ t.regN Reg.TBU_SLEW_LIMIT * nsT := by rw [hregs.regN (by decide)]; exact Nat.not_le.2 hθ
  rw [exec_gptpSync, heq, offsetSample_eq, if_neg hbeyond, if_neg (by simp [hcsq, hrun])]
  obtain ⟨hnow', hi', hy', hbit⟩ := stepTime_spec (t.sampled (s.syncOffset m)) (s.syncOffset m)
  refine ⟨_, rfl, ?_, hi'.trans hi, hy'.trans hy, hbit⟩
  rw [hnow', ← hnow]; rfl

end Sys2Proof.Machine
end

section
/-! PROOFS. The loss of the source (R65, R67, R72, R75): HOLDOVER, and FREE_RUN after it. -/

namespace Sys2Proof.Machine

theorem exec_syncReceiptTimeout (s : State) : exec .syncReceiptTimeout s = .next s.syncTimeout := rfl
theorem exec_timeBlockTimeout (s : State) : exec .timeBlockTimeout s = .next s.blockTimeout := rfl
theorem exec_ppsInTimeout (s : State) : exec .ppsInTimeout s = .next s.ppsTimeout := rfl
theorem exec_holdoverMaxExpiry (s : State) : exec .holdoverMaxExpiry s = .next s.holdoverExpiry := rfl

section
variable (s : State)

/-! ### HOLDOVER and FREE_RUN -/

/-- HOLDOVER is entered with y at the last I, from the present instant on (R65). -/
theorem enterHoldover_spec (hc : s.coasting = false) (hf : s.tbu.first = true) :
    s.enterHoldover.bit Reg.TBU_STATUS 3 = true ∧ s.enterHoldover.tbu = { s.tbu with y := s.tbu.i, holdFrom := s.tbu.now, held := [] } := by
  unfold State.enterHoldover
  simp only [hc, hf, Bool.not_true, Bool.or_false, Bool.false_eq_true, if_false]
  exact ⟨bit_tbuSet_same _ true (by decide), by simp [State.now, hf]⟩

@[simp] theorem dom_enterHoldover (d : Dom) : s.enterHoldover.dom d = s.dom d := by
  unfold State.enterHoldover
  split
  · rfl
  · cases d <;> simp [State.dom]

@[simp] theorem enterFreeRun_tbu : s.enterFreeRun.tbu = s.tbu := by simp [State.enterFreeRun]

theorem enterFreeRun_regs : s.SameRegsBut s.enterFreeRun [Reg.TBU_STATUS, Reg.TBU_STATUS_W1C] :=
  ((tbuSet_regs s 3 false).trans (tbuSet_regs _ 4 true)).congr (State.event_regs _ _ _ _ _ _)

/-- FREE_RUN takes HOLDOVER's place. -/
theorem bit_enterFreeRun : s.enterFreeRun.bit Reg.TBU_STATUS 3 = false ∧ s.enterFreeRun.bit Reg.TBU_STATUS 4 = true :=
  ⟨(bit_tbuSet_other (s.tbuSet 3 false) true (by decide) (by decide)).trans (bit_tbuSet_same s false (by decide)),
    bit_tbuSet_same (s.tbuSet 3 false) true (by decide)⟩

/-! ### The time-outs -/

/-- A source lost at an instant: HOLDOVER from when device time has reached it. -/
theorem enterHoldover_reach {instant : Time} (hc : s.coasting = false) (hf : s.tbu.first = true) :
    let t := (s.reach instant).enterHoldover
    t.bit Reg.TBU_STATUS 3 = true ∧ t.tbu.y = s.tbu.i ∧ t.tbu.now = max s.tbu.now instant := by
  obtain ⟨hbit, htbu⟩ := enterHoldover_spec (s.reach instant) hc hf
  dsimp only
  rw [htbu]
  exact ⟨hbit, rfl, rfl⟩

/-- A domain without the grandmaster whose Syncs have stopped, and without its Announce (R65). -/
def GptpDom.bereft (g : GptpDom) : GptpDom :=
  { g with best := none, heard := false, ports := match g.best with
      | some b => SMap.erase g.ports b.port.val
      | none => g.ports }

/-- Where gPTP steers, a working domain without Syncs loses the source once device time has reached its time-out (R65). -/
theorem syncTimeout_eq (hpow : s.powered 90 = true) (hsrc : s.tbuSrc = 0) (hmem : s.isMember = false)
    (hgm : s.gmSelf s.workDom (s.dom s.workDom) = false) :
    s.syncTimeout =
      ((s.reach ((s.dom s.workDom).lastSync + (s.dom s.workDom).timeout)).setDom s.workDom (s.dom s.workDom).bereft).enterHoldover := by
  generalize hr : s.reach ((s.dom s.workDom).lastSync + (s.dom s.workDom).timeout) = r
  have hd : r.workDom = s.workDom := by rw [← hr]; rfl
  have hregs : s.SameRegsBut (r.setDom s.workDom (s.dom s.workDom).bereft) tbuOwn :=
    State.SameRegsBut.trans (t := r) (fun _ _ => by rw [← hr]; rfl) ((setDom_regs r _ _).mono (by simp [tbuOwn]))
  obtain ⟨hdom, hsrc', hmem'⟩ := hregs.source
  have heq : s.syncTimeout = (r.setDom s.workDom (s.dom s.workDom).bereft).loseWorking s.workDom := by
    simp only [State.syncTimeout, hpow, hgm, hr, hd, Bool.not_true, Bool.or_self, Bool.false_eq_true, if_false]
    rfl
  simp [heq, State.loseWorking, hdom, hsrc', hsrc, hmem', hmem]

theorem syncTimeout_spec (hpow : s.powered 90 = true) (hsrc : s.tbuSrc = 0) (hmem : s.isMember = false)
    (hgm : s.gmSelf s.workDom (s.dom s.workDom) = false) (hc : s.coasting = false) (hf : s.tbu.first = true) :
    let t := s.syncTimeout
    t.bit Reg.TBU_STATUS 3 = true ∧ t.tbu.y = s.tbu.i ∧ (t.dom s.workDom).best = none ∧ t.tbu.holdFrom = t.tbu.now ∧
      t.tbu.now = max s.tbu.now ((s.dom s.workDom).lastSync + (s.dom s.workDom).timeout) := by
  dsimp only
  rw [syncTimeout_eq s hpow hsrc hmem hgm]
  generalize hr : s.reach ((s.dom s.workDom).lastSync + (s.dom s.workDom).timeout) = r
  have htbu : r.tbu = { s.tbu with now := max s.tbu.now ((s.dom s.workDom).lastSync + (s.dom s.workDom).timeout) } := by rw [← hr]; rfl
  have hc' : (r.setDom s.workDom (s.dom s.workDom).bereft).coasting = false := by
    rw [← hc, State.coasting, bit_setDom_other _ _ _ (by decide), bit_setDom_other _ _ _ (by decide), ← hr]
    rfl
  obtain ⟨hbit, hhold⟩ := enterHoldover_spec _ hc' (by rw [setDom_first, htbu, hf])
  refine ⟨hbit, ?_, ?_, ?_, ?_⟩
  · simp [hhold, htbu]
  · simp [GptpDom.bereft]
  · simp [hhold]
  · simp [hhold, htbu]

theorem blockTimeout_eq (hpow : s.powered 90 = true) (hmem : s.isMember = true) (hc : s.coasting = false) (hf : s.tbu.first = true) :
    s.blockTimeout = (s.reach (s.tbu.lastBlock + 3 * msT)).enterHoldover := by
  simp [State.blockTimeout, hpow, hmem, hc, hf]

theorem ppsTimeout_eq {p : Time} (hp : s.tbu.lastPps = some p) (hpow : s.powered 90 = true) (hsrc : s.tbuSrc = 1) (hmem : s.isMember = false)
    (hc : s.coasting = false) : s.ppsTimeout = (s.reach (p + 1500 * msT)).enterHoldover := by
  simp [State.ppsTimeout, hp, hpow, hsrc, hmem, hc]

theorem holdoverExpiry_eq (hpow : s.powered 90 = true) (hhold : s.bit Reg.TBU_STATUS 3 = true) :
    s.holdoverExpiry = (s.reach (s.tbu.holdFrom + s.regN Reg.TBU_HOLDOVER_MAX * secT)).enterFreeRun := by
  simp [State.holdoverExpiry, hpow, hhold]

end

/-- Settles O4: each time-out moves device time to its instant; there the source is lost, or HOLDOVER ends in FREE_RUN. -/
theorem lostSourceEntersHoldoverThenFreeRun : Obligations.LostSourceEntersHoldoverThenFreeRun := by
  refine ⟨fun s hpow hsrc hmem hgm hc hf => ?_, fun s hpow hmem hc hf => ?_, fun s p hp hpow hsrc hmem hc hf => ?_, fun s hpow hhold => ?_⟩
  · rw [exec_syncReceiptTimeout]
    exact ⟨_, rfl, syncTimeout_spec s hpow hsrc hmem hgm hc hf⟩
  · rw [exec_timeBlockTimeout, blockTimeout_eq s hpow hmem hc hf]
    exact ⟨_, rfl, enterHoldover_reach s hc hf⟩
  · rw [exec_ppsInTimeout, ppsTimeout_eq s hp hpow hsrc hmem hc]
    exact ⟨_, rfl, enterHoldover_reach s hc hf⟩
  · rw [exec_holdoverMaxExpiry, holdoverExpiry_eq s hpow hhold]
    obtain ⟨hbit3, hbit4⟩ := bit_enterFreeRun (s.reach (s.tbu.holdFrom + s.regN Reg.TBU_HOLDOVER_MAX * secT))
    refine ⟨_, rfl, hbit3, hbit4, ?_, ?_, fun o ho => enterFreeRun_regs _ o ho⟩ <;> rw [enterFreeRun_tbu] <;> rfl

end Sys2Proof.Machine
end

section
/-! PROOFS. The PPS pins (R74, R75). -/

namespace Sys2Proof.Machine

theorem exec_ppsOutRise (s : State) : exec .ppsOutRise s = .next s.ppsRise := rfl
theorem exec_ppsOutFall (s : State) : exec .ppsOutFall s = .next s.ppsFall := rfl
theorem exec_ppsInEdge (raw : Time) (s : State) : exec (.ppsInEdge raw) s = .next (s.doPpsIn raw) := rfl

section
variable (s : State)

/-! ### PPS_OUT -/

/-- The next multiple of `n` lies above `t` by at most `n`. -/
theorem nextMultiple_bounds {n : Nat} (hn : 0 < n) (t : Nat) : t < (t / n + 1) * n ∧ (t / n + 1) * n ≤ t + n := by
  have hsplit := Nat.div_add_mod' t n
  have hmod := Nat.mod_lt t hn
  rw [Nat.succ_mul]
  omega

/-- Without an output correction PPS_OUT rises at the next whole second (R74). -/
theorem ppsRise_eq (hpow : s.powered 90 = true) (hlow : s.tbu.ppsHigh = false) (hgate : s.ppsGated = false)
    (hcorr : s.regI (Reg.TBU_CORR_TX 25) = 0) :
    s.ppsRise = State.emit { s with tbu := { s.tbu with
      now := (s.tbu.now / secT + 1) * secT, ppsHigh := true, ppsRise := (s.tbu.now / secT + 1) * secT } } (.pin 0 true) := by
  have hnext : max s.tbu.now ((s.tbu.now / secT + 1) * secT) = (s.tbu.now / secT + 1) * secT :=
    max_eq_right (nextMultiple_bounds (by decide) _).1.le
  have htx : psToT (s.regI (Reg.TBU_CORR_TX 25)) = 0 := by simp [hcorr, psToT]
  have hedge : ((((s.now : Int) + 0) / secT + 1) * secT - 0).toNat = (s.tbu.now / secT + 1) * secT := by
    rw [add_zero, sub_zero]; exact_mod_cast Int.toNat_natCast _
  simp only [State.ppsRise, hpow, hlow, hgate, htx, hedge, Bool.not_true, Bool.or_self, Bool.false_eq_true, if_false, State.reach, hnext]

theorem ppsFall_eq (hpow : s.powered 90 = true) (hhigh : s.tbu.ppsHigh = true) :
    s.ppsFall = (s.reach (s.tbu.ppsRise + s.fld' Reg.TBU_PPS_CFG 0 16 * msT)).ppsLow := by simp [State.ppsFall, hpow, hhigh]

/-! ### PPS_IN -/

/-- The offset of a PPS_IN edge: its time modulo one second, signed (R75). -/
def ppsOffset (t : Time) : Int :=
  let f : Int := t % secT
  if f * 2 < secT then f else f - secT

theorem ppsOffset_eq (t : Time) : ppsOffset t = if (t : Int) % secT * 2 < secT then (t : Int) % secT else t % secT - secT := rfl

/-- Device time at a PPS_IN edge, and the edge noted (R75). -/
def State.ppsNoted (s : State) (raw : Time) : State :=
  { s with tbu := { s.tbu with now := max s.tbu.now raw, lastPps := some (s.capture 24 raw) } }

/-- An edge in time is an offset sample, after which the seconds may follow the working domain (R75). -/
theorem doPpsIn_eq {raw : Time} (hpow : s.powered 90 = true) (hsrc : s.tbuSrc = 1) (hmem : s.isMember = false)
    (hlate : ∀ p, s.tbu.lastPps = some p → s.capture 24 raw ≤ p + 1500 * msT) :
    s.doPpsIn raw = ((s.ppsNoted raw).leaveCoast.offsetSample (ppsOffset (s.capture 24 raw)) 1).ppsSeconds := by
  unfold State.doPpsIn
  rw [if_neg (by simp [hpow, hsrc, hmem])]
  refine if_neg ?_
  show ¬ (match s.tbu.lastPps with | some p => decide (p + 1500 * msT < s.capture 24 raw) | none => false) = true
  cases hp : s.tbu.lastPps with
  | none => exact Bool.false_ne_true
  | some p => simpa using hlate p hp

@[simp] theorem movedBy_zero (t : Time) : movedBy 0 t = t := by simp [movedBy]

/-- Seconds taken from the working domain keep y, and the last edge moves with the counter (R75). -/
theorem ppsSeconds_tbu :
    s.ppsSeconds.tbu.y = s.tbu.y ∧ s.ppsSeconds.tbu.lastPps = s.tbu.lastPps.map (movedBy ((s.ppsSeconds.tbu.now : Int) - s.tbu.now)) := by
  unfold State.ppsSeconds
  split
  · refine ⟨rfl, ?_⟩
    cases s.tbu.lastPps <;> simp
  · exact ⟨rfl, rfl⟩

/-- An edge in time within the slew limit is the last edge, on the counter as it then stands, and steers the servo with gain one (R75). -/
theorem doPpsIn_spec {raw : Time} (hpow : s.powered 90 = true) (hsrc : s.tbuSrc = 1) (hmem : s.isMember = false)
    (hlate : ∀ p, s.tbu.lastPps = some p → s.capture 24 raw ≤ p + 1500 * msT) (hen : s.bit Reg.TBU_CTRL 0 = true)
    (hθ : (ppsOffset (s.capture 24 raw)).natAbs ≤ s.regN Reg.TBU_SLEW_LIMIT * nsT) :
    (s.doPpsIn raw).tbu.lastPps = some (movedBy (((s.doPpsIn raw).tbu.now : Int) - max s.tbu.now raw) (s.capture 24 raw)) ∧
      (s.doPpsIn raw).tbu.y = clampY (s.servoY (ppsOffset (s.capture 24 raw)) 1) := by
  rw [doPpsIn_eq s hpow hsrc hmem hlate]
  have htbu : (s.ppsNoted raw).leaveCoast.tbu = (s.ppsNoted raw).tbu := leaveCoast_tbu _
  have hregs : s.SameRegsBut (s.ppsNoted raw).leaveCoast tbuOwn :=
    State.SameRegsBut.trans (t := s.ppsNoted raw) (State.sameRegsBut_of_regs _ rfl) ((leaveCoast_regs _).mono (by simp [tbuOwn]))
  generalize ppsOffset (s.capture 24 raw) = θ at hθ ⊢
  obtain ⟨n, high, hsample⟩ := offsetSample_within_tbu (s.ppsNoted raw).leaveCoast (θ := θ) (g := 1) ((hregs.bit (by decide) 0).trans hen)
    (by rwa [hregs.regN (by decide)])
  obtain ⟨hy, hpps⟩ := ppsSeconds_tbu ((s.ppsNoted raw).leaveCoast.offsetSample θ 1)
  constructor
  · rw [hpps, hsample, htbu]; rfl
  · rw [hy, hsample, (servoY_congr hregs (by rw [htbu]; rfl) θ 1).2]

end

/-- Settles O6: the edges of PPS_OUT move device time to their instants; an edge of PPS_IN in time is an offset sample of gain one. -/
theorem ppsEdgesHaveTheirEffect : Obligations.PpsEdgesHaveTheirEffect := by
  refine ⟨fun s hpow hlow hgate hcorr => ?_, fun s hpow hhigh => ?_, fun raw s hpow hsrc hmem hlate hen => ?_⟩
  · have ⟨hafter, hwithin⟩ := nextMultiple_bounds (n := secT) (by decide) s.tbu.now
    rw [exec_ppsOutRise, ppsRise_eq s hpow hlow hgate hcorr]
    exact ⟨_, rfl, fun _ _ => rfl, rfl, Nat.mul_mod_left _ _, hafter, hwithin, rfl⟩
  · rw [exec_ppsOutFall, ppsFall_eq s hpow hhigh]
    exact ⟨_, rfl, fun _ _ => rfl, rfl, rfl, rfl⟩
  · dsimp only
    rw [← ppsOffset_eq, exec_ppsInEdge]
    intro hθ
    obtain ⟨hlast, hy⟩ := doPpsIn_spec s hpow hsrc hmem hlate hen hθ
    refine ⟨_, rfl, hlast, ?_⟩
    rw [hy, clampY, State.servoY, State.servoI, Nat.cast_one, one_mul, one_mul]

end Sys2Proof.Machine
end

section
/-! PROOFS. The host's commands to the time base (R43, R69, R77, R748). -/

namespace Sys2Proof.Machine

theorem exec_timeSnapshot (s : State) : exec .timeSnapshot s = .next (s.hostAccess .read (Reg.TBU_TIME_SNAP 0) (fun s =>
    s.snapTime.emit (.host .sc (leBytes 4 (s.snapTime.regN (Reg.TBU_TIME_SNAP 0)))))) := rfl
theorem exec_timeSet (s : State) : exec .timeSet s = .next (s.hostCmd Reg.TBU_CTRL State.doTimeSet) := rfl
theorem exec_workDomWrite (d : Dom) (s : State) :
    exec (.workDomWrite d) s = .next (s.hostReg Reg.TBU_CTRL (fun s => s.setWorkDom d)) := rfl
theorem exec_tbuSrcWrite (v : BitVec 2) (s : State) :
    exec (.tbuSrcWrite v) s = .next (s.hostReg Reg.TBU_CTRL (fun s => s.setSrc v)) := rfl

/-! ### Bytes and registers -/

theorem leNat_leBytes (n v : Nat) : leNat (leBytes n v) = v % 256 ^ n := by
  induction n generalizing v with
  | zero => simp [leBytes, leNat, Nat.mod_one]
  | succ n ih => rw [leBytes, leNat, ih, BitVec.toNat_ofNat, pow_succ' 256 n, Nat.mod_mul]

theorem leBytes_add (m n v : Nat) : leBytes (m + n) v = leBytes m v ++ leBytes n (v / 256 ^ m) := by
  induction m generalizing v with
  | zero => simp [leBytes]
  | succ m ih => rw [Nat.succ_add, leBytes, ih, leBytes, List.cons_append, Nat.div_div_eq_div_mul, pow_succ']

/-- Four bytes of a value set one register. -/
theorem setRegBytes_leBytes (s : State) (off v : Nat) (bs : List Byte) :
    s.setRegBytes off (leBytes 4 v ++ bs) = (s.setReg off (BitVec.ofNat 32 v)).setRegBytes (off + 4) bs := by
  have hv : BitVec.ofNat 32 (leNat (leBytes 4 v)) = BitVec.ofNat 32 v := by
    rw [leNat_leBytes]; exact BitVec.eq_of_toNat_eq (by simp)
  rw [← hv]
  rfl

section
variable (s : State)

/-- The snapshot holds device time: fraction, nanoseconds, and the two words of the seconds (R42, R77). -/
theorem snapTime_eq : s.snapTime =
    (((s.setReg (Reg.TBU_TIME_SNAP 0) (BitVec.ofNat 32 (s.now % nsT))).setReg
      (Reg.TBU_TIME_SNAP 1) (BitVec.ofNat 32 (s.now / nsT % 1000000000))).setReg
      (Reg.TBU_TIME_SNAP 2) (BitVec.ofNat 32 (s.now / secT))).setReg (Reg.TBU_TIME_SNAP 3) (BitVec.ofNat 32 (s.now / secT / 2 ^ 32)) := by
  have htw_eq : htw s.now = leBytes 4 (s.now % nsT) ++ (leBytes 4 (s.now / nsT % 1000000000) ++
      (leBytes 4 (s.now / secT) ++ (leBytes 4 (s.now / secT / 2 ^ 32) ++ []))) := by
    rw [htw, leBytes_add 4 4 (s.now / secT), List.append_assoc, List.append_nil]; rfl
  rw [State.snapTime, htw_eq, setRegBytes_leBytes, setRegBytes_leBytes, setRegBytes_leBytes, setRegBytes_leBytes]
  rfl

theorem snapTime_regs : s.SameRegsBut s.snapTime
    [Reg.TBU_TIME_SNAP 0, Reg.TBU_TIME_SNAP 1, Reg.TBU_TIME_SNAP 2, Reg.TBU_TIME_SNAP 3] := by
  intro o ho
  simp only [List.mem_cons, List.not_mem_nil, or_false, not_or] at ho
  simp [snapTime_eq, reg_setReg, ho]

theorem regN_snapTime :
    s.snapTime.regN (Reg.TBU_TIME_SNAP 0) = s.now % nsT ∧ s.snapTime.regN (Reg.TBU_TIME_SNAP 1) = s.now / nsT % 1000000000 ∧
      s.snapTime.regN (Reg.TBU_TIME_SNAP 2) = s.now / secT % 2 ^ 32 ∧
      s.snapTime.regN (Reg.TBU_TIME_SNAP 3) = s.now / secT / 2 ^ 32 % 2 ^ 32 := by
  have hns : s.now / nsT % 1000000000 < 4294967296 := (Nat.mod_lt _ (by decide)).trans (by decide)
  have hfrac : s.now % nsT < 4294967296 := Nat.mod_lt _ (by decide)
  simp [snapTime_eq, State.regN, reg_setReg, hns, hfrac]

/-! ### SET, WORK_DOM and SRC -/

/-- Device time is set with the step cycle stopped and NSEC in range (R43). -/
theorem doTimeSet_done {x : Time} (hrun : s.csq.running = false) (hx : htwTime (s.regBytes (Reg.TBU_TIME_SET 0) 4) = some x) :
    s.doTimeSet = (s.jumpTime x).setFld Reg.TBU_CTRL 4 3 0 := by simp [State.doTimeSet, hrun, hx]

theorem doTimeSet_refused (hrun : s.csq.running = true) : s.doTimeSet = s.setFld Reg.TBU_CTRL 4 3 5 := by simp [State.doTimeSet, hrun]

/-- WORK_DOM written, and the write noted against an automatic change of the same cycle (R69). -/
def State.workDomWritten (s : State) (d : Dom) : State :=
  { s.setBit Reg.TBU_CTRL 1 (d == .b) with tbu := { s.tbu with domWrite := some s.now, autoAt := none } }

theorem workDomWritten_regs (d : Dom) : s.SameRegsBut (s.workDomWritten d) [Reg.TBU_CTRL] :=
  fun o ho => sameRegsBut_setReg s (o := Reg.TBU_CTRL) _ (by simp) o ho

theorem workDom_workDomWritten (d : Dom) : (s.workDomWritten d).workDom = d := by
  have hbit : (s.workDomWritten d).bit Reg.TBU_CTRL 1 = (d == .b) := bit_setBit_same s _ _ _ (by decide)
  rw [State.workDom, hbit]
  cases d <;> rfl

/-- Over an automatic change of the same cycle the write keeps HOLDOVER and takes the change's event back (R69). -/
theorem setWorkDom_auto (d : Dom) (h : s.tbu.autoAt = some s.now) :
    ∃ hif, s.setWorkDom d = { s.workDomWritten d with hif := hif }.setBit Reg.TBU_STATUS 3 true := ⟨_, if_pos (by simp [h])⟩

theorem setWorkDom_plain (d : Dom) (h : s.tbu.autoAt ≠ some s.now) : s.setWorkDom d = s.workDomWritten d := if_neg (by simp [h])

theorem setWorkDom_spec (d : Dom) :
    s.SameRegsBut (s.setWorkDom d) [Reg.TBU_CTRL, Reg.TBU_STATUS] ∧ (s.setWorkDom d).workDom = d ∧
      (s.setWorkDom d).tbu = { s.tbu with domWrite := some s.now, autoAt := none } ∧
      (s.tbu.autoAt = some s.now → (s.setWorkDom d).bit Reg.TBU_STATUS 3 = true) ∧
      (s.tbu.autoAt ≠ some s.now → (s.setWorkDom d).reg Reg.TBU_STATUS = s.reg Reg.TBU_STATUS) := by
  have hregs := workDomWritten_regs s d
  by_cases hauto : s.tbu.autoAt = some s.now
  · obtain ⟨hif, heq⟩ := setWorkDom_auto s d hauto
    generalize hw : ({ s.workDomWritten d with hif := hif } : State) = w at heq
    have hhold : w.SameRegsBut (w.setBit Reg.TBU_STATUS 3 true) [Reg.TBU_STATUS] := sameRegsBut_setReg _ _ (by simp)
    refine ⟨?_, ?_, ?_, fun _ => ?_, fun h => absurd hauto h⟩ <;> rw [heq]
    · refine State.SameRegsBut.trans (t := w) ?_ (hhold.mono (by simp))
      exact (hregs.mono (by simp)).congr (by rw [← hw])
    · rw [State.workDom, hhold.bit (by decide), ← hw]
      exact workDom_workDomWritten s d
    · rw [State.setBit_tbu, ← hw]
      rfl
    · exact bit_setBit_same _ _ _ _ (by decide)
  · refine ⟨?_, ?_, ?_, fun h => absurd h hauto, fun _ => ?_⟩ <;> rw [setWorkDom_plain s d hauto]
    · exact hregs.mono (by simp)
    · exact workDom_workDomWritten s d
    · rfl
    · exact hregs _ (by decide)

theorem followSource_regs (was : Bool) : s.SameRegsBut (s.followSource was) [Reg.TBU_STATUS, Reg.TBU_STATUS_W1C] := by
  unfold State.followSource
  split
  · exact enterFreeRun_regs s
  · split
    · exact leaveCoast_regs s
    · exact fun _ _ => rfl

/-- Without a source the TBU is in FREE_RUN (R748). -/
theorem bit_followSource (was : Bool) (h : s.noSource = true) : (s.followSource was).bit Reg.TBU_STATUS 4 = true := by
  unfold State.followSource
  split
  · exact (bit_enterFreeRun s).2
  · next hfree => simpa [h] using hfree

theorem setSrc_spec (v : BitVec 2) (hrwl : s.lth.rwl = false) :
    s.SameRegsBut (s.setSrc v) [Reg.TBU_CTRL, Reg.TBU_STATUS, Reg.TBU_STATUS_W1C] ∧ (s.setSrc v).tbuSrc = v.toNat ∧
      (2 ≤ v.toNat → s.isMember = false → (s.setSrc v).bit Reg.TBU_STATUS 4 = true) := by
  have heq : s.setSrc v = (s.setFld Reg.TBU_CTRL 2 2 v.toNat).followSource s.noSource := if_neg (by simp [hrwl])
  generalize hw : s.setFld Reg.TBU_CTRL 2 2 v.toNat = w at heq
  have hregs : s.SameRegsBut w [Reg.TBU_CTRL] := by rw [← hw]; exact sameRegsBut_setReg _ _ (by simp)
  have hfollow := followSource_regs w s.noSource
  have hsrc : w.tbuSrc = v.toNat := by
    rw [← hw, State.tbuSrc, fld_setFld_same _ _ _ _ _ (by decide)]
    exact Nat.mod_eq_of_lt v.isLt
  rw [heq]
  refine ⟨(hregs.mono (by simp)).trans (hfollow.mono (by simp)), (hfollow.fld (by decide) 2 2).trans hsrc, fun hv hmem => ?_⟩
  refine bit_followSource w _ ?_
  simp [State.noSource, hsrc, hv, hregs.isMember (by decide) (by decide), hmem]

end

/-- Settles O7: each access reaches its register, and there has the effect of its command. -/
theorem hostTimeCommandsHaveTheirEffect : Obligations.HostTimeCommandsHaveTheirEffect := by
  refine ⟨fun s h => ?_, fun s x h hrun hx => ?_, fun s h hrun => ?_, fun d s h => ?_, fun v s h hrwl => ?_⟩
  · obtain ⟨h0, h1, h2, h3⟩ := regN_snapTime s
    have hregs := snapTime_regs s
    have hout : s.snapTime.out = s.out := by rw [snapTime_eq]; rfl
    rw [exec_timeSnapshot, hostAccess_open h]
    generalize s.snapTime = t at h0 h1 h2 h3 hregs hout ⊢
    exact ⟨_, rfl, hregs, h0, h1, h2, h3, by rw [State.emit_out, hout, h0]⟩
  · rw [exec_timeSet, hostCmd_open h, doTimeSet_done s hrun hx]
    have hjump : s.SameRegsBut (s.jumpTime x) [Reg.TBU_CTRL] := State.sameRegsBut_of_regs _ (jumpTime_regs s x)
    exact ⟨_, rfl, hjump.trans (sameRegsBut_setReg _ _ (by simp)), rfl, fld_setFld_same _ _ _ _ _ (by decide)⟩
  · rw [exec_timeSet, hostCmd_open h, doTimeSet_refused s hrun]
    exact ⟨_, rfl, sameRegsBut_setReg _ _ (by simp), rfl, fld_setFld_same _ _ _ _ _ (by decide)⟩
  · rw [exec_workDomWrite, hostReg_free h]
    exact ⟨_, rfl, setWorkDom_spec s d⟩
  · rw [exec_tbuSrcWrite, hostReg_free h]
    exact ⟨_, rfl, setSrc_spec s v hrwl⟩

end Sys2Proof.Machine
end

section
/-! PROOFS. Time on the Salarur Link (R71 to R73, R601): time blocks and delay exchanges. -/

namespace Sys2Proof.Machine

theorem exec_timeBlockSend (s : State) : exec .timeBlockSend s = .next s.timeBlockSend := rfl
theorem exec_timeBlock (p : Fin 6) (b : TimeBlock) (s : State) : exec (.timeBlock p b) s = .next (s.doTimeBlock p b) := rfl
theorem exec_delayRequestSend (p : Fin 6) (s : State) : exec (.delayRequestSend p) s = .next (s.delaySend p) := rfl
theorem exec_delayRequest (p : Fin 6) (rx : Time) (s : State) : exec (.delayRequest p rx) s = .next (s.delayAnswer p rx) := rfl
theorem exec_delayResponse (p : Fin 6) (x : DelayTimes) (s : State) : exec (.delayResponse p x) s = .next (s.delayTaken p x) := rfl

section
variable (s : State)

/-! ### Sending time blocks -/

/-- What a time block on a port puts out: nothing where the port is down or held (R71, R73). -/
def State.blockOut (s : State) (p : Fin 6) : List Out :=
  if (s.lport p).up && !(s.lport p).held then
    [.linkTime p 2 (s.stampOut (12 + p) s.now) ((if s.bit Reg.TBU_STATUS 3 then 1 else 0) + (if s.bit Reg.TBU_STATUS 4 then 2 else 0))]
  else []

theorem sendBlock_eq (p : Fin 6) : s.sendBlock p = { s with out := s.out ++ s.blockOut p } := by
  unfold State.sendBlock State.blockOut
  split
  · rfl
  · simp

/-- Time blocks down several ports only put out, each port its own. -/
theorem foldl_sendBlock (l : List (Fin 6)) :
    l.foldl (fun s (p : Fin 6) => s.sendBlock p) s = { s with out := s.out ++ l.flatMap s.blockOut } := by
  suffices h : ∀ out, l.foldl (fun s (p : Fin 6) => s.sendBlock p) { s with out := out } = { s with out := out ++ l.flatMap s.blockOut } from h s.out
  induction l with
  | nil => intro out; simp
  | cons p l ih =>
    intro out
    rw [List.foldl_cons, sendBlock_eq, List.flatMap_cons, ← List.append_assoc]
    exact ih _

/-- A live port's time block carries the sender's time and its HOLDOVER and FREE_RUN (R71, R73). -/
theorem mem_blockOut {p : Fin 6} (hlive : (s.lport p).up = true) (hheld : (s.lport p).held = false) :
    .linkTime p 2 (s.stampOut (12 + p) s.now) ((if s.bit Reg.TBU_STATUS 3 then 1 else 0) + (if s.bit Reg.TBU_STATUS 4 then 2 else 0)) ∈
      s.blockOut p := by simp [State.blockOut, hlive, hheld]

/-- Device time and the last block's instant when the next time block is due (R71). -/
def State.blockDue (s : State) : State :=
  { s with tbu := { s.tbu with
    now := max s.tbu.now (s.tbu.lastBlock + msT), lastBlock := max s.tbu.now (s.tbu.lastBlock + msT) } }

/-- Device 0 sends its time one millisecond after it last did, down every port of the time tree (R71). -/
theorem timeBlockSend_eq (hpow : s.powered 90 = true) (hmem : s.isMember = false) (hgroup : s.fld' Reg.SLK_CTRL 1 2 ≠ 0) :
    s.timeBlockSend = { s.blockDue with out := s.out ++ s.tbu.down.flatMap s.blockDue.blockOut } := by
  have hcond : ¬ (!s.powered 90 || s.isMember || s.fld' Reg.SLK_CTRL 1 2 == 0) = true := by simp [hpow, hmem, hgroup]
  exact (if_neg hcond).trans (foldl_sendBlock _ _)

/-! ### Taking a time block -/

/-- What offset samples leave of a member's time: the time of the last block, and every status bit but LOCKED and SLEWING. -/
def State.KeepsBlock (s t : State) : Prop :=
  t.tbu.lastSent = s.tbu.lastSent ∧ ∀ b, b ≠ 0 → b ≠ 5 → t.bit Reg.TBU_STATUS b = s.bit Reg.TBU_STATUS b

theorem State.KeepsBlock.trans {s t u : State} (h : s.KeepsBlock t) (h' : t.KeepsBlock u) : s.KeepsBlock u :=
  ⟨h'.1.trans h.1, fun b h0 h5 => (h'.2 b h0 h5).trans (h.2 b h0 h5)⟩

theorem State.KeepsBlock.of_reg {s t : State} (hsent : t.tbu.lastSent = s.tbu.lastSent) (hreg : t.reg Reg.TBU_STATUS = s.reg Reg.TBU_STATUS) :
    s.KeepsBlock t := ⟨hsent, fun b _ _ => by simp only [State.bit, State.fld', hreg]⟩

theorem keepsBlock_setY (y : Int) : s.KeepsBlock (s.setY y) := .of_reg rfl (reg_setReg_ne _ _ (by decide))

theorem keepsBlock_tbuSet {b : Nat} (v : Bool) (h : b = 0 ∨ b = 5) : s.KeepsBlock (s.tbuSet b v) :=
  ⟨by rw [tbuSet_tbu], fun b' h0 h5 => bit_tbuSet_other s v (by omega) (by omega)⟩

theorem keepsBlock_ppsGate : s.KeepsBlock s.ppsGate := by
  obtain ⟨high, out, h⟩ := ppsGate_eq s
  rw [h]
  exact .of_reg rfl rfl

theorem keepsBlock_setSlewing (θ : Int) (v : Bool) : s.KeepsBlock (s.setSlewing θ v) := by
  have h := keepsBlock_tbuSet s (b := 5) v (.inr rfl)
  exact h.trans (.of_reg (by rw [State.setSlewing, State.event_tbu]) (reg_congr (State.event_regs _ _ _ _ _ _) _))

theorem keepsBlock_endRun (θ : Int) : s.KeepsBlock (s.endRun θ) := by
  unfold State.endRun
  dsimp only
  split
  · exact State.KeepsBlock.trans (.of_reg rfl rfl) (keepsBlock_setSlewing _ θ false)
  · exact .of_reg rfl rfl

theorem keepsBlock_servo (θ : Int) (g : Nat) : s.KeepsBlock (s.servo θ g) := by
  unfold State.servo
  dsimp only
  split
  · exact .of_reg rfl rfl
  · split
    · exact keepsBlock_setY s _
    · split
      · exact keepsBlock_setY s _
      · exact State.KeepsBlock.trans (.of_reg rfl rfl) (keepsBlock_setY _ _)

theorem keepsBlock_lockCount (θ : Int) : s.KeepsBlock (s.lockCount θ) := by
  unfold State.lockCount
  dsimp only
  split
  · exact State.KeepsBlock.trans (.of_reg rfl rfl) (keepsBlock_tbuSet _ _ (.inl rfl))
  · refine State.KeepsBlock.trans (State.KeepsBlock.trans ?_ (keepsBlock_tbuSet _ _ (.inl rfl))) (keepsBlock_ppsGate _)
    exact .of_reg rfl rfl

theorem keepsBlock_stepTime (θ : Int) : s.KeepsBlock (s.stepTime θ) := by
  have hjump : s.KeepsBlock (s.jumpTime ((s.tbu.now : Int) - θ).toNat) := .of_reg rfl (reg_congr (jumpTime_regs _ _) _)
  unfold State.stepTime
  generalize s.jumpTime ((s.tbu.now : Int) - θ).toNat = j at hjump ⊢
  refine State.KeepsBlock.trans (State.KeepsBlock.trans (hjump.trans ?_) (keepsBlock_tbuSet _ _ (.inl rfl))) (keepsBlock_ppsGate _)
  exact .of_reg rfl rfl

theorem keepsBlock_heldBack (θ : Int) : s.KeepsBlock (s.heldBack θ) := by
  have hcount : s.KeepsBlock (s.countSat Reg.TBU_JUMP_CNT 0 32 1) := .of_reg rfl (reg_setFld_ne s _ _ _ (by decide))
  have hslew (t : State) (y : Int) : t.KeepsBlock (if t.bit Reg.TBU_CTRL 0 then t.setY y else t) := by
    split
    · exact keepsBlock_setY t y
    · exact .of_reg rfl rfl
  unfold State.heldBack
  refine (hcount.trans (keepsBlock_lockCount _ θ)).trans ?_
  generalize (s.countSat Reg.TBU_JUMP_CNT 0 32 1).lockCount θ = t
  dsimp only
  split
  · exact hslew t _
  · split
    · exact (State.KeepsBlock.trans (.of_reg rfl rfl) (keepsBlock_setSlewing _ θ true)).trans (hslew _ _)
    · exact .of_reg rfl rfl

theorem keepsBlock_offsetSample (θ : Int) (g : Nat) : s.KeepsBlock (s.offsetSample θ g) := by
  have hsample : s.KeepsBlock (s.sampled θ) := .of_reg rfl (sampled_regs s θ _ (by decide))
  rw [offsetSample_eq]
  split
  · exact ((hsample.trans (keepsBlock_endRun _ θ)).trans (keepsBlock_servo _ θ g)).trans (keepsBlock_lockCount _ θ)
  · split
    · exact hsample.trans (keepsBlock_heldBack _ θ)
    · exact hsample.trans (keepsBlock_stepTime _ θ)

/-- A member shows the bellwether's HOLDOVER and FREE_RUN (R73). -/
theorem followCoast_spec (h f : Bool) :
    (s.followCoast h f).bit Reg.TBU_STATUS 3 = h ∧ (s.followCoast h f).bit Reg.TBU_STATUS 4 = f ∧
      (s.followCoast h f).tbu.lastSent = s.tbu.lastSent := by
  unfold State.followCoast
  split
  · next hsame =>
    simp only [Bool.and_eq_true, beq_iff_eq] at hsame
    exact ⟨hsame.1.symm, hsame.2.symm, rfl⟩
  · have h3 : ((s.tbuSet 3 h).tbuSet 4 f).bit Reg.TBU_STATUS 3 = h :=
      (bit_tbuSet_other _ f (by decide) (by decide)).trans (bit_tbuSet_same s h (by decide))
    have h4 : ((s.tbuSet 3 h).tbuSet 4 f).bit Reg.TBU_STATUS 4 = f := bit_tbuSet_same _ f (by decide)
    have hsent : ((s.tbuSet 3 h).tbuSet 4 f).tbu.lastSent = s.tbu.lastSent := by simp
    generalize (s.tbuSet 3 h).tbuSet 4 f = t at h3 h4 hsent ⊢
    cases f <;> cases h <;> exact ⟨h3, h4, hsent⟩

/-- A member takes a time block whose time rises: it shows the bellwether's bits, steers by it and sends its own down (R71 to R73). -/
theorem doTimeBlock_eq {p : Fin 6} {b : TimeBlock} (hpow : s.powered 90 = true) (hmem : s.isMember = true) (hup : s.tbu.up = some p)
    (hlive : (s.lport p).up = true) (hheld : (s.lport p).held = false) (hrise : s.tbu.lastSent < b.sent) :
    ∃ θ out,
      let r : State := { s with tbu := { s.tbu with now := max s.tbu.now b.raw, lastBlock := max s.tbu.now b.raw, lastSent := b.sent } }
      s.doTimeBlock p b = { (r.followCoast (b.holdover && !b.freeRun) b.freeRun).offsetSample θ 1000 with out := out } := by
  have hcond : ¬ (!s.powered 90 || !s.isMember || s.tbu.up != some p || !(s.lport p).up || (s.lport p).held) = true := by
    simp [hpow, hmem, hup, hlive, hheld]
  exact ⟨_, _, ((if_neg hcond).trans (if_neg (Nat.not_le.2 hrise))).trans (foldl_sendBlock _ _)⟩

/-! ### Delay exchanges -/

theorem delaySend_eq {p : Nat} (hlive : (s.lport p).up = true) (hheld : (s.lport p).held = false) :
    let r := s.reach ((s.lport p).reqAt + msT)
    s.delaySend p = (r.setLport p { s.lport p with reqAt := r.now }).emit (.linkTime p 0 (r.stampOut (12 + p) r.now) 0) :=
  if_neg (by simp [hlive, hheld])

theorem delayAnswer_eq {p : Nat} {rx : Time} (hlive : (s.lport p).up = true) (hheld : (s.lport p).held = false) :
    s.delayAnswer p rx = (s.reach rx).emit (.linkTime p 1 (s.capture (12 + p) rx) (s.stampOut (12 + p) (max s.now rx))) :=
  if_neg (by simp [hlive, hheld])

theorem regI_setRegSat (o : Nat) (v : Int) : (s.setRegSat o v).regI o = satInt 32 v := by
  have hlo : -(2 : Int) ^ 31 ≤ satInt 32 v := by unfold satInt; split_ifs <;> omega
  have hhi : satInt 32 v < 2 ^ 31 := by unfold satInt; split_ifs <;> omega
  rw [State.regI, State.setRegSat, reg_setReg_same]
  exact BitVec.toInt_ofInt_eq_self (by decide) hlo hhi

/-- A response within its bounds joins the last eight path delays, and the port's register shows their mean (R601). -/
theorem delayTaken_eq {p : Fin 6} {x : DelayTimes} (hlive : (s.lport p).up = true) (hheld : (s.lport p).held = false) {d : Int}
    (hd : d = (((s.capture (12 + p) x.t4 : Int) - s.stampOut (12 + p) x.t1) - ((x.t3 : Int) - x.t2)) / 2) (h0 : 0 ≤ d) (h1 : d ≤ usT) :
    let l := { s.lport p with delays := (d :: (s.lport p).delays).take 8 }
    s.delayTaken p x = ((s.reach x.t4).setLport p l).setRegSat (Reg.SLK_P_DELAY p) (toPsRound l.meanDelay) := by
  subst hd
  have hport : ¬ (!(s.lport p).up || (s.lport p).held) = true := by simp [hlive, hheld]
  refine (if_neg hport).trans (if_neg ?_)
  simpa using ⟨h0, h1⟩

end

/-- Settles O5: each row is followed to the block, the request or the answer it sends, or to the time and the delay it takes. -/
theorem timeCrossesTheLink : Obligations.TimeCrossesTheLink := by
  refine ⟨fun s hpow hmem hgroup => ?_, fun p b s hpow hmem hup hlive hheld hrise => ?_, fun p s hlive hheld => ?_,
    fun p rx s hlive hheld => ?_, fun p x s hlive hheld => ?_⟩
  · rw [exec_timeBlockSend, timeBlockSend_eq s hpow hmem hgroup]
    refine ⟨_, rfl, fun _ _ => rfl, rfl, rfl, fun p hp hlive hheld => ?_⟩
    exact List.mem_append_right _ (List.mem_flatMap.2 ⟨p, hp, mem_blockOut s.blockDue hlive hheld⟩)
  · obtain ⟨θ, out, heq⟩ := doTimeBlock_eq s hpow hmem hup hlive hheld hrise
    dsimp only at heq
    rw [exec_timeBlock, heq]
    generalize hr : ({ s with tbu := { s.tbu with now := max s.tbu.now b.raw, lastBlock := max s.tbu.now b.raw, lastSent := b.sent } } : State) = r
    have hsent : r.tbu.lastSent = b.sent := by rw [← hr]
    obtain ⟨h3, h4, hsent'⟩ := followCoast_spec r (b.holdover && !b.freeRun) b.freeRun
    generalize r.followCoast (b.holdover && !b.freeRun) b.freeRun = f at h3 h4 hsent' ⊢
    obtain ⟨hlast, hbits⟩ := keepsBlock_offsetSample f θ 1000
    exact ⟨_, rfl, hlast.trans (hsent'.trans hsent), (hbits 3 (by decide) (by decide)).trans h3, (hbits 4 (by decide) (by decide)).trans h4⟩
  · rw [exec_delayRequestSend, delaySend_eq s hlive hheld]
  · rw [exec_delayRequest, delayAnswer_eq s hlive hheld]
  · intro d h0 h1
    rw [exec_delayResponse, delayTaken_eq s hlive hheld rfl h0 h1]
    generalize hl : { s.lport p.val with delays := (d :: (s.lport p.val).delays).take 8 } = l
    have hport : (((s.reach x.t4).setLport p l).setRegSat (Reg.SLK_P_DELAY p) (toPsRound l.meanDelay)).lport p = l := lport_setLport _ _ _
    refine ⟨_, rfl, fun o ho => sameRegsBut_setReg _ _ (by simp) o ho, ?_, ?_⟩
    · rw [hport, ← hl]
    · rw [hport, regI_setRegSat]

end Sys2Proof.Machine
end

section
/-! PROOFS. Embedded data of a CSI-2 receiver (R56, R84). The receiver counts a corrected header before it reads the exposure, so the exposure
is that of the state before the packet only where the count's register is none of the exposure's: true of the 48 camera streams there are,
not of every number a frame of an arbitrary state can name. -/

namespace Sys2Proof.Machine

theorem exec_csiEmbeddedData (p : Fin 12) (c : BitVec 4) (l : CsiLine) (s : State) :
    exec (.csiEmbeddedData p c l) s = .next (s.embedded p c.toNat l) := rfl

/-! ### Where the streams are those of Table 2.4 -/

/-- A frame takes the exposure of its embedded line (R56). -/
def CamFrame.exposed (s : State) (data : List Byte) (f : CamFrame) : CamFrame :=
  match f.cam with
  | some k => { f with exp := match s.expOf k data with | some e => some e | none => f.exp }
  | none => f

theorem ecc1_regs (s : State) (p : Nat) (v : Bool) : s.SameRegsBut (s.ecc1 p v) [Reg.SIC_CSI_ECC1 p] := by
  unfold State.ecc1
  split
  · exact sameRegsBut_setReg _ _ (by simp)
  · exact fun _ _ => rfl

@[simp] theorem ecc1_sic (s : State) (p : Nat) (v : Bool) : (s.ecc1 p v).sic = s.sic := by unfold State.ecc1; split <;> rfl

/-- A Frame Start names streams of the 48 alone. -/
theorem camStream_lt {s : State} {n k : Nat} (h : s.camStream n = some k) : k < 48 := List.mem_range.1 (List.mem_of_find?_eq_some h)

/-- The count of corrected headers is no part of a stream's exposure. -/
theorem expOf_ecc1 (s : State) (p : Nat) (v : Bool) {k : Nat} (hk : k < 48) (data : List Byte) : (s.ecc1 p v).expOf k data = s.expOf k data := by
  have hregs := ecc1_regs s p v
  have hctl : Reg.TBU_CAM_EXPCTL k ∉ [Reg.SIC_CSI_ECC1 p] := by simp only [List.mem_singleton, Reg.SIC_CSI_ECC1, Reg.TBU_CAM_EXPCTL]; omega
  have hline : Reg.TBU_CAM_LINE k ∉ [Reg.SIC_CSI_ECC1 p] := by simp only [List.mem_singleton, Reg.SIC_CSI_ECC1, Reg.TBU_CAM_LINE]; omega
  simp only [State.expOf, hregs.fld hctl, hregs.regN hline]

/-- The clause on embedded data, of frames whose streams are those a Frame Start names. -/
theorem embedded_eq (s : State) (p c : Nat) (l : CsiLine) (hlive : s.csiLive p = true) (hslots : (s.camSlots p c).isEmpty = false)
    (hfs : (s.vc p c).toFs = false) (hact : (s.vc p c).active = true) (hcrc : l.crcOk = true)
    (hcam : ∀ f ∈ (s.vc p c).frames, ∀ k, f.cam = some k → k < 48) :
    s.embedded p c l = (s.ecc1 p l.ecc1).setVc p c { s.vc p c with frames := (s.vc p c).frames.map (CamFrame.exposed s l.data) } := by
  have hvc : (s.ecc1 p l.ecc1).vc p c = s.vc p c := by simp only [State.vc, ecc1_sic]
  have hslots' : (s.ecc1 p l.ecc1).camSlots p c = s.camSlots p c := by simp only [State.camSlots, State.boundSlots, State.slot, ecc1_sic]
  have hframes : (s.vc p c).frames.map (CamFrame.exposed (s.ecc1 p l.ecc1) l.data) = (s.vc p c).frames.map (CamFrame.exposed s l.data) := by
    refine List.map_congr_left (fun f hf => ?_)
    unfold CamFrame.exposed
    split
    · next k hk => rw [expOf_ecc1 s p _ (hcam f hf k hk)]
    · rfl
  rw [← hframes]
  unfold State.embedded
  simp only [hlive, hvc, hslots', hslots, hfs, hact, hcrc, Bool.not_true, Bool.or_self, Bool.false_eq_true, if_false]
  rfl

/-! ### Where they are not -/

/-- Receiver 0 with a frame open that names camera stream 65472, whose TBU_CAMc_LINE would stand where SIC_CSI_0_ECC1 does. -/
def strayStream : State :=
  { State.reset with
    regs := [(Reg.AON_DOM 1, 0x04000000)]
    sic := { State.reset.sic with
      slots := [(0, { record := List.replicate 64 0 ++ [1], st := .present })]
      cam := [(0, { active := true, frames := [{ slot := 0, cam := some 65472, tfs := 0 }] })] } }

/-- Embedded data of an exposure of one line, under a corrected header. -/
def correctedLine : CsiLine := { dt := 0x12, data := [1, 0], ecc1 := true, crcOk := true }

/-- The exposures of the frames of receiver 0's virtual channel 0. -/
def State.exposures (s : State) : List (Option Nat) := (s.vc 0 0).frames.map (·.exp)

/-- Refutes O8, in its clause on embedded data: in `strayStream` the packet's own count of its corrected header becomes the stream's line time,
and the exposure is 1 where the clause, reading the state before the packet, has 0. No Frame Start leads there (`camStream_lt`), and of
streams that one names the clause holds (`embedded_eq`). -/
theorem not_csiPacketsHaveTheirEffect : ¬ Obligations.CsiPacketsHaveTheirEffect := by
  intro h
  obtain ⟨-, -, hembedded, -⟩ := h
  have hclaim := hembedded 0 0 correctedLine strayStream (by decide) (by decide) (by decide) (by decide) (by decide)
  rw [exec_csiEmbeddedData] at hclaim
  have hmodel : (strayStream.embedded 0 0 correctedLine).exposures = [some 1] := by decide
  have hstate := congrArg State.exposures (Host.Outcome.next.inj hclaim)
  exact absurd (hmodel.symm.trans hstate) (by decide)

end Sys2Proof.Machine
end

section
/-! PROOFS. The step function (R42): the command in front, or one cycle of the time counter. -/

namespace Sys2Proof.Machine

theorem step_cons (c : Instr) (s : State) : step { s with pending := c :: s.pending } = exec c s := rfl

theorem step_nil {s : State} (h : s.pending = []) : step s = .next s.tick := by simp only [step, h]

/-- Settles O53: a queue with a command in front, and the empty queue. -/
theorem stepRunsTheCommandInFront : Obligations.StepRunsTheCommandInFront := ⟨step_cons, fun _ => step_nil⟩

end Sys2Proof.Machine
end

section
/-! PROOFS. The operations of sensor ingress (03_sensor_ingress.md): what each leaves of the slots, the ports and the registers. -/

namespace Sys2Proof.Machine

/-! ### Violations and quarantine (R126 to R130) -/

/-- A slot apart from its standing: what violations, quarantine and the tests of R123 leave alone. -/
def Slot.data (x : Slot) : Slot := { x with st := .unbound, byPort := false, good := 0, patchOk := false }

theorem slot_congr {s t : State} (h : s.sic = t.sic) (n : Nat) : s.slot n = t.slot n := by rw [State.slot, State.slot, h]

theorem vrec_congr {s t : State} (h : s.sic = t.sic) (k : Nat) : s.vrec k = t.vrec k := by rw [State.vrec, State.vrec, h]

@[simp] theorem slot_setVrec (s : State) (k : Nat) (v : VRec) (n : Nat) : (s.setVrec k v).slot n = s.slot n := rfl

@[simp] theorem slot_handOn (s : State) (k row : Nat) (t : Time) (bs : List Byte) (n : Nat) : (s.handOn k row t bs).slot n = s.slot n := rfl

/-- What quarantine leaves alone: of slots all but their standing, of violation records the total. -/
structure State.KeepsSensors (s t : State) : Prop where
  slot : ∀ n, (t.slot n).data = (s.slot n).data
  total : ∀ k, (t.vrec k).total = (s.vrec k).total
  can : t.sic.can = s.sic.can
  out : t.out = s.out
  regs : t.regs = s.regs

section
variable {s t u : State}

theorem State.KeepsSensors.refl (s : State) : s.KeepsSensors s := ⟨fun _ => rfl, fun _ => rfl, rfl, rfl, rfl⟩

theorem State.KeepsSensors.trans (h : s.KeepsSensors t) (h' : t.KeepsSensors u) : s.KeepsSensors u :=
  ⟨fun n => (h'.slot n).trans (h.slot n), fun k => (h'.total k).trans (h.total k), h'.can.trans h.can, h'.out.trans h.out,
    h'.regs.trans h.regs⟩

theorem State.KeepsSensors.setSlot {n : Nat} {x : Slot} (h : s.KeepsSensors t) (hx : x.data = (t.slot n).data) :
    s.KeepsSensors (t.setSlot n x) := by
  refine h.trans ⟨fun m => ?_, fun _ => rfl, rfl, rfl, rfl⟩
  by_cases hm : m = n
  · rw [hm, slot_setSlot, hx]
  · rw [slot_setSlot_ne t x hm]

theorem State.KeepsSensors.setVrec {k : Nat} {v : VRec} (h : s.KeepsSensors t) (hv : v.total = (t.vrec k).total) :
    s.KeepsSensors (t.setVrec k v) := by
  refine h.trans ⟨fun _ => rfl, fun j => ?_, rfl, rfl, rfl⟩
  by_cases hj : j = k
  · rw [hj, vrec_setVrec, hv]
  · rw [vrec_setVrec_ne t v hj]

theorem State.KeepsSensors.quarEvent (h : s.KeepsSensors t) (k : Nat) : s.KeepsSensors (t.quarEvent k) :=
  h.trans ⟨fun _ => rfl, fun _ => rfl, rfl, rfl, rfl⟩

end

section
variable (s : State)

theorem keepsSensors_quarSlot (n : Nat) : s.KeepsSensors (s.quarSlot n) := by
  unfold State.quarSlot
  dsimp only
  split
  · exact .refl s
  · refine .quarEvent (.setSlot (.setVrec (.refl s) ?_) ?_) n <;> rfl

theorem keepsSensors_quarPort (k : Nat) : s.KeepsSensors (s.quarPort k) := by
  have hhold : s.KeepsSensors (s.setVrec k { s.vrec k with hold := some s.stepNo }) := .setVrec (.refl s) rfl
  unfold State.quarPort
  refine hhold.trans (List.foldlRecOn (motive := State.KeepsSensors _) _ _ ⟨fun _ => rfl, fun _ => rfl, rfl, rfl, rfl⟩ ?_)
  intro t ht n _
  dsimp only
  split
  · refine .quarEvent (.setSlot ht ?_) n
    rfl
  · split
    · exact .setSlot ht rfl
    · exact ht

theorem keepsSensors_quarLink (k : Nat) : s.KeepsSensors (s.quarLink k) := by
  have hhold : s.KeepsSensors (s.setVrec k { s.vrec k with hold := some s.stepNo }) := .setVrec (.refl s) rfl
  exact hhold.trans ⟨fun _ => rfl, fun _ => rfl, rfl, rfl, rfl⟩

theorem keepsSensors_quarantine (k : Nat) : s.KeepsSensors (s.quarantine k) := by
  unfold State.quarantine
  split
  · exact keepsSensors_quarSlot s k
  · split
    · exact keepsSensors_quarPort s k
    · exact keepsSensors_quarLink s k

/-- A violation of a sensor unit is counted in the unit's record; all else that changes is standing and events. -/
theorem violate_eq (k kind : Nat) : ∃ t : State, t.KeepsSensors (s.violate k kind) ∧
    ∃ v hif, v.total = satAdd 32 (s.vrec k).total 1 ∧
      let u := { s with hif := hif }.setVrec k v
      t = if 304 ≤ k then u.countSat (Reg.SLK_P_VIOL (k - 304)) 0 32 1 else u := by
  unfold State.violate
  extract_lets v step l v' m n
  have hl : ∃ hif, l = { s with hif := hif } := by
    unfold l
    split
    · exact ⟨s.hif, rfl⟩
    · exact ⟨_, rfl⟩
  obtain ⟨hif, hl⟩ := hl
  refine ⟨n, ?_, v', hif, rfl, by unfold n m; rw [hl]⟩
  split
  · exact .refl n
  · split
    · exact keepsSensors_quarantine n k
    · split
      · exact keepsSensors_quarantine n k
      · exact .refl n

/-- What a violation leaves of the sensors: slots but for their standing, CAN controllers and output as they were, one more violation of the
unit, and only a link port's counted in a register. -/
theorem violate_spec (k kind : Nat) :
    (∀ n, ((s.violate k kind).slot n).data = (s.slot n).data) ∧ ((s.violate k kind).vrec k).total = satAdd 32 (s.vrec k).total 1 ∧
      (s.violate k kind).sic.can = s.sic.can ∧ (s.violate k kind).out = s.out ∧ (k < 304 → (s.violate k kind).regs = s.regs) := by
  obtain ⟨t, ⟨hslot, htotal, hcan, hout, hregs⟩, v, hif, hv, ht⟩ := violate_eq s k kind
  dsimp only at ht
  have hu : (∀ n, t.slot n = s.slot n) ∧ t.vrec k = v ∧ t.sic.can = s.sic.can ∧ t.out = s.out ∧ (k < 304 → t.regs = s.regs) := by
    rw [ht]
    split
    · next h => exact ⟨fun _ => rfl, vrec_setVrec _ k v, rfl, rfl, fun h' => absurd h (Nat.not_le.2 h')⟩
    · exact ⟨fun _ => rfl, vrec_setVrec _ k v, rfl, rfl, fun _ => rfl⟩
  obtain ⟨hslot', htotal', hcan', hout', hregs'⟩ := hu
  exact ⟨fun n => (hslot n).trans (by rw [hslot']), (htotal k).trans (by rw [htotal', hv]), hcan.trans hcan', hout.trans hout',
    fun h => hregs.trans (hregs' h)⟩

/-! ### Counts -/

/-- A saturating count read back (R727). -/
theorem fld_countSat {o lo w : Nat} (n : Nat) (h : lo + w ≤ 32) : (s.countSat o lo w n).fld' o lo w = satAdd w (s.fld' o lo w) n := by
  have hpos : 0 < 2 ^ w := by positivity
  rw [State.countSat, fld_setFld_same _ _ _ _ _ h]
  exact Nat.mod_eq_of_lt (by unfold satAdd; omega)

/-! ### Samples (R113, R115, R116, R123) -/

/-- Only slots change. -/
def State.withSlots (s : State) (slots : SMap Slot) : State := { s with sic := { s.sic with slots := slots } }

theorem admitPass_eq (n : Nat) : ∃ slots, s.admitPass n = s.withSlots slots := by
  unfold State.admitPass
  dsimp only
  split
  · exact ⟨_, rfl⟩
  · exact ⟨s.sic.slots, rfl⟩

theorem keepsSensors_admitPass (n : Nat) : s.KeepsSensors (s.admitPass n) := by
  unfold State.admitPass
  dsimp only
  split
  · exact .setSlot (.refl s) rfl
  · exact .refl s

/-- A consistent sample notes its step. -/
theorem slot_consistent (n : Nat) : ((s.consistent n).slot n).data = { (s.slot n).data with lastStep := s.stepNo } := by
  unfold State.consistent
  rw [(keepsSensors_admitPass _ n).slot n, slot_setSlot]
  rfl

theorem consistent_of_present {n : Nat} (h : (s.slot n).st = .present) :
    s.consistent n = s.setSlot n { s.slot n with lastStep := s.stepNo } := by
  unfold State.consistent State.admitPass
  simp [h]

/-! ### Detections on their way to FLD (R23, R624) -/

@[simp] theorem linkPump_sic (p fuel : Nat) : (s.linkPump p fuel).sic = s.sic := by
  induction fuel generalizing s with
  | zero => rfl
  | succ fuel ih =>
    unfold State.linkPump
    dsimp only
    split
    · rfl
    · split
      · exact ih _
      · rfl

@[simp] theorem linkPost_sic (f : LinkOut) : (s.linkPost f).sic = s.sic := by
  unfold State.linkPost
  dsimp only
  split
  · exact linkPump_sic _ _ _
  · rfl

@[simp] theorem sendDev_sic (n type step : Nat) (payload : List Byte) : (s.sendDev n type step payload).sic = s.sic := by
  unfold State.sendDev
  split
  · exact linkPost_sic _ _
  · rfl

@[simp] theorem detForward_sic (n : Nat) (b : List Byte) (border : Bool) : (s.detForward n b border).sic = s.sic := by
  unfold State.detForward
  split
  · exact sendDev_sic _ _ _ _ _
  · rfl

@[simp] theorem detPasture_sic (x : Det) : (s.detPasture x).sic = s.sic := by
  unfold State.detPasture
  dsimp only
  split
  · rfl
  · split
    · exact detForward_sic _ _ _ _
    · exact List.foldlRecOn (motive := fun t : State => t.sic = s.sic) _ _ rfl (fun t ht q _ => (detForward_sic t _ _ _).trans ht)

@[simp] theorem detReady_sic (b : List Byte) (level : Nat) : (s.detReady b level).sic = s.sic := by
  unfold State.detReady
  split
  · rfl
  · split
    · rfl
    · dsimp only
      split
      · exact detPasture_sic _ _
      · rfl

@[simp] theorem partnerDets_sic (slot : Nat) (b : List Byte) : (s.partnerDets slot b).sic = s.sic :=
  List.foldlRecOn (motive := fun t : State => t.sic = s.sic) _ _ rfl (fun t ht _ _ => (detReady_sic t _ _).trans ht)

/-! ### EGO's inputs (R159, R185) -/

@[simp] theorem poseEntry_sic (t : Nat) : (s.poseEntry t).sic = s.sic := by
  unfold State.poseEntry State.draw
  dsimp only
  split
  · rfl
  · split <;> rfl

@[simp] theorem egoSample_sic (n : Nat) (t : Time) (vals : List Int) : (s.egoSample n t vals).sic = s.sic := by
  unfold State.egoSample
  split
  · exact poseEntry_sic _ _
  · rfl

@[simp] theorem egoWheel_sic (n : Nat) (t : Time) (ext : List Byte) (vals : List Int) : (s.egoWheel n t ext vals).sic = s.sic := by
  unfold State.egoWheel
  split <;> rfl

/-! ### Calibration events (R180) -/

theorem calEvent_spec (n old new : Nat) : (s.calEvent n old new).sic = s.sic ∧ (s.calEvent n old new).pae = s.pae := by
  unfold State.calEvent
  split <;> exact ⟨rfl, rfl⟩

/-! ### Slots leave and join (R114, R124, R130) -/

theorem releaseSlot_slots (n : Nat) (log : Bool) : (s.releaseSlot n log).sic.slots = (s.setSlot n {}).sic.slots := by
  simp only [State.releaseSlot, apply_ite State.sic, apply_ite Sic.slots, State.event_sic, State.setBit_sic, State.setFld_sic,
    State.setReg_sic, ite_self]
  rfl

/-- A released slot is unbound and cleared. -/
@[simp] theorem slot_releaseSlot (n : Nat) (log : Bool) : (s.releaseSlot n log).slot n = {} := by
  rw [State.slot, releaseSlot_slots, ← State.slot, slot_setSlot]

@[simp] theorem releaseSlot_tbu (n : Nat) (log : Bool) : (s.releaseSlot n log).tbu = s.tbu := by
  simp only [State.releaseSlot, apply_ite State.tbu, State.event_tbu, State.setBit_tbu, State.setFld_tbu, State.setReg_tbu, ite_self]
  rfl

/-- A record bound at run time: its slot is ADMITTING and RUNTIME, its violation record fresh, and a Qci filter at most is taken. -/
theorem bindRuntime_sic (n : Nat) (r : List Byte) : ∃ qci x, x.st = .admitting ∧ x.runtime = true ∧
    (s.bindRuntime n r).sic = (({ s with sic := { s.sic with qci := qci } }.setSlot n x).setVrec n {}).sic := by
  unfold State.bindRuntime
  extract_lets r' eth f r'' flt _ t u v
  have ht : ∃ qci, t = { s with sic := { s.sic with qci := qci } } := by
    unfold t
    split
    · exact ⟨_, rfl⟩
    · exact ⟨s.sic.qci, rfl⟩
  obtain ⟨qci, ht⟩ := ht
  have hv : v.sic = u.sic := by
    unfold v
    split <;> rfl
  refine ⟨qci, { record := r'', st := .admitting, runtime := true, lastRx := t.now }, rfl, rfl, ?_⟩
  dsimp only
  rw [hv, ← ht]

theorem slot_bindRuntime (n : Nat) (r : List Byte) :
    ((s.bindRuntime n r).slot n).st = .admitting ∧ ((s.bindRuntime n r).slot n).runtime = true := by
  obtain ⟨qci, x, hst, hrun, hsic⟩ := bindRuntime_sic s n r
  rw [slot_congr hsic, slot_setVrec, slot_setSlot]
  exact ⟨hst, hrun⟩

@[simp] theorem rtCount_sic (ok : Bool) : (s.rtCount ok).sic = s.sic := rfl
@[simp] theorem rtRefuse_sic (r : Nat × Nat) : (s.rtRefuse r).sic = s.sic := rfl

theorem admitRec_done {n : Nat} {r : List Byte} (h : s.admitCode n r = DONE) :
    s.admitRec n r = (DONE, (s.bindRuntime n r).rtCount true) := by simp [State.admitRec, h]

theorem admitRec_ports (n : Nat) (r : List Byte) : (s.admitRec n r).2.sic.ports = s.sic.ports := by
  unfold State.admitRec
  dsimp only
  split
  · obtain ⟨qci, x, -, -, hsic⟩ := bindRuntime_sic s n r
    rw [rtCount_sic, hsic]
    rfl
  · dsimp only
    split
    · rw [rtRefuse_sic, rtCount_sic]
    · rw [rtCount_sic]

end

end Sys2Proof.Machine
end

section
/-! PROOFS. The Ethernet switch (R87, R88, R93, R94, R653). -/

namespace Sys2Proof.Machine

theorem exec_ethFrameReceived (q : Fin 12) (f : EthFrame) (s : State) : exec (.ethFrameReceived q f) s = .next (s.ethRx q f) := rfl
theorem exec_ethFrameTransmit (q : Fin 12) (s : State) : exec (.ethFrameTransmit q) s = .next (s.ethTx q) := rfl
theorem exec_tasGateEvent (q : Fin 12) (s : State) : exec (.tasGateEvent q) s = .next (s.tasGate q) := rfl
theorem exec_sqiDegraded (q : Fin 12) (v : BitVec 8) (s : State) : exec (.sqiDegraded q v) s = .next (s.sqi q v.toNat) := rfl

section
variable {s : State} {q : Nat}

/-! ### Reception -/

theorem ethRx_badFcs {f : EthFrame} (hlive : s.ethLive q = true) (hpwr : s.pwr ≠ 2) (hfcs : f.fcsOk = false) :
    s.ethRx q f = (s.reach f.raw).countSat (Reg.SIC_ETH_FCS q) 0 32 1 := by
  have hpwr' : (s.reach f.raw).pwr ≠ 2 := hpwr
  simp [State.ethRx, hlive, hpwr', hfcs]

/-- A frame that a port checks nothing of but what it passes is forwarded (R87 to R91, R96). -/
theorem ethRx_forward {f : EthFrame} (hlive : s.ethLive q = true) (hpwr : s.pwr ≠ 2) (hfcs : f.fcsOk = true)
    (hheld : s.sic.heldPorts.contains (272 + q) = false) (hsec : f.sec = none) (hreq : s.macsecReq q f = false)
    (hlen : f.len ≤ if f.vlan.toNat == 0 then 9018 else 9022)
    (hqci : List.find? (fun (p : Nat × Qci) => p.2.stream.holds f) s.sic.qci = none) (hseq : f.rseq = none) (htype : f.etype ≠ gptpType) :
    s.ethRx q f = (s.reach f.raw).forward q f := by
  generalize hr : s.reach f.raw = r
  have hpwr' : r.pwr ≠ 2 := by rw [← hr]; exact hpwr
  have hheld' : r.sic.heldPorts.contains (272 + q) = false := by rw [← hr]; exact hheld
  have htype' : (f.etype == gptpType) = false := by simpa using htype
  have hsec' : r.macsecPass q f = (true, r) := by
    have : r.macsecReq q f = false := by rw [← hr]; exact hreq
    simp [State.macsecPass, hsec, this]
  have hqci' : r.qciPass f = (true, r) := by
    have hqci' : r.sic.qci = s.sic.qci := by rw [← hr, State.reach_sic]
    rw [State.qciPass, if_neg (Nat.not_lt.2 hlen), hqci', hqci]
  have hrecov : r.recovPass q f = (0, r) := by simp [State.recovPass, hseq]
  simp only [State.ethRx, hlive, hr, beq_eq_false_iff_ne.2 hpwr', hfcs, hheld', hsec', hqci', hrecov, htype', Bool.not_true,
    Bool.false_and, Bool.false_eq_true, if_false, beq_self_eq_true, if_true]

/-- A frame queued on a port. -/
def State.queueFrame (s : State) (p : Nat) (x : Nat × List Byte) : State :=
  if s.ethLive p then s.setSwPort p { s.swPort p with txq := (s.swPort p).txq ++ [x] } else s

theorem queueFrame_regs (s : State) (p : Nat) (x : Nat × List Byte) : (s.queueFrame p x).regs = s.regs := by
  unfold State.queueFrame
  split <;> rfl

theorem mem_queueFrame (s : State) {p : Nat} (x : Nat × List Byte) (h : s.ethLive p = true) : x ∈ ((s.queueFrame p x).swPort p).txq := by
  simp [State.queueFrame, h]

/-- What waits on a port stays there while other frames are queued. -/
theorem queueFrame_keeps (s : State) (p p' : Nat) (x y : Nat × List Byte) (h : y ∈ (s.swPort p').txq) :
    y ∈ ((s.queueFrame p x).swPort p').txq := by
  unfold State.queueFrame
  split
  · by_cases hp : p' = p
    · subst hp; simp [h]
    · rwa [swPort_setSwPort_ne _ _ hp]
  · exact h

theorem ethLive_congr {s t : State} (h : t.regs = s.regs) (p : Nat) : t.ethLive p = s.ethLive p := by
  simp only [State.ethLive, State.powered, State.bit, State.fld', reg_congr h]

/-- A frame queued on each of some ports waits on those of them that are live. -/
theorem mem_foldl_queueFrame (x : Nat × List Byte) (ps : List Nat) (s : State) {p : Nat} (hp : p ∈ ps) (hlive : s.ethLive p = true) :
    x ∈ ((ps.foldl (fun s p => s.queueFrame p x) s).swPort p).txq := by
  induction ps generalizing s with
  | nil => exact absurd hp List.not_mem_nil
  | cons p' ps ih =>
    rw [List.foldl_cons]
    by_cases hps : p ∈ ps
    · exact ih _ hps ((ethLive_congr (queueFrame_regs s p' x) p).trans hlive)
    · obtain rfl : p = p' := (List.mem_cons.1 hp).resolve_right hps
      exact List.foldlRecOn (motive := fun t : State => x ∈ (t.swPort p).txq) _ _ (mem_queueFrame s x hlive)
        (fun t ht p' _ => queueFrame_keeps t p' p x x ht)

/-! ### Sources without a slot (R121, R122) -/

theorem logRefused_ports (s : State) (c : Source) (code : Nat) : (s.logRefused c code).sic.ports = s.sic.ports := by
  unfold State.logRefused
  split <;> rfl

theorem unmatched_ports (s : State) (q : Nat) (mac : BitVec 48) (vlan : BitVec 12) (udp : BitVec 16) :
    (s.unmatched q mac vlan udp).sic.ports = s.sic.ports := by
  unfold State.unmatched
  split
  · rfl
  · next tmpl _ =>
    extract_lets c t c'
    have ht : t.sic.ports = s.sic.ports := by
      unfold t
      split <;> rfl
    rw [← ht]
    clear_value t
    split
    · exact logRefused_ports t c' 0
    · split
      · exact logRefused_ports t c' _
      · split
        · exact logRefused_ports t _ _
        · next n _ =>
          have hports := admitRec_ports t n (templateRecord tmpl n mac)
          generalize t.admitRec n (templateRecord tmpl n mac) = x at hports
          obtain ⟨code, u⟩ := x
          dsimp only at hports ⊢
          split
          · exact hports
          · exact (logRefused_ports u c' code).trans hports

theorem seqStamp_eq (s : State) (f : EthFrame) : ∃ gen, (s.seqStamp f).2 = { s with sic := { s.sic with seqGen := gen } } := by
  unfold State.seqStamp
  split
  · exact ⟨s.sic.seqGen, rfl⟩
  · exact ⟨_, rfl⟩

theorem seqStamp_reach (s : State) (f : EthFrame) (t : Time) : ((s.reach t).seqStamp f).1 = (s.seqStamp f).1 := by
  simp only [State.seqStamp, State.reach_sic]
  split <;> rfl

/-- The ports, this one apart, that a frame's static entries name (R87). -/
def State.outPorts (s : State) (q : Nat) (f : EthFrame) : List Nat :=
  ((s.sic.fdb.filter (fun (v, m, _) => v == f.vlan && m == f.dmac)).flatMap (·.2.2)).filter (fun p => p != q && p < 12)

/-- A frame forwarded is queued on the ports its static entries name; its delivery to the intake leaves the queues. -/
theorem forward_ports (s : State) (q : Nat) (f : EthFrame) :
    (s.forward q f).sic.ports =
      ((s.outPorts q f).foldl (fun t p => t.queueFrame p (f.pcp.toNat, ethBytes f (s.seqStamp f).1)) (s.seqStamp f).2).sic.ports := by
  obtain ⟨gen, hgen⟩ := seqStamp_eq s f
  have hfdb : (s.seqStamp f).2.sic.fdb = s.sic.fdb := by rw [hgen]
  unfold State.forward State.outPorts
  rw [← hfdb]
  generalize s.seqStamp f = x
  obtain ⟨seq, u⟩ := x
  dsimp only
  split
  · rfl
  · split
    · rfl
    · exact unmatched_ports _ _ _ _ _

/-- A frame forwarded waits on every other live port that its static entries name (R87). -/
theorem mem_forward {f : EthFrame} {p : Nat}
    (hp : p ∈ (s.sic.fdb.filter (fun (v, m, _) => v == f.vlan && m == f.dmac)).flatMap (·.2.2)) (hq : p ≠ q) (h12 : p < 12)
    (hlive : s.ethLive p = true) : (f.pcp.toNat, ethBytes f (s.seqStamp f).1) ∈ ((s.forward q f).swPort p).txq := by
  obtain ⟨gen, hgen⟩ := seqStamp_eq s f
  have hlive' : (s.seqStamp f).2.ethLive p = true := (ethLive_congr (by rw [hgen]) p).trans hlive
  have hout : p ∈ s.outPorts q f := List.mem_filter.2 ⟨hp, by simp [hq, h12]⟩
  rw [State.swPort, forward_ports]
  exact mem_foldl_queueFrame _ _ _ hout hlive'

/-! ### Transmission -/

theorem ethTx_plain {c : Nat} {bs : List Byte}
    (hfirst : (s.swPort q).txq.find? (fun (c, _) => (s.swPort q).gates.getLsbD c) = some (c, bs)) (hlive : s.ethLive q = true)
    (hlink : s.bit (Reg.SIC_ETH_STAT q) 2 = true) (hassoc : s.txAssoc q = none) (hreq : (s.swPort q).macsecReq = false) :
    s.ethTx q = (s.setSwPort q { s.swPort q with txq := (s.swPort q).txq.erase (c, bs) }).emit (.eth q 10 bs) := by
  simp [State.ethTx, hfirst, hlive, hlink, hassoc, hreq]

/-- A protected frame goes out under the association as it was (R653). -/
theorem sendProtected_out {a : Assoc} (bs : List Byte) (h : a.pn < a.space) :
    (s.sendProtected q a bs).out = s.out ++ [.eth q 11 (s.macsecFrame q a bs)] := by
  unfold State.sendProtected
  rw [if_neg (Nat.not_le.2 h)]
  dsimp only
  split <;> rfl

theorem ethTx_protected {c : Nat} {bs : List Byte} {a : Assoc}
    (hfirst : (s.swPort q).txq.find? (fun (c, _) => (s.swPort q).gates.getLsbD c) = some (c, bs)) (hlive : s.ethLive q = true)
    (hlink : s.bit (Reg.SIC_ETH_STAT q) 2 = true) (hassoc : s.txAssoc q = some a) :
    s.ethTx q = (s.setSwPort q { s.swPort q with txq := (s.swPort q).txq.erase (c, bs) }).sendProtected q a bs := by
  simp [State.ethTx, hfirst, hlive, hlink, hassoc]

theorem macsecFrame_setSwPort (x : SwPort) (a : Assoc) (bs : List Byte) (hsci : x.sci = (s.swPort q).sci) :
    (s.setSwPort q x).macsecFrame q a bs = s.macsecFrame q a bs := by
  have hkeys : (s.setSwPort q x).sec = s.sec := rfl
  simp only [State.macsecFrame, swPort_setSwPort, hsci, hkeys]

/-! ### Gates and signal quality -/

theorem tasGate_eq (hlive : s.ethLive q = true) (hlist : (s.swPort q).gcl.isEmpty = false) (ht0 : s.csq.t0Set = true) :
    let x := s.swPort q
    let k := (x.gclIdx + 1) % x.gcl.length
    s.tasGate q = (s.reach x.gclEnd).setSwPort q { x with
      gclIdx := k, gates := (x.gcl.getD k (0xFF, 0)).1, gclEnd := x.gclEnd + (x.gcl.getD k (0xFF, 0)).2 * nsT } := by
  simp [State.tasGate, hlive, hlist, ht0]

theorem sqiCheck_spec (s : State) (q : Nat) :
    (s.sqiCheck q).regs = s.regs ∧ ((s.sqiCheck q).swPort q).sqiFrom = (s.swPort q).sqiFrom := by
  unfold State.sqiCheck
  dsimp only
  split
  · exact ⟨rfl, rfl⟩
  · refine ⟨rfl, ?_⟩
    show ((s.setSwPort q _).swPort q).sqiFrom = _
    rw [swPort_setSwPort]

theorem sqi_spec {v : Nat} (hlive : s.ethLive q = true) (hq : q < 8) :
    (s.sqi q v).regs = (s.setFld (Reg.SIC_ETH_STAT q) 3 8 v).regs ∧
      ((s.sqi q v).swPort q).sqiFrom =
        if (s.swPort q).sqiLim ≤ v then none else some ((s.swPort q).sqiFrom.getD s.stepNo) := by
  unfold State.sqi
  dsimp only
  rw [if_neg (by simp [hlive, hq])]
  split
  · exact ⟨rfl, by rw [swPort_setSwPort]⟩
  · obtain ⟨hregs, hfrom⟩ := sqiCheck_spec ((s.setFld (Reg.SIC_ETH_STAT q) 3 8 v).setSwPort q
      { s.swPort q with sqiFrom := some ((s.swPort q).sqiFrom.getD s.stepNo) }) q
    exact ⟨hregs, by rw [swPort_setSwPort] at hfrom; exact hfrom⟩

end

/-- Settles O9: each row is followed to the port it acts on, and a frame received through the port's checks to the queues it is forwarded to. -/
theorem switchCommandsHaveTheirEffect : Obligations.SwitchCommandsHaveTheirEffect := by
  refine ⟨fun q f s hlive hpwr hfcs => ?_, fun q f s hlive hpwr hfcs hheld hsec hreq hlen hqci hseq htype => ?_,
    fun q c bs s hfirst hlive hlink hassoc hreq => ?_, fun q c bs a s hfirst hlive hlink hassoc hpn => ?_,
    fun q s hlive hlist ht0 => ?_, fun q v s hlive hq => ?_⟩
  · rw [exec_ethFrameReceived, ethRx_badFcs hlive hpwr hfcs]
  · rw [exec_ethFrameReceived, ethRx_forward hlive hpwr hfcs hheld hsec hreq hlen hqci hseq htype]
    refine ⟨_, rfl, fun p hp hpq h12 hplive => ?_⟩
    rw [← seqStamp_reach s f f.raw]
    exact mem_forward (s := s.reach f.raw) hp hpq h12 hplive
  · rw [exec_ethFrameTransmit, ethTx_plain hfirst hlive hlink hassoc hreq]
  · rw [exec_ethFrameTransmit, ethTx_protected hfirst hlive hlink hassoc]
    refine ⟨_, rfl, ?_⟩
    rw [sendProtected_out bs hpn, macsecFrame_setSwPort]
    · rfl
    · rfl
  · rw [exec_tasGateEvent, tasGate_eq hlive hlist ht0]
  · obtain ⟨hregs, hfrom⟩ := sqi_spec (v := v.toNat) hlive hq
    have hshown := fld_setFld_same s (Reg.SIC_ETH_STAT q) 3 8 v.toNat (by decide)
    rw [exec_sqiDegraded]
    refine ⟨_, rfl, ?_, ?_, hfrom⟩
    · rw [State.fld', reg_congr hregs, ← State.fld', hshown]
      exact Nat.mod_eq_of_lt v.isLt
    · exact (sameRegsBut_setReg s _ (by simp)).congr hregs

end Sys2Proof.Machine
end

section
/-! PROOFS. Point packets and partner lists (R104 to R111). -/

namespace Sys2Proof.Machine

theorem exec_pointPacket (d : Datagram) (s : State) : exec (.pointPacket d) s = .next (s.pointPacket d) := rfl
theorem exec_partnerList (d : Datagram) (s : State) : exec (.partnerList d) s = .next (s.partnerList d) := rfl

/-! ### What the FCU takes of a packet (R144, R147, R149) -/

/-- State `t` is state `s` with other range images of the FCU, and other patches under way (R138), alone. -/
def State.FcuTakes (s t : State) : Prop := ∃ fcu paths, t = { s with sic := { s.sic with fcu := fcu, paths := paths } }

theorem State.FcuTakes.refl (s : State) : s.FcuTakes s := ⟨s.sic.fcu, s.sic.paths, rfl⟩

theorem State.FcuTakes.trans {s t u : State} (h : s.FcuTakes t) (h' : t.FcuTakes u) : s.FcuTakes u := by
  obtain ⟨_, _, rfl⟩ := h
  obtain ⟨fcu, paths, rfl⟩ := h'
  exact ⟨fcu, paths, rfl⟩

section
variable (s : State)

theorem fcuTakes_setFcu (f : Nat) (x : Fcu) : s.FcuTakes (s.setFcu f x) := ⟨_, s.sic.paths, rfl⟩

theorem fcuTakes_yieldFcu : s.FcuTakes s.yieldFcu := ⟨s.sic.fcu, _, rfl⟩

theorem fcuTakes_fcuLoss (n : Nat) : s.FcuTakes (s.fcuLoss n) := by
  unfold State.fcuLoss
  split
  · exact fcuTakes_setFcu s _ _
  · exact .refl s

theorem fcuTakes_fcuPoint (f : Nat) (p : Pt) : s.FcuTakes (s.fcuPoint f p) := by
  unfold State.fcuPoint
  split
  extract_lets
  split
  · exact fcuTakes_setFcu s f _
  · split
    · exact fcuTakes_setFcu s f _
    · extract_lets
      split
      · split <;> exact fcuTakes_setFcu s f _
      · exact fcuTakes_setFcu s f _

theorem fcuTakes_fcuPoints (f : Nat) (pts : List Pt) : s.FcuTakes (pts.foldl (fun s p => s.fcuPoint f p) s) :=
  List.foldlRecOn _ _ (.refl s) (fun t ht p _ => ht.trans (fcuTakes_fcuPoint t f p))

/-- A revolution's packet, from its begin to its end, is taken by the FCU alone (R144, R147). -/
theorem fcuTakes_packet (f rev col : Nat) (pts : List Pt) (last : Bool) :
    let t := pts.foldl (fun s p => s.fcuPoint f p) (s.yieldFcu.fcuBegin f rev col)
    s.FcuTakes (if last then t.fcuRev f else t) := by
  have ht := ((fcuTakes_yieldFcu s).trans (fcuTakes_setFcu _ f _)).trans
    (fcuTakes_fcuPoints (s.yieldFcu.fcuBegin f rev col) f pts)
  dsimp only
  split
  · exact ht.trans (fcuTakes_setFcu _ f _)
  · exact ht

/-- The points of a packet in PAE's queue, and the packet handed on (R80, R105). -/
def State.queuePoints (s : State) (n : Nat) (b : List Byte) : State :=
  { s with pae := { s.pae with queue := s.pae.queue ++ (List.range (u b 6 2)).map (decodePt n b) } }.handOn n 0 (u b 16 8 * nsT) b

/-- A PRESENT slot's packet puts its points in PAE's queue; beside that the FCU alone may take them. -/
theorem passPoints_takes {n : Nat} (b : List Byte) (hst : (s.slot n).st = .present) : (s.queuePoints n b).FcuTakes (s.passPoints n b) := by
  have hforwards : s.forwards n = true := by simp [State.forwards, hst]
  unfold State.passPoints
  extract_lets r pts _ t
  have ht : t = s.queuePoints n b := rfl
  rw [← ht, hforwards]
  clear_value t
  rw [if_neg (by decide)]
  split
  · exact fcuTakes_packet t _ _ _ _ _
  · exact .refl t

/-! ### Calibration at a boundary (R179, R182) -/

theorem calTake_spec (n op : Nat) : (s.calTake n op).sic = s.sic ∧ (s.calTake n op).pae.queue = s.pae.queue := by
  unfold State.calTake
  dsimp only
  obtain ⟨hsic, hpae⟩ := calEvent_spec (s.setCal n ((s.calOf n).apply op)) n (s.calOf n).st ((s.calOf n).apply op).st
  rw [State.setBit_sic, State.status_sic, hsic, State.setBit_pae, State.status_pae, hpae]
  exact ⟨rfl, rfl⟩

theorem calStep_spec (n : Nat) : (s.calStep n).sic = s.sic ∧ (s.calStep n).pae.queue = s.pae.queue := by
  unfold State.calStep
  dsimp only
  split
  · exact calTake_spec s n _
  · exact ⟨rfl, rfl⟩
  · exact ⟨rfl, rfl⟩

/-! ### Point packets (R104 to R109) -/

/-- A packet lost or dropped leaves slots and PAE. -/
theorem dropPacket_spec (n m : Nat) : (s.dropPacket n).slot m = s.slot m ∧ (s.dropPacket n).pae = s.pae := by
  obtain ⟨fcu, paths, h⟩ := fcuTakes_fcuLoss s n
  rw [State.dropPacket, h]
  exact ⟨rfl, rfl⟩

/-- The samples of a packet from a PRESENT slot: its points wait in PAE, and the slot stays as it was. -/
theorem passPoints_spec {n : Nat} (b : List Byte) (hst : (s.slot n).st = .present) :
    (s.passPoints n b).slot n = s.slot n ∧
      (s.passPoints n b).pae.queue = s.pae.queue ++ (List.range (u b 6 2)).map (decodePt n b) := by
  obtain ⟨fcu, paths, h⟩ := passPoints_takes s b hst
  rw [h]
  exact ⟨rfl, rfl⟩

/-- A packet of a PRESENT slot that advances SEQ and is in time notes its SEQ and passes its points (R107 to R109). -/
theorem judgePacket_spec {n : Nat} {arr : Time} {b : List Byte} (hst : (s.slot n).st = .present)
    (hseq : ∀ l, (s.slot n).seq = some l → 0 < (u b 8 4 + 2 ^ 32 - l) % 2 ^ 32 ∧ (u b 8 4 + 2 ^ 32 - l) % 2 ^ 32 < 2 ^ 31)
    (hvalid : bits (u b 14 2) 0 1 = 1) (hearly : u b 16 8 * nsT ≤ arr)
    (hlate : arr ≤ ptTime b (u b 6 2 - 1) * nsT + recTol (s.slot n).record * 100000 * nsT) :
    ((s.judgePacket n arr b).slot n).seq = some (u b 8 4) ∧
      (s.judgePacket n arr b).pae.queue = s.pae.queue ++ (List.range (u b 6 2)).map (decodePt n b) := by
  unfold State.judgePacket
  extract_lets x seq adv t v w
  have hadv : 0 < adv ∧ adv < 2 ^ 31 := by
    unfold adv
    split
    · next l hl => exact hseq l hl
    · decide
  have hv : v.slot n = { x with seq := some seq } ∧ v.pae = s.pae := by
    have ht : t.slot n = { x with seq := some seq } := slot_setSlot s n _
    unfold v
    split
    · obtain ⟨hslot, hpae⟩ := dropPacket_spec (t.countSat (Reg.SIC_SLOTSTAT n 1) 0 32 (adv - 1)) n n
      exact ⟨hslot.trans ht, hpae⟩
    · exact ⟨ht, rfl⟩
  obtain ⟨hslot, hpae⟩ := hv
  have hcons : v.consistent n = v.setSlot n { v.slot n with lastStep := v.stepNo } := consistent_of_present v (by rw [hslot]; exact hst)
  have hpresent : ((v.consistent n).slot n).st = .present := by
    rw [hcons, slot_setSlot, hslot]
    exact hst
  obtain ⟨hslot', hqueue⟩ := passPoints_spec (v.consistent n) b hpresent
  have hw : (w.slot n).seq = some seq ∧ w.pae.queue = s.pae.queue ++ (List.range (u b 6 2)).map (decodePt n b) := by
    refine ⟨?_, ?_⟩
    · rw [hslot', hcons, slot_setSlot, hslot]
    · rw [hqueue, hcons, ← hpae]
      rfl
  obtain ⟨hcal, hcalq⟩ := calStep_spec w n
  have hintime : ¬ (decide (arr < u b 16 8 * nsT) ||
      decide (ptTime b (u b 6 2 - 1) * nsT + recTol x.record * 100000 * nsT < arr)) = true := by
    simpa only [Bool.or_eq_true, decide_eq_true_eq, not_or, not_lt] using ⟨hearly, hlate⟩
  rw [if_neg (by simp; omega), if_neg (by simp [hvalid]), if_neg hintime]
  split
  · exact ⟨by rw [slot_congr hcal]; exact hw.1, hcalq.trans hw.2⟩
  · exact hw

/-- A packet in form from a scanner's slot is judged there. -/
theorem pointPacket_eq {d : Datagram} {k : Nat} (hin : s.intake d = true)
    (hk : s.findSlot (fun r => recKind r == kScanner && recVlan r == d.vlan.toNat && recMac r == d.smac.toNat && recUdp r == d.udp.toNat) =
      some k) (hok : packetOk (s.slot k).record d.payload = true) :
    s.pointPacket d = (((s.reach d.raw).yieldPatch [k]).received k).judgePacket k (s.capture d.port d.raw) d.payload := by
  generalize hr : ((s.reach d.raw).yieldPatch [k]).received k = r
  have hrec : (r.slot k).record = (s.slot k).record := by
    rw [← hr, State.received, slot_setSlot]
    rfl
  have hcap : r.capture d.port d.raw = s.capture d.port d.raw := by
    rw [← hr]
    rfl
  have hk' : (s.reach d.raw).findSlot (fun r => recKind r == kScanner && recVlan r == d.vlan.toNat && recMac r == d.smac.toNat &&
      recUdp r == d.udp.toNat) = some k := hk
  simp only [State.pointPacket, hin, hk', hr, hrec, hcap, hok, Bool.not_true, Bool.false_eq_true, if_false, if_true]

/-! ### Partner lists (R110, R111) -/

theorem forwarded_sic (n : Nat) (out : Time) (b : List Byte) (m : Nat) :
    (if s.forwards n then (s.handOn n 0 out b).partnerDets n b else s).slot m = s.slot m := by
  split
  · exact slot_congr (partnerDets_sic _ n b) m
  · rfl

/-- A list that rises within its START_ID and is in time, of a level above L0, is a consistent sample (R110, R116). -/
theorem judgeList_spec {n : Nat} {arr : Time} {b : List Byte}
    (hseq : ∀ l, SMap.find? (s.slot n).starts (u b 54 4) = some l →
      0 < (u b 32 4 + 2 ^ 32 - l) % 2 ^ 32 ∧ (u b 32 4 + 2 ^ 32 - l) % 2 ^ 32 < 2 ^ 31)
    (hearly : u b 16 4 + listNs b * nsT ≤ arr) (hlate : arr ≤ u b 16 4 + listNs b * nsT + recTol (s.slot n).record * 100000 * nsT)
    (hlevel : u b 6 1 ≠ 0) :
    ((s.judgeList n arr b).slot n).data =
      { (s.slot n).data with starts := SMap.insert (s.slot n).starts (u b 54 4) (u b 32 4), lastRx := s.now, lastStep := s.stepNo } := by
  unfold State.judgeList
  extract_lets x seq id back t out v
  have hback : back = false := by
    unfold back
    split
    · next l hl =>
      obtain ⟨h0, h1⟩ := hseq l hl
      simpa only [Bool.or_eq_false_iff, beq_eq_false_iff_ne, decide_eq_false_iff_not, not_le] using ⟨h0.ne', h1⟩
    · rfl
  have hintime : ¬ (decide (arr < out) || decide (out + recTol x.record * 100000 * nsT < arr)) = true := by
    simpa only [Bool.or_eq_true, decide_eq_true_eq, not_or, not_lt] using ⟨hearly, hlate⟩
  rw [if_neg (by simp [hback]), if_neg hintime, if_neg (by simpa using hlevel), forwarded_sic]
  refine (slot_consistent (t.received n) n).trans ?_
  rw [State.received, slot_setSlot, slot_setSlot]
  rfl

theorem partnerList_eq {d : Datagram} {k : Nat} (hin : s.intake d = true) (hk : s.partnerSlot d = some k) (hok : listOk d.payload = true) :
    s.partnerList d = ((s.reach d.raw).yieldPatch [k]).judgeList k (s.capture d.port d.raw) d.payload := by
  have hk' : (s.reach d.raw).partnerSlot d = some k := hk
  simp only [State.partnerList, hin, hk', hok, Bool.not_true, Bool.false_eq_true, if_false, if_true]
  rfl

end

/-- Settles O10: a packet and a list in form are each followed through the judgement of their slot. -/
theorem pointPacketsAndPartnerListsAreTaken : Obligations.PointPacketsAndPartnerListsAreTaken := by
  refine ⟨fun d k s hin hk hst hok hseq hvalid hearly hlate => ?_, fun d k s hin hk hok hseq hearly hlate hlevel => ?_⟩
  · rw [exec_pointPacket, pointPacket_eq s hin hk hok]
    have hslot : (((s.reach d.raw).yieldPatch [k]).received k).slot k = { s.slot k with lastRx := max s.now d.raw } := slot_setSlot _ k _
    refine ⟨_, rfl, judgePacket_spec _ ?_ ?_ hvalid hearly ?_⟩
    · rw [hslot]; exact hst
    · rw [hslot]; exact hseq
    · rw [hslot]; exact hlate
  · have hslot : ((s.reach d.raw).yieldPatch [k]).slot k = s.slot k := rfl
    have hdata := judgeList_spec ((s.reach d.raw).yieldPatch [k]) (n := k) hseq hearly hlate hlevel
    rw [exec_partnerList, partnerList_eq s hin hk hok]
    refine ⟨_, rfl, ?_, congrArg Slot.lastRx hdata, congrArg Slot.lastStep hdata⟩
    have hstarts := congrArg Slot.starts hdata
    exact (congrArg (SMap.find? · _) hstarts).trans (SMap.find?_insert_same _ _ _)

end Sys2Proof.Machine
end

section
/-! PROOFS. CAN and the inertial units (R97 to R103). -/

namespace Sys2Proof.Machine

theorem exec_canMessage (n : Fin 4) (m : CanMsg) (s : State) : exec (.canMessage n m) s = .next (s.canRx n m) := rfl
theorem exec_canErrorFrame (n : Fin 4) (e : CanErr) (s : State) : exec (.canErrorFrame ⟨n, e⟩) s = .next (s.canError n e) := rfl
theorem exec_canBusOff (n : Fin 4) (s : State) : exec (.canBusOff n) s = .next (s.canOff n) := rfl
theorem exec_canBusRecovery (n : Fin 4) (s : State) : exec (.canBusRecovery n) s = .next (s.canBack n) := rfl
theorem exec_imuDrdyEdge (n : Fin 2) (falling : Bool) (raw : Time) (s : State) :
    exec (.imuDrdyEdge n ⟨falling, raw⟩) s = .next (s.imuEdge n falling raw) := rfl
theorem exec_imuResponse (n : Fin 2) (data : List Byte) (s : State) : exec (.imuResponse n data) s = .next (s.imuTake n data) := rfl
theorem exec_imuDrdyMiss (n : Fin 2) (s : State) : exec (.imuDrdyMiss n) s = .next (s.imuMiss n) := rfl

section
variable (s : State)

/-! ### Controllers -/

@[simp] theorem canCtl_setCan (n : Nat) (x : Can) : (s.setCan n x).canCtl n = x := by simp [State.canCtl, State.setCan, SMap.get_put]

theorem canCtl_congr {s t : State} (h : s.sic.can = t.sic.can) (n : Nat) : s.canCtl n = t.canCtl n := by rw [State.canCtl, State.canCtl, h]

@[simp] theorem canShow_sic (n : Nat) : (s.canShow n).sic = s.sic := by
  unfold State.canShow
  dsimp only
  split
  · rfl
  · rw [State.setFld_sic, State.setFld_sic, State.setFld_sic]

/-- SIC_CANn_STAT shows a controller in its counters and state, and keeps the count of error frames beside them (Table 3.13). -/
theorem canShow_regs (n : Nat) : s.SameRegsBut (s.canShow n) [Reg.SIC_CAN_STAT n] ∧
    (s.canShow n).fld' (Reg.SIC_CAN_STAT n) 18 14 = s.fld' (Reg.SIC_CAN_STAT n) 18 14 := by
  unfold State.canShow
  dsimp only
  split
  · exact ⟨fun _ _ => rfl, rfl⟩
  · constructor
    · exact ((sameRegsBut_setReg s _ (by simp)).trans (sameRegsBut_setReg _ _ (by simp))).trans (sameRegsBut_setReg _ _ (by simp))
    · rw [fld_setFld_disjoint _ _ _ _ _ _ _ (by decide) (by decide), fld_setFld_disjoint _ _ _ _ _ _ _ (by decide) (by decide),
        fld_setFld_disjoint _ _ _ _ _ _ _ (by decide) (by decide)]

/-! ### Messages (R98, R99) -/

theorem canGood_sic (n : Nat) : ∃ can, (s.canGood n).sic = { s.sic with can := can } := ⟨_, canShow_sic _ n⟩

@[simp] theorem canShow_tbu (n : Nat) : (s.canShow n).tbu = s.tbu := by
  unfold State.canShow
  dsimp only
  split
  · rfl
  · rw [State.setFld_tbu, State.setFld_tbu, State.setFld_tbu]

@[simp] theorem canShow_csq (n : Nat) : (s.canShow n).csq = s.csq := by
  unfold State.canShow
  dsimp only
  split
  · rfl
  · rw [State.setFld_csq, State.setFld_csq, State.setFld_csq]

/-- A message of the length its signals need is a consistent sample of its slot (R99, R116). -/
theorem canAccept_spec {n k : Nat} {m : CanMsg} {g : CanTable} (hg : s.canTable k = some g) (hlen : m.data.length = g.len) :
    ((s.canAccept n k m).slot k).data = { (s.slot k).data with lastRx := s.now, lastStep := s.stepNo } := by
  have hforward : ((s.canAccept n k m).slot k).data = ((((s.received k).yieldPatch [k]).consistent k).slot k).data := by
    unfold State.canAccept
    split
    · next hnone => simp [hg] at hnone
    · next g' hg' =>
      obtain rfl : g = g' := Option.some.inj (hg.symm.trans hg')
      extract_lets t u vals at' v
      have hu : ((s.received k).yieldPatch [k]).consistent k = u := rfl
      rw [if_neg (by simp [hlen]), hu]
      clear_value u
      split
      · split
        · rw [slot_congr (detReady_sic _ _ _), slot_congr (egoWheel_sic _ _ _ _ _), slot_handOn]
        · rw [slot_congr (egoWheel_sic _ _ _ _ _), slot_handOn]
      · rfl
  have hslot : ((s.received k).yieldPatch [k]).slot k = { s.slot k with lastRx := s.now } := slot_setSlot s k _
  rw [hforward, slot_consistent, hslot]
  rfl

theorem canRx_spec {n : Nat} {m : CanMsg} {e : CanFilter} {g : CanTable} (hlive : s.canLive n = true)
    (hfeat : m.fmt = .xl → s.feat 11 = true) (he : s.sic.canFilt.find? (fun e => e.holds n m) = some e)
    (hkind : recKind (s.slot e.slot).record = kCan) (hbound : (s.slot e.slot).bound = true) (hg : s.canTable e.slot = some g)
    (hlen : m.data.length = g.len) :
    ((s.canRx n m).slot e.slot).data =
      { (s.slot e.slot).data with lastRx := max s.now m.raw, lastStep := (s.reach m.raw).stepNo } := by
  obtain ⟨can, hsic⟩ := canGood_sic (s.reach m.raw) n
  have htbu : ((s.reach m.raw).canGood n).tbu = (s.reach m.raw).tbu := canShow_tbu _ n
  have hcsq : ((s.reach m.raw).canGood n).csq = (s.reach m.raw).csq := canShow_csq _ n
  generalize hr : (s.reach m.raw).canGood n = r at hsic htbu hcsq
  have hslot : r.slot e.slot = s.slot e.slot := by rw [State.slot, hsic]; rfl
  have hfilt : r.sic.canFilt = s.sic.canFilt := by rw [hsic]; rfl
  have hg' : r.canTable e.slot = some g := by
    rw [← hg, State.canTable, State.canTable, hslot, hsic]
    rfl
  have hfmt : (!s.canLive n || (m.fmt == .xl && !s.feat 11)) = false := by
    rw [hlive]
    cases hm : m.fmt <;> simp [hfeat, hm]
  have heq : s.canRx n m = r.canAccept n e.slot m := by
    simp only [State.canRx, hfmt, hr, hfilt, he, hslot, hkind, hbound, Bool.false_eq_true, if_false, beq_self_eq_true, Bool.and_self, if_true]
  rw [heq, canAccept_spec r hg' hlen, hslot]
  have hnow : r.now = max s.now m.raw := by rw [State.now, htbu]; rfl
  have hstep : r.stepNo = (s.reach m.raw).stepNo := by rw [State.stepNo, State.stepNo, hcsq, State.now, State.now, htbu]
  rw [hnow, hstep]

/-! ### Errors, bus-off and recovery (R97, R100, R126) -/

/-- An error frame that leaves its controller on the bus is counted, in the controller, in its register and as a violation (R97, R126). -/
theorem canError_spec {n : Nat} {e : CanErr} (hlive : s.canLive n = true) (h3 : n < 3) (hbus : ((s.canCtl n).count e).txErr ≤ 255) :
    (s.canError n e).canCtl n = (s.canCtl n).count e ∧
      (s.canError n e).fld' (Reg.SIC_CAN_STAT n) 18 14 = satAdd 14 (s.fld' (Reg.SIC_CAN_STAT n) 18 14) 1 ∧
      ((s.canError n e).vrec (288 + n)).total = satAdd 32 (s.vrec (288 + n)).total 1 ∧
      s.SameRegsBut (s.canError n e) [Reg.SIC_CAN_STAT n] := by
  generalize hx : (s.canCtl n).count e = x at hbus
  generalize ht : (s.setCan n x).canShow n = t
  obtain ⟨hregs, hcnt⟩ := canShow_regs (s.setCan n x) n
  have hsic : t.sic = (s.setCan n x).sic := by rw [← ht, canShow_sic]
  rw [ht] at hregs hcnt
  obtain ⟨-, htotal, hcan, -, hvregs⟩ := violate_spec (t.countSat (Reg.SIC_CAN_STAT n) 18 14 1) (288 + n) 0x40
  generalize hv : (t.countSat (Reg.SIC_CAN_STAT n) 18 14 1).violate (288 + n) 0x40 = v at htotal hcan hvregs
  have hctl : v.canCtl n = x := by
    rw [State.countSat_sic, hsic] at hcan
    rw [canCtl_congr hcan, canCtl_setCan]
  have heq : s.canError n e = v := by
    simp only [State.canError, hlive, hx, ht, hv, beq_eq_false_iff_ne.2 h3.ne, hctl, Bool.not_true, Bool.false_eq_true, if_false]
    exact if_neg (by omega)
  have hvr : v.regs = (t.countSat (Reg.SIC_CAN_STAT n) 18 14 1).regs := hvregs (by omega)
  rw [heq]
  refine ⟨hctl, ?_, ?_, ?_⟩
  · rw [State.fld', reg_congr hvr, ← State.fld', fld_countSat _ _ (by decide), hcnt]
    rfl
  · rw [htotal, State.vrec, State.countSat_sic, hsic]
    rfl
  · exact ((State.SameRegsBut.trans (t := s.setCan n x) (fun _ _ => rfl) hregs).trans (sameRegsBut_setReg _ _ (by simp))).congr hvr

theorem canOff_off {n : Nat} (hlive : s.canLive n = true) : ((s.canOff n).canCtl n).off = true := by
  have hctl : ((s.setCan n { s.canCtl n with off := true }).canShow n).canCtl n = { s.canCtl n with off := true } := by
    rw [canCtl_congr (congrArg Sic.can (canShow_sic _ n)), canCtl_setCan]
  unfold State.canOff
  rw [if_neg (by simp [hlive])]
  dsimp only
  split
  · exact congrArg Can.off hctl
  · obtain ⟨-, -, hcan, -, -⟩ := violate_spec ((s.setCan n { s.canCtl n with off := true }).canShow n) (288 + n) 0x41
    rw [canCtl_congr hcan, hctl]

/-- A controller that may rejoin does (R100). -/
theorem canBack_on {n : Nat} (hoff : (s.canCtl n).off = true) (hback : n = 3 ∨ s.bit Reg.SIC_CTRL n = true) :
    ((s.canBack n).canCtl n).off = false := by
  have hctl : ((s.setCan n { xlSwitch := (s.canCtl n).xlSwitch }).canCtl n).off = false := by rw [canCtl_setCan]
  unfold State.canBack
  rw [if_neg (by simp [hoff])]
  split
  · refine List.foldlRecOn (motive := fun t : State => (t.canCtl n).off = false) _ _ hctl ?_
    intro t ht _ _
    exact ht
  · next h3 =>
    rw [if_pos (hback.resolve_left (by simpa using h3)), canCtl_congr (congrArg Sic.can (canShow_sic _ n))]
    exact hctl

/-! ### Inertial units (R101 to R103) -/

/-- The active edge is timestamped and starts the SPI command, early or not (R101, R103). -/
theorem imuEdge_spec {n k : Nat} {raw : Time} (hlive : s.imuLive n = true) (hk : s.imuSlot n = some k) :
    let x := imuTransfer (s.slot k).record
    let t := s.imuEdge n (s.bit Reg.TBU_IMU_CFG n) raw
    (t.slot k).drdy = some (s.capture (22 + n) raw) ∧ t.out = s.out ++ [.spi n x.1 x.2.1 x.2.2.1 x.2.2.2] := by
  unfold State.imuEdge
  split
  · next k' _ hk' =>
    obtain rfl : k = k' := Option.some.inj (hk.symm.trans hk')
    extract_lets x r stamp early y v
    unfold v
    split
    next m sck cmd len hx =>
      have hx' : x = (m, sck, cmd, len) := hx
      extract_lets w
      have hw : (w.slot k).drdy = some stamp ∧ w.out = s.out ++ [.spi n m sck cmd len] :=
        ⟨congrArg Slot.drdy (slot_setSlot r k { y with drdy := some stamp, missAt := none, early := early }), rfl⟩
      rw [hx']
      split
      · obtain ⟨hslot, -, -, hout, -⟩ := violate_spec w k 0x51
        exact ⟨(congrArg Slot.drdy (hslot k)).trans hw.1, hout.trans hw.2⟩
      · exact hw
  · next h => exact (h k (by simp [hlive]) hk).elim

theorem imuEdge_other {n : Nat} {falling : Bool} {raw : Time} (h : falling ≠ s.bit Reg.TBU_IMU_CFG n) : s.imuEdge n falling raw = s := by
  unfold State.imuEdge
  rw [beq_eq_false_iff_ne.2 h, Bool.and_false]

/-- A response notes when it came and its counter, whatever is made of its sample (R102, R103). -/
theorem imuTake_spec {n k : Nat} {data : List Byte} {d : Time} (hlive : s.imuLive n = true) (hk : s.imuSlot n = some k)
    (hd : (s.slot k).drdy = some d) :
    ∃ step, ((s.imuTake n data).slot k).data = { (s.slot k).data with
      lastRx := s.now, early := false, lastStep := step
      imuCnt := Config.imuCounter (recExt (s.slot k).record) (data.take (imuTransfer (s.slot k).record).2.2.2) } := by
  unfold State.imuTake
  split
  · next k' _ hk' =>
    obtain rfl : k = k' := Option.some.inj (hk.symm.trans hk')
    split
    · next hnone => simp [hd] at hnone
    · extract_lets r x ext data' cnt bad t u
      have hx : x = { s.slot k with lastRx := s.now } := slot_setSlot s k _
      have ht : (t.slot k).data = { (s.slot k).data with
          lastRx := s.now, early := false
          imuCnt := Config.imuCounter (recExt (s.slot k).record) (data.take (imuTransfer (s.slot k).record).2.2.2) } := by
        have hslot : t.slot k = { x with imuCnt := cnt, early := false } := slot_setSlot r k _
        rw [hslot]
        unfold cnt data' ext
        rw [hx]
        rfl
      split
      · exact ⟨(s.slot k).lastStep, ht⟩
      · split
        · exact ⟨(s.slot k).lastStep, ((violate_spec t k 0x50).1 k).trans ht⟩
        · have hu : (u.slot k).data = { (t.slot k).data with lastStep := t.stepNo } := slot_consistent t k
          refine ⟨t.stepNo, Eq.trans ?_ (hu.trans (by rw [ht]))⟩
          split
          · rw [slot_congr (egoSample_sic _ _ _ _), slot_handOn]
          · rfl
  · next h => exact (h k hlive hk).elim

theorem imuMiss_eq {n k : Nat} {d : Time} (hlive : s.imuLive n = true) (hk : s.imuSlot n = some k) (hd : (s.slot k).drdy = some d) :
    let x := (s.slot k).missAt.getD d + s.periodT k * 3 / 2
    s.imuMiss n = ((s.reach x).setSlot k { s.slot k with missAt := some x }).countSat (Reg.SIC_IMU_MISS n) 0 32 1 := by
  simp only [State.imuMiss, hlive, hk, hd]

end

/-- Settles O11: each row is followed to its controller or inertial unit, and its sample to the slot that holds it. -/
theorem canAndImuCommandsHaveTheirEffect : Obligations.CanAndImuCommandsHaveTheirEffect := by
  refine ⟨fun n m e g s hlive hfeat he hkind hbound hg hlen => ?_, fun n e s hlive h3 hbus => ?_, fun n s hlive => ?_,
    fun n s hoff hback => ?_, fun n falling raw k s hlive hk => ⟨?_, fun hother => ?_⟩, fun n data k d s hlive hk hd => ?_,
    fun n k d s hlive hk hd => ?_⟩
  · have hdata := canRx_spec s hlive hfeat he hkind hbound hg hlen
    rw [exec_canMessage]
    exact ⟨_, rfl, congrArg Slot.lastRx hdata, congrArg Slot.lastStep hdata⟩
  · rw [exec_canErrorFrame]
    exact ⟨_, rfl, canError_spec s hlive (by omega) hbus⟩
  · rw [exec_canBusOff]
    exact ⟨_, rfl, canOff_off s hlive⟩
  · rw [exec_canBusRecovery]
    exact ⟨_, rfl, canBack_on s hoff hback⟩
  · rintro rfl
    rw [exec_imuDrdyEdge]
    exact ⟨_, rfl, imuEdge_spec s hlive hk⟩
  · rw [exec_imuDrdyEdge, imuEdge_other s hother]
  · obtain ⟨step, hdata⟩ := imuTake_spec s (data := data) hlive hk hd
    rw [exec_imuResponse]
    exact ⟨_, rfl, congrArg Slot.lastRx hdata, congrArg Slot.early hdata, congrArg Slot.imuCnt hdata⟩
  · dsimp only
    rw [exec_imuDrdyMiss, imuMiss_eq s hlive hk hd]

end Sys2Proof.Machine
end

section
/-! PROOFS. The states of a sensor slot (R115, R118, R120, R124, R130, R152). -/

namespace Sys2Proof.Machine

theorem exec_slotSilence (n : BitVec 8) (s : State) : exec (.slotSilence n) s = .next (s.silence n.toNat) := rfl
theorem exec_partnerLeave (n : BitVec 8) (s : State) : exec (.partnerLeave n) s = .next (s.leave n.toNat) := rfl
theorem exec_quarantineHoldEnd (n : BitVec 8) (s : State) : exec (.quarantineHoldEnd (.slot n)) s = .next (s.holdOver n.toNat) := rfl
theorem exec_admission (n : BitVec 8) (s : State) :
    exec (.admission n) s = .next (s.hostCmd Reg.SIC_SLOT_CMD (fun s => s.doAdmit n.toNat)) := rfl
theorem exec_slotRelease (n : BitVec 8) (s : State) :
    exec (.slotRelease n) s = .next (s.hostCmd Reg.SIC_SLOT_CMD (fun s => s.doSlotRelease n.toNat)) := rfl
theorem exec_slotReadmit (n : BitVec 8) (s : State) :
    exec (.slotReadmit n) s = .next (s.hostCmd Reg.SIC_SLOT_CMD (fun s => s.doReadmit n.toNat)) := rfl
theorem exec_slotQuarantine (n : BitVec 8) (s : State) :
    exec (.slotQuarantine n) s = .next (s.hostCmd Reg.SIC_SLOT_CMD (fun s => s.doSlotQuar n.toNat)) := rfl

section
variable (s : State)

/-! ### Time-outs (R115, R124, R130) -/

theorem silence_eq {n : Nat} (hpow : s.powered 94 = true) (hst : (s.slot n).st = .present) :
    s.silence n = (s.reach ((s.slot n).lastRx + 3 * s.periodT n)).setSlot n { s.slot n with st := .silent } := by
  unfold State.silence
  rw [if_pos (by simp [hpow, hst])]
  rfl

theorem leave_eq {n : Nat} (hpow : s.powered 94 = true) (hbound : (s.slot n).bound = true) (hrun : (s.slot n).runtime = true)
    (hst : (s.slot n).st ≠ .quarantined) :
    s.leave n = (s.reach ((s.slot n).lastRx + s.regN Reg.SIC_LEAVE_TO * msT)).releaseSlot n true := by
  unfold State.leave
  exact if_pos (by simp [hpow, hbound, hrun, hst])

/-- A step that the cycle has reached, or that is counted in device time, moves device time at most (R127). -/
theorem reachStep_eq {k : Nat} (h : s.csq.running = false ∨ k ≤ s.stepNo) : ∃ t, s.reachStep k = some (s.reach t) := by
  unfold State.reachStep
  cases hrun : s.csq.running with
  | false => exact ⟨_, rfl⟩
  | true =>
    rw [if_pos rfl, if_pos (h.resolve_left (by simp [hrun]))]
    exact ⟨0, by simp [State.reach]⟩

theorem startAdmitting_spec (n : Nat) :
    ((s.startAdmitting n).slot n).st = .admitting ∧ ((s.startAdmitting n).vrec n).hold = none ∧ ((s.startAdmitting n).slot n).good = 0 := by
  have hslot : (s.startAdmitting n).slot n =
      { s.slot n with st := .admitting, byPort := false, good := 0, patchOk := false, lastRx := s.now } := slot_setSlot _ n _
  have hvrec : (s.startAdmitting n).vrec n = { s.vrec n with hold := none } := vrec_setVrec s n _
  rw [hslot, hvrec]
  exact ⟨rfl, rfl, rfl⟩

/-- The hold of a slot that is quarantined for itself ends in ADMITTING (R130). -/
theorem endHold_eq {n h : Nat} (hn : n < 256) (hhold : (s.vrec n).hold = some h)
    (hdue : s.csq.running = false ∨ h + s.regN Reg.SIC_QUAR_HOLD ≤ s.stepNo) (hst : (s.slot n).st = .quarantined)
    (hport : (s.slot n).byPort = false) : ∃ t, s.endHold n = State.startAdmitting t n := by
  obtain ⟨x, hx⟩ := reachStep_eq s hdue
  refine ⟨(s.reach x).setVrec n { s.vrec n with hold := none }, ?_⟩
  have hslot : (s.reach x).slot n = s.slot n := rfl
  simp only [State.endHold, hhold, hx, hn, if_true]
  exact if_pos (by simp [hslot, hst, hport])

theorem holdOver_eq {n : Nat} (hn : n < 256) : s.holdOver n = s.endHold n := by
  have h : ¬ 304 ≤ n := by omega
  simp [State.holdOver, h]

/-! ### SIC_SLOT_CMD (R120, R151, R152) -/

theorem quarSlot_spec {n : Nat} (hbound : (s.slot n).bound = true) (hst : (s.slot n).st ≠ .excluded) :
    ((s.quarSlot n).slot n).st = .quarantined ∧ ((s.quarSlot n).vrec n).hold = some s.stepNo := by
  have hcond : ¬ ((s.slot n).st == .excluded || (s.slot n).st == .unbound) = true := by
    simpa [hst, Slot.bound] using hbound
  unfold State.quarSlot
  dsimp only
  rw [if_neg hcond]
  exact ⟨congrArg Slot.st (slot_setSlot _ n _), congrArg VRec.hold (vrec_setVrec s n { s.vrec n with hold := some s.stepNo })⟩

/-- A slot command has ended DONE for a slot, and left the sensors as they are in `t` (R151). -/
def State.SlotCmdDone (u t : State) (n : Nat) : Prop :=
  u.sic = t.sic ∧ u.fld' Reg.SIC_SLOT_CMD_ST 0 8 = DONE ∧ u.fld' Reg.SIC_SLOT_CMD_ST 8 8 = n

section
variable {n : BitVec 8} (hidle : s.bit Reg.SIC_SLOT_CMD_ST 16 = false)
include hidle

theorem slotCmd_done {f : State → Nat × State} {t : State} (hf : f (s.autoDue n.toNat) = (DONE, t)) :
    (s.slotCmd n.toNat f).SlotCmdDone t n.toNat := by
  have heq : s.slotCmd n.toNat f = (t.setFld Reg.SIC_SLOT_CMD_ST 8 8 n.toNat).status Reg.SIC_SLOT_CMD_ST DONE := by
    simp [State.slotCmd, State.unlessBusy, hidle, hf]
  rw [heq]
  refine ⟨by rw [State.status_sic, State.setFld_sic], fld_status _ _ _ (by decide), ?_⟩
  rw [State.status, fld_setFld_disjoint _ _ _ _ _ _ _ (by decide) (by decide), fld_setFld_same _ _ _ _ _ (by decide)]
  exact Nat.mod_eq_of_lt n.isLt

/-- ADMIT binds the staged record to its slot (R118). -/
theorem doAdmit_done (hcode : (s.autoDue n.toNat).admitCode n.toNat (s.autoDue n.toNat).staged = DONE) :
    (s.doAdmit n.toNat).SlotCmdDone ((s.autoDue n.toNat).bindRuntime n.toNat (s.autoDue n.toNat).staged) n.toNat := by
  obtain ⟨hsic, hdone, hslot⟩ : (s.doAdmit n.toNat).SlotCmdDone _ n.toNat := slotCmd_done s hidle (admitRec_done _ hcode)
  exact ⟨hsic.trans (rtCount_sic _ _), hdone, hslot⟩

theorem doSlotRelease_done (hbound : ((s.autoDue n.toNat).slot n.toNat).bound = true)
    (hrun : ((s.autoDue n.toNat).slot n.toNat).runtime = true) :
    (s.doSlotRelease n.toNat).SlotCmdDone ((s.autoDue n.toNat).releaseSlot n.toNat true) n.toNat :=
  slotCmd_done s hidle (if_pos (by simp [hbound, hrun]))

/-- An EXCLUDED slot readmitted is ADMITTING, whatever becomes of its calibration (R152, R181). -/
theorem doReadmit_done (hst : ((s.autoDue n.toNat).slot n.toNat).st = .excluded) :
    (s.doReadmit n.toNat).SlotCmdDone ((s.autoDue n.toNat).startAdmitting n.toNat) n.toNat := by
  obtain ⟨hsic, hdone, hslot⟩ : (s.doReadmit n.toNat).SlotCmdDone _ n.toNat := slotCmd_done s hidle (if_pos (by simp [hst]))
  refine ⟨hsic.trans ?_, hdone, hslot⟩
  split
  · exact (calEvent_spec _ _ _ _).1
  · rfl

theorem doSlotQuar_done (hbound : ((s.autoDue n.toNat).slot n.toNat).bound = true) :
    (s.doSlotQuar n.toNat).SlotCmdDone ((s.autoDue n.toNat).quarSlot n.toNat) n.toNat := slotCmd_done s hidle (if_pos hbound)

end

end

/-- Settles O12: each time-out moves its slot's state at its instant; each command acts on the state that `autoDue` leaves, and reports. -/
theorem slotCommandsHaveTheirEffect : Obligations.SlotCommandsHaveTheirEffect := by
  refine ⟨fun n s hpow hst => ?_, fun n s hpow hbound hrun hst => ?_, fun n h s hhold hdue hst hport => ?_,
    fun n s hopen hidle hcode => ?_, fun n s hopen hidle hbound hrun => ?_, fun n s hopen hidle hst => ?_,
    fun n s hopen hidle hbound hst => ?_⟩
  · rw [exec_slotSilence, silence_eq s hpow hst]
    exact ⟨_, rfl, congrArg Slot.st (slot_setSlot _ _ _), rfl⟩
  · rw [exec_partnerLeave, leave_eq s hpow hbound hrun hst]
    exact ⟨_, rfl, slot_releaseSlot _ _ _, congrArg Tbu.now (releaseSlot_tbu _ _ _)⟩
  · obtain ⟨t, ht⟩ := endHold_eq s n.isLt hhold hdue hst hport
    rw [exec_quarantineHoldEnd, holdOver_eq s n.isLt, ht]
    exact ⟨_, rfl, startAdmitting_spec t n.toNat⟩
  · obtain ⟨hsic, hdone, hslot⟩ := doAdmit_done s hidle hcode
    obtain ⟨hst, hrun⟩ := slot_bindRuntime (s.autoDue n.toNat) n.toNat (s.autoDue n.toNat).staged
    rw [exec_admission, hostCmd_open hopen]
    exact ⟨_, rfl, by rw [slot_congr hsic, hst], by rw [slot_congr hsic, hrun], hdone, hslot⟩
  · obtain ⟨hsic, hdone, hslot⟩ := doSlotRelease_done s hidle hbound hrun
    rw [exec_slotRelease, hostCmd_open hopen]
    exact ⟨_, rfl, by rw [slot_congr hsic, slot_releaseSlot], hdone, hslot⟩
  · obtain ⟨hsic, hdone, hslot⟩ := doReadmit_done s hidle hst
    rw [exec_slotReadmit, hostCmd_open hopen]
    exact ⟨_, rfl, by rw [slot_congr hsic, (startAdmitting_spec _ _).1], hdone, hslot⟩
  · obtain ⟨hsic, hdone, hslot⟩ := doSlotQuar_done s hidle hbound
    obtain ⟨hquar, hhold⟩ := quarSlot_spec (s.autoDue n.toNat) hbound hst
    rw [exec_slotQuarantine, hostCmd_open hopen]
    exact ⟨_, rfl, by rw [slot_congr hsic, hquar], by rw [vrec_congr hsic, hhold], hdone, hslot⟩

end Sys2Proof.Machine
end

section
/-! PROOFS. The patch test and the fallback clustering unit (R134 to R136, R139, R147). -/

namespace Sys2Proof.Machine

theorem exec_patchDue (k : Nat) (s : State) : exec (.patchDue k) s = .next (s.patchDue k) := rfl
theorem exec_patchInject (k : Nat) (s : State) : exec (.patchInject k) s = .next (s.patchInject k) := rfl
theorem exec_patchEvaluation (k : Nat) (lost : Bool) (flip : BitVec 32) (s : State) :
    exec (.patchEvaluation k lost flip) s = .next (s.patchEval k lost flip) := rfl
theorem exec_fcuClusterEmit (n : BitVec 8) (s : State) : exec (.fcuClusterEmit n) s = .next (s.fcuEmit n.toNat) := rfl

section
variable (s : State)

/-! ### A patch falls due and is injected (R134, R136) -/

@[simp] theorem paths_setPath (k : Nat) (x : PatchPath) : SMap.find? (s.setPath k x).sic.paths k = some x := SMap.find?_insert_same _ _ _

theorem patchDue_eq {k : Nat} {x : PatchPath} (hruns : s.patchRuns = true) (hpow : s.powered 94 = true)
    (hx : SMap.find? s.sic.paths k = some x) (hdue : x.due = false) :
    s.patchDue k = (s.reach (x.lastStart + s.regN Reg.SIC_PATCH_PERIOD * msT)).setPath k { x with due := true } := by
  simp [State.patchDue, hruns, hpow, hx, hdue]

/-- An opportunity injects the patch now; it is complete no earlier (R134, R136). -/
theorem patchInject_eq {k : Nat} {x : PatchPath} (hruns : s.patchRuns = true) (hpow : s.powered 94 = true)
    (hx : SMap.find? s.sic.paths k = some x) (hdue : x.due = true) (hinj : x.injected = none) (hopen : s.patchOpen x = true) :
    ∃ v free, s.patchInject k =
      State.setPath { s with free := free } k { x with injected := some s.now, inBuf := true, complete := s.now + v } := by
  refine ⟨Config.freeNat s.free, s.free + 1, ?_⟩
  simp [State.patchInject, State.draw, hruns, hpow, hx, hdue, hinj, hopen]

/-! ### What a path makes of its patch (R134, R135, R177) -/

/-- An evaluation's own traces: PAE's results kept apart, and the time spent in the test slot (R139, R177). -/
def State.withTest (s : State) (buf : SMap (List Int)) (used : Nat) : State :=
  { s with pae := { s.pae with patchBuf := buf }, sic := { s.sic with testUsed := used } }

/-- The state in which a patch's result is compared (R139, R177). -/
def State.ranPatch (s : State) (k : Nat) (x : PatchPath) : State :=
  { s.patchPrivate k x with sic := { s.sic with testUsed := s.sic.testUsed + s.patchCost x } }

theorem ranPatch_eq (k : Nat) (x : PatchPath) : ∃ buf used, s.ranPatch k x = s.withTest buf used := by
  refine ⟨(s.patchPrivate k x).pae.patchBuf, s.sic.testUsed + s.patchCost x, ?_⟩
  unfold State.ranPatch State.patchPrivate
  split
  · split
    · rfl
    · rfl
  · rfl

section
variable (buf : SMap (List Int)) (used : Nat)

@[simp] theorem regN_withTest (o : Nat) : (s.withTest buf used).regN o = s.regN o := rfl
@[simp] theorem regI_withTest (o : Nat) : (s.withTest buf used).regI o = s.regI o := rfl
@[simp] theorem fld_withTest (o lo w : Nat) : (s.withTest buf used).fld' o lo w = s.fld' o lo w := rfl
@[simp] theorem slot_withTest (n : Nat) : (s.withTest buf used).slot n = s.slot n := rfl
@[simp] theorem boundSlots_withTest : (s.withTest buf used).boundSlots = s.boundSlots := rfl
@[simp] theorem fcuOf_withTest (f : Nat) : (s.withTest buf used).fcuOf f = s.fcuOf f := rfl
@[simp] theorem setFcu_withTest (f : Nat) (x : Fcu) : (s.withTest buf used).setFcu f x = (s.setFcu f x).withTest buf used := rfl

@[simp] theorem fcuEntry_withTest (n : Nat) : (s.withTest buf used).fcuEntry n = s.fcuEntry n := by
  simp only [State.fcuEntry, fld_withTest]
  rfl

@[simp] theorem canTable_withTest (n : Nat) : (s.withTest buf used).canTable n = s.canTable n := by
  rw [State.canTable, State.canTable, slot_withTest]
  rfl

@[simp] theorem fcuCell_withTest (f : Nat) (el : Int) (az : Nat) : (s.withTest buf used).fcuCell f el az = s.fcuCell f el az := by
  simp only [State.fcuCell, fld_withTest]
  rfl

theorem fcuPoint_withTest (f : Nat) (p : Pt) : (s.withTest buf used).fcuPoint f p = (s.fcuPoint f p).withTest buf used := by
  unfold State.fcuPoint
  rw [fcuOf_withTest, fld_withTest, slot_withTest]
  split
  rw [fcuCell_withTest]
  extract_lets x col x' x''
  split
  · rfl
  · split
    · rfl
    · extract_lets
      split
      · split
        · rfl
        · rfl
      · rfl

theorem fcuPoints_withTest (f : Nat) (pts : List Pt) :
    pts.foldl (fun s p => s.fcuPoint f p) (s.withTest buf used) = (pts.foldl (fun s p => s.fcuPoint f p) s).withTest buf used := by
  induction pts generalizing s with
  | nil => rfl
  | cons p pts ih => rw [List.foldl_cons, List.foldl_cons, fcuPoint_withTest, ih]

theorem fcuClusters_withTest (cols : Nat) (cells : SMap FcuCell) :
    (s.withTest buf used).fcuClusters cols cells = s.fcuClusters cols cells := by
  have hground : (s.withTest buf used).fcuGround cols cells = s.fcuGround cols cells := by
    funext k c
    simp only [State.fcuGround, fld_withTest]
    rfl
  have hadd : (s.withTest buf used).fcuAdd cols = s.fcuAdd cols := by
    have hjoin (c : Nat × FcuCell) : (s.withTest buf used).fcuJoin cols c = s.fcuJoin cols c := by
      funext d
      rw [State.fcuJoin, State.fcuJoin, fld_withTest, fld_withTest]
    funext cs c
    simp only [State.fcuAdd, hjoin]
  simp only [State.fcuClusters, hground, hadd, fld_withTest]
  rfl

/-- The FCU's records of its patch are taken from images of their own (R134). -/
theorem patchFcu_withTest (b : List Byte) : (s.withTest buf used).patchFcu b = s.patchFcu b := by
  simp only [State.patchFcu, boundSlots_withTest, slot_withTest, fcuEntry_withTest, setFcu_withTest, fcuPoints_withTest, fcuOf_withTest,
    fcuClusters_withTest, fld_withTest]

@[simp] theorem camBlock_withTest (c : Nat) : (s.withTest buf used).camBlock c = s.camBlock c := by
  have h (o n : Nat) : (s.withTest buf used).regBytes o n = s.regBytes o n := by
    induction n generalizing o with
    | zero => rfl
    | succ n ih => rw [State.regBytes, State.regBytes, ih, regN_withTest]
  exact h _ _

@[simp] theorem gridIndex_withTest (q : P3) : (s.withTest buf used).gridIndex q = s.gridIndex q := by
  simp only [State.gridIndex, regN_withTest, regI_withTest, fld_withTest]
  rfl

theorem patchNums_withTest (p : Pt) : (s.withTest buf used).patchNums p = s.patchNums p := by
  simp only [State.patchNums, slot_withTest, camBlock_withTest, gridIndex_withTest]
  rfl

theorem patchScan_withTest (n : Nat) (b : List Byte) : (s.withTest buf used).patchScan n b = s.patchScan n b := by
  simp only [State.patchScan, patchNums_withTest]

theorem partnerDetection_withTest (n : Nat) (b : List Byte) :
    (s.withTest buf used).partnerDetection n b = s.partnerDetection n b := by
  funext k
  simp only [State.partnerDetection, State.asDet, slot_withTest]

theorem patchBytes_withTest (x : PatchPath) : (s.withTest buf used).patchBytes x = s.patchBytes x := by
  simp only [State.patchBytes, patchFcu_withTest, patchScan_withTest, partnerDetection_withTest, canTable_withTest, slot_withTest]

/-- The evaluation's own traces are no part of what it evaluates. -/
theorem patchCrc_withTest (x : PatchPath) : (s.withTest buf used).patchCrc x = s.patchCrc x := by
  simp only [State.patchCrc, patchBytes_withTest, slot_withTest]

end

/-! ### A test passes (R123, R136, R139) -/

/-- Beyond the path and its count a pass changes the slots alone, or the FCU's own status. -/
theorem patchPass_kept (k : Nat) (x : PatchPath) :
    let t := (s.setPath k (x.finish true)).countSat Reg.SIC_PATCH_CNT 0 16 1
    (s.patchPass k x).sic.paths = t.sic.paths ∧ (s.patchPass k x).reg Reg.SIC_PATCH_CNT = t.reg Reg.SIC_PATCH_CNT := by
  unfold State.patchPass
  extract_lets t
  clear_value t
  split
  · refine List.foldlRecOn (motive := fun u : State => u.sic.paths = t.sic.paths ∧ u.reg Reg.SIC_PATCH_CNT = t.reg Reg.SIC_PATCH_CNT)
      _ _ ⟨rfl, rfl⟩ (fun u hu n _ => ?_)
    dsimp only
    split
    · obtain ⟨slots, hadmit⟩ := admitPass_eq (u.setSlot n { u.slot n with patchOk := true }) n
      rw [hadmit]
      exact hu
    · exact hu
  · exact ⟨by rw [State.setBit_sic], reg_setBit_ne _ _ _ (by decide)⟩

theorem patchPass_spec (k : Nat) (x : PatchPath) :
    SMap.find? (s.patchPass k x).sic.paths k = some (x.finish true) ∧
      (s.patchPass k x).fld' Reg.SIC_PATCH_CNT 0 16 = satAdd 16 (s.fld' Reg.SIC_PATCH_CNT 0 16) 1 := by
  obtain ⟨hpaths, hreg⟩ := patchPass_kept s k x
  refine ⟨?_, ?_⟩
  · rw [hpaths, State.countSat_sic, paths_setPath]
  · rw [State.fld', hreg]
    exact fld_countSat _ 1 (by decide)

/-- The golden CRC of a complete patch passes its path, where the test slot has the time or a retest is due (R135, R139, R141). -/
theorem patchEval_golden {k : Nat} {flip : BitVec 32} {x y : PatchPath} {r : State} (hruns : s.patchRuns = true)
    (hpow : s.powered 94 = true) (hx : SMap.find? s.sic.paths k = some x) (hinj : x.injected ≠ none)
    (hretest : (x.retest && x.badStep == s.stepNo) = false) (htried : x.tried ≠ some s.stepNo)
    (hr : s.reach x.complete = r) (hy : { x with tried := some r.stepNo } = y) (hfits : y.retest = true ∨ r.testOverrun y = false)
    (hgolden : r.patchCrc y ^^^ flip = y.golden) : ∃ buf used, s.patchEval k false flip = (r.withTest buf used).patchPass k y := by
  have hon : (s.patchRuns && s.powered 94) = true := by rw [hruns, hpow, Bool.and_self]
  have hguard : (x.injected.isNone || (x.retest && x.badStep == s.stepNo) || x.tried == some s.stepNo) = false := by
    simp [hretest, htried, Option.isSome_iff_ne_none, hinj]
  have hfull : (!y.retest && r.testOverrun y) = false := by
    obtain h | h := hfits
    · simp [h]
    · simp [h]
  have hcrc (buf : SMap (List Int)) (used : Nat) : ((r.withTest buf used).patchCrc y ^^^ flip == y.golden) = true := by
    rw [patchCrc_withTest, hgolden, beq_self_eq_true]
  obtain ⟨buf, used, hran⟩ := ranPatch_eq r k y
  refine ⟨buf, used, ?_⟩
  unfold State.patchEval
  rw [hon, hx]
  dsimp -zeta only
  rw [if_neg (by rw [hguard]; decide)]
  extract_lets r' y' full t _ _ u
  have hr' : r' = r := hr
  have hy' : y' = y := by rw [← hy, ← hr']
  have hfull' : full = false := by rw [← hfull, ← hr', ← hy']
  have ht : t = r := (if_neg (by rw [hfull']; decide)).trans hr'
  have hu : u = t.ranPatch k y' := rfl
  rw [hu, ht, hy', hran, hfull']
  exact if_pos (hcrc buf used)

/-! ### The FCU emits a revolution (R147, R148) -/

@[simp] theorem fcuOf_fcuPump (f : Nat) : s.fcuPump.fcuOf f = s.fcuOf f := rfl

@[simp] theorem fld_fcuPump (o lo w : Nat) : s.fcuPump.fld' o lo w = s.fld' o lo w := rfl

theorem fcuOf_congr {s t : State} (h : s.sic = t.sic) (f : Nat) : s.fcuOf f = t.fcuOf f := by rw [State.fcuOf, State.fcuOf, h]

theorem fcuEmit_spec {n f rev : Nat} {cells : SMap FcuCell} {gaps : List (Nat × Nat)} {r : List (Nat × SMap FcuCell × List (Nat × Nat))}
    (hruns : s.fcuRuns = true) (hentry : s.fcuEntry n = some f) (hready : (s.fcuOf f).ready = (rev, cells, gaps) :: r) :
    ((s.fcuEmit n).fcuOf f).ready = r ∧
      (s.fcuEmit n).fld' Reg.SIC_FCU_STATUS 0 16 = (s.fld' Reg.SIC_FCU_STATUS 0 16 + 1) % 2 ^ 16 := by
  unfold State.fcuEmit
  rw [hruns, hentry]
  dsimp -zeta only
  extract_lets x
  have hx : x.ready = (rev, cells, gaps) :: r := hready
  rw [hx]
  dsimp -zeta only
  extract_lets all _ _ t u _ _
  rw [fcuOf_fcuPump, fld_fcuPump]
  have hu : u = t.countSat Reg.SIC_FCU_DROP 0 32 (all.length - 512) := rfl
  have ht : t = (s.setFcu f { x with ready := r }).countWrap Reg.SIC_FCU_STATUS 0 16 1 := rfl
  clear_value u t
  change (u.fcuOf f).ready = r ∧ u.fld' Reg.SIC_FCU_STATUS 0 16 = _
  have hsic : u.sic = (s.setFcu f { x with ready := r }).sic := by rw [hu, State.countSat_sic, ht, State.countWrap_sic]
  refine ⟨?_, ?_⟩
  · rw [fcuOf_congr hsic, fcuOf_setFcu]
  · rw [hu, State.countSat, fld_setFld_ne _ _ _ _ _ _ (by decide), ht, State.countWrap, fld_setFld_same _ _ _ _ _ (by decide)]
    rfl

end

/-- Settles O13: a test is followed to its path and count, and a revolution to the FCU's queue and status. -/
theorem patchTestAndFcuCommandsHaveTheirEffect : Obligations.PatchTestAndFcuCommandsHaveTheirEffect := by
  refine ⟨fun k x s hruns hpow hx hdue => ?_, fun k x s hruns hpow hx hdue hinj hopen => ?_,
    fun k flip x s hruns hpow hx hinj hretest htried => ?_, fun n f rev cells gaps r s hruns hentry hready => ?_⟩
  · refine ⟨_, exec_patchDue k s, ?_⟩
    rw [patchDue_eq s hruns hpow hx hdue]
    exact ⟨paths_setPath _ _ _, rfl⟩
  · obtain ⟨v, free, h⟩ := patchInject_eq s hruns hpow hx hdue hinj hopen
    exact ⟨_, _, (exec_patchInject k s).trans (congrArg _ h), paths_setPath _ _ _, rfl, rfl, Nat.le_add_right _ _⟩
  · intro r y hfits hgolden
    obtain ⟨buf, used, h⟩ := patchEval_golden s hruns hpow hx hinj hretest htried rfl rfl hfits hgolden
    refine ⟨_, exec_patchEvaluation k false flip s, ?_⟩
    rw [h]
    exact patchPass_spec _ k y
  · exact ⟨_, exec_fcuClusterEmit n s, fcuEmit_spec s hruns hentry hready⟩

end Sys2Proof.Machine
end

section
/-! PROOFS. Points on their way to their images and grid frames (R158 to R175). -/

namespace Sys2Proof.Machine

theorem exec_pointDeskew (s : State) : exec .pointDeskew s = .next s.pointDeskew := rfl
theorem exec_deskewHoldResume (s : State) : exec .deskewHoldResume s = .next s.holdResume := rfl
theorem exec_deskewExtrapolate (s : State) : exec .deskewExtrapolate s = .next s.deskewExtrapolate := rfl
theorem exec_depthImageClose (c : Fin 48) (s : State) : exec (.depthImageClose c) s = .next (s.depthClose c) := rfl
theorem exec_gridFrameClose (s : State) : exec .gridFrameClose s = .next s.gridClose := rfl

/-! ### Projection leaves the points that wait (R163) -/

/-- What the projection of a point leaves alone: the points that wait, ego-motion and device time. -/
structure State.KeepsPoints (s t : State) : Prop where
  queue : t.pae.queue = s.pae.queue
  held : t.pae.held = s.pae.held
  ego : t.ego = s.ego
  tbu : t.tbu = s.tbu

theorem State.KeepsPoints.refl (s : State) : s.KeepsPoints s := ⟨rfl, rfl, rfl, rfl⟩

theorem State.KeepsPoints.trans {s t u : State} (h : s.KeepsPoints t) (h' : t.KeepsPoints u) : s.KeepsPoints u :=
  ⟨h'.queue.trans h.queue, h'.held.trans h.held, h'.ego.trans h.ego, h'.tbu.trans h.tbu⟩

theorem newestPose_congr {s t : State} (h : t.ego = s.ego) : t.newestPose = s.newestPose := by rw [State.newestPose, State.newestPose, h]

/-- A saturating count of a whole register read back (R727). -/
theorem regN_countSat (s : State) (o n : Nat) : (s.countSat o 0 32 n).regN o = satAdd 32 (s.regN o) n := by
  have hword (t : State) : t.regN o = t.fld' o 0 32 := by
    rw [State.regN, State.fld', fieldOf, pow_zero, Nat.div_one, Nat.mod_eq_of_lt (t.reg o).isLt]
  rw [hword, hword, fld_countSat s n (by decide)]

section
variable (s : State)

theorem keepsPoints_countSat (o lo w n : Nat) : s.KeepsPoints (s.countSat o lo w n) := ⟨rfl, rfl, rfl, rfl⟩

theorem keepsPoints_countWrap (o lo w n : Nat) : s.KeepsPoints (s.countWrap o lo w n) := ⟨rfl, rfl, rfl, rfl⟩

theorem keepsPoints_openGrid (k : Nat) : s.KeepsPoints (s.openGrid k) := by
  unfold State.openGrid
  split <;> exact ⟨rfl, rfl, rfl, rfl⟩

theorem keepsPoints_latePoint (p : Pt) (ks : List Nat) : s.KeepsPoints (s.latePoint p ks) := by
  unfold State.latePoint
  extract_lets isLate shut
  exact List.foldlRecOn (motive := s.KeepsPoints) _ _ (keepsPoints_countSat s _ _ _ _) (fun t ht k _ => ht.trans (keepsPoints_openGrid t k))

theorem keepsPoints_toRange (p : Pt) : s.KeepsPoints (s.toRange p) := ⟨rfl, rfl, rfl, rfl⟩

/-- Points written to images and grid frames, and those of the last 400 ms, are none that wait. -/
theorem keepsPoints_written (images : List DepthImg) (grids : List GridFrame) (recent : List (Pt × Bool)) :
    s.KeepsPoints { s with pae := { s.pae with images := images, grids := grids, recent := recent } } := ⟨rfl, rfl, rfl, rfl⟩

theorem keepsPoints_projectPoint (p : Pt) (extrap : Bool) : s.KeepsPoints (s.projectPoint p extrap) := by
  unfold State.projectPoint
  split
  · exact keepsPoints_toRange s p
  · extract_lets ks t present imgs grids _ u
    have ht : s.KeepsPoints t := keepsPoints_latePoint s p ks
    clear_value t
    refine ht.trans ?_
    have hu : t.KeepsPoints u := keepsPoints_written t _ _ _
    clear_value u imgs grids
    split
    · exact (hu.trans (keepsPoints_toRange u p)).trans (keepsPoints_countWrap _ _ _ _ _)
    · exact keepsPoints_countSat t _ _ _ _

/-! ### A point against the pose ring (R161, R162) -/

/-- A point is held from the present instant on. -/
def State.holdPoint (s : State) (p : Pt) : State := { s with pae := { s.pae with held := s.pae.held ++ [(p, s.now)] } }

/-- A pose ring with a newest entry has an oldest. -/
theorem oldestPose_of_newestPose {n : Nat} (h : s.newestPose = some n) : ∃ o, s.oldestPose = some o := by
  unfold State.newestPose at h
  unfold State.oldestPose
  cases hring : s.ego.ring with
  | nil => simp [hring] at h
  | cons a r => simp [List.getLast?_cons]

variable {s} {p : Pt} {o n : Nat}

theorem deskewPoint_old (ho : s.oldestPose = some o) (hn : s.newestPose = some n) (h : p.time < o) :
    s.deskewPoint p = s.countSat Reg.PAE_DESKEW_OLD 0 32 1 := by simp [State.deskewPoint, ho, hn, h]

theorem deskewPoint_newer (ho : s.oldestPose = some o) (hn : s.newestPose = some n) (hop : o ≤ p.time) (hnp : n < p.time) :
    s.deskewPoint p = s.holdPoint p := by simp [State.deskewPoint, State.holdPoint, ho, hn, hop.not_gt, hnp]

/-- A point that the ring covers, or older than it, is not held. -/
theorem deskewPoint_covered (hn : s.newestPose = some n) (h : p.time ≤ n) : s.KeepsPoints (s.deskewPoint p) := by
  obtain ⟨o, ho⟩ := oldestPose_of_newestPose s hn
  by_cases hop : p.time < o
  · rw [deskewPoint_old ho hn hop]
    exact ⟨rfl, rfl, rfl, rfl⟩
  · simpa [State.deskewPoint, ho, hn, hop, h.not_gt] using keepsPoints_projectPoint s p false

theorem deskewPoint_queue : (s.deskewPoint p).pae.queue = s.pae.queue := by
  unfold State.deskewPoint
  split
  · split
    · rfl
    · split
      · rfl
      · exact (keepsPoints_projectPoint s p false).queue
  · rfl

/-! ### The rows -/

/-- The points that wait are those given. -/
def State.withQueue (s : State) (r : List Pt) : State := { s with pae := { s.pae with queue := r } }

/-- The oldest point that waits leaves the queue and is judged against the ring. -/
theorem pointDeskew_eq {r : List Pt} (hruns : s.paeRuns = true) (hqueue : s.pae.queue = p :: r) :
    s.pointDeskew = (s.withQueue r).deskewPoint p := by simp [State.pointDeskew, State.withQueue, hruns, hqueue]

theorem pointDeskew_spec {r : List Pt} (hruns : s.paeRuns = true) (hqueue : s.pae.queue = p :: r) :
    s.pointDeskew.pae.queue = r ∧ ∀ o n, s.oldestPose = some o → s.newestPose = some n →
      (p.time < o → s.pointDeskew.regN Reg.PAE_DESKEW_OLD = satAdd 32 (s.regN Reg.PAE_DESKEW_OLD) 1) ∧
      (o ≤ p.time → n < p.time → s.pointDeskew.pae.held = s.pae.held ++ [(p, s.now)]) := by
  rw [pointDeskew_eq hruns hqueue]
  refine ⟨deskewPoint_queue, fun o n ho hn => ⟨fun hold => ?_, fun hop hnp => ?_⟩⟩
  · rw [deskewPoint_old (s := s.withQueue r) ho hn hold, regN_countSat]
    rfl
  · rw [deskewPoint_newer (s := s.withQueue r) ho hn hop hnp]
    rfl

/-- The points that go on are not held again: the ring that covers them stays. -/
theorem holdResume_held (hruns : s.paeRuns = true) (hn : s.newestPose = some n) :
    s.holdResume.pae.held = s.pae.held.filter (fun (p, _) => !decide (p.time ≤ n)) := by
  unfold State.holdResume
  rw [hruns, hn]
  dsimp only
  refine State.KeepsPoints.held (List.foldlRecOn (motive := State.KeepsPoints _) _ _ (.refl _) (fun t ht x hx => ?_))
  have hx : x.1.time ≤ n := by simpa using (List.mem_filter.1 hx).2
  exact ht.trans (deskewPoint_covered ((newestPose_congr ht.ego).trans hn) hx)

/-- The oldest held point newer than the ring leaves at the end of its hold, and is counted where it lies beyond EXTRAP_MAX. -/
theorem deskewExtrapolate_spec {h : Time} {r : List (Pt × Time)} (hruns : s.paeRuns = true) (hheld : s.pae.held = (p, h) :: r)
    (hnewer : ∀ n, s.newestPose = some n → n < p.time) :
    let t := s.deskewExtrapolate
    t.pae.held = r ∧ t.now = max s.now (h + s.fld' Reg.PAE_EXTRAP 0 16 * usT) ∧
      ((∀ n, s.newestPose = some n → n + s.fld' Reg.PAE_EXTRAP 16 16 * 1000 < p.time) →
        t.regN Reg.PAE_DESKEW_LATE = satAdd 32 (s.regN Reg.PAE_DESKEW_LATE) 1) := by
  unfold State.deskewExtrapolate
  rw [hruns, hheld]
  dsimp -zeta only
  intro t
  extract_lets _ u at t
  have hlate : (u.countSat Reg.PAE_DESKEW_LATE 0 32 1).regN Reg.PAE_DESKEW_LATE = satAdd 32 (s.regN Reg.PAE_DESKEW_LATE) 1 :=
    regN_countSat u _ 1
  have hpose : u.newestPose = s.newestPose := rfl
  subst t
  rw [hpose]
  cases hn : s.newestPose with
  | none => exact ⟨rfl, rfl, fun _ => hlate⟩
  | some n =>
    dsimp only
    rw [if_neg (hnewer n hn).not_ge]
    split
    · next hmax =>
      have hkeeps := keepsPoints_projectPoint u p true
      exact ⟨hkeeps.held, congrArg Tbu.now hkeeps.tbu, fun hbeyond => absurd hmax (hbeyond n rfl).not_ge⟩
    · exact ⟨rfl, rfl, fun _ => hlate⟩

/-! ### Images and grid frames close (R172, R174) -/

theorem regBytes_congr {s t : State} (h : t.regs = s.regs) (o n : Nat) : t.regBytes o n = s.regBytes o n := by
  induction n generalizing o with
  | zero => rfl
  | succ n ih => rw [State.regBytes, State.regBytes, ih, State.regN, State.regN, reg_congr h]

theorem camBlock_congr {s t : State} (h : t.regs = s.regs) (c : Nat) : t.camBlock c = s.camBlock c := regBytes_congr h _ _

theorem depthClose_spec {c : Nat} {g : DepthImg} (hg : s.pae.images.find? (fun g => g.cam == c) = some g) :
    let t := s.depthClose c
    t.pae.images = s.pae.images.erase g ∧ t.pae.closed.head? = some g ∧ (g.extrap = true → t.pae.stepExtrap = true) ∧
      t.sic.items = { slot := u (s.camBlock c) 6 1, row := 0, time := g.tmid, bytes := s.depthBytes g, id := idPae } :: s.sic.items := by
  unfold State.depthClose
  rw [hg]
  dsimp only
  refine ⟨rfl, rfl, fun hextrap => ?_, ?_⟩
  · simp [State.noteExtrap, hextrap]
  · simp only [State.noteExtrap, State.reach_sic, State.depthBytes, camBlock_congr (State.reach_regs s _)]

/-- The frame that closes is open. -/
theorem openGrid_open (s : State) (k : Nat) : ∃ g, (s.openGrid k).pae.grids.find? (fun g => g.k == k) = some g := by
  rw [← Option.isSome_iff_exists, List.find?_isSome]
  unfold State.openGrid
  split
  · next h => simpa using h
  · exact ⟨_, List.mem_append_right _ (List.mem_singleton_self _), beq_self_eq_true _⟩

theorem gridClose_spec {k : Nat} (hk : s.nextGrid = some k) (hruns : s.paeRuns = true) (hgrid : s.bit Reg.PAE_CTRL 2 = true) :
    s.gridClose.pae.gridDone = some k ∧ ∀ g ∈ s.gridClose.pae.grids, k < g.k := by
  obtain ⟨g, hg⟩ := openGrid_open s k
  unfold State.gridClose
  simp only [hk, hruns, hgrid, Bool.not_true, Bool.or_self, Bool.false_eq_true, if_false, State.reach_pae, hg]
  refine ⟨rfl, fun x hx => ?_⟩
  simpa using (List.mem_filter.1 hx).2

end

end Sys2Proof.Machine
end

section
/-! PROOFS. Online calibration (R178 to R183, R194). -/

namespace Sys2Proof.Machine

theorem exec_calEstimate (n : BitVec 8) (e : CalEst) (s : State) : exec (.calEstimate n e) s = .next (s.calEstimate n.toNat e) := rfl
theorem exec_calReset (n : BitVec 8) (s : State) :
    exec (.calReset n) s = .next (s.hostCmd Reg.PAE_CAL_CMD (fun s => s.calCmd n.toNat 1)) := rfl
theorem exec_freeze (n : BitVec 8) (s : State) : exec (.freeze n) s = .next (s.hostCmd Reg.PAE_CAL_CMD (fun s => s.calCmd n.toNat 2)) := rfl
theorem exec_unfreeze (n : BitVec 8) (s : State) :
    exec (.unfreeze n) s = .next (s.hostCmd Reg.PAE_CAL_CMD (fun s => s.calCmd n.toNat 3)) := rfl

theorem calOf_congr {s t : State} (h : t.pae = s.pae) (n : Nat) : t.calOf n = s.calOf n := by rw [State.calOf, State.calOf, h]

/-- A triple within a bound lies within a larger one. -/
theorem within3_mono {t : Int × Int × Int} {b c : Int} (hbc : b ≤ c) (h : within3 t b = true) : within3 t c = true := by
  simp only [within3, Bool.and_eq_true, decide_eq_true_eq] at h ⊢
  omega

/-- An estimate within the bounds lies within twice the bounds (R178). -/
theorem estInBounds_twice {e : CalEst} (h : estInBounds e 1 = true) : estInBounds e 2 = true := by
  simp only [estInBounds, Bool.and_eq_true] at h ⊢
  exact ⟨within3_mono (by decide) h.1, within3_mono (by decide) h.2⟩

/-- A slot that is NOMINAL or TRACKING, with an estimate within the bounds just judged, is TRACKING (Table 4.4). -/
theorem nextSt_tracking {c : Cal} (hst : c.st ≤ 1) (hbeyond : c.beyond = 0) (hbeyond2 : c.beyond2 = 0) (hwithin : 1 ≤ c.within) :
    c.nextSt = 1 := by
  rcases (by omega : c.st = 0 ∨ c.st = 1) with h | h <;> simp [Cal.nextSt, h, hbeyond, hbeyond2, hwithin]

section
variable {s : State} {n : Nat}

/-- An estimate within the bounds is accepted: the correction's new target (R180). -/
theorem calEstimate_spec {e : CalEst} (hruns : s.paeRuns = true) (hcal : s.bit Reg.PAE_CTRL 1 = true) (hfrozen : (s.calOf n).frozen = false)
    (hcmd : (s.calOf n).cmd = none) (hst : (s.calOf n).st ≤ 1) (hbound : (s.slot n).bound = true) (he : estInBounds e 1 = true) :
    ((s.calEstimate n e).calOf n).st = 1 ∧ ((s.calEstimate n e).calOf n).target = some e ∧
      ((s.calEstimate n e).calOf n).accepted = satAdd 32 (s.calOf n).accepted 1 := by
  have hlost : (s.calOf n).st ≠ 3 := by omega
  generalize hx : (s.calEstimate n e).calOf n = x
  unfold State.calEstimate at hx
  extract_lets c ok c₁ st take c' t at hx
  rw [if_neg (by simp [c, hruns, hcal, hfrozen, hcmd, hlost, hbound])] at hx
  have hst₁ : st = 1 := nextSt_tracking hst (if_pos he) (if_pos (estInBounds_twice he)) ((Nat.le_add_left 1 _).trans (if_pos he).ge)
  have htake : take = true := by simp [take, hst₁, ok, he]
  rw [if_neg (by simp [hst₁]), calOf_congr (calEvent_spec _ n _ st).2, calOf_setCal] at hx
  subst hx
  exact ⟨hst₁, if_pos htake, if_pos htake⟩

/-! ### PAE_CAL_CMD (R182, R183, R194) -/

/-- A command takes effect: status DONE. -/
theorem calTake_done (op : Nat) : (s.calTake n op).calOf n = (s.calOf n).apply op ∧ (s.calTake n op).fld' Reg.PAE_CAL_CMD_ST 0 8 = DONE := by
  unfold State.calTake
  dsimp only
  constructor
  · rw [calOf_congr (State.setBit_pae _ _ _ _), calOf_congr (State.status_pae _ _ _), calOf_congr (calEvent_spec _ _ _ _).2, calOf_setCal]
  · rw [State.setBit, fld_setFld_disjoint _ _ _ _ _ _ _ (by decide) (by decide), fld_status _ _ _ (by decide)]

/-- The host's write of PAE_CAL_CMD. -/
def State.calWritten (s : State) (n op : Nat) : State := s.hostCmd Reg.PAE_CAL_CMD (fun s => s.calCmd n op)

variable (hopen : s.hostOpen .command Reg.PAE_CAL_CMD = true) (hidle : s.bit Reg.PAE_CAL_CMD_ST 16 = false) (hbound : (s.slot n).bound = true)
include hopen hidle hbound

theorem calWritten_waits (op : Nat) (hb : s.hasBoundary n = true) :
    (s.calWritten n op).calOf n = { s.calOf n with cmd := some op } ∧ (s.calWritten n op).bit Reg.PAE_CAL_CMD_ST 16 = true := by
  have hslot : ((s.setFld Reg.PAE_CAL_CMD_ST 8 8 n).slot n).bound = true := hbound
  have hb' : (s.setFld Reg.PAE_CAL_CMD_ST 8 8 n).hasBoundary n = true := hb
  rw [State.calWritten, hostCmd_open hopen]
  simp only [State.calCmd, State.unlessBusy, hidle, hslot, hb', Bool.not_true, Bool.false_eq_true, if_false, if_true]
  refine ⟨?_, bit_setBit_same _ _ _ _ (by decide)⟩
  rw [calOf_congr (State.setBit_pae _ _ _ _), calOf_setCal]
  rfl

theorem calWritten_atOnce (op : Nat) (hb : s.hasBoundary n = false) :
    (s.calWritten n op).calOf n = (s.calOf n).apply op ∧ (s.calWritten n op).fld' Reg.PAE_CAL_CMD_ST 0 8 = DONE := by
  have hslot : ((s.setFld Reg.PAE_CAL_CMD_ST 8 8 n).slot n).bound = true := hbound
  have hb' : (s.setFld Reg.PAE_CAL_CMD_ST 8 8 n).hasBoundary n = false := hb
  rw [State.calWritten, hostCmd_open hopen]
  simp only [State.calCmd, State.unlessBusy, hidle, hslot, hb', Bool.not_true, Bool.false_eq_true, if_false]
  exact calTake_done op

end

end Sys2Proof.Machine
end

section
/-! PROOFS. The ego-motion estimator (R184 to R192, R196). -/

namespace Sys2Proof.Machine

theorem exec_egoKeyframe (k : KeyframeObs) (s : State) : exec (.egoKeyframe k) s = .next (s.keyframe k) := rfl
theorem exec_egoSmootherResult (r : SmootherResult) (s : State) : exec (.egoSmootherResult r) s = .next (s.smoother r) := rfl
theorem exec_egoHoldTimeout (s : State) : exec .egoHoldTimeout s = .next s.egoHoldTimeout := rfl
theorem exec_egoRecordSnapshot (s : State) : exec .egoRecordSnapshot s = .next (s.hostAccess .read (Reg.EGO_LAST_REC 0)
    (fun s => let t := s.latchEgo; t.emit (.host .sc (leBytes 4 (t.regN (Reg.EGO_LAST_REC 0)))))) := rfl

/-! ### A batch submitted leaves ego-motion (R188, R405) -/

/-- What the submission of a batch leaves alone: ego-motion and device time. -/
structure State.KeepsMotion (s t : State) : Prop where
  ego : t.ego = s.ego
  tbu : t.tbu = s.tbu

theorem State.KeepsMotion.refl (s : State) : s.KeepsMotion s := ⟨rfl, rfl⟩

theorem State.KeepsMotion.trans {s t u : State} (h : s.KeepsMotion t) (h' : t.KeepsMotion u) : s.KeepsMotion u :=
  ⟨h'.ego.trans h.ego, h'.tbu.trans h.tbu⟩

section
variable {s t : State} (h : s.KeepsMotion t)
include h

theorem State.KeepsMotion.setReg (o : Nat) (v : W32) : s.KeepsMotion (t.setReg o v) := ⟨h.ego, h.tbu⟩
theorem State.KeepsMotion.setFld (o lo w v : Nat) : s.KeepsMotion (t.setFld o lo w v) := ⟨h.ego, h.tbu⟩
theorem State.KeepsMotion.setBit (o b : Nat) (v : Bool) : s.KeepsMotion (t.setBit o b v) := ⟨h.ego, h.tbu⟩

end

section
variable (s : State)

theorem keepsMotion_refuseAccess (h : Option Nat) (id : Nat) (k : Kind) (a : Nat) : s.KeepsMotion (s.refuseAccess h id k a) := by
  unfold State.refuseAccess State.fencedSpeaker
  dsimp only
  split <;> split <;> exact ⟨rfl, rfl⟩

theorem keepsMotion_setChan (n : Nat) (c : Chan) : s.KeepsMotion (s.setChan n c) := by
  unfold State.setChan
  extract_lets _ t st u v l w
  have ht : s.KeepsMotion t := ⟨rfl, rfl⟩
  have hu : s.KeepsMotion u := by
    unfold u
    split
    · exact ht
    · exact ht.setFld _ _ _ _
  exact (((((hu.setBit _ _ _).setBit _ _ _).setFld _ _ _ _).setReg _ _).setReg _ _).setBit _ _ _

theorem keepsMotion_grant (w : Waiter) : s.KeepsMotion (s.grant w) := by
  cases w with
  | chan n => exact keepsMotion_setChan s n _
  | batch q => exact ⟨rfl, rfl⟩
  | set n => exact ⟨rfl, rfl⟩
  | tile t q => cases q <;> exact ⟨rfl, rfl⟩

theorem keepsMotion_serveOne (w : SigWait) : s.KeepsMotion (s.serveOne w) := by
  unfold State.serveOne
  split
  · refine State.KeepsMotion.trans ?_ (keepsMotion_grant _ _)
    exact ⟨rfl, rfl⟩
  · exact .refl s

theorem keepsMotion_waitOn (w : SigWait) : s.KeepsMotion (s.waitOn w) := by
  unfold State.waitOn
  split
  · exact .refl s
  · exact List.foldlRecOn (motive := State.KeepsMotion s) _ _ ⟨rfl, rfl⟩ (fun t ht w _ => ht.trans (keepsMotion_serveOne t w))

theorem keepsMotion_submit (id : Nat) (b : List Byte) : s.KeepsMotion (s.submit id b).2 := by
  generalize hr : s.submit id b = r
  unfold State.submit at hr
  extract_lets ok c q x _ t at hr
  split at hr
  · have ht : s.KeepsMotion t := ⟨rfl, rfl⟩
    subst hr
    dsimp only
    split
    · exact ht.trans (keepsMotion_waitOn t _)
    · exact ht
  · subst hr
    exact .refl s

theorem keepsMotion_portSubmit (id : Nat) (desc : List Byte) : s.KeepsMotion (s.portSubmit id desc) := by
  unfold State.portSubmit
  split
  · exact .refl s
  · split
    · exact (keepsMotion_refuseAccess s _ _ _ _).trans ⟨rfl, rfl⟩
    · dsimp only
      split
      · exact keepsMotion_submit s id desc
      · exact (keepsMotion_submit s id desc).trans ⟨rfl, rfl⟩

/-! ### Keyframes and the smoother (R185 to R191) -/

/-- The newest keyframe is the one added. -/
theorem addKeyframe_newest (e : Ego) (x : Keyframe) (restart : Bool) : (e.addKeyframe x restart).kf.head? = some x := by
  cases restart <;> rfl

/-- HOLD is entered where neither an inertial unit nor wheel odometry is left, and INVALID left where one is back (R190, R191). -/
theorem newKeyframe_spec (k : KeyframeObs) :
    let t := s.newKeyframe k
    t.ego.solving = true ∧ t.ego.kf.head?.map (·.time) = some t.now ∧ t.ego.invalid = (s.ego.invalid && !(s.egoAnyImu || s.egoWheelLive)) ∧
      (t.ego.hold = none ↔ (s.egoAnyImu || s.egoWheelLive) = true) := by
  refine ⟨rfl, congrArg (Option.map _) (addKeyframe_newest _ _ _), rfl, ?_⟩
  cases h : s.egoAnyImu || s.egoWheelLive <;> simp [State.newKeyframe, h]

/-- A keyframe comes at its instant, and the solve it submits leaves it as it is. -/
theorem keyframe_eq (k : KeyframeObs) (hruns : s.egoRuns = true) (hstatic : s.egoStatic = false) :
    ∃ x, ((s.reach x).newKeyframe k).KeepsMotion (s.keyframe k) := by
  unfold State.keyframe
  rw [if_neg (by simp [hruns, hstatic])]
  cases s.ego.kf.head? with
  | none =>
    have hreach : s.reach 0 = s := by simp [State.reach]
    refine ⟨0, ?_⟩
    rw [hreach]
    exact keepsMotion_portSubmit (s.newKeyframe k) _ _
  | some x => exact ⟨x.time + s.regN Reg.EGO_KF_DT * msT, keepsMotion_portSubmit _ _ _⟩

theorem keyframe_spec (k : KeyframeObs) (hruns : s.egoRuns = true) (hstatic : s.egoStatic = false) :
    let t := s.keyframe k
    t.ego.solving = true ∧ t.ego.kf.head?.map (·.time) = some t.now ∧ t.ego.invalid = (s.ego.invalid && !(s.egoAnyImu || s.egoWheelLive)) ∧
      (t.ego.hold = none ↔ (s.egoAnyImu || s.egoWheelLive) = true) := by
  obtain ⟨x, hego, htbu⟩ := keyframe_eq s k hruns hstatic
  dsimp only
  rw [State.now, hego, htbu]
  exact newKeyframe_spec (s.reach x) k

variable {s}

/-- A Done result ends the solve and, unless INVALID, is the smoothed state; a shifted one shows (R188, R191). -/
theorem smoother_spec {r : SmootherResult} (hruns : s.egoRuns = true) (hsolving : s.ego.solving = true) (hdone : isDone r.status.toNat = true) :
    let t := s.smoother r
    t.ego.solving = false ∧ (t.ego.shifted = true ↔ r.shifted = true ∨ r.status.toNat = DONE_SHIFTED) ∧
      (s.ego.invalid = false → t.ego.pos = r.pos ∧ t.ego.vel = r.vel ∧ t.ego.att = r.att ∧ t.ego.bias = r.bias) ∧
      (s.ego.invalid = true → t.ego.pos = s.ego.pos ∧ t.ego.vel = s.ego.vel ∧ t.ego.att = s.ego.att ∧ t.ego.bias = s.ego.bias) := by
  have hshift : isShifted r = true ↔ r.shifted = true ∨ r.status.toNat = DONE_SHIFTED := by simp [isShifted, hdone]
  rw [← hshift]
  simp only [State.smoother, hruns, hsolving, hdone, apply_ite State.ego, State.countSat_ego, ite_self, Bool.not_true, Bool.or_self,
    Bool.false_eq_true, if_false]
  cases s.ego.invalid <;> simp

theorem egoHoldTimeout_eq {h : Time} (hruns : s.egoRuns = true) (hhold : s.ego.hold = some h) :
    s.egoHoldTimeout =
      State.setBit { s.reach (h + s.regN Reg.EGO_HOLD_MAX * msT) with ego := { s.ego with invalid := true } } Reg.EGO_STATUS_W1C 3 true := by
  simp only [State.egoHoldTimeout, hruns, hhold, State.reach_ego]

/-! ### EGO_LAST_REC (R196) -/

theorem setRegBytes_keeps (s : State) (off : Nat) (bs : List Byte) :
    (s.setRegBytes off bs).ego = s.ego ∧ ∀ o < off, (s.setRegBytes off bs).reg o = s.reg o := by
  induction s, off, bs using State.setRegBytes.induct with
  | case1 s off a b c d bs ih =>
    unfold State.setRegBytes
    exact ⟨ih.1, fun o ho => (ih.2 o (by omega)).trans (reg_setReg_ne s _ ho.ne)⟩
  | case2 l s off hl =>
    rw [State.setRegBytes]
    · exact ⟨rfl, fun _ _ => rfl⟩
    · exact hl

/-- The k-th register of those set from bytes holds the k-th four bytes. -/
theorem reg_setRegBytes (s : State) (off : Nat) (bs : List Byte) (k : Nat) (hk : 4 * k + 4 ≤ bs.length) :
    (s.setRegBytes off bs).reg (off + 4 * k) = BitVec.ofNat 32 (u bs (4 * k) 4) := by
  induction s, off, bs using State.setRegBytes.induct generalizing k with
  | case1 s off a b c d bs ih =>
    unfold State.setRegBytes
    cases k with
    | zero => exact ((setRegBytes_keeps _ _ bs).2 off (by omega)).trans (reg_setReg_same s off _)
    | succ k =>
      have hrest := ih k (by simp only [List.length_cons] at hk; omega)
      rw [show off + 4 * (k + 1) = off + 4 + 4 * k by ring, hrest]
      rfl
  | case2 l s off hl =>
    match l, hl with
    | a :: b :: c :: d :: bs, hl => exact (hl a b c d bs rfl).elim
    | [], _ | [_], _ | [_, _], _ | [_, _, _], _ => simp at hk

/-- The ego record stands in EGO_LAST_REC0 to 15. -/
theorem latchEgo_spec (s : State) :
    s.latchEgo.ego = s.ego ∧ ∀ k < 16, s.latchEgo.reg (Reg.EGO_LAST_REC k) = BitVec.ofNat 32 (u (fit 64 s.ego.record) (4 * k) 4) :=
  ⟨(setRegBytes_keeps _ _ _).1, fun k hk => reg_setRegBytes s (Reg.EGO_LAST_REC 0) _ k (by rw [fit_length]; omega)⟩

end

/-! ### The obligation -/

/-- Settles O14: each row is followed to its point, image or grid frame, its calibration, or the ego state. -/
theorem projectionAndEgoCommandsHaveTheirEffect : Obligations.ProjectionAndEgoCommandsHaveTheirEffect := by
  refine ⟨fun p r s hruns hqueue => ⟨_, exec_pointDeskew s, pointDeskew_spec hruns hqueue⟩,
    fun n s hruns hn => ⟨_, exec_deskewHoldResume s, holdResume_held hruns hn⟩,
    fun p h r s hruns hheld hnewer => ⟨_, exec_deskewExtrapolate s, deskewExtrapolate_spec hruns hheld hnewer⟩,
    fun c g s hg => ⟨_, exec_depthImageClose c s, depthClose_spec hg⟩,
    fun k s hk hruns hgrid => ⟨_, exec_gridFrameClose s, gridClose_spec hk hruns hgrid⟩,
    fun n e s hruns hcal hfrozen hcmd hst hbound he =>
      ⟨_, exec_calEstimate n e s, calEstimate_spec hruns hcal hfrozen hcmd hst hbound he⟩,
    fun n s hopen hidle hbound => ⟨fun hb => ?_, fun hb => ?_⟩,
    fun k s hruns hstatic => ⟨_, exec_egoKeyframe k s, keyframe_spec s k hruns hstatic⟩,
    fun r s hruns hsolving hdone => ⟨_, exec_egoSmootherResult r s, smoother_spec hruns hsolving hdone⟩,
    fun h s hruns hhold => ?_, fun s hopen => ?_⟩
  · have hwaits := fun op => calWritten_waits hopen hidle hbound op hb
    exact ⟨⟨_, exec_calReset n s, hwaits 1⟩, ⟨_, exec_freeze n s, hwaits 2⟩, ⟨_, exec_unfreeze n s, hwaits 3⟩⟩
  · have hdone := fun op => calWritten_atOnce hopen hidle hbound op hb
    refine ⟨?_, ⟨_, exec_freeze n s, hdone 2⟩, ⟨_, exec_unfreeze n s, hdone 3⟩⟩
    obtain ⟨hcal, hst⟩ := hdone 1
    refine ⟨_, exec_calReset n s, ?_, ?_, ?_, hst⟩
    · exact congrArg Cal.rot hcal
    · exact congrArg Cal.trans hcal
    · refine (congrArg Cal.st hcal).trans ?_
      simp [Cal.apply]
  · rw [exec_egoHoldTimeout, egoHoldTimeout_eq hruns hhold]
    exact ⟨_, rfl, rfl, bit_setBit_same _ _ _ _ (by decide), rfl, sameRegsBut_setReg _ _ (List.mem_singleton_self _)⟩
  · rw [exec_egoRecordSnapshot, hostAccess_open hopen]
    exact ⟨_, rfl, latchEgo_spec s⟩

end Sys2Proof.Machine
end

section
/-! PROOFS. The work of the tiles: what a signal, a completion and the decode it ends leave of the tiles' commands, of their registers and of
device time (R217, R219, R272, R369). -/

namespace Sys2Proof.Machine

/-! ### The work a tile holds -/

/-- A tile holds the same work: its state, its queues and its running command. -/
structure Tile.SameWork (x y : Tile) : Prop where
  st : y.st = x.st
  stageQ : y.stageQ = x.stageQ
  bgQ : y.bgQ = x.bgQ
  run : y.run = x.run

theorem Tile.SameWork.refl (x : Tile) : x.SameWork x := ⟨rfl, rfl, rfl, rfl⟩

theorem Tile.SameWork.trans {x y z : Tile} (h : x.SameWork y) (h' : y.SameWork z) : x.SameWork z :=
  ⟨h'.st.trans h.st, h'.stageQ.trans h.stageQ, h'.bgQ.trans h.bgQ, h'.run.trans h.run⟩

theorem Tile.SameWork.queue {x y : Tile} (h : x.SameWork y) (q : TileQueue) : y.queue q = x.queue q := by
  cases q with
  | stage => exact h.stageQ
  | background => exact h.bgQ

theorem tile_congr {s t : State} (h : t.tca.tiles = s.tca.tiles) (n : Nat) : t.tile n = s.tile n := by rw [State.tile, State.tile, h]

/-- Every tile holds the same work. -/
def State.KeepsTiles (s t : State) : Prop := ∀ n, (s.tile n).SameWork (t.tile n)

theorem State.KeepsTiles.refl (s : State) : s.KeepsTiles s := fun _ => .refl _

theorem State.KeepsTiles.trans {s t u : State} (h : s.KeepsTiles t) (h' : t.KeepsTiles u) : s.KeepsTiles u := fun n => (h n).trans (h' n)

theorem State.KeepsTiles.ite {s t u : State} {p : Prop} [Decidable p] (ht : s.KeepsTiles t) (hu : s.KeepsTiles u) :
    s.KeepsTiles (if p then t else u) := by split <;> assumption

theorem State.KeepsTiles.of_tiles {s t : State} (h : t.tca.tiles = s.tca.tiles) : s.KeepsTiles t := fun n => by
  rw [tile_congr h]
  exact .refl _

/-- Setting a tile that holds the same work changes no tile's work. -/
theorem keepsTiles_setTile {s : State} {n : Nat} {x : Tile} (h : (s.tile n).SameWork x) : s.KeepsTiles (s.setTile n x) := fun m => by
  by_cases hm : m = n
  · rwa [hm, tile_setTile]
  · rw [tile_setTile_ne s x hm]
    exact .refl _

/-! ### The frame of a completion -/

/-- The registers of the single tiles (Table 5.11), below those of the whole array. -/
abbrev inTileRegs (o : Nat) : Prop := 0x600000 ≤ o ∧ o < 0x690000

theorem inTileRegs_done {n : Nat} (hn : n < 34) : inTileRegs (Reg.TCA_T_DONE n) := by
  unfold Reg.TCA_T_DONE
  omega

theorem inTileRegs_hb {n : Nat} (hn : n < 34) : inTileRegs (Reg.TCA_T_HB n) := by
  unfold Reg.TCA_T_HB
  omega

theorem hb_ne_done (m n : Nat) : Reg.TCA_T_HB m ≠ Reg.TCA_T_DONE n := by
  unfold Reg.TCA_T_HB Reg.TCA_T_DONE
  omega

/-- Registers in a row that starts past the tiles' own are none of them. -/
theorem not_inTileRegs_row {base : Nat} (h : 0x690000 ≤ base) (k : Nat) : ¬ inTileRegs (base + k) := fun ho => by omega

/-- Every tile holds the same work, device time stands, and the tiles' own registers stand. -/
structure State.KeepsWork (s t : State) : Prop where
  tiles : s.KeepsTiles t
  now : t.tbu.now = s.tbu.now
  regs : ∀ o, inTileRegs o → t.reg o = s.reg o

theorem State.KeepsWork.refl (s : State) : s.KeepsWork s := ⟨.refl s, rfl, fun _ _ => rfl⟩

theorem State.KeepsWork.trans {s t u : State} (h : s.KeepsWork t) (h' : t.KeepsWork u) : s.KeepsWork u :=
  ⟨h.tiles.trans h'.tiles, h'.now.trans h.now, fun o ho => (h'.regs o ho).trans (h.regs o ho)⟩

theorem State.KeepsWork.ite {s t u : State} {p : Prop} [Decidable p] (ht : s.KeepsWork t) (hu : s.KeepsWork u) :
    s.KeepsWork (if p then t else u) := by split <;> assumption

/-- A fold of updates that each keep the tiles' work keeps it. -/
theorem keepsWork_foldl {α : Type} {f : State → α → State} (hf : ∀ (s : State) a, s.KeepsWork (f s a)) (l : List α) (s : State) :
    s.KeepsWork (l.foldl f s) :=
  List.foldlRecOn (motive := State.KeepsWork s) l f (.refl s) (fun t ht a _ => ht.trans (hf t a))

/-- What changes neither a tile, nor the time base, nor a register keeps the tiles' work. -/
theorem State.KeepsWork.of_eq {s t : State} (htiles : t.tca.tiles = s.tca.tiles) (htbu : t.tbu = s.tbu) (hregs : t.regs = s.regs) :
    s.KeepsWork t :=
  ⟨.of_tiles htiles, congrArg Tbu.now htbu, fun o _ => reg_congr hregs o⟩

section
variable {s t : State} (h : s.KeepsWork t) {o : Nat} (ho : ¬ inTileRegs o)
include h ho

theorem State.KeepsWork.setReg (v : W32) : s.KeepsWork (t.setReg o v) :=
  ⟨h.tiles.trans (.of_tiles rfl), h.now, fun o' ho' => (reg_setReg_ne t v (by rintro rfl; exact ho ho')).trans (h.regs o' ho')⟩

theorem State.KeepsWork.setFld (lo w v : Nat) : s.KeepsWork (t.setFld o lo w v) := h.setReg ho _
theorem State.KeepsWork.setBit (b : Nat) (v : Bool) : s.KeepsWork (t.setBit o b v) := h.setReg ho _
theorem State.KeepsWork.countSat (lo w n : Nat) : s.KeepsWork (t.countSat o lo w n) := h.setReg ho _

end

section
variable (s : State)

theorem keepsWork_setTile {n : Nat} {x : Tile} (h : (s.tile n).SameWork x) : s.KeepsWork (s.setTile n x) :=
  ⟨keepsTiles_setTile h, rfl, fun _ _ => rfl⟩

/-! ### Signals and the commands that wait for them (R272 to R275, R699) -/

theorem keepsWork_setChan (n : Nat) (c : Chan) : s.KeepsWork (s.setChan n c) := by
  unfold State.setChan
  extract_lets _ t st u v l w
  have hst : ¬ inTileRegs st := not_inTileRegs_row (by decide) _
  have ht : s.KeepsWork t := .of_eq rfl rfl rfl
  have hu : s.KeepsWork u := ht.ite (ht.setFld hst _ _ _)
  have hv : s.KeepsWork v := ((hu.setBit hst _ _).setBit hst _ _).setFld hst _ _ _
  have hw : s.KeepsWork w := (hv.setReg (not_inTileRegs_row (by decide) _) _).setReg (not_inTileRegs_row (by decide) _) _
  exact hw.setBit (by decide) _ _

theorem keepsWork_grant (w : Waiter) : s.KeepsWork (s.grant w) := by
  cases w with
  | chan n => exact keepsWork_setChan s n _
  | batch q => exact .of_eq rfl rfl rfl
  | set n => exact .of_eq rfl rfl rfl
  | tile t q => cases q <;> exact keepsWork_setTile s ⟨rfl, rfl, rfl, rfl⟩

theorem keepsWork_serveOne (w : SigWait) : s.KeepsWork (s.serveOne w) := by
  unfold State.serveOne
  split
  · refine .trans (.setReg ?_ (not_inTileRegs_row (by decide) _) _) (keepsWork_grant _ _)
    exact .of_eq rfl rfl rfl
  · exact .refl s

theorem keepsWork_serve (sig : Nat) : s.KeepsWork (s.serve sig) := keepsWork_foldl keepsWork_serveOne _ s

theorem keepsWork_waitOn (w : SigWait) : s.KeepsWork (s.waitOn w) := by
  unfold State.waitOn
  refine .ite (.refl s) (.trans ?_ (keepsWork_serve _ _))
  exact .of_eq rfl rfl rfl

theorem keepsWork_armQueue (n : Nat) (q : TileQueue) : s.KeepsWork (s.armQueue n q) := by
  unfold State.armQueue
  split
  · exact .ite (keepsWork_waitOn s _) (.refl s)
  · exact .refl s

theorem keepsWork_armTile (n : Nat) : s.KeepsWork (s.armTile n) :=
  (keepsWork_armQueue s n .stage).trans (keepsWork_armQueue _ n .background)

theorem keepsWork_msix (v : Nat) : s.KeepsWork (s.msix v) := by
  unfold State.msix
  split <;> exact .of_eq rfl rfl rfl

theorem keepsWork_sigVectors (sig : Nat) : s.KeepsWork (s.sigVectors sig) :=
  keepsWork_foldl (fun t _ => .ite (keepsWork_msix t _) (.refl t)) _ s

theorem keepsWork_raiseSig (sig inc : Nat) : s.KeepsWork (s.raiseSig sig inc) := by
  unfold State.raiseSig
  extract_lets c t u _ v
  have ht : s.KeepsWork t := (State.KeepsWork.refl s).setReg (not_inTileRegs_row (by decide) _) _
  have hu : s.KeepsWork u := ht.setBit (by decide) _ _
  have hv : s.KeepsWork v := ht.ite (hu.ite (hu.trans (.of_eq rfl rfl rfl)))
  exact (hv.trans (keepsWork_serve v sig)).trans (keepsWork_sigVectors _ sig)

/-! ### References of a command (R291, R292) -/

theorem keepsWork_addRef (k : Nat) : s.KeepsWork (s.addRef k) := .of_eq rfl rfl rfl

theorem keepsWork_addRefs (hs : List Nat) : s.KeepsWork (s.addRefs hs) := keepsWork_foldl keepsWork_addRef hs s

theorem keepsWork_dropRef (k : Nat) : s.KeepsWork (s.dropRef k) := by
  unfold State.dropRef
  split
  · exact .refl s
  · split <;> exact .of_eq rfl rfl rfl

theorem keepsWork_dropRefs (hs : List Nat) : s.KeepsWork (s.dropRefs hs) := keepsWork_foldl keepsWork_dropRef hs s

/-! ### The decode that an ATTEND of TAC ends (R313, R315, R340, R369, R370) -/

theorem keepsWork_store (a : Nat) (bs : List Byte) : s.KeepsWork (s.store a bs) := .of_eq rfl rfl rfl

theorem keepsWork_poke (a n v : Nat) : s.KeepsWork (s.poke a n v) := keepsWork_store s _ _

theorem keepsWork_setTrk (n : Nat) (b : List Byte) : s.KeepsWork (s.setTrk n b) := keepsWork_store s _ _

theorem keepsWork_recount (n : Nat) : s.KeepsWork (s.recount n) :=
  ((keepsWork_poke s _ _ _).trans (keepsWork_poke _ _ _ _)).trans (keepsWork_poke _ _ _ _)

theorem keepsWork_entriesValid (n : Nat) : s.KeepsWork (s.entriesValid n) := by
  unfold State.entriesValid
  split
  · exact .refl s
  · extract_lets t
    have ht : s.KeepsWork t := keepsWork_foldl (fun u _ => keepsWork_poke u _ _ _) _ s
    refine .trans (ht.trans ?_) (keepsWork_recount _ n)
    exact .of_eq rfl rfl rfl

theorem keepsWork_entriesHole (n : Nat) : s.KeepsWork (s.entriesHole n) := by
  unfold State.entriesHole
  split
  · exact .refl s
  · refine (keepsWork_foldl (fun t a => ?_) _ s).trans (.of_eq rfl rfl rfl)
    exact (keepsWork_poke t _ _ _).countSat (o := Reg.TAC_HOLE_CNT) (by decide) _ _ _

theorem keepsWork_decodeMissed (n : Nat) : s.KeepsWork (s.decodeMissed n) := by
  unfold State.decodeMissed
  extract_lets m t
  have ht : s.KeepsWork t := (keepsWork_setTrk s n _).countSat (o := Reg.FLD_DEC_MISS_CNT) (by decide) _ _ _
  refine .ite (.refl s) (.ite (.countSat (ht.trans ?_) (o := Reg.SAF_DOUBT_CNT) (by decide) _ _ _) ht)
  exact .of_eq rfl rfl rfl

theorem keepsWork_decodeDone (n : Nat) (row : List Byte) : s.KeepsWork (s.decodeDone n row) := by
  unfold State.decodeDone
  exact .ite (.refl s) (keepsWork_setTrk s n _)

theorem keepsWork_decodeLost (n : Nat) : s.KeepsWork (s.decodeLost n) := by
  unfold State.decodeLost
  refine .trans (.trans ?_ (keepsWork_entriesHole _ n)) (keepsWork_decodeMissed _ n)
  exact .of_eq rfl rfl rfl

theorem keepsWork_attendEnd (n : Nat) (c : TileCmd) (code : Nat) : s.KeepsWork (s.attendEnd n c code) := by
  unfold State.attendEnd
  refine .ite (.refl s) ?_
  split
  · exact .refl s
  · extract_lets dc row _ t u
    have ht : s.KeepsWork t := .of_eq rfl rfl rfl
    have hu : s.KeepsWork u := ht.ite (ht.trans (keepsWork_entriesValid t _))
    exact .ite (keepsWork_decodeLost s _) (.ite (hu.trans (keepsWork_decodeDone u _ _)) (.refl s))

/-! ### A command completes (R219) -/

/-- What TCA_Tn_DONE shows of a command and the code it completed with (Table 5.11). -/
def doneWord (c : List Byte) (code : Nat) : W32 := BitVec.ofNat 32 (code + 256 * tcOp c + 65536 * (tcStep c % 65536))

/-- A completion writes TCA_Tn_DONE; past that, it keeps the tiles' work. -/
theorem keepsWork_cmdComplete (n : Nat) (c : TileCmd) (code : Nat) :
    (s.setReg (Reg.TCA_T_DONE n) (doneWord c.desc code)).KeepsWork (s.cmdComplete n c code) := by
  refine .trans ?_ (keepsWork_attendEnd _ n c code)
  unfold State.cmdEnd
  extract_lets d t u
  have hu : t.KeepsWork u := (keepsWork_dropRefs t _).trans (.of_eq rfl rfl rfl)
  exact hu.ite (hu.trans (keepsWork_raiseSig u _ _))

theorem keepsTiles_cmdComplete (n : Nat) (c : TileCmd) (code : Nat) : s.KeepsTiles (s.cmdComplete n c code) :=
  State.KeepsTiles.trans (.of_tiles rfl) (keepsWork_cmdComplete s n c code).tiles

theorem now_cmdComplete (n : Nat) (c : TileCmd) (code : Nat) : (s.cmdComplete n c code).now = s.now := (keepsWork_cmdComplete s n c code).now

theorem done_cmdComplete {n : Nat} (hn : n < 34) (c : TileCmd) (code : Nat) :
    (s.cmdComplete n c code).reg (Reg.TCA_T_DONE n) = doneWord c.desc code :=
  ((keepsWork_cmdComplete s n c code).regs _ (inTileRegs_done hn)).trans (reg_setReg_same s _ _)

theorem hb_cmdComplete {m : Nat} (hm : m < 34) (n : Nat) (c : TileCmd) (code : Nat) :
    (s.cmdComplete n c code).reg (Reg.TCA_T_HB m) = s.reg (Reg.TCA_T_HB m) :=
  ((keepsWork_cmdComplete s n c code).regs _ (inTileRegs_hb hm)).trans (reg_setReg_ne s _ (hb_ne_done m n))

end

end Sys2Proof.Machine
end

section
/-! PROOFS. Commands to the tiles, injections and the request of an offline BIST (R216, R217, R227, R239, R243). -/

namespace Sys2Proof.Machine

theorem exec_tileCommandEnqueue (n : Fin 34) (q : TileQueue) (id : BitVec 10) (c : List Byte) (s : State) :
    exec (.tileCommandEnqueue n q id c) s = execTileCommandEnqueue n q id c s := rfl
theorem exec_tileDoorbell (n : Fin 34) (s : State) :
    exec (.tileDoorbell n) s = .next (s.hostCmd (Reg.TCA_T_DOORBELL n) (fun s => s.doDoorbell n idHost)) := rfl
theorem exec_tileInject (n : Fin 34) (w : W32) (s : State) :
    exec (.tileInject n w) s = .next (s.hostAccess .write (Reg.TCA_T_INJECT n) (fun s => s.doTileInject n w)) := rfl
theorem exec_offlineBistRequest (n : BitVec 6) (s : State) :
    exec (.offlineBistRequest n) s = .next (s.hostCmd Reg.TCA_BIST_REQ (fun s => s.doBistReq n.toNat)) := rfl

section
variable {s : State} {n id : Nat} {q : TileQueue} {c : List Byte}

/-- A tile that takes a command is ACTIVE or in TESTING (Table 5.8). -/
theorem st_of_tileStateCode {x : Tile} (h : tileStateCode x q c = DONE) : x.st = .active ∨ x.st = .testing := by
  cases hst : x.st with
  | active => exact .inl rfl
  | testing => exact .inr rfl
  | off | spare | waking | dead => simp [tileStateCode, hst] at h

/-- A command in form at a tile with room joins the end of its queue (R217). -/
theorem tileEnqueue_takes (hst : tileStateCode (s.tile n) q c = DONE) (hok : s.tileCmdOk q id c = true) :
    (s.tileEnqueue n q id c).1 = DONE ∧
      ((s.tileEnqueue n q id c).2.tile n).queue q = (s.tile n).queue q ++ [{ id := id, desc := c, ord := (s.tile n).nextOrd }] := by
  unfold State.tileEnqueue
  extract_lets x code l x'
  have hcode : code = DONE := by simp [code, x, hst, hok, topCode]
  have hkept := ((keepsWork_addRefs (s.setTile n x') (tcHandles c)).trans (keepsWork_armTile _ n)).tiles n
  simp only [hcode, beq_self_eq_true, if_true, true_and]
  rw [hkept.queue, tile_setTile]
  cases q with
  | stage => rfl
  | background => rfl

/-- The doorbell puts the staged command on the background queue (R243). -/
theorem doDoorbell_takes (hadm : s.tileAdmits id n = true)
    (hst : tileStateCode (s.tile n) .background (s.regBytes (Reg.TCA_T_CMD n 0) 16) = DONE)
    (hok : s.tileCmdOk .background id (s.regBytes (Reg.TCA_T_CMD n 0) 16) = true) :
    ((s.doDoorbell n id).tile n).bgQ =
        (s.tile n).bgQ ++ [{ id := id, desc := s.regBytes (Reg.TCA_T_CMD n 0) 16, ord := (s.tile n).nextOrd }] ∧
      (s.doDoorbell n id).fld' (Reg.TCA_T_CMD_ST n) 0 8 = DONE := by
  obtain ⟨hcode, hqueue⟩ := tileEnqueue_takes hst hok
  have hstate : ((s.tile n).st != .active && (s.tile n).st != .testing) = false := by
    rcases st_of_tileStateCode hst with h | h <;> simp [h]
  have hdo : s.doDoorbell n id = (s.tileEnqueue n .background id (s.regBytes (Reg.TCA_T_CMD n 0) 16)).2.status (Reg.TCA_T_CMD_ST n) DONE := by
    rw [State.doDoorbell, if_neg (by simp [hadm]), if_neg (by simp [hstate])]
    exact congrArg (State.status _ (Reg.TCA_T_CMD_ST n)) hcode
  rw [hdo]
  exact ⟨hqueue, fld_status _ _ _ (by decide)⟩

/-- An offline BIST of a DEAD tile in Standby begins (R239, R243). -/
theorem doBistReq_begins (hidle : s.bit Reg.TCA_BIST_ST 16 = false) (hpwr : s.pwr = 2) (htrans : s.inTransition = false) (hn : n < 34)
    (hdead : (s.tile n).st = .dead) :
    (s.doBistReq n).tca.bist = some n ∧ (s.doBistReq n).bit Reg.TCA_BIST_ST 16 = true ∧ (s.doBistReq n).fld' Reg.TCA_BIST_ST 8 6 = n ∧
      s.SameRegsBut (s.doBistReq n) [Reg.TCA_BIST_ST] := by
  have hgo : ¬ (s.pwr != 2 || s.inTransition || decide (34 ≤ n) || (s.tile n).st != .dead) = true := by simp [hpwr, htrans, hdead, hn]
  rw [State.doBistReq, State.unlessBusy, if_neg (by simp [hidle]), if_neg hgo]
  refine ⟨rfl, ?_, ?_, ?_⟩
  · rw [bit_setBit_other _ _ _ (by decide) (by decide), bit_setBit_same _ _ _ _ (by decide)]
  · unfold State.setBit
    rw [fld_setFld_disjoint _ _ _ _ _ _ _ (by decide) (by decide), fld_setFld_disjoint _ _ _ _ _ _ _ (by decide) (by decide),
      fld_setFld_same _ _ _ _ _ (by decide)]
    exact Nat.mod_eq_of_lt (by omega)
  · have hown : Reg.TCA_BIST_ST ∈ [Reg.TCA_BIST_ST] := List.mem_singleton_self _
    exact ((State.sameRegsBut_of_regs _ rfl).trans (sameRegsBut_setReg _ _ hown)).trans
      ((sameRegsBut_setReg _ _ hown).trans (sameRegsBut_setReg _ _ hown))

end

/-- Settles O15: a command is followed to the end of its queue, an injection and an offline BIST to what the tile array keeps of them. -/
theorem tileRequestsAreTaken : Obligations.TileRequestsAreTaken := by
  refine ⟨fun n q id c s hadm hst hok => ?_, fun n s hopen hadm hst hok => ?_, fun n w s hopen hfeat hw => ?_,
    fun n s hopen hidle hpwr htrans hn hdead => ?_⟩
  · obtain ⟨hcode, hqueue⟩ := tileEnqueue_takes hst hok
    refine ⟨_, exec_tileCommandEnqueue n q id c s, ?_⟩
    simpa [hadm, hcode] using hqueue
  · rw [exec_tileDoorbell, hostCmd_open hopen]
    exact ⟨_, rfl, doDoorbell_takes hadm hst hok⟩
  · rw [exec_tileInject, hostAccess_open hopen, State.doTileInject, if_pos (by simp [hfeat, hw])]
  · rw [exec_offlineBistRequest, hostCmd_open hopen]
    exact ⟨_, rfl, doBistReq_begins hidle hpwr htrans hn hdead⟩

end Sys2Proof.Machine
end

section
/-! PROOFS. Completion, deadlines and death of a tile (R218, R219, R225, R229 to R231, R235 to R238). -/

namespace Sys2Proof.Machine

theorem exec_tileCommandComplete (n : Fin 34) (s : State) : exec (.tileCommandComplete n) s = .next (s.tileComplete n) := rfl
theorem exec_tileDeadline (n : Fin 34) (s : State) : exec (.tileDeadline n) s = .next (s.tileDeadline n) := rfl
theorem exec_tileHeartbeatMiss (n : Fin 34) (s : State) : exec (.tileHeartbeatMiss n) s = .next (s.heartbeatMiss n) := rfl

/-! ### The end of a running command (R218, R219) -/

section
variable {s : State} {n : Nat} {r : TileRun}

/-- The running command completes: the tile runs none, and device time stands. -/
theorem tileFinish_spec (hrun : (s.tile n).run = some r) (code : Nat) :
    ((s.tileFinish n code).tile n).run = none ∧ (s.tileFinish n code).now = s.now ∧
      (n < 34 → (s.tileFinish n code).reg (Reg.TCA_T_DONE n) = doneWord r.cmd.desc code) := by
  unfold State.tileFinish
  rw [hrun]
  dsimp only
  generalize ht : s.setTile n { s.tile n with run := none } = t
  have harm := keepsWork_armTile (t.cmdComplete n r.cmd code) n
  have hnone : (t.tile n).run = none := by rw [← ht, tile_setTile]
  have hnow : t.now = s.now := by rw [← ht]; rfl
  refine ⟨?_, ?_, fun hn => ?_⟩
  · rw [(harm.tiles n).run, (keepsTiles_cmdComplete t n r.cmd code n).run, hnone]
  · exact harm.now.trans ((now_cmdComplete t n r.cmd code).trans hnow)
  · rw [harm.regs _ (inTileRegs_done hn), done_cmdComplete t hn]

/-- The status code in TCA_Tn_DONE. -/
theorem doneWord_code {c : List Byte} {code : Nat} (h : code < 256) : (doneWord c code).toNat % 256 = code := by
  unfold doneWord
  rw [BitVec.toNat_ofNat]
  omega

end

/-! ### Deadlines (R218) -/

section
variable {s : State} {n : Nat} {c : TileCmd}

/-- What a tile has due is its running command, or a command in one of its queues. -/
theorem tileDue_mem {w : Option TileQueue} (h : s.tileDue n = some (w, c)) :
    (w, c) ∈ ((s.tile n).run.map (fun r => ((none : Option TileQueue), r.cmd))).toList ++ (s.tile n).stageQ.map (fun c => (some .stage, c)) ++
      (s.tile n).bgQ.map (fun c => (some .background, c)) := by
  unfold State.tileDue at h
  extract_lets x l at h
  refine List.mem_of_mem_filter (?_ : (w, c) ∈ l)
  refine List.foldlRecOn (motive := fun b => ∀ p, b = some p → p ∈ l) l _ (by simp) (fun b hb p hp => ?_) _ h
  cases b with
  | none => rintro _ ⟨⟩; exact hp
  | some q =>
    dsimp only
    split
    · rintro _ ⟨⟩; exact hp
    · exact hb

/-- A due that no queue holds is the running command's. -/
theorem run_of_tileDue (h : s.tileDue n = some (none, c)) : ∃ r, (s.tile n).run = some r ∧ r.cmd = c := by
  simpa using tileDue_mem h

/-- A command at its deadline completes with DEADLINE_ABANDONED (R218). -/
theorem tileDeadline_spec (hn : n < 34) {w : Option TileQueue} (h : s.tileDue n = some (w, c)) :
    (s.tileDeadline n).now = max s.now (tcDeadline c.desc * nsT) ∧
      (s.tileDeadline n).reg (Reg.TCA_T_DONE n) = doneWord c.desc DEADLINE_ABANDONED := by
  unfold State.tileDeadline
  rw [h]
  cases w with
  | none =>
    obtain ⟨r, hrun, rfl⟩ := run_of_tileDue h
    obtain ⟨-, hnow, hdone⟩ := tileFinish_spec (s := s.reach (tcDeadline r.cmd.desc * nsT)) hrun DEADLINE_ABANDONED
    exact ⟨hnow, hdone hn⟩
  | some q =>
    dsimp -zeta only
    extract_lets s' x front t
    have hnow : t.now = max s.now (tcDeadline c.desc * nsT) := by
      unfold t
      split <;> rfl
    have harm := keepsWork_armTile (t.cmdComplete n c DEADLINE_ABANDONED) n
    exact ⟨harm.now.trans ((now_cmdComplete t n c _).trans hnow), (harm.regs _ (inTileRegs_done hn)).trans (done_cmdComplete t hn c _)⟩

end

/-! ### Death (R225, R230, R231, R235 to R238) -/

/-- What a death leaves of a tile once it is dead: its work, and its heartbeat register. -/
structure State.KeepsTile (n : Nat) (s t : State) : Prop where
  tile : (s.tile n).SameWork (t.tile n)
  hb : t.reg (Reg.TCA_T_HB n) = s.reg (Reg.TCA_T_HB n)

theorem State.KeepsTile.refl (n : Nat) (s : State) : s.KeepsTile n s := ⟨.refl _, rfl⟩

theorem State.KeepsTile.trans {n : Nat} {s t u : State} (h : State.KeepsTile n s t) (h' : State.KeepsTile n t u) : State.KeepsTile n s u :=
  ⟨h.tile.trans h'.tile, h'.hb.trans h.hb⟩

theorem State.KeepsWork.keepsTile {s t : State} (h : s.KeepsWork t) {n : Nat} (hn : n < 34) : State.KeepsTile n s t :=
  ⟨h.tiles n, h.regs _ (inTileRegs_hb hn)⟩

section
variable (s : State)

theorem keepsWork_event (source sev code status : Nat) (data : List Byte) : s.KeepsWork (s.event source sev code status data) :=
  .of_eq rfl rfl rfl

theorem keepsWork_setPower {m : Nat} (hm : m < 34) (on : Bool) : s.KeepsWork (s.setPower m on) :=
  (State.KeepsWork.refl s).setBit (o := Reg.AON_DOM (m / 32)) (by unfold Reg.AON_DOM; omega) _ _

theorem keepsWork_setRevoked (id : Nat) (v : Bool) : s.KeepsWork (s.setRevoked id v) :=
  (State.KeepsWork.refl s).setBit (o := Reg.SAF_REVOKE (id / 32)) (not_inTileRegs_row (by decide) _) _ _

theorem keepsWork_setDeadBit (n : Nat) (v : Bool) : s.KeepsWork (s.setDeadBit n v) := by
  unfold State.setDeadBit
  exact .ite ((State.KeepsWork.refl s).setBit (by decide) _ _) ((State.KeepsWork.refl s).setBit (by decide) _ _)

theorem keepsWork_raiseSwap (k : Nat) : s.KeepsWork (s.raiseSwap k) := by
  unfold State.raiseSwap State.setCond
  extract_lets short _ _ t
  have ht : s.KeepsWork t := by
    refine .setBit ?_ (by decide) _ _
    exact .of_eq rfl rfl rfl
  exact .ite (ht.setBit (by decide) _ _) ht

theorem keepsWork_noSpareLeft : s.KeepsWork s.noSpareLeft := by
  unfold State.noSpareLeft
  refine .trans (.setBit ?_ (o := Reg.TCA_SWAP_ST) (by decide) 17 true) (keepsWork_event _ _ _ _ _ _)
  exact .of_eq rfl rfl rfl

/-- A swap takes a tile in SPARE for its spare. -/
theorem spareTile_spec {sp : Nat} (h : s.spareTile = some sp) : sp < 34 ∧ (s.tile sp).st = .spare :=
  ⟨List.mem_range.1 (List.mem_of_find?_eq_some h), by simpa using List.find?_some h⟩

/-- The start of a swap changes no tile's work but that of its spare, which begins to wake (R235). -/
theorem startSwap_cases (dead : Nat) : s.KeepsWork (s.startSwap dead) ∨
    ∃ sp, (s.tile sp).st = .spare ∧ (s.setTile sp { s.tile sp with st := .waking }).KeepsWork (s.startSwap dead) := by
  unfold State.startSwap
  split
  · exact .inl (.refl s)
  · split
    · exact .inl (keepsWork_noSpareLeft s)
    · rename_i sp hsp
      obtain ⟨hlt, hspare⟩ := spareTile_spec s hsp
      extract_lets _ t _ u
      have ht : (s.setTile sp { s.tile sp with st := .waking }).KeepsWork t := keepsWork_setPower _ hlt true
      have hu : (s.setTile sp { s.tile sp with st := .waking }).KeepsWork u := ht.trans (.of_eq rfl rfl rfl)
      exact .inr ⟨sp, hspare, ((hu.setFld (by decide) _ _ _).setFld (by decide) _ _ _).setBit (by decide) _ _⟩

end

section
variable {s : State} {n : Nat} (hn : n < 34)
include hn

/-- The start of a swap leaves a dead tile as it is. -/
theorem keepsTile_startSwap (hdead : (s.tile n).st = .dead) (dead : Nat) : State.KeepsTile n s (s.startSwap dead) := by
  rcases startSwap_cases s dead with h | ⟨sp, hspare, h⟩
  · exact h.keepsTile hn
  · have hne : n ≠ sp := by
      rintro rfl
      simp [hdead] at hspare
    obtain ⟨htile, hhb⟩ := h.keepsTile hn
    rw [tile_setTile_ne s _ hne] at htile
    exact ⟨htile, hhb⟩

theorem keepsTile_nextSwap (hdead : (s.tile n).st = .dead) : State.KeepsTile n s s.nextSwap := by
  unfold State.nextSwap
  split
  · refine .trans ?_ (keepsTile_startSwap hn ?_ _)
    · exact ⟨.refl _, rfl⟩
    · exact hdead
  · exact .refl n s

/-- A tile dies: it is DEAD, its commands are gone, and its heartbeat register stands (R230, R231). -/
theorem tileDeath_spec (hlive : (s.tile n).st ≠ .dead) (cause : Nat) :
    ((s.tileDeath n cause).tile n).st = .dead ∧ ((s.tileDeath n cause).tile n).run = none ∧
      (s.tileDeath n cause).reg (Reg.TCA_T_HB n) = s.reg (Reg.TCA_T_HB n) := by
  unfold State.tileDeath
  extract_lets e x cmds a b u v _ w
  have he : s.KeepsWork e := keepsWork_event s _ _ _ _ _
  have ha : s.KeepsWork a :=
    ((he.trans (keepsWork_setRevoked e n true)).trans (keepsWork_setDeadBit _ n true)).trans (keepsWork_setPower _ hn false)
  have hb : s.KeepsWork b := ha.trans (.of_eq rfl rfl rfl)
  have hu : u.tile n = { x with st := .dead, stageQ := [], bgQ := [], run := none, stageGo := false, bgGo := false, inj := none, window := false } :=
    tile_setTile b n _
  have huv : State.KeepsTile n u v :=
    List.foldlRecOn (motive := State.KeepsTile n u) cmds _ (.refl n u)
      (fun t ht c _ => ht.trans ⟨keepsTiles_cmdComplete t n c _ n, hb_cmdComplete t hn n c _⟩)
  have hw : State.KeepsTile n u w := by
    refine huv.trans (?_ : State.KeepsTile n v w)
    unfold w
    split
    · split
      · exact ⟨.refl _, rfl⟩
      · exact .refl n v
    · exact .refl n v
  have hdead : (w.tile n).st = .dead := hw.tile.st.trans (congrArg Tile.st hu)
  suffices h : ∀ t, State.KeepsTile n w t → (t.tile n).st = .dead ∧ (t.tile n).run = none ∧ t.reg (Reg.TCA_T_HB n) = s.reg (Reg.TCA_T_HB n) by
    have hx : x.st ≠ .dead := hlive
    rw [if_neg (by simpa using hx)]
    refine h _ ?_
    split
    · exact .refl n w
    · rename_i k _
      have hraise := (keepsWork_raiseSwap w k).keepsTile hn
      refine .trans (hraise.trans ?_) (keepsTile_nextSwap hn ?_)
      · exact ⟨.refl _, rfl⟩
      · exact hraise.tile.st.trans hdead
  intro t ht
  refine ⟨ht.tile.st.trans hdead, ?_, ?_⟩
  · rw [ht.tile.run, hw.tile.run, hu]
  · exact (ht.hb.trans hw.hb).trans (hb.regs _ (inTileRegs_hb hn))

/-! ### Heartbeats (R229, R230) -/

/-- A missed heartbeat is counted, and the third in a row is the tile's death. -/
theorem heartbeatMiss_spec (hst : (s.tile n).st = .active) (hmissed : (s.tile n).missed = false) (hrun : s.csq.running = true) :
    (s.heartbeatMiss n).fld' (Reg.TCA_T_HB n) 16 16 = satAdd 16 (s.fld' (Reg.TCA_T_HB n) 16 16) 1 ∧
      (s.fld' (Reg.TCA_T_HB n) 0 2 < 2 → ((s.heartbeatMiss n).tile n).st = .active ∧
        (s.heartbeatMiss n).fld' (Reg.TCA_T_HB n) 0 2 = s.fld' (Reg.TCA_T_HB n) 0 2 + 1) ∧
      (2 ≤ s.fld' (Reg.TCA_T_HB n) 0 2 → ((s.heartbeatMiss n).tile n).st = .dead) := by
  unfold State.heartbeatMiss
  extract_lets x t k u
  have htile : (u.tile n).st = .active := (congrArg Tile.st (tile_setTile s n { x with missed := true })).trans hst
  have hk : k = s.fld' (Reg.TCA_T_HB n) 0 2 + 1 := congrArg (· + 1) (fld_setFld_disjoint _ _ _ _ _ _ _ (by decide) (by decide))
  have hcount : u.fld' (Reg.TCA_T_HB n) 16 16 = satAdd 16 (s.fld' (Reg.TCA_T_HB n) 16 16) 1 :=
    (fld_setFld_disjoint t _ _ _ _ _ _ (by decide) (by decide)).trans (fld_countSat (s.setTile n { x with missed := true }) 1 (by decide))
  obtain ⟨hdead, -, hhb⟩ := tileDeath_spec hn (s := u) (by simp [htile]) 1
  rw [if_neg (by simp [x, hst, hmissed, hrun])]
  split
  · refine ⟨?_, fun h => by omega, fun _ => hdead⟩
    rw [State.fld', hhb]
    exact hcount
  · refine ⟨hcount, fun _ => ⟨htile, ?_⟩, fun h => by omega⟩
    rw [← hk]
    exact (fld_setFld_same _ _ _ _ _ (by decide)).trans (by omega)

end

/-- Settles O17: completion and deadline write TCA_Tn_DONE and leave the rest of the tile, and a missed heartbeat is counted before the tile
dies of the third. -/
theorem tileCommandsCompleteOrDie : Obligations.TileCommandsCompleteOrDie := by
  refine ⟨fun n r s hrun hfin => ⟨_, exec_tileCommandComplete n s, ?_⟩, fun n w c s hdue => ⟨_, exec_tileDeadline n s, ?_⟩,
    fun n s hst hmissed hrun => ⟨_, exec_tileHeartbeatMiss n s, heartbeatMiss_spec n.isLt hst hmissed hrun⟩⟩
  · obtain ⟨hnone, -, hdone⟩ := tileFinish_spec hrun (topCode ((if s.pastDeadline r.cmd.desc then [DEADLINE_ABANDONED] else []) ++ r.codes))
    rw [State.tileComplete, hrun]
    dsimp only
    rw [if_pos hfin]
    exact ⟨hnone, hdone n.isLt⟩
  · obtain ⟨hnow, hdone⟩ := tileDeadline_spec n.isLt hdue
    refine ⟨hnow, ?_⟩
    rw [State.regN, hdone]
    exact doneWord_code (by decide)

end Sys2Proof.Machine
end

section
/-! PROOFS. Spares: the swap of a dead tile, and an offline BIST that returns one (R235 to R240, R577). -/

namespace Sys2Proof.Machine

theorem exec_spareWakeDone (s : State) : exec .spareWakeDone s = .next s.spareWake := rfl
theorem exec_spareBistDone (passed : Bool) (s : State) : exec (.spareBistDone passed) s = .next (s.spareBist passed) := rfl
theorem exec_spareLoadDone (s : State) : exec .spareLoadDone s = .next s.spareLoad := rfl
theorem exec_offlineBistDone (passed : Bool) (s : State) : exec (.offlineBistDone passed) s = .next (s.bistDone passed) := rfl

theorem tca_foldl_store {α : Type} (s : State) (a : α → Nat) (bs : α → List Byte) (l : List α) :
    (l.foldl (fun s x => s.store (a x) (bs x)) s).tca = s.tca :=
  List.foldlRecOn (motive := fun (t : State) => t.tca = s.tca) l _ rfl (fun _ ht _ _ => ht)

section
variable {s : State} {w : Swap} (hswap : s.tca.swap = some w)
include hswap

/-- The spare that has woken is in TESTING (Table 5.9). -/
theorem spareWake_spec (hphase : w.phase = 0) :
    (s.spareWake.tile w.spare).st = .testing ∧ s.spareWake.tca.swap = some { w with phase := 1 } ∧ s.SameRegsBut s.spareWake [] := by
  simp only [State.spareWake, hswap, hphase, beq_self_eq_true, if_true]
  exact ⟨congrArg Tile.st (tile_setTile _ _ _), rfl, State.sameRegsBut_of_regs [] rfl⟩

/-- The passed BIST of the spare grants it the dead tile's rules (R14, R237). -/
theorem spareBist_passed (hphase : w.phase = 1) :
    (s.spareBist true).tca.swap = some { w with phase := 2 } ∧ s.SameRegsBut (s.spareBist true) [] ∧
      ∀ r ∈ s.saf.rules, r.idLo ≤ w.dead → w.dead ≤ r.idHi → { r with idLo := w.spare, idHi := w.spare } ∈ (s.spareBist true).saf.rules := by
  have hbist : s.spareBist true = { s with tca := { s.tca with swap := some { w with phase := 2 } } }.grantRules w.dead w.spare := by
    simp [State.spareBist, hswap, hphase]
  rw [hbist]
  refine ⟨rfl, State.sameRegsBut_of_regs [] rfl, fun r hr hlo hhi => List.mem_append_right _ (List.mem_map.2 ⟨r, ?_, rfl⟩)⟩
  exact List.mem_filter.2 ⟨hr, by simp [hlo, hhi]⟩

/-- The loaded spare is ACTIVE in the dead tile's place (R235, R236). -/
theorem spareLoad_spec (hphase : w.phase = 2) (hne : w.spare ≠ w.dead) :
    (s.spareLoad.tile w.spare).st = .active ∧ (s.spareLoad.tile w.spare).serves = (s.tile w.dead).serves ∧
      (s.spareLoad.tile w.dead).serves = none ∧ s.spareLoad.tca.swap = some { w with phase := 3 } := by
  unfold State.spareLoad
  rw [hswap]
  dsimp -zeta only
  rw [if_neg (by simp [hphase])]
  extract_lets p t _ u _ v
  have hspare : v.tile w.spare = { t.tile w.spare with st := .active, serves := (t.tile w.dead).serves } :=
    (tile_setTile_ne u _ hne).trans (tile_setTile t _ _)
  have hdead : (v.tile w.dead).serves = none := congrArg Tile.serves (tile_setTile u w.dead _)
  have hserves : (t.tile w.dead).serves = (s.tile w.dead).serves := congrArg Tile.serves (tile_congr (congrArg Tca.tiles (tca_foldl_store s _ _ _)) _)
  exact ⟨congrArg Tile.st hspare, (congrArg Tile.serves hspare).trans hserves, hdead, rfl⟩

end

/-! ### An offline BIST that passes (R240, R577) -/

section
variable {s : State} {n : Nat}

theorem revoked_setRevoked_same (s : State) (id : Nat) (v : Bool) : (s.setRevoked id v).revoked id = v :=
  bit_setBit_same _ _ _ _ (Nat.mod_lt _ (by decide))

/-- A register beside the dead map stands. -/
theorem reg_setDeadBit_ne (s : State) (n : Nat) (v : Bool) {o : Nat} (h0 : o ≠ Reg.TCA_DEAD_MAP0) (h1 : o ≠ Reg.TCA_DEAD_MAP1) :
    (s.setDeadBit n v).reg o = s.reg o := by
  unfold State.setDeadBit
  split
  · exact reg_setBit_ne s _ _ h0
  · exact reg_setBit_ne s _ _ h1

theorem deadBit_setDeadBit_same (s : State) (hn : n < 34) (v : Bool) : (s.setDeadBit n v).deadBit n = v := by
  unfold State.setDeadBit State.deadBit
  split
  · exact bit_setBit_same _ _ _ _ (by omega)
  · exact bit_setBit_same _ _ _ _ (by omega)

theorem regs_msix (s : State) (v : Nat) : (s.msix v).regs = s.regs := by
  unfold State.msix
  split <;> rfl

theorem msix_tca (s : State) (v : Nat) : (s.msix v).tca = s.tca := by
  unfold State.msix
  split <;> rfl

theorem setDeadBit_tca (s : State) (n : Nat) (v : Bool) : (s.setDeadBit n v).tca = s.tca := by
  unfold State.setDeadBit
  split <;> rfl

/-- The message of an offline BIST and the return of the tile to the network: its ID and its dead mark are cleared; the array and TCA_BIST_ST
stand. -/
theorem returned_spec (s : State) (hn : n < 34) :
    (((s.msix 2).setRevoked n false).setDeadBit n false).tca = s.tca ∧
      (((s.msix 2).setRevoked n false).setDeadBit n false).reg Reg.TCA_BIST_ST = s.reg Reg.TCA_BIST_ST ∧
      (((s.msix 2).setRevoked n false).setDeadBit n false).revoked n = false ∧
      (((s.msix 2).setRevoked n false).setDeadBit n false).deadBit n = false := by
  have hne : ∀ k o, o < 0xE00100 → Reg.SAF_REVOKE k ≠ o := fun k o ho => by
    unfold Reg.SAF_REVOKE
    omega
  refine ⟨(setDeadBit_tca _ n false).trans (msix_tca s 2), ?_, ?_, deadBit_setDeadBit_same _ hn false⟩
  · rw [reg_setDeadBit_ne _ n false (by decide) (by decide), State.setRevoked, reg_setBit_ne _ _ _ (hne _ _ (by decide)).symm]
    exact reg_congr (regs_msix s 2) _
  · refine Eq.trans ?_ (revoked_setRevoked_same (s.msix 2) n false)
    unfold State.revoked State.bit State.fld'
    rw [reg_setDeadBit_ne _ n false (hne _ _ (by decide)) (hne _ _ (by decide))]

/-- A tile that passes its offline BIST is SPARE, its ID restored and its dead mark gone. -/
theorem bistDone_passed (hbist : s.tca.bist = some n) (hn : n < 34) :
    ((s.bistDone true).tile n).st = .spare ∧ (s.bistDone true).revoked n = false ∧ (s.bistDone true).deadBit n = false ∧
      (s.bistDone true).tca.bist = none ∧ (s.bistDone true).fld' Reg.TCA_BIST_ST 0 8 = DONE ∧
      (s.bistDone true).bit Reg.TCA_BIST_ST 16 = false ∧ (s.bistDone true).bit Reg.TCA_BIST_ST 17 = true := by
  unfold State.bistDone
  rw [hbist]
  dsimp -zeta only
  rw [if_pos rfl]
  extract_lets _ t _ u
  obtain ⟨htca, hreg, hrevoked, hdead⟩ := returned_spec ((({ s with tca := { s.tca with bist := none } }.status Reg.TCA_BIST_ST DONE).setBit
    Reg.TCA_BIST_ST 16 false).setBit Reg.TCA_BIST_ST 17 true) hn
  refine ⟨congrArg Tile.st (tile_setTile u n _), hrevoked, hdead, congrArg Tca.bist htca, ?_, ?_, ?_⟩
  · refine (congrArg (fieldOf · 0 8) hreg).trans ?_
    exact (fld_setFld_disjoint _ _ _ _ _ _ _ (by decide) (by decide)).trans
      ((fld_setFld_disjoint _ _ _ _ _ _ _ (by decide) (by decide)).trans (fld_status _ _ _ (by decide)))
  · refine (congrArg (fieldOf · 16 1 == 1) hreg).trans ?_
    exact (bit_setBit_other _ _ _ (by decide) (by decide)).trans (bit_setBit_same _ _ _ _ (by decide))
  · refine (congrArg (fieldOf · 17 1 == 1) hreg).trans ?_
    exact bit_setBit_same _ _ _ _ (by decide)

end

/-- Settles O18: each event of a swap is followed to the phase it reaches, and a passed offline BIST to the tile it returns. -/
theorem sparesTakeTheDeadTilesPlace : Obligations.SparesTakeTheDeadTilesPlace :=
  ⟨fun _ s hswap hphase => ⟨_, exec_spareWakeDone s, spareWake_spec hswap hphase⟩,
    fun _ s hswap hphase => ⟨_, exec_spareBistDone true s, spareBist_passed hswap hphase⟩,
    fun _ s hswap hphase hne => ⟨_, exec_spareLoadDone s, spareLoad_spec hswap hphase hne⟩,
    fun _ s hbist hn => ⟨_, exec_offlineBistDone true s, bistDone_passed hbist hn⟩⟩

end Sys2Proof.Machine
end

section
/-! PROOFS. What the work of a command leaves of the tiles (R205 to R214, R220 to R226, R335 to R338): its accesses to memory, its elements,
blocks, vectors and rows change no tile's work. -/

namespace Sys2Proof.Machine

theorem State.KeepsTiles.ite_snd {α : Type} {s : State} {p : Prop} [Decidable p] {a b : α × State} (ha : s.KeepsTiles a.2)
    (hb : s.KeepsTiles b.2) : s.KeepsTiles (if p then a else b).2 := by split <;> assumption

section
variable (s : State)

/-! ### Accesses to memory (R18, R529, R531, R542, R573) -/

theorem tca_logError (addr id kind nsym array bank dq : Nat) : (s.logError addr id kind nsym array bank dq).tca = s.tca := by
  unfold State.logError
  extract_lets head newest same e _ t u
  have hu : u.tca = s.tca := by
    unfold u
    split <;> rfl
  split
  · cases newest <;> rfl
  · exact hu

theorem tca_corrected (id array loc kindX : Nat) : (s.corrected id array loc kindX).tca = s.tca := by
  unfold State.corrected
  dsimp only
  split <;> exact tca_logError _ _ _ _ _ _ _ _

theorem tca_uncorrectable (id array loc kindX : Nat) : (s.uncorrectable id array loc kindX).tca = s.tca := by
  unfold State.uncorrectable
  extract_lets dram inj t _ _ u addr kind v w
  have hw : w.tca = s.tca := tca_logError u _ _ _ _ _ _ _
  split <;> exact hw

theorem tca_checkRead (id a n kindX : Nat) : (s.checkRead id a n kindX).2.tca = s.tca := by
  unfold State.checkRead
  split
  · rfl
  · refine List.foldlRecOn (motive := fun p : Bool × State => p.2.tca = s.tca) _ _ rfl (fun p hp xy _ => ?_)
    obtain ⟨ok, t⟩ := p
    obtain ⟨x, y⟩ := xy
    dsimp -zeta only
    extract_lets d u
    have hu : u.tca = t.tca := by
      unfold u
      split <;> rfl
    split
    · exact hp
    · split
      · exact (tca_corrected u _ _ _ _).trans (hu.trans hp)
      · exact (tca_uncorrectable u _ _ _ _).trans (hu.trans hp)

theorem tca_drawSyms (m n : Nat) : (s.drawSyms m n).2.tca = s.tca := by
  induction n with
  | zero => rfl
  | succ n ih => exact ih

theorem tca_rawStore (id a : Nat) (bs : List Byte) : (s.rawStore id a bs).2.tca = s.tca := by
  unfold State.rawStore
  extract_lets n bad t u
  have ht : t.tca = s.tca := by
    unfold t
    split
    · rfl
    · exact List.foldlRecOn (motive := fun t : State => t.tca = s.tca) _ _ rfl (fun _ ht _ _ => ht)
  split
  · exact tca_checkRead s id a n 0
  · split
    · split
      · exact (tca_drawSyms u _ _).trans ht
      · exact ht
    · exact ht

/-- The record of a refusal is no tile's work (R232). -/
theorem keepsTiles_refuseAccess (h : Option Nat) (id : Nat) (k : Kind) (a : Nat) : s.KeepsTiles (s.refuseAccess h id k a) := by
  unfold State.refuseAccess State.fencedSpeaker
  dsimp only
  split
  · rename_i t _
    refine .ite (keepsTiles_setTile (s := s) (n := t) ?_) (.of_tiles rfl)
    exact ⟨rfl, rfl, rfl, rfl⟩
  · exact .ite (.of_tiles rfl) (.of_tiles rfl)

theorem keepsTiles_busRead (id a n : Nat) : s.KeepsTiles (s.busRead id a n).2 := by
  unfold State.busRead
  split
  · exact keepsTiles_refuseAccess s _ _ _ _
  split
  · exact .refl s
  split
  · exact .refl s
  split
  · exact .of_tiles rfl
  have h : s.KeepsTiles (s.checkRead id a n 0).2 := .of_tiles (congrArg Tca.tiles (tca_checkRead s id a n 0))
  generalize s.checkRead id a n 0 = r at h ⊢
  obtain ⟨_ | _, t⟩ := r <;> exact h

theorem keepsTiles_busWrite (id a : Nat) (bs : List Byte) : s.KeepsTiles (s.busWrite id a bs).2 := by
  unfold State.busWrite
  split
  · exact keepsTiles_refuseAccess s _ _ _ _
  split
  · exact .refl s
  split
  · exact .refl s
  split
  · exact .refl s
  exact .of_tiles (congrArg Tca.tiles (tca_rawStore s id a bs))

/-! ### Elements of a tensor (R210, R256, R282) -/

theorem keepsTiles_elemAt (id : Nat) (b : List Byte) (c : Coord) : s.KeepsTiles (s.elemAt id b c).2 := by
  unfold State.elemAt
  extract_lets a w
  have h := keepsTiles_busRead s id (a / 2) (max 1 (w / 8))
  generalize s.busRead id (a / 2) (max 1 (w / 8)) = r at h ⊢
  obtain ⟨_ | _, t⟩ := r <;> exact h

theorem keepsTiles_readElem (id : Nat) (b : List Byte) (c : Coord) : s.KeepsTiles (s.readElem id b c).2 := by
  unfold State.readElem
  split
  · exact keepsTiles_elemAt s id b c
  · split
    · exact keepsTiles_elemAt s id b _
    · exact .refl s

theorem keepsTiles_readElems (id : Nat) (b : List Byte) (cs : List Coord) : s.KeepsTiles (s.readElems id b cs).2 := by
  induction cs generalizing s with
  | nil => exact .refl s
  | cons c cs ih =>
    unfold State.readElems
    have h := keepsTiles_readElem s id b c
    generalize s.readElem id b c = r at h ⊢
    obtain ⟨e | x, t⟩ := r
    · exact h
    · have hrest := h.trans (ih t)
      dsimp only
      generalize t.readElems id b cs = r at hrest ⊢
      obtain ⟨_ | _, u⟩ := r <;> exact hrest

theorem keepsTiles_readGrid (id : Nat) (b : List Byte) (g : Grid Coord) : s.KeepsTiles (s.readGrid id b g).2 := by
  induction g generalizing s with
  | nil => exact .refl s
  | cons cs g ih =>
    unfold State.readGrid
    have h := keepsTiles_readElems s id b cs
    generalize s.readElems id b cs = r at h ⊢
    obtain ⟨e | x, t⟩ := r
    · exact h
    · have hrest := h.trans (ih t)
      dsimp only
      generalize t.readGrid id b g = r at hrest ⊢
      obtain ⟨_ | _, u⟩ := r <;> exact hrest

theorem keepsTiles_readGroups (id : Nat) (b : List Byte) (gs : List (Grid Coord)) : s.KeepsTiles (s.readGroups id b gs).2 := by
  induction gs generalizing s with
  | nil => exact .refl s
  | cons g gs ih =>
    unfold State.readGroups
    have h := keepsTiles_readGrid s id b g
    generalize s.readGrid id b g = r at h ⊢
    obtain ⟨e | x, t⟩ := r
    · exact h
    · have hrest := h.trans (ih t)
      dsimp only
      generalize t.readGroups id b gs = r at hrest ⊢
      obtain ⟨_ | _, u⟩ := r <;> exact hrest

theorem keepsTiles_storeUnits (id : Nat) (us : List (Nat × List Byte)) : s.KeepsTiles (s.storeUnits id us).2 := by
  induction us generalizing s with
  | nil => exact .refl s
  | cons x us ih =>
    obtain ⟨a, bs⟩ := x
    have h := keepsTiles_busWrite s id a bs
    unfold State.storeUnits
    dsimp only
    split
    · exact h.trans (ih _)
    · exact h

theorem keepsTiles_storeElems (id : Nat) (b : List Byte) (xs : List (Coord × Nat)) : s.KeepsTiles (s.storeElems id b xs).2 :=
  keepsTiles_storeUnits s id _

/-! ### Blocks (R205 to R210, R220 to R226) -/

theorem keepsTiles_blockIn (t : Nat) (c : List Byte) (sh : Shape) (k : Block) : s.KeepsTiles (s.blockIn t c sh k).2 := by
  unfold State.blockIn
  extract_lets ms ns ls gs
  have ha := keepsTiles_readGroups s t (s.descB (tcA c)) (gs.map (fun g => ms.map (fun m => ls.map (sh.aAt g m))))
  generalize s.readGroups t _ _ = r at ha ⊢
  obtain ⟨e | a, s₁⟩ := r
  · exact ha
  have hb := ha.trans (keepsTiles_readGrid s₁ t (s₁.descB (tcB c)) (ns.map (fun n => ls.map (sh.bAt n))))
  dsimp -zeta only
  generalize s₁.readGrid t _ _ = r at hb ⊢
  obtain ⟨e | b, s₂⟩ := r
  · exact hb
  dsimp -zeta only
  extract_lets db
  have hbias := hb.trans (.ite_snd (p := tcFlag c 4 = true) (b := (.ok [], s₂))
    (keepsTiles_readElems s₂ t db (ns.map (fun n => coord2 db n 0))) (.refl s₂))
  generalize (if tcFlag c 4 = true then s₂.readElems t _ _ else _) = r at hbias ⊢
  obtain ⟨e | bias, s₃⟩ := r
  · exact hbias
  dsimp -zeta only
  have hold := hbias.trans (.ite_snd (p := tcFlag c 2 = true) (b := (.ok [], s₃))
    (keepsTiles_readGrid s₃ t (s₃.descB (tcC c)) (ms.map (fun m => ns.map (sh.cAt m)))) (.refl s₃))
  generalize (if tcFlag c 2 = true then s₃.readGrid t _ _ else _) = r at hold ⊢
  obtain ⟨e | old, s₄⟩ := r <;> exact hold

theorem keepsTiles_matBlock (t : Nat) (c : List Byte) (sh : Shape) (f : TileFault) (j : Nat) (k : Block) :
    s.KeepsTiles (s.matBlock t c sh f j k).2 := by
  unfold State.matBlock
  have h := keepsTiles_blockIn s t c sh k
  generalize s.blockIn t c sh k = r at h ⊢
  obtain ⟨e | x, u⟩ := r
  · exact h
  dsimp only
  split
  · exact h
  · exact h.trans (keepsTiles_storeElems u t _ _)

theorem keepsTiles_tileRetry (n : Nat) : s.KeepsTiles (s.tileRetry n) := by
  unfold State.tileRetry
  extract_lets t x
  refine .ite (.of_tiles rfl) (keepsTiles_setTile (s := t) (n := n) ?_)
  exact ⟨rfl, rfl, rfl, rfl⟩

theorem keepsTiles_noteFix (n : Nat) (f : Fix) : s.KeepsTiles (s.noteFix n f) := by
  cases f with
  | clean => exact .refl s
  | stays => exact .refl s
  | corrected => exact keepsTiles_tileRetry (s.countSat (Reg.TCA_T_CORR n) 0 32 1) n
  | retried => exact keepsTiles_tileRetry s n

theorem keepsTiles_countSats (n k : Nat) : s.KeepsTiles (s.countSats n k).2 := by
  unfold State.countSats
  split <;> exact .of_tiles rfl

theorem keepsTiles_noted (n : Nat) (b : BlockEnd) : s.KeepsTiles ((s.noteFix n b.fix).countSats n b.sats).2 :=
  (keepsTiles_noteFix s n b.fix).trans (keepsTiles_countSats _ n _)

/-- Blocks in order keep the tiles' work where each does. -/
theorem keepsTiles_eachBlock (n : Nat) {work : Nat → State → BlockEnd × State} (hwork : ∀ j (t : State), t.KeepsTiles (work j t).2)
    (js : List Nat) : s.KeepsTiles (State.eachBlock n work js s).2 := by
  induction js generalizing s with
  | nil => exact .refl s
  | cons j js ih =>
    unfold State.eachBlock
    have h := hwork j s
    generalize work j s = r at h ⊢
    obtain ⟨b, t⟩ := r
    have hnoted := h.trans (keepsTiles_noted t n b)
    dsimp only
    split
    · exact h
    · split
      · exact hnoted
      · exact hnoted.trans (ih _)

theorem keepsTiles_matWork (n : Nat) (c : List Byte) (sh : Shape) (f : TileFault) (lim : Option Nat) :
    s.KeepsTiles (s.matWork n c sh f lim).2 :=
  keepsTiles_eachBlock s n (fun _ t => keepsTiles_matBlock t n c sh f _ _) _

/-! ### Vectors (R211 to R214, R222) -/

theorem keepsTiles_operand (n h : Nat) : s.KeepsTiles (s.operand n h).2 := by
  unfold State.operand
  split
  · exact .refl s
  · exact keepsTiles_readElems s n _ _

theorem keepsTiles_vecBlock (n : Nat) (c : List Byte) (p : List VecOp × List VecOp) (f : TileFault) (a b : List Nat) (j : Nat) (v : VecState)
    (k : Nat) : s.KeepsTiles (s.vecBlock n c p f a b j v k).2.2 := by
  unfold State.vecBlock
  extract_lets
  split
  · exact .refl s
  · exact keepsTiles_storeElems s n _ _

theorem keepsTiles_vecBlocks (n : Nat) (c : List Byte) (p : List VecOp × List VecOp) (f : TileFault) (a b : List Nat) (js : List Nat)
    (v : VecState) (k : Nat) : s.KeepsTiles (State.vecBlocks n c p f a b js v k s).2 := by
  induction js generalizing s v k with
  | nil => exact .refl s
  | cons j js ih =>
    unfold State.vecBlocks
    have h := keepsTiles_vecBlock s n c p f a b j v k
    generalize s.vecBlock n c p f a b j v k = r at h ⊢
    obtain ⟨x, v', t⟩ := r
    have hnoted := h.trans (keepsTiles_noted t n x)
    dsimp only
    split
    · exact h
    · split
      · exact hnoted
      · exact hnoted.trans (ih _ _ _)

theorem keepsTiles_vecWork (n : Nat) (c : List Byte) (f : TileFault) (lim : Option Nat) : s.KeepsTiles (s.vecWork n c f lim).2 := by
  unfold State.vecWork
  have ha := keepsTiles_operand s n (tcA c)
  generalize s.operand n (tcA c) = r at ha ⊢
  obtain ⟨e | a, s₁⟩ := r
  · exact ha
  have hb := ha.trans (keepsTiles_operand s₁ n (tcB c))
  dsimp -zeta only
  generalize s₁.operand n (tcB c) = r at hb ⊢
  obtain ⟨e | b, s₂⟩ := r
  · exact hb
  · exact hb.trans (keepsTiles_vecBlocks s₂ n c _ f a b _ {} 0)

/-! ### Kernels (Table 5.6) -/

theorem keepsTiles_cmdWork (n : Nat) (c : List Byte) (f : TileFault) (lim : Option Nat) : s.KeepsTiles (s.cmdWork n c f lim).2 := by
  unfold State.cmdWork
  split
  · exact keepsTiles_matWork s n c _ f lim
  · split
    · exact keepsTiles_matWork s n c _ f lim
    · exact keepsTiles_vecWork s n c f lim

theorem keepsTiles_kernelWork (n : Nat) (f : TileFault) (cs : List (List Byte × Nat)) (lim : Option Nat) :
    s.KeepsTiles (State.kernelWork n f cs lim s).2 := by
  induction cs generalizing s lim with
  | nil => exact .refl s
  | cons x cs ih =>
    obtain ⟨c, i⟩ := x
    unfold State.kernelWork
    have h := keepsTiles_cmdWork s n c (faultInList f i) lim
    dsimp only
    generalize s.cmdWork n c (faultInList f i) lim = r at h ⊢
    obtain ⟨w, t⟩ := r
    exact .ite_snd h (h.trans (ih t _))

/-! ### Rows of an ATTEND (R335 to R338) -/

theorem keepsTiles_copyKv (t src dst stage n : Nat) : s.KeepsTiles (s.copyKv t src dst stage n).2 := by
  unfold State.copyKv
  have h := keepsTiles_busRead s t src n
  generalize s.busRead t src n = r at h ⊢
  obtain ⟨e | bs, u⟩ := r
  · exact h
  · have hw := h.trans (keepsTiles_busWrite u t dst bs)
    dsimp only
    split
    · exact hw.trans (keepsTiles_busWrite _ t stage bs)
    · exact hw

theorem keepsTiles_attAppend (t row : Nat) (c rec : List Byte) : s.KeepsTiles (s.attAppend t row c rec).2 := by
  unfold State.attAppend
  extract_lets ne nw sz
  split
  · exact .refl s
  · refine List.foldlRecOn (motive := fun p : Nat × State => s.KeepsTiles p.2) _ _ (.refl s) (fun p hp k _ => ?_)
    obtain ⟨e, u⟩ := p
    dsimp only
    split
    · exact hp
    · exact hp.trans (keepsTiles_copyKv u _ _ _ _ _)

theorem keepsTiles_attRow (t row : Nat) (c : List Byte) : s.KeepsTiles (s.attRow t row c).2 := by
  unfold State.attRow
  extract_lets sz da dc
  have hwalk := keepsTiles_busRead s t (byteAddr (s.descB (atWalk c)) [0, (row : Int)]) 256
  generalize s.busRead t _ 256 = r at hwalk ⊢
  obtain ⟨e | rec, s₁⟩ := r
  · exact hwalk
  have happend := hwalk.trans (keepsTiles_attAppend s₁ t row c rec)
  dsimp -zeta only
  generalize s₁.attAppend t row c rec = r at happend ⊢
  obtain ⟨e, s₂⟩ := r
  dsimp -zeta only
  refine .ite_snd happend ?_
  extract_lets ne st
  generalize hr : List.foldl _ _ _ = r
  have hslices : s.KeepsTiles r.2 := by
    rw [← hr]
    refine List.foldlRecOn (motive := fun p : List (Except Nat (List Byte)) × State => s.KeepsTiles p.2) _ _ happend (fun p hp k _ => ?_)
    obtain ⟨l, u⟩ := p
    have h := hp.trans (keepsTiles_busRead u t (byteAddr st [0, (k : Int), (row : Int)]) sz)
    dsimp only
    generalize u.busRead t _ sz = q at h ⊢
    obtain ⟨_ | _, u'⟩ := q <;> exact h
  obtain ⟨slices, s₃⟩ := r
  dsimp -zeta only
  split
  · exact hslices
  have hq := hslices.trans (keepsTiles_readElems s₃ t da ((List.range (tcK c)).map (fun k => coord2 da k row)))
  generalize s₃.readElems t da _ = r at hq ⊢
  obtain ⟨e | q, s₄⟩ := r
  · exact hq
  · exact hq.trans (keepsTiles_storeElems s₄ t dc _)

theorem keepsTiles_attBlock (t : Nat) (c : List Byte) (f : TileFault) (j : Nat) : s.KeepsTiles (s.attBlock t c f j).2 := by
  unfold State.attBlock
  extract_lets fix
  split
  · exact .refl s
  · exact keepsTiles_attRow s t j c

theorem keepsTiles_attWork (n : Nat) (c : List Byte) (f : TileFault) (lim : Option Nat) : s.KeepsTiles (s.attWork n c f lim).2 :=
  keepsTiles_eachBlock s n (fun j t => keepsTiles_attBlock t n c f j) _

/-- The work of a command, whatever its opcode, changes no tile's work. -/
theorem keepsTiles_opWork (n : Nat) (c : List Byte) (f : TileFault) (lim : Option Nat) : s.KeepsTiles (s.opWork n c f lim).2 := by
  unfold State.opWork
  split
  · exact keepsTiles_attWork s n c f lim
  · split
    · exact keepsTiles_kernelWork s n f _ lim
    · exact keepsTiles_cmdWork s n c f lim

end

end Sys2Proof.Machine
end

section
/-! PROOFS. Without a fault no mismatch stays (R220 to R226): every block, vector and row of a command is stored. -/

namespace Sys2Proof.Machine

@[simp] theorem Fix.join_clean (f : Fix) : f.join .clean = f := by cases f <;> rfl

section
variable (s : State)

/-! ### Blocks and rows -/

/-- A block without a fault has no mismatch. -/
theorem fix_matBlock_none (n : Nat) (c : List Byte) (sh : Shape) (j : Nat) (k : Block) : (s.matBlock n c sh .none j k).1.fix = .clean := by
  unfold State.matBlock
  split
  · rfl
  · simp [faultErrs, faultCopy, BlockIn.checked]

/-- A row of an ATTEND without a fault has no mismatch. -/
theorem fix_attBlock_none (n : Nat) (c : List Byte) (j : Nat) : (s.attBlock n c .none j).1.fix = .clean := rfl

/-- Where no block has a mismatch that stays, none ends the work. -/
theorem stays_eachBlock {n : Nat} {work : Nat → State → BlockEnd × State} (hwork : ∀ j (t : State), (work j t).1.fix = .clean)
    (js : List Nat) : (State.eachBlock n work js s).1.stays = false := by
  induction js generalizing s with
  | nil => rfl
  | cons j js ih =>
    unfold State.eachBlock
    have h := hwork j s
    generalize work j s = r at h ⊢
    obtain ⟨b, t⟩ := r
    dsimp only at h ⊢
    rw [if_neg (by simp [h])]
    split
    · rfl
    · exact ih _

theorem stays_matWork_none (n : Nat) (c : List Byte) (sh : Shape) (lim : Option Nat) : (s.matWork n c sh .none lim).1.stays = false :=
  stays_eachBlock s (fun _ t => fix_matBlock_none t n c sh _ _) _

theorem stays_attWork_none (n : Nat) (c : List Byte) (lim : Option Nat) : (s.attWork n c .none lim).1.stays = false :=
  stays_eachBlock s (fun j t => fix_attBlock_none t n c j) _

/-! ### Vectors -/

/-- An instruction without a fault finds nothing. -/
theorem fix_vecStep_none (v : VecState) (rna : Bool) (k : Nat) (o : VecOp) : (v.step rna .none k o).fix = v.fix := by
  unfold VecState.step
  split
  · rfl
  · dsimp only
    rw [if_neg (by decide)]
    split <;> simp

theorem fix_vecSteps_none (rna : Bool) (k : Nat) (os : List VecOp) (v : VecState) :
    (os.foldl (fun v o => v.step rna .none k o) v).fix = v.fix :=
  List.foldlRecOn (motive := fun w : VecState => w.fix = v.fix) os _ rfl (fun w hw o _ => (fix_vecStep_none w rna k o).trans hw)

/-- A vector without a fault has no mismatch. -/
theorem fix_vecBlock_none (n : Nat) (c : List Byte) (p : List VecOp × List VecOp) (a b : List Nat) (j : Nat) (v : VecState) (k : Nat) :
    (s.vecBlock n c p .none a b j v k).1.fix = .clean := by
  unfold State.vecBlock
  extract_lets rna take m v₀ v₁ v₂ fix
  have h₁ : v₁.fix = .clean := fix_vecSteps_none rna m p.1 v₀
  have h₂ : v₂.fix = .clean := by
    unfold v₂
    split
    · exact (fix_vecSteps_none rna 64 p.2 v₁).trans h₁
    · exact h₁
  have hfix : fix = .clean := by simp [fix, faultCopy, h₂]
  rw [if_neg (by simp [hfix])]
  exact hfix

theorem stays_vecBlocks_none (n : Nat) (c : List Byte) (p : List VecOp × List VecOp) (a b : List Nat) (js : List Nat) (v : VecState) (k : Nat) :
    (State.vecBlocks n c p .none a b js v k s).1.stays = false := by
  induction js generalizing s v k with
  | nil => rfl
  | cons j js ih =>
    unfold State.vecBlocks
    have h := fix_vecBlock_none s n c p a b j v k
    generalize s.vecBlock n c p .none a b j v k = r at h ⊢
    obtain ⟨x, v', t⟩ := r
    dsimp only at h ⊢
    rw [if_neg (by simp [h])]
    split
    · rfl
    · exact ih _ _ _

theorem stays_vecWork_none (n : Nat) (c : List Byte) (lim : Option Nat) : (s.vecWork n c .none lim).1.stays = false := by
  unfold State.vecWork
  split
  · rfl
  · split
    · rfl
    · exact stays_vecBlocks_none _ n c _ _ _ _ {} 0

/-! ### Any command -/

theorem stays_cmdWork_none (n : Nat) (c : List Byte) (lim : Option Nat) : (s.cmdWork n c .none lim).1.stays = false := by
  unfold State.cmdWork
  split
  · exact stays_matWork_none s n c _ lim
  · split
    · exact stays_matWork_none s n c _ lim
    · exact stays_vecWork_none s n c lim

theorem stays_kernelWork_none (n : Nat) (cs : List (List Byte × Nat)) (lim : Option Nat) :
    (State.kernelWork n .none cs lim s).1.stays = false := by
  induction cs generalizing s lim with
  | nil => rfl
  | cons x cs ih =>
    obtain ⟨c, i⟩ := x
    unfold State.kernelWork
    have h := stays_cmdWork_none s n c lim
    dsimp only [faultInList]
    generalize s.cmdWork n c .none lim = r at h ⊢
    obtain ⟨w, t⟩ := r
    rw [apply_ite Prod.fst, apply_ite WorkEnd.stays]
    exact (ite_eq_right_iff.2 fun _ => h.trans (ih t _).symm).trans (ih t _)

theorem stays_opWork_none (n : Nat) (c : List Byte) (lim : Option Nat) : (s.opWork n c .none lim).1.stays = false := by
  unfold State.opWork
  split
  · exact stays_attWork_none s n c lim
  · split
    · exact stays_kernelWork_none s n _ lim
    · exact stays_cmdWork_none s n c lim

end

end Sys2Proof.Machine
end

section
/-! PROOFS. The opcodes of the tiles (R205 to R214, R217, R218, R226, R330 to R338, Table 5.6): a command that starts reaches its result, or is
ended. -/

namespace Sys2Proof.Machine

theorem exec_matmul (n : Fin 34) (e : TileEvents) (s : State) : exec (.matmul n e) s = .next (s.tileCompute n opMatmul e.fault e.late) := rfl
theorem exec_conv (n : Fin 34) (e : TileEvents) (s : State) : exec (.conv n e) s = .next (s.tileCompute n opConv e.fault e.late) := rfl
theorem exec_vector (n : Fin 34) (e : TileEvents) (s : State) : exec (.vector n e) s = .next (s.tileCompute n opVector e.fault e.late) := rfl
theorem exec_kernel (n : Fin 34) (e : TileEvents) (s : State) : exec (.kernel n e) s = .next (s.tileCompute n opKernel e.fault e.late) := rfl
theorem exec_attend (n : Fin 34) (e : TileEvents) (s : State) : exec (.attend n e) s = .next (s.tileCompute n opAttend e.fault e.late) := rfl
theorem exec_sync (n : Fin 34) (s : State) : exec (.sync n) s = .next (s.tileOp n opSync (fun _ s => s.tileResult n [DONE])) := rfl
theorem exec_bist (n : Fin 34) (passed : Bool) (s : State) : exec (.bist n passed) s =
    .next (s.tileOp n opBist (fun _ s => if passed then s.tileResult n [DONE] else s.tileDeath n 3)) := rfl

/-! ### The start of a command (R217) -/

/-- A command starts on a tile that is ACTIVE or in TESTING. -/
theorem st_of_tileNext {s : State} {n : Nat} {x : TileQueue × TileCmd} (h : s.tileNext n = some x) :
    (s.tile n).st = .active ∨ (s.tile n).st = .testing := by
  unfold State.tileNext at h
  extract_lets y at h
  by_contra hst
  rw [if_pos (by simpa [y] using Or.inr hst)] at h
  cases h

section
variable (s : State) (n : Nat) (q : TileQueue) (c : TileCmd)

/-- A command that starts leaves its queue and runs. -/
theorem tileStart_spec : ((s.tileStart n q c).tile n).run = some { cmd := c, q := q } ∧
    ((s.tileStart n q c).tile n).queue q = ((s.tile n).queue q).drop 1 ∧ ((s.tileStart n q c).tile n).st = (s.tile n).st := by
  unfold State.tileStart
  extract_lets x
  have h := (keepsWork_armTile (s.setTile n { x.setQueue q ((x.queue q).drop 1) with run := some { cmd := c, q := q } }) n).tiles n
  rw [tile_setTile] at h
  refine ⟨h.run, (h.queue q).trans ?_, h.st.trans ?_⟩ <;> cases q <;> rfl

/-- An injection used up is no tile's work (R227). -/
theorem keepsTiles_useInjection : s.KeepsTiles (s.useInjection n) := by
  unfold State.useInjection
  refine .ite (.trans (t := s.setTile n { s.tile n with inj := none }) (keepsTiles_setTile ?_) (.of_tiles rfl)) (.refl s)
  exact ⟨rfl, rfl, rfl, rfl⟩

end

/-! ### The result of a command (R40, R226) -/

section
variable {s : State} {n : Nat} {r : TileRun}

/-- The running command reaches its result; the queues stand. -/
theorem tileResult_spec (hrun : (s.tile n).run = some r) (codes : List Nat) :
    ((s.tileResult n codes).tile n).run = some { r with codes := codes ++ r.codes, finished := true } ∧
      ∀ q, ((s.tileResult n codes).tile n).queue q = (s.tile n).queue q := by
  unfold State.tileResult
  extract_lets x
  rw [show x.run = some r from hrun]
  dsimp only
  rw [tile_setTile]
  exact ⟨rfl, fun q => by cases q <;> rfl⟩

/-- A command of which no work is left: it is ended, or has reached a result. -/
def State.EndsRun (s : State) (n : Nat) (r : TileRun) : Prop :=
  (s.tile n).run = none ∨ ∃ codes, (s.tile n).run = some { r with codes := codes, finished := true }

/-- A result ends the work of the command that still runs. -/
theorem endsRun_tileResult (h : (s.tile n).run = none ∨ (s.tile n).run = some r) (codes : List Nat) : (s.tileResult n codes).EndsRun n r := by
  rcases h with hrun | hrun
  · refine .inl ?_
    unfold State.tileResult
    extract_lets x
    rw [show x.run = none from hrun]
    exact hrun
  · exact .inr ⟨_, (tileResult_spec hrun codes).1⟩

/-- A death ends the command that runs, unless the tile was dead before. -/
theorem run_tileDeath (hn : n < 34) (cause : Nat) :
    ((s.tileDeath n cause).tile n).run = none ∨ ((s.tileDeath n cause).tile n).run = (s.tile n).run := by
  by_cases hst : (s.tile n).st = .dead
  · refine .inr ?_
    unfold State.tileDeath
    extract_lets e x
    have hx : x.st = .dead := hst
    rw [if_pos (by simp [hx])]
    rfl
  · exact .inl (tileDeath_spec hn hst cause).2.1

/-- An uncorrectable mismatch leaves the command running, or is the tile's death (R225, R226). -/
theorem run_tileUncorr (hn : n < 34) : ((s.tileUncorr n).2.tile n).run = none ∨ ((s.tileUncorr n).2.tile n).run = (s.tile n).run := by
  unfold State.tileUncorr
  extract_lets x again t u v _ w
  have hv : s.KeepsTiles v := .ite (.of_tiles rfl) (.of_tiles rfl)
  have hw : s.KeepsTiles w := hv.trans (keepsTiles_setTile ⟨rfl, rfl, rfl, rfl⟩)
  split
  · rcases run_tileDeath hn (s := w) 2 with h | h
    · exact .inl h
    · exact .inr (h.trans (hw n).run)
  · exact .inr (hw n).run

/-- Work that changes no tile's work ends: in a result, with the command abandoned at its DEADLINE, or with the tile's death (R218, R226). -/
theorem endsRun_tileWork (hn : n < 34) (hrun : (s.tile n).run = some r) (c : List Byte) (late : Option Nat) (total : Nat)
    {work : Option Nat → State → WorkEnd × State} (hwork : ∀ lim (t : State), t.KeepsTiles (work lim t).2) :
    (s.tileWork n c late total work).EndsRun n r := by
  unfold State.tileWork
  extract_lets cut
  have h := (keepsTiles_useInjection s n).trans (hwork cut (s.useInjection n))
  generalize work cut (s.useInjection n) = x at h ⊢
  obtain ⟨w, t⟩ := x
  have ht : (t.tile n).run = some r := (h n).run.trans hrun
  dsimp only
  split
  · refine endsRun_tileResult ?_ _
    rw [← ht]
    exact run_tileUncorr hn
  · cases cut with
    | none => exact endsRun_tileResult (.inr ht) _
    | some k =>
      dsimp only
      split
      · exact .inl (tileFinish_spec (s := t.reach (tcDeadline c * nsT)) ht DEADLINE_ABANDONED).1
      · exact endsRun_tileResult (.inr ht) _

/-- Work with no DEADLINE in its way and no mismatch that stays reaches its result (R217). -/
theorem tileWork_all (c : List Byte) (total : Nat) {work : Option Nat → State → WorkEnd × State}
    (hstays : (work none (s.useInjection n)).1.stays = false) :
    s.tileWork n c none total work = (work none (s.useInjection n)).2.tileResult n (work none (s.useInjection n)).1.codes := by
  unfold State.tileWork
  dsimp only
  rw [if_neg (by simp [hstays])]

end

/-! ### The opcodes that compute (Table 5.6) -/

section
variable (s : State) (n : Nat) (f : TileFault) (lim : Option Nat) {c : List Byte}

theorem opWork_matmul (h : tcOp c = opMatmul) : s.opWork n c f lim = s.matWork n c (s.matShape c) f lim := by
  simp [State.opWork, State.cmdWork, h]

theorem opWork_conv (h : tcOp c = opConv) : s.opWork n c f lim = s.matWork n c (s.convShape c) f lim := by
  simp [State.opWork, State.cmdWork, h]

theorem opWork_vector (h : tcOp c = opVector) : s.opWork n c f lim = s.vecWork n c f lim := by simp [State.opWork, State.cmdWork, h]

theorem opWork_kernel (h : tcOp c = opKernel) : s.opWork n c f lim = State.kernelWork n f (s.kernelOf n c) lim s := by
  simp [State.opWork, h]

theorem opWork_attend (h : tcOp c = opAttend) : s.opWork n c f lim = s.attWork n c f lim := by simp [State.opWork, h]

end

section
variable {s : State} {n op : Nat} {q : TileQueue} {c : TileCmd} (hnext : s.tileNext n = some (q, c)) (hop : tcOp c.desc = op)
include hnext hop

/-- The tile's next command starts and does its work. -/
theorem tileOp_starts (work : List Byte → State → State) : s.tileOp n op work = work c.desc (s.tileStart n q c) := by
  rw [State.tileOp, hnext]
  dsimp only
  rw [if_pos (by simp [hop])]

/-- Without a fault or a DEADLINE in its way, the command does all of its work and reaches its result. -/
theorem tileCompute_all {w : WorkEnd × State} (hw : ((s.tileStart n q c).useInjection n).opWork n c.desc .none none = w) :
    s.tileCompute n op .none none = w.2.tileResult n w.1.codes ∧ w.1.stays = false ∧
      ((s.tileCompute n op .none none).tile n).run = some { cmd := c, q := q, codes := w.1.codes, finished := true } ∧
      ((s.tileCompute n op .none none).tile n).queue q = ((s.tile n).queue q).drop 1 := by
  obtain ⟨hrun, hqueue, -⟩ := tileStart_spec s n q c
  have hstays : w.1.stays = false := hw ▸ stays_opWork_none _ n c.desc none
  have hkept := ((keepsTiles_useInjection (s.tileStart n q c) n).trans (keepsTiles_opWork _ n c.desc .none none)) n
  rw [hw] at hkept
  have heq : s.tileCompute n op .none none = w.2.tileResult n w.1.codes := by
    rw [State.tileCompute, tileOp_starts hnext hop, tileWork_all _ _ (by rw [hw]; exact hstays), hw]
  obtain ⟨hresult, hqueues⟩ := tileResult_spec (hkept.run.trans hrun) w.1.codes
  rw [heq]
  refine ⟨rfl, hstays, ?_, ((hqueues q).trans (hkept.queue q)).trans hqueue⟩
  rw [hresult, List.append_nil]

/-- Whatever befalls it, the command reaches a result or is ended. -/
theorem tileCompute_ends (hn : n < 34) (f : TileFault) (late : Option Nat) :
    ((s.tileCompute n op f late).tile n).run = none ∨
      ∃ codes, ((s.tileCompute n op f late).tile n).run = some { cmd := c, q := q, codes := codes, finished := true } := by
  rw [State.tileCompute, tileOp_starts hnext hop]
  exact endsRun_tileWork hn (tileStart_spec s n q c).1 c.desc late _ (fun lim t => keepsTiles_opWork t n c.desc f lim)

end

/-- Settles O16: each command is followed from its queue through its work, which changes no tile's work, to its result. -/
theorem tileOpcodesDoTheirWork : Obligations.TileOpcodesDoTheirWork := by
  refine ⟨fun n q c s hnext hop => ⟨⟨_, exec_matmul n {} s, tileCompute_all hnext hop (opWork_matmul _ _ _ _ hop)⟩,
      fun e => ⟨_, exec_matmul n e s, tileCompute_ends hnext hop n.isLt e.fault e.late⟩⟩,
    fun n q c s hnext hop => ⟨⟨_, exec_conv n {} s, tileCompute_all hnext hop (opWork_conv _ _ _ _ hop)⟩,
      fun e => ⟨_, exec_conv n e s, tileCompute_ends hnext hop n.isLt e.fault e.late⟩⟩,
    fun n q c s hnext hop => ⟨⟨_, exec_vector n {} s, tileCompute_all hnext hop (opWork_vector _ _ _ _ hop)⟩,
      fun e => ⟨_, exec_vector n e s, tileCompute_ends hnext hop n.isLt e.fault e.late⟩⟩,
    fun n q c s hnext hop => ⟨⟨_, exec_kernel n {} s, tileCompute_all hnext hop (opWork_kernel _ _ _ _ hop)⟩,
      fun e => ⟨_, exec_kernel n e s, tileCompute_ends hnext hop n.isLt e.fault e.late⟩⟩,
    fun n q c s hnext hop => ⟨⟨_, exec_attend n {} s, tileCompute_all hnext hop (opWork_attend _ _ _ _ hop)⟩,
      fun e => ⟨_, exec_attend n e s, tileCompute_ends hnext hop n.isLt e.fault e.late⟩⟩,
    fun n q c s hnext hop => ⟨_, exec_sync n s, ?_⟩,
    fun n q c s hnext hop => ⟨⟨_, exec_bist n true s, ?_⟩, ⟨_, exec_bist n false s, ?_⟩⟩⟩
  · rw [tileOp_starts hnext hop]
    exact (tileResult_spec (tileStart_spec s n q c).1 [DONE]).1
  · rw [tileOp_starts hnext hop]
    exact (tileResult_spec (tileStart_spec s n q c).1 [DONE]).1
  · obtain ⟨-, -, hst⟩ := tileStart_spec s n q c
    have hlive : ((s.tileStart n q c).tile n).st ≠ .dead := by
      rcases st_of_tileNext hnext with h | h <;> simp [hst, h]
    obtain ⟨hdead, hnone, -⟩ := tileDeath_spec n.isLt hlive 3
    rw [tileOp_starts hnext hop]
    exact ⟨hdead, hnone⟩

end Sys2Proof.Machine
end

section
/-! PROOFS. What the accesses to memory of a move leave of DML (R18, R265 to R269, R282, R529, R531, R542, R573): its own state, device time
and the registers of the streaming sets. -/

namespace Sys2Proof.Machine

/-- The registers of the streaming sets (Table 6.4). -/
abbrev inSetRegs (o : Nat) : Prop := 0x701000 ≤ o ∧ o < 0x702000

/-- DML's own state, the time base and the registers of the streaming sets stand. -/
structure State.KeepsDml (s t : State) : Prop where
  dml : t.dml = s.dml
  tbu : t.tbu = s.tbu
  regs : ∀ o, inSetRegs o → t.reg o = s.reg o

theorem State.KeepsDml.refl (s : State) : s.KeepsDml s := ⟨rfl, rfl, fun _ _ => rfl⟩

theorem State.KeepsDml.trans {s t u : State} (h : s.KeepsDml t) (h' : t.KeepsDml u) : s.KeepsDml u :=
  ⟨h'.dml.trans h.dml, h'.tbu.trans h.tbu, fun o ho => (h'.regs o ho).trans (h.regs o ho)⟩

theorem State.KeepsDml.ite {s t u : State} {p : Prop} [Decidable p] (ht : s.KeepsDml t) (hu : s.KeepsDml u) :
    s.KeepsDml (if p then t else u) := by split <;> assumption

theorem State.KeepsDml.of_eq {s t : State} (hdml : t.dml = s.dml) (htbu : t.tbu = s.tbu) (hregs : t.regs = s.regs) : s.KeepsDml t :=
  ⟨hdml, htbu, fun o _ => reg_congr hregs o⟩

/-- A fold of updates that each keep DML's state keeps it. -/
theorem keepsDml_foldl {α : Type} {f : State → α → State} (hf : ∀ (s : State) a, s.KeepsDml (f s a)) (l : List α) (s : State) :
    s.KeepsDml (l.foldl f s) :=
  List.foldlRecOn (motive := State.KeepsDml s) l f (.refl s) (fun t ht a _ => ht.trans (hf t a))

theorem keepsDml_foldl_snd {α β : Type} {f : β × State → α → β × State} (hf : ∀ p a, State.KeepsDml p.2 (f p a).2) (l : List α)
    (p : β × State) : State.KeepsDml p.2 (l.foldl f p).2 :=
  List.foldlRecOn (motive := fun q => State.KeepsDml p.2 q.2) l f (.refl p.2) (fun q hq a _ => hq.trans (hf q a))

section
variable {s t : State} (h : s.KeepsDml t) {o : Nat} (ho : ¬ inSetRegs o)
include h ho

theorem State.KeepsDml.setReg (v : W32) : s.KeepsDml (t.setReg o v) :=
  ⟨h.dml, h.tbu, fun o' ho' => (reg_setReg_ne t v (by rintro rfl; exact ho ho')).trans (h.regs o' ho')⟩

theorem State.KeepsDml.setFld (lo w v : Nat) : s.KeepsDml (t.setFld o lo w v) := h.setReg ho _
theorem State.KeepsDml.setBit (b : Nat) (v : Bool) : s.KeepsDml (t.setBit o b v) := h.setReg ho _
theorem State.KeepsDml.countSat (lo w n : Nat) : s.KeepsDml (t.countSat o lo w n) := h.setReg ho _
theorem State.KeepsDml.countWrap (lo w n : Nat) : s.KeepsDml (t.countWrap o lo w n) := h.setReg ho _

end

section
variable (s : State)

/-! ### Accesses to memory -/

theorem keepsDml_logError (addr id kind nsym array bank dq : Nat) : s.KeepsDml (s.logError addr id kind nsym array bank dq) := by
  unfold State.logError
  extract_lets head newest same e _ t u
  have ht : s.KeepsDml t := .of_eq rfl rfl rfl
  have hu : s.KeepsDml u := .ite (ht.setBit (o := Reg.MEM_STATUS_W1C) (by decide) _ _) ht
  split
  · cases newest <;> exact .of_eq rfl rfl rfl
  · exact (hu.setFld (o := Reg.MEM_LOG_HEAD) (by decide) _ _ _).countWrap (by decide) _ _ _

theorem keepsDml_corrected (id array loc kindX : Nat) : s.KeepsDml (s.corrected id array loc kindX) := by
  unfold State.corrected
  extract_lets n dram pins t _ u
  have hheal : s.KeepsDml (s.heal array loc) := .of_eq rfl rfl rfl
  have ht : s.KeepsDml t := hheal.countSat (by split <;> decide) _ _ _
  have hu : s.KeepsDml u := ht.trans (.of_eq rfl rfl rfl)
  exact .ite (hu.trans (keepsDml_logError _ _ _ _ _ _ _ _)) (hu.trans (keepsDml_logError _ _ _ _ _ _ _ _))

theorem keepsDml_raiseStepDoubt : s.KeepsDml s.raiseStepDoubt := by
  refine State.KeepsDml.countSat ?_ (o := Reg.SAF_DOUBT_CNT) (by decide) _ _ _
  exact .of_eq rfl rfl rfl

theorem keepsDml_uncorrectable (id array loc kindX : Nat) : s.KeepsDml (s.uncorrectable id array loc kindX) := by
  unfold State.uncorrectable
  extract_lets dram inj t _ _ u addr kind v w
  have ht : s.KeepsDml t := (State.KeepsDml.refl s).countSat (by split <;> decide) _ _ _
  have hu : s.KeepsDml u := (ht.setBit (o := Reg.MEM_STATUS_W1C) (by decide) _ _).trans (.of_eq rfl rfl rfl)
  have hv : s.KeepsDml v := hu.trans (keepsDml_logError _ _ _ _ _ _ _ _)
  have hw : s.KeepsDml w := hv.trans (.of_eq rfl rfl rfl)
  exact .ite (hw.trans (keepsDml_raiseStepDoubt w)) hw

theorem keepsDml_checkRead (id a n kindX : Nat) : s.KeepsDml (s.checkRead id a n kindX).2 := by
  unfold State.checkRead
  split
  · exact .refl s
  · refine keepsDml_foldl_snd (fun p xy => ?_) _ (true, s)
    obtain ⟨ok, t⟩ := p
    obtain ⟨x, y⟩ := xy
    dsimp -zeta only
    extract_lets d u
    have hu : t.KeepsDml u := .ite ((State.KeepsDml.refl t).countSat (o := Reg.MEM_INJ_CNT) (by decide) _ _ _) (.refl t)
    split
    · exact .refl t
    · split
      · exact hu.trans (keepsDml_corrected u _ _ _ _)
      · exact hu.trans (keepsDml_uncorrectable u _ _ _ _)

theorem keepsDml_drawSyms (m n : Nat) : s.KeepsDml (s.drawSyms m n).2 := by
  induction n with
  | zero => exact .refl s
  | succ n ih => exact ih.trans (.of_eq rfl rfl rfl)

theorem keepsDml_rawStore (id a : Nat) (bs : List Byte) : s.KeepsDml (s.rawStore id a bs).2 := by
  unfold State.rawStore
  extract_lets n bad t u
  have ht : s.KeepsDml t := .ite (.refl s) (keepsDml_foldl (f := fun s (x, y) => s.heal x y) (fun _ _ => .of_eq rfl rfl rfl) _ s)
  have hu : s.KeepsDml u := ht.trans (.of_eq rfl rfl rfl)
  split
  · exact keepsDml_checkRead s id a n 0
  · split
    · split
      · exact (hu.trans (keepsDml_drawSyms u _ _)).trans (.of_eq rfl rfl rfl)
      · exact hu
    · exact hu

/-- The record of a refusal leaves DML alone (R232, R573). -/
theorem keepsDml_refuseAccess (h : Option Nat) (id : Nat) (k : Kind) (a : Nat) : s.KeepsDml (s.refuseAccess h id k a) := by
  unfold State.refuseAccess State.fencedSpeaker
  split
  · next t ht =>
    have hid : ¬ inSetRegs (Reg.TCA_T_FENCED t) := by
      obtain ⟨⟨h34, -⟩, rfl⟩ : (id < 34 ∧ s.revoked id = true) ∧ id = t := by simpa [State.fencedTile] using ht
      unfold Reg.TCA_T_FENCED
      omega
    extract_lets u x v
    have hu : s.KeepsDml u := (State.KeepsDml.refl s).countSat hid _ _ _
    have hv : s.KeepsDml v := hu.countSat (o := Reg.SAF_FENCED) (by decide) _ _ _
    exact .ite (hv.trans (.of_eq rfl rfl rfl)) hv
  · have hcount : s.KeepsDml (s.countSat Reg.SAF_REFUSE_CNT 0 32 1) := (State.KeepsDml.refl s).countSat (by decide) _ _ _
    exact .ite (hcount.trans (.of_eq rfl rfl rfl)) hcount

theorem keepsDml_busRead (id a n : Nat) : s.KeepsDml (s.busRead id a n).2 := by
  unfold State.busRead
  split
  · exact keepsDml_refuseAccess s _ _ _ _
  split
  · exact .refl s
  split
  · exact .refl s
  split
  · exact .of_eq rfl rfl rfl
  have h := keepsDml_checkRead s id a n 0
  generalize s.checkRead id a n 0 = r at h ⊢
  obtain ⟨_ | _, t⟩ := r <;> exact h

theorem keepsDml_busWrite (id a : Nat) (bs : List Byte) : s.KeepsDml (s.busWrite id a bs).2 := by
  unfold State.busWrite
  split
  · exact keepsDml_refuseAccess s _ _ _ _
  split
  · exact .refl s
  split
  · exact .refl s
  split
  · exact .refl s
  exact keepsDml_rawStore s id a bs

theorem keepsDml_elemAt (id : Nat) (b : List Byte) (c : Coord) : s.KeepsDml (s.elemAt id b c).2 := by
  unfold State.elemAt
  extract_lets a w
  have h := keepsDml_busRead s id (a / 2) (max 1 (w / 8))
  generalize s.busRead id (a / 2) (max 1 (w / 8)) = r at h ⊢
  obtain ⟨_ | _, t⟩ := r <;> exact h

theorem keepsDml_storeUnits (id : Nat) (us : List (Nat × List Byte)) : s.KeepsDml (s.storeUnits id us).2 := by
  induction us generalizing s with
  | nil => exact .refl s
  | cons x us ih =>
    obtain ⟨a, bs⟩ := x
    have h := keepsDml_busWrite s id a bs
    unfold State.storeUnits
    dsimp only
    split
    · exact h.trans (ih _)
    · exact h

/-! ### Moves -/

theorem keepsDml_readIdx (id : Nat) (b : List Byte) : s.KeepsDml (s.readIdx id b).2 := by
  unfold State.readIdx
  refine keepsDml_foldl_snd (fun p k => ?_) _ (Except.ok [], s)
  obtain ⟨_ | l, t⟩ := p
  · exact .refl t
  · have h := keepsDml_elemAt t id b [(k : Int)]
    dsimp only
    generalize t.elemAt id b [(k : Int)] = r at h ⊢
    obtain ⟨_ | _, u⟩ := r <;> exact h

theorem keepsDml_readPlan (id : Nat) (j : MoveJob) (plan : List (Option Coord × Coord)) : s.KeepsDml (s.readPlan id j plan).2 := by
  unfold State.readPlan
  refine keepsDml_foldl_snd (fun p x => ?_) _ (Except.ok ([], 0), s)
  obtain ⟨_ | ⟨m, n⟩, t⟩ := p
  · exact .refl t
  · obtain ⟨_ | c, dc⟩ := x
    · exact .refl t
    · have h := keepsDml_elemAt t id j.src c
      dsimp only
      generalize t.elemAt id j.src c = r at h ⊢
      obtain ⟨_ | _, u⟩ := r <;> exact h

/-- A move that reads its elements counts what it converted; no count is a set's (R266, R269). -/
theorem keepsDml_moveUnits (id : Nat) (j : MoveJob) : s.KeepsDml (s.moveUnits id j).2 := by
  unfold State.moveUnits
  have hix : s.KeepsDml (if j.mode == 3 || j.mode == 4 then s.readIdx id j.idx else (.ok [], s)).2 := by
    split
    · exact keepsDml_readIdx s id j.idx
    · exact .refl s
  generalize (if j.mode == 3 || j.mode == 4 then s.readIdx id j.idx else (.ok [], s)) = r at hix ⊢
  obtain ⟨_ | ix, t⟩ := r
  · exact hix
  · have hread := hix.trans (keepsDml_readPlan t id j (movePlan j ix))
    dsimp only
    generalize t.readPlan id j (movePlan j ix) = r at hread ⊢
    obtain ⟨_ | ⟨m, n⟩, u⟩ := r
    · exact hread
    · exact (hread.countSat (o := Reg.DML_SAT) (by decide) _ _ _).countSat (o := Reg.DML_IDX_OOR) (by decide) _ _ _

theorem keepsDml_doMove (id : Nat) (j : MoveJob) : s.KeepsDml (s.doMove id j).2 := by
  unfold State.doMove
  have h := keepsDml_moveUnits s id j
  generalize s.moveUnits id j = r at h ⊢
  obtain ⟨_ | ⟨us, sat⟩, t⟩ := r
  · exact h
  · exact h.trans (keepsDml_storeUnits t id us)

theorem keepsDml_partMove (id : Nat) (j : MoveJob) : s.KeepsDml (s.partMove id j) := by
  unfold State.partMove
  have ht : s.KeepsDml s.draw.2 := .of_eq rfl rfl rfl
  generalize s.draw = d at ht ⊢
  obtain ⟨k, t⟩ := d
  have h := ht.trans (keepsDml_moveUnits t id j)
  dsimp only
  generalize t.moveUnits id j = r at h ⊢
  obtain ⟨_ | ⟨us, sat⟩, u⟩ := r
  · exact h
  · exact h.trans (keepsDml_storeUnits u id _)

end

end Sys2Proof.Machine
end

section
/-! PROOFS. What signals and references leave of the streaming sets (R272 to R275, R291, R292, R699). -/

namespace Sys2Proof.Machine

/-! ### Fields of a register and tables of DML -/

theorem bit_of_fld {s t : State} {o b : Nat} (h : t.fld' o b 1 = s.fld' o b 1) : t.bit o b = s.bit o b := by rw [State.bit, State.bit, h]

theorem bit_of_reg {s t : State} {o : Nat} (h : t.reg o = s.reg o) (b : Nat) : t.bit o b = s.bit o b := by
  simp only [State.bit, State.fld', h]

theorem fld_setBit_other (s : State) (o : Nat) {b lo w : Nat} (v : Bool) (hb : b < 32) (h : lo + w ≤ b ∨ b + 1 ≤ lo) :
    (s.setBit o b v).fld' o lo w = s.fld' o lo w := fld_setFld_disjoint s o b 1 _ lo w (by omega) h.symm

theorem fld_status_mod (s : State) (o code : Nat) : (s.status o code).fld' o 0 8 = code % 256 :=
  fld_setFld_same s o 0 8 code (by decide)

theorem bit_status (s : State) (o code : Nat) {b : Nat} (hb : 8 ≤ b) : (s.status o code).bit o b = s.bit o b :=
  bit_of_fld (fld_setFld_disjoint s o 0 8 code b 1 (by decide) (Or.inl hb))

theorem sset_congr {s t : State} (h : t.dml.sets = s.dml.sets) (n : Nat) : t.sset n = s.sset n := by rw [State.sset, State.sset, h]

theorem chan_congr {s t : State} (h : t.dml.chans = s.dml.chans) (n : Nat) : t.chan n = s.chan n := by rw [State.chan, State.chan, h]

/-- The transfers of the streaming sets and the sets' registers stand. -/
structure State.KeepsSets (s t : State) : Prop where
  run : ∀ n, (t.sset n).run = (s.sset n).run
  regs : ∀ o, inSetRegs o → t.reg o = s.reg o

theorem State.KeepsSets.refl (s : State) : s.KeepsSets s := ⟨fun _ => rfl, fun _ _ => rfl⟩

theorem State.KeepsSets.trans {s t u : State} (h : s.KeepsSets t) (h' : t.KeepsSets u) : s.KeepsSets u :=
  ⟨fun n => (h'.run n).trans (h.run n), fun o ho => (h'.regs o ho).trans (h.regs o ho)⟩

theorem State.KeepsSets.ite {s t u : State} {p : Prop} [Decidable p] (ht : s.KeepsSets t) (hu : s.KeepsSets u) :
    s.KeepsSets (if p then t else u) := by split <;> assumption

theorem State.KeepsSets.of_eq {s t : State} (hsets : t.dml.sets = s.dml.sets) (hregs : t.regs = s.regs) : s.KeepsSets t :=
  ⟨fun n => congrArg StreamSet.run (sset_congr hsets n), fun o _ => reg_congr hregs o⟩

theorem State.KeepsDml.keepsSets {s t : State} (h : s.KeepsDml t) : s.KeepsSets t :=
  ⟨fun n => congrArg StreamSet.run (sset_congr (congrArg Dml.sets h.dml) n), h.regs⟩

/-- A fold of updates that each keep the sets keeps them. -/
theorem keepsSets_foldl {α : Type} {f : State → α → State} (hf : ∀ (s : State) a, s.KeepsSets (f s a)) (l : List α) (s : State) :
    s.KeepsSets (l.foldl f s) :=
  List.foldlRecOn (motive := State.KeepsSets s) l f (.refl s) (fun t ht a _ => ht.trans (hf t a))

section
variable {s t : State} (h : s.KeepsSets t) {o : Nat} (ho : ¬ inSetRegs o)
include h ho

theorem State.KeepsSets.setReg (v : W32) : s.KeepsSets (t.setReg o v) :=
  ⟨h.run, fun o' ho' => (reg_setReg_ne t v (by rintro rfl; exact ho ho')).trans (h.regs o' ho')⟩

theorem State.KeepsSets.setFld (lo w v : Nat) : s.KeepsSets (t.setFld o lo w v) := h.setReg ho _
theorem State.KeepsSets.setBit (b : Nat) (v : Bool) : s.KeepsSets (t.setBit o b v) := h.setReg ho _

end

/-- Registers in a row that starts past the sets' own are none of them. -/
theorem not_inSetRegs_row {base : Nat} (h : 0x702000 ≤ base) (k : Nat) : ¬ inSetRegs (base + k) := fun ho => by omega

section
variable (s : State)

/-! ### Signals -/

theorem keepsSets_setSset {n : Nat} {x : StreamSet} (h : x.run = (s.sset n).run) : s.KeepsSets (s.setSset n x) := by
  refine ⟨fun m => ?_, fun _ _ => rfl⟩
  by_cases hm : m = n
  · rw [hm, sset_setSset, h]
  · rw [sset_setSset_ne s x hm]

theorem setChan_dml (n : Nat) (c : Chan) : (s.setChan n c).dml = { s.dml with chans := SMap.put {} s.dml.chans n c } := by
  unfold State.setChan
  dsimp only
  split <;> rfl

@[simp] theorem chan_setChan (n : Nat) (c : Chan) : (s.setChan n c).chan n = c := by
  rw [State.chan, setChan_dml, SMap.get_put _ _ _ _ _ _ (fun _ => rfl), if_pos rfl]

theorem keepsSets_setChan (n : Nat) (c : Chan) : s.KeepsSets (s.setChan n c) := by
  unfold State.setChan
  extract_lets _ t st u v l w
  have hst : ¬ inSetRegs st := not_inSetRegs_row (by decide) _
  have ht : s.KeepsSets t := .of_eq rfl rfl
  have hu : s.KeepsSets u := ht.ite (ht.setFld hst _ _ _)
  have hv : s.KeepsSets v := ((hu.setBit hst _ _).setBit hst _ _).setFld hst _ _ _
  have hw : s.KeepsSets w := (hv.setReg (not_inSetRegs_row (by decide) _) _).setReg (not_inSetRegs_row (by decide) _) _
  exact hw.setBit (by decide) _ _

/-- A set that is granted its signal is triggered; no transfer begins or ends (R272). -/
theorem keepsSets_grant (w : Waiter) : s.KeepsSets (s.grant w) := by
  cases w with
  | chan n => exact keepsSets_setChan s n _
  | batch q => exact .of_eq rfl rfl
  | set n => exact keepsSets_setSset s rfl
  | tile t q => cases q <;> exact .of_eq rfl rfl

theorem keepsSets_serveOne (w : SigWait) : s.KeepsSets (s.serveOne w) := by
  unfold State.serveOne
  split
  · refine .trans (.setReg ?_ (not_inSetRegs_row (by decide) _) _) (keepsSets_grant _ _)
    exact .of_eq rfl rfl
  · exact .refl s

theorem keepsSets_serve (sig : Nat) : s.KeepsSets (s.serve sig) := keepsSets_foldl keepsSets_serveOne _ s

theorem keepsSets_waitOn (w : SigWait) : s.KeepsSets (s.waitOn w) := by
  unfold State.waitOn
  refine .ite (.refl s) (.trans ?_ (keepsSets_serve _ _))
  exact .of_eq rfl rfl

theorem msix_dml (v : Nat) : (s.msix v).dml = s.dml := by
  unfold State.msix
  split <;> rfl

/-- The vectors of a signal touch neither DML nor any register (R699). -/
theorem sigVectors_spec (sig : Nat) : (s.sigVectors sig).dml = s.dml ∧ (s.sigVectors sig).regs = s.regs := by
  refine List.foldlRecOn (motive := fun t : State => t.dml = s.dml ∧ t.regs = s.regs) _ _ ⟨rfl, rfl⟩ (fun t ht j _ => ?_)
  split
  · exact ⟨(msix_dml t _).trans ht.1, (regs_msix t _).trans ht.2⟩
  · exact ht

theorem keepsSets_raiseSig (sig inc : Nat) : s.KeepsSets (s.raiseSig sig inc) := by
  unfold State.raiseSig
  extract_lets c t u _ v
  have ht : s.KeepsSets t := (State.KeepsSets.refl s).setReg (not_inSetRegs_row (by decide) _) _
  have hu : s.KeepsSets u := ht.setBit (by decide) _ _
  have hv : s.KeepsSets v := ht.ite (hu.ite (hu.trans (.of_eq rfl rfl)))
  obtain ⟨hdml, hregs⟩ := sigVectors_spec (v.serve sig) sig
  exact (hv.trans (keepsSets_serve v sig)).trans (.of_eq (congrArg Dml.sets hdml) hregs)

/-! ### References -/

theorem keepsSets_dropRef (k : Nat) : s.KeepsSets (s.dropRef k) := by
  unfold State.dropRef
  split
  · exact .refl s
  · split <;> exact .of_eq rfl rfl

theorem keepsSets_dropRefs (hs : List Nat) : s.KeepsSets (s.dropRefs hs) := keepsSets_foldl keepsSets_dropRef hs s

theorem keepsSets_addRefs (hs : List Nat) : s.KeepsSets (s.addRefs hs) := keepsSets_foldl (f := State.addRef) (fun _ _ => .of_eq rfl rfl) hs s

end

end Sys2Proof.Machine
end

section
/-! PROOFS. Descriptors and signals (R248, R249, R272 to R275, R292). -/

namespace Sys2Proof.Machine

theorem exec_descCreate (h : BitVec 12) (s : State) :
    exec (.descCreate h) s = .next (s.hostCmd Reg.DML_DESC_CMD (fun s => s.doDescCreate idHost h.toNat)) := rfl
theorem exec_descDestroy (h : BitVec 12) (s : State) :
    exec (.descDestroy h) s = .next (s.hostCmd Reg.DML_DESC_CMD (fun s => s.doDescDestroy idHost h.toNat)) := rfl
theorem exec_signalRaise (sig : BitVec 10) (inc : BitVec 16) (s : State) :
    exec (.signalRaise sig inc) s = .next (s.hostCmd Reg.DML_SIG_RAISE (fun s => s.doSignalRaise idHost sig.toNat inc.toNat)) := rfl

section
variable (s : State)

/-! ### Descriptors (R248, R249, R292) -/

/-- The table of descriptors replaced. -/
def State.withDescs (s : State) (m : SMap Desc) : State := { s with dml := { s.dml with descs := m } }

/-- DML_DESC_CMD_ST shows the handle and the status of a command done (Table 6.4). -/
theorem descStatus_done (m : SMap Desc) {h : Nat} (hh : h < 2 ^ 12) :
    let t := (s.withDescs m).descStatus h DONE
    t.dml.descs = m ∧ t.fld' Reg.DML_DESC_CMD_ST 0 8 = DONE ∧ t.fld' Reg.DML_DESC_CMD_ST 8 12 = h ∧
      s.SameRegsBut t [Reg.DML_DESC_CMD_ST] := by
  unfold State.descStatus
  intro t
  have hown : Reg.DML_DESC_CMD_ST ∈ [Reg.DML_DESC_CMD_ST] := by simp
  refine ⟨rfl, ?_, ?_, ?_⟩
  · rw [fld_setBit_other _ _ _ (by decide) (by decide), fld_setFld_disjoint _ _ _ _ _ _ _ (by decide) (by decide),
      fld_setFld_same _ _ _ _ _ (by decide), Nat.zero_mod]
  · rw [fld_setBit_other _ _ _ (by decide) (by decide), fld_setFld_same _ _ _ _ _ (by decide), Nat.mod_eq_of_lt hh]
  · exact ((State.sameRegsBut_of_regs (t := s.withDescs m) _ rfl).trans (sameRegsBut_setReg _ _ hown)).trans
      ((sameRegsBut_setReg _ _ hown).trans (sameRegsBut_setReg _ _ hown))

variable {s} {h : Nat}

theorem doDescCreate_done {id : Nat} (hok : descOk (s.regBytes (Reg.DML_DESC_STAGE 0) 16) = true)
    (hfmt : s.fmtOffered (dFmt (s.regBytes (Reg.DML_DESC_STAGE 0) 16)) = true) (hfree : SMap.find? s.dml.descs h = none)
    (hext : s.extentOk id (s.regBytes (Reg.DML_DESC_STAGE 0) 16) = true) :
    s.doDescCreate id h = (s.withDescs (SMap.insert s.dml.descs h
      { bytes := patch (s.regBytes (Reg.DML_DESC_STAGE 0) 16) 62 (leBytes 2 id) })).descStatus h DONE := by
  unfold State.doDescCreate
  extract_lets b c
  exact if_pos (by simp [c, b, hok, hfmt, hfree, hext, topCode])

/-- What DESTROY leaves of a descriptor that is in use: nothing, or a RETIRING handle while it has references. -/
def Desc.destroyed (x : Desc) : Option Desc := if x.refs = 0 then none else some { x with retiring := true }

theorem doDescDestroy_done {id : Nat} {x : Desc} (hx : SMap.find? s.dml.descs h = some x) (hret : x.retiring = false)
    (hflag : dFlag x.bytes 2 = false) :
    ∃ m, s.doDescDestroy id h = (s.withDescs m).descStatus h DONE ∧ SMap.find? m h = x.destroyed := by
  unfold State.doDescDestroy
  rw [hx]
  dsimp only
  rw [if_neg (by simp [hret, hflag])]
  by_cases hrefs : x.refs = 0
  · rw [if_pos (by simp [hrefs]), Desc.destroyed, if_pos hrefs]
    exact ⟨_, rfl, SMap.find?_erase_same _ _⟩
  · rw [if_neg (by simp [hrefs]), Desc.destroyed, if_neg hrefs]
    exact ⟨_, rfl, SMap.find?_insert_same _ _ _⟩

/-! ### Signals (R272 to R275) -/

theorem serve_unwaited {sig : Nat} (hwaits : ∀ w ∈ s.dml.waits, w.sig ≠ sig) : s.serve sig = s := by
  have hnone : s.dml.waits.filter (fun w => w.sig == sig) = [] := List.filter_eq_nil_iff.2 (fun w hw => by simpa using hwaits w hw)
  rw [State.serve, hnone]
  rfl

/-- A raise of a signal that no unit waits for adds to its counter, saturating with SIG_OVF (R275). -/
theorem raiseSig_unwaited {sig : Nat} (inc : Nat) (hwaits : ∀ w ∈ s.dml.waits, w.sig ≠ sig) :
    (s.raiseSig sig inc).sigCount sig = min (s.sigCount sig + inc) 65535 ∧
      (65535 < s.sigCount sig + inc → (s.raiseSig sig inc).bit Reg.DML_STATUS 2 = true) := by
  unfold State.raiseSig
  extract_lets c t u _ v
  have hvwaits : v.dml.waits = s.dml.waits := by
    unfold v
    split
    · rfl
    · split <;> rfl
  have hvsig : v.reg (Reg.DML_SIG sig) = BitVec.ofNat 32 (min c 65535) := by
    have ht : t.reg (Reg.DML_SIG sig) = BitVec.ofNat 32 (min c 65535) := reg_setReg_same s _ _
    have hu : u.reg (Reg.DML_SIG sig) = t.reg (Reg.DML_SIG sig) := reg_setBit_ne t _ _ (by unfold Reg.DML_SIG Reg.DML_STATUS; omega)
    unfold v
    split
    · exact ht
    · split <;> exact hu.trans ht
  have hvovf (hover : 65535 < c) : v.bit Reg.DML_STATUS 2 = true := by
    have hu : u.bit Reg.DML_STATUS 2 = true := bit_setBit_same t _ _ _ (by decide)
    unfold v
    rw [if_neg (by omega)]
    split <;> exact hu
  have hregs : ((v.serve sig).sigVectors sig).regs = v.regs := by
    rw [(sigVectors_spec _ sig).2, serve_unwaited (hvwaits ▸ hwaits)]
  constructor
  · have hword : min c 65535 % 2 ^ 32 = min c 65535 := Nat.mod_eq_of_lt (by omega)
    rw [State.sigCount, State.fld', reg_congr hregs, hvsig, fieldOf, BitVec.toNat_ofNat, hword, pow_zero, Nat.div_one]
    exact Nat.mod_eq_of_lt (by omega)
  · intro hover
    rw [State.bit, State.fld', reg_congr hregs]
    exact hvovf hover

end

/-- Settles O19: each command passes the checks of its rules and leaves what they say in the table of descriptors or the signal's counter. -/
theorem descriptorAndSignalCommandsHaveTheirEffect : Obligations.DescriptorAndSignalCommandsHaveTheirEffect := by
  refine ⟨fun h s hopen hok hfmt hfree hext => ⟨_, exec_descCreate h s, ?_⟩,
    fun h x s hopen hx hret hflag => ⟨_, exec_descDestroy h s, ?_⟩,
    fun sig inc s hopen hgrant hinc hwaits => ⟨_, exec_signalRaise sig inc s, ?_⟩⟩
  · rw [hostCmd_open hopen, doDescCreate_done hok hfmt hfree hext]
    obtain ⟨hdescs, hst⟩ := descStatus_done s (SMap.insert s.dml.descs h.toNat _) h.isLt
    exact ⟨by rw [hdescs, SMap.find?_insert_same], hst⟩
  · obtain ⟨m, hm, hfind⟩ := doDescDestroy_done (id := idHost) hx hret hflag
    obtain ⟨hdescs, hst⟩ := descStatus_done s m h.isLt
    rw [hostCmd_open hopen, hm]
    exact ⟨by rw [hdescs, hfind, Desc.destroyed], hst⟩
  · have hinc' : inc.toNat ≠ 0 := fun h0 => hinc (BitVec.eq_of_toNat_eq h0)
    rw [hostCmd_open hopen, State.doSignalRaise, if_neg (by simp [hgrant]), if_neg (by simp [hinc'])]
    exact raiseSig_unwaited _ hwaits

end Sys2Proof.Machine
end

section
/-! PROOFS. Streaming sets (R276 to R282). -/

namespace Sys2Proof.Machine

theorem exec_setTriggerIngress (n : Fin 16) (row : Nat) (item : List Byte) (s : State) :
    exec (.setTriggerIngress n row item) s = .next (s.ingress n row item) := rfl
theorem exec_setTriggerStep (n : Fin 16) (s : State) : exec (.setTriggerStep n) s = .next (s.stepTrigger n) := rfl
theorem exec_setTriggerSignal (n : Fin 16) (s : State) :
    exec (.setTriggerSignal n) s = .next (if s.setReady n 2 && (s.sset n).trig.isSome then s.startSet n none else s) := rfl
theorem exec_setTriggerOnce (n : Fin 16) (s : State) :
    exec (.setTriggerOnce n) s = .next (if s.setReady n 3 then s.startSet n none else s) := rfl
theorem exec_setTransferDone (n : Fin 16) (s : State) : exec (.setTransferDone n) s = .next (s.setDone n) := rfl
theorem exec_setTransferDeadline (n : Fin 16) (s : State) : exec (.setTransferDeadline n) s = .next (s.setDeadline n) := rfl
theorem exec_shadowWrite (n : Fin 16) (k : Fin 8) (v : W32) (s : State) :
    exec (.shadowWrite n k v) s = .next (s.hostReg (Reg.DML_SS_SHD n k) (fun s => s.doShadow n k v)) := rfl
theorem exec_setCommit (n : Fin 16) (s : State) :
    exec (.setCommit n) s = .next (s.hostCmd (Reg.DML_SS_COMMIT n) (fun s => s.doCommit n)) := rfl

/-! ### The registers of a set -/

theorem inSetRegs_st {n : Nat} (hn : n < 16) : inSetRegs (Reg.DML_SS_ST n) := by
  unfold Reg.DML_SS_ST
  omega

theorem inSetRegs_late {n : Nat} (hn : n < 16) : inSetRegs (Reg.DML_SS_LATE n) := by
  unfold Reg.DML_SS_LATE
  omega

theorem late_ne_st (n : Nat) : Reg.DML_SS_LATE n ≠ Reg.DML_SS_ST n := by
  unfold Reg.DML_SS_LATE Reg.DML_SS_ST
  omega

/-- Registers that hold the same words show the same bytes. -/
theorem regBytes_eq {s t : State} {o k : Nat} (h : ∀ j < k, t.reg (o + 4 * j) = s.reg (o + 4 * j)) : t.regBytes o k = s.regBytes o k := by
  induction k generalizing o with
  | zero => rfl
  | succ k ih =>
    have hrest : ∀ j < k, t.reg (o + 4 + 4 * j) = s.reg (o + 4 + 4 * j) := fun j hj => by
      rw [show o + 4 + 4 * j = o + 4 * (j + 1) by ring]
      exact h _ (by omega)
    rw [State.regBytes, State.regBytes, ih hrest, State.regN, State.regN, show t.reg o = s.reg o from h 0 (by omega)]

theorem ssAct_congr {s t : State} {n : Nat} (hn : n < 16) (h : ∀ o, inSetRegs o → t.reg o = s.reg o) : t.ssAct n = s.ssAct n :=
  regBytes_eq (fun j hj => h _ (by unfold Reg.DML_SS_ACT; omega))

theorem length_leBytes (n v : Nat) : (leBytes n v).length = n := by
  induction n generalizing v with
  | zero => rfl
  | succ n ih => rw [leBytes, List.length_cons, ih]

theorem length_regBytes (s : State) (o k : Nat) : (s.regBytes o k).length = 4 * k := by
  induction k generalizing o with
  | zero => rfl
  | succ k ih =>
    rw [State.regBytes, List.length_append, length_leBytes, ih]
    ring

/-- Setting registers from bytes leaves DML's own state, device time and every other register alone. -/
theorem setRegBytes_frame (s : State) (off : Nat) (bs : List Byte) :
    (s.setRegBytes off bs).dml = s.dml ∧ (s.setRegBytes off bs).tbu = s.tbu ∧
      ∀ o, off + bs.length ≤ o → (s.setRegBytes off bs).reg o = s.reg o := by
  induction s, off, bs using State.setRegBytes.induct with
  | case1 s off a b c d bs ih =>
    unfold State.setRegBytes
    obtain ⟨hdml, htbu, hregs⟩ := ih
    refine ⟨hdml, htbu, fun o ho => ?_⟩
    simp only [List.length_cons] at ho
    exact (hregs o (by omega)).trans (reg_setReg_ne s _ (by omega))
  | case2 l s off hl =>
    rw [State.setRegBytes]
    · exact ⟨rfl, rfl, fun _ _ => rfl⟩
    · exact hl

section
variable (s : State) (n : Nat)

@[simp] theorem sset_setFld (o lo w v : Nat) : (s.setFld o lo w v).sset n = s.sset n := rfl
@[simp] theorem sset_setBit (o b : Nat) (v : Bool) : (s.setBit o b v).sset n = s.sset n := rfl
@[simp] theorem sset_status (o code : Nat) : (s.status o code).sset n = s.sset n := rfl

/-! ### A transfer begins (R276 to R278) -/

theorem setReady_iff (trig : Nat) : s.setReady n trig = true ↔
    s.dmlOn = true ∧ s.bit (Reg.DML_SS_ST n) 8 = true ∧ ssTrig (s.ssAct n) = trig ∧ (s.sset n).run = none := by
  simp [State.setReady, and_assoc]

theorem startSet_spec (item : Option Item) :
    (s.startSet n item).sset n = { s.sset n with run := some (s.triggerAt n item, item), trig := none } ∧
      (s.startSet n item).bit (Reg.DML_SS_ST n) 11 = true :=
  ⟨by rw [State.startSet, sset_setBit, sset_setSset], bit_setBit_same _ _ _ _ (by decide)⟩

/-- The item that an ingress set takes. -/
def State.ingressItem (s : State) (n row : Nat) (bs : List Byte) : Item :=
  { slot := ssArg (s.ssAct n), row := row, time := s.now, bytes := bs, id := slotId (s.slot (ssArg (s.ssAct n))).record }

theorem queue_setQueue (q : List Item) : (s.setQueue n q).sset n = { s.sset n with queue := q } :=
  by rw [State.setQueue, sset_setFld, sset_setSset]

/-- The queue's depth stands above the other fields of DML_SSn_ST (Table 6.4). -/
theorem fld_setQueue (q : List Item) {lo w : Nat} (h : lo + w ≤ 12) :
    (s.setQueue n q).fld' (Reg.DML_SS_ST n) lo w = s.fld' (Reg.DML_SS_ST n) lo w := by
  unfold State.setQueue
  rw [fld_setFld_disjoint _ _ _ _ _ _ _ (by decide) (Or.inr h)]
  rfl

variable {s n}

section
variable {row : Nat} {bs : List Byte} (hon : s.dmlOn = true) (hact : s.bit (Reg.DML_SS_ST n) 8 = true) (htrig : ssTrig (s.ssAct n) = 0)
include hon hact htrig

theorem ingress_starts (hrun : (s.sset n).run = none) (hdef : s.sic.deferred.contains (ssArg (s.ssAct n)) = false) :
    s.ingress n row bs = s.startSet n (some (s.ingressItem n row bs)) := by
  unfold State.ingress
  dsimp only
  rw [if_neg (by simp [hon, hact, htrig]), if_pos (by rw [hrun, hdef]; rfl)]
  rfl

theorem ingress_queues (hbusy : (s.sset n).run ≠ none ∨ s.sic.deferred.contains (ssArg (s.ssAct n)) = true)
    (hroom : (s.sset n).queue.length < 8) :
    ((s.ingress n row bs).sset n).queue = (s.sset n).queue ++ [s.ingressItem n row bs] := by
  have hwait : ¬ ((s.sset n).run.isNone && !s.sic.deferred.contains (ssArg (s.ssAct n))) = true := by
    simp only [Bool.and_eq_true, Option.isNone_iff_eq_none, Bool.not_eq_true', not_and_or, Bool.not_eq_false]
    exact hbusy
  unfold State.ingress
  extract_lets slot x q t
  have ht : (t.sset n).queue = q := congrArg StreamSet.queue (queue_setQueue s n q)
  rw [if_neg (by simp [hon, hact, htrig]), if_neg hwait, if_pos hroom]
  split <;> exact ht

end

/-- Without an item and a signal, a transfer is triggered now. -/
theorem triggerAt_now (h : ssTrig (s.ssAct n) ≠ 2) : s.triggerAt n none = s.now := if_neg (by simpa using h)

/-- A STEP set begins its transfer at the instant of a step plus its offset (R276). -/
theorem stepTrigger_spec (hready : s.setReady n 1 = true) (hrunning : s.csq.running = true) :
    ∃ i, ((s.stepTrigger n).sset n).run = some ((s.stepTrigger n).now, none) ∧ ((s.stepTrigger n).sset n).lastStep = some i ∧
      (s.stepTrigger n).now = max s.now ((s.tOf i : Int) + toSigned 32 (ssArg (s.ssAct n)) * usT).toNat ∧
      (s.stepTrigger n).bit (Reg.DML_SS_ST n) 11 = true := by
  obtain ⟨-, -, htrig, -⟩ := (setReady_iff s n 1).1 hready
  unfold State.stepTrigger
  rw [if_neg (by simp [hready, hrunning])]
  extract_lets off due i t
  obtain ⟨hsset, hbit⟩ := startSet_spec (t.setSset n { t.sset n with lastStep := some i }) n none
  have hact : (t.setSset n { t.sset n with lastStep := some i }).ssAct n = s.ssAct n := regBytes_congr rfl _ _
  refine ⟨i, ?_, ?_, rfl, hbit⟩
  · rw [hsset, triggerAt_now (by rw [hact, htrig]; decide)]
    rfl
  · rw [hsset, sset_setSset]

/-! ### A set takes up a record (R277 to R280) -/

/-- What arming a set can do: nothing, begin to wait for its signal, or begin the transfer of its oldest item. -/
theorem armSet_cases (s : State) (n : Nat) :
    s.armSet n = s ∨ (∃ w, s.armSet n = s.waitOn w) ∨ ∃ x q, s.armSet n = (s.setQueue n q).startSet n (some x) := by
  unfold State.armSet
  dsimp only
  split
  · exact .inl rfl
  split
  · exact .inr (.inl ⟨_, rfl⟩)
  · split
    · split
      · exact .inl rfl
      · exact .inr (.inr ⟨_, _, rfl⟩)
    · exact .inl rfl
  · exact .inl rfl

/-- Arming a set leaves the status code and the two valid bits of DML_SSn_ST. -/
theorem fld_armSet (s : State) (hn : n < 16) {lo w : Nat} (h : lo + w ≤ 11) :
    (s.armSet n).fld' (Reg.DML_SS_ST n) lo w = s.fld' (Reg.DML_SS_ST n) lo w := by
  rcases armSet_cases s n with harm | ⟨v, harm⟩ | ⟨x, q, harm⟩
  · rw [harm]
  · rw [harm, State.fld', (keepsSets_waitOn s v).regs _ (inSetRegs_st hn), State.fld']
  · rw [harm, State.startSet, fld_setBit_other _ _ _ (by decide) (Or.inl h)]
    exact fld_setQueue s n q (h.trans (by decide))

/-- The shadow copy replaces the active record and DML_SSn_ST stands. -/
theorem reg_promoted (s : State) {n o : Nat} (ho : Reg.DML_SS_ST n ≤ o) :
    (s.setRegBytes (Reg.DML_SS_ACT n 0) (s.ssShd n)).reg o = s.reg o := by
  refine (setRegBytes_frame s _ _).2.2 o ?_
  rw [State.ssShd, length_regBytes]
  unfold Reg.DML_SS_ST at ho
  unfold Reg.DML_SS_ACT
  omega

theorem promote_st (s : State) (hn : n < 16) :
    (s.promote n).fld' (Reg.DML_SS_ST n) 0 8 = s.fld' (Reg.DML_SS_ST n) 0 8 ∧ (s.promote n).bit (Reg.DML_SS_ST n) 8 = true ∧
      (s.promote n).bit (Reg.DML_SS_ST n) 9 = false := by
  unfold State.promote
  refine ⟨?_, ?_, ?_⟩
  · rw [fld_armSet _ hn (by decide), fld_setBit_other _ _ _ (by decide) (by decide), fld_setBit_other _ _ _ (by decide) (by decide),
      State.fld', State.fld', reg_promoted s le_rfl]
  · rw [bit_of_fld (fld_armSet _ hn (by decide)), bit_setBit_same _ _ _ _ (by decide)]
  · rw [bit_of_fld (fld_armSet _ hn (by decide)), bit_setBit_other _ _ _ (by decide) (by decide), bit_setBit_same _ _ _ _ (by decide)]

/-- A valid commit (R276, R279, R280; active at once in an empty set: log entry 30). -/
theorem doCommit_valid (hn : n < 16) (hshd : s.bit (Reg.DML_SS_ST n) 9 = false) (hok : s.ssOk n (s.ssShd n) = true) :
    (s.doCommit n).fld' (Reg.DML_SS_ST n) 0 8 = DONE ∧ (s.doCommit n).bit (Reg.DML_SS_ST n) 8 = true ∧
      (s.doCommit n).bit (Reg.DML_SS_ST n) 9 = s.bit (Reg.DML_SS_ST n) 8 := by
  unfold State.doCommit
  rw [if_neg (by simp [hshd]), if_pos hok]
  extract_lets t
  have hcode : t.fld' (Reg.DML_SS_ST n) 0 8 = DONE := fld_status _ _ _ (by decide)
  have hshd' : t.bit (Reg.DML_SS_ST n) 9 = true := by rw [bit_status _ _ _ (by decide), bit_setBit_same _ _ _ _ (by decide)]
  have hact : t.bit (Reg.DML_SS_ST n) 8 = s.bit (Reg.DML_SS_ST n) 8 := by
    rw [bit_status _ _ _ le_rfl, bit_setBit_other _ _ _ (by decide) (by decide)]
    exact bit_of_reg ((keepsSets_addRefs s _).regs _ (inSetRegs_st hn)) 8
  rw [hact]
  split
  · next h => exact ⟨hcode, hact.trans h, hshd'.trans h.symm⟩
  · next h =>
    obtain ⟨hcode', hact', hshd''⟩ := promote_st t hn
    exact ⟨hcode'.trans hcode, hact', hshd''.trans (Bool.eq_false_of_not_eq_true h).symm⟩

/-! ### A transfer ends (R278, R279, R282) -/

/-- The end of a transfer whose set has no record to take up next: the status is shown and the set is empty. -/
theorem setEnd_empties (hn : n < 16) (hshd : s.bit (Reg.DML_SS_ST n) 9 = false) (hrep : ssRepeat (s.ssAct n) = false) (code : Nat)
    (done : Bool) :
    ((s.setEnd n code done).sset n).run = none ∧ (s.setEnd n code done).bit (Reg.DML_SS_ST n) 8 = false ∧
      (s.setEnd n code done).bit (Reg.DML_SS_ST n) 11 = false ∧ (s.setEnd n code done).fld' (Reg.DML_SS_ST n) 0 8 = code % 256 := by
  unfold State.setEnd
  extract_lets r _ t u v
  have htrun : (t.sset n).run = none := by rw [sset_status, sset_setBit, sset_setSset]
  have hu : (u.sset n).run = (t.sset n).run ∧ u.reg (Reg.DML_SS_ST n) = t.reg (Reg.DML_SS_ST n) :=
    ⟨rfl, reg_setFld_ne t _ _ _ (by unfold Reg.DML_SS_ST Reg.DML_SS_CNT; omega)⟩
  obtain ⟨hvrun, hvst⟩ : (v.sset n).run = (t.sset n).run ∧ v.reg (Reg.DML_SS_ST n) = t.reg (Reg.DML_SS_ST n) := by
    have hraise := keepsSets_raiseSig u (ssDone r) 1
    unfold v
    split
    · split
      · exact hu
      · exact ⟨(hraise.run n).trans hu.1, (hraise.regs _ (inSetRegs_st hn)).trans hu.2⟩
    · exact ⟨rfl, rfl⟩
  have hvshd : v.bit (Reg.DML_SS_ST n) 9 = false := by
    rw [bit_of_reg hvst, bit_status _ _ _ (by decide), bit_setBit_other _ _ _ (by decide) (by decide)]
    exact hshd
  rw [if_neg (by simp [hvshd]), if_neg (by simp [r, hrep])]
  have hdrop := keepsSets_dropRefs v (ssHandles r)
  have hst := (hdrop.regs _ (inSetRegs_st hn)).trans hvst
  refine ⟨?_, ?_, ?_, ?_⟩
  · rw [queue_setQueue]
    exact (hdrop.run n).trans (hvrun.trans htrun)
  · rw [bit_of_fld (fld_setQueue _ n [] (by decide)), bit_setBit_same _ _ _ _ (by decide)]
  · rw [bit_of_fld (fld_setQueue _ n [] (by decide)), bit_setBit_other _ _ _ (by decide) (by decide), bit_of_reg hst,
      bit_status _ _ _ (by decide), bit_setBit_same _ _ _ _ (by decide)]
  · rw [fld_setQueue _ n [] (by decide), fld_setBit_other _ _ _ (by decide) (by decide), State.fld', hst]
    exact fld_status_mod _ _ code

/-- The transfer of a set without an item is its record's move (R279). -/
theorem setDone_move {τ : Time} (hon : s.dmlOn = true) (hrun : (s.sset n).run = some (τ, none)) :
    let m := s.doMove (idSet n) (s.ssJob (s.ssAct n))
    s.setDone n = m.2.setEnd n m.1 (isDone m.1) := by
  unfold State.setDone
  rw [if_neg (by simp [hon]), hrun]

theorem setDone_spec (hn : n < 16) {τ : Time} (hon : s.dmlOn = true) (hrun : (s.sset n).run = some (τ, none))
    (hshd : s.bit (Reg.DML_SS_ST n) 9 = false) (hrep : ssRepeat (s.ssAct n) = false) :
    ((s.setDone n).sset n).run = none ∧ (s.setDone n).bit (Reg.DML_SS_ST n) 8 = false ∧
      (s.setDone n).bit (Reg.DML_SS_ST n) 11 = false ∧
      (s.setDone n).fld' (Reg.DML_SS_ST n) 0 8 = (s.doMove (idSet n) (s.ssJob (s.ssAct n))).1 % 256 := by
  rw [setDone_move hon hrun]
  have hmove := keepsDml_doMove s (idSet n) (s.ssJob (s.ssAct n))
  refine setEnd_empties hn ?_ ?_ _ _
  · rw [bit_of_reg (hmove.regs _ (inSetRegs_st hn)), hshd]
  · rw [ssAct_congr hn hmove.regs, hrep]

/-! ### A DEADLINE (R282) -/

/-- Device time and DML_SSn_LATE stand. -/
structure State.KeepsLate (n : Nat) (s t : State) : Prop where
  now : t.tbu.now = s.tbu.now
  late : t.reg (Reg.DML_SS_LATE n) = s.reg (Reg.DML_SS_LATE n)

theorem State.KeepsLate.refl (n : Nat) (s : State) : State.KeepsLate n s s := ⟨rfl, rfl⟩

theorem State.KeepsLate.trans {s t u : State} (h : State.KeepsLate n s t) (h' : State.KeepsLate n t u) : State.KeepsLate n s u :=
  ⟨h'.now.trans h.now, h'.late.trans h.late⟩

theorem State.KeepsLate.setFld {s t : State} (h : State.KeepsLate n s t) (lo w v : Nat) :
    State.KeepsLate n s (t.setFld (Reg.DML_SS_ST n) lo w v) :=
  ⟨h.now, (reg_setFld_ne t _ _ _ (late_ne_st n)).trans h.late⟩

theorem State.KeepsLate.of_eq {s t : State} (htbu : t.tbu = s.tbu) (hregs : t.regs = s.regs) : State.KeepsLate n s t :=
  ⟨congrArg Tbu.now htbu, reg_congr hregs _⟩

theorem State.KeepsDml.keepsLate {s t : State} (h : s.KeepsDml t) (hn : n < 16) : State.KeepsLate n s t :=
  ⟨congrArg Tbu.now h.tbu, h.regs _ (inSetRegs_late hn)⟩

theorem keepsLate_setSset (s : State) (n : Nat) (x : StreamSet) : State.KeepsLate n s (s.setSset n x) := ⟨rfl, rfl⟩

theorem keepsLate_setQueue (s : State) (n : Nat) (q : List Item) : State.KeepsLate n s (s.setQueue n q) :=
  (keepsLate_setSset s n { s.sset n with queue := q }).setFld 12 4 q.length

theorem keepsLate_startSet (s : State) (n : Nat) (x : Option Item) : State.KeepsLate n s (s.startSet n x) :=
  (keepsLate_setSset s n { s.sset n with run := some (s.triggerAt n x, x), trig := none }).setFld 11 1 1

theorem keepsLate_armSet (s : State) (hn : n < 16) : State.KeepsLate n s (s.armSet n) := by
  rcases armSet_cases s n with harm | ⟨v, harm⟩ | ⟨x, q, harm⟩ <;> rw [harm]
  · exact .refl n s
  · exact ⟨(keepsWork_waitOn s v).now, (keepsSets_waitOn s v).regs _ (inSetRegs_late hn)⟩
  · exact (keepsLate_setQueue s n q).trans (keepsLate_startSet _ n _)

theorem keepsLate_promote (s : State) (hn : n < 16) : State.KeepsLate n s (s.promote n) := by
  have hact : State.KeepsLate n s (s.setRegBytes (Reg.DML_SS_ACT n 0) (s.ssShd n)) :=
    ⟨congrArg Tbu.now (setRegBytes_frame s _ _).2.1, reg_promoted s (by unfold Reg.DML_SS_ST Reg.DML_SS_LATE; omega)⟩
  exact ((hact.setFld _ _ _).setFld _ _ _).trans (keepsLate_armSet _ hn)

theorem keepsLate_dropRefs (s : State) (hn : n < 16) (hs : List Nat) : State.KeepsLate n s (s.dropRefs hs) :=
  ⟨(keepsWork_dropRefs s hs).now, (keepsSets_dropRefs s hs).regs _ (inSetRegs_late hn)⟩

/-- An abandoned transfer that ends. -/
theorem keepsLate_setEnd (s : State) (hn : n < 16) (code : Nat) : State.KeepsLate n s (s.setEnd n code false) := by
  unfold State.setEnd
  extract_lets r _ t _ u
  have hrun : State.KeepsLate n s (s.setSset n { s.sset n with run := none }) := keepsLate_setSset s n _
  have hu : State.KeepsLate n s u := (hrun.setFld _ _ _).setFld _ _ _
  have hdrop := hu.trans (keepsLate_dropRefs u hn (ssHandles r))
  split
  · exact hdrop.trans (keepsLate_promote _ hn)
  · split
    · exact hu.trans (keepsLate_armSet u hn)
    · exact (hdrop.setFld 8 1 0).trans (keepsLate_setQueue _ n [])

theorem keepsLate_partItem (s : State) (hn : n < 16) (x : Item) : State.KeepsLate n s (s.partItem n x) := by
  have hrow : State.KeepsLate n s (s.takeRow n x) := keepsLate_setSset s n _
  have hdraw : State.KeepsLate n (s.takeRow n x) (s.takeRow n x).draw.2 := .of_eq rfl rfl
  exact (hrow.trans hdraw).trans ((keepsDml_storeUnits _ _ _).keepsLate hn)

/-- The transfer that reaches its DEADLINE is counted late, at that instant. -/
theorem setDeadline_spec (hn : n < 16) {τ : Time} {x : Option Item} (hon : s.dmlOn = true) (hrun : (s.sset n).run = some (τ, x))
    (hdl : ssDeadline (s.ssAct n) ≠ 0) :
    (s.setDeadline n).now = max s.now (τ + ssDeadline (s.ssAct n) * usT) ∧
      (s.setDeadline n).regN (Reg.DML_SS_LATE n) = satAdd 32 (s.regN (Reg.DML_SS_LATE n)) 1 := by
  unfold State.setDeadline
  rw [hon, hrun]
  dsimp -zeta only
  extract_lets r t u v _ w _ y
  rw [if_neg (by simpa using hdl)]
  have hu : State.KeepsLate n t u := by
    unfold u
    split
    · exact keepsLate_partItem t hn _
    · exact (keepsDml_partMove t _ _).keepsLate hn
  have hy : State.KeepsLate n v y := by
    have hw : State.KeepsLate n v w := .of_eq rfl rfl
    unfold y
    split
    · exact hw
    · exact hw.trans (.of_eq rfl rfl)
  have hend := hy.trans (keepsLate_setEnd y hn DEADLINE_ABANDONED)
  constructor
  · exact hend.now.trans hu.now
  · have hcount : v.regN (Reg.DML_SS_LATE n) = satAdd 32 (u.regN (Reg.DML_SS_LATE n)) 1 := regN_countSat u _ 1
    rw [State.regN, hend.late, ← State.regN, hcount, State.regN, hu.late]
    rfl

end

/-- Settles O20: a transfer begins by its trigger, and ends with its move, at its DEADLINE, or with the next record taken up. -/
theorem streamingSetCommandsHaveTheirEffect : Obligations.StreamingSetCommandsHaveTheirEffect := by
  refine ⟨fun n row item s hon hact htrig => ⟨fun hrun hdef => ?_, fun hbusy hroom => ⟨_, exec_setTriggerIngress n row item s, ?_⟩⟩,
    fun n s hready hrunning => ?_, fun n s hready htrig => ?_, fun n s hready => ?_,
    fun n τ s hon hrun hshd hrep => ⟨_, exec_setTransferDone n s, setDone_spec n.isLt hon hrun hshd hrep⟩,
    fun n τ x s hon hrun hdl => ⟨_, exec_setTransferDeadline n s, setDeadline_spec n.isLt hon hrun hdl⟩,
    fun n k v s hfree hshd => ?_, fun n s hopen hshd hok => ⟨_, exec_setCommit n s, ?_⟩⟩
  · rw [exec_setTriggerIngress, ingress_starts hon hact htrig hrun hdef]
    rfl
  · exact ingress_queues hon hact htrig hbusy hroom
  · obtain ⟨i, hrun, hstep, hnow, hbit⟩ := stepTrigger_spec hready hrunning
    exact ⟨_, i, exec_setTriggerStep n s, hrun, hstep, hnow, hbit⟩
  · rw [exec_setTriggerSignal, if_pos (by rw [hready, Option.isSome_iff_ne_none.2 htrig]; rfl)]
  · rw [exec_setTriggerOnce, if_pos hready]
  · rw [exec_shadowWrite, hostReg_free hfree, State.doShadow, if_neg (by simp [hshd])]
  · rw [hostCmd_open hopen]
    exact doCommit_valid n.isLt hshd hok

end Sys2Proof.Machine
end

section
/-! PROOFS. Program channels (R283 to R291). -/

namespace Sys2Proof.Machine

theorem exec_programGo (n : Fin 16) (s : State) :
    exec (.programGo n) s = .next (s.hostCmd (Reg.DML_PC_CTRL n) (fun s => s.doGoProg idHost n)) := rfl
theorem exec_programAbort (n : Fin 16) (s : State) :
    exec (.programAbort n) s = .next (s.hostCmd (Reg.DML_PC_CTRL n) (fun s => s.doAbortProg idHost n)) := rfl
theorem exec_move (n : Fin 16) (s : State) : exec (.move n) s = .next (s.opMove n) := rfl
theorem exec_loop (n : Fin 16) (s : State) : exec (.loop n) s = .next (s.opLoop n) := rfl
theorem exec_wait (n : Fin 16) (s : State) : exec (.wait n) s = .next (s.opWait n) := rfl
theorem exec_signal (n : Fin 16) (s : State) : exec (.signal n) s = .next (s.opSignal n) := rfl
theorem exec_fence (n : Fin 16) (s : State) : exec (.fence n) s = .next (s.opFence n) := rfl
theorem exec_endProgram (n : Fin 16) (s : State) : exec (.endProgram n) s = .next (s.opEnd n) := rfl
theorem exec_moveDone (n : Fin 16) (k : Fin 4) (s : State) : exec (.moveDone n k) s = .next (s.moveComplete n k) := rfl
theorem exec_waitTimeout (n : Fin 16) (s : State) : exec (.waitTimeout n) s = .next (s.waitExpire n) := rfl

section
variable {s : State} {n : Nat} {x : List Byte}

/-! ### A program starts and ends (R283, R284, R289, R290) -/

/-- DML_PCn_ST shows whether a program runs (Table 6.4). -/
theorem bit_setChan_runs (s : State) (n : Nat) (c : Chan) : (s.setChan n c).bit (Reg.DML_PC_ST n) 16 = !c.prog.isEmpty := by
  have hstatus : Reg.DML_PC_ST n ≠ Reg.DML_STATUS := by
    unfold Reg.DML_PC_ST Reg.DML_STATUS
    omega
  have hl01 : Reg.DML_PC_ST n ≠ Reg.DML_PC_L01 n := by
    unfold Reg.DML_PC_ST Reg.DML_PC_L01
    omega
  have hl23 : Reg.DML_PC_ST n ≠ Reg.DML_PC_L23 n := by
    unfold Reg.DML_PC_ST Reg.DML_PC_L23
    omega
  unfold State.setChan
  extract_lets _ t st u v l w
  have hv : v.bit st 16 = !c.prog.isEmpty := by
    rw [bit_of_fld (fld_setFld_disjoint _ st 18 2 _ 16 1 (by decide) (by decide)), bit_setBit_other _ _ _ (by decide) (by decide),
      bit_setBit_same _ _ _ _ (by decide)]
  have hw : w.reg st = v.reg st := (reg_setReg_ne _ _ hl23).trans (reg_setReg_ne _ _ hl01)
  exact (bit_setBit_ne w _ _ _ hstatus).trans ((bit_of_reg hw 16).trans hv)

/-- The end of a program: no program is left, the status is shown, and device time stands. -/
theorem endProg_spec (s : State) (n code : Nat) :
    ((s.endProg n code).chan n).prog = [] ∧ (s.endProg n code).fld' (Reg.DML_PC_ST n) 0 8 = code % 256 ∧
      (s.endProg n code).now = s.now := by
  unfold State.endProg
  extract_lets c
  refine ⟨?_, fld_status_mod _ _ code, ?_⟩
  · rw [chan_congr (congrArg Dml.chans (State.status_dml _ _ _)), chan_setChan]
  · rw [State.now, State.status_tbu]
    exact (keepsWork_setChan _ n _).now.trans (keepsWork_dropRefs s _).now

theorem doGoProg_starts {id : Nat} {p : List (List Byte)} {t : State} (howner : s.notOwner id n = false)
    (hidle : s.bit (Reg.DML_PC_ST n) 16 = false)
    (hfetch : s.fetchProg (idChan n) (s.regN (Reg.DML_PC_PROG_LO n) + 2 ^ 32 * s.fld' (Reg.DML_PC_PROG_HI n) 0 16) 128 = (.ok p, t))
    (hok : t.progOk n p = true) : s.doGoProg id n = (t.addRefs (p.flatMap inHandles)).setChan n { prog := p } := by
  unfold State.doGoProg
  rw [if_neg (by simp [howner]), if_neg (by simp [hidle]), hfetch]
  exact if_pos hok

theorem doAbortProg_spec {id : Nat} (howner : s.notOwner id n = false) (hprog : (s.chan n).prog ≠ []) :
    ((s.doAbortProg id n).chan n).prog = [] ∧ (s.doAbortProg id n).fld' (Reg.DML_PC_ST n) 0 8 = DEADLINE_ABANDONED := by
  unfold State.doAbortProg
  rw [if_neg (by simp [howner]), if_neg (by simpa using hprog)]
  exact (endProg_spec _ n DEADLINE_ABANDONED).imp_right And.left

/-! ### Instructions (R285 to R289) -/

theorem opMove_eq (hx : s.instrAt n 1 = some x) (hroom : (s.chan n).moves.length < 4) :
    s.opMove n = s.setChan n { s.chan n with
      moves := (s.chan n).moves ++ [(x, (s.chan n).loops.getD (inLreg x) 0)], pc := (s.chan n).pc + 1 } := by
  rw [State.opMove, hx]
  exact if_pos hroom

theorem opLoop_eq (hx : s.instrAt n 2 = some x) :
    let l := (s.chan n).loops.getD (inLreg x) 0 + 1
    s.opLoop n = s.setChan n (if l < inCount x
      then { s.chan n with loops := (s.chan n).loops.set (inLreg x) l, pc := inTarget x }
      else { s.chan n with loops := (s.chan n).loops.set (inLreg x) 0, pc := (s.chan n).pc + 1 }) := by
  rw [State.opLoop, hx]
  exact (apply_ite (s.setChan n) _ _ _).symm

theorem opWait_eq (hx : s.instrAt n 3 = some x) :
    s.opWait n = (s.setChan n { s.chan n with wait := some s.now }).waitOn ⟨idChan n, inSig x, inN x, .chan n⟩ := by rw [State.opWait, hx]

section
variable (hmoves : (s.chan n).moves = [])
include hmoves

theorem opSignal_eq (hx : s.instrAt n 4 = some x) :
    s.opSignal n = (s.setChan n { s.chan n with pc := (s.chan n).pc + 1 }).raiseSig (inSig x) (inN x) := by
  rw [State.opSignal, hx]
  exact if_pos (by rw [hmoves]; rfl)

theorem opFence_eq (hx : s.instrAt n 5 = some x) : s.opFence n = s.setChan n { s.chan n with pc := (s.chan n).pc + 1 } := by
  rw [State.opFence, hx]
  exact if_pos (by rw [hmoves]; rfl)

theorem opEnd_eq (hx : s.instrAt n 6 = some x) : s.opEnd n = s.endProg n (topCode (s.chan n).codes) := by
  rw [State.opEnd, hx]
  exact if_pos (by rw [hmoves]; rfl)

/-- A WAIT whose TIMEOUT passes while no MOVE is in flight ends its program (R288). -/
theorem waitExpire_spec {τ : Time} (hon : s.dmlOn = true) (hwait : (s.chan n).wait = some τ)
    (hx : (s.chan n).prog[(s.chan n).pc]? = some x) (htime : inTimeout x ≠ 0) :
    ((s.waitExpire n).chan n).prog = [] ∧ (s.waitExpire n).now = max s.now (τ + inTimeout x * usT) ∧
      (s.waitExpire n).fld' (Reg.DML_PC_ST n) 0 8 = DEADLINE_ABANDONED := by
  unfold State.waitExpire
  extract_lets c
  rw [hon, hwait, hx]
  dsimp only
  rw [if_neg (by simpa using htime), if_pos (by rw [hmoves]; rfl)]
  obtain ⟨hnone, hcode, hnow⟩ := endProg_spec ((s.reach (τ + inTimeout x * usT)).noWait (.chan n)) n DEADLINE_ABANDONED
  exact ⟨hnone, hnow, hcode⟩

end

/-- A MOVE that completes leaves the channel's list, and its status joins those of the program (R287, R289). -/
theorem moveComplete_spec {k l : Nat} (hon : s.dmlOn = true) (hk : (s.chan n).moves[k]? = some (x, l)) (hfailed : (s.chan n).failed = none)
    (hdone : isDone (s.doMove (idChan n) (s.inJob x l)).1 = true) :
    ((s.moveComplete n k).chan n).moves = (s.chan n).moves.eraseIdx k ∧
      ((s.moveComplete n k).chan n).codes = (s.doMove (idChan n) (s.inJob x l)).1 :: (s.chan n).codes := by
  have hchan := chan_congr (congrArg Dml.chans (keepsDml_doMove s (idChan n) (s.inJob x l)).dml) n
  unfold State.moveComplete
  rw [hon, hk]
  dsimp -zeta only
  extract_lets c d t
  have hd : d.failed = none ∧ d.moves = (s.chan n).moves.eraseIdx k ∧
      d.codes = (s.doMove (idChan n) (s.inJob x l)).1 :: (s.chan n).codes := by
    simp only [d, c, hchan, hdone, hfailed, if_true, and_self]
  rw [hd.1]
  dsimp only
  rw [chan_setChan]
  exact hd.2

end

/-- Settles O21: GO and ABORT start and end a program, and each instruction, each completed MOVE and each TIMEOUT moves its channel on. -/
theorem programInstructionsHaveTheirEffect : Obligations.ProgramInstructionsHaveTheirEffect := by
  refine ⟨fun n p s t hopen howner hidle hfetch hok => ⟨_, exec_programGo n s, ?_⟩,
    fun n s hopen howner hprog => ⟨_, exec_programAbort n s, ?_⟩,
    fun n x s hx hroom => by rw [exec_move, opMove_eq hx hroom], fun n x s hx => by rw [exec_loop, opLoop_eq hx],
    fun n x s hx => by rw [exec_wait, opWait_eq hx], fun n x s hx hmoves => by rw [exec_signal, opSignal_eq hmoves hx],
    fun n x s hx hmoves => by rw [exec_fence, opFence_eq hmoves hx], fun n x s hx hmoves => ⟨_, exec_endProgram n s, ?_⟩,
    fun n k x l s hon hk hfailed hdone => ⟨_, exec_moveDone n k s, moveComplete_spec hon hk hfailed hdone⟩,
    fun n τ x s hon hwait hx htime hmoves => ⟨_, exec_waitTimeout n s, waitExpire_spec hmoves hon hwait hx htime⟩⟩
  · rw [hostCmd_open hopen, doGoProg_starts howner hidle hfetch hok]
    exact ⟨chan_setChan _ _ _, fun hp => (bit_setChan_runs _ _ _).trans (by simpa using hp)⟩
  · rw [hostCmd_open hopen]
    exact doAbortProg_spec howner hprog
  · rw [opEnd_eq hmoves hx]
    exact (endProg_spec s n (topCode (s.chan n).codes)).imp_right And.left

end Sys2Proof.Machine
end

section
/-! PROOFS. The descriptors of sequences in device memory (Table 7.3): what a field holds after a field is written, what the rest of a step leaves
of the descriptors, and how a command of an initiator is answered (R296, R300). -/

namespace Sys2Proof.Machine

section
variable (s : State)

/-! ### Bytes of device memory -/

@[simp] theorem length_bytesAt (a n : Nat) : (s.bytesAt a n).length = n := by
  induction n generalizing a with
  | zero => rfl
  | succ n ih => rw [State.bytesAt, List.length_cons, ih]

theorem leNat_lt (bs : List Byte) : leNat bs < 256 ^ bs.length := by
  induction bs with
  | nil => decide
  | cons b bs ih =>
    have hb : b.toNat < 256 := b.isLt
    rw [leNat, List.length_cons, pow_succ]
    omega

theorem peek_lt (a n : Nat) : s.peek a n < 256 ^ n := (leNat_lt _).trans_eq (by rw [length_bytesAt])

theorem bytesAt_congr {s t : State} {a n : Nat} (h : ∀ x, a ≤ x → x < a + n → t.byteAt x = s.byteAt x) : t.bytesAt a n = s.bytesAt a n := by
  induction n generalizing a with
  | zero => rfl
  | succ n ih => rw [State.bytesAt, State.bytesAt, h a le_rfl (by omega), ih fun x hx hx' => h x (by omega) (by omega)]

theorem peek_congr {s t : State} {a n : Nat} (h : ∀ x, a ≤ x → x < a + n → t.byteAt x = s.byteAt x) : t.peek a n = s.peek a n := by
  rw [State.peek, State.peek, bytesAt_congr h]

theorem peek_of_mem {s t : State} (h : t.mem = s.mem) (a n : Nat) : t.peek a n = s.peek a n :=
  peek_congr fun x _ _ => s.sameMemory_of_mem h x

theorem bytesAt_store {a k n : Nat} {bs : List Byte} (h : k + n ≤ bs.length) :
    (s.store a bs).bytesAt (a + k) n = (bs.drop k).take n := by
  induction n generalizing k with
  | zero => rfl
  | succ n ih =>
    rw [State.bytesAt, byteAt_store, dif_pos ⟨by omega, by omega⟩, Nat.add_assoc, ih (by omega),
      List.drop_eq_getElem_cons (show k < bs.length by omega), List.take_succ_cons]
    simp

/-- A part of the bytes stored. -/
theorem peek_store {a k n : Nat} {bs : List Byte} (h : k + n ≤ bs.length) : (s.store a bs).peek (a + k) n = u bs k n := by
  rw [State.peek, bytesAt_store s h, u]

theorem peek_poke_same (a n v : Nat) : (s.poke a n v).peek a n = v % 256 ^ n := by
  have h := peek_store s (a := a) (k := 0) (bs := leBytes n v) (n := n) (by simp [length_leBytes])
  rw [Nat.add_zero, u, List.drop_zero, List.take_of_length_le (length_leBytes n v).le, leNat_leBytes] at h
  exact h

theorem peek_poke_out {a n : Nat} (v : Nat) {b m : Nat} (h : b + m ≤ a ∨ a + n ≤ b) : (s.poke a n v).peek b m = s.peek b m :=
  peek_congr fun x _ _ => byteAt_store_out s _ a x (by rw [length_leBytes]; omega)

theorem peek_zero {a m b n : Nat} (h : a ≤ b) (h' : b + n ≤ a + m) : (s.zero a m).peek b n = 0 := by
  unfold State.peek
  induction n generalizing b with
  | zero => rfl
  | succ n ih =>
    rw [State.bytesAt, leNat, ih (by omega) (by omega), byteAt_zero, if_pos ⟨by omega, by omega⟩]
    rfl

theorem State.SameMemoryOutside.trans {s t r : State} {a n : Nat} (h : s.SameMemoryOutside t a n) (h' : t.SameMemoryOutside r a n) :
    s.SameMemoryOutside r a n := fun x hx => (h' x hx).trans (h x hx)

theorem State.SameMemoryOutside.widen {s t : State} {a n : Nat} (b m : Nat) (h : s.SameMemoryOutside t a n) (hlo : b ≤ a) (hhi : a + n ≤ b + m) :
    s.SameMemoryOutside t b m := fun x hx => h x (by omega)

theorem State.SameMemoryOutside.congr {s t r : State} {a n : Nat} (h : s.SameMemoryOutside t a n) (hr : r.mem = t.mem) :
    s.SameMemoryOutside r a n := fun x hx => (t.sameMemory_of_mem hr x).trans (h x hx)

theorem State.SameMemoryOutside.peek {s t : State} {a n b m : Nat} (h : s.SameMemoryOutside t a n) (hb : b + m ≤ a ∨ a + n ≤ b) :
    t.peek b m = s.peek b m := peek_congr fun x _ _ => h x (by omega)

theorem sameMemoryOutside_zero (a n : Nat) : s.SameMemoryOutside (s.zero a n) a n := fun x hx => by
  rw [byteAt_zero, if_neg (by omega)]

/-! ### Fields of a descriptor (Table 7.3) -/

variable (n : Nat) {o w : Nat}

@[simp] theorem seqAddr_setSeqF (o w v m : Nat) : (s.setSeqF n o w v).seqAddr m = s.seqAddr m := rfl
@[simp] theorem seqAddr_zero (a l m : Nat) : (s.zero a l).seqAddr m = s.seqAddr m := rfl

theorem seqF_lt (o w : Nat) : s.seqF n o w < 256 ^ w := peek_lt s _ w

@[simp] theorem seqF_setSeqF_same (o w v : Nat) : (s.setSeqF n o w v).seqF n o w = v % 256 ^ w := peek_poke_same s _ w v

/-- The fields of a descriptor are written apart from one another. -/
theorem seqF_setSeqF_other (v : Nat) {o' w' : Nat} (h : o' + w' ≤ o ∨ o + w ≤ o') : (s.setSeqF n o w v).seqF n o' w' = s.seqF n o' w' :=
  peek_poke_out s v (by rw [seqAddr_setSeqF]; omega)

theorem sameMemoryOutside_setSeqF (o w v : Nat) : s.SameMemoryOutside (s.setSeqF n o w v) (s.seqAddr n + o) w := fun x hx =>
  byteAt_store_out s _ _ x (by rwa [length_leBytes])

theorem sameMemoryOutside_descriptor (v : Nat) (h : o + w ≤ 64) : s.SameMemoryOutside (s.setSeqF n o w v) (s.seqAddr n) 64 :=
  (sameMemoryOutside_setSeqF s n o w v).widen _ _ (by omega) (by omega)

/-- A descriptor filled with zero. -/
theorem seqF_zero (h : o + w ≤ 64) : (s.zero (s.seqAddr n) 64).seqF n o w = 0 :=
  peek_zero s (by simp) (by rw [seqAddr_zero]; omega)

/-! ### STATE and the flags (Tables 7.1 and 7.3) -/

/-- A field is read alike where only bits above it are cut off. -/
theorem bits_mod (v : Nat) {lo m k : Nat} (h : lo + k ≤ m) : bits (v % 2 ^ m) lo k = bits v lo k := by
  apply Nat.eq_of_testBit_eq
  intro j
  rw [testBit_bits, testBit_bits, Nat.testBit_mod_two_pow]
  by_cases hj : j < k
  · simp [show j + lo < m by omega]
  · simp [hj]

/-- A flag of a byte written. -/
theorem bits_byte (v : Nat) {k : Nat} (h : k < 8) : bits (v % 256 ^ 1) k 1 = bits v k 1 := bits_mod (m := 8) v h

theorem seqFlag_congr {s t : State} {n : Nat} (h : t.seqF n 7 1 = s.seqF n 7 1) (k : Nat) : t.seqFlag n k = s.seqFlag n k := by
  rw [State.seqFlag, State.seqFlag, h]

theorem seqFlag_setSeqFlag_same {k : Nat} (hk : k < 8) (v : Bool) : (s.setSeqFlag n k v).seqFlag n k = v := by
  rw [State.seqFlag, State.setSeqFlag, seqF_setSeqF_same, bits_byte _ hk, bits_setBits_same]
  cases v <;> rfl

theorem seqFlag_setSeqFlag_other {k k' : Nat} (hk : k' < 8) (hne : k' ≠ k) (v : Bool) : (s.setSeqFlag n k v).seqFlag n k' = s.seqFlag n k' := by
  rw [State.seqFlag, State.seqFlag, State.setSeqFlag, seqF_setSeqF_same, bits_byte _ hk, bits_setBits_disjoint _ _ _ _ _ _ (by omega)]

theorem seqSt_setSeqFlag (k : Nat) (v : Bool) : (s.setSeqFlag n k v).seqSt n = s.seqSt n := by
  rw [State.seqSt, State.setSeqFlag, seqF_setSeqF_other s n _ (by decide)]

/-- The word that holds a flock and a STATE. -/
theorem seqSt_setSeqF (v : Nat) : (s.setSeqF n 4 2 v).seqSt n = v % 65536 / 4096 := by
  simp [State.seqSt]

theorem seqFlock_setSeqF (v : Nat) : (s.setSeqF n 4 2 v).seqFlock n = v % 4096 := by
  rw [State.seqFlock, seqF_setSeqF_same]
  omega

theorem seqFlock_lt : s.seqFlock n < 4096 := Nat.mod_lt _ (by decide)

theorem seqSt_setSeqSt {st : Nat} (h : st < 16) : (s.setSeqSt n st).seqSt n = st := by
  have hf := seqFlock_lt s n
  rw [State.setSeqSt, seqSt_setSeqF]
  omega

theorem seqFlock_setSeqSt (st : Nat) : (s.setSeqSt n st).seqFlock n = s.seqFlock n := by
  have hf := seqFlock_lt s n
  rw [State.setSeqSt, seqFlock_setSeqF]
  omega

theorem seqFlag_setSeqSt (st k : Nat) : (s.setSeqSt n st).seqFlag n k = s.seqFlag n k :=
  seqFlag_congr (seqF_setSeqF_other s n _ (by decide)) k

theorem sameMemoryOutside_setSeqSt (st : Nat) : s.SameMemoryOutside (s.setSeqSt n st) (s.seqAddr n + 4) 2 :=
  sameMemoryOutside_setSeqF s n 4 2 _

theorem sameMemoryOutside_setSeqFlag (k : Nat) (v : Bool) : s.SameMemoryOutside (s.setSeqFlag n k v) (s.seqAddr n + 7) 1 :=
  sameMemoryOutside_setSeqF s n 7 1 _

end

/-! ### What leaves the descriptors alone -/

/-- TAC_SEQ_BASE_LO and TAC_SEQ_BASE_HI. -/
abbrev inSeqBase (o : Nat) : Prop := 0x800010 ≤ o ∧ o < 0x800018

/-- Registers in a row that starts past the base of the descriptors are not in it. -/
theorem not_inSeqBase_row {base : Nat} (h : 0x800018 ≤ base) (k : Nat) : ¬ inSeqBase (base + k) := fun ho => by omega

/-- What an edit of a page table, a freed version and an access to memory leave of TAC: the walks, the step the reclaimer last ran for, and the
appends of the step. -/
def Tac.course (x : Tac) : List Walk × Option Nat × SMap Nat := (x.walks, x.reclaimed, x.appends)

/-- Every descriptor stands: device memory and the base of the table. -/
structure State.KeepsDescs (s t : State) : Prop where
  mem : t.mem = s.mem
  base : ∀ o, inSeqBase o → t.reg o = s.reg o

theorem State.KeepsDescs.trans {s t r : State} (h : s.KeepsDescs t) (h' : t.KeepsDescs r) : s.KeepsDescs r :=
  ⟨h'.mem.trans h.mem, fun o ho => (h'.base o ho).trans (h.base o ho)⟩

section
variable {s t : State} (h : s.KeepsDescs t) (n : Nat)
include h

theorem State.KeepsDescs.seqAddr : t.seqAddr n = s.seqAddr n := by
  have hlo : t.reg Reg.TAC_SEQ_BASE_LO = s.reg Reg.TAC_SEQ_BASE_LO := h.base _ (by decide)
  have hhi : t.reg Reg.TAC_SEQ_BASE_HI = s.reg Reg.TAC_SEQ_BASE_HI := h.base _ (by decide)
  simp only [State.seqAddr, State.seqBase, State.regN, State.fld', hlo, hhi]

theorem State.KeepsDescs.seqF (o w : Nat) : t.seqF n o w = s.seqF n o w := by
  rw [State.seqF, State.seqF, h.seqAddr, peek_of_mem h.mem]

theorem State.KeepsDescs.seqTid : t.seqTid n = s.seqTid n := h.seqF n 0 4
theorem State.KeepsDescs.seqSt : t.seqSt n = s.seqSt n := congrArg (· / 4096) (h.seqF n 4 2)
theorem State.KeepsDescs.seqFlock : t.seqFlock n = s.seqFlock n := congrArg (· % 4096) (h.seqF n 4 2)
theorem State.KeepsDescs.seqFlag (k : Nat) : t.seqFlag n k = s.seqFlag n k := seqFlag_congr (h.seqF n 7 1) k

end

/-- Every descriptor stands, TAC keeps its course, and nothing is put out. -/
structure State.KeepsSeqs (s t : State) : Prop extends State.KeepsDescs s t where
  course : t.tac.course = s.tac.course
  out : t.out = s.out

theorem State.KeepsSeqs.refl (s : State) : s.KeepsSeqs s := ⟨⟨rfl, fun _ _ => rfl⟩, rfl, rfl⟩

theorem State.KeepsSeqs.trans {s t r : State} (h : s.KeepsSeqs t) (h' : t.KeepsSeqs r) : s.KeepsSeqs r :=
  ⟨h.toKeepsDescs.trans h'.toKeepsDescs, h'.course.trans h.course, h'.out.trans h.out⟩

theorem State.KeepsSeqs.ite {s t r : State} {p : Prop} [Decidable p] (ht : s.KeepsSeqs t) (hr : s.KeepsSeqs r) :
    s.KeepsSeqs (if p then t else r) := by split <;> assumption

theorem keepsSeqs_foldl {α : Type} {f : State → α → State} (hf : ∀ (s : State) a, s.KeepsSeqs (f s a)) (l : List α) (s : State) :
    s.KeepsSeqs (l.foldl f s) :=
  List.foldlRecOn (motive := State.KeepsSeqs s) l f (.refl s) (fun t ht a _ => ht.trans (hf t a))

theorem State.KeepsSeqs.of_eq {s t : State} (hmem : t.mem = s.mem) (hregs : t.regs = s.regs) (hcourse : t.tac.course = s.tac.course)
    (hout : t.out = s.out) : s.KeepsSeqs t := ⟨⟨hmem, fun o _ => reg_congr hregs o⟩, hcourse, hout⟩

section
variable {s t : State} (h : s.KeepsSeqs t)
include h

theorem State.KeepsSeqs.walks : t.tac.walks = s.tac.walks := congrArg (·.1) h.course

theorem State.KeepsSeqs.appends : t.tac.appends = s.tac.appends := congrArg (·.2.2) h.course

section
variable {o : Nat} (ho : ¬ inSeqBase o)
include ho

theorem State.KeepsSeqs.setReg (v : W32) : s.KeepsSeqs (t.setReg o v) :=
  ⟨⟨h.mem, fun o' ho' => (reg_setReg_ne t v (by rintro rfl; exact ho ho')).trans (h.base o' ho')⟩, h.course, h.out⟩

theorem State.KeepsSeqs.setFld (lo w v : Nat) : s.KeepsSeqs (t.setFld o lo w v) := h.setReg ho _
theorem State.KeepsSeqs.setBit (b : Nat) (v : Bool) : s.KeepsSeqs (t.setBit o b v) := h.setReg ho _
theorem State.KeepsSeqs.countSat (lo w n : Nat) : s.KeepsSeqs (t.countSat o lo w n) := h.setReg ho _
theorem State.KeepsSeqs.countWrap (lo w n : Nat) : s.KeepsSeqs (t.countWrap o lo w n) := h.setReg ho _

end

end

section
variable (s : State)

theorem keepsSeqs_activeAdd (d : Int) : s.KeepsSeqs (s.activeAdd d) := (State.KeepsSeqs.refl s).setReg (by decide) _

theorem keepsSeqs_flockSeqAdd (f : Nat) (d : Int) : s.KeepsSeqs (s.flockSeqAdd f d) :=
  (State.KeepsSeqs.refl s).setFld (not_inSeqBase_row (by decide) _) _ _ _

theorem keepsSeqs_event (source sev code status : Nat) (data : List Byte) : s.KeepsSeqs (s.event source sev code status data) :=
  .of_eq rfl rfl rfl rfl

/-! ### Versions without a reference are freed (R327, R346 to R348) -/

theorem keepsSeqs_flockJudge (f : Nat) : s.KeepsSeqs (s.flockJudge f) := by
  unfold State.flockJudge
  extract_lets used q
  have hset (v : Nat) : s.KeepsSeqs (s.setFld (Reg.TAC_FLOCK_SEQ f) 20 2 v) :=
    (State.KeepsSeqs.refl s).setFld (not_inSeqBase_row (by decide) _) _ _ _
  have hstuck (t : State) : t.KeepsSeqs { t with tac := { t.tac with stuck := t.tac.stuck.filter (· != f) } } := .of_eq rfl rfl rfl rfl
  exact .ite ((hset 2).trans (keepsSeqs_event _ _ _ _ _ _)) (.ite ((hset 1).trans (hstuck _)) (.refl s))

theorem keepsSeqs_charge (f n : Nat) : s.KeepsSeqs (s.charge f n) := (State.KeepsSeqs.refl s).setReg (not_inSeqBase_row (by decide) _) _

theorem keepsSeqs_uncharge (f n : Nat) : s.KeepsSeqs (s.uncharge f n) :=
  ((State.KeepsSeqs.refl s).setReg (not_inSeqBase_row (by decide) _) _).trans (keepsSeqs_flockJudge _ f)

theorem keepsSeqs_returnRetired (r : Retire) : s.KeepsSeqs (s.returnRetired r) := by
  unfold State.returnRetired
  extract_lets _ t
  have ht : s.KeepsSeqs t := .ite (.refl s) (.of_eq rfl rfl rfl rfl)
  refine ht.trans (keepsSeqs_foldl (fun u p => ?_) r.pages t)
  obtain ⟨a, c⟩ := p
  refine .trans ?_ (keepsSeqs_uncharge _ _ _)
  exact .of_eq rfl rfl rfl rfl

theorem keepsSeqs_sweepRetired : s.KeepsSeqs s.sweepRetired := by
  unfold State.sweepRetired
  refine .trans ?_ (keepsSeqs_foldl keepsSeqs_returnRetired _ _)
  exact .of_eq rfl rfl rfl rfl

theorem keepsSeqs_retireVersion (n : Nat) (pages : List (Nat × Nat)) : s.KeepsSeqs (s.retireVersion n pages) := .of_eq rfl rfl rfl rfl

/-! ### The answer to a command (R300, R356) -/

/-- A command's status reaches its initiator: the host by the status register, any other on the command port. -/
def State.answered (id st c : Nat) : State := if id == idHost then s.status st c else s.emit (.done 0x08 id c)

theorem tacCmd_open {id off st busy c : Nat} {t : State} {op : State → Nat × State} (hopen : s.tacOpen id off st busy = true)
    (hop : op s = (c, t)) : s.tacCmd id off st busy op = t.answered id st c := by
  unfold State.tacCmd State.answered
  unfold State.tacOpen at hopen
  split at hopen
  · next hhost =>
    obtain ⟨hreach, hidle⟩ : s.hostOpen .command off = true ∧ s.bit st busy = false := by simpa using hopen
    simp only [hhost, if_true, hostCmd_open hreach, State.tacReg, State.unlessBusy, hidle, Bool.false_eq_true, if_false, hop]
  · next hport =>
    obtain ⟨hon, hadmit⟩ : s.tacOn = true ∧ s.admitsReg 37 id .command off 4 = true := by simpa using hopen
    simp only [hport, if_false, Bool.false_eq_true, hon, hadmit, Bool.not_true, hop]

theorem tacAnswer_answered (id st : Nat) {c : Nat} (hc : c < 256) : (s.answered id st c).tacAnswer id st c := by
  unfold State.tacAnswer State.answered
  split
  · exact fld_status s st c hc
  · exact List.getLast?_concat

theorem reg_answered {id st c o : Nat} (h : o ≠ st) : (s.answered id st c).reg o = s.reg o := by
  unfold State.answered
  split
  · exact reg_setFld_ne s _ _ _ h
  · rfl

/-- An answer leaves the descriptors alone. -/
theorem keepsDescs_answered {st : Nat} (hst : ¬ inSeqBase st) (id c : Nat) : s.KeepsDescs (s.answered id st c) := by
  unfold State.answered
  split
  · exact ((State.KeepsSeqs.refl s).setFld hst 0 8 c).toKeepsDescs
  · exact ⟨rfl, fun _ _ => rfl⟩

end

end Sys2Proof.Machine
end

section
/-! PROOFS. Sequence commands (R298, R299, R324). -/

namespace Sys2Proof.Machine

theorem exec_openSeq (id : BitVec 10) (n : BitVec 20) (tid : W32) (f : BitVec 12) (s : State) :
    exec (.openSeq id n tid f) s = .next (s.seqCmd id (fun s => s.doOpen n.toNat tid.toNat f.toNat)) := rfl
theorem exec_fallow (id : BitVec 10) (n : BitVec 20) (s : State) :
    exec (.fallow id n) s = .next (s.seqCmd id (fun s => s.doFallow n.toNat)) := rfl
theorem exec_activate (id : BitVec 10) (n : BitVec 20) (s : State) :
    exec (.activate id n) s = .next (s.seqCmd id (fun s => s.doActivate n.toNat)) := rfl
theorem exec_close (id : BitVec 10) (n : BitVec 20) (s : State) :
    exec (.close id n) s = .next (s.seqCmd id (fun s => s.doClose n.toNat)) := rfl

section
variable (s : State) {n f : Nat}

/-- A register of a row that starts past another register is not that one: the flocks' registers lie past the rest of TAC. -/
theorem row_ne {base o : Nat} (h : o < base) (k : Nat) : base + k ≠ o := by omega

/-! ### The counts of sequences (R298) -/

theorem regN_activeAdd_one (h : s.activeFull = false) : (s.activeAdd 1).regN Reg.TAC_ACTIVE_CNT = s.regN Reg.TAC_ACTIVE_CNT + 1 := by
  have hcnt : s.regN Reg.TAC_ACTIVE_CNT < s.regN Reg.TAC_ACTIVE_MAX := by simpa [State.activeFull] using h
  have hmax : s.regN Reg.TAC_ACTIVE_MAX < 2 ^ 32 := (s.reg _).isLt
  rw [State.activeAdd, State.regN, reg_setReg_same, BitVec.toNat_ofNat]
  omega

theorem regN_activeAdd_neg_one : (s.activeAdd (-1)).regN Reg.TAC_ACTIVE_CNT = s.regN Reg.TAC_ACTIVE_CNT - 1 := by
  have hcnt : s.regN Reg.TAC_ACTIVE_CNT < 2 ^ 32 := (s.reg _).isLt
  rw [State.activeAdd, State.regN, reg_setReg_same, BitVec.toNat_ofNat]
  omega

theorem fld_flockSeqAdd_one (h : s.fld' (Reg.TAC_FLOCK_SEQ f) 0 20 < s.fld' (Reg.TAC_FLOCK_LIM f) 0 20) :
    (s.flockSeqAdd f 1).fld' (Reg.TAC_FLOCK_SEQ f) 0 20 = s.fld' (Reg.TAC_FLOCK_SEQ f) 0 20 + 1 := by
  have hlim : s.fld' (Reg.TAC_FLOCK_LIM f) 0 20 < 2 ^ 20 := Nat.mod_lt _ (by decide)
  rw [State.flockSeqAdd, fld_setFld_same _ _ _ _ _ (by decide)]
  omega

/-! ### A command that is done -/

/-- A command that leaves the descriptors as in `d` and the registers as in `r` answers DONE with them. -/
theorem seqCmd_done {id : BitVec 10} {op : State → Nat × State} {d r : State}
    (hopen : s.tacOpen id.toNat Reg.TAC_CMD_SEQ Reg.TAC_CMD_SEQ_ST 16 = true) (hop : op s = (DONE, r)) (hd : d.KeepsDescs r) :
    d.KeepsDescs (s.seqCmd id op) ∧ (∀ o, o ≠ Reg.TAC_CMD_SEQ_ST → (s.seqCmd id op).reg o = r.reg o) ∧
      (s.seqCmd id op).tacAnswer id.toNat Reg.TAC_CMD_SEQ_ST DONE := by
  rw [State.seqCmd, tacCmd_open s hopen hop]
  exact ⟨hd.trans (keepsDescs_answered r (by decide) _ _), fun o ho => reg_answered r ho, tacAnswer_answered r _ _ (by decide)⟩

/-! ### OPEN (R298) -/

/-- The descriptor of a sequence opened (Table 7.3). -/
def State.openDesc (s : State) (n tid f : Nat) : State := ((s.zero (s.seqAddr n) 64).setSeqF n 0 4 tid).setSeqF n 4 2 (f + 4096)

theorem openDesc_spec {tid : Nat} (htid : tid < 2 ^ 32) (hf : f < 4096) :
    (s.openDesc n tid f).seqSt n = 1 ∧ (s.openDesc n tid f).seqTid n = tid ∧ (s.openDesc n tid f).seqFlock n = f ∧
      (∀ o w, 6 ≤ o → o + w ≤ 64 → (s.openDesc n tid f).seqF n o w = 0) ∧ s.SameMemoryOutside (s.openDesc n tid f) (s.seqAddr n) 64 := by
  unfold State.openDesc
  refine ⟨?_, ?_, ?_, fun o w ho hw => ?_, ?_⟩
  · rw [seqSt_setSeqF]
    omega
  · rw [State.seqTid, seqF_setSeqF_other _ n _ (by decide), seqF_setSeqF_same]
    exact Nat.mod_eq_of_lt htid
  · rw [seqFlock_setSeqF]
    omega
  · rw [seqF_setSeqF_other _ n _ (by omega), seqF_setSeqF_other _ n _ (by omega), seqF_zero s n hw]
  · exact ((sameMemoryOutside_zero s _ 64).trans (sameMemoryOutside_descriptor (s.zero (s.seqAddr n) 64) n tid (by decide))).trans
      (sameMemoryOutside_descriptor ((s.zero (s.seqAddr n) 64).setSeqF n 0 4 tid) n (f + 4096) (by decide))

theorem doOpen_done {tid : Nat} (hst : s.seqSt n = 0) (htid : tid % 2 ^ 20 = n) (hflock : s.flockSt f = 1)
    (hlim : s.fld' (Reg.TAC_FLOCK_SEQ f) 0 20 < s.fld' (Reg.TAC_FLOCK_LIM f) 0 20) (hfull : s.activeFull = false) :
    s.doOpen n tid f = (DONE, ((s.openDesc n tid f).activeAdd 1).flockSeqAdd f 1) := by
  have hslot : tid % 1048576 = n := htid
  simp [State.doOpen, hst, hslot, hflock, hlim.not_ge, hfull, topCode, State.openDesc]

theorem openSeq_spec {id : BitVec 10} {tid : Nat} (htid : tid < 2 ^ 32) (hf : f < 4096)
    (hopen : s.tacOpen id.toNat Reg.TAC_CMD_SEQ Reg.TAC_CMD_SEQ_ST 16 = true) (hst : s.seqSt n = 0) (hslot : tid % 2 ^ 20 = n)
    (hflock : s.flockSt f = 1) (hlim : s.fld' (Reg.TAC_FLOCK_SEQ f) 0 20 < s.fld' (Reg.TAC_FLOCK_LIM f) 0 20) (hfull : s.activeFull = false) :
    let t := s.seqCmd id (fun s => s.doOpen n tid f)
    t.seqSt n = 1 ∧ t.seqTid n = tid ∧ t.seqFlock n = f ∧ t.seqPages n = 0 ∧ t.seqNext n = 0 ∧
      t.regN Reg.TAC_ACTIVE_CNT = s.regN Reg.TAC_ACTIVE_CNT + 1 ∧
      t.fld' (Reg.TAC_FLOCK_SEQ f) 0 20 = s.fld' (Reg.TAC_FLOCK_SEQ f) 0 20 + 1 ∧
      t.tacAnswer id.toNat Reg.TAC_CMD_SEQ_ST DONE ∧ s.SameMemoryOutside t (s.seqAddr n) 64 := by
  intro t
  have hcounts : (s.openDesc n tid f).KeepsDescs (((s.openDesc n tid f).activeAdd 1).flockSeqAdd f 1) :=
    ((keepsSeqs_activeAdd _ 1).trans (keepsSeqs_flockSeqAdd _ f 1)).toKeepsDescs
  obtain ⟨hdescs, hregs, hans⟩ := seqCmd_done s (op := fun s => s.doOpen n tid f) hopen (doOpen_done s hst hslot hflock hlim hfull) hcounts
  obtain ⟨h1, htid', hflock', hzero, hmem⟩ := openDesc_spec s (n := n) htid hf
  have hcnt : t.regN Reg.TAC_ACTIVE_CNT = (s.activeAdd 1).regN Reg.TAC_ACTIVE_CNT := by
    rw [State.regN, hregs _ (by decide), State.flockSeqAdd, reg_setFld_ne _ _ _ _ (row_ne (by decide) _).symm]
    rfl
  have hflocks (o : Nat) (ho : o ≠ Reg.TAC_ACTIVE_CNT) : ((s.openDesc n tid f).activeAdd 1).fld' o 0 20 = s.fld' o 0 20 :=
    congrArg (fieldOf · 0 20) (reg_setReg_ne _ _ ho)
  have hseq : t.fld' (Reg.TAC_FLOCK_SEQ f) 0 20 = s.fld' (Reg.TAC_FLOCK_SEQ f) 0 20 + 1 := by
    have hadd := fld_flockSeqAdd_one ((s.openDesc n tid f).activeAdd 1) (f := f)
    rw [hflocks _ (row_ne (by decide) _), hflocks _ (row_ne (by decide) _)] at hadd
    rw [State.fld', hregs _ (row_ne (by decide) _)]
    exact hadd hlim
  exact ⟨(hdescs.seqSt n).trans h1, (hdescs.seqTid n).trans htid', (hdescs.seqFlock n).trans hflock',
    (hdescs.seqF n 6 1).trans (hzero 6 1 (by decide) (by decide)), (hdescs.seqF n 24 3).trans (hzero 24 3 (by decide) (by decide)),
    hcnt.trans (regN_activeAdd_one s hfull), hseq, hans, hmem.congr hdescs.mem⟩

/-! ### FALLOW and ACTIVATE (R298, R324) -/

theorem fallow_spec {id : BitVec 10} (hopen : s.tacOpen id.toNat Reg.TAC_CMD_SEQ Reg.TAC_CMD_SEQ_ST 16 = true) (hst : s.seqSt n = 1) :
    let t := s.seqCmd id (fun s => s.doFallow n)
    t.seqSt n = 2 ∧ t.seqFlock n = s.seqFlock n ∧ t.regN Reg.TAC_ACTIVE_CNT = s.regN Reg.TAC_ACTIVE_CNT - 1 ∧
      t.tacAnswer id.toNat Reg.TAC_CMD_SEQ_ST DONE ∧ s.SameMemoryOutside t (s.seqAddr n + 4) 2 := by
  intro t
  have hdone : s.doFallow n = (DONE, (s.setSeqSt n 2).activeAdd (-1)) := by simp [State.doFallow, hst]
  obtain ⟨hdescs, hregs, hans⟩ := seqCmd_done s (op := fun s => s.doFallow n) hopen hdone (keepsSeqs_activeAdd _ _).toKeepsDescs
  have hcnt : t.regN Reg.TAC_ACTIVE_CNT = ((s.setSeqSt n 2).activeAdd (-1)).regN Reg.TAC_ACTIVE_CNT :=
    congrArg BitVec.toNat (hregs _ (by decide))
  exact ⟨(hdescs.seqSt n).trans (seqSt_setSeqSt s n (by decide)), (hdescs.seqFlock n).trans (seqFlock_setSeqSt s n 2),
    hcnt.trans (regN_activeAdd_neg_one _), hans, (sameMemoryOutside_setSeqSt s n 2).congr hdescs.mem⟩

/-- An ACTIVATE ends a reclamation: what was reclaimed leaves the sequence TRUNCATED (R324). -/
def State.endReclaim (s : State) (n : Nat) : State := if s.seqFlag n 2 then (s.setSeqFlag n 2 false).setSeqFlag n 1 true else s

theorem endReclaim_spec (n : Nat) : (s.endReclaim n).seqSt n = s.seqSt n ∧ (s.endReclaim n).seqFlag n 2 = false ∧
    (s.endReclaim n).seqFlag n 1 = (s.seqFlag n 1 || s.seqFlag n 2) ∧ (s.endReclaim n).regs = s.regs ∧
    s.SameMemoryOutside (s.endReclaim n) (s.seqAddr n + 7) 1 := by
  unfold State.endReclaim
  split
  · next hrec =>
    refine ⟨?_, ?_, ?_, rfl, (sameMemoryOutside_setSeqFlag s n 2 false).trans (sameMemoryOutside_setSeqFlag (s.setSeqFlag n 2 false) n 1 true)⟩
    · rw [seqSt_setSeqFlag, seqSt_setSeqFlag]
    · rw [seqFlag_setSeqFlag_other _ n (by decide) (by decide), seqFlag_setSeqFlag_same s n (by decide)]
    · rw [seqFlag_setSeqFlag_same _ n (by decide), hrec, Bool.or_true]
  · next hrec =>
    rw [Bool.not_eq_true] at hrec
    exact ⟨rfl, hrec, by rw [hrec, Bool.or_false], rfl, fun _ _ => rfl⟩

theorem activate_spec {id : BitVec 10} (hopen : s.tacOpen id.toNat Reg.TAC_CMD_SEQ Reg.TAC_CMD_SEQ_ST 16 = true) (hst : s.seqSt n = 2)
    (hfull : s.activeFull = false) :
    let t := s.seqCmd id (fun s => s.doActivate n)
    t.seqSt n = 1 ∧ t.seqFlag n 2 = false ∧ t.seqFlag n 1 = (s.seqFlag n 1 || s.seqFlag n 2) ∧
      t.regN Reg.TAC_ACTIVE_CNT = s.regN Reg.TAC_ACTIVE_CNT + 1 ∧ t.tacAnswer id.toNat Reg.TAC_CMD_SEQ_ST DONE ∧
      s.SameMemoryOutside t (s.seqAddr n + 4) 4 := by
  intro t
  let r := (s.setSeqSt n 1).activeAdd 1
  have hcount : (s.setSeqSt n 1).KeepsDescs r := (keepsSeqs_activeAdd _ 1).toKeepsDescs
  have hdone : s.doActivate n = (DONE, r.endReclaim n) := by
    simp [State.doActivate, hst, hfull, r, State.endReclaim]
  obtain ⟨hdescs, hregs, hans⟩ := seqCmd_done s (op := fun s => s.doActivate n) hopen hdone ⟨rfl, fun _ _ => rfl⟩
  obtain ⟨h1, hrec, htrunc, hregs', hmem⟩ := endReclaim_spec r n
  have hcnt : t.regN Reg.TAC_ACTIVE_CNT = r.regN Reg.TAC_ACTIVE_CNT :=
    congrArg BitVec.toNat ((hregs _ (by decide)).trans (reg_congr hregs' _))
  have hflags (k : Nat) : r.seqFlag n k = s.seqFlag n k := (hcount.seqFlag n k).trans (seqFlag_setSeqSt s n 1 k)
  have hstate : s.SameMemoryOutside r (s.seqAddr n + 4) 4 :=
    ((sameMemoryOutside_setSeqSt s n 1).widen _ 4 le_rfl (by omega)).congr hcount.mem
  have haddr : r.seqAddr n = s.seqAddr n := hcount.seqAddr n
  refine ⟨(hdescs.seqSt n).trans (h1.trans ((hcount.seqSt n).trans (seqSt_setSeqSt s n (by decide)))), (hdescs.seqFlag n 2).trans hrec, ?_,
    hcnt.trans (regN_activeAdd_one _ hfull), hans, ?_⟩
  · rw [hdescs.seqFlag n 1, htrunc, hflags, hflags]
  · exact (hstate.trans (hmem.widen _ 4 (by omega) (by omega))).congr hdescs.mem

/-! ### CLOSE (R299) -/

theorem doClose_done (hst : s.seqSt n ≠ 0) : ∃ r, s.doClose n = (DONE, r) ∧ (s.zero (s.seqAddr n) 64).KeepsDescs r := by
  unfold State.doClose
  rw [if_neg (by simpa using hst)]
  extract_lets f t r v _ w
  have ht : s.KeepsSeqs t := .ite (keepsSeqs_activeAdd s _) (.refl s)
  have hr : s.KeepsDescs r := ((ht.trans (keepsSeqs_flockSeqAdd t f _)).trans (keepsSeqs_retireVersion _ n _)).toKeepsDescs
  have hv : (s.zero (s.seqAddr n) 64).KeepsDescs v := ⟨by simp only [v, State.zero, hr.mem, hr.seqAddr], hr.base⟩
  have hw : v.KeepsDescs w := ⟨rfl, fun _ _ => rfl⟩
  exact ⟨_, rfl, (hv.trans hw).trans (keepsSeqs_sweepRetired w).toKeepsDescs⟩

theorem close_spec {id : BitVec 10} (hopen : s.tacOpen id.toNat Reg.TAC_CMD_SEQ Reg.TAC_CMD_SEQ_ST 16 = true) (hst : s.seqSt n ≠ 0) :
    let t := s.seqCmd id (fun s => s.doClose n)
    t.seqSt n = 0 ∧ t.seqTid n = 0 ∧ t.tacAnswer id.toNat Reg.TAC_CMD_SEQ_ST DONE ∧ s.SameMemoryOutside t (s.seqAddr n) 64 := by
  intro t
  obtain ⟨r, hdone, hclosed⟩ := doClose_done s hst
  obtain ⟨hdescs, -, hans⟩ := seqCmd_done s (op := fun s => s.doClose n) hopen hdone hclosed
  have hst' : (s.zero (s.seqAddr n) 64).seqSt n = 0 := by rw [State.seqSt, seqF_zero s n (by decide)]
  exact ⟨(hdescs.seqSt n).trans hst', (hdescs.seqTid n).trans (seqF_zero s n (by decide)), hans,
    (sameMemoryOutside_zero s _ 64).congr hdescs.mem⟩

end

/-- Settles O22: each command finds its sequence in the state it asks for, writes the descriptor, counts, and answers DONE. -/
theorem sequenceCommandsHaveTheirEffect : Obligations.SequenceCommandsHaveTheirEffect :=
  ⟨fun id n tid f s hopen hst hslot hflock hlim hfull =>
      ⟨_, exec_openSeq id n tid f s, openSeq_spec s tid.isLt f.isLt hopen hst hslot hflock hlim hfull⟩,
    fun id n s hopen hst => ⟨_, exec_fallow id n s, fallow_spec s hopen hst⟩,
    fun id n s hopen hst hfull => ⟨_, exec_activate id n s, activate_spec s hopen hst hfull⟩,
    fun id n s hopen hst => ⟨_, exec_close id n s, close_spec s hopen hst⟩⟩

end Sys2Proof.Machine
end

section
/-! PROOFS. Flock commands (R348 to R350, R512). -/

namespace Sys2Proof.Machine

theorem exec_flockCreate (id : BitVec 10) (f : BitVec 12) (q lim : W32) (s : State) :
    exec (.flockCreate id f q lim) s = .next (s.flockCmd id (fun s => s.doFlockCreate f.toNat q.toNat lim.toNat)) := rfl
theorem exec_setQuota (id : BitVec 10) (f : BitVec 12) (q lim : W32) (s : State) :
    exec (.setQuota id f q lim) s = .next (s.flockCmd id (fun s => s.doSetQuota f.toNat q.toNat lim.toNat)) := rfl
theorem exec_disableFlock (id : BitVec 10) (f : BitVec 12) (s : State) :
    exec (.disableFlock id f) s = .next (s.flockCmd id (fun s => s.doDisable f.toNat)) := rfl

/-! ### The registers of a flock (Table 7.10) -/

/-- The four registers of a flock stand. -/
def State.KeepsFlock (f : Nat) (s t : State) : Prop := ∀ o, 0x820000 + 16 * f ≤ o → o < 0x820010 + 16 * f → t.reg o = s.reg o

theorem State.KeepsFlock.trans {f : Nat} {s t r : State} (h : State.KeepsFlock f s t) (h' : State.KeepsFlock f t r) : State.KeepsFlock f s r :=
  fun o hlo hhi => (h' o hlo hhi).trans (h o hlo hhi)

section
variable {f : Nat} {s t : State} (h : State.KeepsFlock f s t)
include h

theorem State.KeepsFlock.quota : t.reg (Reg.TAC_FLOCK_Q f) = s.reg (Reg.TAC_FLOCK_Q f) :=
  h _ (Nat.add_le_add_right (by decide) _) (Nat.add_lt_add_right (by decide) _)

theorem State.KeepsFlock.limit : t.regN (Reg.TAC_FLOCK_LIM f) = s.regN (Reg.TAC_FLOCK_LIM f) :=
  congrArg BitVec.toNat (h _ (Nat.add_le_add_right (by decide) _) (Nat.add_lt_add_right (by decide) _))

theorem State.KeepsFlock.used : t.regN (Reg.TAC_FLOCK_USED f) = s.regN (Reg.TAC_FLOCK_USED f) :=
  congrArg BitVec.toNat (h _ (Nat.add_le_add_right (by decide) _) (Nat.add_lt_add_right (by decide) _))

theorem State.KeepsFlock.flockSt : t.flockSt f = s.flockSt f :=
  congrArg (fieldOf · 20 2) (h _ (Nat.add_le_add_right (by decide) _) (Nat.add_lt_add_right (by decide) _))

end

section
variable (s : State) {f : Nat}

/-- Registers of one row at different places in it are not the same. -/
theorem row_ne_row {a b : Nat} (h : a ≠ b) (k : Nat) : a + k ≠ b + k := fun e => h (Nat.add_right_cancel e)

/-- A runtime request counted is no flock's register (Table 11.10). -/
theorem keepsFlock_rtCount (hf : f < 4096) (ok : Bool) : State.KeepsFlock f s (s.rtCount ok) := fun o _ hhi =>
  reg_setFld_ne s _ _ _ (by unfold Reg.LTH_RT_CNT; omega)

/-- A command that leaves the registers as in `r` answers DONE with the flock as it is there. -/
theorem flockCmd_done {id : BitVec 10} {op : State → Nat × State} {r : State}
    (hopen : s.tacOpen id.toNat Reg.TAC_CMD_FLOCK Reg.TAC_CMD_FLOCK_ST 8 = true) (hop : op s = (DONE, r)) (f : Nat) :
    State.KeepsFlock f r (s.flockCmd id op) ∧ (s.flockCmd id op).tacAnswer id.toNat Reg.TAC_CMD_FLOCK_ST DONE := by
  rw [State.flockCmd, tacCmd_open s hopen hop]
  exact ⟨fun o hlo _ => reg_answered r (by unfold Reg.TAC_CMD_FLOCK_ST; omega), tacAnswer_answered r _ _ (by decide)⟩

/-- STATE of a flock after it is set, the quotas standing. -/
theorem setFlockSt_spec {t : State} {v : Nat} (hv : v < 4) (ht : t.regs = (s.setFld (Reg.TAC_FLOCK_SEQ f) 20 2 v).regs) :
    t.flockSt f = v ∧ t.reg (Reg.TAC_FLOCK_Q f) = s.reg (Reg.TAC_FLOCK_Q f) ∧ t.reg (Reg.TAC_FLOCK_LIM f) = s.reg (Reg.TAC_FLOCK_LIM f) := by
  have hreg := reg_congr ht
  refine ⟨?_, (hreg _).trans (reg_setFld_ne s _ _ _ (row_ne_row (by decide) _)),
    (hreg _).trans (reg_setFld_ne s _ _ _ (row_ne_row (by decide) _))⟩
  exact (congrArg (fieldOf · 20 2) (hreg _)).trans ((fld_setFld_same s _ 20 2 v (by decide)).trans (Nat.mod_eq_of_lt hv))

/-- A flock's quotas after they are set, its STATE and its usage standing. -/
theorem setQuotas_spec (f : Nat) (q : W32) (lim : Nat) : let t := s.setQuotas f q.toNat lim
    t.reg (Reg.TAC_FLOCK_Q f) = q ∧ t.regN (Reg.TAC_FLOCK_LIM f) = lim % 2 ^ 28 ∧
      t.regN (Reg.TAC_FLOCK_USED f) = s.regN (Reg.TAC_FLOCK_USED f) ∧ t.flockSt f = s.flockSt f := by
  intro t
  have hother (o : Nat) (hq : o ≠ Reg.TAC_FLOCK_Q f) (hl : o ≠ Reg.TAC_FLOCK_LIM f) : t.reg o = s.reg o :=
    (reg_setReg_ne _ _ hl).trans (reg_setReg_ne s _ hq)
  refine ⟨?_, ?_, congrArg BitVec.toNat (hother _ (row_ne_row (by decide) _) (row_ne_row (by decide) _)),
    congrArg (fieldOf · 20 2) (hother _ (row_ne_row (by decide) _) (row_ne_row (by decide) _))⟩
  · exact (reg_setReg_ne _ _ (row_ne_row (by decide) _)).trans ((reg_setReg_same s _ _).trans (BitVec.ofNat_toNat 32 q))
  · have hlim : t.reg (Reg.TAC_FLOCK_LIM f) = BitVec.ofNat 32 (lim % 2 ^ 28) := reg_setReg_same _ _ _
    rw [State.regN, hlim, BitVec.toNat_ofNat]
    omega

/-- Usage puts an enabled flock in or out of OVER_QUOTA (R348, R350, R352), its quotas standing. -/
theorem flockJudge_spec (h : s.flockSt f = 1 ∨ s.flockSt f = 2) : let t := s.flockJudge f
    t.flockSt f = (if s.regN (Reg.TAC_FLOCK_Q f) < s.regN (Reg.TAC_FLOCK_USED f) then 2 else 1) ∧
      t.reg (Reg.TAC_FLOCK_Q f) = s.reg (Reg.TAC_FLOCK_Q f) ∧ t.reg (Reg.TAC_FLOCK_LIM f) = s.reg (Reg.TAC_FLOCK_LIM f) := by
  unfold State.flockJudge
  have hstuck (u : State) : ({ u with tac := { u.tac with stuck := u.tac.stuck.filter (· != f) } } : State).regs = u.regs := rfl
  by_cases hover : s.regN (Reg.TAC_FLOCK_Q f) < s.regN (Reg.TAC_FLOCK_USED f)
  · simp only [hover, if_true, hover.not_ge, decide_true, decide_false, Bool.and_true, Bool.and_false, Bool.false_eq_true, if_false]
    rcases h with h | h
    · rw [h]
      exact setFlockSt_spec s (v := 2) (by decide) (State.event_regs _ _ _ _ _ _)
    · rw [h]
      exact ⟨h, rfl, rfl⟩
  · simp only [hover, if_false, not_lt.1 hover, decide_true, decide_false, Bool.and_true, Bool.and_false, Bool.false_eq_true]
    rcases h with h | h
    · rw [h]
      exact ⟨h, rfl, rfl⟩
    · rw [h]
      exact setFlockSt_spec s (v := 1) (by decide) (hstuck _)

/-! ### CREATE, SET_QUOTA and DISABLE (R349, R350) -/

/-- Both ways of a SET_QUOTA, a cut and a raise that fits, leave the new quotas judged by the flock's usage. -/
theorem doSetQuota_done {q : W32} {lim : Nat} (hf : f < 4096) (hst : s.flockSt f ≠ 0) (hlth : s.lthState = 3)
    (hfits : s.quotaFits f q.toNat = true) : ∃ r, s.doSetQuota f q.toNat lim = (DONE, r.flockJudge f) ∧ State.KeepsFlock f (s.setQuotas f q.toNat lim) r := by
  unfold State.doSetQuota
  extract_lets cut
  rw [if_neg (by simpa using hst)]
  by_cases hcut : cut = true
  · exact ⟨_, by rw [if_pos hcut], fun _ _ _ => rfl⟩
  · exact ⟨_, by rw [if_neg hcut, if_neg (by simp [hlth]), if_pos hfits], keepsFlock_rtCount _ hf true⟩

variable {id : BitVec 10} {q : W32} {lim : Nat} (hopen : s.tacOpen id.toNat Reg.TAC_CMD_FLOCK Reg.TAC_CMD_FLOCK_ST 8 = true)
include hopen

theorem flockCreate_spec (hf : f < 4096) (hst : s.flockSt f = 0) (hlth : s.lthState = 3) (hfits : s.quotaFits f q.toNat = true) :
    let t := s.flockCmd id (fun s => s.doFlockCreate f q.toNat lim)
    t.flockSt f = 1 ∧ t.reg (Reg.TAC_FLOCK_Q f) = q ∧ t.regN (Reg.TAC_FLOCK_LIM f) = lim % 2 ^ 28 ∧
      t.tacAnswer id.toNat Reg.TAC_CMD_FLOCK_ST DONE := by
  intro t
  let r := (s.setQuotas f q.toNat lim).setFld (Reg.TAC_FLOCK_SEQ f) 20 2 1
  have hdone : s.doFlockCreate f q.toNat lim = (DONE, r.rtCount true) := by simp [State.doFlockCreate, hst, hlth, hfits, topCode, r]
  obtain ⟨hkept, hans⟩ := flockCmd_done s (op := fun s => s.doFlockCreate f q.toNat lim) hopen hdone f
  have hkeep : State.KeepsFlock f r t := (keepsFlock_rtCount r hf true).trans hkept
  obtain ⟨h1, hq, hlim⟩ := setFlockSt_spec (s.setQuotas f q.toNat lim) (t := r) (by decide) rfl
  obtain ⟨hq', hlim', -, -⟩ := setQuotas_spec s f q lim
  exact ⟨hkeep.flockSt.trans h1, hkeep.quota.trans (hq.trans hq'), hkeep.limit.trans ((congrArg BitVec.toNat hlim).trans hlim'), hans⟩

theorem setQuota_spec (hf : f < 4096) (hst : s.flockSt f = 1 ∨ s.flockSt f = 2) (hlth : s.lthState = 3) (hfits : s.quotaFits f q.toNat = true) :
    let t := s.flockCmd id (fun s => s.doSetQuota f q.toNat lim)
    t.reg (Reg.TAC_FLOCK_Q f) = q ∧ t.regN (Reg.TAC_FLOCK_LIM f) = lim % 2 ^ 28 ∧
      t.flockSt f = (if q.toNat < s.regN (Reg.TAC_FLOCK_USED f) then 2 else 1) ∧ t.tacAnswer id.toNat Reg.TAC_CMD_FLOCK_ST DONE := by
  intro t
  obtain ⟨r, hdone, hset⟩ := doSetQuota_done s (lim := lim) hf (by omega) hlth hfits
  obtain ⟨hkeep, hans⟩ := flockCmd_done s (op := fun s => s.doSetQuota f q.toNat lim) hopen hdone f
  obtain ⟨hq, hlim, hused, hst'⟩ := setQuotas_spec s f q lim
  have hquota : r.regN (Reg.TAC_FLOCK_Q f) = q.toNat := congrArg BitVec.toNat (hset.quota.trans hq)
  have henabled : r.flockSt f = 1 ∨ r.flockSt f = 2 := by rwa [hset.flockSt, hst']
  obtain ⟨hjudged, hq', hlim'⟩ := flockJudge_spec r henabled
  rw [hquota, hset.used, hused] at hjudged
  exact ⟨hkeep.quota.trans (hq'.trans (hset.quota.trans hq)),
    hkeep.limit.trans ((congrArg BitVec.toNat hlim').trans (hset.limit.trans hlim)), hkeep.flockSt.trans hjudged, hans⟩

theorem disableFlock_spec (hst : s.flockSt f ≠ 0) (hseq : s.fld' (Reg.TAC_FLOCK_SEQ f) 0 20 = 0) :
    let t := s.flockCmd id (fun s => s.doDisable f)
    t.flockSt f = 0 ∧ t.tacAnswer id.toNat Reg.TAC_CMD_FLOCK_ST DONE := by
  intro t
  have hdone : s.doDisable f = (DONE, s.setFld (Reg.TAC_FLOCK_SEQ f) 20 2 0) := by simp [State.doDisable, hst, hseq]
  obtain ⟨hkeep, hans⟩ := flockCmd_done s (op := fun s => s.doDisable f) hopen hdone f
  exact ⟨hkeep.flockSt.trans (setFlockSt_spec s (by decide) rfl).1, hans⟩

end

/-- Settles O24: each command passes the checks of its rules, sets the flock's registers, and answers DONE. -/
theorem flockCommandsHaveTheirEffect : Obligations.FlockCommandsHaveTheirEffect :=
  ⟨fun id f q lim s hopen hst hlth hfits => ⟨_, exec_flockCreate id f q lim s, flockCreate_spec s hopen f.isLt hst hlth hfits⟩,
    fun id f q lim s hopen hst hlth hfits => ⟨_, exec_setQuota id f q lim s, setQuota_spec s hopen f.isLt hst hlth hfits⟩,
    fun id f s hopen hst hseq => ⟨_, exec_disableFlock id f s, disableFlock_spec s hopen hst hseq⟩⟩

end Sys2Proof.Machine
end

section
/-! PROOFS. What accesses to memory, signals and edits of page tables leave of TAC's course: its walks, the step of the reclaimer and the appends of
the step (R18, R272, R303, R304, R325 to R328, R529, R531, R542, R573). -/

namespace Sys2Proof.Machine

section
variable (s : State)

/-! ### Reads that correct or log an error (R529, R531, R542) -/

theorem keepsSeqs_logError (addr id kind nsym array bank dq : Nat) : s.KeepsSeqs (s.logError addr id kind nsym array bank dq) := by
  unfold State.logError
  extract_lets head newest same e _ t u
  have ht : s.KeepsSeqs t := .of_eq rfl rfl rfl rfl
  have hu : s.KeepsSeqs u := .ite (ht.setBit (o := Reg.MEM_STATUS_W1C) (by decide) _ _) ht
  split
  · cases newest <;> exact .of_eq rfl rfl rfl rfl
  · exact (hu.setFld (o := Reg.MEM_LOG_HEAD) (by decide) _ _ _).countWrap (by decide) _ _ _

theorem keepsSeqs_corrected (id array loc kindX : Nat) : s.KeepsSeqs (s.corrected id array loc kindX) := by
  unfold State.corrected
  extract_lets n dram pins t _ u
  have hheal : s.KeepsSeqs (s.heal array loc) := .of_eq rfl rfl rfl rfl
  have ht : s.KeepsSeqs t := hheal.countSat (by split <;> decide) _ _ _
  have hu : s.KeepsSeqs u := ht.trans (.of_eq rfl rfl rfl rfl)
  exact .ite (hu.trans (keepsSeqs_logError _ _ _ _ _ _ _ _)) (hu.trans (keepsSeqs_logError _ _ _ _ _ _ _ _))

theorem keepsSeqs_raiseStepDoubt : s.KeepsSeqs s.raiseStepDoubt := by
  refine State.KeepsSeqs.countSat ?_ (o := Reg.SAF_DOUBT_CNT) (by decide) _ _ _
  exact .of_eq rfl rfl rfl rfl

theorem keepsSeqs_uncorrectable (id array loc kindX : Nat) : s.KeepsSeqs (s.uncorrectable id array loc kindX) := by
  unfold State.uncorrectable
  extract_lets dram inj t _ _ u addr kind v w
  have ht : s.KeepsSeqs t := (State.KeepsSeqs.refl s).countSat (by split <;> decide) _ _ _
  have hu : s.KeepsSeqs u := (ht.setBit (o := Reg.MEM_STATUS_W1C) (by decide) _ _).trans (.of_eq rfl rfl rfl rfl)
  have hw : s.KeepsSeqs w := (hu.trans (keepsSeqs_logError u _ _ _ _ _ _ _)).trans (keepsSeqs_event v _ _ _ _ _)
  exact .ite (hw.trans (keepsSeqs_raiseStepDoubt w)) hw

/-- A read changes no byte: damage beside the data is corrected, or the access fails. -/
theorem keepsSeqs_checkRead (id a n kindX : Nat) : s.KeepsSeqs (s.checkRead id a n kindX).2 := by
  unfold State.checkRead
  split
  · exact .refl s
  · refine List.foldlRecOn (motive := fun p : Bool × State => s.KeepsSeqs p.2) _ _ (.refl s) (fun p hp xy _ => ?_)
    obtain ⟨ok, t⟩ := p
    obtain ⟨x, y⟩ := xy
    dsimp -zeta only
    extract_lets d u
    have hu : s.KeepsSeqs u := .ite (hp.countSat (o := Reg.MEM_INJ_CNT) (by decide) _ _ _) hp
    split
    · exact hp
    · split
      · exact hu.trans (keepsSeqs_corrected u _ _ _ _)
      · exact hu.trans (keepsSeqs_uncorrectable u _ _ _ _)

/-! ### Writes (R18, R532, R554, R573) -/

theorem course_foldl {α : Type} {f : State → α → State} (hf : ∀ (s : State) a, (f s a).tac.course = s.tac.course) (l : List α) (s : State) :
    (l.foldl f s).tac.course = s.tac.course :=
  List.foldlRecOn (motive := fun t : State => t.tac.course = s.tac.course) l f rfl (fun t ht a _ => (hf t a).trans ht)

theorem drawSyms_tac (m n : Nat) : (s.drawSyms m n).2.tac = s.tac := by
  induction n with
  | zero => rfl
  | succ n ih => exact ih

theorem course_rawStore (id a : Nat) (bs : List Byte) : (s.rawStore id a bs).2.tac.course = s.tac.course := by
  unfold State.rawStore
  extract_lets n bad t u
  have hu : u.tac.course = s.tac.course := by
    unfold u t
    split
    · rfl
    · exact course_foldl (f := fun s (x, y) => s.heal x y) (fun _ _ => rfl) _ s
  split
  · exact (keepsSeqs_checkRead s id a n 0).course
  · split
    · split
      · exact (congrArg Tac.course (drawSyms_tac u _ _)).trans hu
      · exact hu
    · exact hu

theorem refuseAccess_tac (h : Option Nat) (id : Nat) (k : Kind) (a : Nat) : (s.refuseAccess h id k a).tac = s.tac := by
  unfold State.refuseAccess State.fencedSpeaker
  dsimp only
  split <;> split <;> rfl

theorem course_busWrite (id a : Nat) (bs : List Byte) : (s.busWrite id a bs).2.tac.course = s.tac.course := by
  unfold State.busWrite
  split
  · exact congrArg Tac.course (refuseAccess_tac s _ _ _ _)
  split
  · rfl
  split
  · rfl
  split
  · rfl
  exact course_rawStore s id a bs

/-! ### A command issued to a tile (R217, R272, R291) -/

theorem setChan_tac (n : Nat) (c : Chan) : (s.setChan n c).tac = s.tac := by
  unfold State.setChan
  extract_lets _ t st u v l w
  have hu : u.tac = s.tac := by
    unfold u
    split
    · rfl
    · exact State.setFld_tac t _ _ _ _
  have hv : v.tac = u.tac := (State.setFld_tac _ _ _ _ _).trans ((State.setBit_tac _ _ _ _).trans (State.setBit_tac _ _ _ _))
  have hw : w.tac = v.tac := (State.setReg_tac _ _ _).trans (State.setReg_tac _ _ _)
  exact (State.setBit_tac w _ _ _).trans (hw.trans (hv.trans hu))

theorem grant_tac (w : Waiter) : (s.grant w).tac = s.tac := by
  cases w with
  | chan n => exact setChan_tac s n _
  | batch q => rfl
  | set n => rfl
  | tile t q => cases q <;> rfl

theorem serveOne_tac (w : SigWait) : (s.serveOne w).tac = s.tac := by
  unfold State.serveOne
  split
  · exact grant_tac _ _
  · rfl

theorem serve_tac (sig : Nat) : (s.serve sig).tac = s.tac :=
  List.foldlRecOn (motive := fun t : State => t.tac = s.tac) _ State.serveOne rfl (fun t ht w _ => (serveOne_tac t w).trans ht)

theorem waitOn_tac (w : SigWait) : (s.waitOn w).tac = s.tac := by
  unfold State.waitOn
  split
  · rfl
  · exact serve_tac _ _

theorem armQueue_tac (n : Nat) (q : TileQueue) : (s.armQueue n q).tac = s.tac := by
  unfold State.armQueue
  split
  · split
    · exact waitOn_tac s _
    · rfl
  · rfl

theorem addRefs_tac (hs : List Nat) : (s.addRefs hs).tac = s.tac :=
  List.foldlRecOn (motive := fun t : State => t.tac = s.tac) hs State.addRef rfl (fun _ ht _ _ => ht)

theorem tileEnqueue_tac (n : Nat) (q : TileQueue) (id : Nat) (c : List Byte) : (s.tileEnqueue n q id c).2.tac = s.tac := by
  unfold State.tileEnqueue
  extract_lets x code l y
  split
  · exact ((armQueue_tac _ n .background).trans (armQueue_tac _ n .stage)).trans (addRefs_tac _ _)
  · rfl

/-! ### Edits of a page table (R325 to R328) -/

theorem course_takePage (c : Nat) (floor : Bool) : (s.takePage c floor).2.tac.course = s.tac.course := by
  unfold State.takePage
  dsimp only
  split <;> rfl

theorem course_takeBlock : s.takeBlock.2.tac.course = s.tac.course := by
  unfold State.takeBlock
  dsimp only
  split <;> rfl

theorem course_edit {n : Nat} {new : List Nat} {gone : List (Nat × Nat)} {t : State} (h : s.edit n new gone = some t) :
    t.tac.course = s.tac.course := by
  have hblock := course_takeBlock s
  unfold State.edit at h
  generalize s.takeBlock = r at h hblock
  obtain ⟨b, r⟩ := r
  dsimp -zeta only at h
  extract_lets put at h
  have hput (b : Nat) (r : State) : (put b r).tac.course = r.tac.course := by
    unfold put
    rw [(keepsSeqs_sweepRetired _).course]
    rfl
  split at h
  · obtain rfl := Option.some.inj h
    exact hput 0 s
  · cases b with
    | none => exact nomatch h
    | some b =>
      obtain rfl := Option.some.inj h
      exact (hput b _).trans hblock

theorem course_doPgt (n op arg : Nat) : (s.doPgt n op arg).2.tac.course = s.tac.course := by
  unfold State.doPgt
  split
  · rfl
  split
  · rfl
  split
  · split
    · next h => exact course_edit s h
    · rfl
  split
  · rfl
  have hpage := course_takePage s arg true
  generalize s.takePage arg true = r at hpage ⊢
  obtain ⟨_ | a, t⟩ := r
  · exact hpage
  · dsimp only
    split
    · next h => exact (course_edit _ h).trans ((keepsSeqs_charge t _ _).course.trans hpage)
    · exact hpage

theorem course_retryPgt : s.retryPgt.tac.course = s.tac.course := by
  refine course_foldl (fun t w => ?_) _ s
  have h := course_doPgt t w.slot w.op w.arg
  generalize t.doPgt w.slot w.op w.arg = r at h ⊢
  obtain ⟨_ | c, r⟩ := r
  · exact h
  · dsimp -zeta only
    extract_lets _ v
    have hv : v.tac.course = r.tac.course := rfl
    split <;> exact hv.trans h

end

end Sys2Proof.Machine
end

section
/-! PROOFS. Appends, the reclaimer and walks (R309, R312, R322, R327, R329, R341). -/

namespace Sys2Proof.Machine

theorem exec_kvAppend (n : BitVec 20) (time : Nat) (x : BitVec 8) (late : Bool) (s : State) :
    exec (.kvAppend n time x late) s = .next (s.kvAppend n.toNat time x.toNat late) := rfl
theorem exec_walkStart (n : BitVec 20) (m : Fin 34) (ahead : Bool) (s : State) :
    exec (.walkStart n m ahead) s = .next (s.walkStart n.toNat m ahead) := rfl
theorem exec_walkEnd (n : BitVec 20) (s : State) : exec (.walkEnd n) s = .next (s.walkEnd n.toNat) := rfl

section
variable (s : State) {n a : Nat}

/-! ### An entry is appended (R309, R312, R341) -/

/-- The header of a new entry, VALID clear (Table 7.5). -/
def entryHeader (time no step sensor : Nat) (late : Bool) (gen : Nat) : List Byte :=
  leBytes 8 time ++ leBytes 4 no ++ leBytes 4 step ++ leBytes 1 sensor ++ leBytes 1 (if late then 4 else 0) ++ leBytes 2 gen ++ List.replicate 12 0

/-- The fields of a header. -/
theorem entryHeader_spec (time no step sensor : Nat) (late : Bool) (gen : Nat) :
    let h := entryHeader time no step sensor late gen
    h.length = 32 ∧ u h 0 8 = time % 256 ^ 8 ∧ u h 8 4 = no % 256 ^ 4 ∧ u h 16 1 = sensor % 256 ^ 1 ∧
      u h 17 1 = (if late then 4 else 0) % 256 ^ 1 := by
  simp [entryHeader, u, length_leBytes, leNat_leBytes, List.drop_append, List.drop_eq_nil_of_le]

theorem sameMemoryOutside_recount (n : Nat) : s.SameMemoryOutside (s.recount n) (s.seqAddr n) 64 :=
  ((sameMemoryOutside_descriptor s n _ (by decide)).trans (sameMemoryOutside_descriptor (s.setSeqF n 28 2 _) n _ (by decide))).trans
    (sameMemoryOutside_descriptor ((s.setSeqF n 28 2 _).setSeqF n 36 2 _) n _ (by decide))

theorem seqNext_recount (n : Nat) : (s.recount n).seqNext n = s.seqNext n :=
  (seqF_setSeqF_other _ n _ (by decide)).trans ((seqF_setSeqF_other _ n _ (by decide)).trans (seqF_setSeqF_other s n _ (by decide)))

/-- What an append writes of the descriptor stays in the descriptor, and NEXT_ENTRY is read back. -/
theorem countedEntry_spec (n next step hist : Nat) :
    let d := (((s.setSeqF n 24 3 next).setSeqF n 32 4 step).setSeqF n 30 2 hist).recount n
    s.SameMemoryOutside d (s.seqAddr n) 64 ∧ d.seqNext n = next % 256 ^ 3 ∧ d.out = s.out ∧ d.tac = s.tac := by
  intro d
  refine ⟨?_, ?_, rfl, rfl⟩
  · have hnext := sameMemoryOutside_descriptor s n (o := 24) (w := 3) next (by decide)
    have hstep := sameMemoryOutside_descriptor (s.setSeqF n 24 3 next) n (o := 32) (w := 4) step (by decide)
    have hhist := sameMemoryOutside_descriptor ((s.setSeqF n 24 3 next).setSeqF n 32 4 step) n (o := 30) (w := 2) hist (by decide)
    exact ((hnext.trans hstep).trans hhist).trans (sameMemoryOutside_recount _ n)
  · rw [seqNext_recount, State.seqNext, seqF_setSeqF_other _ n _ (by decide), seqF_setSeqF_other _ n _ (by decide), seqF_setSeqF_same]

/-- An entry written, and counted in its sequence's descriptor. -/
def State.withEntry (s : State) (n a time sensor : Nat) (late : Bool) : State :=
  let t := s.store a (entryHeader time (s.seqNext n) s.step32 sensor late (s.seqTid n / 2 ^ 20))
  (((t.setSeqF n 24 3 ((s.seqNext n + 1) % entMod)).setSeqF n 32 4 t.step32).setSeqF n 30 2 (setBits (t.seqHist n) 0 1 1)).recount n

/-- An entry beside its sequence's descriptor: its header is written, and the descriptor counts it. -/
theorem withEntry_spec (time sensor : Nat) (late : Bool) (hout : a + 32 ≤ s.seqAddr n ∨ s.seqAddr n + 64 ≤ a) :
    let t := s.withEntry n a time sensor late
    (∀ k m, k + m ≤ 32 → t.peek (a + k) m = u (entryHeader time (s.seqNext n) s.step32 sensor late (s.seqTid n / 2 ^ 20)) k m) ∧
      t.seqNext n = (s.seqNext n + 1) % 2 ^ 21 ∧ t.out = s.out ∧ t.tac = s.tac := by
  unfold State.withEntry
  obtain ⟨hlen, -⟩ := entryHeader_spec time (s.seqNext n) s.step32 sensor late (s.seqTid n / 2 ^ 20)
  generalize entryHeader time (s.seqNext n) s.step32 sensor late (s.seqTid n / 2 ^ 20) = h at hlen
  obtain ⟨hdesc, hnext, hout', htac⟩ := countedEntry_spec (s.store a h) n ((s.seqNext n + 1) % entMod) (s.store a h).step32
    (setBits ((s.store a h).seqHist n) 0 1 1)
  refine ⟨fun k m hkm => ?_, ?_, hout', htac⟩
  · exact (hdesc.peek (by show a + k + m ≤ s.seqAddr n ∨ s.seqAddr n + 64 ≤ a + k; omega)).trans (peek_store s (by omega))
  · rw [entMod] at hnext
    exact hnext.trans (by omega)

theorem putEntry_eq (n a time sensor : Nat) (late : Bool) :
    ∃ x : Tac, s.putEntry n a time sensor late = { s.withEntry n a time sensor late with tac := x } ∧
      x.appends = SMap.insert (s.withEntry n a time sensor late).tac.appends n
        (SMap.get 0 (s.withEntry n a time sensor late).tac.appends n + 1) := ⟨_, rfl, rfl⟩

theorem putEntry_spec (time sensor : Nat) (late : Bool) (hout : a + 32 ≤ s.seqAddr n ∨ s.seqAddr n + 64 ≤ a) :
    let t := s.putEntry n a time sensor late
    (∀ k m, k + m ≤ 32 → t.peek (a + k) m = u (entryHeader time (s.seqNext n) s.step32 sensor late (s.seqTid n / 2 ^ 20)) k m) ∧
      t.seqNext n = (s.seqNext n + 1) % 2 ^ 21 ∧ t.out = s.out ∧
      t.tac.appends = SMap.insert s.tac.appends n (SMap.get 0 s.tac.appends n + 1) := by
  obtain ⟨x, ht, happends⟩ := putEntry_eq s n a time sensor late
  obtain ⟨hpeek, hnext, hout', htac⟩ := withEntry_spec s time sensor late hout
  rw [htac] at happends
  rw [ht]
  generalize s.withEntry n a time sensor late = w at hpeek hnext hout' ⊢
  have hdescs : w.KeepsDescs { w with tac := x } := ⟨rfl, fun _ _ => rfl⟩
  exact ⟨fun k m hkm => (peek_of_mem hdescs.mem _ _).trans (hpeek k m hkm), (hdescs.seqF n 24 3).trans hnext, hout', happends⟩

/-- KV_APPEND with a free slot in the last page of an ACTIVE sequence (R312, R316). -/
theorem kvAppend_eq {time sensor : Nat} {late : Bool} (hon : s.tacOn = true) (hst : s.seqSt n = 1)
    (hmax : SMap.get 0 s.tac.appends n < s.appendMax) (hslot : s.nextSlot n = some a) :
    s.kvAppend n time sensor late = (s.putEntry n a time sensor late).sweepRetired.emit (.done 0x08 idFld DONE) := by
  simp [State.kvAppend, hon, hst, hmax.not_ge, State.doAppend, State.makeRoom, hslot]

theorem kvAppend_spec {time sensor : Nat} {late : Bool} (hon : s.tacOn = true) (hst : s.seqSt n = 1)
    (hmax : SMap.get 0 s.tac.appends n < s.appendMax) (hslot : s.nextSlot n = some a) (hout : a + 32 ≤ s.seqAddr n ∨ s.seqAddr n + 64 ≤ a) :
    let t := s.kvAppend n time sensor late
    t.peek a 8 = time % 256 ^ 8 ∧ t.peek (a + 8) 4 = s.seqNext n ∧ t.peek (a + 16) 1 = sensor % 256 ^ 1 ∧
      t.peek (a + 17) 1 = (if late then 4 else 0) ∧ t.seqNext n = (s.seqNext n + 1) % 2 ^ 21 ∧
      SMap.get 0 t.tac.appends n = SMap.get 0 s.tac.appends n + 1 ∧ t.out = s.out ++ [.done 0x08 idFld DONE] := by
  intro t
  have ht : t = (s.putEntry n a time sensor late).sweepRetired.emit (.done 0x08 idFld DONE) := kvAppend_eq s hon hst hmax hslot
  have hsweep := keepsSeqs_sweepRetired (s.putEntry n a time sensor late)
  obtain ⟨hpeek, hnext, hout', happends⟩ := putEntry_spec s time sensor late hout
  obtain ⟨-, htime, hno, hsensor, hlate⟩ := entryHeader_spec time (s.seqNext n) s.step32 sensor late (s.seqTid n / 2 ^ 20)
  have hmem : t.mem = (s.putEntry n a time sensor late).mem := by rw [ht, State.emit_mem, hsweep.mem]
  have hread (k m : Nat) (hkm : k + m ≤ 32) :
      t.peek (a + k) m = u (entryHeader time (s.seqNext n) s.step32 sensor late (s.seqTid n / 2 ^ 20)) k m :=
    (peek_of_mem hmem _ _).trans (hpeek k m hkm)
  have hseq : s.seqNext n < 256 ^ 3 := seqF_lt s n 24 3
  refine ⟨(hread 0 8 (by decide)).trans htime, ?_, (hread 16 1 (by decide)).trans hsensor, ?_, ?_, ?_, ?_⟩
  · rw [hread 8 4 (by decide), hno]
    omega
  · rw [hread 17 1 (by decide), hlate]
    split <;> rfl
  · rw [ht]
    exact (hsweep.seqF n 24 3).trans hnext
  · rw [ht, State.emit_tac, hsweep.appends, happends, SMap.get, SMap.find?_insert_same]
  · rw [ht, ← hout', ← hsweep.out]
    rfl

/-! ### An append refused (R312) -/

theorem kvAppend_notActive {time sensor : Nat} {late : Bool} (hon : s.tacOn = true) (hst : s.seqSt n ≠ 1) :
    s.kvAppend n time sensor late = s.emit (.done 0x08 idFld REFUSED_STATE) := by
  simp [State.kvAppend, hon, hst, State.doAppend]

theorem kvAppend_beyondMax {time sensor : Nat} {late : Bool} (hon : s.tacOn = true) (hst : s.seqSt n = 1)
    (hmax : s.appendMax ≤ SMap.get 0 s.tac.appends n) :
    s.kvAppend n time sensor late = (s.countSat Reg.FLD_APPEND_DROP 0 32 1).emit (.done 0x08 idFld REFUSED_STATE) := by
  have hcfg : (s.countSat Reg.FLD_APPEND_DROP 0 32 1).appendMax = s.appendMax := fld_setFld_ne s _ _ _ _ _ (by decide)
  simp [State.kvAppend, hon, hst, hmax, State.doAppend, hcfg]

/-! ### The reclaimer (R322, R323, R351) -/

theorem course_reclaimGate : s.reclaimGate.tac.course = s.tac.course := rfl

theorem course_reclaimOne {t : State} (h : s.reclaimOne n = some t) : t.tac.course = s.tac.course := by
  unfold State.reclaimOne at h
  split at h
  · exact nomatch h
  · split at h
    · exact nomatch h
    · next r v hedit =>
      extract_lets w at h
      obtain rfl := Option.some.inj h
      have hw : w.tac = v.tac := (State.countWrap_tac _ _ _ _ _).trans (State.poke_tac v _ _ _)
      have hcourse : w.tac.course = s.tac.course := (congrArg Tac.course hw).trans (course_edit s hedit)
      split <;> exact hcourse

theorem course_reclaimLoop (fuel : Nat) : (s.reclaimLoop fuel).tac.course = s.tac.course := by
  induction fuel generalizing s with
  | zero => rfl
  | succ fuel ih =>
    rw [State.reclaimLoop]
    split
    · exact course_reclaimGate s
    · split
      · next h => exact (ih _).trans ((course_reclaimOne _ h).trans (course_reclaimGate s))
      · exact course_reclaimGate s

theorem course_logStuck : s.logStuck.tac.course = s.tac.course := by
  refine course_foldl (fun t f => ?_) _ s
  split <;> rfl

/-- Once after a publication the reclaimer runs, and is noted for its step (R322). -/
theorem exec_reclaimer_runs {k : Nat} (hon : s.tacOn = true) (hpub : s.csq.pub = some k) (hnew : s.tac.reclaimed ≠ some k) :
    ∃ t, exec .reclaimer s = .next t ∧ t.tac.reclaimed = some k ∧ t.tac.walks = s.tac.walks := by
  let r : State := { s with tac := { s.tac with reclaimed := s.csq.pub } }
  have hrow : exec .reclaimer s = .next ((r.reclaimLoop (r.fld' Reg.TAC_RECLAIM 0 16)).reclaimGate.logStuck).retryPgt :=
    congrArg Host.Outcome.next (if_neg (by simp [hon, hpub, hnew]))
  have hcourse := (course_retryPgt _).trans ((course_logStuck _).trans ((course_reclaimGate _).trans
    (course_reclaimLoop r (r.fld' Reg.TAC_RECLAIM 0 16))))
  exact ⟨_, hrow, (congrArg (·.2.1) hcourse).trans hpub, congrArg (·.1) hcourse⟩

/-! ### A walk begins (R327, R329, R333, R341) -/

theorem keepsSeqs_stageable (n : Nat) (new : List Nat) : s.KeepsSeqs (s.stageable n new).2.2 := by
  unfold State.stageable
  refine List.foldlRecOn (motive := fun p : List Nat × Nat × State => s.KeepsSeqs p.2.2) _ _ (.refl s) (fun p hp e _ => ?_)
  obtain ⟨l, bad, t⟩ := p
  dsimp only
  have hcheck := hp.trans (keepsSeqs_checkRead t idTac e.2 32 0)
  split
  · exact hp
  · split
    · exact hcheck
    · split
      · exact hcheck.countSat (o := Reg.TAC_FUTURE_CNT) (by decide) _ _ _
      · exact hcheck

theorem keepsSeqs_readPage (n p : Nat) : s.KeepsSeqs (s.readPage n p) := by
  have hhit : s.KeepsSeqs (s.countWrap Reg.TAC_CACHE_HIT 0 32 1) := (State.KeepsSeqs.refl s).countWrap (by decide) _ _ _
  have hmiss : s.KeepsSeqs (s.countWrap Reg.TAC_CACHE_MISS 0 32 1) := (State.KeepsSeqs.refl s).countWrap (by decide) _ _ _
  have hcache (t : State) (l : List (Nat × Nat × Nat × Nat)) : t.KeepsSeqs { t with tac := { t.tac with cache := l } } := .of_eq rfl rfl rfl rfl
  have hstream (t : State) (k : Nat) : t.KeepsSeqs { t with tac := { t.tac with stepStream := k } } := .of_eq rfl rfl rfl rfl
  unfold State.readPage
  extract_lets addr _ _ size _ t _
  have ht : s.KeepsSeqs t := hmiss.trans (hstream _ _)
  refine .ite (hhit.trans (hcache _ _)) (.ite ht ?_)
  split
  · exact ht.trans (hcache t _)
  · exact ht

theorem walkStart_spec {m : Nat} {ahead : Bool} (hon : s.tacOn = true) (hst : s.seqSt n = 1) (hroom : s.tac.walks.length < 1024)
    (hnone : ∀ w ∈ s.tac.walks, w.slot ≠ n) (htile : s.decodeTile m = true) (hahead : ahead = true → SMap.get 0 s.tac.appends n = 0) :
    ∃ w, (s.walkStart n m ahead).tac.walks = s.tac.walks ++ [w] ∧ w.slot = n ∧ w.tile = m ∧ w.ahead = ahead ∧
      w.version = s.seqVersion n ∧ w.block = s.seqPtb n := by
  have hfirst : s.tac.walks.any (fun w => w.slot == n) = false := by simpa using hnone
  have hbatch : (ahead && decide (0 < SMap.get 0 s.tac.appends n)) = false := by
    cases ahead with
    | false => rfl
    | true => simp [hahead rfl]
  unfold State.walkStart
  rw [if_neg (by simp [hon, hst, hroom.not_ge, hfirst, htile, hbatch])]
  extract_lets found new
  have hstaged := keepsSeqs_stageable s n new
  generalize s.stageable n new = r at hstaged ⊢
  obtain ⟨old, bad, t⟩ := r
  dsimp -zeta only at hstaged ⊢
  extract_lets v w
  have hv : s.KeepsSeqs v := hstaged.trans (keepsSeqs_foldl (fun t p => keepsSeqs_readPage t n p) _ t)
  exact ⟨w, congrArg (· ++ [w]) hv.walks, rfl, rfl, rfl, hv.seqF n 14 2, hv.seqF n 8 6⟩

/-! ### A walk ends (R327, R330, R332) -/

/-- An ATTEND issued writes its walk record and its staged window, and joins a tile's queue; TAC keeps its course. -/
theorem course_issueAttend (w : Walk) (c : List Byte) : (s.issueAttend w c).2.tac.course = s.tac.course := by
  unfold State.issueAttend
  generalize s.walkRecord w c = r
  obtain ⟨record, staged, future⟩ := r
  dsimp -zeta only
  extract_lets t size wk st r desc
  have hr : r.tac.course = t.tac.course := (course_foldl (fun t e => course_busWrite t _ _ _) _ _).trans (course_busWrite t idTac (dBase wk) record)
  exact (congrArg Tac.course (tileEnqueue_tac r _ _ _ _)).trans hr

theorem course_issueAttends (w : Walk) (cs : List (List Byte)) :
    (cs.foldl (fun (a, t) c => if a != DONE then (a, t) else t.issueAttend w c) (DONE, s)).2.tac.course = s.tac.course := by
  refine List.foldlRecOn (motive := fun p : Nat × State => p.2.tac.course = s.tac.course) _ _ rfl (fun p hp c _ => ?_)
  obtain ⟨a, t⟩ := p
  dsimp only
  split
  · exact hp
  · exact (course_issueAttend t w c).trans hp

theorem course_entriesHole (n : Nat) : (s.entriesHole n).tac.course = s.tac.course := by
  unfold State.entriesHole
  split
  · rfl
  · extract_lets t
    exact course_foldl (fun t a => congrArg Tac.course ((State.countSat_tac _ _ _ _ _).trans (State.poke_tac t _ _ _))) _ s

theorem course_decodeMissed (n : Nat) : (s.decodeMissed n).tac.course = s.tac.course := by
  unfold State.decodeMissed
  split
  · rfl
  · extract_lets m t
    have ht : t.tac = s.tac := (State.countSat_tac _ _ _ _ _).trans (s.store_tac _ _)
    split
    · exact congrArg Tac.course ((State.countSat_tac _ _ _ _ _).trans ht)
    · exact congrArg Tac.course ht

theorem course_decodeLost (n : Nat) : (s.decodeLost n).tac.course = s.tac.course :=
  (course_decodeMissed _ n).trans (course_entriesHole _ n)

/-- A walk that ends leaves the list; whatever becomes of its ATTENDs, the others stay in it. -/
theorem walks_walkEnd {w : Walk} (hon : s.tacOn = true) (hw : s.tac.walks.find? (fun v => v.slot == n) = some w)
    (hfree : s.staging w.tile = false) : (s.walkEnd n).tac.walks = s.tac.walks.filter (fun v => v.slot != n) := by
  unfold State.walkEnd
  rw [hon, hw]
  dsimp -zeta only
  rw [if_neg (by simp [hfree])]
  extract_lets _ u _ d r
  have hissued := course_issueAttends d w d.content.attend
  have hr : r.tac.course = u.tac.course := by
    unfold r
    split
    · split
      · exact (course_decodeLost _ n).trans hissued
      · exact hissued
    · rfl
  have hcourse := (course_retryPgt r.sweepRetired).trans ((keepsSeqs_sweepRetired r).course.trans hr)
  exact congrArg (·.1) hcourse

end

/-- Settles O25: an append is followed to the bytes it writes or to its refusal, the reclaimer, a walk and its end to what each notes of itself,
which nothing else in their work touches. -/
theorem appendsReclaimerAndWalksHaveTheirEffect : Obligations.AppendsReclaimerAndWalksHaveTheirEffect := by
  refine ⟨fun n time x late a s hon hst hmax hslot hout => ⟨_, exec_kvAppend n time x late s, ?_⟩,
    fun n time x late s hon => ⟨fun hst => ?_, fun hst hmax => ?_⟩, fun k s hon hpub hnew => exec_reclaimer_runs s hon hpub hnew,
    fun n m ahead s hon hst hroom hnone htile hahead => ?_,
    fun n w s hon hw hfree => ⟨_, exec_walkEnd n s, walks_walkEnd s hon hw hfree⟩⟩
  · obtain ⟨htime, hno, hsensor, hrest⟩ := kvAppend_spec s (time := time) (sensor := x.toNat) (late := late) hon hst hmax hslot hout
    exact ⟨htime, hno, hsensor.trans (Nat.mod_eq_of_lt x.isLt), hrest⟩
  · rw [exec_kvAppend, kvAppend_notActive s hon hst]
  · rw [exec_kvAppend, kvAppend_beyondMax s hon hst hmax]
  · obtain ⟨w, hw⟩ := walkStart_spec s hon hst hroom hnone htile hahead
    exact ⟨_, w, exec_walkStart n m ahead s, hw⟩

end Sys2Proof.Machine
end

section
/-! PROOFS. Track records in device memory (Table 8.1): what a field holds after a record is written, and after a change of LSTATE. -/

namespace Sys2Proof.Machine

/-! ### Fields of a record with bytes replaced -/

theorem length_patch {b new : List Byte} {o : Nat} (h : o + new.length ≤ b.length) : (patch b o new).length = b.length := by
  simp only [patch, List.length_append, List.length_take, List.length_drop]
  omega

/-- The bytes written. -/
theorem u_patch_same {b new : List Byte} {o : Nat} (h : o ≤ b.length) : u (patch b o new) o new.length = leNat new := by
  rw [u, patch, List.append_assoc, List.drop_left' (List.length_take_of_le h), List.take_left' rfl]

/-- A field before the bytes written. -/
theorem u_patch_before {b new : List Byte} {o k w : Nat} (hk : k + w ≤ o) (ho : o ≤ b.length) : u (patch b o new) k w = u b k w := by
  have hlen : (b.take o).length = o := List.length_take_of_le ho
  rw [u, u, patch, List.append_assoc, List.drop_append_of_le_length (by omega), List.take_append_of_le_length (by rw [List.length_drop]; omega),
    List.drop_take, List.take_take, Nat.min_eq_left (by omega)]

section
variable (s : State) (n : Nat)

/-! ### Records -/

theorem drop_bytesAt (a m k : Nat) : (s.bytesAt a m).drop k = s.bytesAt (a + k) (m - k) := by
  induction k generalizing a m with
  | zero => rfl
  | succ k ih =>
    cases m with
    | zero => simp [State.bytesAt]
    | succ m => rw [State.bytesAt, List.drop_succ_cons, ih, Nat.add_sub_add_right, Nat.add_right_comm, Nat.add_assoc]

theorem take_bytesAt {a m k : Nat} (h : k ≤ m) : (s.bytesAt a m).take k = s.bytesAt a k := by
  induction k generalizing a m with
  | zero => rfl
  | succ k ih =>
    obtain ⟨m, rfl⟩ : ∃ j, m = j + 1 := ⟨m - 1, by omega⟩
    rw [State.bytesAt, List.take_succ_cons, ih (by omega), State.bytesAt]

@[simp] theorem length_trk : (s.trk n).length = 256 := length_bytesAt s _ _

/-- A part of a record. -/
theorem trk_part {k w : Nat} (h : k + w ≤ 256) : ((s.trk n).drop k).take w = s.bytesAt (s.trkAddr n + k) w := by
  rw [State.trk, drop_bytesAt, take_bytesAt]
  omega

@[simp] theorem length_setFlagB_trk (k : Nat) (v : Bool) : (setFlagB (s.trk n) k v).length = 256 := by
  rw [setFlagB, length_patch (by simp [length_leBytes]), length_trk]

theorem trkAddr_congr {s t : State} (hregs : t.regs = s.regs) (n : Nat) : t.trkAddr n = s.trkAddr n := by
  simp only [State.trkAddr, State.foldBase, State.regN, State.fld', reg_congr hregs]

theorem trk_congr {s t : State} (hmem : t.mem = s.mem) (hregs : t.regs = s.regs) (n : Nat) : t.trk n = s.trk n := by
  rw [State.trk, State.trk, trkAddr_congr hregs]
  exact bytesAt_congr fun x _ _ => s.sameMemory_of_mem hmem x

theorem trk_reach (t : Time) : (s.reach t).trk n = s.trk n := trk_congr (s.reach_mem t) (s.reach_regs t) n

/-- A record written reads back but for its CRC. -/
theorem u_setTrk {b : List Byte} (hb : b.length = 256) {k w : Nat} (h : k + w ≤ 252) : u ((s.setTrk n b).trk n) k w = u b k w := by
  have hread := bytesAt_store s (a := s.trkAddr n) (k := k) (n := w) (bs := b.take 252 ++ leBytes 4 (crc32c (b.take 252)).toNat)
    (by simp [length_leBytes, hb]; omega)
  rw [u, trk_part _ _ (by omega), trkAddr_congr (t := s.setTrk n b) rfl, u]
  refine congrArg leNat (hread.trans ?_)
  rw [List.drop_append_of_le_length (by simp [hb]; omega), List.take_append_of_le_length (by simp [hb]; omega), List.drop_take,
    List.take_take, Nat.min_eq_left (by omega)]

/-! ### LSTATE (Tables 8.3 and 8.4) -/

theorem tkSt_trkPut {st : Nat} (h : st < 256) : tkSt ((s.trkPut n 12 1 st).trk n) = st := by
  have hlen : (patch (s.trk n) 12 (leBytes 1 st)).length = 256 := by rw [length_patch (by simp [length_leBytes]), length_trk]
  have hwritten := u_patch_same (b := s.trk n) (new := leBytes 1 st) (o := 12) (by simp)
  rw [length_leBytes, leNat_leBytes] at hwritten
  rw [State.trkPut, tkSt, u_setTrk s n hlen (by decide), hwritten]
  exact Nat.mod_eq_of_lt h

theorem setLstate_eq (st : Nat) :
    s.setLstate n st = { s.trkPut n 12 1 st with fld := { s.fld with entered := SMap.insert s.fld.entered n s.ns } } := rfl

theorem trk_setLstate (st m : Nat) : (s.setLstate n st).trk m = (s.trkPut n 12 1 st).trk m := by
  apply trk_congr <;> rw [setLstate_eq]

theorem tkSt_setLstate {st : Nat} (h : st < 256) : tkSt ((s.setLstate n st).trk n) = st := by
  rw [trk_setLstate, tkSt_trkPut s n h]

theorem tkSt_retire (pub : Bool) : tkSt ((s.retire n pub).trk n) = tkRETIRING := by
  unfold State.retire
  extract_lets r
  rw [tkSt, u_setTrk r n (length_setFlagB_trk r n 0 pub) (by decide), setFlagB, u_patch_before (by decide) (by simp)]
  exact tkSt_setLstate s n (by decide)

theorem tkSt_toFallow : tkSt ((s.toFallow n).trk n) = tkFALLOW := by
  rw [State.toFallow, tkSt_setLstate _ n (by decide)]

/-! ### Device time in the life cycle -/

theorem setLstate_tbu (st : Nat) : (s.setLstate n st).tbu = s.tbu := by
  unfold State.setLstate
  dsimp only
  rw [State.trkPut, State.setTrk, State.store_tbu]

theorem refuseAccess_tbu (h : Option Nat) (id : Nat) (k : Kind) (a : Nat) : (s.refuseAccess h id k a).tbu = s.tbu := by
  unfold State.refuseAccess State.fencedSpeaker
  dsimp only
  split <;> split <;> rfl

theorem doFallow_tbu : (s.doFallow n).2.tbu = s.tbu := by
  unfold State.doFallow
  split
  · exact (State.setReg_tbu _ _ _).trans (s.poke_tbu _ _ _)
  · rfl

/-- The FALLOW command takes no device time, whether TAC takes it or not (R573). -/
theorem toFallow_tbu : (s.toFallow n).tbu = s.tbu := by
  rw [State.toFallow, setLstate_tbu]
  unfold State.fldCmd
  split
  · exact doFallow_tbu s n
  · exact refuseAccess_tbu s _ _ _ _

theorem ns_setLstate (st : Nat) : (s.setLstate n st).ns = s.ns := by rw [State.ns, setLstate_tbu, State.ns]

theorem ns_toFallow : (s.toFallow n).ns = s.ns := by rw [State.ns, toFallow_tbu, State.ns]

end

end Sys2Proof.Machine
end

section
/-! PROOFS. The time-based transitions of a track (R366, R367, Table 8.4). -/

namespace Sys2Proof.Machine

theorem exec_trackConfirmTimeout (n : BitVec 20) (s : State) :
    exec (.trackConfirmTimeout n) s = .next (s.trackTimeout n.toNat tkTENTATIVE (fun s b => tkBirth b + s.confMs * msN)) := rfl
theorem exec_trackCoastTimeout (n : BitVec 20) (s : State) :
    exec (.trackCoastTimeout n) s = .next (s.trackTimeout n.toNat tkCONFIRMED (fun s b => tkLastTime b + s.coastMs * msN)) := rfl
theorem exec_trackFallowTimeout (n : BitVec 20) (s : State) :
    exec (.trackFallowTimeout n) s = .next (s.trackTimeout n.toNat (if tkSt (s.trk n.toNat) == tkCONFIRMED then tkCONFIRMED else tkCOASTING)
      (fun s b => tkLastTime b + s.fallowMs * msN)) := rfl
theorem exec_fallowMaxTimeout (n : BitVec 20) (s : State) :
    exec (.fallowMaxTimeout n) s =
      .next (s.trackTimeout n.toNat tkFALLOW (fun s _ => SMap.get 0 s.fld.entered n.toNat + s.fallowMax * sN)) := rfl

section
variable (s : State) {n : Nat} {b : List Byte} (hb : s.trk n = b)
include hb

/-! ### What C_i does to one track (Table 8.4) -/

theorem tkSt_timeTrans_tentative (hst : tkSt b = tkTENTATIVE) (hover : confOver s b s.ns = true) :
    tkSt ((s.timeTrans n).trk n) = if confirms s b then tkCONFIRMED else tkRETIRING := by
  simp only [State.timeTrans, hb, hst, hover, Bool.true_or, if_true]
  split
  · exact tkSt_setLstate s n (by decide)
  · exact tkSt_retire s n false

theorem tkSt_timeTrans_confirmed (hst : tkSt b = tkCONFIRMED) (hquiet : quiet b s.coastMs s.ns = true) :
    tkSt ((s.timeTrans n).trk n) = if !s.inRegionOf b then tkRETIRING
      else if tkLastTime b + s.fallowMs * msN ≤ (s.timeTrans n).ns ∨ tkExist b < s.dropExist then tkFALLOW else tkCOASTING := by
  have htrans : s.timeTrans n = if s.inRegionOf b = false then s.retire n true
      else if tkLastTime b + s.fallowMs * msN ≤ s.ns ∨ tkExist b < s.dropExist then s.toFallow n else s.setLstate n tkCOASTING := by
    have hlast : tkLastTime b + s.coastMs * msN ≤ s.ns := of_decide_eq_true hquiet
    simp [State.timeTrans, hb, hst, quiet, hlast]
  rw [htrans]
  by_cases hout : s.inRegionOf b = false
  · rw [if_pos hout, tkSt_retire, if_pos (by rw [hout]; rfl)]
  rw [if_neg hout, if_neg (show ¬ (!s.inRegionOf b) = true by simpa using hout)]
  by_cases hlong : tkLastTime b + s.fallowMs * msN ≤ s.ns ∨ tkExist b < s.dropExist
  · rw [if_pos hlong, tkSt_toFallow, ns_toFallow, if_pos hlong]
  · rw [if_neg hlong, tkSt_setLstate s n (by decide), ns_setLstate, if_neg hlong]

theorem tkSt_timeTrans_quiet (hst : tkSt b = tkCONFIRMED ∨ tkSt b = tkCOASTING) (hquiet : quiet b s.fallowMs s.ns = true) :
    tkSt ((s.timeTrans n).trk n) = if s.inRegionOf b then tkFALLOW else tkRETIRING := by
  have htrans : s.timeTrans n = if s.inRegionOf b then s.toFallow n else s.retire n true := by
    cases hin : s.inRegionOf b <;> rcases hst with hst | hst <;> simp [State.timeTrans, hb, hst, hquiet, hin]
  rw [htrans]
  split
  · exact tkSt_toFallow s n
  · exact tkSt_retire s n true

theorem tkSt_timeTrans_fallow (hst : tkSt b = tkFALLOW) (hover : SMap.get 0 s.fld.entered n + s.fallowMax * sN ≤ s.ns) :
    tkSt ((s.timeTrans n).trk n) = tkRETIRING := by
  simp only [State.timeTrans, hb, hst, hover, if_true]
  exact tkSt_retire s n false

end

section
variable (s : State) {n : Nat}

/-! ### The cut-off of a deadline (R367) -/

/-- A deadline is met at the next cut-off, or was met before: the cycle is stopped, its cut-off follows the deadline by less than a cadence, or
the deadline has passed. -/
def State.deadlineMet (s : State) (d : Nat) : Prop := s.csq.running = false ∨ s.cOf s.csq.next < d * nsT + s.cadence ∨ d * nsT ≤ s.now

/-- Cut-offs a cadence apart, from a first one that follows a time by less than a cadence: one of them follows the time. -/
theorem le_cutoff_of_lt {c t k : Nat} (h : c < t + k) (hk : 0 < k) :
    t ≤ if t + k ≤ c then 0 else if t ≤ c then c else c + (t - c + k - 1) / k * k := by
  split
  · omega
  · split
    · assumption
    · have hceil := Nat.div_add_mod' (t - c + k - 1) k
      have hrest := Nat.mod_lt (t - c + k - 1) hk
      omega

theorem deadline_le_ns {d : Nat} (h : s.deadlineMet d) : d ≤ (s.reach (s.cutAfter (d * nsT))).ns := by
  suffices hcut : d * nsT ≤ max s.now (s.cutAfter (d * nsT)) from (Nat.le_div_iff_mul_le (by decide)).2 hcut
  rcases h with hstop | hsoon | hpast
  · simp [State.cutAfter, hstop]
  · refine le_max_of_le_right ?_
    unfold State.cutAfter
    extract_lets c
    split
    · exact le_rfl
    · next hruns =>
      simp only [Bool.or_eq_true, beq_iff_eq, not_or] at hruns
      exact le_cutoff_of_lt hsoon (Nat.pos_of_ne_zero hruns.2)
  · exact le_max_of_le_left hpast

/-- A timeout carries out the transition of C_i at the cut-off of its deadline. -/
theorem trackTimeout_eq {st : Nat} {deadline : State → List Byte → Nat} (hon : s.fldOn = true) (hruns : s.runsStages = true)
    (hkill : s.fld.cmds.contains (.kill n) = false) (hst : tkSt (s.trk n) = st) :
    s.trackTimeout n st deadline = (s.reach (s.cutAfter (deadline s (s.trk n) * nsT))).timeTrans n := by
  rw [State.trackTimeout, if_pos (by rw [hon, hruns, hkill, hst]; simp)]

end

/-- Settles O27: each timeout is the transition of C_i at a cut-off that its deadline has met; the record read there is the one of now. -/
theorem trackTimeoutsTakeTheTransitionsOfTheTable : Obligations.TrackTimeoutsTakeTheTransitionsOfTheTable := by
  intro n s hon hruns hkill b due
  have hmet (d : Nat) (h : due d) : d ≤ (s.reach (s.cutAfter (d * nsT))).ns := deadline_le_ns s h
  refine ⟨fun hst hdue => ⟨_, exec_trackConfirmTimeout n s, ?_⟩, fun hst hdue => ⟨_, exec_trackCoastTimeout n s, ?_⟩,
    fun hst hdue => ⟨_, exec_trackFallowTimeout n s, ?_⟩, fun hst hdue => ⟨_, exec_fallowMaxTimeout n s, ?_⟩⟩
  · rw [trackTimeout_eq s hon hruns hkill hst]
    exact tkSt_timeTrans_tentative _ (trk_reach s _ _) hst (decide_eq_true (hmet _ hdue))
  · rw [trackTimeout_eq s hon hruns hkill hst]
    exact tkSt_timeTrans_confirmed _ (trk_reach s _ _) hst (decide_eq_true (hmet _ hdue))
  · have hnow : tkSt (s.trk n.toNat) = if tkSt (s.trk n.toNat) == tkCONFIRMED then tkCONFIRMED else tkCOASTING := by
      rcases hst with hst | hst <;> simp [b, hst]
    rw [trackTimeout_eq s hon hruns hkill hnow]
    exact tkSt_timeTrans_quiet _ (trk_reach s _ _) hst (decide_eq_true (hmet _ hdue))
  · rw [trackTimeout_eq s hon hruns hkill hst]
    exact tkSt_timeTrans_fallow _ (trk_reach s _ _) hst (hmet _ hdue)

end Sys2Proof.Machine
end

section
/-! PROOFS. The step in hand stands through the cut-off (R22): what each block does as it turns to step i leaves CSQ as it was. -/

namespace Sys2Proof.Machine

/-- CSQ stands: its step in hand, the step that is next, and the rest of the cycle. -/
structure State.KeepsCsq (s t : State) : Prop where
  csq : t.csq = s.csq

theorem State.KeepsCsq.refl (s : State) : s.KeepsCsq s := ⟨rfl⟩

theorem State.KeepsCsq.trans {s t r : State} (h : s.KeepsCsq t) (h' : t.KeepsCsq r) : s.KeepsCsq r := ⟨h'.csq.trans h.csq⟩

theorem State.KeepsCsq.ite {s t r : State} {p : Prop} [Decidable p] (ht : s.KeepsCsq t) (hr : s.KeepsCsq r) :
    s.KeepsCsq (if p then t else r) := by split <;> assumption

theorem State.KeepsCsq.foldl {α : Type} {f : State → α → State} {s t : State} (h : s.KeepsCsq t)
    (hf : ∀ (s : State) a, s.KeepsCsq (f s a)) (l : List α) : s.KeepsCsq (l.foldl f t) :=
  List.foldlRecOn (motive := State.KeepsCsq s) l f h (fun u hu a _ => hu.trans (hf u a))

section
variable {s t : State} (h : s.KeepsCsq t) (o : Nat)
include h

theorem State.KeepsCsq.setReg (v : W32) : s.KeepsCsq (t.setReg o v) := ⟨(t.setReg_csq o v).trans h.csq⟩
theorem State.KeepsCsq.setFld (lo w v : Nat) : s.KeepsCsq (t.setFld o lo w v) := h.setReg o _
theorem State.KeepsCsq.setBit (b : Nat) (v : Bool) : s.KeepsCsq (t.setBit o b v) := h.setReg o _

end

section
variable (s : State) (n : Nat)

/-! ### EGO, DML, TAC, BSE and PAE -/

theorem keepsCsq_poseEntry (t : Nat) : s.KeepsCsq (s.poseEntry t) := by
  unfold State.poseEntry State.draw
  refine .ite (.refl s) ⟨?_⟩
  dsimp only
  split <;> rfl

theorem keepsCsq_egoCutoff (i : Nat) : s.KeepsCsq (s.egoCutoff i) := by
  unfold State.egoCutoff
  extract_lets r _ _ _ _ u
  have hr : s.KeepsCsq r := .ite (keepsCsq_poseEntry s _) (.refl s)
  exact .ite (.refl s) (hr.trans ⟨by rfl⟩)

theorem keepsCsq_deltaBase : s.KeepsCsq s.deltaBase := .ite (.refl s) ⟨rfl⟩

theorem keepsCsq_tacStep : s.KeepsCsq s.tacStep := by
  unfold State.tacStep
  extract_lets r u
  have hr : s.KeepsCsq r := by
    refine (State.KeepsCsq.refl s).foldl (fun t n => ?_) _
    exact ⟨(State.poke_csq _ _ _ _).trans (t.poke_csq _ _ _)⟩
  have hu : s.KeepsCsq u := ((hr.setReg _ _).setBit _ _ _).setBit _ _ _
  exact hu.trans ⟨rfl⟩

theorem keepsCsq_dmlStep : s.KeepsCsq s.dmlStep := ⟨rfl⟩

theorem keepsCsq_bseStep : s.KeepsCsq s.bseStep := ⟨rfl⟩

theorem keepsCsq_paeStep : s.KeepsCsq s.paeStep := ⟨rfl⟩

theorem keepsCsq_sqiCheck (q : Nat) : s.KeepsCsq (s.sqiCheck q) := .ite (.refl s) ⟨rfl⟩

/-! ### Deferred perception jobs (R140, R272) -/

theorem keepsCsq_setChan (c : Chan) : s.KeepsCsq (s.setChan n c) := by
  unfold State.setChan
  extract_lets _ t st u v l w
  have ht : s.KeepsCsq t := ⟨rfl⟩
  have hu : s.KeepsCsq u := .ite ht (ht.setFld _ _ _ _)
  have hv : s.KeepsCsq v := ((hu.setBit _ _ _).setBit _ _ _).setFld _ _ _ _
  have hw : s.KeepsCsq w := (hv.setReg _ _).setReg _ _
  exact hw.setBit _ _ _

theorem keepsCsq_grant (w : Waiter) : s.KeepsCsq (s.grant w) := by
  cases w with
  | chan n => exact keepsCsq_setChan s n _
  | batch q => exact ⟨rfl⟩
  | set n => exact ⟨rfl⟩
  | tile t q => cases q <;> exact ⟨rfl⟩

theorem keepsCsq_serveOne (w : SigWait) : s.KeepsCsq (s.serveOne w) := by
  unfold State.serveOne
  refine .ite (.trans ?_ (keepsCsq_grant _ _)) (.refl s)
  exact ⟨rfl⟩

theorem keepsCsq_waitOn (w : SigWait) : s.KeepsCsq (s.waitOn w) := by
  unfold State.waitOn State.serve
  exact .ite (.refl s) (.foldl ⟨by rfl⟩ keepsCsq_serveOne _)

theorem keepsCsq_setQueue (q : List Item) : s.KeepsCsq (s.setQueue n q) := ⟨State.setFld_csq _ _ _ _ _⟩

theorem keepsCsq_startSet (item : Option Item) : s.KeepsCsq (s.startSet n item) := ⟨State.setBit_csq _ _ _ _⟩

theorem keepsCsq_armSet : s.KeepsCsq (s.armSet n) := by
  unfold State.armSet
  refine .ite (.refl s) ?_
  split
  · exact keepsCsq_waitOn s _
  · split
    · exact .ite (.refl s) ((keepsCsq_setQueue s n _).trans (keepsCsq_startSet _ n _))
    · exact .refl s
  · exact .refl s

theorem keepsCsq_runDeferred : s.KeepsCsq s.runDeferred := by
  unfold State.runDeferred
  extract_lets old
  refine .foldl ⟨by rfl⟩ (fun t n => ?_) _
  split
  · exact keepsCsq_armSet t n
  · exact .refl t

/-! ### Frames of the Salarur Link (R599, R600) -/

theorem keepsCsq_linkPump (p fuel : Nat) : s.KeepsCsq (s.linkPump p fuel) := by
  induction fuel generalizing s with
  | zero => exact .refl s
  | succ fuel ih =>
    rw [State.linkPump]
    split
    · exact .refl s
    · exact .ite (.trans ⟨by rfl⟩ (ih _)) (.refl s)

theorem keepsCsq_linkPost (f : LinkOut) : s.KeepsCsq (s.linkPost f) := by
  unfold State.linkPost
  exact .ite (.trans ⟨by rfl⟩ (keepsCsq_linkPump _ _ _)) (.refl s)

theorem keepsCsq_sendDev (type step : Nat) (payload : List Byte) : s.KeepsCsq (s.sendDev n type step payload) := by
  unfold State.sendDev
  split
  · exact keepsCsq_linkPost s _
  · exact .refl s

/-! ### Tracks (Table 8.4) -/

theorem keepsCsq_setTrk (b : List Byte) : s.KeepsCsq (s.setTrk n b) := ⟨s.store_csq _ _⟩

theorem keepsCsq_setLstate (st : Nat) : s.KeepsCsq (s.setLstate n st) := by
  refine ⟨?_⟩
  unfold State.setLstate
  dsimp only
  rw [State.trkPut, State.setTrk, State.store_csq]

theorem keepsCsq_retire (pub : Bool) : s.KeepsCsq (s.retire n pub) :=
  (keepsCsq_setLstate s n _).trans (keepsCsq_setTrk _ n _)

theorem keepsCsq_refuseAccess (h : Option Nat) (id : Nat) (k : Kind) (a : Nat) : s.KeepsCsq (s.refuseAccess h id k a) := by
  refine ⟨?_⟩
  unfold State.refuseAccess State.fencedSpeaker
  dsimp only
  split <;> split <;> rfl

theorem keepsCsq_doFallow : s.KeepsCsq (s.doFallow n).2 := by
  unfold State.doFallow
  split
  · exact State.KeepsCsq.setReg ⟨s.poke_csq _ _ _⟩ _ _
  · exact .refl s

theorem keepsCsq_toFallow : s.KeepsCsq (s.toFallow n) := by
  refine .trans ?_ (keepsCsq_setLstate _ n _)
  unfold State.fldCmd
  split
  · exact keepsCsq_doFallow s n
  · exact keepsCsq_refuseAccess s (some 37) idFld .command Reg.TAC_CMD_SEQ

theorem keepsCsq_timeTrans : s.KeepsCsq (s.timeTrans n) := by
  have hst (st : Nat) := keepsCsq_setLstate s n st
  have hretire (pub : Bool) := keepsCsq_retire s n pub
  have hfallow := keepsCsq_toFallow s n
  unfold State.timeTrans
  extract_lets b low
  split
  · exact .ite (hst _) (.ite (hretire _) (.refl s))
  · exact .ite (hretire _) (.ite hfallow (.ite (hst _) (.refl s)))
  · exact .ite (hretire _) (.ite hfallow (.refl s))
  · exact .ite (hretire _) (.refl s)
  · exact .refl s

/-! ### Hand-overs (R628, R629) -/

theorem keepsCsq_handEvent (gid : Nat) : s.KeepsCsq (s.handEvent gid) := by
  unfold State.handEvent
  exact .ite (.refl s) ⟨rfl⟩

theorem keepsCsq_abortHand : s.KeepsCsq (s.abortHand n) := by
  unfold State.abortHand
  split
  · exact .refl s
  · extract_lets _ t u v
    have ht : s.KeepsCsq t := ⟨rfl⟩
    have hu : t.KeepsCsq u := (keepsCsq_sendDev t _ _ _ _).trans ⟨rfl⟩
    have hv : u.KeepsCsq v := .ite (.refl u) (keepsCsq_setTrk u n _)
    exact ht.trans (hu.trans (hv.trans (keepsCsq_handEvent v _)))

theorem keepsCsq_handTaken (h : Handing) : s.KeepsCsq (s.handTaken h) := by
  unfold State.handTaken
  extract_lets _ t
  have ht : s.KeepsCsq t := ⟨rfl⟩
  exact .ite (ht.trans (.ite (keepsCsq_retire t _ _) (.refl t))) (.refl s)

theorem keepsCsq_handLost (h : Handing) : s.KeepsCsq (s.handLost h) := .ite (keepsCsq_handTaken s h) (keepsCsq_abortHand s _)

theorem keepsCsq_handCutoff (i : Nat) : s.KeepsCsq (s.handCutoff i) :=
  (State.KeepsCsq.refl s).foldl (fun t h => .ite (keepsCsq_handLost t h) (.ite (keepsCsq_handTaken t h) (.refl t))) _

/-! ### FLD (R22, R367, R389, R395) -/

theorem keepsCsq_killNow : s.KeepsCsq (s.killNow n).2 := by
  have habort := keepsCsq_abortHand s n
  unfold State.killNow
  extract_lets t b
  split
  · exact habort
  · split
    · exact habort
    · exact habort.trans (keepsCsq_retire t n _)

theorem keepsCsq_trackCmds : s.KeepsCsq s.trackCmds := by
  unfold State.trackCmds
  refine .foldl ⟨by rfl⟩ (fun t c => ?_) _
  cases c with
  | kill n => exact ((keepsCsq_killNow t n).setFld _ _ _ _).setBit _ _ _
  | clear x => exact (State.KeepsCsq.setFld ⟨by rfl⟩ _ _ _ _).setBit _ _ _

theorem keepsCsq_takeNotices : s.KeepsCsq s.takeNotices := by
  unfold State.takeNotices
  refine .foldl ⟨by rfl⟩ (fun t n => ?_) _
  exact .ite (keepsCsq_retire t n _) (.refl t)

theorem keepsCsq_freshFlags : s.KeepsCsq s.freshFlags := by
  unfold State.freshFlags
  refine .foldl (.refl s) (fun t n => ?_) _
  exact .ite (.refl t) (keepsCsq_setTrk t n _)

theorem keepsCsq_noteLate (x : Det) : s.KeepsCsq (s.noteLate x) := ⟨rfl⟩

theorem keepsCsq_lateDrop (x : Det) : s.KeepsCsq (s.lateDrop x) := by
  unfold State.lateDrop
  exact .ite ⟨rfl⟩ ⟨rfl⟩

/-- A measurement of the step is taken: its lateness is counted, and it joins the step or is dropped beyond the horizon (R389, R391). -/
def State.takeDet (s : State) (old : Nat) (x : Det) : State :=
  let s := s.noteLate x
  if dtTime x.bytes * nsT < old then s.lateDrop x else { s with fld := { s.fld with step := s.fld.step ++ [x] } }

theorem keepsCsq_takeDet (old : Nat) (x : Det) : s.KeepsCsq (s.takeDet old x) :=
  (keepsCsq_noteLate s x).trans (.ite (keepsCsq_lateDrop _ x) ⟨rfl⟩)

theorem keepsCsq_takeDets : s.KeepsCsq s.takeDets := by
  unfold State.takeDets
  extract_lets c mine
  generalize s.limitDets mine = r
  obtain ⟨keep, cut⟩ := r
  dsimp -zeta only
  extract_lets _ r old
  have hr : s.KeepsCsq r := ⟨rfl⟩
  exact hr.foldl (fun t x => keepsCsq_takeDet t old x) keep

theorem keepsCsq_takeHeld : s.KeepsCsq s.takeHeld := by
  unfold State.takeHeld
  extract_lets old
  refine .foldl ⟨by rfl⟩ (fun t p => ?_) _
  exact keepsCsq_takeDet t old p.2

theorem keepsCsq_exclude (cause : Nat) : s.KeepsCsq (s.exclude n cause) := by
  unfold State.exclude
  exact .ite (.refl s) ⟨rfl⟩

theorem keepsCsq_credStep : s.KeepsCsq s.credStep := by
  unfold State.credStep
  refine .foldl ⟨by rfl⟩ (fun t n => ?_) _
  extract_lets bad c _ v
  have hv : t.KeepsCsq v := ⟨rfl⟩
  exact .ite (hv.trans (keepsCsq_exclude v n 3)) hv

theorem keepsCsq_fldCutoff : s.KeepsCsq s.fldCutoff := by
  unfold State.fldCutoff
  refine .ite (.refl s) (.ite ?_ ?_)
  · exact (keepsCsq_takeDets s).trans ⟨rfl⟩
  · extract_lets cmds moved taken
    have hcmds : s.KeepsCsq cmds := (keepsCsq_trackCmds s).trans (keepsCsq_takeNotices _)
    have hmoved : s.KeepsCsq moved := hcmds.foldl keepsCsq_timeTrans _
    have hfixed : moved.KeepsCsq moved.freshFlags.takeDets.takeHeld :=
      ((keepsCsq_freshFlags _).trans (keepsCsq_takeDets _)).trans (keepsCsq_takeHeld _)
    have htaken : s.KeepsCsq taken := (hmoved.trans hfixed).trans (keepsCsq_credStep _)
    exact htaken.trans ⟨by dsimp only⟩

end

end Sys2Proof.Machine
end

section
/-! PROOFS. The contradiction counters (R393): what a change of all of them leaves in the register file. -/

namespace Sys2Proof.Machine

/-! ### A table whose entries are changed or dropped -/

section
variable {β : Type}

theorem SMap.find?_none {m : SMap β} {k : Nat} (h : ∀ p ∈ m, p.1 ≠ k) : SMap.find? m k = none := by
  induction m with
  | nil => rfl
  | cons p m ih =>
    obtain ⟨hp, hm⟩ := List.forall_mem_cons.1 h
    rw [SMap.find?, if_neg hp.symm, ih hm]

/-- A table whose entries keep their keys, each looked up through its change. -/
theorem SMap.find?_filterMap {F : Nat × β → Option (Nat × β)} (hF : ∀ p q, F p = some q → q.1 = p.1) {m : SMap β}
    (hm : SMap.sorted m = true) (k : Nat) :
    SMap.find? (m.filterMap F) k = (SMap.find? m k).bind (fun v => (F (k, v)).map (·.2)) := by
  rw [SMap.sorted_iff] at hm
  induction m with
  | nil => rfl
  | cons p m ih =>
    obtain ⟨hp, htail⟩ := List.pairwise_cons.1 hm
    obtain ⟨j, v⟩ := p
    have hrest : j = k → SMap.find? (m.filterMap F) k = none := by
      rintro rfl
      refine SMap.find?_none fun q hq => ?_
      obtain ⟨r, hr, hrq⟩ := List.mem_filterMap.1 hq
      have hlt := hp r hr
      rw [hF r q hrq]
      exact hlt.ne'
    by_cases hk : k = j
    · subst hk
      cases hv : F (k, v) with
      | none => simp [hv, SMap.find?, hrest]
      | some q =>
        have hq : q.1 = k := hF _ q hv
        simp [hv, SMap.find?, hq]
    · cases hv : F (j, v) with
      | none => simp [hv, SMap.find?, hk, ih htail]
      | some q =>
        have hq : q.1 = j := hF _ q hv
        simp [hv, SMap.find?, hk, hq, ih htail]

end

/-! ### The registers of the counters (R402) -/

/-- FLD_CP reads zero after reset: every other row of FLD ends before it. -/
theorem resetOf_fldCp {w : Nat} (h : w < 32768) : resetOf (Reg.FLD_CP w) = 0 := by
  have hrows : ∀ d ∈ regDefsFLD, 0 < d.stride ∧ (d.base + d.n * d.stride ≤ 0x910000 ∨ d.reset = 0) := by decide
  have hblock : Reg.FLD_CP w / 0x100000 = 9 := by
    unfold Reg.FLD_CP
    omega
  unfold resetOf regDef?
  rw [hblock]
  split
  · next d hd =>
    obtain ⟨hstride, hbefore | hzero⟩ := hrows d (List.mem_of_find?_eq_some hd)
    · have hcovers := List.find?_some hd
      simp only [RegDef.covers, Bool.and_eq_true, decide_eq_true_eq] at hcovers
      obtain ⟨⟨⟨hbase, hrow⟩, -⟩, -⟩ := hcovers
      have hend := (Nat.div_lt_iff_lt_mul hstride).1 hrow
      unfold Reg.FLD_CP at hend
      omega
    · exact hzero
  · rfl

/-- The two counters of a word, changed: those of the pairs 2w and 2w + 1. -/
def cpWord (f : Nat → Nat → Nat → Nat) (k : Nat) (v : W32) : Nat :=
  f (k / 256) (k % 256) (fieldOf v 0 16) + 65536 * f ((k + 1) / 256) ((k + 1) % 256) (fieldOf v 16 16)

/-- What becomes of a listed register as the counters change. -/
def cpEntry (f : Nat → Nat → Nat → Nat) (p : Nat × W32) : Option (Nat × W32) :=
  if Reg.FLD_CP 0 ≤ p.1 && p.1 < Reg.FLD_CP 32768 then
    let v := cpWord f ((p.1 - Reg.FLD_CP 0) / 2) p.2
    if v == 0 then none else some (p.1, BitVec.ofNat 32 v)
  else some p

theorem cpEntry_key (f : Nat → Nat → Nat → Nat) (p q : Nat × W32) (h : cpEntry f p = some q) : q.1 = p.1 := by
  unfold cpEntry at h
  split at h
  · dsimp only at h
    split at h
    · exact nomatch h
    · rw [← Option.some.inj h]
  · rw [← Option.some.inj h]

section
variable (s : State) {f : Nat → Nat → Nat → Nat}

theorem mapCp_regs (f : Nat → Nat → Nat → Nat) : (s.mapCp f).regs = s.regs.filterMap (cpEntry f) := rfl

theorem reg_mapCp (hregs : RegFile.wf s.regs = true) (o : Nat) :
    (s.mapCp f).reg o = (((SMap.find? s.regs o).bind (fun v => (cpEntry f (o, v)).map (·.2))).getD (resetOf o)) := by
  have hsorted : SMap.sorted s.regs = true := (Bool.and_eq_true_iff.1 hregs).1
  rw [State.reg, mapCp_regs, SMap.get, SMap.find?_filterMap (cpEntry_key f) hsorted]
  split <;> simp [*]

theorem reg_mapCp_other (hregs : RegFile.wf s.regs = true) {o : Nat} (h : o < Reg.FLD_CP 0 ∨ Reg.FLD_CP 32768 ≤ o) :
    (s.mapCp f).reg o = s.reg o := by
  have hkept (v : W32) : cpEntry f (o, v) = some (o, v) := if_neg (by simp; omega)
  rw [reg_mapCp s hregs, State.reg, SMap.get]
  cases SMap.find? s.regs o <;> simp [hkept]

/-- A change that leaves zero counters at zero reaches the counters of unlisted registers too. -/
theorem reg_mapCp_cp (hregs : RegFile.wf s.regs = true) (hzero : ∀ a b, f a b 0 = 0) {w : Nat} (hw : w < 32768) :
    (s.mapCp f).reg (Reg.FLD_CP w) = BitVec.ofNat 32 (cpWord f (2 * w) (s.reg (Reg.FLD_CP w))) := by
  have hpair : (Reg.FLD_CP w - Reg.FLD_CP 0) / 2 = 2 * w := by
    unfold Reg.FLD_CP
    omega
  have hentry (v : W32) : ((cpEntry f (Reg.FLD_CP w, v)).map (·.2)).getD 0 = BitVec.ofNat 32 (cpWord f (2 * w) v) := by
    rw [cpEntry, if_pos (by simp; omega), hpair]
    dsimp only
    split
    · next h => simp [beq_iff_eq.1 h]
    · rfl
  rw [reg_mapCp s hregs, State.reg, SMap.get, resetOf_fldCp hw]
  cases SMap.find? s.regs (Reg.FLD_CP w) with
  | none => simp [cpWord, fieldOf, hzero]
  | some v => exact hentry v

/-! ### The counter of a pair -/

/-- Two counters of 16 bits in a word. -/
theorem fieldOf_pair {x y : Nat} (hx : x < 65536) (hy : y < 65536) :
    fieldOf (BitVec.ofNat 32 (x + 65536 * y)) 0 16 = x ∧ fieldOf (BitVec.ofNat 32 (x + 65536 * y)) 16 16 = y := by
  simp only [fieldOf, BitVec.toNat_ofNat]
  omega

theorem cp_congr {s t : State} (h : t.regs = s.regs) (a b : Nat) : t.cp a b = s.cp a b := by
  rw [State.cp, State.cp, State.fld', State.fld', reg_congr h]

theorem cp_mapCp (hregs : RegFile.wf s.regs = true) (hzero : ∀ a b, f a b 0 = 0) (hbound : ∀ a b v, v < 65536 → f a b v < 65536)
    {a b : Nat} (ha : a < 256) (hb : b < 256) : (s.mapCp f).cp a b = f a b (s.cp a b) := by
  obtain ⟨k, hk⟩ : ∃ k, k = 256 * a + b := ⟨_, rfl⟩
  have hka : k / 256 = a := by omega
  have hkb : k % 256 = b := by omega
  have hlt (w : W32) (lo : Nat) : fieldOf w lo 16 < 65536 := Nat.mod_lt _ (by decide)
  rw [State.cp, State.cp, ← hk, State.fld', State.fld', reg_mapCp_cp s hregs hzero (by omega)]
  generalize s.reg (Reg.FLD_CP (k / 2)) = w
  obtain ⟨hlow, hhigh⟩ := fieldOf_pair (hbound (2 * (k / 2) / 256) (2 * (k / 2) % 256) _ (hlt w 0))
    (hbound ((2 * (k / 2) + 1) / 256) ((2 * (k / 2) + 1) % 256) _ (hlt w 16))
  rcases Nat.mod_two_eq_zero_or_one k with heven | hodd
  · have hword : 2 * (k / 2) = k := by omega
    rw [hword, hka, hkb] at hlow
    rw [hword, heven, cpWord, hka, hkb]
    exact hlow
  · have hword : 2 * (k / 2) + 1 = k := by omega
    rw [hword, hka, hkb] at hhigh
    rw [hodd, cpWord, hword, hka, hkb]
    exact hhigh

end

end Sys2Proof.Machine
end

section
/-! PROOFS. Detections, the cut-off and the track commands (R22, R23, R362, R363, R367, R393, R403). -/

namespace Sys2Proof.Machine

theorem exec_detectionReady (d : NewDet) (s : State) : exec (.detectionReady d) s = .next (s.detReady (s.passed d.bytes d.box) 4) := rfl
theorem exec_ingestCutoff (s : State) : exec .ingestCutoff s = .next s.ingestCutoff := rfl
theorem exec_kill (n : BitVec 20) (s : State) :
    exec (.kill n) s = .next (s.hostCmd Reg.FLD_TRACK_CMD (fun s => s.doTrackCmd (BitVec.ofNat 32 (n.toNat + 2 ^ 20)))) := rfl
theorem exec_clearContra (n : BitVec 8) (s : State) :
    exec (.clearContra n) s = .next (s.hostCmd Reg.FLD_TRACK_CMD (fun s => s.doTrackCmd (BitVec.ofNat 32 (n.toNat + 2 ^ 21)))) := rfl
theorem exec_contraDecay (s : State) : exec .contraDecay s = .next s.contraDecay := rfl

section
variable (s : State)

/-! ### Detections (R23, R362, R363) -/

section
variable {b : List Byte} (hon : s.powered 97 = true) (hst : (s.slot (dtSlot b)).st = .present)
include hon hst

theorem detReady_enters (level : Nat) (hok : s.detOk b = true) (hdrove : s.inDrove = false) :
    s.detReady b level = s.detEnter { bytes := b, ready := s.now, level := level } := by
  simp [State.detReady, hon, hst, hok, hdrove]

theorem detReady_drops (level : Nat) (hok : s.detOk b = false) : s.detReady b level = s.countSat Reg.FLD_DET_DROP 0 32 1 := by
  simp [State.detReady, hon, hst, hok]

end

theorem passed_of_not_camera {b : List Byte} (box : DetBox) (h : recKind (s.slot (dtSlot b)).record ≠ kCamera) :
    s.passed b box = patch b 14 [0, 0] := if_pos (by simpa using h)

/-! ### The cut-off (R22) -/

/-- Step i is in hand, and the step after it is next. -/
def State.beginStep (s : State) (i : Nat) : State :=
  let s := (s.reach (s.cOf i)).tcaStep
  { s with csq := { s.csq with next := i + 1, cur := { i := i, active := true } } }

/-- Every block turns to step i. -/
def State.blocksTurn (s : State) (i : Nat) : State :=
  let s := ((((s.egoCutoff i).deltaBase).dmlStep).tacStep).bseStep
  let s := { s with saf := { s.saf with prev := s.tracks.map (fun n => (n, tkXs (s.trk n))), confirmed := [], counter := [], log02 := false } }
  let s := (s.handCutoff i).fldCutoff
  let s := { s with sic := { s.sic with items := [], forced := false, forcedLast := s.sic.forced, testUsed := 0 } }.runDeferred
  let s := (List.range 8).foldl State.sqiCheck s
  s.paeStep

theorem keepsCsq_blocksTurn (i : Nat) : s.KeepsCsq (s.blocksTurn i) := by
  unfold State.blocksTurn
  extract_lets r _ u v _ w x
  have hr : s.KeepsCsq r := ((((keepsCsq_egoCutoff s i).trans (keepsCsq_deltaBase _)).trans (keepsCsq_dmlStep _)).trans
    (keepsCsq_tacStep _)).trans (keepsCsq_bseStep _)
  have hu : r.KeepsCsq u := ⟨by dsimp only [u]⟩
  have hv : u.KeepsCsq v := (keepsCsq_handCutoff u i).trans (keepsCsq_fldCutoff _)
  have hw : v.KeepsCsq w := .trans ⟨by dsimp only⟩ (keepsCsq_runDeferred _)
  have hx : w.KeepsCsq x := (State.KeepsCsq.refl w).foldl keepsCsq_sqiCheck _
  exact (((hr.trans hu).trans hv).trans (hw.trans hx)).trans (keepsCsq_paeStep x)

theorem ingestCutoff_eq (hrun : s.csq.running = true) (ht0 : s.csq.t0Set = true) (hidle : s.csq.cur.active = false)
    (hstop : s.csq.stopAt = none) (hchange : s.csq.change = none) (hhand : s.slk.handoff = none) (hon : s.csqOn = true) :
    s.ingestCutoff = (s.beginStep s.csq.next).blocksTurn s.csq.next := by
  have hdue : s.handoffDue = s := by simp [State.handoffDue, hhand]
  simp only [State.ingestCutoff, hrun, ht0, hidle, hstop, hchange, hdue, hon, Bool.not_true, Bool.not_false, Bool.and_self, Bool.or_self, if_true,
    Bool.false_eq_true, if_false]
  rfl

/-! ### Track commands (R403) -/

/-- A track command waits for the cut-off, its status busy. -/
def State.holdTrackCmd (s : State) (c : TrackCmd) : State :=
  { s.setBit Reg.FLD_TRACK_CMD_ST 16 true with fld := { s.fld with cmds := s.fld.cmds ++ [c] } }

theorem holdTrackCmd_spec (c : TrackCmd) :
    (s.holdTrackCmd c).fld.cmds = s.fld.cmds ++ [c] ∧ (s.holdTrackCmd c).bit Reg.FLD_TRACK_CMD_ST 16 = true ∧
      s.SameMemory (s.holdTrackCmd c) ∧ s.SameRegsBut (s.holdTrackCmd c) [Reg.FLD_TRACK_CMD_ST] := by
  have hmem : (s.holdTrackCmd c).mem = s.mem := by rw [State.holdTrackCmd, State.setBit_mem]
  have hregs : (s.holdTrackCmd c).regs = (s.setBit Reg.FLD_TRACK_CMD_ST 16 true).regs := by rw [State.holdTrackCmd]
  have hbusy : s.SameRegsBut (s.setBit Reg.FLD_TRACK_CMD_ST 16 true) [Reg.FLD_TRACK_CMD_ST] :=
    fun o ho => reg_setBit_ne s 16 true (List.ne_of_not_mem_cons ho)
  exact ⟨rfl, (bit_of_reg (reg_congr hregs _) 16).trans (bit_setBit_same s _ 16 true (by decide)), s.sameMemory_of_mem hmem, hbusy.congr hregs⟩

/-- The word of a track command: slot and operation (Table 8.8). -/
theorem trackCmd_fields {n op : Nat} (hn : n < 2 ^ 20) (hop : op < 8) :
    fieldOf (BitVec.ofNat 32 (n + op * 2 ^ 20)) 0 20 = n ∧ fieldOf (BitVec.ofNat 32 (n + op * 2 ^ 20)) 20 3 = op ∧
      fieldOf (BitVec.ofNat 32 (n + op * 2 ^ 20)) 23 9 = 0 := by
  simp only [fieldOf, BitVec.toNat_ofNat]
  omega

/-- What a write of FLD_TRACK_CMD answers at once: an operation out of range, or a KILL of a FREE record (R403). -/
def State.trackCmdCode (s : State) (w : W32) : Nat :=
  topCode [if fieldOf w 23 9 != 0 || !(fieldOf w 20 3 == 1 || fieldOf w 20 3 == 2) then REFUSED_DESCRIPTOR else DONE,
    if fieldOf w 20 3 == 1 && tkSt (s.trk (fieldOf w 0 20)) == tkFREE then REFUSED_STATE else DONE]

section
variable (hidle : s.bit Reg.FLD_TRACK_CMD_ST 16 = false)
include hidle

theorem doTrackCmd_eq (w : W32) :
    s.doTrackCmd w = if s.trackCmdCode w != DONE then s.status Reg.FLD_TRACK_CMD_ST (s.trackCmdCode w)
      else s.holdTrackCmd (if fieldOf w 20 3 == 1 then .kill (fieldOf w 0 20) else .clear (fieldOf w 0 20 % 256)) := by
  unfold State.doTrackCmd State.unlessBusy
  rw [hidle]
  rfl

theorem doTrackCmd_kill {w : W32} (hop : fieldOf w 20 3 = 1) (hrest : fieldOf w 23 9 = 0) :
    s.doTrackCmd w =
      if tkSt (s.trk (fieldOf w 0 20)) = tkFREE then s.status Reg.FLD_TRACK_CMD_ST REFUSED_STATE else s.holdTrackCmd (.kill (fieldOf w 0 20)) := by
  have hcode : s.trackCmdCode w = if tkSt (s.trk (fieldOf w 0 20)) = tkFREE then REFUSED_STATE else DONE := by
    simp [State.trackCmdCode, hop, hrest, topCode]
  rw [doTrackCmd_eq s hidle, hcode, hop]
  split <;> rfl

theorem doTrackCmd_clear {w : W32} (hop : fieldOf w 20 3 = 2) (hrest : fieldOf w 23 9 = 0) :
    s.doTrackCmd w = s.holdTrackCmd (.clear (fieldOf w 0 20 % 256)) := by
  have hcode : s.trackCmdCode w = DONE := by simp [State.trackCmdCode, hop, hrest, topCode]
  rw [doTrackCmd_eq s hidle, hcode, hop]
  rfl

end

section
variable (hopen : s.hostOpen .command Reg.FLD_TRACK_CMD = true) (hidle : s.bit Reg.FLD_TRACK_CMD_ST 16 = false)
include hopen hidle

theorem kill_eq (n : BitVec 20) : exec (.kill n) s =
    .next (if tkSt (s.trk n.toNat) = tkFREE then s.status Reg.FLD_TRACK_CMD_ST REFUSED_STATE else s.holdTrackCmd (.kill n.toNat)) := by
  obtain ⟨hslot, hop, hrest⟩ := trackCmd_fields (op := 1) n.isLt (by decide)
  rw [one_mul] at hslot hop hrest
  rw [exec_kill, hostCmd_open hopen, doTrackCmd_kill s hidle hop hrest, hslot]

theorem clearContra_eq (n : BitVec 8) : exec (.clearContra n) s = .next (s.holdTrackCmd (.clear n.toNat)) := by
  obtain ⟨hslot, hop, hrest⟩ := trackCmd_fields (n := n.toNat) (op := 2) (by omega) (by decide)
  rw [show 2 * 2 ^ 20 = 2 ^ 21 from rfl] at hslot hop hrest
  rw [exec_clearContra, hostCmd_open hopen, doTrackCmd_clear s hidle hop hrest, hslot, Nat.mod_eq_of_lt n.isLt]

end

/-! ### Decay (R393) -/

/-- Every counter fallen by one, at the step noted. -/
def State.decayed (s : State) : State := { s.mapCp (fun _ _ v => v - 1) with fld := { s.fld with decayAt := s.stepNo } }

theorem decayed_spec (hregs : RegFile.wf s.regs = true) :
    s.decayed.fld.decayAt = s.stepNo ∧ (∀ a b, a < 256 → b < 256 → s.decayed.cp a b = s.cp a b - 1) ∧ s.SameMemory s.decayed ∧
      ∀ o, (o < Reg.FLD_CP 0 ∨ Reg.FLD_CP 32768 ≤ o) → s.decayed.reg o = s.reg o := by
  have hcounters : s.decayed.regs = (s.mapCp (fun _ _ v => v - 1)).regs := by rw [State.decayed]
  refine ⟨rfl, fun a b ha hb => ?_, s.sameMemory_of_mem rfl, fun o ho => ?_⟩
  · rw [cp_congr hcounters, cp_mapCp s hregs (fun _ _ => rfl) (fun _ _ v hv => by omega) ha hb]
  · rw [reg_congr hcounters, reg_mapCp_other s hregs ho]

theorem contraDecay_eq (hon : s.fldOn = true) (hcfg : s.fld' Reg.FLD_CONTRA_CFG 0 16 ≠ 0)
    (hdue : s.fld.decayAt + s.fld' Reg.FLD_CONTRA_CFG 0 16 ≤ s.stepNo) :
    s.contraDecay = s.decayed :=
  if_pos (by simp [hon, hcfg, hdue])

end

/-- Settles O26: each row under its conditions comes to one named change of the state, whose effect is read off. -/
theorem detectionsCutoffAndTrackCommandsHaveTheirEffect : Obligations.DetectionsCutoffAndTrackCommandsHaveTheirEffect := by
  refine ⟨fun b box s hon => ?_,
    fun s hrun ht0 hidle hstop hchange hhand hon => ⟨_, exec_ingestCutoff s, ?_⟩, fun n s hopen hidle => ⟨fun hfree => ?_, fun hheld => ?_⟩,
    fun n s hopen hidle => ?_, fun s hcanon hon hcfg hdue => ⟨_, exec_contraDecay s, ?_⟩⟩
  · intro x hst
    refine ⟨fun hok hdrove => ?_, fun hok => ?_, passed_of_not_camera s box⟩
    · rw [exec_detectionReady, detReady_enters s hon hst 4 hok hdrove]
      rfl
    · rw [exec_detectionReady, detReady_drops s hon hst 4 hok]
  · rw [ingestCutoff_eq s hrun ht0 hidle hstop hchange hhand hon, (keepsCsq_blocksTurn _ _).csq]
    exact ⟨rfl, rfl, rfl⟩
  · rw [kill_eq s hopen hidle, if_pos hfree]
  · rw [kill_eq s hopen hidle, if_neg hheld]
    exact ⟨_, rfl, holdTrackCmd_spec s _⟩
  · exact ⟨_, clearContra_eq s hopen hidle n, holdTrackCmd_spec s _⟩
  · rw [contraDecay_eq s hon hcfg hdue]
    exact decayed_spec s hcanon.2

end Sys2Proof.Machine
end

section
/-! PROOFS. What the batched solver's work leaves of it: a write to memory, a signal that waiters are served (R272, R274, R573), and the end of a
problem (R384, R423 to R434). -/

namespace Sys2Proof.Machine

/-! ### Writes to memory (R18, R529, R532, R554, R573) -/

section
variable (s : State)

theorem bse_logError (addr id kind nsym array bank dq : Nat) : (s.logError addr id kind nsym array bank dq).bse = s.bse := by
  unfold State.logError
  extract_lets head newest same e _ t u
  have hu : u.bse = s.bse := by
    unfold u
    split <;> rfl
  split
  · cases newest <;> rfl
  · exact (State.countWrap_bse _ _ _ _ _).trans ((State.setFld_bse _ _ _ _ _).trans hu)

theorem bse_corrected (id array loc kindX : Nat) : (s.corrected id array loc kindX).bse = s.bse := by
  unfold State.corrected
  dsimp only
  split <;> exact bse_logError _ _ _ _ _ _ _ _

theorem bse_uncorrectable (id array loc kindX : Nat) : (s.uncorrectable id array loc kindX).bse = s.bse := by
  unfold State.uncorrectable
  extract_lets dram inj t _ _ u addr kind v w
  have hw : w.bse = s.bse := bse_logError u _ _ _ _ _ _ _
  split <;> exact hw

theorem bse_checkRead (id a n kindX : Nat) : (s.checkRead id a n kindX).2.bse = s.bse := by
  unfold State.checkRead
  split
  · rfl
  · refine List.foldlRecOn (motive := fun p : Bool × State => p.2.bse = s.bse) _ _ rfl (fun p hp xy _ => ?_)
    obtain ⟨ok, t⟩ := p
    obtain ⟨x, y⟩ := xy
    dsimp -zeta only
    extract_lets d u
    have hu : u.bse = t.bse := by
      unfold u
      split <;> rfl
    split
    · exact hp
    · split
      · exact (bse_corrected u _ _ _ _).trans (hu.trans hp)
      · exact (bse_uncorrectable u _ _ _ _).trans (hu.trans hp)

theorem bse_drawSyms (m n : Nat) : (s.drawSyms m n).2.bse = s.bse := by
  induction n with
  | zero => rfl
  | succ n ih => exact ih

theorem bse_rawStore (id a : Nat) (bs : List Byte) : (s.rawStore id a bs).2.bse = s.bse := by
  unfold State.rawStore
  extract_lets n bad t u
  have hu : u.bse = s.bse := by
    unfold u t
    split
    · rfl
    · exact List.foldlRecOn (motive := fun t : State => t.bse = s.bse) _ _ rfl (fun _ ht _ _ => ht)
  split
  · exact bse_checkRead s id a n 0
  · split
    · split
      · exact (bse_drawSyms u _ _).trans hu
      · exact hu
    · exact hu

theorem bse_refuseAccess (h : Option Nat) (id : Nat) (k : Kind) (a : Nat) : (s.refuseAccess h id k a).bse = s.bse := by
  unfold State.refuseAccess State.fencedSpeaker
  dsimp only
  split <;> split <;> rfl

theorem bse_busWrite (id a : Nat) (bs : List Byte) : (s.busWrite id a bs).2.bse = s.bse := by
  unfold State.busWrite
  split
  · exact bse_refuseAccess s _ _ _ _
  split
  · rfl
  split
  · rfl
  split
  · rfl
  exact bse_rawStore s id a bs

end

/-! ### Batches and their signals (R272, R405) -/

/-- A batch but for the signal it has been given. -/
def Batch.ungranted (b : Batch) : Batch := { b with go := false }

/-- The count of accepted batches, and the queue but for the signals given: all that serving a signal leaves of BSE's queue. -/
def Bse.queue (x : Bse) : Nat × List Batch := (x.accepted, x.batches.map Batch.ungranted)

theorem Bse.queue_length {x y : Bse} (h : y.queue = x.queue) : y.batches.length = x.batches.length := by
  simpa [Bse.queue] using congrArg (·.2.length) h

/-- Each batch of an equal queue stands there again, at most with a signal. -/
theorem Bse.mem_of_queue {x y : Bse} (h : y.queue = x.queue) {b : Batch} (hb : b ∈ x.batches) : ∃ c ∈ y.batches, c.ungranted = b.ungranted := by
  have hmap : y.batches.map Batch.ungranted = x.batches.map Batch.ungranted := congrArg Prod.snd h
  exact List.mem_map.1 (hmap ▸ List.mem_map_of_mem hb)

section
variable (s : State)

theorem bse_setChan (n : Nat) (c : Chan) : (s.setChan n c).bse = s.bse := by
  unfold State.setChan
  extract_lets _ t st u v l w
  have hu : u.bse = s.bse := by
    unfold u
    split
    · rfl
    · exact State.setFld_bse t _ _ _ _
  have hv : v.bse = u.bse := (State.setFld_bse _ _ _ _ _).trans ((State.setBit_bse _ _ _ _).trans (State.setBit_bse _ _ _ _))
  have hw : w.bse = v.bse := (State.setReg_bse _ _ _).trans (State.setReg_bse _ _ _)
  exact (State.setBit_bse w _ _ _).trans (hw.trans (hv.trans hu))

theorem queue_grant (w : Waiter) : (s.grant w).bse.queue = s.bse.queue := by
  cases w with
  | chan n => exact congrArg Bse.queue (bse_setChan s n _)
  | batch q =>
    refine congrArg (Prod.mk s.bse.accepted) ((List.map_map ..).trans (List.map_congr_left fun b _ => ?_))
    dsimp only [Function.comp_apply]
    split <;> rfl
  | set n => rfl
  | tile t q => cases q <;> rfl

theorem queue_serveOne (w : SigWait) : (s.serveOne w).bse.queue = s.bse.queue := by
  unfold State.serveOne
  split
  · exact queue_grant _ _
  · rfl

theorem queue_waitOn (w : SigWait) : (s.waitOn w).bse.queue = s.bse.queue := by
  unfold State.waitOn
  split
  · rfl
  · exact List.foldlRecOn (motive := fun t : State => t.bse.queue = s.bse.queue) _ State.serveOne rfl
      (fun t ht w _ => (queue_serveOne t w).trans ht)

end

/-! ### Problems and lanes -/

/-- BSE's batches and lanes and the time base stand. -/
structure State.KeepsSolver (s t : State) : Prop where
  batches : t.bse.batches = s.bse.batches
  lanes : t.bse.lanes = s.bse.lanes
  tbu : t.tbu = s.tbu

theorem State.KeepsSolver.refl (s : State) : s.KeepsSolver s := ⟨rfl, rfl, rfl⟩

theorem State.KeepsSolver.trans {s t u : State} (h : s.KeepsSolver t) (h' : t.KeepsSolver u) : s.KeepsSolver u :=
  ⟨h'.batches.trans h.batches, h'.lanes.trans h.lanes, h'.tbu.trans h.tbu⟩

theorem State.KeepsSolver.ite {s t u : State} {p : Prop} [Decidable p] (ht : s.KeepsSolver t) (hu : s.KeepsSolver u) :
    s.KeepsSolver (if p then t else u) := by split <;> assumption

theorem State.KeepsSolver.of_eq {s t : State} (hbse : t.bse = s.bse) (htbu : t.tbu = s.tbu) : s.KeepsSolver t :=
  ⟨congrArg Bse.batches hbse, congrArg Bse.lanes hbse, htbu⟩

/-- A problem has ended with a status, and the lane that ran it is free. -/
def State.ended (s : State) (q k c : Nat) : State := (s.setProb q k (.ended c)).freeLane q k

/-- A batch numbered `q` whose problem `k` has ended with a status; any other as it is. -/
def Batch.ended (q k c : Nat) (b : Batch) : Batch := if b.seq == q then { b with probs := b.probs.set k (.ended c) } else b

theorem ended_batches (s : State) (q k c : Nat) : (s.ended q k c).bse.batches = s.bse.batches.map (Batch.ended q k c) := rfl

theorem State.KeepsSolver.ended {s t : State} (h : s.KeepsSolver t) (q k c : Nat) : (s.ended q k c).KeepsSolver (t.ended q k c) :=
  ⟨congrArg (List.map (Batch.ended q k c)) h.batches, congrArg (List.map _) h.lanes, h.tbu⟩

/-- A look-up in a table whose every value is changed. -/
theorem SMap.find?_mapValues {α β : Type} (f : α → β) (m : SMap α) (k : Nat) :
    SMap.find? (m.map (fun (j, v) => (j, f v))) k = (SMap.find? m k).map f := by
  induction m with
  | nil => rfl
  | cons p m ih =>
    obtain ⟨j, v⟩ := p
    by_cases hk : k = j
    · simp [SMap.find?, hk]
    · simp [SMap.find?, hk, ih]

theorem lane_of_lanes {s t : State} (h : t.bse.lanes = s.bse.lanes) (l : Nat) : t.lane l = s.lane l := by
  rw [State.lane, State.lane, h]

/-- A lane once problem `k` of batch `q` has ended. -/
def Lane.freed (q k : Nat) (x : Lane) : Lane := if x.run == some (q, k) then { x with run := none } else x

theorem Lane.freed_run {x : Lane} {q k : Nat} (h : x.run = some (q, k)) : (x.freed q k).run = none := by simp [Lane.freed, h]

/-- The lane of a problem that ends is free. -/
theorem lane_ended_run (s : State) {l q k : Nat} (h : (s.lane l).run = some (q, k)) (c : Nat) : ((s.ended q k c).lane l).run = none := by
  have hfind : SMap.find? (s.ended q k c).bse.lanes l = (SMap.find? s.bse.lanes l).map (Lane.freed q k) :=
    SMap.find?_mapValues (Lane.freed q k) s.bse.lanes l
  unfold State.lane SMap.get at h ⊢
  rw [hfind]
  cases hx : SMap.find? s.bse.lanes l with
  | none => rfl
  | some x =>
    rw [hx] at h
    exact Lane.freed_run h

/-! ### The end of a problem (R384, R408, R425, R432) -/

section
variable (s : State)

theorem keepsSolver_busWrite (id a : Nat) (bs : List Byte) : s.KeepsSolver (s.busWrite id a bs).2 :=
  .of_eq (bse_busWrite s id a bs) (keepsDml_busWrite s id a bs).tbu

theorem keepsSolver_setTrk (n : Nat) (b : List Byte) : s.KeepsSolver (s.setTrk n b) := .of_eq (State.store_bse _ _ _) (State.store_tbu _ _ _)

theorem keepsSolver_setStateTime (n t : Nat) : s.KeepsSolver (s.setStateTime n t) := .of_eq rfl rfl

theorem keepsSolver_raiseTrackDoubt (n : Nat) : s.KeepsSolver (s.raiseTrackDoubt n) := .of_eq rfl rfl

theorem keepsSolver_countSat (o lo w n : Nat) : s.KeepsSolver (s.countSat o lo w n) := .of_eq rfl rfl

variable (x : Batch) (k : Nat)

theorem endProb_ends (c : Nat) (result : List Byte) : (s.ended x.seq k c).KeepsSolver (s.endProb x k c result) := by
  unfold State.endProb
  extract_lets h n
  have hw := keepsSolver_busWrite s idBse (s.resAddr x k) result
  generalize s.busWrite idBse (s.resAddr x k) result = r at hw ⊢
  obtain ⟨_, w⟩ := r
  dsimp -zeta only
  extract_lets t u
  have ht : (s.ended x.seq k c).KeepsSolver t := hw.ended x.seq k c
  have hu : t.KeepsSolver u := .ite (keepsSolver_setTrk t n _) (.refl t)
  exact .ite (.ite (ht.trans (hu.trans (keepsSolver_raiseTrackDoubt u n))) (ht.trans hu)) ht

theorem failProb_ends (c : Nat) : (s.ended x.seq k c).KeepsSolver (s.failProb x k c) := endProb_ends s x k c _

theorem keepsSolver_shiftDone (slot age sats : Nat) : s.KeepsSolver (s.shiftDone x slot age sats) := by
  unfold State.shiftDone
  extract_lets _ _ t v _ w
  have ht : s.KeepsSolver t := ⟨rfl, rfl, rfl⟩
  have hw : s.KeepsSolver w := ⟨ht.batches, ht.lanes, ht.tbu⟩
  exact .ite (.ite (hw.trans (keepsSolver_raiseTrackDoubt w slot)) hw) ht

/-- An abandoned problem ends with some status, shifted or not. -/
theorem abandon_ends (mayShift : Bool) : ∃ c, (s.ended x.seq k c).KeepsSolver (s.abandon x k mayShift) := by
  unfold State.abandon
  extract_lets h n sig p t dt dx dr u ended b _ pa _
  have hended (v : State) (hv : s.KeepsSolver v) (age sats : Nat) (words : List Int) :
      ∃ c, (s.ended x.seq k c).KeepsSolver (ended v age sats words) :=
    ⟨_, ((hv.trans (keepsSolver_shiftDone v x n age sats)).ended x.seq k _).trans (endProb_ends _ x k _ _)⟩
  have hu : s.KeepsSolver u := keepsSolver_countSat s _ _ _ _
  clear_value ended dt dx dr u
  split
  · exact ⟨_, ((keepsSolver_countSat s _ _ _ _).ended x.seq k _).trans (failProb_ends _ x k DEADLINE_ABANDONED)⟩
  · split
    · exact hended _ ((hu.trans (keepsSolver_setTrk u n _)).trans (keepsSolver_setStateTime _ n _)) _ _ _
    · exact hended _ (hu.trans (keepsSolver_busWrite u _ _ _)) _ _ _

end

end Sys2Proof.Machine
end

section
/-! PROOFS. The batched solver (R405 to R409, R424, R427, R432 to R436, R439). -/

namespace Sys2Proof.Machine

theorem exec_batchSubmit (id : BitVec 10) (b : List Byte) (s : State) : exec (.batchSubmit id b) s = .next (s.portSubmit id.toNat b) := rfl
theorem exec_bseDoorbell (s : State) : exec .bseDoorbell s = .next (s.hostCmd Reg.BSE_DOORBELL (fun s => s.doBatchDoorbell idHost)) := rfl
theorem exec_problemStart (l : Fin 32) (s : State) : exec (.problemStart l) s = .next (s.problemStart l) := rfl
theorem exec_problemDone (l : Fin 32) (r : ProblemOutcome) (s : State) : exec (.problemDone l r) s = .next (s.problemDone l r) := rfl
theorem exec_batchCutoff (g : BitVec 8) (s : State) : exec (.batchCutoff g) s = .next (s.batchCutoff g.toNat) := rfl
theorem exec_batchDone (g : BitVec 8) (s : State) : exec (.batchDone g) s = .next (s.batchDone g.toNat) := rfl
theorem exec_bseInject (w : W32) (s : State) :
    exec (.bseInject w) s = .next (s.hostAccess .write Reg.BSE_INJECT (fun s => s.doBseInject w)) := rfl

section
variable (s : State)

/-! ### Submission (R405 to R407, R439) -/

/-- The batch an accepted submission puts at the end of the queue. -/
def State.newBatch (s : State) (id : Nat) (b : List Byte) : Batch :=
  { desc := b, id := id, tag := s.bse.nextTag % 256, seq := s.bse.accepted, probs := List.replicate (bdCount b) .waiting }

/-- An accepted batch has joined the queue and has not yet asked for its signal. -/
def State.queued (s : State) (id : Nat) (b : List Byte) : State :=
  { s with bse := { s.bse with batches := s.bse.batches ++ [s.newBatch id b], accepted := s.bse.accepted + 1, nextTag := (s.bse.nextTag + 1) % 256 } }

section
variable {id : Nat} {b : List Byte} (hok : s.batchOk id b = true) (hadmit : s.batchAdmits id b = true) (hroom : s.bse.batches.length < 8)
include hok hadmit hroom

theorem submit_eq :
    s.submit id b = (DONE, if bdCtl b 5 then (s.queued id b).waitOn ⟨idBse, bdSigWait b, 1, .batch s.bse.accepted⟩ else s.queued id b) := by
  have hcode : topCode ((if s.batchOk id b then [] else [REFUSED_DESCRIPTOR]) ++ (if 8 ≤ s.bse.batches.length then [REFUSED_STATE] else []) ++
      (if s.batchOk id b && !s.batchAdmits id b then [BUS_ERROR_HURDLE] else [])) = DONE := by
    simp [hok, hadmit, hroom.not_ge, topCode]
  unfold State.submit
  dsimp only
  rw [hcode]
  rfl

theorem submit_done : (s.submit id b).1 = DONE := by rw [submit_eq s hok hadmit hroom]

theorem submit_queue : (s.submit id b).2.bse.queue = (s.queued id b).bse.queue := by
  rw [submit_eq s hok hadmit hroom]
  dsimp only
  split
  · exact queue_waitOn _ _
  · rfl

/-- The new batch stands in the queue, at most with its signal. -/
theorem submit_spec : ∃ x ∈ (s.submit id b).2.bse.batches, (s.submit id b).2.bse.batches.length = s.bse.batches.length + 1 ∧ x.desc = b ∧
    x.id = id ∧ x.seq = s.bse.accepted ∧ x.tag = s.bse.nextTag % 256 ∧ x.probs = List.replicate (bdCount b) .waiting ∧
    (s.submit id b).2.bse.accepted = s.bse.accepted + 1 := by
  have hqueue := submit_queue s hok hadmit hroom
  obtain ⟨x, hx, hnew⟩ := Bse.mem_of_queue hqueue (b := s.newBatch id b) (by simp [State.queued])
  refine ⟨x, hx, ?_, congrArg Batch.desc hnew, congrArg Batch.id hnew, congrArg Batch.seq hnew, congrArg Batch.tag hnew,
    congrArg Batch.probs hnew, congrArg Prod.fst hqueue⟩
  simpa [State.queued] using Bse.queue_length hqueue

/-- Without a signal to wait for, a submission touches neither memory nor registers. -/
theorem submit_frame (hwait : bdCtl b 5 = false) : s.SameMemory (s.submit id b).2 ∧ s.SameRegsBut (s.submit id b).2 [] := by
  rw [submit_eq s hok hadmit hroom, hwait]
  exact ⟨State.sameMemory_of_mem rfl, State.sameRegsBut_of_regs [] rfl⟩

theorem portSubmit_eq (hon : s.bseOn = true) (hport : s.admitsReg 37 id .command Reg.BSE_DOORBELL 4 = true) :
    s.portSubmit id b = (s.submit id b).2 := by
  unfold State.portSubmit
  rw [if_neg (by simp [hon]), if_neg (by simp [hport]), submit_eq s hok hadmit hroom]
  rfl

end

/-- A status of BSE_SUBMIT_ST and a batch's tag are shown there, and the queue stands. -/
theorem shownSubmit_spec {tag : Nat} (htag : tag < 256) :
    let t := (s.status Reg.BSE_SUBMIT_ST DONE).setFld Reg.BSE_SUBMIT_ST 8 8 tag
    t.bse = s.bse ∧ t.fld' Reg.BSE_SUBMIT_ST 0 8 = DONE ∧ t.fld' Reg.BSE_SUBMIT_ST 8 8 = tag := by
  refine ⟨rfl, ?_, ?_⟩
  · rw [fld_setFld_disjoint _ _ _ _ _ _ _ (by decide) (by decide), fld_status _ _ _ (by decide)]
  · exact (fld_setFld_same _ _ _ _ _ (by decide)).trans (Nat.mod_eq_of_lt htag)

/-- The doorbell takes the staged batch and shows its status and tag (R439). -/
theorem doBatchDoorbell_eq {id : Nat} {b : List Byte} (hstage : s.regBytes (Reg.BSE_BATCH_STAGE 0) 16 = b) (hok : s.batchOk id b = true)
    (hadmit : s.batchAdmits id b = true) (hroom : s.bse.batches.length < 8) :
    s.doBatchDoorbell id = ((s.submit id b).2.status Reg.BSE_SUBMIT_ST DONE).setFld Reg.BSE_SUBMIT_ST 8 8 s.bse.nextTag := by
  unfold State.doBatchDoorbell
  dsimp only
  rw [hstage, submit_done s hok hadmit hroom]
  rfl

/-! ### A lane takes a problem (R407, R408) -/

theorem checkRead_undamaged (h : s.msys.damage = []) (id a n kindX : Nat) : s.checkRead id a n kindX = (true, s) := if_pos (by simp [h])

theorem problemStart_eq {l k : Nat} {x : Batch} (hon : s.bseOn = true) (hfree : s.laneFree l = true) (hnext : s.nextProb = some (x, k))
    (hmem : s.msys.damage = []) (hhdr : s.hdrOk x (s.probHdr x k) = true) (hcut : s.pastCut x = false) :
    s.problemStart l = (s.setProb x.seq k (.running l)).setLane l { s.lane l with run := some (x.seq, k) } := by
  unfold State.problemStart
  rw [if_neg (by simp [hon, hfree]), hnext]
  dsimp only
  rw [checkRead_undamaged s hmem]
  dsimp only
  rw [if_neg (by simp [hhdr]), if_neg (by simp [hcut])]

/-! ### A problem completes (R411 to R423, R432, R436) -/

/-- The status of a problem whose program ran to its end or to the cut-off. -/
def solveStatus (regularised part warmRejected sat : Bool) : Nat :=
  topCode ([DONE] ++ (if regularised then [DONE_REGULARISED] else []) ++ (if part then [DONE_PARTIAL] else []) ++
    (if warmRejected then [DONE_WARM_REJECTED] else []) ++ (if sat then [DONE_RANGE_SATURATED] else []))

theorem isDone_solveStatus : ∀ regularised part warmRejected sat, isDone (solveStatus regularised part warmRejected sat) = true := by decide

/-- The status of a problem that is solved. -/
def State.solveCode (s : State) (x : Batch) (k : Nat) (cut : Option Nat) : Nat :=
  let h := s.probHdr x k
  let r := s.probRun x k cut
  let xs := (storeFold r.1 (Config.workLayout (s.prog (bdProg x.desc)) (phN h) (phM h))).1
  solveStatus r.1.pivot.isSome (r.2.2 == .partialAt) (s.warmEntry x k).2
    (decide (r.1.sats + (if bdFold x.desc then (xs.filter (·.2)).length else 0) ≠ 0))

section
variable {x : Batch} {k : Nat} {cut : Option Nat}

theorem solveProb_ends (hrun : (s.probRun x k cut).2.2 ≠ .rejected) (retried : Bool) :
    (s.ended x.seq k (s.solveCode x k cut)).KeepsSolver (s.solveProb x k cut retried) := by
  unfold State.solveProb
  rcases hsolve : s.probRun x k cut with ⟨w, iters, fin⟩
  rw [hsolve] at hrun
  dsimp -zeta only
  extract_lets h p n sig pa rej l sats sat part code flags t u v r z hdr
  have hcode : s.solveCode x k cut = code := by
    rw [State.solveCode, hsolve]
    rfl
  have ht : s.KeepsSolver t := keepsSolver_countSat s _ _ _ _
  have hu : s.KeepsSolver u := .ite (ht.trans (keepsSolver_countSat t _ _ _ _)) ht
  have hv : s.KeepsSolver v := .ite (hu.trans (keepsSolver_countSat u _ _ _ _)) hu
  have hr : s.KeepsSolver r := .ite (hv.trans (keepsSolver_countSat v _ _ _ _)) hv
  have hz : s.KeepsSolver z :=
    .ite (.ite ((hr.trans (keepsSolver_setTrk r n _)).trans (keepsSolver_setStateTime _ n _)) hr)
      (.ite hr (hr.trans (keepsSolver_busWrite r _ _ _)))
  rw [hcode, if_neg (by simpa using hrun)]
  exact (hz.ended x.seq k code).trans (endProb_ends z x k code _)

theorem solveCode_plain (hsats : (s.probRun x k cut).1.sats = 0) (hpivot : (s.probRun x k cut).1.pivot = none)
    (hpart : (s.probRun x k cut).2.2 ≠ .partialAt) (hfold : bdFold x.desc = false) (hwarm : bdCtl x.desc 2 = false) :
    s.solveCode x k cut = DONE := by
  have hrej : (s.warmEntry x k).2 = false := by simp [State.warmEntry, hwarm]
  simp [State.solveCode, hsats, hpivot, hpart, hfold, hrej, solveStatus, topCode]

end

/-- An injection taken leaves the queue and device time, and what every lane runs. -/
theorem takeInjection_spec (l : Nat) : (s.takeInjection l).bse.batches = s.bse.batches ∧ (s.takeInjection l).now = s.now ∧
    ((s.takeInjection l).lane l).run = (s.lane l).run := by
  unfold State.takeInjection
  split
  · refine ⟨rfl, rfl, ?_⟩
    rw [lane_of_lanes (congrArg Bse.lanes (State.countSat_bse _ _ _ _ _)), lane_setLane]
  · exact ⟨rfl, rfl, rfl⟩

theorem pastCut_of_now {s t : State} (h : t.now = s.now) (x : Batch) : t.pastCut x = s.pastCut x := by
  rw [State.pastCut, State.pastCut, h]

theorem problemDone_solves {l q k : Nat} {x : Batch} {r : ProblemOutcome} (hon : s.bseOn = true) (hrun : (s.lane l).run = some (q, k))
    (hfind : s.bse.batches.find? (fun b => b.seq == q) = some x) (hlane : r.lane ≠ .uncorrectable) (hinput : r.badInput = false)
    (hcut : s.pastCut x = false ∨ r.cut ≠ none) :
    ∃ retried, s.problemDone l r = (s.takeInjection l).solveProb x k r.cut retried := by
  obtain ⟨-, hnow, -⟩ := takeInjection_spec s l
  have hpast : ((s.takeInjection l).pastCut x && r.cut.isNone) = false := by
    rw [pastCut_of_now hnow]
    rcases hcut with h | h
    · rw [h, Bool.false_and]
    · rw [Option.isNone_eq_false_iff.2 (Option.isSome_iff_ne_none.2 h), Bool.and_false]
  unfold State.problemDone
  rw [if_neg (by simp [hon]), hrun]
  dsimp only
  rw [hfind]
  dsimp only
  rw [if_neg (by simpa using hlane), if_neg (by simp [hinput]), hpast]
  exact ⟨_, rfl⟩

/-! ### The cut-off (R424 to R427) -/

/-- `y` is batch `b` with the problems `ks` ended and every other as it was. -/
structure Batch.ClosedTo (ks : List Nat) (b y : Batch) : Prop where
  seq : y.seq = b.seq
  desc : y.desc = b.desc
  cut : y.cut = b.cut
  length : y.probs.length = b.probs.length
  closed : ∀ (j : Nat) (p : ProbSt), y.probs[j]? = some p → p.open = true → j ∉ ks ∧ b.probs[j]? = some p

theorem Batch.ClosedTo.refl (b : Batch) : b.ClosedTo [] b := ⟨rfl, rfl, rfl, rfl, fun _ _ h _ => ⟨List.not_mem_nil, h⟩⟩

theorem Batch.ClosedTo.trans {ks ks' : List Nat} {b y z : Batch} (h : b.ClosedTo ks y) (h' : y.ClosedTo ks' z) : b.ClosedTo (ks ++ ks') z :=
  ⟨h'.seq.trans h.seq, h'.desc.trans h.desc, h'.cut.trans h.cut, h'.length.trans h.length, fun j p hz hp => by
    obtain ⟨hj', hy⟩ := h'.closed j p hz hp
    obtain ⟨hj, hb⟩ := h.closed j p hy hp
    exact ⟨by simp [hj, hj'], hb⟩⟩

theorem closedTo_ended (b : Batch) (k c : Nat) : b.ClosedTo [k] (b.ended b.seq k c) := by
  have hended : b.ended b.seq k c = { b with probs := b.probs.set k (.ended c) } := if_pos (beq_self_eq_true _)
  rw [hended]
  refine ⟨rfl, rfl, rfl, List.length_set, fun j p hj hp => ?_⟩
  rw [List.getElem?_set] at hj
  split at hj
  · split at hj
    · cases hj
      cases hp
    · cases hj
  · next hne => exact ⟨by simpa using Ne.symm hne, hj⟩

/-- One problem of batch `q` after the other ends: the batch is closed to them all, and device time stands. -/
theorem foldl_closes {α : Type} {f : State → α → State} {q : Nat} {κ : α → Nat}
    (hf : ∀ (s : State) a, ∃ c, (s.ended q (κ a) c).KeepsSolver (f s a)) (l : List α) {b : Batch} (hb : b ∈ s.bse.batches) (hq : b.seq = q) :
    (l.foldl f s).tbu = s.tbu ∧ ∃ y ∈ (l.foldl f s).bse.batches, b.ClosedTo (l.map κ) y := by
  induction l generalizing s b with
  | nil => exact ⟨rfl, b, hb, .refl b⟩
  | cons a l ih =>
    obtain ⟨c, hkeep⟩ := hf s a
    have hmem : b.ended q (κ a) c ∈ (f s a).bse.batches := by
      rw [hkeep.batches]
      exact List.mem_map_of_mem hb
    subst hq
    have hclosed := closedTo_ended b (κ a) c
    obtain ⟨htbu, y, hy, hrest⟩ := ih (f s a) hmem hclosed.seq
    exact ⟨htbu.trans hkeep.tbu, y, hy, hclosed.trans hrest⟩

/-- The problems of a batch that have not ended, by index. -/
def Batch.unfinished (x : Batch) : List Nat := (List.range x.probs.length).filter (fun k => (x.probs.getD k (.ended 0)).open)

/-- Closed to its unfinished problems, a batch holds no problem that has not ended. -/
theorem Batch.ClosedTo.all_ended {b y : Batch} (h : b.ClosedTo b.unfinished y) : y.probs.all (fun p => !p.open) = true := by
  rw [List.all_eq_true]
  intro p hp
  obtain ⟨j, hj⟩ := List.mem_iff_getElem?.1 hp
  by_contra hopen
  have hopen : p.open = true := by simpa using hopen
  obtain ⟨hout, hb⟩ := h.closed j p hj hopen
  obtain ⟨hlt, -⟩ := List.getElem?_eq_some_iff.1 hb
  exact hout (List.mem_filter.2 ⟨List.mem_range.2 hlt, by rw [List.getD_eq_getElem?_getD, hb]; exact hopen⟩)

/-- At the cut-off an unfinished problem ends, abandoned or, its header out of form, refused. -/
theorem cutProb_ends (x : Batch) (k : Nat) (mayShift : Bool) : ∃ c, (s.ended x.seq k c).KeepsSolver
    (if s.hdrOk x (s.probHdr x k) then s.abandon x k mayShift else s.failProb x k REFUSED_DESCRIPTOR) := by
  split
  · exact abandon_ends s x k mayShift
  · exact ⟨_, failProb_ends s x k _⟩

/-- The list of a list's entries by index. -/
theorem map_getD_range {α : Type} (l : List α) (d : α) : (List.range l.length).map (fun j => l.getD j d) = l :=
  List.ext_getElem (by simp) fun j _ h => by simp [List.getElem?_eq_getElem h]

/-- At its cut-off a batch is marked and closed to its unfinished problems. -/
theorem batchCutoff_spec {g : Nat} {x : Batch} (hon : s.bseOn = true)
    (hfind : s.bse.batches.find? (fun b => b.tag == g && !b.cut && bdDeadline b.desc != 0) = some x) :
    (s.batchCutoff g).tbu = (s.reach (cutoffT x.desc)).tbu ∧
      ∃ y ∈ (s.batchCutoff g).bse.batches, Batch.ClosedTo x.unfinished { x with cut := true } y := by
  unfold State.batchCutoff
  rw [hon, hfind]
  dsimp -zeta only
  extract_lets _ _ t left
  have hleft : (List.range left.length).map (fun j => left.getD j 0) = x.unfinished := map_getD_range left 0
  have hmem : { x with cut := true } ∈ t.draw.2.bse.batches :=
    List.mem_map.2 ⟨x, List.mem_of_find?_eq_some hfind, if_pos (beq_self_eq_true _)⟩
  have hclose := foldl_closes t.draw.2 (q := x.seq) (κ := fun j => left.getD j 0)
    (fun u j => cutProb_ends u x (left.getD j 0) (decide (j < 32 + t.draw.1))) (List.range left.length) hmem rfl
  rwa [hleft] at hclose

/-! ### The end of a batch (R433) -/

/-- The status of a problem that has ended. -/
def ProbSt.code : ProbSt → Nat
  | .ended c => c
  | _ => DONE

/-- BSE_LAST_DONE and the boundary show a batch that leaves the queue with a status. -/
def State.batchLeft (s : State) (x : Batch) (c : Nat) : State :=
  (({ s with bse := { s.bse with batches := s.bse.batches.filter (fun b => b.seq != x.seq) } }).setReg Reg.BSE_LAST_DONE
    (BitVec.ofNat 32 (c + 256 * x.tag + 65536 * (bdStep x.desc % 65536)))).emit (.done 0x0A x.id c)

theorem batchDone_eq {g : Nat} {x : Batch} (hon : s.bseOn = true)
    (hfind : s.bse.batches.find? (fun b => b.tag == g && b.probs.all (fun p => !p.open)) = some x) :
    let u := s.batchLeft x (topCode (x.probs.map ProbSt.code))
    s.batchDone g = if bdSigDone x.desc = 0xFFFF then u else u.raiseSig (bdSigDone x.desc) 1 := by
  unfold State.batchDone
  rw [hon, hfind]
  simp only [beq_iff_eq]
  rfl

end

/-- Settles O28: a submission and a new run are named changes of the state; a solved problem and a cut-off end problems of their batch. -/
theorem solverCommandsHaveTheirEffect : Obligations.SolverCommandsHaveTheirEffect := by
  refine ⟨fun id b s hon hport hok hadmit hroom => ?_, fun s hopen => ?_, fun l x k s hon hfree hnext hmem hhdr hcut => ?_,
    fun l r q k x s hon hrun hfind _ hlane hinput hcut => ?_, fun g x s hon hfind => ?_, fun g x s hon hfind => ?_,
    fun w s hopen hfeat hkind => ?_⟩
  · obtain ⟨x, hx, hlength, hdesc, hid, hseq, htag, hprobs, haccepted⟩ := submit_spec s hok hadmit hroom
    rw [exec_batchSubmit, portSubmit_eq s hok hadmit hroom hon hport]
    exact ⟨_, x, rfl, hx, hlength, hdesc, hid, hseq, htag, hprobs, haccepted, submit_frame s hok hadmit hroom⟩
  · intro b hok hadmit hroom htag
    have hstage : s.regBytes (Reg.BSE_BATCH_STAGE 0) 16 = b := rfl
    clear_value b
    obtain ⟨x, hx, hlength, hdesc, hid, hseq, -⟩ := submit_spec s hok hadmit hroom
    obtain ⟨hbse, hshown⟩ := shownSubmit_spec (s.submit idHost b).2 htag
    rw [exec_bseDoorbell, hostCmd_open hopen, doBatchDoorbell_eq s hstage hok hadmit hroom]
    rw [← hbse] at hx hlength
    exact ⟨_, x, rfl, hx, hlength, hdesc, hid, hseq, hshown⟩
  · rw [exec_problemStart, problemStart_eq s hon hfree hnext hmem hhdr hcut]
  · intro u hsolved
    obtain ⟨hbatches, -, hlaneRun⟩ := takeInjection_spec s l
    obtain ⟨retried, hdone⟩ := problemDone_solves s hon hrun hfind hlane hinput hcut
    have hends := solveProb_ends u hsolved retried
    obtain rfl : x.seq = q := by simpa using List.find?_some hfind
    refine ⟨_, x.ended x.seq k (u.solveCode x k r.cut), u.solveCode x k r.cut, by rw [exec_problemDone, hdone], ?_, ?_, ?_, ?_, ?_, ?_⟩
    · rw [lane_of_lanes hends.lanes, lane_ended_run u (hlaneRun.trans hrun)]
    · rw [hends.batches, ended_batches, hbatches]
      exact List.mem_map_of_mem (List.mem_of_find?_eq_some hfind)
    · exact (closedTo_ended x k _).seq
    · rw [Batch.ended, if_pos (beq_self_eq_true _)]
    · exact isDone_solveStatus _ _ _ _
    · exact solveCode_plain u
  · obtain ⟨htbu, y, hy, hclosed⟩ := batchCutoff_spec s hon hfind
    exact ⟨_, y, exec_batchCutoff g s, congrArg Tbu.now htbu, hy, hclosed.seq, hclosed.desc, hclosed.cut, hclosed.length,
      Batch.ClosedTo.all_ended (b := { x with cut := true }) hclosed⟩
  · exact (exec_batchDone g s).trans (congrArg _ (batchDone_eq s hon hfind))
  · rw [exec_bseInject, hostAccess_open hopen]
    exact congrArg _ (if_pos (by simpa [hfeat] using hkind))

end Sys2Proof.Machine
end

section
/-! PROOFS. What the shared operations leave alone: a frame sent on the Salarur Link (R599, R600), a condition of the island, the FLT_N pin and
an MSI-X vector (R689, R690). -/

namespace Sys2Proof.Machine

/-- Frames are handed to the Salarur Link: only its own state and what leaves the device change. -/
def State.Sends (s t : State) : Prop := ∃ slk out, t = { s with slk := slk, out := out }

theorem State.Sends.refl (s : State) : s.Sends s := ⟨s.slk, s.out, rfl⟩

theorem State.Sends.trans {s t u : State} (h : s.Sends t) (h' : t.Sends u) : s.Sends u := by
  obtain ⟨_, _, rfl⟩ := h
  obtain ⟨slk, out, rfl⟩ := h'
  exact ⟨slk, out, rfl⟩

theorem State.Sends.ite {s t u : State} {p : Prop} [Decidable p] (ht : s.Sends t) (hu : s.Sends u) : s.Sends (if p then t else u) := by
  split <;> assumption

section
variable {s t : State} (h : s.Sends t)
include h

theorem State.Sends.csq : t.csq = s.csq := by obtain ⟨_, _, rfl⟩ := h; rfl
theorem State.Sends.tbu : t.tbu = s.tbu := by obtain ⟨_, _, rfl⟩ := h; rfl
theorem State.Sends.saf : t.saf = s.saf := by obtain ⟨_, _, rfl⟩ := h; rfl
theorem State.Sends.regs : t.regs = s.regs := by obtain ⟨_, _, rfl⟩ := h; rfl

end

section
variable (s : State)

theorem sends_linkPump (p fuel : Nat) : s.Sends (s.linkPump p fuel) := by
  induction fuel generalizing s with
  | zero => exact .refl s
  | succ fuel ih =>
    rw [State.linkPump]
    split
    · exact .refl s
    · exact .ite (.trans ⟨_, _, rfl⟩ (ih _)) (.refl s)

theorem sends_linkPost (f : LinkOut) : s.Sends (s.linkPost f) := by
  unfold State.linkPost
  exact .ite (.trans ⟨_, _, rfl⟩ (sends_linkPump _ _ _)) (.refl s)

theorem sends_sendDev (n type step : Nat) (payload : List Byte) : s.Sends (s.sendDev n type step payload) := by
  unfold State.sendDev
  split
  · exact sends_linkPost s _
  · exact .refl s

theorem sends_sendPair (type step flags : Nat) (payload : List Byte) : s.Sends (s.sendPair type step flags payload) := by
  unfold State.sendPair
  split
  · exact sends_linkPost s _
  · exact .refl s

theorem sends_tellEpoch : s.Sends s.tellEpoch :=
  List.foldlRecOn (motive := s.Sends) _ _ (.refl s) (fun t ht n _ => ht.trans (.ite (sends_sendDev t n _ _ _) (.refl t)))

/-- A condition shows in SAF_COND and SAF_COND_W1C and in no other register. -/
theorem sameRegsBut_setCond (b : Nat) (v : Bool) : s.SameRegsBut (s.setCond b v) [Reg.SAF_COND, Reg.SAF_COND_W1C] := by
  unfold State.setCond
  extract_lets t
  have ht : s.SameRegsBut t [Reg.SAF_COND, Reg.SAF_COND_W1C] := sameRegsBut_setReg s _ (by simp)
  split
  · exact ht.trans (sameRegsBut_setReg t _ (by simp))
  · exact ht

theorem keepsCsq_setCond (b : Nat) (v : Bool) : s.KeepsCsq (s.setCond b v) := .ite ⟨rfl⟩ ⟨rfl⟩

theorem keepsCsq_msix (v : Nat) : s.KeepsCsq (s.msix v) := .ite ⟨rfl⟩ ⟨rfl⟩

theorem keepsCsq_setFlt (low : Bool) : s.KeepsCsq (s.setFlt low) := by
  unfold State.setFlt
  exact .ite (.refl s) (.trans ⟨by rfl⟩ (keepsCsq_msix _ 3))

/-- The pin shows in SAF_STATUS and in no other register. -/
theorem sameRegsBut_setFlt (low : Bool) : s.SameRegsBut (s.setFlt low) [Reg.SAF_STATUS] := by
  unfold State.setFlt
  split
  · exact State.sameRegsBut_of_regs _ rfl
  · exact (sameRegsBut_setReg { s with saf := { s.saf with fltLow := low } } _ (by simp)).congr (regs_msix _ 3)

end

end Sys2Proof.Machine
end

section
/-! PROOFS. The step cycle: starting, stopping and its cadence (R441 to R443, R451, R452). -/

namespace Sys2Proof.Machine

theorem exec_runStart (s : State) : exec .runStart s = .next (s.hostReg Reg.CSQ_CTRL State.doRun) := rfl
theorem exec_runStop (s : State) : exec .runStop s = .next (s.hostReg Reg.CSQ_CTRL State.doStop) := rfl
theorem exec_cycleStopped (s : State) : exec .cycleStopped s = .next s.cycleStopped := rfl
theorem exec_cadenceRequest (x : BitVec 2) (s : State) :
    exec (.cadenceRequest x) s = .next (s.hostCmd Reg.CSQ_CAD_REQ (fun s => s.cadenceReq x.toNat)) := rfl
theorem exec_cadenceSwitch (s : State) : exec .cadenceSwitch s = .next s.switchDue := rfl

section
variable (s : State)

/-! ### The grid (R21, R442, R451) -/

/-- What a step ahead is reckoned from beside T_0: device time, the cadence and the cut-off. -/
structure State.KeepsPace (s t : State) : Prop where
  now : t.now = s.now
  cadence : t.reg Reg.CSQ_CADENCE = s.reg Reg.CSQ_CADENCE
  cutoff : t.reg Reg.CSQ_CUTOFF = s.reg Reg.CSQ_CUTOFF

theorem State.KeepsPace.cadence_eq {s t : State} (h : s.KeepsPace t) : t.cadence = s.cadence := by
  rw [State.cadence, State.cadence, State.regN, State.regN, h.cadence]

theorem State.KeepsPace.cutoff_eq {s t : State} (h : s.KeepsPace t) : t.regN Reg.CSQ_CUTOFF = s.regN Reg.CSQ_CUTOFF :=
  congrArg BitVec.toNat h.cutoff

theorem State.KeepsPace.stepAhead {s t : State} (h : s.KeepsPace t) (ht0 : t.csq.t0 = s.csq.t0) : t.stepAhead = s.stepAhead := by
  rw [State.stepAhead, State.stepAhead, h.now, h.cadence_eq, h.cutoff_eq, ht0]

/-- The first step of a grid at or after an instant. -/
theorem firstStep_le_iff {want t0 c : Nat} (hpos : 0 < c) (j : Nat) :
    (if want ≤ t0 then 0 else ceilDiv (want - t0) (max 1 c)) ≤ j ↔ want ≤ t0 + j * c := by
  split
  · omega
  · rw [max_eq_right hpos, ceilDiv, ← Nat.ceilDiv_eq_add_pred_div, ceilDiv_le_iff_le_mul hpos, Nat.mul_comm]
    omega

/-- The step ahead is the first whose cut-off lies two cadences ahead. -/
theorem stepAhead_le_iff (hpos : 0 < s.cadence) (j : Nat) :
    s.stepAhead ≤ j ↔ s.now + 2 * s.cadence + s.regN Reg.CSQ_CUTOFF * usT ≤ s.csq.t0 + j * s.cadence :=
  firstStep_le_iff hpos j

theorem setT0_csq (t : Time) : (s.setT0 t).csq = { s.csq with t0 := t, t0Set := true } := rfl

/-- T_0 stands in CSQ_T0 and in no other register. -/
theorem reg_setT0 (t : Time) {o : Nat} (h : o < Reg.CSQ_T0 0 ∨ Reg.CSQ_T0 4 ≤ o) : (s.setT0 t).reg o = s.reg o := by
  have hregs : (s.setT0 t).regs = (s.setRegBytes (Reg.CSQ_T0 0) (htw t)).regs := by dsimp only [State.setT0]
  rw [reg_congr hregs]
  rcases h with h | h
  · exact (setRegBytes_keeps s _ _).2 o h
  · exact (setRegBytes_frame s _ _).2.2 o (by simpa only [htw, List.length_append, length_leBytes] using h)

theorem setT0_tbu (t : Time) : (s.setT0 t).tbu = s.tbu := by
  dsimp only [State.setT0]
  exact (setRegBytes_frame s _ _).2.1

theorem keepsPace_setT0 (t : Time) : s.KeepsPace (s.setT0 t) :=
  ⟨congrArg Tbu.now (setT0_tbu s t), reg_setT0 s t (by decide), reg_setT0 s t (by decide)⟩

/-! ### RUN is set (R441, R442, R669) -/

/-- T_0 at RUN: the one CSQ_T0 holds, or where it holds none one that is formed, save at a member that waits for its EPOCH (R32, R442). -/
def State.gridded (s : State) : State :=
  match s.regT0 with
  | some t => { s with csq := { s.csq with t0 := t, t0Set := true } }
  | none => if s.slkConfig != 0 && s.devNo != 0 then s else s.setT0 (ceilDiv s.now msT * msT + 2 * s.cadence)

theorem gridded_held {x : Time} (h : s.regT0 = some x) : s.gridded = { s with csq := { s.csq with t0 := x, t0Set := true } } := by
  rw [State.gridded, h]

theorem gridded_forms (h : s.regT0 = none) (hown : s.slkConfig = 0 ∨ s.devNo = 0) :
    s.gridded = s.setT0 (ceilDiv s.now msT * msT + 2 * s.cadence) := by
  rw [State.gridded, h]
  exact if_neg (by simpa [imp_iff_not_or] using hown)

theorem gridded_waits (h : s.regT0 = none) (hconf : s.slkConfig ≠ 0) (hdev : s.devNo ≠ 0) : s.gridded = s := by
  rw [State.gridded, h]
  exact if_pos (by simp [hconf, hdev])

theorem keepsPace_gridded : s.KeepsPace s.gridded := by
  unfold State.gridded
  split
  · exact ⟨rfl, rfl, rfl⟩
  · split
    · exact ⟨rfl, rfl, rfl⟩
    · exact keepsPace_setT0 s _

theorem gridded_change : s.gridded.csq.change = s.csq.change := by
  unfold State.gridded
  split
  · rfl
  · split
    · rfl
    · rw [setT0_csq]

theorem keepsCsq_reloadTile (t : Nat) : s.KeepsCsq (s.reloadTile t) :=
  (State.KeepsCsq.refl s).foldl (fun u _ => ⟨u.store_csq _ _⟩) _

/-- The cycle runs from the first step ahead; STARTUP and the state Running are shown (Tables 13.3 and 16.2). -/
def State.started (s : State) : State :=
  let k := s.stepAhead
  let s := { s.tca.reload.foldl (fun s t => s.reloadTile t) s with tca := { s.tca with reload := [] } }
  let s := s.startGates k
  let s := s.renumber s.stepNo k
  let s := { s with csq := { s.csq with running := true, stopAt := none, next := k, cur := {} }, saf := { s.saf with startup := 0 } }
  (((s.setBit Reg.CSQ_CTRL 0 true).setBit Reg.CSQ_STATUS 0 true).setFld Reg.AON_PWR_STATE 0 3 4).setCond 0 true

theorem started_csq : s.started.csq = { s.csq with running := true, stopAt := none, next := s.stepAhead, cur := {} } := by
  unfold State.started
  extract_lets k r _ u v w _ _ t
  have hr : r.csq = s.csq := ((State.KeepsCsq.refl s).foldl keepsCsq_reloadTile s.tca.reload).csq
  have ht : t.csq = { r.csq with running := true, stopAt := none, next := k, cur := {} } := rfl
  rw [(keepsCsq_setCond _ 0 true).csq, State.setFld_csq, State.setBit_csq, State.setBit_csq, ht, hr]

theorem started_shown : s.started.bit Reg.CSQ_CTRL 0 = true ∧ s.started.bit Reg.CSQ_STATUS 0 = true ∧ s.started.pwr = 4 := by
  unfold State.started State.pwr
  dsimp only
  refine ⟨?_, ?_, ?_⟩
  · rw [(sameRegsBut_setCond _ 0 true).bit (by decide), bit_of_reg (reg_setFld_ne _ _ _ _ (by decide)),
      bit_setBit_ne _ _ _ _ (by decide), bit_setBit_same _ _ _ _ (by decide)]
  · rw [(sameRegsBut_setCond _ 0 true).bit (by decide), bit_of_reg (reg_setFld_ne _ _ _ _ (by decide)),
      bit_setBit_same _ _ _ _ (by decide)]
  · rw [(sameRegsBut_setCond _ 0 true).fld (by decide), fld_setFld_same _ _ _ _ _ (by decide)]
    rfl

theorem doRun_eq (hlth : s.lthState = 3) (hidle : s.csq.running = false) (hpwr : s.pwr = 3) (htrans : s.bit Reg.AON_PWR_STATE 8 = false)
    (hchange : s.csq.change = none) : s.doRun = s.gridded.started := by
  unfold State.doRun
  rw [if_neg (by simp [hlth, hidle, hpwr, htrans])]
  extract_lets _ g u
  have hg : g = s.gridded := rfl
  have hnone : g.csq.change = none := by rw [hg, gridded_change, hchange]
  have hu : u = s.gridded := by
    unfold u
    rw [hnone]
    exact hg
  unfold State.started
  rw [← hu]

/-! ### RUN is cleared (R443, R452) -/

theorem doStop_spec (hrun : s.csq.running = true) (hstop : s.csq.stopAt = none) :
    s.doStop.csq.running = true ∧ s.doStop.csq.stopAt = some s.csq.next ∧ s.doStop.bit Reg.CSQ_CTRL 0 = false := by
  unfold State.doStop
  extract_lets r
  have hbit : r.bit Reg.CSQ_CTRL 0 = false := bit_setBit_same s _ _ _ (by decide)
  rw [if_neg (by simp [r, hrun, hstop])]
  split
  · rw [State.setBit_csq, State.status_csq]
    refine ⟨hrun, rfl, ?_⟩
    rw [bit_setBit_ne _ _ _ _ (by decide), State.status, bit_of_reg (reg_setFld_ne _ _ _ _ (by decide))]
    exact hbit
  · exact ⟨hrun, rfl, hbit⟩

theorem cycleStopped_spec {k : Nat} (hstop : s.csq.stopAt = some k) (hrun : s.csq.running = true) (hidle : s.csq.cur.active = false)
    (hsegs : s.csq.segs = []) :
    s.cycleStopped.csq.running = false ∧ s.cycleStopped.csq.stopAt = none ∧ s.cycleStopped.bit Reg.CSQ_STATUS 0 = false ∧
      s.cycleStopped.pwr = 3 := by
  unfold State.cycleStopped
  rw [hstop]
  dsimp only
  rw [if_neg (by simp [hrun, hidle, hsegs])]
  refine ⟨?_, ?_, ?_, ?_⟩
  · rw [(keepsCsq_setFlt _ true).csq]
    rfl
  · rw [(keepsCsq_setFlt _ true).csq]
    rfl
  · rw [(sameRegsBut_setFlt _ true).bit (by decide), bit_of_reg (reg_setFld_ne _ _ _ _ (by decide)), bit_setBit_same _ _ _ _ (by decide)]
  · rw [State.pwr, (sameRegsBut_setFlt _ true).fld (by decide), fld_setFld_same _ _ _ _ _ (by decide)]
    rfl

/-! ### A cadence is requested (R451, R452, R512) -/

section
variable {s} {x : Nat} {d : Sched} (hidle : s.bit Reg.CSQ_CAD_ST 16 = false) (hfind : SMap.find? s.csq.scheds x = some d)
  (hlth : s.lthState = 3)
include hidle hfind hlth

/-- A request that fits names its step, and waits for it. -/
theorem cadenceReq_fits (hgrid : s.csq.t0Set = true) (hfit : s.fitNow 0 [(x, d)] = none) :
    (s.cadenceReq x).csq.change = some (x, s.stepAhead) ∧ (s.cadenceReq x).bit Reg.CSQ_CAD_ST 16 = true ∧
      (s.cadenceReq x).reg Reg.CSQ_CAD_STEP = BitVec.ofNat 32 s.stepAhead := by
  have hahead : (s.rtCount true).stepAhead = s.stepAhead :=
    State.KeepsPace.stepAhead ⟨rfl, reg_setFld_ne s _ _ _ (by decide), reg_setFld_ne s _ _ _ (by decide)⟩ rfl
  unfold State.cadenceReq State.unlessBusy
  rw [if_neg (by simp [hidle])]
  dsimp -zeta only
  rw [hfind]
  dsimp -zeta only
  rw [if_neg (by simp [hlth]), hfit]
  dsimp -zeta only
  extract_lets r k _ u v
  have hk : k = s.stepAhead := (if_pos hgrid).trans hahead
  have hu : u.csq.change = some (x, k) := rfl
  have hv : v.csq = u.csq := (State.setBit_csq _ _ _ _).trans (State.setReg_csq _ _ _)
  rw [if_pos (by rw [hv]; exact hgrid), ← hk, hv]
  exact ⟨hu, bit_setBit_same _ _ _ _ (by decide), (reg_setBit_ne _ _ _ (by decide)).trans (reg_setReg_same _ _ _)⟩

/-- A request that does not fit leaves the change in hand as it was. -/
theorem cadenceReq_refused (hfit : s.fitNow 0 [(x, d)] ≠ none) :
    (s.cadenceReq x).csq.change = s.csq.change ∧ (s.cadenceReq x).fld' Reg.CSQ_CAD_ST 0 8 = REFUSED_FIT := by
  obtain ⟨r, hr⟩ := Option.ne_none_iff_exists'.1 hfit
  unfold State.cadenceReq State.unlessBusy
  rw [if_neg (by simp [hidle])]
  dsimp -zeta only
  rw [hfind]
  dsimp only
  rw [if_neg (by simp [hlth]), hr]
  refine ⟨?_, fld_status _ _ _ (by decide)⟩
  rw [State.status_csq, State.rtCount, State.countSat_csq, State.rtRefuse, State.setReg_csq]

end

/-! ### The cadence changes (R451) -/

/-- A schedule is put in force: its cadence shows. -/
theorem putSched_spec {x : Nat} {d : Sched} (hfind : SMap.find? s.csq.scheds x = some d) :
    (s.putSched x).csq = { s.csq with sched := x } ∧ (s.putSched x).reg Reg.CSQ_CADENCE = BitVec.ofNat 32 d.cadence := by
  unfold State.putSched
  rw [hfind]
  refine List.foldlRecOn (motive := fun t : State => t.csq = { s.csq with sched := x } ∧ t.reg Reg.CSQ_CADENCE = BitVec.ofNat 32 d.cadence)
    _ _ ⟨rfl, ?_⟩ (fun t ht k _ => ⟨ht.1, ?_⟩)
  · rw [reg_setFld_ne _ _ _ _ (by decide), reg_setReg_ne _ _ (by decide), reg_setReg_same]
  · have hne {base : Nat} (h : Reg.CSQ_CADENCE < base) : Reg.CSQ_CADENCE ≠ base + 16 * k := by omega
    rw [reg_setReg_ne _ _ (hne (by decide)), reg_setReg_ne _ _ (hne (by decide)), reg_setReg_ne _ _ (hne (by decide)), ht.2]

theorem cadenceSwitch_spec {x k : Nat} {d : Sched} (hchange : s.csq.change = some (x, k)) (hgrid : s.csq.t0Set = true)
    (hfind : SMap.find? s.csq.scheds x = some d) (hwidth : d.cadence < 2 ^ 32) (hlate : k * (d.cadence * usT) ≤ s.tOf k) :
    let t := s.cadenceSwitch
    t.csq.sched = x ∧ t.csq.change = none ∧ t.cadence = d.cadence * usT ∧ t.tOf k = s.tOf k ∧ t.fld' Reg.CSQ_CAD_ST 0 8 = DONE ∧
      t.bit Reg.CSQ_CAD_ST 16 = false := by
  obtain ⟨hcsq, hcad⟩ := putSched_spec s hfind
  unfold State.cadenceSwitch
  rw [hchange]
  dsimp -zeta only
  extract_lets tk p q _ r t
  have hpace : p.cadence = d.cadence * usT := by
    rw [State.cadence, State.regN, hcad, BitVec.toNat_ofNat, Nat.mod_eq_of_lt hwidth]
  have hq : q = p.setT0 (tk - k * p.cadence) := if_pos (by rw [hcsq]; exact hgrid)
  have hrcsq : r.csq = { p.csq with t0 := tk - k * p.cadence, t0Set := true, change := none } := by
    change ({ q.csq with change := none } : Csq) = _
    rw [hq, setT0_csq]
  have hrcad : r.cadence = d.cadence * usT := by
    have hreg : r.reg Reg.CSQ_CADENCE = q.reg Reg.CSQ_CADENCE :=
      (reg_setBit_ne _ _ _ (by decide)).trans (reg_setFld_ne _ _ _ _ (by decide))
    rw [← hpace, State.cadence, State.cadence, State.regN, State.regN, hreg, hq, reg_setT0 p _ (by decide)]
  have hrst : r.fld' Reg.CSQ_CAD_ST 0 8 = DONE ∧ r.bit Reg.CSQ_CAD_ST 16 = false :=
    ⟨(fld_setBit_other _ _ _ (by decide) (by decide)).trans (fld_status _ _ _ (by decide)), bit_setBit_same _ _ _ _ (by decide)⟩
  have hsends : r.Sends t := .ite (sends_tellEpoch r) (.refl r)
  have hreg (o : Nat) : t.reg o = r.reg o := reg_congr hsends.regs o
  have htcad : t.cadence = d.cadence * usT := by rw [← hrcad, State.cadence, State.cadence, State.regN, State.regN, hreg]
  rw [State.tOf, htcad, hsends.csq, hrcsq, bit_of_reg (hreg _), State.fld', hreg, hpace]
  exact ⟨congrArg Csq.sched hcsq, rfl, rfl, Nat.sub_add_cancel hlate, hrst⟩

theorem switchDue_eq {x k : Nat} (hchange : s.csq.change = some (x, k)) (hrun : s.csq.running = true) (hidle : s.csq.cur.active = false)
    (hdue : k ≤ s.csq.next) : s.switchDue = s.cadenceSwitch := by
  unfold State.switchDue
  rw [hchange]
  dsimp only
  rw [if_pos hrun, if_neg (by simpa [hidle] using hdue)]

end

/-- Settles O29: each row is reduced to the change of the state it makes, and the first step is the least of the grid that lies far enough. -/
theorem runAndCadenceCommandsHaveTheirEffect : Obligations.RunAndCadenceCommandsHaveTheirEffect := by
  refine ⟨fun s hopen hlth hidle hpwr htrans hchange hpos => ?_, fun s hopen hrun hstop => ?_, fun k s hstop hrun hidle hsegs => ?_,
    fun x d s hopen hidle hfind hlth hgrid => ?_, fun x k d s hchange hrun hidle hdue hgrid hfind hwidth hlate => ?_⟩
  · rw [exec_runStart, hostReg_free hopen, doRun_eq s hlth hidle hpwr htrans hchange]
    intro a
    have hpace := keepsPace_gridded s
    have hcsq := started_csq s.gridded
    have hleast (j : Nat) : s.gridded.stepAhead ≤ j ↔ a ≤ s.gridded.csq.t0 + j * s.cadence := by
      rw [stepAhead_le_iff _ (by rwa [hpace.cadence_eq]), hpace.cadence_eq, hpace.cutoff_eq, hpace.now]
    refine ⟨_, rfl, ?_⟩
    rw [hcsq]
    dsimp only
    refine ⟨rfl, rfl, rfl, fun hnone hown => ?_, fun hnone hconf hdev => ?_, fun x hheld => ?_,
      (hleast s.gridded.stepAhead).1 le_rfl, fun j => (hleast j).2, started_shown s.gridded⟩
    · rw [gridded_forms s hnone hown, setT0_csq]
      exact ⟨rfl, rfl⟩
    · rw [gridded_waits s hnone hconf hdev]
      exact ⟨rfl, rfl⟩
    · rw [gridded_held s hheld]
      exact ⟨rfl, rfl⟩
  · rw [exec_runStop, hostReg_free hopen]
    exact ⟨_, rfl, doStop_spec s hrun hstop⟩
  · exact ⟨_, exec_cycleStopped s, cycleStopped_spec s hstop hrun hidle hsegs⟩
  · rw [exec_cadenceRequest, hostCmd_open hopen]
    exact ⟨_, rfl, cadenceReq_fits hidle hfind hlth hgrid, cadenceReq_refused hidle hfind hlth⟩
  · rw [exec_cadenceSwitch, switchDue_eq s hchange hrun hidle hdue]
    exact ⟨_, rfl, cadenceSwitch_spec s hchange hgrid hfind hwidth hlate⟩

end Sys2Proof.Machine
end

section
/-! PROOFS. The step in hand stands while it is published (R25, R450): what writes to memory, the lists on the outputs, the safety channel and the
work at the step's end leave of it. -/

namespace Sys2Proof.Machine

/-- The step in hand and the last one published. -/
def Csq.step (x : Csq) : StepSt × Option Nat := (x.cur, x.pub)

/-- The phase of a restart, and the last step on the safety channel. -/
def Saf.channel (x : Saf) : Nat × Option Nat := (x.rsPhase, x.chanStep)

/-- The step in hand stands, on the outputs and on the safety channel; device time and CSQ_STEP_LO stand. -/
structure State.KeepsStep (s t : State) : Prop where
  step : t.csq.step = s.csq.step
  channel : t.saf.channel = s.saf.channel
  tbu : t.tbu = s.tbu
  shown : t.reg Reg.CSQ_STEP_LO = s.reg Reg.CSQ_STEP_LO

theorem State.KeepsStep.refl (s : State) : s.KeepsStep s := ⟨rfl, rfl, rfl, rfl⟩

theorem State.KeepsStep.trans {s t u : State} (h : s.KeepsStep t) (h' : t.KeepsStep u) : s.KeepsStep u :=
  ⟨h'.step.trans h.step, h'.channel.trans h.channel, h'.tbu.trans h.tbu, h'.shown.trans h.shown⟩

theorem State.KeepsStep.ite {s t u : State} {p : Prop} [Decidable p] (ht : s.KeepsStep t) (hu : s.KeepsStep u) :
    s.KeepsStep (if p then t else u) := by split <;> assumption

theorem keepsStep_foldl {α : Type} {f : State → α → State} (hf : ∀ (s : State) a, s.KeepsStep (f s a)) (l : List α) (s : State) :
    s.KeepsStep (l.foldl f s) :=
  List.foldlRecOn (motive := s.KeepsStep) l f (.refl s) (fun t ht a _ => ht.trans (hf t a))

theorem State.KeepsStep.of_eq {s t : State} (hcsq : t.csq.step = s.csq.step) (hsaf : t.saf.channel = s.saf.channel) (htbu : t.tbu = s.tbu)
    (hregs : t.regs = s.regs) : s.KeepsStep t := ⟨hcsq, hsaf, htbu, reg_congr hregs _⟩

theorem State.Sends.keepsStep {s t : State} (h : s.Sends t) : s.KeepsStep t :=
  .of_eq (congrArg _ h.csq) (congrArg _ h.saf) h.tbu h.regs

section
variable {s t : State} (h : s.KeepsStep t)
include h

theorem State.KeepsStep.cur : t.csq.cur = s.csq.cur := congrArg Prod.fst h.step
theorem State.KeepsStep.pub : t.csq.pub = s.csq.pub := congrArg Prod.snd h.step
theorem State.KeepsStep.rsPhase : t.saf.rsPhase = s.saf.rsPhase := congrArg Prod.fst h.channel
theorem State.KeepsStep.chanStep : t.saf.chanStep = s.saf.chanStep := congrArg Prod.snd h.channel

/-- The number of a step is shown in both. -/
theorem State.KeepsStep.shows (v : W32) : (s.setReg Reg.CSQ_STEP_LO v).KeepsStep (t.setReg Reg.CSQ_STEP_LO v) :=
  ⟨h.step, h.channel, h.tbu, by rw [reg_setReg_same, reg_setReg_same]⟩

section
variable {o : Nat} (ho : o ≠ Reg.CSQ_STEP_LO)
include ho

theorem State.KeepsStep.setReg (v : W32) : s.KeepsStep (t.setReg o v) :=
  ⟨h.step, h.channel, h.tbu, (reg_setReg_ne t v ho.symm).trans h.shown⟩

theorem State.KeepsStep.setFld (lo w v : Nat) : s.KeepsStep (t.setFld o lo w v) := h.setReg ho _
theorem State.KeepsStep.setBit (b : Nat) (v : Bool) : s.KeepsStep (t.setBit o b v) := h.setReg ho _
theorem State.KeepsStep.countSat (lo w n : Nat) : s.KeepsStep (t.countSat o lo w n) := h.setReg ho _
theorem State.KeepsStep.countWrap (lo w n : Nat) : s.KeepsStep (t.countWrap o lo w n) := h.setReg ho _

end

end

section
variable (s : State)

/-! ### Writes to memory (R18, R529, R532, R554, R573) -/

theorem keepsStep_logError (addr id kind nsym array bank dq : Nat) : s.KeepsStep (s.logError addr id kind nsym array bank dq) := by
  unfold State.logError
  extract_lets head newest same e _ t u
  have ht : s.KeepsStep t := .of_eq rfl rfl rfl rfl
  have hu : s.KeepsStep u := .ite (ht.setBit (o := Reg.MEM_STATUS_W1C) (by decide) _ _) ht
  split
  · cases newest <;> exact .of_eq rfl rfl rfl rfl
  · exact (hu.setFld (o := Reg.MEM_LOG_HEAD) (by decide) _ _ _).countWrap (by decide) _ _ _

theorem keepsStep_corrected (id array loc kindX : Nat) : s.KeepsStep (s.corrected id array loc kindX) := by
  unfold State.corrected
  extract_lets n dram pins t _ u
  have hheal : s.KeepsStep (s.heal array loc) := .of_eq rfl rfl rfl rfl
  have ht : s.KeepsStep t := hheal.countSat (by split <;> decide) _ _ _
  have hu : s.KeepsStep u := ht.trans (.of_eq rfl rfl rfl rfl)
  exact .ite (hu.trans (keepsStep_logError _ _ _ _ _ _ _ _)) (hu.trans (keepsStep_logError _ _ _ _ _ _ _ _))

theorem keepsStep_raiseStepDoubt : s.KeepsStep s.raiseStepDoubt := by
  refine State.KeepsStep.countSat ?_ (o := Reg.SAF_DOUBT_CNT) (by decide) _ _ _
  exact .of_eq rfl rfl rfl rfl

theorem keepsStep_uncorrectable (id array loc kindX : Nat) : s.KeepsStep (s.uncorrectable id array loc kindX) := by
  unfold State.uncorrectable
  extract_lets dram inj t _ _ u addr kind v w
  have ht : s.KeepsStep t := (State.KeepsStep.refl s).countSat (by split <;> decide) _ _ _
  have hu : s.KeepsStep u := (ht.setBit (o := Reg.MEM_STATUS_W1C) (by decide) _ _).trans (.of_eq rfl rfl rfl rfl)
  have hw : s.KeepsStep w := (hu.trans (keepsStep_logError _ _ _ _ _ _ _ _)).trans (.of_eq rfl rfl rfl rfl)
  exact .ite (hw.trans (keepsStep_raiseStepDoubt w)) hw

theorem keepsStep_checkRead (id a n kindX : Nat) : s.KeepsStep (s.checkRead id a n kindX).2 := by
  unfold State.checkRead
  split
  · exact .refl s
  · refine List.foldlRecOn (motive := fun p : Bool × State => s.KeepsStep p.2) _ _ (.refl s) (fun p hp xy _ => ?_)
    obtain ⟨ok, t⟩ := p
    obtain ⟨x, y⟩ := xy
    dsimp -zeta only
    extract_lets d u
    have hu : s.KeepsStep u := .ite (hp.countSat (o := Reg.MEM_INJ_CNT) (by decide) _ _ _) hp
    split
    · exact hp
    · split
      · exact hu.trans (keepsStep_corrected u _ _ _ _)
      · exact hu.trans (keepsStep_uncorrectable u _ _ _ _)

theorem keepsStep_drawSyms (m n : Nat) : s.KeepsStep (s.drawSyms m n).2 := by
  induction n with
  | zero => exact .refl s
  | succ n ih => exact ih.trans (.of_eq rfl rfl rfl rfl)

theorem keepsStep_rawStore (id a : Nat) (bs : List Byte) : s.KeepsStep (s.rawStore id a bs).2 := by
  unfold State.rawStore
  extract_lets n bad t u
  have ht : s.KeepsStep t := .ite (.refl s) (keepsStep_foldl (f := fun s (x, y) => s.heal x y) (fun _ _ => .of_eq rfl rfl rfl rfl) _ s)
  have hu : s.KeepsStep u := ht.trans (.of_eq rfl rfl rfl rfl)
  split
  · exact keepsStep_checkRead s id a n 0
  · split
    · split
      · exact (hu.trans (keepsStep_drawSyms u _ _)).trans (.of_eq rfl rfl rfl rfl)
      · exact hu
    · exact hu

theorem keepsStep_refuseAccess (h : Option Nat) (id : Nat) (k : Kind) (a : Nat) : s.KeepsStep (s.refuseAccess h id k a) := by
  unfold State.refuseAccess State.fencedSpeaker
  split
  · next t ht =>
    have hid : Reg.TCA_T_FENCED t ≠ Reg.CSQ_STEP_LO := by
      obtain ⟨⟨h34, -⟩, rfl⟩ : (id < 34 ∧ s.revoked id = true) ∧ id = t := by simpa [State.fencedTile] using ht
      unfold Reg.TCA_T_FENCED Reg.CSQ_STEP_LO
      omega
    extract_lets u x v
    have hu : s.KeepsStep u := (State.KeepsStep.refl s).countSat hid _ _ _
    have hv : s.KeepsStep v := hu.countSat (o := Reg.SAF_FENCED) (by decide) _ _ _
    exact .ite (hv.trans (.of_eq rfl rfl rfl rfl)) hv
  · have hcount : s.KeepsStep (s.countSat Reg.SAF_REFUSE_CNT 0 32 1) := (State.KeepsStep.refl s).countSat (by decide) _ _ _
    exact .ite (hcount.trans (.of_eq rfl rfl rfl rfl)) hcount

theorem keepsStep_busWrite (id a : Nat) (bs : List Byte) : s.KeepsStep (s.busWrite id a bs).2 := by
  unfold State.busWrite
  split
  · exact keepsStep_refuseAccess s _ _ _ _
  split
  · exact .refl s
  split
  · exact .refl s
  split
  · exact .refl s
  exact keepsStep_rawStore s id a bs

/-! ### The outputs (R450, R456, R462 to R477, R583) -/

theorem keepsStep_event (source sev code status : Nat) (data : List Byte) : s.KeepsStep (s.event source sev code status data) :=
  .of_eq rfl rfl rfl rfl

theorem keepsStep_emit (o : Out) : s.KeepsStep (s.emit o) := .of_eq rfl rfl rfl rfl

theorem keepsStep_msix (v : Nat) : s.KeepsStep (s.msix v) := .ite (.of_eq rfl rfl rfl rfl) (.of_eq rfl rfl rfl rfl)

theorem keepsStep_commitList (a i : Nat) (list : List Byte) : s.KeepsStep (s.commitList a i list) :=
  ((keepsStep_busWrite s _ _ _).trans (keepsStep_busWrite _ _ _ _)).trans (keepsStep_busWrite _ _ _ _)

theorem keepsStep_nextSeq (o : Nat) : s.KeepsStep (s.nextSeq o).2 :=
  (State.KeepsStep.refl s).setReg (by unfold Reg.CSQ_SEQ Reg.CSQ_STEP_LO; omega) _

theorem keepsStep_csLate (n : Nat) : s.KeepsStep (s.csLate n) :=
  .ite (.refl s) (((State.KeepsStep.refl s).countSat (o := Reg.CSQ_CS_LATE) (by decide) _ _ _).setBit (o := Reg.CSQ_STATUS) (by decide) _ _)

theorem keepsStep_csDiscard : s.KeepsStep s.csDiscard := by
  unfold State.csDiscard
  split
  refine .trans ?_ (keepsStep_csLate _ _)
  exact .of_eq rfl rfl rfl rfl

theorem csDiscard_slk : s.csDiscard.slk = s.slk := by
  unfold State.csDiscard State.csLate
  split
  dsimp only
  split <;> rfl

theorem keepsStep_ringOut : s.KeepsStep s.ringOut := by
  unfold State.ringOut
  refine .ite (.refl s) ?_
  extract_lets prod full t
  have hdrop : s.KeepsStep ((s.countSat Reg.CSQ_RING_DROP 0 32 1).setBit Reg.CSQ_STATUS 3 true) :=
    ((State.KeepsStep.refl s).countSat (by decide) _ _ _).setBit (by decide) _ _
  have hover : s.KeepsStep (((s.countWrap Reg.CSQ_RING_CONS 0 32 1).countSat Reg.CSQ_RING_OVERRUN 0 32 1).setBit Reg.CSQ_STATUS 3 true) :=
    (((State.KeepsStep.refl s).countWrap (by decide) _ _ _).countSat (by decide) _ _ _).setBit (by decide) _ _
  have ht : s.KeepsStep t := .ite hover (.refl s)
  refine .ite hdrop ?_
  have hu := ht.trans (keepsStep_nextSeq t 0)
  generalize t.nextSeq 0 = r at hu ⊢
  obtain ⟨q, u⟩ := r
  generalize u.outRecs 0 = r
  obtain ⟨recs, passed⟩ := r
  dsimp -zeta only at hu ⊢
  extract_lets list a v
  have hv : s.KeepsStep v := (hu.trans (keepsStep_commitList u _ _ _)).countWrap (by decide) _ _ _
  exact (hv.trans (keepsStep_emit v _)).trans (keepsStep_msix _ 1)

theorem keepsStep_csOut : s.KeepsStep s.csOut := by
  unfold State.csOut
  refine .ite (.refl s) ?_
  generalize s.outRecs 1 = r
  obtain ⟨recs, passed⟩ := r
  dsimp -zeta only
  extract_lets cs
  refine keepsStep_foldl (fun t k => ?_) _ s
  have hu := keepsStep_nextSeq t 1
  generalize t.nextSeq 1 = r at hu ⊢
  obtain ⟨q, u⟩ := r
  dsimp -zeta only at hu ⊢
  extract_lets list
  exact .ite (hu.trans (.of_eq rfl rfl rfl rfl)) (hu.trans (keepsStep_csLate u 1))

theorem keepsStep_fifoFlush (k : Nat) : s.KeepsStep (s.fifoFlush k) := .of_eq rfl rfl rfl rfl

theorem keepsStep_fifoBytes (k : Nat) (bs : List Byte) : s.KeepsStep (s.fifoBytes k bs) :=
  keepsStep_foldl (f := fun s w => s.fifoPut k w) (fun _ _ => .of_eq rfl rfl rfl rfl) _ s

theorem keepsStep_pfOut : s.KeepsStep s.pfOut := by
  unfold State.pfOut
  refine .ite (.refl s) (.ite ((State.KeepsStep.refl s).countSat (by decide) _ _ _) ?_)
  have hu := keepsStep_nextSeq s 2
  generalize s.nextSeq 2 = r at hu ⊢
  obtain ⟨q, u⟩ := r
  generalize u.outRecs 2 = r
  obtain ⟨recs, passed⟩ := r
  dsimp -zeta only at hu ⊢
  extract_lets list
  have hlist : s.KeepsStep (u.fifoBytes 0 list) := hu.trans (keepsStep_fifoBytes u 0 list)
  exact ((hlist.trans (keepsStep_fifoFlush _ 0)).trans (keepsStep_emit _ _)).trans (keepsStep_msix _ 4)

theorem publishes_of_slk {s t : State} (h : t.slk = s.slk) : t.publishes = s.publishes := by rw [State.publishes, State.publishes, h]

/-- The main outputs are served; a device that publishes shows the step's number. -/
theorem mainOut_spec : ∃ v, (s.setReg Reg.CSQ_STEP_LO v).KeepsStep s.mainOut ∧
    (s.publishes = true → v = BitVec.ofNat 32 s.csq.cur.i) := by
  unfold State.mainOut
  extract_lets t u r c w
  have ht : s.KeepsStep t := ((State.KeepsStep.refl s).setBit (o := Reg.CSQ_STATUS) (by decide) _ _).setBit (by decide) _ _
  have hu : s.KeepsStep u := ht.trans (keepsStep_csDiscard t)
  have hpub : u.publishes = s.publishes := publishes_of_slk (csDiscard_slk t)
  have hr : s.KeepsStep r := ((hu.trans (keepsStep_ringOut u)).trans (keepsStep_csOut _)).trans (keepsStep_pfOut _)
  have hw : s.KeepsStep w := ((hr.setBit (o := Reg.CSQ_STATUS) (by decide) _ _).setBit (by decide) _ _).setFld (by decide) _ _ _
  rw [hpub]
  split
  · next hquiet =>
    have hsame : (s.setReg Reg.CSQ_STEP_LO (s.reg Reg.CSQ_STEP_LO)).KeepsStep s := ⟨rfl, rfl, rfl, (reg_setReg_same _ _ _).symm⟩
    exact ⟨_, hsame.trans hu, fun h => by simp [h] at hquiet⟩
  · have hc : c = s.csq.cur := hr.cur
    refine ⟨_, (((hw.shows _).setReg (o := Reg.CSQ_STEP_LO + 4) (by decide) _).setReg (o := Reg.CSQ_EPOCH) (by decide) _).setFld
      (o := Reg.SAF_RESTART) (by decide) _ _ _, fun _ => ?_⟩
    rw [hc]

theorem keepsStep_fbOut : s.KeepsStep s.fbOut := by
  unfold State.fbOut
  refine .ite (.refl s) ?_
  extract_lets t recs
  have ht : s.KeepsStep t := (State.KeepsStep.refl s).countWrap (by decide) _ _ _
  exact ht.trans (keepsStep_emit t _)

theorem keepsStep_sendCan (frames : List (List Byte)) : s.KeepsStep (s.sendCan frames) := by
  unfold State.sendCan
  refine .ite (.refl s) ?_
  extract_lets t
  have ht : s.KeepsStep t := (State.KeepsStep.refl s).countSat (by decide) _ _ _
  refine .ite (ht.trans (.trans ?_ (keepsStep_foldl (fun u f => ?_) frames _))) (ht.trans ?_)
  · exact .of_eq rfl rfl rfl rfl
  · exact (keepsStep_emit u _).countWrap (by decide) _ _ _
  · exact .of_eq rfl rfl rfl rfl

theorem keepsStep_safetyChannel (i : Nat) (atT : Bool) : s.KeepsStep (s.safetyChannel i atT) := by
  refine .trans ?_ (keepsStep_sendCan _ _)
  exact .of_eq rfl rfl rfl rfl

/-! ### Tracks that retire leave with the step (R299, R327, R346 to R348, R366) -/

section
variable {f : Nat} (hf : f < 4096)
include hf

theorem flockUsed_ne_step : Reg.TAC_FLOCK_USED f ≠ Reg.CSQ_STEP_LO := by
  unfold Reg.TAC_FLOCK_USED Reg.CSQ_STEP_LO
  omega

theorem flockSeq_ne_step : Reg.TAC_FLOCK_SEQ f ≠ Reg.CSQ_STEP_LO := by
  unfold Reg.TAC_FLOCK_SEQ Reg.CSQ_STEP_LO
  omega

theorem keepsStep_flockJudge : s.KeepsStep (s.flockJudge f) := by
  unfold State.flockJudge
  extract_lets used q
  have hset (v : Nat) : s.KeepsStep (s.setFld (Reg.TAC_FLOCK_SEQ f) 20 2 v) := (State.KeepsStep.refl s).setFld (flockSeq_ne_step hf) _ _ _
  have hstuck (t : State) : t.KeepsStep { t with tac := { t.tac with stuck := t.tac.stuck.filter (· != f) } } := .of_eq rfl rfl rfl rfl
  exact .ite ((hset 2).trans (keepsStep_event _ _ _ _ _ _)) (.ite ((hset 1).trans (hstuck _)) (.refl s))

theorem keepsStep_uncharge (n : Nat) : s.KeepsStep (s.uncharge f n) :=
  ((State.KeepsStep.refl s).setReg (flockUsed_ne_step hf) _).trans (keepsStep_flockJudge _ hf)

end

theorem keepsStep_returnRetired (r : Retire) : s.KeepsStep (s.returnRetired r) := by
  unfold State.returnRetired
  extract_lets _ t
  have ht : s.KeepsStep t := .ite (.refl s) (.of_eq rfl rfl rfl rfl)
  refine ht.trans (keepsStep_foldl (fun u p => ?_) r.pages t)
  obtain ⟨a, c⟩ := p
  have hf : r.flock % 4096 < 4096 := Nat.mod_lt _ (by decide)
  refine .trans ?_ (keepsStep_uncharge _ hf _)
  exact .of_eq rfl rfl rfl rfl

theorem keepsStep_sweepRetired : s.KeepsStep s.sweepRetired := by
  unfold State.sweepRetired
  refine .trans ?_ (keepsStep_foldl keepsStep_returnRetired _ _)
  exact .of_eq rfl rfl rfl rfl

theorem keepsStep_doClose (n : Nat) : s.KeepsStep (s.doClose n).2 := by
  unfold State.doClose
  split
  · exact .refl s
  · extract_lets f t r v _ w
    have ht : s.KeepsStep t := .ite ((State.KeepsStep.refl s).setReg (o := Reg.TAC_ACTIVE_CNT) (by decide) _) (.refl s)
    have hr : s.KeepsStep r := (ht.setFld (flockSeq_ne_step (seqFlock_lt s n)) _ _ _).trans (.of_eq rfl rfl rfl rfl)
    have hw : s.KeepsStep w := hr.trans (.of_eq rfl rfl rfl rfl)
    exact hw.trans (keepsStep_sweepRetired w)

theorem keepsStep_freeRetired : s.KeepsStep s.freeRetired := by
  refine keepsStep_foldl (fun t n => ?_) _ s
  have hcmd : t.KeepsStep (t.fldCmd (fun s => s.doClose n)).2 := by
    unfold State.fldCmd
    split
    · exact keepsStep_doClose t n
    · exact keepsStep_refuseAccess t (some 37) idFld .command Reg.TAC_CMD_SEQ
  exact hcmd.trans (.of_eq rfl rfl rfl rfl)

/-! ### What the step's end sends (R609, R613, R620, R628) -/

theorem keepsStep_handSend (i : Nat) : s.KeepsStep (s.handSend i) := by
  refine keepsStep_foldl (fun t h => ?_) _ s
  extract_lets body u
  have hu : t.KeepsStep u := .ite ((State.KeepsStep.refl t).countWrap (o := Reg.SLK_HAND_CNT) (by decide) _ _ _) (.refl t)
  exact hu.trans (sends_sendDev u _ _ _ _).keepsStep

theorem sends_sendStepEnd (i : Nat) : s.Sends (s.sendStepEnd i) := by
  unfold State.sendStepEnd
  refine .ite (.refl s) ?_
  dsimp -zeta only
  extract_lets
  exact .trans (sends_sendPair s _ _ _ _) ⟨_, _, rfl⟩

theorem sends_sendCopies (i fuel room : Nat) : s.Sends (s.sendCopies i fuel room) := by
  induction fuel generalizing s room with
  | zero => exact .refl s
  | succ fuel ih =>
    rw [State.sendCopies]
    split
    · exact .refl s
    · split
      · exact ⟨_, _, rfl⟩
      · extract_lets body u
        have hu : s.Sends u := sends_sendPair s _ _ _ _
        exact .ite (.refl s) ((hu.trans ⟨_, _, rfl⟩).trans (ih _ _))

theorem sends_syncSend (i : Nat) : s.Sends (s.syncSend i) := .ite (sends_sendCopies s i _ _) (.refl s)

theorem sends_sendList (i : Nat) (bytes : List Byte) : s.Sends (s.sendList i bytes) := by
  unfold State.sendList
  refine .ite (.refl s) ?_
  split
  · exact .refl s
  · exact List.foldlRecOn (motive := s.Sends) _ _ (.refl s) (fun t ht k _ => ht.trans (sends_linkPost t _))

end

end Sys2Proof.Machine
end

section
/-! PROOFS. Publication: the outputs at T_i, the controller stream, the ring's consumer index, the Publish FIFO and the links of the switch (R25,
R450, R456, R467, R474, R477). -/

namespace Sys2Proof.Machine

theorem exec_publicationStart (s : State) : exec .publicationStart s = .next s.publication := rfl
theorem exec_csSegmentSent (s : State) : exec .csSegmentSent s = .next s.csSent := rfl
theorem exec_ringConsWrite (v : W32) (s : State) :
    exec (.ringConsWrite v) s = .next (s.hostReg Reg.CSQ_RING_CONS (fun s => s.ringCons v)) := rfl
theorem exec_pfifoRead (wide : Bool) (s : State) :
    exec (.pfifoRead wide) s = .next (s.hostAccessN .read Reg.CSQ_PF_DATA (if wide then 8 else 4) (fun s => s.pfRead wide)) := rfl
theorem exec_ethLinkChange (q : Fin 12) (up : Bool) (s : State) : exec (.ethLinkChange q up) s = .next (s.ethLink q up) := rfl

section
variable (s : State)

/-- No restart waits for the publication. -/
theorem pubDone_idle (h : s.saf.rsPhase ≠ 1) : s.pubDone = s := if_pos (by simp [h])

/-! ### T_i (R25, R450, R566, R586) -/

/-- The step in hand has gone out on every output and on the safety channel, and leaves the cycle. -/
def State.published (s : State) (i : Nat) : State :=
  { s with saf := { s.saf with chanStep := some i, startup := s.saf.startup + 1 }
           csq := { s.csq with pub := some i, cur := { s.csq.cur with active := false } } }

theorem published_spec (i : Nat) : (s.published i).csq.pub = some i ∧ (s.published i).csq.cur.active = false ∧
    (s.published i).saf.chanStep = some i ∧ (s.published i).tbu = s.tbu ∧ (s.published i).regs = s.regs := ⟨rfl, rfl, rfl, rfl, rfl⟩

/-- A step is published at T_i, with the number shown that the outputs give it; what the step's end does leaves it so. -/
theorem publication_keeps (hact : s.csq.cur.active = true) (hon : s.csqOn = true) (hseal : s.csq.cur.opened.length = 5)
    (hrs : s.saf.rsPhase ≠ 1) :
    let r := s.reach (s.tOf s.csq.cur.i)
    ∃ t v, (r.setReg Reg.CSQ_STEP_LO v).KeepsStep t ∧ (s.publishes = true → v = BitVec.ofNat 32 s.csq.cur.i) ∧
      (t.published s.csq.cur.i).KeepsStep s.publication := by
  intro r
  unfold State.publication
  rw [if_neg (by simp [hact, hon, hseal])]
  extract_lets i _ p u _ _ _ x y z
  have hp : r.KeepsStep p := .ite (keepsStep_raiseStepDoubt r) (.refl r)
  have hpub : p.publishes = s.publishes := publishes_of_slk (by
    unfold p
    split
    · exact State.countSat_slk _ _ _ _ _
    · rfl)
  obtain ⟨v, hmain, hv⟩ := mainOut_spec p
  have hu : (r.setReg Reg.CSQ_STEP_LO v).KeepsStep u :=
    (((hp.shows v).trans hmain).trans (keepsStep_fbOut _)).trans (keepsStep_safetyChannel _ i true)
  have hy : x.KeepsStep y := .ite (keepsStep_freeRetired x) (.refl x)
  have hz : x.KeepsStep z := (hy.trans (keepsStep_handSend y i)).trans (sends_sendStepEnd _ i).keepsStep
  refine ⟨u, v, hu, fun h => (hv (hpub.trans h)).trans (by rw [hp.cur]; rfl), ?_⟩
  generalize y.outRecs 0 = l
  obtain ⟨recs, passed⟩ := l
  dsimp -zeta only
  extract_lets w
  have hw : x.KeepsStep w := (hz.trans (sends_syncSend z i).keepsStep).trans (sends_sendList _ i _).keepsStep
  have hidle : w.saf.rsPhase ≠ 1 := by
    rw [hw.rsPhase]
    exact hu.rsPhase.trans_ne hrs
  rw [pubDone_idle w hidle]
  exact hw

theorem publication_spec (hact : s.csq.cur.active = true) (hon : s.csqOn = true) (hseal : s.csq.cur.opened.length = 5)
    (hrs : s.saf.rsPhase ≠ 1) :
    let t := s.publication
    t.csq.pub = some s.csq.cur.i ∧ t.csq.cur.active = false ∧ s.tOf s.csq.cur.i ≤ t.now ∧ t.saf.chanStep = some s.csq.cur.i ∧
      (s.publishes = true → t.regN Reg.CSQ_STEP_LO = s.csq.cur.i % 2 ^ 32) := by
  obtain ⟨t, v, ht, hv, hpub⟩ := publication_keeps s hact hon hseal hrs
  obtain ⟨hp, hcur, hchan, htbu, hregs⟩ := published_spec t s.csq.cur.i
  refine ⟨hpub.pub.trans hp, (congrArg StepSt.active hpub.cur).trans hcur, ?_, hpub.chanStep.trans hchan, fun h => ?_⟩
  · rw [State.now, hpub.tbu, htbu, ht.tbu]
    exact le_max_right _ _
  · rw [State.regN, hpub.shown, reg_congr hregs, ht.shown, reg_setReg_same, hv h, BitVec.toNat_ofNat]

/-! ### The controller stream (R474) -/

/-- Only the queue of controller segments changes. -/
def State.withSegs (l : List Seg) : State := { s with csq := { s.csq with segs := l } }

theorem withSegs_csq (l : List Seg) : (s.withSegs l).csq = { s.csq with segs := l } := rfl
theorem withSegs_regs (l : List Seg) : (s.withSegs l).regs = s.regs := rfl
theorem withSegs_saf (l : List Seg) : (s.withSegs l).saf = s.saf := rfl
theorem withSegs_out (l : List Seg) : (s.withSegs l).out = s.out := rfl

/-- Segments counted under R474 show in their count and in CSQ_STATUS; the stream, SAF and what left the device stand. -/
theorem csLate_spec (n : Nat) : (s.csLate n).csq = s.csq ∧ (s.csLate n).out = s.out ∧ (s.csLate n).saf = s.saf ∧
    s.SameRegsBut (s.csLate n) [Reg.CSQ_CS_LATE, Reg.CSQ_STATUS] := by
  unfold State.csLate
  split
  · exact ⟨rfl, rfl, rfl, State.sameRegsBut_of_regs _ rfl⟩
  · exact ⟨rfl, rfl, rfl, (sameRegsBut_setReg s _ (by simp)).trans (sameRegsBut_setReg _ _ (by simp))⟩

/-- A count of a whole register read back (R727). -/
theorem regN_countWrap (o n : Nat) : (s.countWrap o 0 32 n).regN o = (s.regN o + n) % 2 ^ 32 := by
  have hword (t : State) : t.regN o = t.fld' o 0 32 := by
    rw [State.regN, State.fld', fieldOf, pow_zero, Nat.div_one, Nat.mod_eq_of_lt (t.reg o).isLt]
  rw [hword, hword, State.countWrap, fld_setFld_same _ _ _ _ _ (by decide)]

/-- The frame that carries a segment. -/
def State.segFrame (s : State) (x : Seg) : EthFrame := s.csFrame (leNat ((x.bytes.drop 32).take 4)) x.bytes

/-- A segment has left the port: its frame and its list are put out and counted, and others are queued. -/
def State.segLeft (s : State) (x : Seg) (l : List Seg) : State :=
  ((((s.seqStamp (s.segFrame x)).2.withSegs l).emit (Out.eth s.csPort 12 (ethBytes (s.segFrame x) (s.seqStamp (s.segFrame x)).1))).emit
    (Out.list 1 x.step x.bytes)).countWrap Reg.CSQ_CS_SENT 0 32 1

theorem segLeft_spec (x : Seg) (l : List Seg) :
    (s.segLeft x l).csq.segs = l ∧ (s.segLeft x l).saf = s.saf ∧
      (s.segLeft x l).out =
        s.out ++ [Out.eth s.csPort 12 (ethBytes (s.segFrame x) (s.seqStamp (s.segFrame x)).1), Out.list 1 x.step x.bytes] ∧
      (s.segLeft x l).regN Reg.CSQ_CS_SENT = (s.regN Reg.CSQ_CS_SENT + 1) % 2 ^ 32 := by
  obtain ⟨gen, hstamp⟩ := seqStamp_eq s (s.segFrame x)
  unfold State.segLeft
  rw [State.countWrap_csq, State.countWrap_saf, State.countWrap_out, State.emit_csq, State.emit_csq, State.emit_saf, State.emit_saf,
    State.emit_out, State.emit_out, withSegs_csq, withSegs_saf, withSegs_out, regN_countWrap, hstamp, List.append_assoc]
  exact ⟨rfl, rfl, rfl, rfl⟩

theorem csLate_none : s.csLate 0 = s := rfl

/-- The first segment, started, leaves the port; it may count as late, and a restart may have waited for it. -/
theorem csSent_eq {x : Seg} {r : List Seg} (hsegs : s.csq.segs = x :: r) (hstarted : x.started = true) (hlink : s.csLink = true)
    (hplain : s.txAssoc s.csPort = none) (hopen : (s.swPort s.csPort).macsecReq = false) :
    ∃ l n, l.map Seg.bytes = r.map Seg.bytes ∧ s.csSent = ((s.segLeft x l).csLate n).pubDone := by
  unfold State.csSent
  rw [hsegs]
  dsimp -zeta only
  rw [if_neg (by simp [hstarted, hlink])]
  extract_lets q f frame _ u w v y
  obtain ⟨l, hu, hl⟩ : ∃ l, u = (s.seqStamp f).2.withSegs l ∧ l.map Seg.bytes = r.map Seg.bytes := ⟨_, rfl, by cases r <;> rfl⟩
  have hw : w = ((s.seqStamp f).2.withSegs l).emit (Out.eth q 12 frame) := by
    unfold w
    rw [hplain, ← hu]
    exact if_neg (by simp [q, hopen])
  have hlen : l.length = r.length := by simpa using congrArg List.length hl
  have hv : v = s.segLeft x l := by
    unfold v
    rw [hw]
    rfl
  rw [if_neg (by simp [hw, withSegs_csq, hlen])]
  by_cases hlate : decide (v.tOf x.step + 25 * usT < v.now) = true
  · exact ⟨l, 1, hl, by rw [← hv, show y = v.csLate 1 from if_pos hlate]⟩
  · exact ⟨l, 0, hl, by rw [← hv, csLate_none, show y = v from if_neg hlate]⟩

theorem csSent_spec {x : Seg} {r : List Seg} (hsegs : s.csq.segs = x :: r) (hstarted : x.started = true) (hlink : s.csLink = true)
    (hplain : s.txAssoc s.csPort = none) (hopen : (s.swPort s.csPort).macsecReq = false) (hrs : s.saf.rsPhase ≠ 1) :
    s.csSent.csq.segs.map Seg.bytes = r.map Seg.bytes ∧
      s.csSent.out =
        s.out ++ [Out.eth s.csPort 12 (ethBytes (s.segFrame x) (s.seqStamp (s.segFrame x)).1), Out.list 1 x.step x.bytes] ∧
      s.csSent.regN Reg.CSQ_CS_SENT = (s.regN Reg.CSQ_CS_SENT + 1) % 2 ^ 32 := by
  obtain ⟨l, n, hl, hsent⟩ := csSent_eq s hsegs hstarted hlink hplain hopen
  obtain ⟨hleft, hsaf, hout, hcount⟩ := segLeft_spec s x l
  obtain ⟨hcsq, hlout, hlsaf, hregs⟩ := csLate_spec (s.segLeft x l) n
  have hidle : ((s.segLeft x l).csLate n).saf.rsPhase ≠ 1 := by rwa [hlsaf, hsaf]
  rw [hsent, pubDone_idle _ hidle, hcsq, hleft, hlout, hregs.regN (by decide)]
  exact ⟨hl, hout, hcount⟩

/-! ### The consumer index of the ring (R467) -/

theorem ringCons_valid {v : W32} (h : consOk (s.regN Reg.CSQ_RING_CONS) (s.regN Reg.CSQ_RING_PROD) v.toNat = true) :
    s.ringCons v = s.setReg Reg.CSQ_RING_CONS v := if_pos h

theorem ringCons_invalid {v : W32} (h : consOk (s.regN Reg.CSQ_RING_CONS) (s.regN Reg.CSQ_RING_PROD) v.toNat = false) :
    s.ringCons v = s.setBit Reg.CSQ_STATUS 8 true := if_neg (by simp [h])

/-! ### The Publish FIFO (R477) -/

theorem pfRead_word {w : BitVec 64} {u : State} (h : s.fifoGet 0 idHost = (.ok w, u)) (wide : Bool) :
    s.pfRead wide = (u.setReg Reg.CSQ_PF_DATA_HI (BitVec.ofNat 32 (w.toNat / 2 ^ 32))).emit
      (.host .sc (leBytes (if wide then 8 else 4) w.toNat)) := by
  rw [State.pfRead, h]

/-! ### A link of the switch (R474) -/

theorem ethLink_up {q : Nat} (hlive : s.ethLive q = true) :
    (s.ethLink q true).bit (Reg.SIC_ETH_STAT q) 2 = true ∧ s.SameRegsBut (s.ethLink q true) [Reg.SIC_ETH_STAT q] ∧
      s.SameMemory (s.ethLink q true) := by
  unfold State.ethLink State.draw
  rw [if_neg (by simp [hlive]), if_pos rfl]
  dsimp only
  refine ⟨?_, ?_, State.sameMemory_of_mem rfl⟩
  · rw [bit_of_fld (fld_setFld_disjoint _ _ _ _ _ _ _ (by decide) (by decide)), bit_setBit_other _ _ _ (by decide) (by decide)]
    exact bit_setBit_same _ _ _ _ (by decide)
  · exact ((sameRegsBut_setReg { s with free := s.free + 1 } _ (by simp)).trans (sameRegsBut_setReg _ _ (by simp))).trans
      (sameRegsBut_setReg _ _ (by simp))

/-- The link of a port is lost; port T1P0 may go into TC10 sleep. -/
def State.linkLost (s : State) (q : Nat) : State :=
  let s := s.setBit (Reg.SIC_ETH_STAT q) 2 false
  if q == 0 then (let (v, s) := s.draw; s.setFld (Reg.SIC_ETH_STAT q) 11 1 (v % 2)) else s

theorem linkLost_spec (q : Nat) : (s.linkLost q).bit (Reg.SIC_ETH_STAT q) 2 = false ∧
    s.SameRegsBut (s.linkLost q) [Reg.SIC_ETH_STAT q] ∧ (s.linkLost q).saf = s.saf := by
  unfold State.linkLost State.draw
  extract_lets u
  have hbit : u.bit (Reg.SIC_ETH_STAT q) 2 = false := bit_setBit_same _ _ _ _ (by decide)
  have hregs : s.SameRegsBut u [Reg.SIC_ETH_STAT q] := sameRegsBut_setReg s _ (by simp)
  split
  · refine ⟨(bit_of_fld (fld_setFld_disjoint _ _ _ _ _ _ _ (by decide) (by decide))).trans hbit, hregs.trans ?_, rfl⟩
    exact sameRegsBut_setReg { u with free := u.free + 1 } _ (by simp)
  · exact ⟨hbit, hregs, rfl⟩

theorem ethLink_down_eq {q : Nat} (hlive : s.ethLive q = true) : s.ethLink q false =
    if q == (s.linkLost q).csPort then (((s.linkLost q).withSegs []).csLate (s.linkLost q).csq.segs.length).pubDone else s.linkLost q := by
  unfold State.ethLink
  rw [if_neg (by simp [hlive]), if_neg (by simp)]
  rfl

theorem ethStat_outside {q : Nat} (hq : q < 12) :
    Reg.CSQ_CS_CFG ∉ [Reg.SIC_ETH_STAT q] ∧ Reg.SIC_ETH_STAT q ∉ [Reg.CSQ_CS_LATE, Reg.CSQ_STATUS] := by
  simp only [List.mem_cons, List.not_mem_nil, or_false]
  unfold Reg.CSQ_CS_CFG Reg.CSQ_CS_LATE Reg.CSQ_STATUS Reg.SIC_ETH_STAT
  omega

theorem ethLink_down {q : Nat} (hq : q < 12) (hlive : s.ethLive q = true) (hrs : s.saf.rsPhase ≠ 1) :
    (s.ethLink q false).bit (Reg.SIC_ETH_STAT q) 2 = false ∧ (q = s.csPort → (s.ethLink q false).csq.segs = []) := by
  obtain ⟨hcfg, hstat⟩ := ethStat_outside hq
  obtain ⟨hbit, hregs, hsaf⟩ := linkLost_spec s q
  obtain ⟨hcsq, -, hlsaf, hlregs⟩ := csLate_spec ((s.linkLost q).withSegs []) (s.linkLost q).csq.segs.length
  have hport : (s.linkLost q).csPort = s.csPort := hregs.fld hcfg _ _
  have hidle : (((s.linkLost q).withSegs []).csLate (s.linkLost q).csq.segs.length).saf.rsPhase ≠ 1 := by
    rwa [hlsaf, withSegs_saf, hsaf]
  rw [ethLink_down_eq s hlive, pubDone_idle _ hidle, hport]
  split
  · rw [hlregs.bit hstat, hcsq]
    exact ⟨hbit, fun _ => rfl⟩
  · next hother => exact ⟨hbit, fun h => absurd (beq_iff_eq.2 h) hother⟩

end

/-- Settles O31: the step published stands through all that its end does; each other row is the change of the state it names. -/
theorem publishingCommandsHaveTheirEffect : Obligations.PublishingCommandsHaveTheirEffect := by
  refine ⟨fun s hact hon hseal hrs => ⟨_, exec_publicationStart s, publication_spec s hact hon hseal hrs⟩,
    fun x r s hsegs hstarted hlink hplain hopen hrs => ⟨_, exec_csSegmentSent s, csSent_spec s hsegs hstarted hlink hplain hopen hrs⟩,
    fun v s hopen => ?_, fun wide w u s hopen hword => ?_, fun q s hlive => ⟨⟨_, exec_ethLinkChange q true s, ethLink_up s hlive⟩, fun hrs =>
      ⟨_, exec_ethLinkChange q false s, ethLink_down s q.isLt hlive hrs⟩⟩⟩
  · intro d
    rw [exec_ringConsWrite, hostReg_free hopen]
    exact ⟨fun h => congrArg _ (ringCons_valid s (decide_eq_true h)),
      fun h => congrArg _ (ringCons_invalid s (decide_eq_false (Nat.not_le.2 h)))⟩
  · rw [exec_pfifoRead, hostAccessN_open hopen, pfRead_word s hword]

end Sys2Proof.Machine
end

section
/-! PROOFS. What leaves the loader as it is: power domains and PLLs (Table 16.1, R677), and the start of the step cycle (R441, R442, R588). -/

namespace Sys2Proof.Machine

/-! ### Writes of registers -/

/-- Nothing but the register file changes. -/
def State.OnlyRegs (s t : State) : Prop := t = { s with regs := t.regs }

theorem State.OnlyRegs.refl (s : State) : s.OnlyRegs s := rfl

theorem State.OnlyRegs.trans {s t u : State} (h : s.OnlyRegs t) (h' : t.OnlyRegs u) : s.OnlyRegs u := by
  rw [State.OnlyRegs, h', h]

section
variable {s t : State} (h : s.OnlyRegs t)
include h

theorem State.OnlyRegs.lth : t.lth = s.lth := by rw [h]
theorem State.OnlyRegs.mem : t.mem = s.mem := by rw [h]
theorem State.OnlyRegs.saf : t.saf = s.saf := by rw [h]
theorem State.OnlyRegs.sec : t.sec = s.sec := by rw [h]
theorem State.OnlyRegs.msys : t.msys = s.msys := by rw [h]

section
variable (o : Nat)

theorem State.OnlyRegs.setReg (v : W32) : s.OnlyRegs (t.setReg o v) := h.trans rfl
theorem State.OnlyRegs.setFld (lo w v : Nat) : s.OnlyRegs (t.setFld o lo w v) := h.setReg o _
theorem State.OnlyRegs.setBit (b : Nat) (v : Bool) : s.OnlyRegs (t.setBit o b v) := h.setReg o _
theorem State.OnlyRegs.countSat (lo w n : Nat) : s.OnlyRegs (t.countSat o lo w n) := h.setReg o _

end

end

/-! ### Power domains and PLLs (Table 16.1, R677) -/

/-- Only registers of AON change, those below 0x200000. -/
structure State.Repowers (s t : State) : Prop where
  only : s.OnlyRegs t
  reg : ∀ o, 0x200000 ≤ o → t.reg o = s.reg o

theorem State.Repowers.refl (s : State) : s.Repowers s := ⟨.refl s, fun _ _ => rfl⟩

theorem State.Repowers.trans {s t u : State} (h : s.Repowers t) (h' : t.Repowers u) : s.Repowers u :=
  ⟨h.only.trans h'.only, fun o ho => (h'.reg o ho).trans (h.reg o ho)⟩

theorem repowers_setReg (s : State) {o : Nat} (v : W32) (ho : o < 0x200000) : s.Repowers (s.setReg o v) :=
  ⟨(State.OnlyRegs.refl s).setReg o v, fun _ h => reg_setReg_ne s v (by omega)⟩

theorem State.Repowers.lthState {s t : State} (h : s.Repowers t) : t.lthState = s.lthState := by
  rw [State.lthState, State.lthState, State.fld', State.fld', h.reg _ (by decide)]

theorem repowers_setDomains (s : State) (l : List Nat) : s.Repowers (s.setDomains l) := by
  refine List.foldlRecOn (motive := s.Repowers) _ _ (.refl s) (fun t ht w hw => ht.trans (repowers_setReg t _ ?_))
  have hw : w < 4 := List.mem_range.1 hw
  unfold Reg.AON_DOM
  omega

theorem repowers_pllStops (s : State) : s.Repowers s.pllStops := by
  refine List.foldlRecOn (motive := s.Repowers) _ _ (.refl s) (fun t ht k _ => ht.trans ?_)
  split
  · exact .refl t
  · exact repowers_setReg t _ (by decide)

/-! ### The start of the step cycle (R441, R442, R588) -/

/-- The loader stands: its own state, and the state that it shows. -/
structure State.KeepsLoader (s t : State) : Prop where
  lth : t.lth = s.lth
  state : t.reg Reg.LTH_STATE = s.reg Reg.LTH_STATE

theorem State.KeepsLoader.refl (s : State) : s.KeepsLoader s := ⟨rfl, rfl⟩

theorem State.KeepsLoader.trans {s t u : State} (h : s.KeepsLoader t) (h' : t.KeepsLoader u) : s.KeepsLoader u :=
  ⟨h'.lth.trans h.lth, h'.state.trans h.state⟩

theorem State.KeepsLoader.ite {s t u : State} {p : Prop} [Decidable p] (ht : s.KeepsLoader t) (hu : s.KeepsLoader u) :
    s.KeepsLoader (if p then t else u) := by split <;> assumption

theorem State.KeepsLoader.of_eq {s t : State} (hlth : t.lth = s.lth) (hregs : t.regs = s.regs) : s.KeepsLoader t :=
  ⟨hlth, reg_congr hregs _⟩

theorem State.KeepsLoader.lthState {s t : State} (h : s.KeepsLoader t) : t.lthState = s.lthState := by
  rw [State.lthState, State.lthState, State.fld', State.fld', h.state]

theorem State.Sends.keepsLoader {s t : State} (h : s.Sends t) : s.KeepsLoader t := by
  obtain ⟨_, _, rfl⟩ := h
  exact .of_eq rfl rfl

section
variable {s t : State} (h : s.KeepsLoader t) {o : Nat} (ho : o ≠ Reg.LTH_STATE)
include h ho

theorem State.KeepsLoader.setReg (v : W32) : s.KeepsLoader (t.setReg o v) := ⟨h.lth, (reg_setReg_ne t v ho.symm).trans h.state⟩
theorem State.KeepsLoader.setFld (lo w v : Nat) : s.KeepsLoader (t.setFld o lo w v) := h.setReg ho _
theorem State.KeepsLoader.setBit (b : Nat) (v : Bool) : s.KeepsLoader (t.setBit o b v) := h.setReg ho _

end

section
variable (s : State)

theorem onlyRegs_setRegBytes (off : Nat) (bs : List Byte) : s.OnlyRegs (s.setRegBytes off bs) := by
  induction s, off, bs using State.setRegBytes.induct with
  | case1 s off a b c d bs ih =>
    unfold State.setRegBytes
    exact ((State.OnlyRegs.refl s).setReg off _).trans ih
  | case2 l s off hl =>
    rw [State.setRegBytes]
    · exact .refl s
    · exact hl

theorem keepsLoader_setT0 (t : Time) : s.KeepsLoader (s.setT0 t) := by
  have hlth : (s.setT0 t).lth = (s.setRegBytes (Reg.CSQ_T0 0) (htw t)).lth := by dsimp only [State.setT0]
  exact ⟨hlth.trans (onlyRegs_setRegBytes s _ _).lth, reg_setT0 s t (by decide)⟩

theorem keepsLoader_putSched (x : Nat) : s.KeepsLoader (s.putSched x) := by
  unfold State.putSched
  split
  · exact .refl s
  · extract_lets _ u v w
    have hw : s.KeepsLoader w := by
      refine .setFld (.setReg (.setReg ?_ ?_ _) ?_ _) ?_ _ _ _
      · exact .of_eq rfl rfl
      all_goals decide
    refine List.foldlRecOn (motive := s.KeepsLoader) _ _ hw (fun t ht k hk => ?_)
    have hk : k < 5 := List.mem_range.1 hk
    have hne {base : Nat} (hbase : base < 0xB00100) : base + 16 * k ≠ Reg.LTH_STATE := by
      unfold Reg.LTH_STATE
      omega
    exact ((ht.setReg (hne (by decide)) _).setReg (hne (by decide)) _).setReg (hne (by decide)) _

theorem keepsLoader_cadenceSwitch : s.KeepsLoader s.cadenceSwitch := by
  unfold State.cadenceSwitch
  split
  · exact .refl s
  · extract_lets tk p q _ r
    have hp : s.KeepsLoader p := keepsLoader_putSched s _
    have hq : s.KeepsLoader q := .ite (hp.trans (keepsLoader_setT0 p _)) hp
    have hr : s.KeepsLoader r := by
      refine .setBit (.setFld (hq.trans ?_) ?_ _ _ _) ?_ _ _
      · exact .of_eq rfl rfl
      all_goals decide
    exact .ite (hr.trans (sends_tellEpoch r).keepsLoader) hr

theorem keepsLoader_gridded : s.KeepsLoader s.gridded := by
  unfold State.gridded
  split
  · exact .of_eq rfl rfl
  · exact .ite (.refl s) (keepsLoader_setT0 s _)

theorem keepsLoader_setCond (b : Nat) (v : Bool) : s.KeepsLoader (s.setCond b v) := by
  have hset : s.KeepsLoader (s.setBit Reg.SAF_COND b v) := (State.KeepsLoader.refl s).setBit (by decide) _ _
  exact .ite (hset.setBit (o := Reg.SAF_COND_W1C) (by decide) _ _) hset

theorem keepsLoader_reloadTile (n : Nat) : s.KeepsLoader (s.reloadTile n) :=
  List.foldlRecOn (motive := s.KeepsLoader) _ _ (.refl s) (fun _ ht _ _ => ht.trans (.of_eq rfl rfl))

theorem keepsLoader_started : s.KeepsLoader s.started := by
  unfold State.started
  extract_lets k r _ u v w _ _ t
  have hr : s.KeepsLoader r :=
    List.foldlRecOn (motive := s.KeepsLoader) _ _ (.refl s) (fun t ht n _ => ht.trans (keepsLoader_reloadTile t n))
  have ht : s.KeepsLoader t := hr.trans (.of_eq rfl rfl)
  refine .trans ?_ (keepsLoader_setCond _ _ _)
  exact ((ht.setBit (by decide) _ _).setBit (by decide) _ _).setFld (by decide) _ _ _

/-- A write of RUN is refused, or the cycle starts on its grid, after a change of cadence that has fallen due. -/
theorem doRun_cases : s.doRun = s.csqRefuse ∨ s.doRun = s.gridded.started ∨ s.doRun = s.gridded.cadenceSwitch.started := by
  unfold State.doRun
  split
  · exact .inl rfl
  · refine .inr ?_
    extract_lets _ g u
    have hg : g = s.gridded := rfl
    clear_value g
    have hu : u = g ∨ u = g.cadenceSwitch := by
      unfold u
      split
      · exact ite_eq_or_eq _ _ _ |>.symm
      · exact .inl rfl
    rw [← hg]
    unfold State.started
    exact hu.imp (by intro h; rw [← h]) (by intro h; rw [← h])

theorem keepsLoader_doRun : s.KeepsLoader s.doRun := by
  have hgrid := keepsLoader_gridded s
  rcases doRun_cases s with h | h | h <;> rw [h]
  · exact .of_eq rfl rfl
  · exact hgrid.trans (keepsLoader_started _)
  · exact (hgrid.trans (keepsLoader_cadenceSwitch _)).trans (keepsLoader_started _)

end

end Sys2Proof.Machine
end

section
/-! PROOFS. The commands of the loader (R487 to R492, R497, R510, R511). -/

namespace Sys2Proof.Machine

theorem exec_load (s : State) : exec .load s = .next (s.hostCmd Reg.LTH_CMD State.doLoad) := rfl
theorem exec_loadEnd (s : State) : exec .loadEnd s = .next s.loadEnd := rfl
theorem exec_abort (s : State) : exec .abort s = .next (s.hostCmd Reg.LTH_CMD State.doAbort) := rfl
theorem exec_rbAdvance (s : State) : exec .rbAdvance s = .next (s.hostCmd Reg.LTH_CMD State.doRbAdvance) := rfl
theorem exec_rbAdvanceDone (s : State) : exec .rbAdvanceDone s = .next s.rbDone := rfl
theorem exec_unload (s : State) : exec .unload s = .next (s.hostCmd Reg.LTH_CMD State.doUnload) := rfl
theorem exec_resumeDone (s : State) : exec .resumeDone s = .next s.resume := rfl

theorem unlessBusy_free {s : State} {st busy : Nat} (h : s.bit st busy = false) (f : State → State) : s.unlessBusy st busy f = f s :=
  if_neg (by simp [h])

section
variable (s : State)

theorem lthState_setReg (v : W32) : (s.setReg Reg.LTH_STATE v).lthState = fieldOf v 0 3 := by
  rw [State.lthState, State.fld', reg_setReg_same]

theorem State.SameRegsBut.lthState {s t : State} {own : List Nat} (h : s.SameRegsBut t own) (hown : Reg.LTH_STATE ∉ own) :
    t.lthState = s.lthState := h.fld hown 0 3

/-! ### A command of the loader ends (R489, R520) -/

/-- The command in progress is noted, by its OP, or that there is none. -/
def State.withOp (op : Nat) : State := { s with lth := { s.lth with busyOp := op } }

theorem withOp_lth (op : Nat) : (s.withOp op).lth = { s.lth with busyOp := op } := rfl
theorem withOp_regs (op : Nat) : (s.withOp op).regs = s.regs := rfl
theorem withOp_mem (op : Nat) : (s.withOp op).mem = s.mem := rfl
theorem withOp_msys (op : Nat) : (s.withOp op).msys = s.msys := rfl
theorem withOp_sec (op : Nat) : (s.withOp op).sec = s.sec := rfl
theorem withOp_saf (op : Nat) : (s.withOp op).saf = s.saf := rfl

/-- A vector is raised by a message or its PBA bit: nothing else changes (R689, R690). -/
theorem msix_only (v : Nat) : ∃ hif out, s.msix v = { s with hif := hif, out := out } := by
  unfold State.msix
  split <;> exact ⟨_, _, rfl⟩

/-- A command of the loader has ended with a status: none is in progress, and only LTH_CMD_ST among the registers shows it. -/
structure State.EndsCommand (s t : State) (code : Nat) : Prop where
  lth : t.lth = { s.lth with busyOp := 0 }
  status : t.fld' Reg.LTH_CMD_ST 0 8 = code % 256
  idle : t.bit Reg.LTH_CMD_ST 16 = false
  regs : s.SameRegsBut t [Reg.LTH_CMD_ST]
  mem : t.mem = s.mem
  saf : t.saf = s.saf
  sec : t.sec = s.sec

theorem State.EndsCommand.msix {s t : State} {code : Nat} (h : s.EndsCommand t code) (v : Nat) : s.EndsCommand (t.msix v) code := by
  have hreg (o : Nat) : (t.msix v).reg o = t.reg o := reg_congr (regs_msix t v) o
  obtain ⟨hif, out, hmsix⟩ := msix_only t v
  refine ⟨?_, ?_, (bit_of_reg (hreg _) _).trans h.idle, h.regs.congr (regs_msix t v), ?_, ?_, ?_⟩
  · rw [hmsix]
    exact h.lth
  · rw [State.fld', hreg]
    exact h.status
  · rw [hmsix]
    exact h.mem
  · rw [hmsix]
    exact h.saf
  · rw [hmsix]
    exact h.sec

theorem lthDone_ends (code : Nat) : s.EndsCommand (s.lthDone code) code := by
  have hend : s.EndsCommand (((s.withOp 0).status Reg.LTH_CMD_ST code).setBit Reg.LTH_CMD_ST 16 false) code := by
    have honly := ((State.OnlyRegs.refl (s.withOp 0)).setFld Reg.LTH_CMD_ST 0 8 code).setBit Reg.LTH_CMD_ST 16 false
    refine ⟨honly.lth, ?_, bit_setBit_same _ _ _ _ (by decide), ?_, honly.mem, honly.saf, honly.sec⟩
    · exact (fld_setBit_other _ _ _ (by decide) (by decide)).trans (fld_status_mod _ _ _)
    · exact State.SameRegsBut.trans (State.sameRegsBut_of_regs _ (withOp_regs s 0))
        ((sameRegsBut_setReg _ _ (by simp)).trans (sameRegsBut_setReg _ _ (by simp)))
  exact hend.msix 2

theorem putReason_frame (f : Option Fail) : s.SameRegsBut (s.putReason f) [Reg.LTH_REASON] ∧ (s.putReason f).lth = s.lth ∧
    (s.putReason f).mem = s.mem ∧ (s.putReason f).saf = s.saf := by
  unfold State.putReason State.draw
  split
  · exact ⟨sameRegsBut_setReg s _ (by simp), rfl, rfl, rfl⟩
  · exact ⟨sameRegsBut_setReg { s with free := s.free + 1 } _ (by simp), rfl, rfl, rfl⟩
  · exact ⟨sameRegsBut_setReg { s with free := s.free + 1 } _ (by simp), rfl, rfl, rfl⟩

/-- No load is in progress, and an image is applied or none is. -/
structure State.LoadOver (t : State) : Prop where
  idle : t.bit Reg.LTH_CMD_ST 16 = false
  op : t.lth.busyOp = 0
  copy : t.lth.img = []
  state : t.lthState = 0 ∨ t.lthState = 3

theorem State.EndsCommand.loadOver {s t : State} {code : Nat} (h : s.EndsCommand t code) (hcopy : s.lth.img = [])
    (hstate : s.lthState = 0 ∨ s.lthState = 3) : t.LoadOver := by
  refine ⟨h.idle, ?_, ?_, ?_⟩
  · rw [h.lth]
  · rw [h.lth]
    exact hcopy
  · rwa [h.regs.lthState (by decide)]

/-- The copy of the image that was to be loaded is dropped. -/
def State.dropCopy (s : State) : State := { s with lth := { s.lth with img := [] } }

theorem dropCopy_spec : s.dropCopy.lth = { s.lth with img := [] } ∧ s.dropCopy.mem = s.mem ∧ s.dropCopy.saf = s.saf := ⟨rfl, rfl, rfl⟩

/-- A load has stopped: the image already applied stays applied, with its rules, and memory stands (R489). -/
structure State.StopsLoad (s t : State) (code : Nat) (f : Option Fail) : Prop where
  ended : t.LoadOver
  state : t.lthState = if s.lth.applied.isEmpty then 0 else 3
  applied : t.lth.applied = s.lth.applied
  status : t.fld' Reg.LTH_CMD_ST 0 8 = code % 256
  reason : ∀ r k, f = some (r, some k) → t.reg Reg.LTH_REASON = BitVec.ofNat 32 (r + 65536 * k)
  mem : t.mem = s.mem
  saf : t.saf = s.saf

theorem loadStop_stops (code : Nat) (f : Option Fail) : s.StopsLoad (s.loadStop code f) code f := by
  unfold State.loadStop
  extract_lets _ u
  obtain ⟨hlth, hmem, hsaf⟩ := dropCopy_spec s
  have honly : s.dropCopy.OnlyRegs u := (State.OnlyRegs.refl s.dropCopy).setReg _ _
  have hu : u.lthState = if s.lth.applied.isEmpty then 0 else 3 := by
    rw [lthState_setReg]
    split <;> rfl
  clear_value u
  obtain ⟨hregs, hrlth, hrmem, hrsaf⟩ := putReason_frame u f
  have hcount := (State.OnlyRegs.refl (u.putReason f)).countSat Reg.LTH_LOAD_CNT 16 16 1
  have hcregs : (u.putReason f).SameRegsBut ((u.putReason f).countSat Reg.LTH_LOAD_CNT 16 16 1) [Reg.LTH_LOAD_CNT] :=
    sameRegsBut_setReg _ _ (by simp)
  generalize (u.putReason f).countSat Reg.LTH_LOAD_CNT 16 16 1 = w at hcount hcregs
  have hwlth : w.lth = { s.lth with img := [] } := by rw [hcount.lth, hrlth, honly.lth, hlth]
  have hwstate : w.lthState = if s.lth.applied.isEmpty then 0 else 3 := by
    rw [hcregs.lthState (by decide), hregs.lthState (by decide), hu]
  have hend := lthDone_ends w code
  refine ⟨hend.loadOver (by rw [hwlth]) ?_, (hend.regs.lthState (by decide)).trans hwstate, ?_, hend.status, fun r k hf => ?_, ?_, ?_⟩
  · rw [hwstate]
    split <;> simp
  · rw [hend.lth, hwlth]
  · rw [hend.regs _ (by decide), hcregs _ (by decide), hf]
    exact reg_setReg_same u _ _
  · rw [hend.mem, hcount.mem, hrmem, honly.mem, hmem]
  · rw [hend.saf, hcount.saf, hrsaf, honly.saf, hsaf]

theorem loadStop_ended (code : Nat) (f : Option Fail) : (s.loadStop code f).LoadOver := (loadStop_stops s code f).ended

/-! ### LOAD (R487, R488) -/

section
variable {s} (hdamage : s.msys.damage = [])
include hdamage

/-- LTH reads DRAM data space that is neither damaged, retired nor being refilled. -/
theorem lthRead_dram {a n : Nat} (hret : s.msys.retired = []) (hrefill : s.sec.refill = false) (hdram : dramData a n = true)
    (hadmit : s.admits idLth .read a n = true) : s.lthRead a n = (.ok (s.bytesAt a n), s) := by
  unfold State.lthRead
  split
  · next hn => rw [hn, State.bytesAt]
  · have ha : dramBase ≤ a := by
      simp only [dramData, Bool.and_eq_true, decide_eq_true_eq] at hdram
      exact hdram.1
    have htile : ¬ a < tileEnd := Nat.not_lt.2 (le_trans (by decide) ha)
    have hcache : ¬ a ≤ cacheLast := Nat.not_le.2 (lt_of_lt_of_le (by decide) ha)
    exact busRead_reaches (by
      simp [State.reaches, State.retiredAt, State.dramLost, State.fencedTarget, State.asleep, hadmit, hret, hrefill, hdamage, htile, hcache])

theorem retainedRead_good (hrefill : s.sec.refill = false) (a n : Nat) : s.retainedRead a n = (true, s) := by
  rw [State.retainedRead, hrefill]
  exact checkRead_undamaged s hdamage _ _ _ _

end

theorem drawSyms_only (m n : Nat) : ∃ free, (s.drawSyms m n).2 = { s with free := free } := by
  induction n with
  | zero => exact ⟨_, rfl⟩
  | succ n ih =>
    obtain ⟨free, h⟩ := ih
    exact ⟨free + 1 + 1, by rw [State.drawSyms]; simp only [State.draw, h]⟩

/-- The codes of the lines written are renewed, and an armed injection damages one: what the loader and memory hold stands. -/
theorem retainedWrite_good {s : State} (hdamage : s.msys.damage = []) (a : Nat) (bs : List Byte) :
    ∃ t, s.retainedWrite a bs = (DONE, t) ∧ t.lth = s.lth ∧ t.regs = s.regs ∧ t.mem = s.mem := by
  unfold State.retainedWrite State.rawStore
  simp only [hdamage, List.isEmpty_nil, Bool.not_true, Bool.false_and, Bool.false_eq_true, if_false, if_true]
  split
  · split
    · obtain ⟨free, h⟩ := drawSyms_only (s.store a bs) _ _
      rw [h]
      exact ⟨_, rfl, rfl, rfl, rfl⟩
    · exact ⟨_, rfl, rfl, rfl, rfl⟩
  · exact ⟨_, rfl, rfl, rfl, rfl⟩

/-- The first phase of a load is shown (R488, Table 11.6). -/
def State.showLoad (s : State) : State := ((s.setReg Reg.LTH_STATE 1).setFld Reg.LTH_CMD_ST 8 4 1).setBit Reg.LTH_CMD_ST 16 true

/-- A load has been accepted. -/
def State.accepted (s : State) : State := s.showLoad.withOp 1

theorem showLoad_shown : s.showLoad.lthState = 1 ∧ s.showLoad.bit Reg.LTH_CMD_ST 16 = true ∧ s.showLoad.fld' Reg.LTH_CMD_ST 8 4 = 1 := by
  unfold State.showLoad
  refine ⟨?_, bit_setBit_same _ _ _ _ (by decide), ?_⟩
  · rw [State.lthState, State.setBit, fld_setFld_ne _ _ _ _ _ _ (by decide), fld_setFld_ne _ _ _ _ _ _ (by decide)]
    exact lthState_setReg s 1
  · rw [fld_setBit_other _ _ _ (by decide) (by decide), fld_setFld_same _ _ _ _ _ (by decide)]
    rfl

theorem accepted_regs : s.SameRegsBut s.accepted [Reg.LTH_STATE, Reg.LTH_CMD_ST] :=
  (((sameRegsBut_setReg s _ (by simp)).trans (sameRegsBut_setReg _ _ (by simp))).trans (sameRegsBut_setReg _ _ (by simp))).congr
    (withOp_regs s.showLoad 1)

theorem onlyRegs_showLoad : s.OnlyRegs s.showLoad := (((State.OnlyRegs.refl s).setReg _ _).setFld _ _ _ _).setBit _ _ _

theorem accepted_keeps : s.accepted.lth = { s.lth with busyOp := 1 } ∧ s.accepted.mem = s.mem ∧ s.accepted.msys = s.msys ∧
    s.accepted.sec = s.sec ∧ s.accepted.saf = s.saf := by
  have honly := onlyRegs_showLoad s
  rw [State.accepted, withOp_lth, withOp_mem, withOp_msys, withOp_sec, withOp_saf, honly.lth, honly.mem, honly.msys, honly.sec, honly.saf]
  exact ⟨rfl, rfl, rfl, rfl, rfl⟩

/-- The hurdle judges a read of LTH alike: the state that LTH shows is not among what it goes by. -/
theorem accepted_admits (a n : Nat) : s.accepted.admits idLth .read a n = s.admits idLth .read a n := by
  have hrev : s.accepted.revoked idLth = s.revoked idLth := (accepted_regs s).bit (by decide) _
  have hdeny (u : State) : u.fixedDeny idLth false a n = false := by simp [State.fixedDeny]
  obtain ⟨-, -, -, -, hsaf⟩ := accepted_keeps s
  rw [State.admits, State.admits, hrev, show (Kind.read != Kind.read) = false from rfl, hdeny, hdeny, hsaf]

/-- LOAD copies the image and is in progress (R487, R488). -/
theorem doLoad_spec (hidle : s.bit Reg.LTH_CMD_ST 16 = false) (hlocked : s.locked = true) (hstop : s.bit Reg.CSQ_STATUS 0 = false)
    (hstate : s.lthState = 0 ∨ s.lthState = 3) (hdamage : s.msys.damage = []) (hret : s.msys.retired = []) (hrefill : s.sec.refill = false)
    {a n : Nat} (hsrc : s.regN Reg.LTH_SRC_LO + 2 ^ 32 * s.fld' Reg.LTH_SRC_HI 0 16 = a) (hlen : s.regN Reg.LTH_LEN = n)
    (halign : a % 64 = 0) (hmax : n ≤ 0x8000000) (hdram : dramData a n = true) (hadmit : s.admits idLth .read a n = true) :
    s.doLoad.lth = { s.lth with busyOp := 1, img := s.bytesAt a n } ∧ s.doLoad.regs = s.showLoad.regs ∧ s.doLoad.mem = s.mem := by
  obtain ⟨hlth, hmem, hmsys, hsec, -⟩ := accepted_keeps s
  have hread : s.accepted.lthRead a n = (.ok (s.bytesAt a n), s.accepted) := by
    rw [lthRead_dram (by rw [hmsys, hdamage]) (by rw [hmsys, hret]) (by rw [hsec, hrefill]) hdram ((accepted_admits s a n).trans hadmit),
      bytesAt_congr fun x _ _ => State.sameMemory_of_mem hmem x]
  have hfree : (s.lthState == 1) = false ∧ (s.lthState == 2) = false ∧ (s.lthState == 4) = false := by
    rcases hstate with h | h <;> rw [h] <;> decide
  obtain ⟨u, hwrite, hulth, huregs, humem⟩ :=
    retainedWrite_good (s := s.accepted) (by rw [hmsys, hdamage]) s.accepted.stagingBase (s.bytesAt a n)
  have hload : s.doLoad = { u with lth := { u.lth with img := s.bytesAt a n } } := by
    unfold State.doLoad
    rw [unlessBusy_free hidle]
    dsimp -zeta only
    rw [hsrc, hlen]
    extract_lets src len v _ w
    have hv : v = s.showLoad := rfl
    clear_value v
    have hw : w = s.accepted := congrArg (State.withOp · 1) hv
    rw [if_neg (by simp [hlocked, hstop, hfree]), if_neg (by simp [src, len, halign, hmax, hdram]), hw, hread]
    dsimp -zeta only
    rw [hwrite]
    rfl
  rw [hload]
  refine ⟨?_, huregs.trans (withOp_regs _ 1), humem.trans hmem⟩
  dsimp only
  rw [hulth, hlth]

/-! ### The end of a load (R489 to R492, R507) -/

/-- LTH shows APPLIED, and the loader has not changed but for the lock of the RWL registers. -/
theorem enterApplied_spec : s.enterApplied.lth = { s.lth with rwl := true } ∧ s.enterApplied.lthState = 3 := by
  unfold State.enterApplied
  extract_lets u _ v
  have hv : v.lthState = 3 := lthState_setReg s 3
  have hpower := (repowers_setDomains v (v.idleDomains ++ v.tileDomains)).trans (repowers_pllStops _)
  exact ⟨hpower.only.lth, hpower.lthState.trans hv⟩

theorem applyImage_spec (img : List Byte) (ct : Content) : (s.applyImage img ct).lth.img = [] ∧ (s.applyImage img ct).lthState = 3 := by
  unfold State.applyImage
  extract_lets _ _ _ _ _ _ _ _ u
  obtain ⟨hlth, hstate⟩ := enterApplied_spec u
  rw [hlth]
  exact ⟨rfl, hstate⟩

/-- A load that passed its checks and applied its image is over (R507, R509). -/
theorem loaded_ended (img : List Byte) (ct : Content) :
    ((((s.applyImage img ct).setReg Reg.LTH_REASON 0).countSat Reg.LTH_LOAD_CNT 0 16 1).lthDone DONE).LoadOver := by
  obtain ⟨hcopy, happlied⟩ := applyImage_spec s img ct
  generalize s.applyImage img ct = t at hcopy happlied
  have hregs : t.SameRegsBut ((t.setReg Reg.LTH_REASON 0).countSat Reg.LTH_LOAD_CNT 0 16 1) [Reg.LTH_REASON, Reg.LTH_LOAD_CNT] :=
    (sameRegsBut_setReg t _ (by simp)).trans (sameRegsBut_setReg _ _ (by simp))
  exact (lthDone_ends _ DONE).loadOver hcopy (.inr ((hregs.lthState (by decide)).trans happlied))

/-- No image is in force any more, since its copy cannot be read: the built-in rules hold (R531, R757). -/
def State.imageLost (s : State) (saf : Saf) : State :=
  let s := { s with saf := { saf with built := true, rules := [] } }
  { s.setReg Reg.LTH_STATE 0 with lth := { s.lth with applied := [], blobs := [] }, fld := { s.fld with gates := [] } }

theorem imageLost_regs (saf : Saf) : (s.imageLost saf).regs = (s.setReg Reg.LTH_STATE 0).regs := rfl
theorem imageLost_lth (saf : Saf) : (s.imageLost saf).lth = { s.lth with applied := [], blobs := [] } := rfl

theorem State.LoadOver.imageLost {s : State} (h : s.LoadOver) (saf : Saf) : (s.imageLost saf).LoadOver := by
  have hreg (o : Nat) : (s.imageLost saf).reg o = (s.setReg Reg.LTH_STATE 0).reg o := reg_congr (imageLost_regs s saf) o
  refine ⟨?_, ?_, ?_, .inl ?_⟩
  · rw [bit_of_reg (hreg _), bit_of_reg (reg_setReg_ne s _ (by decide)), h.idle]
  · rw [imageLost_lth, h.op]
  · rw [imageLost_lth, h.copy]
  · rw [State.lthState, State.fld', hreg]
    exact lthState_setReg s 0

/-- Whatever its phases found, a load that has run them is no longer in progress (R489 to R492). -/
theorem runLoad_ended : s.runLoad.LoadOver := by
  unfold State.runLoad
  extract_lets img phase stop
  have hstop (u : State) (p : Nat) (f : Fail) : (stop u p f).LoadOver := loadStop_ended _ _ _
  -- phase 2: the copy read back, and its header
  split
  · exact loadStop_ended _ _ _
  split
  · exact hstop _ _ _
  -- phases 3 and 4: signature and decryption
  split
  · exact hstop _ _ _
  split
  · exact hstop _ _ _
  -- phase 5: sections and records
  extract_lets ct u
  split
  · exact hstop _ _ _
  -- phase 6: a weight blob that cannot be read, or has another digest
  split
  · exact loadStop_ended _ _ _
  · exact hstop _ _ _
  -- phase 7: the fit check
  split
  · exact hstop _ _ _
  -- phase 8: the image is lost, or applied
  extract_lets v
  split
  · next w _ => exact (loadStop_ended w BUS_ERROR_UNCORRECTABLE none).imageLost w.saf
  · next w _ => exact loaded_ended w _ ct

/-- A header that fails its check stops the load in phase 2 (R745, R516 to R518). -/
theorem runLoad_badHead (hdamage : s.msys.damage = []) (hrefill : s.sec.refill = false) {f : Fail} (hhead : s.headCheck s.lth.img = some f) :
    s.runLoad = (s.setFld Reg.LTH_CMD_ST 8 4 2).loadStop (reasonStatus f.1) (some f) := by
  unfold State.runLoad
  extract_lets img phase stop
  rw [retainedRead_good hdamage hrefill]
  dsimp -zeta only
  rw [hhead]

theorem loadEnd_loading (hload : s.lthState = 1) : s.loadEnd = s.runLoad := if_pos (by simp [hload])

theorem reasonStatus_lt (r : Nat) : reasonStatus r < 256 := by
  unfold reasonStatus
  split_ifs <;> decide

theorem loadEnd_badHead (hload : s.lthState = 1) (hdamage : s.msys.damage = []) (hrefill : s.sec.refill = false) {f : Fail}
    (hhead : s.headCheck s.lth.img = some f) :
    s.loadEnd.fld' Reg.LTH_CMD_ST 0 8 = reasonStatus f.1 ∧ s.loadEnd.lth.applied = s.lth.applied ∧ s.loadEnd.saf.rules = s.saf.rules ∧
      s.SameMemory s.loadEnd := by
  have hstop := loadStop_stops (s.setFld Reg.LTH_CMD_ST 8 4 2) (reasonStatus f.1) (some f)
  rw [loadEnd_loading s hload, runLoad_badHead s hdamage hrefill hhead, hstop.status, hstop.applied, hstop.saf, State.setFld_lth,
    State.setFld_saf, Nat.mod_eq_of_lt (reasonStatus_lt _)]
  exact ⟨rfl, rfl, rfl, State.sameMemory_of_mem (hstop.mem.trans (s.setFld_mem _ _ _ _))⟩

/-! ### ABORT, RB_ADVANCE and UNLOAD (R490, R497, R510, R757) -/

theorem doAbort_idle (h : s.lthState ≠ 1) : s.doAbort = s := if_neg (by simp [h])

theorem doAbort_loading (h : s.lthState = 1) : s.doAbort = s.loadStop REFUSED_STATE (some (0x0000, some 0)) := if_pos (by simp [h])

/-- With nothing to burn RB_ADVANCE is done at once; otherwise it is in progress (R497). -/
theorem doRbAdvance_eq (hidle : s.bit Reg.LTH_CMD_ST 16 = false) (happlied : s.lthState = 3) :
    s.doRbAdvance = if rollbackOf s.lth.applied ≤ s.sec.otp.rollback then s.lthDone DONE else (s.withOp 3).setBit Reg.LTH_CMD_ST 16 true := by
  rw [State.doRbAdvance, unlessBusy_free hidle, if_neg (by simp [happlied])]
  rfl

/-- The fuses are burned up to the ROLLBACK of the applied image. -/
def State.burned (s : State) : State :=
  { s with sec := { s.sec with otp := { s.sec.otp with rollback := max s.sec.otp.rollback (rollbackOf s.lth.applied) } } }

theorem burned_rollback : s.burned.sec.otp.rollback = max s.sec.otp.rollback (rollbackOf s.lth.applied) := rfl

theorem rbDone_spec (hop : s.lth.busyOp = 3) :
    s.rbDone.sec.otp.rollback = max s.sec.otp.rollback (rollbackOf s.lth.applied) ∧ s.rbDone.lth.busyOp = 0 ∧
      s.rbDone.fld' Reg.LTH_CMD_ST 0 8 = DONE ∧ s.rbDone.bit Reg.LTH_CMD_ST 16 = false := by
  have hdone : s.rbDone = s.burned.lthDone DONE := if_neg (by simp [hop])
  have hend := lthDone_ends s.burned DONE
  rw [hdone, hend.sec, hend.lth, burned_rollback]
  exact ⟨rfl, rfl, hend.status, hend.idle⟩

/-- No image is applied: the loader shows NONE, the built-in rules hold, and the tiles' memory reads zero (R242, R510, R757). -/
structure State.Imageless (t : State) : Prop where
  state : t.lthState = 0
  applied : t.lth.applied = []
  built : t.saf.built = true
  rules : t.saf.rules = []
  tiles : ∀ a, a < tileEnd → t.byteAt a = 0

theorem State.Imageless.congr {s t : State} (hs : s.Imageless) (hstate : t.lthState = s.lthState) (happlied : t.lth.applied = s.lth.applied)
    (hmem : t.mem = s.mem) (hsaf : t.saf = s.saf) : t.Imageless :=
  ⟨hstate.trans hs.state, happlied.trans hs.applied, (congrArg Saf.built hsaf).trans hs.built, (congrArg Saf.rules hsaf).trans hs.rules,
    fun a ha => (State.sameMemory_of_mem hmem a).trans (hs.tiles a ha)⟩

theorem State.Imageless.event {s : State} (hs : s.Imageless) (source sev code status : Nat) (data : List Byte) :
    (s.event source sev code status data).Imageless := hs.congr rfl rfl rfl rfl

theorem State.EndsCommand.imageless {s t : State} {code : Nat} (h : s.EndsCommand t code) (hs : s.Imageless) : t.Imageless :=
  hs.congr (h.regs.lthState (by decide)) (by rw [h.lth]) h.mem h.saf

/-- The applied image is forgotten, with its rules and what the tiles hold. -/
def State.bared (s : State) : State :=
  { s with mem := memZero s.mem 0 tileEnd, saf := { s.saf with built := true, rules := [] },
           lth := { s.lth with applied := [], blobs := [], detSum := 0 } }

theorem bared_spec : s.bared.lth.applied = [] ∧ s.bared.saf.built = true ∧ s.bared.saf.rules = [] ∧ s.bared.mem = (s.zero 0 tileEnd).mem :=
  ⟨rfl, rfl, rfl, rfl⟩

theorem bared_imageless : (s.bared.setReg Reg.LTH_STATE 0).Imageless := by
  obtain ⟨happlied, hbuilt, hrules, hmem⟩ := bared_spec s
  refine ⟨lthState_setReg s.bared 0, ?_, ?_, ?_, fun a ha => ?_⟩
  · rw [State.setReg_lth, happlied]
  · rw [State.setReg_saf, hbuilt]
  · rw [State.setReg_saf, hrules]
  · rw [State.sameMemory_of_mem ((s.bared.setReg_mem _ _).trans hmem) a, byteAt_zero, if_pos ⟨Nat.zero_le a, by rwa [Nat.zero_add]⟩]

theorem toNone_imageless : s.toNone.Imageless := by
  unfold State.toNone
  extract_lets _ u v _ _ w x
  have hx : x.Imageless := bared_imageless v
  have hpower := (repowers_setDomains x x.idleDomains).trans (repowers_pllStops _)
  exact hx.congr hpower.lthState (congrArg Lth.applied hpower.only.lth) hpower.only.mem hpower.only.saf

/-- UNLOAD ends what is in progress and empties the tables; then no image is applied (R510). -/
theorem doUnload_eq (hidle : s.bit Reg.LTH_CMD_ST 16 = false) (happlied : s.lthState = 3) (hstop : s.bit Reg.CSQ_STATUS 0 = false) :
    s.doUnload = s.discardWork.clearDescs.resetFold.emptyRings.toNone.lthDone DONE := by
  rw [State.doUnload, unlessBusy_free hidle, if_neg (by simp [happlied, hstop])]

theorem doUnload_spec (hidle : s.bit Reg.LTH_CMD_ST 16 = false) (happlied : s.lthState = 3) (hstop : s.bit Reg.CSQ_STATUS 0 = false) :
    s.doUnload.Imageless ∧ s.doUnload.fld' Reg.LTH_CMD_ST 0 8 = DONE := by
  rw [doUnload_eq s hidle happlied hstop]
  have hend := lthDone_ends s.discardWork.clearDescs.resetFold.emptyRings.toNone DONE
  exact ⟨hend.imageless (toNone_imageless _), hend.status⟩

/-! ### A resume (R511, R588) -/

theorem resumeFail_spec : s.resumeFail.Imageless ∧ s.resumeFail.lth.busyOp = 0 := by
  unfold State.resumeFail
  extract_lets _ v
  have hv : v.Imageless := (toNone_imageless _).event _ _ _ _ _
  obtain ⟨hregs, hlth, hmem, hsaf⟩ := putReason_frame v (some (0x0015, none))
  have hend := lthDone_ends (v.putReason (some (0x0015, none))) REFUSED_AUTH
  refine ⟨hend.imageless (hv.congr (hregs.lthState (by decide)) (congrArg Lth.applied hlth) hmem hsaf), ?_⟩
  rw [hend.lth]

/-- A resume runs once on-die memory has been filled (R511). -/
theorem resume_ended (hstate : s.lthState = 4) (hfill : s.bit Reg.MEM_FILL_ST 0 = true) :
    s.resume.lth.busyOp = 0 ∧ (s.resume.lthState = 0 ∨ s.resume.lthState = 3) := by
  have hfail (u : State) : u.resumeFail.lth.busyOp = 0 ∧ (u.resumeFail.lthState = 0 ∨ u.resumeFail.lthState = 3) := by
    obtain ⟨hnone, hop⟩ := resumeFail_spec u
    exact ⟨hop, .inl hnone.state⟩
  unfold State.resume
  rw [if_neg (by simp [hstate, hfill])]
  extract_lets img
  split
  · exact hfail _
  split
  · extract_lets u v w
    have hw : w.lth.busyOp = 0 ∧ (w.lthState = 0 ∨ w.lthState = 3) := by
      have hend := lthDone_ends v DONE
      exact ⟨by rw [hend.lth], .inr ((hend.regs.lthState (by decide)).trans (enterApplied_spec _).2)⟩
    split
    · have hrun := keepsLoader_doRun { w with saf := { w.saf with rsPhase := 3 } }
      rw [hrun.lth, hrun.lthState]
      exact hw
    · exact hw
  · exact hfail _

theorem resume_refill (hstate : s.lthState = 4) (hfill : s.bit Reg.MEM_FILL_ST 0 = true) (hrefill : s.sec.refill = true) :
    s.resume = s.resumeFail := by
  have hlost (a n : Nat) : s.retainedRead a n = (false, s) := if_pos hrefill
  unfold State.resume
  rw [if_neg (by simp [hstate, hfill])]
  extract_lets img
  rw [hlost]

end

/-- Settles O32: each command is followed to the end it comes to, and what that end leaves of the loader is read off. -/
theorem lathCommandsHaveTheirEffect : Obligations.LathCommandsHaveTheirEffect := by
  refine ⟨fun s hopen hidle hlocked hstop hstate hdamage hret hrefill => ?_, fun s hload => ⟨_, exec_loadEnd s, ?_⟩, fun s hopen => ?_,
    fun s hopen hidle happlied => ?_, fun s hop => ⟨_, exec_rbAdvanceDone s, rbDone_spec s hop⟩,
    fun s hopen hidle happlied hstop => ?_, fun s hstate hfill => ⟨_, exec_resumeDone s, ?_⟩⟩
  · intro a n halign hmax hdram hadmit
    obtain ⟨hlth, hregs, hmem⟩ := doLoad_spec s hidle hlocked hstop hstate hdamage hret hrefill rfl rfl halign hmax hdram hadmit
    obtain ⟨hshown, hbusy, hphase⟩ := showLoad_shown s
    have hreg (o : Nat) : s.doLoad.reg o = s.showLoad.reg o := reg_congr hregs o
    rw [exec_load, hostCmd_open hopen]
    refine ⟨_, rfl, ?_⟩
    rw [hlth]
    exact ⟨rfl, rfl, (congrArg (fieldOf · 0 3) (hreg _)).trans hshown, (bit_of_reg (hreg _) _).trans hbusy,
      (congrArg (fieldOf · 8 4) (hreg _)).trans hphase, rfl, State.sameMemory_of_mem hmem,
      (accepted_regs s).congr (hregs.trans (withOp_regs s.showLoad 1).symm)⟩
  · obtain ⟨hidle, hop, hcopy, hstate⟩ := loadEnd_loading s hload ▸ runLoad_ended s
    exact ⟨hidle, hop, hcopy, hstate, fun hdamage hrefill f => loadEnd_badHead s hload hdamage hrefill⟩
  · rw [exec_abort, hostCmd_open hopen]
    refine ⟨fun h => congrArg _ (doAbort_idle s h), fun h => ⟨_, rfl, ?_⟩⟩
    rw [doAbort_loading s h]
    have hstops := loadStop_stops s REFUSED_STATE (some (0x0000, some 0))
    exact ⟨hstops.state, hstops.ended.copy, hstops.status, hstops.ended.idle, hstops.reason 0 0 rfl⟩
  · rw [exec_rbAdvance, hostCmd_open hopen, doRbAdvance_eq s hidle happlied]
    refine ⟨_, rfl, fun h => ?_, fun h => ?_⟩
    · rw [if_pos h]
      exact ⟨(lthDone_ends s DONE).status, (lthDone_ends s DONE).idle⟩
    · rw [if_neg (Nat.not_le.2 h)]
      exact ⟨rfl, bit_setBit_same _ _ _ _ (by decide)⟩
  · rw [exec_unload, hostCmd_open hopen]
    obtain ⟨⟨hnone, himage, hbuilt, hrules, htiles⟩, hstatus⟩ := doUnload_spec s hidle happlied hstop
    exact ⟨_, rfl, hnone, himage, hbuilt, hrules, hstatus, htiles⟩
  · obtain ⟨hop, hend⟩ := resume_ended s hstate hfill
    refine ⟨hop, hend, fun hrefill => ?_⟩
    obtain ⟨⟨hnone, himage, hbuilt, -, -⟩, -⟩ := resumeFail_spec s
    rw [resume_refill s hstate hfill hrefill]
    exact ⟨hnone, himage, hbuilt⟩

end Sys2Proof.Machine
end

section
/-! PROOFS. The state after reset (R492, R535, R725). -/

namespace Sys2Proof.Machine

/-- Settles O55: after reset neither memory nor the register file lists an entry. -/
theorem resetIsCanonical : Obligations.ResetIsCanonical := ⟨rfl, rfl⟩

/-- Settles O54: the register file after reset lists no entry, so that every register reads as its row states. -/
theorem resetLeavesTheStatedValues : Obligations.ResetLeavesTheStatedValues :=
  ⟨fun _ => rfl, fun _ => rfl, rfl, by decide, fun _ => rfl, rfl, rfl, by decide, by decide, by decide, by decide, by decide⟩

end Sys2Proof.Machine
end

section
/-! PROOFS. Memory and register file stay canonical. Only a few operations write memory or registers themselves; a lemma for each operation of
the model, in the model's order, carries the invariant through, `canon_update` where a record changes no more than other blocks, and
`canon_exec` reads it off for every command. `grind` gets the lemmas of the operations called; its arithmetic has nothing to do and is off. -/

namespace Sys2Proof.Machine

/-- A change of any block beside memory and the register file. -/
theorem canon_update {s : State} {pending out free part hif aon tbu sic pae ego tca dml tac fld bse csq lth msys saf slk sec} (hc : s.Canonical) :
    State.Canonical ⟨pending, s.regs, s.mem, out, free, part, hif, aon, tbu, sic, pae, ego, tca, dml, tac, fld, bse, csq, lth, msys, saf, slk,
      sec⟩ := hc

/-- A change of memory, and of any block beside the register file. -/
theorem canon_updateMem {s : State} {mem pending out free part hif aon tbu sic pae ego tca dml tac fld bse csq lth msys saf slk sec}
    (hmem : Memory.wf mem = true) (hc : s.Canonical) :
    State.Canonical ⟨pending, s.regs, mem, out, free, part, hif, aon, tbu, sic, pae, ego, tca, dml, tac, fld, bse, csq, lth, msys, saf, slk,
      sec⟩ := ⟨hmem, hc.2⟩

theorem canon_ite {c : Prop} [Decidable c] {a b : State} (ha : a.Canonical) (hb : b.Canonical) : (if c then a else b).Canonical := by
  split
  · exact ha
  · exact hb

theorem canon_ite_snd {α : Type} {c : Prop} [Decidable c] {p q : α × State} (hp : p.2.Canonical) (hq : q.2.Canonical) :
    (if c then p else q).2.Canonical := by
  split
  · exact hp
  · exact hq

variable {s : State}

/-! ### Machine/Ops.lean -/

theorem canon_countWrap {off lo w n : Nat} (hc : s.Canonical) : (s.countWrap off lo w n).Canonical := canon_setFld _ _ _ _ _ hc

theorem canon_setReg64 {off v : Nat} (hc : s.Canonical) : (s.setReg64 off v).Canonical := canon_setReg _ _ _ (canon_setReg _ _ _ hc)

theorem canon_setPower {d : Nat} {on : Bool} (hc : s.Canonical) : (s.setPower d on).Canonical := canon_setBit _ _ _ _ hc

theorem canon_draw (hc : s.Canonical) : s.draw.2.Canonical := canon_update hc

theorem canon_reach {t : Time} (hc : s.Canonical) : (s.reach t).Canonical := canon_update hc

theorem canon_tick (hc : s.Canonical) : s.tick.Canonical := canon_ite hc (canon_update hc)

theorem canon_msix {v : Nat} (hc : s.Canonical) : (s.msix v).Canonical := canon_ite (canon_update hc) (canon_emit _ _ hc)

theorem canon_flushMsix (hc : s.Canonical) : s.flushMsix.Canonical :=
  canon_foldl _ _ _ hc (fun _ _ h => canon_ite (canon_emit _ _ (canon_update h)) h)

/-! ### Machine/Resets.lean -/

theorem canon_powerOn {pin : Bool} {cause : Nat} (hc : s.Canonical) : (s.powerOn pin cause).Canonical := by
  refine canon_setReg _ _ _ ⟨rfl, ?_⟩
  cases pin
  · exact SMap.wf_filter _ hc.2
  · rfl

theorem canon_warm {cause : Nat} (hc : s.Canonical) : (s.warm cause).Canonical :=
  canon_setFld _ _ _ _ _ (canon_setBit _ _ _ _ ⟨memZero_wf _ _ _ hc.1, SMap.wf_filter _ hc.2⟩)

theorem canon_lthAccel (hc : s.Canonical) : s.lthAccel.Canonical := by
  unfold State.lthAccel
  grind -ring -linarith -lia -ac -order [canon_setReg, canon_setFld, canon_setBit, canon_countSat, canon_msix, canon_update]

theorem canon_accel (hc : s.Canonical) : s.accel.Canonical := by
  unfold State.accel
  extract_lets tiles _ _ t
  have ht : t.Canonical := ⟨memZero_wf _ _ _ hc.1, SMap.wf_filter _ hc.2⟩
  exact canon_lthAccel (canon_ite (canon_setFld _ _ _ _ _ ht) ht)

theorem canon_endpointReset (hc : s.Canonical) : s.endpointReset.Canonical :=
  canon_setBit _ _ _ _ ⟨hc.1, SMap.wf_filter _ hc.2⟩

/-! ### Machine/Bus.lean -/

theorem canon_setRevoked {id : Nat} {v : Bool} (hc : s.Canonical) : (s.setRevoked id v).Canonical := canon_setBit _ _ _ _ hc

theorem canon_fencedSpeaker {t : Nat} (hc : s.Canonical) : (s.fencedSpeaker t).Canonical :=
  canon_ite (canon_event _ _ _ _ _ _ (canon_update (canon_countSat _ _ _ _ _ (canon_countSat _ _ _ _ _ hc)))) (canon_countSat _ _ _ _ _
    (canon_countSat _ _ _ _ _ hc))

theorem canon_raiseStepDoubt (hc : s.Canonical) : s.raiseStepDoubt.Canonical := canon_countSat _ _ _ _ _ (canon_update hc)

theorem canon_raiseTrackDoubt {n : Nat} (hc : s.Canonical) : (s.raiseTrackDoubt n).Canonical := canon_countSat _ _ _ _ _ (canon_update hc)

theorem canon_checkersDisagree (hc : s.Canonical) : s.checkersDisagree.Canonical :=
  canon_ite (canon_raiseStepDoubt (canon_countSat _ _ _ _ _ hc)) (canon_event _ _ _ _ _ _ (canon_update (canon_raiseStepDoubt
    (canon_countSat _ _ _ _ _ hc))))

theorem canon_heal {array loc : Nat} (hc : s.Canonical) : (s.heal array loc).Canonical := canon_update hc

theorem canon_logError {addr id kind nsym array bank dq : Nat} (hc : s.Canonical) :
    (s.logError addr id kind nsym array bank dq).Canonical := by
  unfold State.logError
  grind -ring -linarith -lia -ac -order [canon_setFld, canon_setBit, canon_countWrap, canon_update]

theorem canon_corrected {id array loc kindX : Nat} (hc : s.Canonical) : (s.corrected id array loc kindX).Canonical :=
  canon_ite (canon_logError (canon_update (canon_countSat _ _ _ _ _ (canon_heal hc)))) (canon_logError (canon_update (canon_countSat _ _ _
    _ _ (canon_heal hc))))

theorem canon_uncorrectable {id array loc kindX : Nat} (hc : s.Canonical) : (s.uncorrectable id array loc kindX).Canonical :=
  canon_ite (canon_raiseStepDoubt (canon_event _ _ _ _ _ _ (canon_logError (canon_update (canon_setBit _ _ _ _ (canon_countSat _ _ _ _ _
    hc)))))) (canon_event _ _ _ _ _ _ (canon_logError (canon_update (canon_setBit _ _ _ _ (canon_countSat _ _ _ _ _ hc)))))

theorem canon_checkRead {id a n kindX : Nat} (hc : s.Canonical) : (s.checkRead id a n kindX).2.Canonical := by
  unfold State.checkRead
  split
  · exact hc
  · refine canon_foldl_pair _ _ (true, s) hc fun p l h => ?_
    grind -ring -linarith -lia -ac -order [canon_countSat, canon_corrected, canon_uncorrectable]

theorem canon_newDramKey (hc : s.Canonical) : s.newDramKey.Canonical := canon_update (canon_draw hc)

theorem canon_drawSyms {m x0 : Nat} (hc : s.Canonical) : (s.drawSyms m x0).2.Canonical := by
  induction x0 with
  | zero => exact hc
  | succ n ih =>
    unfold State.drawSyms State.draw
    exact ih

theorem canon_rawStore {id a : Nat} {bs : List Byte} (hc : s.Canonical) : (s.rawStore id a bs).2.Canonical := by
  unfold State.rawStore
  extract_lets n bad healed stored
  have hstored : stored.Canonical := canon_store _ _ _ (canon_ite hc (canon_foldl _ _ _ hc fun s p h => canon_heal h))
  split
  · exact canon_checkRead hc
  · split
    · split
      · exact canon_drawSyms (s := stored) hstored
      · exact hstored
    · exact hstored

theorem canon_drawBytes {n : Nat} (hc : s.Canonical) : (s.drawBytes n).2.Canonical := canon_update hc

theorem canon_busRead {id a n : Nat} (hc : s.Canonical) : (s.busRead id a n).2.Canonical := by
  unfold State.busRead
  grind -ring -linarith -lia -ac -order [canon_refuseAccess, canon_checkRead, canon_drawBytes]

theorem canon_busWrite {id a : Nat} {bs : List Byte} (hc : s.Canonical) : (s.busWrite id a bs).2.Canonical :=
  canon_ite_snd (canon_refuseAccess _ _ _ _ _ hc) (canon_ite_snd hc (canon_ite_snd hc (canon_ite_snd hc (canon_rawStore hc))))

/-! ### Machine/HostOps.lean -/

theorem canon_hostAccess {k : Kind} {off : Nat} {f : State → State} (hc : s.Canonical) (hf : (f s).Canonical) :
    (s.hostAccess k off f).Canonical :=
  canon_hostAccessN _ _ _ _ _ hc hf

theorem canon_hostCmd {off : Nat} {f : State → State} (hc : s.Canonical) (hf : (f s).Canonical) : (s.hostCmd off f).Canonical :=
  canon_hostAccess hc hf

theorem canon_hostReg {off : Nat} {f : State → State} (hc : s.Canonical) (hf : (f s).Canonical) : (s.hostReg off f).Canonical :=
  canon_hostAccess hc (canon_ite hc hf)

/-! ### Machine/HostIf.lean -/

theorem canon_doGo (hc : s.Canonical) : s.doGo.Canonical := by
  unfold State.doGo
  grind -ring -linarith -lia -ac -order [canon_setFld, canon_setBit, canon_event, canon_status]

theorem canon_doUnlockFeat (hc : s.Canonical) : s.doUnlockFeat.Canonical :=
  canon_ite (canon_status _ _ _ hc) (canon_setBit _ _ _ _ (canon_status _ _ _ hc))

theorem canon_raiseEvent (hc : s.Canonical) : s.raiseEvent.Canonical :=
  canon_ite (canon_msix hc) (canon_ite (canon_msix (canon_update hc)) (canon_update hc))

theorem canon_moderationEnd (hc : s.Canonical) : s.moderationEnd.Canonical := by
  unfold State.moderationEnd
  grind -ring -linarith -lia -ac -order [canon_reach, canon_msix, canon_update]

theorem canon_unmask {v : Nat} (hc : s.Canonical) : (s.unmask v).Canonical :=
  canon_ite (canon_emit _ _ (canon_update (canon_update hc))) (canon_update hc)

theorem canon_dropEvt (hc : s.Canonical) : s.dropEvt.Canonical := canon_setBit _ _ _ _ (canon_countSat _ _ _ _ _ hc)

theorem canon_holdEvt {e : Evt} (hc : s.Canonical) : (s.holdEvt e).Canonical := canon_ite (canon_update hc) (canon_dropEvt hc)

theorem canon_setEvtEn {v : Bool} (hc : s.Canonical) : (s.setEvtEn v).Canonical := canon_setBit _ _ _ _ (canon_setBit _ _ _ _ hc)

theorem canon_lastEvt {e : Evt} (hc : s.Canonical) : (s.lastEvt e).Canonical := canon_ite (canon_msix (canon_update hc)) hc

theorem canon_writeEvt {e : Evt} (hc : s.Canonical) : (s.writeEvt e).Canonical := by
  unfold State.writeEvt
  have hbus := canon_busWrite (id := idHost) (a := s.evtAddr) (bs := e.bytes) hc
  refine canon_ite (canon_dropEvt hc) ?_
  refine canon_ite (canon_holdEvt (canon_lastEvt (canon_holdEvt (canon_setBit _ _ _ _ (canon_setEvtEn hbus))))) (canon_ite ?_ (canon_dropEvt hbus))
  have hprod := canon_countWrap (off := Reg.HIF_EVT_PROD) (lo := 0) (w := 32) (n := 1) hbus
  exact canon_ite (canon_raiseEvent hprod) hprod

theorem canon_enterEvt {e : Evt} (hc : s.Canonical) : (s.enterEvt e).Canonical := canon_ite (canon_writeEvt hc) (canon_holdEvt hc)

theorem canon_flushEvt {e : Evt} (hc : s.Canonical) : (s.flushEvt e).Canonical :=
  canon_ite (canon_msix (canon_enterEvt hc)) (canon_enterEvt hc)

theorem canon_eventLogEntry (hc : s.Canonical) : s.eventLogEntry.Canonical := by
  unfold State.eventLogEntry
  grind -ring -linarith -lia -ac -order [canon_lastEvt, canon_enterEvt, canon_update]

theorem canon_evtCons {v : W32} (hc : s.Canonical) : (s.evtCons v).Canonical :=
  canon_ite (canon_setReg _ _ _ hc) (canon_setBit _ _ _ _ hc)

theorem canon_evtCfg {v : W32} (hc : s.Canonical) : (s.evtCfg v).Canonical :=
  canon_ite (canon_foldl _ _ _ (canon_update (canon_setEvtEn (canon_setReg _ _ _ hc))) (fun _ _ h => canon_flushEvt h)) (canon_setEvtEn
    (canon_setReg _ _ _ hc))

theorem canon_latchLast (hc : s.Canonical) : s.latchLast.Canonical := canon_foldl _ _ _ hc (fun _ _ h => canon_setReg _ _ _ h)

theorem canon_sigmap {j : Nat} {w : W32} (hc : s.Canonical) : (s.sigmap j w).Canonical := canon_ite (canon_setReg _ _ _ hc) hc

theorem canon_sigVectors {sig : Nat} (hc : s.Canonical) : (s.sigVectors sig).Canonical :=
  canon_foldl _ _ _ hc (fun _ _ h => canon_ite (canon_msix h) h)

/-! ### Machine/Fifo.lean -/

theorem canon_setFifo {k : Nat} {f : XFifo} (hc : s.Canonical) : (s.setFifo k f).Canonical := canon_update hc

theorem canon_fifoPut {k : Nat} {w : W64} (hc : s.Canonical) : (s.fifoPut k w).Canonical := canon_setFifo hc

theorem canon_fifoFlush {k : Nat} (hc : s.Canonical) : (s.fifoFlush k).Canonical := canon_setFifo hc

theorem canon_fcuPump (hc : s.Canonical) : s.fcuPump.Canonical := canon_setFifo (canon_update hc)

theorem canon_tookWord {k : Nat} {f : XFifo} (hc : s.Canonical) : (s.tookWord k f).Canonical :=
  canon_ite (canon_fcuPump (canon_setFifo hc)) (canon_setFifo hc)

theorem canon_fifoGet {k id : Nat} (hc : s.Canonical) : (s.fifoGet k id).2.Canonical := by
  unfold State.fifoGet
  grind -ring -linarith -lia -ac -order [canon_event, canon_logError, canon_tookWord]

theorem canon_fifoBytes {k : Nat} {bs : List Byte} (hc : s.Canonical) : (s.fifoBytes k bs).Canonical :=
  canon_foldl _ _ _ hc (fun _ _ h => canon_fifoPut h)

/-! ### Machine/Image.lean -/

theorem canon_rtRefuse {r : Nat × Nat} (hc : s.Canonical) : (s.rtRefuse r).Canonical := canon_setReg _ _ _ hc

theorem canon_rtCount {ok : Bool} (hc : s.Canonical) : (s.rtCount ok).Canonical := canon_countSat _ _ _ _ _ hc

/-! ### Machine/SicOps.lean -/

theorem canon_setSlot {n : Nat} {x : Slot} (hc : s.Canonical) : (s.setSlot n x).Canonical := canon_update hc

theorem canon_reachStep {n : Nat} {t : State} (hc : s.Canonical) (e : (s.reachStep n) = some t) : t.Canonical := by
  unfold State.reachStep at e
  grind -ring -linarith -lia -ac -order [canon_reach]

theorem canon_renumber {old new : Nat} (hc : s.Canonical) : (s.renumber old new).Canonical := canon_update hc

theorem canon_setVrec {k : Nat} {v : VRec} (hc : s.Canonical) : (s.setVrec k v).Canonical := canon_update hc

theorem canon_quarEvent {k : Nat} (hc : s.Canonical) : (s.quarEvent k).Canonical := canon_event _ _ _ _ _ _ hc

theorem canon_quarSlot {n : Nat} (hc : s.Canonical) : (s.quarSlot n).Canonical :=
  canon_ite hc (canon_quarEvent (canon_setSlot (canon_setVrec hc)))

theorem canon_quarPort {k : Nat} (hc : s.Canonical) : (s.quarPort k).Canonical :=
  canon_foldl _ _ _ (canon_quarEvent (canon_update (canon_setVrec hc))) (fun _ _ h => canon_ite (canon_quarEvent (canon_setSlot h))
    (canon_ite (canon_setSlot h) h))

theorem canon_quarLink {k : Nat} (hc : s.Canonical) : (s.quarLink k).Canonical := canon_quarEvent (canon_update (canon_setVrec hc))

theorem canon_quarantine {k : Nat} (hc : s.Canonical) : (s.quarantine k).Canonical :=
  canon_ite (canon_quarSlot hc) (canon_ite (canon_quarPort hc) (canon_quarLink hc))

theorem canon_violate {k kind : Nat} (hc : s.Canonical) : (s.violate k kind).Canonical := by
  unfold State.violate
  grind -ring -linarith -lia -ac -order [canon_countSat, canon_event, canon_setVrec, canon_quarantine]

theorem canon_startAdmitting {n : Nat} (hc : s.Canonical) : (s.startAdmitting n).Canonical := canon_setSlot (canon_setVrec hc)

theorem canon_endHold {k : Nat} (hc : s.Canonical) : (s.endHold k).Canonical := by
  unfold State.endHold
  grind -ring -linarith -lia -ac -order [canon_setSlot, canon_reachStep, canon_setVrec, canon_startAdmitting, canon_foldl, canon_update]

theorem canon_exclude {n cause : Nat} (hc : s.Canonical) : (s.exclude n cause).Canonical :=
  canon_ite hc (canon_event _ _ _ _ _ _ (canon_setSlot (canon_setVrec hc)))

theorem canon_yieldPatch {slots : List Nat} (hc : s.Canonical) : (s.yieldPatch slots).Canonical := canon_update hc

theorem canon_yieldFcu (hc : s.Canonical) : s.yieldFcu.Canonical := canon_update hc

theorem canon_admitPass {n : Nat} (hc : s.Canonical) : (s.admitPass n).Canonical := canon_ite (canon_setSlot hc) hc

theorem canon_received {n : Nat} (hc : s.Canonical) : (s.received n).Canonical := canon_setSlot hc

theorem canon_consistent {n : Nat} (hc : s.Canonical) : (s.consistent n).Canonical := canon_admitPass (canon_setSlot hc)

theorem canon_inconsistent {n : Nat} (hc : s.Canonical) : (s.inconsistent n).Canonical := canon_setSlot hc

theorem canon_handOn {n row : Nat} {t : Time} {bs : List Byte} (hc : s.Canonical) : (s.handOn n row t bs).Canonical := canon_update hc

theorem canon_clearExp (hc : s.Canonical) : s.clearExp.Canonical := canon_setBit _ _ _ _ (canon_update hc)

theorem canon_clearSlotExp {n : Nat} (hc : s.Canonical) : (s.clearSlotExp n).Canonical := canon_setBit _ _ _ _ (canon_update hc)

theorem canon_bindRuntime {slot : Nat} {r : List Byte} (hc : s.Canonical) : (s.bindRuntime slot r).Canonical :=
  canon_update (canon_ite (canon_clearSlotExp (canon_setVrec (canon_setSlot (canon_ite (canon_update hc) hc)))) (canon_setVrec
    (canon_setSlot (canon_ite (canon_update hc) hc))))

theorem canon_admitRec {slot : Nat} {r : List Byte} (hc : s.Canonical) : (s.admitRec slot r).2.Canonical := by
  unfold State.admitRec
  grind -ring -linarith -lia -ac -order [canon_rtRefuse, canon_rtCount, canon_bindRuntime]

theorem canon_releaseSlot {n : Nat} {log : Bool} (hc : s.Canonical) : (s.releaseSlot n log).Canonical := by
  unfold State.releaseSlot
  grind -ring -linarith -lia -ac -order [canon_setReg, canon_setFld, canon_setBit, canon_event, canon_setSlot, canon_setVrec, canon_update]

/-! ### Machine/LinkOps.lean -/

theorem canon_setLinkPort {p : Nat} {x : LinkPort} (hc : s.Canonical) : (s.setLinkPort p x).Canonical := canon_update hc

theorem canon_setMember {n : Nat} {v : Bool} (hc : s.Canonical) : (s.setMember n v).Canonical := canon_setBit _ _ _ _ hc

theorem canon_linkCtl {p : Nat} {nak : Bool} {lseq : Nat} (hc : s.Canonical) : (s.linkCtl p nak lseq).Canonical := canon_emit _ _ hc

theorem canon_linkPump {p x0 : Nat} (hc : s.Canonical) : (s.linkPump p x0).Canonical := by
  induction x0 generalizing s with
  | zero => exact hc
  | succ n ih =>
    unfold State.linkPump
    grind -ring -linarith -lia -ac -order [canon_emit, canon_setLinkPort]

theorem canon_linkPost {f : LinkOut} (hc : s.Canonical) : (s.linkPost f).Canonical := canon_ite (canon_linkPump (canon_setLinkPort hc)) hc

theorem canon_linkSendFlags {p type src dst step flags : Nat} {payload : List Byte} (hc : s.Canonical) :
    (s.linkSendFlags p type src dst step flags payload).Canonical :=
  canon_linkPost hc

theorem canon_linkSendFrom {p type src dst step : Nat} {payload : List Byte} (hc : s.Canonical) :
    (s.linkSendFrom p type src dst step payload).Canonical :=
  canon_linkSendFlags hc

theorem canon_linkSend {p type dst step : Nat} {payload : List Byte} (hc : s.Canonical) : (s.linkSend p type dst step payload).Canonical :=
  canon_linkSendFrom hc

theorem canon_sendHello {p : Nat} {ask : Bool} (hc : s.Canonical) : (s.sendHello p ask).Canonical := canon_linkSendFlags hc

theorem canon_sendEcho {p : Nat} {reply : Bool} (hc : s.Canonical) : (s.sendEcho p reply).Canonical := canon_linkSend hc

theorem canon_sendDev {n type step : Nat} {payload : List Byte} (hc : s.Canonical) : (s.sendDev n type step payload).Canonical := by
  unfold State.sendDev
  grind -ring -linarith -lia -ac -order [canon_linkSend]

theorem canon_sendAll {type step : Nat} {payload : List Byte} (hc : s.Canonical) : (s.sendAll type step payload).Canonical :=
  canon_foldl _ _ _ hc (fun _ _ h => canon_ite (canon_sendDev h) h)

theorem canon_sendEpoch {p : Nat} (hc : s.Canonical) : (s.sendEpoch p).Canonical := canon_linkSend hc

theorem canon_tellEpoch (hc : s.Canonical) : s.tellEpoch.Canonical := canon_sendAll hc

/-! ### Machine/Intake.lean -/

theorem canon_detEnter {x : Det} (hc : s.Canonical) : (s.detEnter x).Canonical := canon_update hc

theorem canon_detForward {n : Nat} {b : List Byte} {border : Bool} (hc : s.Canonical) : (s.detForward n b border).Canonical :=
  canon_ite (canon_sendDev (canon_countWrap hc)) (canon_countSat _ _ _ _ _ hc)

theorem canon_detPasture {x : Det} (hc : s.Canonical) : (s.detPasture x).Canonical := by
  unfold State.detPasture
  grind -ring -linarith -lia -ac -order [canon_countSat, canon_detEnter, canon_detForward, canon_foldl]

theorem canon_detReady {b : List Byte} {level : Nat} (hc : s.Canonical) : (s.detReady b level).Canonical :=
  canon_ite hc (canon_ite (canon_countSat _ _ _ _ _ hc) (canon_ite (canon_detPasture hc) (canon_detEnter hc)))

/-! ### Machine/Pae.lean -/

theorem canon_openGrid {k : Nat} (hc : s.Canonical) : (s.openGrid k).Canonical := canon_ite hc (canon_update hc)

theorem canon_satPoint (hc : s.Canonical) : s.satPoint.Canonical := canon_countSat _ _ _ _ _ hc

theorem canon_toRange {p : Pt} (hc : s.Canonical) : (s.toRange p).Canonical := canon_update hc

theorem canon_unproject {p : Pt} (hc : s.Canonical) : (s.unproject p).Canonical := canon_satPoint (canon_update hc)

theorem canon_latePoint {p : Pt} {ks : List Nat} (hc : s.Canonical) : (s.latePoint p ks).Canonical :=
  canon_foldl _ _ _ (canon_countSat _ _ _ _ _ hc) (fun _ _ h => canon_openGrid h)

theorem canon_projectPoint {p : Pt} {extrap : Bool} (hc : s.Canonical) : (s.projectPoint p extrap).Canonical := by
  unfold State.projectPoint
  extract_lets ks s₁ present imgs grids _ s₂
  have h₁ : s₁.Canonical := canon_latePoint hc
  exact canon_ite (canon_toRange hc) (canon_ite (canon_countWrap (canon_toRange (canon_update h₁))) (canon_satPoint h₁))

theorem canon_deskewPoint {p : Pt} (hc : s.Canonical) : (s.deskewPoint p).Canonical := by
  unfold State.deskewPoint
  grind -ring -linarith -lia -ac -order [canon_countSat, canon_projectPoint, canon_update]

theorem canon_pointDeskew (hc : s.Canonical) : s.pointDeskew.Canonical := by
  unfold State.pointDeskew
  grind -ring -linarith -lia -ac -order [canon_deskewPoint, canon_update]

theorem canon_holdResume (hc : s.Canonical) : s.holdResume.Canonical := by
  unfold State.holdResume
  grind -ring -linarith -lia -ac -order [canon_deskewPoint, canon_foldl, canon_update]

theorem canon_deskewExtrapolate (hc : s.Canonical) : s.deskewExtrapolate.Canonical := by
  unfold State.deskewExtrapolate
  grind -ring -linarith -lia -ac -order [canon_countSat, canon_reach, canon_projectPoint, canon_deskewPoint, canon_update]

theorem canon_projectInto {p : Pt} {extrap : Bool} (hc : s.Canonical) : (s.projectInto p extrap).Canonical := by
  unfold State.projectInto
  grind -ring -linarith -lia -ac -order [canon_countWrap, canon_unproject, canon_update]

theorem canon_openDepth {c : Nat} {tmid : Time} {line : Nat} (hc : s.Canonical) : (s.openDepth c tmid line).Canonical :=
  canon_ite hc (canon_foldl _ _ _ (canon_update hc) (fun _ _ h => canon_projectInto h))

theorem canon_noteExtrap {v : Bool} (hc : s.Canonical) : (s.noteExtrap v).Canonical := canon_update hc

theorem canon_depthClose {c : Nat} (hc : s.Canonical) : (s.depthClose c).Canonical := by
  unfold State.depthClose
  grind -ring -linarith -lia -ac -order [canon_reach, canon_noteExtrap, canon_update]

theorem canon_paeStep (hc : s.Canonical) : s.paeStep.Canonical := canon_setBit _ _ _ _ (canon_update hc)

theorem canon_storeGrid {g : GridFrame} (hc : s.Canonical) : (s.storeGrid g).Canonical := by
  unfold State.storeGrid
  grind -ring -linarith -lia -ac -order [canon_busWrite, canon_foldl]

theorem canon_gridClose (hc : s.Canonical) : s.gridClose.Canonical := by
  unfold State.gridClose
  grind -ring -linarith -lia -ac -order [canon_reach, canon_openGrid, canon_noteExtrap, canon_storeGrid, canon_update]

theorem canon_setCal {n : Nat} {c : Cal} (hc : s.Canonical) : (s.setCal n c).Canonical := canon_update hc

theorem canon_calEvent {n old new : Nat} (hc : s.Canonical) : (s.calEvent n old new).Canonical := canon_ite hc (canon_event _ _ _ _ _ _ hc)

theorem canon_calEstimate {n : Nat} {e : CalEst} (hc : s.Canonical) : (s.calEstimate n e).Canonical :=
  canon_ite hc (canon_ite (canon_exclude (canon_calEvent (canon_setCal hc))) (canon_calEvent (canon_setCal hc)))

theorem canon_calTake {n op : Nat} (hc : s.Canonical) : (s.calTake n op).Canonical :=
  canon_setBit _ _ _ _ (canon_status _ _ _ (canon_calEvent (canon_setCal hc)))

theorem canon_calStep {n : Nat} (hc : s.Canonical) : (s.calStep n).Canonical := by
  unfold State.calStep
  grind -ring -linarith -lia -ac -order [canon_setCal, canon_calTake]

theorem canon_calCmd {n op : Nat} (hc : s.Canonical) : (s.calCmd n op).Canonical :=
  canon_unlessBusy _ _ _ _ hc (canon_ite (canon_status _ _ _ (canon_setFld _ _ _ _ _ hc)) (canon_ite (canon_setBit _ _ _ _ (canon_setCal
    (canon_setFld _ _ _ _ _ hc))) (canon_calTake (canon_setFld _ _ _ _ _ hc))))

/-! ### Machine/TimeBase.lean -/

theorem canon_setRegSat {off : Nat} {v : Int} (hc : s.Canonical) : (s.setRegSat off v).Canonical := canon_setReg _ _ _ hc

theorem canon_tbuSet {b : Nat} {v : Bool} (hc : s.Canonical) : (s.tbuSet b v).Canonical :=
  canon_ite (canon_setBit _ _ _ _ (canon_setBit _ _ _ _ hc)) (canon_setBit _ _ _ _ hc)

theorem canon_ppsLow (hc : s.Canonical) : s.ppsLow.Canonical := canon_emit _ _ (canon_update hc)

theorem canon_ppsGate (hc : s.Canonical) : s.ppsGate.Canonical := canon_ite (canon_ppsLow hc) hc

theorem canon_setDom {d : Dom} {g : GptpDom} (hc : s.Canonical) : (s.setDom d g).Canonical := by
  unfold State.setDom
  grind -ring -linarith -lia -ac -order [canon_tbuSet, canon_update]

theorem canon_refreshDoms (hc : s.Canonical) : s.refreshDoms.Canonical := canon_setDom (canon_setDom hc)

theorem canon_setY {y : Int} (hc : s.Canonical) : (s.setY y).Canonical := canon_setRegSat (canon_update hc)

theorem canon_servo {θ : Int} {g : Nat} (hc : s.Canonical) : (s.servo θ g).Canonical :=
  canon_ite hc (canon_ite (canon_setY hc) (canon_ite (canon_setY hc) (canon_setY (canon_update hc))))

theorem canon_lockCount {θ : Int} (hc : s.Canonical) : (s.lockCount θ).Canonical :=
  canon_ite (canon_tbuSet (canon_update hc)) (canon_ppsGate (canon_tbuSet (canon_update hc)))

theorem canon_setSlewing {θ : Int} {v : Bool} (hc : s.Canonical) : (s.setSlewing θ v).Canonical := canon_event _ _ _ _ _ _ (canon_tbuSet hc)

theorem canon_jumpTime {t : Time} (hc : s.Canonical) : (s.jumpTime t).Canonical := canon_update hc

theorem canon_stepTime {θ : Int} (hc : s.Canonical) : (s.stepTime θ).Canonical :=
  canon_ppsGate (canon_tbuSet (canon_update (canon_jumpTime hc)))

theorem canon_heldBack {θ : Int} (hc : s.Canonical) : (s.heldBack θ).Canonical :=
  canon_ite (canon_ite (canon_setY (canon_lockCount (canon_countSat _ _ _ _ _ hc))) (canon_lockCount (canon_countSat _ _ _ _ _ hc)))
    (canon_ite (canon_ite (canon_setY (canon_setSlewing (canon_update (canon_lockCount (canon_countSat _ _ _ _ _ hc))))) (canon_setSlewing
    (canon_update (canon_lockCount (canon_countSat _ _ _ _ _ hc))))) (canon_update (canon_lockCount (canon_countSat _ _ _ _ _ hc))))

theorem canon_leaveCoast (hc : s.Canonical) : s.leaveCoast.Canonical :=
  canon_ite (canon_event _ _ _ _ _ _ (canon_tbuSet (canon_tbuSet hc))) hc

theorem canon_offsetSample {θ : Int} {g : Nat} (hc : s.Canonical) : (s.offsetSample θ g).Canonical :=
  canon_ite (canon_lockCount (canon_servo (canon_ite (canon_setSlewing (canon_update (canon_update (canon_setRegSat hc)))) (canon_update
    (canon_update (canon_setRegSat hc)))))) (canon_ite (canon_heldBack (canon_update (canon_setRegSat hc))) (canon_stepTime (canon_update
    (canon_setRegSat hc))))

theorem canon_enterHoldover (hc : s.Canonical) : s.enterHoldover.Canonical :=
  canon_ite hc (canon_event _ _ _ _ _ _ (canon_tbuSet (canon_update (canon_setY hc))))

theorem canon_enterFreeRun (hc : s.Canonical) : s.enterFreeRun.Canonical := canon_event _ _ _ _ _ _ (canon_tbuSet (canon_tbuSet hc))

theorem canon_relaySync {d : Dom} {m : SyncMsg} (hc : s.Canonical) : (s.relaySync d m).Canonical :=
  canon_foldl _ _ _ hc (fun _ _ h => canon_ite (canon_emit _ _ (canon_draw h)) h)

theorem canon_sendAnnounce {d : Dom} {a : Announce} {but : Option Nat} (hc : s.Canonical) : (s.sendAnnounce d a but).Canonical :=
  canon_foldl _ _ _ hc (fun _ _ h => canon_ite (canon_emit _ _ h) h)

theorem canon_domJudge {θ : Int} (hc : s.Canonical) : (s.domJudge θ).Canonical := by
  unfold State.domJudge
  extract_lets _ s₁ far _ s₂ set
  have h₁ : s₁.Canonical := canon_setRegSat ⟨hc.1, hc.2⟩
  have h₂ : s₂.Canonical := ⟨h₁.1, h₁.2⟩
  have hset (v : Bool) : (set s₂ v).Canonical := canon_event _ _ _ _ _ _ (canon_tbuSet h₂)
  exact canon_ite (hset true) (canon_ite (hset false) h₂)

theorem canon_syncArrives {d : Dom} {m : SyncMsg} (hc : s.Canonical) : (s.syncArrives d m).Canonical :=
  canon_ite (canon_setReg _ _ _ (canon_setDom (canon_relaySync (canon_reach hc)))) (canon_setDom (canon_relaySync (canon_reach hc)))

theorem canon_doSync {m : SyncMsg} (hc : s.Canonical) : (s.doSync m).Canonical :=
  canon_ite hc (canon_ite (canon_domJudge (canon_syncArrives hc)) (canon_offsetSample (canon_leaveCoast (canon_syncArrives hc))))

theorem canon_autoDomain {d : Dom} (hc : s.Canonical) : (s.autoDomain d).Canonical :=
  canon_ite hc (canon_event _ _ _ _ _ _ (canon_update (canon_tbuSet (canon_setBit _ _ _ _ hc))))

theorem canon_doSyncMonitored {m : SyncMsg} (hc : s.Canonical) : (s.doSyncMonitored m).Canonical :=
  canon_ite hc (canon_ite (canon_domJudge (canon_syncArrives hc)) (canon_ite (canon_syncArrives hc) (canon_autoDomain (canon_domJudge
    (canon_syncArrives hc)))))

theorem canon_loseWorking {d : Dom} (hc : s.Canonical) : (s.loseWorking d).Canonical := canon_ite (canon_enterHoldover hc) hc

theorem canon_doAnnounce {d : Dom} {a : Announce} (hc : s.Canonical) : (s.doAnnounce d a).Canonical :=
  canon_ite hc (canon_ite (canon_ite hc (canon_sendAnnounce (canon_setDom hc))) (canon_ite (canon_loseWorking (canon_ite
    (canon_sendAnnounce (canon_setDom hc)) (canon_setDom hc))) (canon_ite (canon_sendAnnounce (canon_setDom hc)) (canon_setDom hc))))

theorem canon_doPdelay {q : Nat} {x : DelayTimes} (hc : s.Canonical) : (s.doPdelay q x).Canonical :=
  canon_ite hc (canon_update (canon_reach hc))

theorem canon_syncTimeout (hc : s.Canonical) : s.syncTimeout.Canonical := canon_ite hc (canon_loseWorking (canon_setDom (canon_reach hc)))

theorem canon_holdoverExpiry (hc : s.Canonical) : s.holdoverExpiry.Canonical := canon_ite (canon_enterFreeRun (canon_reach hc)) hc

theorem canon_reachPdelay {q : Nat} (hc : s.Canonical) : (s.reachPdelay q).Canonical := by
  unfold State.reachPdelay
  grind -ring -linarith -lia -ac -order [canon_reach]

theorem canon_pdelaySend {q : Nat} (hc : s.Canonical) : (s.pdelaySend q).Canonical :=
  canon_ite (canon_emit _ _ (canon_update (canon_reachPdelay hc))) hc

theorem canon_pdelayAnswer {q : Nat} {raw : Time} (hc : s.Canonical) : (s.pdelayAnswer q raw).Canonical :=
  canon_ite hc (canon_emit _ _ (canon_emit _ _ (canon_reach hc)))

theorem canon_gmSend {d : Dom} (hc : s.Canonical) : (s.gmSend d).Canonical :=
  canon_ite hc (canon_foldl _ _ _ (canon_setDom hc) (fun _ _ h => canon_ite (canon_emit _ _ (canon_emit _ _ h)) h))

theorem canon_setLport {p : Nat} {l : LinkPort} (hc : s.Canonical) : (s.setLport p l).Canonical := canon_update hc

theorem canon_sendBlock {p : Nat} (hc : s.Canonical) : (s.sendBlock p).Canonical := canon_ite (canon_emit _ _ hc) hc

theorem canon_timeBlockSend (hc : s.Canonical) : s.timeBlockSend.Canonical :=
  canon_ite hc (canon_foldl _ _ _ (canon_update (canon_reach hc)) (fun _ _ h => canon_sendBlock h))

theorem canon_followCoast {h f : Bool} (hc : s.Canonical) : (s.followCoast h f).Canonical :=
  canon_ite hc (canon_ite (canon_event _ _ _ _ _ _ (canon_ite (canon_update (canon_tbuSet (canon_tbuSet hc))) (canon_tbuSet (canon_tbuSet
    hc)))) (canon_ite (canon_event _ _ _ _ _ _ (canon_ite (canon_update (canon_tbuSet (canon_tbuSet hc))) (canon_tbuSet (canon_tbuSet
    hc)))) (canon_event _ _ _ _ _ _ (canon_ite (canon_update (canon_tbuSet (canon_tbuSet hc))) (canon_tbuSet (canon_tbuSet hc))))))

theorem canon_doTimeBlock {p : Fin 6} {b : TimeBlock} (hc : s.Canonical) : (s.doTimeBlock p b).Canonical :=
  canon_ite hc (canon_ite (canon_violate (canon_reach hc)) (canon_foldl _ _ _ (canon_offsetSample (canon_followCoast (canon_update
    (canon_reach hc)))) (fun _ _ h => canon_sendBlock h)))

theorem canon_blockTimeout (hc : s.Canonical) : s.blockTimeout.Canonical := canon_ite hc (canon_enterHoldover (canon_reach hc))

theorem canon_delaySend {p : Nat} (hc : s.Canonical) : (s.delaySend p).Canonical :=
  canon_ite hc (canon_emit _ _ (canon_setLport (canon_reach hc)))

theorem canon_delayAnswer {p : Nat} {rx : Time} (hc : s.Canonical) : (s.delayAnswer p rx).Canonical :=
  canon_ite hc (canon_emit _ _ (canon_reach hc))

theorem canon_delayTaken {p : Nat} {x : DelayTimes} (hc : s.Canonical) : (s.delayTaken p x).Canonical :=
  canon_ite hc (canon_ite (canon_violate (canon_reach hc)) (canon_setRegSat (canon_setLport (canon_reach hc))))

theorem canon_ppsRise (hc : s.Canonical) : s.ppsRise.Canonical := canon_ite hc (canon_emit _ _ (canon_update (canon_reach hc)))

theorem canon_ppsFall (hc : s.Canonical) : s.ppsFall.Canonical := canon_ite (canon_ppsLow (canon_reach hc)) hc

theorem canon_ppsSeconds (hc : s.Canonical) : s.ppsSeconds.Canonical := canon_ite hc (canon_update (canon_jumpTime hc))

theorem canon_doPpsIn {raw : Time} (hc : s.Canonical) : (s.doPpsIn raw).Canonical :=
  canon_ite hc (canon_ite (canon_enterHoldover (canon_update (canon_reach hc))) (canon_ppsSeconds (canon_offsetSample (canon_leaveCoast
    (canon_update (canon_reach hc))))))

theorem canon_ppsTimeout (hc : s.Canonical) : s.ppsTimeout.Canonical := by
  unfold State.ppsTimeout
  grind -ring -linarith -lia -ac -order [canon_reach, canon_enterHoldover]

theorem canon_snapTime (hc : s.Canonical) : s.snapTime.Canonical := canon_setRegBytes _ _ _ hc

theorem canon_doTimeSet (hc : s.Canonical) : s.doTimeSet.Canonical := by
  unfold State.doTimeSet
  grind -ring -linarith -lia -ac -order [canon_setFld, canon_jumpTime]

theorem canon_setWorkDom {d : Dom} (hc : s.Canonical) : (s.setWorkDom d).Canonical :=
  canon_ite (canon_setBit _ _ _ _ (canon_update (canon_update (canon_setBit _ _ _ _ hc)))) (canon_update (canon_setBit _ _ _ _ hc))

theorem canon_followSource {was : Bool} (hc : s.Canonical) : (s.followSource was).Canonical :=
  canon_ite (canon_enterFreeRun hc) (canon_ite (canon_leaveCoast hc) hc)

theorem canon_setSrc {v : BitVec 2} (hc : s.Canonical) : (s.setSrc v).Canonical :=
  canon_ite hc (canon_followSource (canon_setFld _ _ _ _ _ hc))

/-! ### Machine/Camera.lean -/

theorem canon_setVc {p c : Nat} {v : CamVc} (hc : s.Canonical) : (s.setVc p c v).Canonical := canon_update hc

theorem canon_ecc1 {p : Nat} {v : Bool} (hc : s.Canonical) : (s.ecc1 p v).Canonical := canon_ite (canon_countSat _ _ _ _ _ hc) hc

theorem canon_csiUnbound {p : Nat} (hc : s.Canonical) : (s.csiUnbound p).Canonical := canon_countSat _ _ _ _ _ hc

theorem canon_violateFrames {fs : List CamFrame} {kind : Nat} (hc : s.Canonical) : (s.violateFrames fs kind).Canonical :=
  canon_foldl _ _ _ hc (fun _ _ h => canon_ite h (canon_violate h))

theorem canon_frameStart {p c : Nat} {raw : Time} {e : Bool} (hc : s.Canonical) : (s.frameStart p c raw e).Canonical :=
  canon_ite hc (canon_setVc (canon_yieldPatch (canon_foldl _ _ _ (canon_ite (canon_violateFrames (canon_countSat _ _ _ _ _ (canon_ecc1
    (canon_reach hc)))) (canon_countSat _ _ _ _ _ (canon_ecc1 (canon_reach hc)))) (fun _ _ h => canon_calStep h))))

theorem canon_overrun {p c n : Nat} (hc : s.Canonical) : (s.overrun p c n).Canonical :=
  canon_event _ _ _ _ _ _ (canon_inconsistent (canon_countSat _ _ _ _ _ (canon_setVc (canon_draw hc))))

theorem canon_takeLine {p c : Nat} {f : CamFrame} {line : CsiLine} (hc : s.Canonical) : (s.takeLine p c f line).Canonical :=
  canon_ite (canon_setVc hc) (canon_ite (canon_violate (canon_setVc (canon_setVc hc))) (canon_ite (canon_violate (canon_setVc (canon_setVc
    hc))) (canon_ite (canon_overrun (canon_setVc hc)) (canon_ite (canon_handOn (canon_received (canon_setVc hc))) (canon_received
    (canon_setVc hc))))))

theorem canon_imageLine {p c : Nat} {line : CsiLine} (hc : s.Canonical) : (s.imageLine p c line).Canonical := by
  unfold State.imageLine
  grind -ring -linarith -lia -ac -order [canon_ecc1, canon_csiUnbound, canon_takeLine]

theorem canon_embedded {p c : Nat} {line : CsiLine} (hc : s.Canonical) : (s.embedded p c line).Canonical :=
  canon_ite hc (canon_ite (canon_csiUnbound (canon_ecc1 hc)) (canon_ite (canon_ecc1 hc) (canon_ite (canon_violateFrames (canon_setVc
    (canon_ecc1 hc))) (canon_setVc (canon_ecc1 hc)))))

theorem canon_staleStatus (hc : s.Canonical) : s.staleStatus.Canonical := canon_tbuSet hc

theorem canon_frameExp {c : Nat} {f : CamFrame} (hc : s.Canonical) : (s.frameExp c f).2.Canonical := by
  unfold State.frameExp
  grind -ring -linarith -lia -ac -order [canon_violate, canon_staleStatus, canon_update]

theorem canon_closeFrame {p c : Nat} {f : CamFrame} (hc : s.Canonical) : (s.closeFrame p c f).Canonical := by
  unfold State.closeFrame
  grind -ring -linarith -lia -ac -order [canon_violate, canon_consistent, canon_inconsistent, canon_handOn, canon_openDepth, canon_setVc,
    canon_frameExp]

theorem canon_frameEnd {p c : Nat} {e : Bool} (hc : s.Canonical) : (s.frameEnd p c e).Canonical :=
  canon_ite hc (canon_ite (canon_ecc1 hc) (canon_foldl _ _ _ (canon_setVc (canon_ecc1 hc)) (fun _ _ h => canon_closeFrame h)))

theorem canon_unboundPacket {p c dt : Nat} {e : Bool} (hc : s.Canonical) : (s.unboundPacket p c dt e).Canonical :=
  canon_ite hc (canon_ite (canon_csiUnbound (canon_ecc1 hc)) (canon_ecc1 hc))

theorem canon_badHeader {p : Nat} (hc : s.Canonical) : (s.badHeader p).Canonical :=
  canon_ite hc (canon_violate (canon_foldl _ _ _ hc (fun _ _ h => canon_ite (canon_setVc h) h)))

/-! ### Machine/Ego.lean -/

theorem canon_poseEntry {t : Nat} (hc : s.Canonical) : (s.poseEntry t).Canonical :=
  canon_ite hc (canon_update (canon_ite (canon_draw hc) (canon_setReg _ _ _ (canon_draw hc))))

theorem canon_egoSample {n : Nat} {t : Time} {vals : List Int} (hc : s.Canonical) : (s.egoSample n t vals).Canonical :=
  canon_ite (canon_poseEntry (canon_update (canon_update hc))) hc

theorem canon_egoWheel {n : Nat} {t : Time} {ext : List Byte} {vals : List Int} (hc : s.Canonical) : (s.egoWheel n t ext vals).Canonical := by
  unfold State.egoWheel
  grind -ring -linarith -lia -ac -order [canon_update]

theorem canon_egoCutoff {i : Nat} (hc : s.Canonical) : (s.egoCutoff i).Canonical :=
  canon_ite hc (canon_setFld _ _ _ _ _ (canon_update (canon_ite (canon_poseEntry hc) hc)))

theorem canon_newKeyframe {k : KeyframeObs} (hc : s.Canonical) : (s.newKeyframe k).Canonical := canon_update hc

theorem canon_smoother {r : SmootherResult} (hc : s.Canonical) : (s.smoother r).Canonical :=
  canon_ite hc (canon_ite (canon_countSat _ _ _ _ _ (canon_update hc)) (canon_update hc))

theorem canon_egoHoldTimeout (hc : s.Canonical) : s.egoHoldTimeout.Canonical := by
  unfold State.egoHoldTimeout
  grind -ring -linarith -lia -ac -order [canon_setBit, canon_reach, canon_update]

theorem canon_latchEgo (hc : s.Canonical) : s.latchEgo.Canonical := canon_setRegBytes _ _ _ hc

/-! ### Machine/PowerOps.lean -/

theorem canon_setDomains {l : List Nat} (hc : s.Canonical) : (s.setDomains l).Canonical :=
  canon_foldl _ _ _ hc (fun _ _ h => canon_setReg _ _ _ h)

theorem canon_startPwr {dest : PwrTo} (hc : s.Canonical) : (s.startPwr dest).Canonical := canon_setBit _ _ _ _ (canon_update hc)

theorem canon_pllStops (hc : s.Canonical) : s.pllStops.Canonical := canon_foldl _ _ _ hc (fun _ _ h => canon_ite h (canon_setBit _ _ _ _ h))

theorem canon_wakeEthernet (hc : s.Canonical) : s.wakeEthernet.Canonical := canon_startPwr (canon_setFld _ _ _ _ _ hc)

/-! ### Machine/Network.lean -/

theorem canon_setSource {c : Source} (hc : s.Canonical) : (s.setSource c).Canonical := canon_update hc

theorem canon_logRefused {c : Source} {code : Nat} (hc : s.Canonical) : (s.logRefused c code).Canonical :=
  canon_ite (canon_event _ _ _ _ _ _ (canon_setSource hc)) (canon_setSource hc)

theorem canon_unmatched {q : Nat} {mac : BitVec 48} {vlan : BitVec 12} {udp : BitVec 16} (hc : s.Canonical) :
    (s.unmatched q mac vlan udp).Canonical := by
  unfold State.unmatched
  grind -ring -linarith -lia -ac -order [canon_countSat, canon_event, canon_admitRec, canon_setSource, canon_logRefused]

theorem canon_setSwPort {q : Nat} {x : SwPort} (hc : s.Canonical) : (s.setSwPort q x).Canonical := canon_update hc

theorem canon_chargeEth {q : Nat} {f : EthFrame} {kind : Nat} (hc : s.Canonical) : (s.chargeEth q f kind).Canonical := canon_violate hc

theorem canon_macsecPass {q : Nat} {f : EthFrame} (hc : s.Canonical) : (s.macsecPass q f).2.Canonical := by
  unfold State.macsecPass
  grind -ring -linarith -lia -ac -order [canon_update]

theorem canon_standbyFrame {q : Nat} {f : EthFrame} (hc : s.Canonical) : (s.standbyFrame q f).Canonical := by
  unfold State.standbyFrame
  grind -ring -linarith -lia -ac -order [canon_wakeEthernet, canon_macsecPass]

theorem canon_qciPass {f : EthFrame} (hc : s.Canonical) : (s.qciPass f).2.Canonical := by
  unfold State.qciPass
  grind -ring -linarith -lia -ac -order [canon_update]

theorem canon_recovPass {q : Nat} {f : EthFrame} (hc : s.Canonical) : (s.recovPass q f).2.Canonical := by
  unfold State.recovPass
  split
  · exact hc
  · refine canon_foldl_pair _ _ (0, s) hc fun p r h => ?_
    dsimp only
    split
    · exact h
    · exact h

theorem canon_seqStamp {f : EthFrame} (hc : s.Canonical) : (s.seqStamp f).2.Canonical := by
  unfold State.seqStamp
  grind -ring -linarith -lia -ac -order [canon_update]

theorem canon_forward {q : Nat} {f : EthFrame} (hc : s.Canonical) : (s.forward q f).Canonical := by
  unfold State.forward
  grind -ring -linarith -lia -ac -order [canon_unmatched, canon_setSwPort, canon_seqStamp, canon_foldl]

theorem canon_gptpRx {q : Nat} {f : EthFrame} (hc : s.Canonical) : (s.gptpRx q f).Canonical := canon_ite (canon_pdelayAnswer hc) hc

theorem canon_ethRx {q : Nat} {f : EthFrame} (hc : s.Canonical) : (s.ethRx q f).Canonical := by
  unfold State.ethRx
  have hr : (s.reach f.raw).Canonical := hc
  have hmac := canon_macsecPass (q := q) (f := f) hr
  refine canon_ite hc (canon_ite (canon_standbyFrame hr) (canon_ite (canon_countSat _ _ _ _ _ hr) (canon_ite hr ?_)))
  split
  · next heq => rw [heq] at hmac; exact canon_chargeEth (canon_countSat _ _ _ _ _ hmac)
  · next t heq =>
    rw [heq] at hmac
    have hqci := canon_qciPass (f := f) hmac
    split
    · next heq => rw [heq] at hqci; exact canon_chargeEth (canon_countSat _ _ _ _ _ hqci)
    · next u heq =>
      rw [heq] at hqci
      have hrec := canon_recovPass (q := q) (f := f) hqci
      exact canon_ite (canon_ite (canon_gptpRx hrec) (canon_forward hrec)) (canon_ite hrec (canon_countSat _ _ _ _ _ hrec))

theorem canon_sendProtected {q : Nat} {a : Assoc} {bs : List Byte} (hc : s.Canonical) : (s.sendProtected q a bs).Canonical :=
  canon_ite (canon_countSat _ _ _ _ _ hc) (canon_emit _ _ (canon_ite (canon_event _ _ _ _ _ _ (canon_update hc)) (canon_update hc)))

theorem canon_ethTx {q : Nat} (hc : s.Canonical) : (s.ethTx q).Canonical := by
  unfold State.ethTx
  grind -ring -linarith -lia -ac -order [canon_emit, canon_setSwPort, canon_sendProtected]

theorem canon_tasGate {q : Nat} (hc : s.Canonical) : (s.tasGate q).Canonical := canon_ite hc (canon_setSwPort (canon_reach hc))

theorem canon_sqiCheck {q : Nat} (hc : s.Canonical) : (s.sqiCheck q).Canonical :=
  canon_ite hc (canon_event _ _ _ _ _ _ (canon_setSwPort hc))

theorem canon_sqi {q v : Nat} (hc : s.Canonical) : (s.sqi q v).Canonical :=
  canon_ite hc (canon_ite (canon_setSwPort (canon_setFld _ _ _ _ _ hc)) (canon_sqiCheck (canon_setSwPort (canon_setFld _ _ _ _ _ hc))))

theorem canon_setCan {n : Nat} {x : Can} (hc : s.Canonical) : (s.setCan n x).Canonical := canon_update hc

theorem canon_canShow {n : Nat} (hc : s.Canonical) : (s.canShow n).Canonical :=
  canon_ite hc (canon_setFld _ _ _ _ _ (canon_setFld _ _ _ _ _ (canon_setFld _ _ _ _ _ hc)))

theorem canon_canGood {n : Nat} (hc : s.Canonical) : (s.canGood n).Canonical := canon_canShow (canon_setCan hc)

theorem canon_canAccept {n slot : Nat} {m : CanMsg} (hc : s.Canonical) : (s.canAccept n slot m).Canonical := by
  unfold State.canAccept
  grind -ring -linarith -lia -ac -order [canon_violate, canon_yieldPatch, canon_received, canon_consistent, canon_handOn, canon_detReady,
    canon_egoWheel]

theorem canon_canRx {n : Nat} {m : CanMsg} (hc : s.Canonical) : (s.canRx n m).Canonical := by
  unfold State.canRx
  grind -ring -linarith -lia -ac -order [canon_reach, canon_canGood, canon_canAccept]

theorem canon_canOff {n : Nat} (hc : s.Canonical) : (s.canOff n).Canonical :=
  canon_ite hc (canon_ite (canon_event _ _ _ _ _ _ (canon_canShow (canon_setCan hc))) (canon_violate (canon_canShow (canon_setCan hc))))

theorem canon_canError {n : Nat} {e : CanErr} (hc : s.Canonical) : (s.canError n e).Canonical :=
  canon_ite hc (canon_ite (canon_canOff (canon_ite (canon_canShow (canon_setCan hc)) (canon_violate (canon_countSat _ _ _ _ _
    (canon_canShow (canon_setCan hc)))))) (canon_ite (canon_canShow (canon_setCan hc)) (canon_violate (canon_countSat _ _ _ _ _
    (canon_canShow (canon_setCan hc))))))

theorem canon_canBack {n : Nat} (hc : s.Canonical) : (s.canBack n).Canonical :=
  canon_ite hc (canon_ite (canon_foldl _ _ _ (canon_update (canon_event _ _ _ _ _ _ (canon_setCan hc))) (fun _ _ h => canon_countWrap
    (canon_emit _ _ h))) (canon_ite (canon_canShow (canon_setCan hc)) hc))

theorem canon_imuEdge {n : Nat} {falling : Bool} {raw : Time} (hc : s.Canonical) : (s.imuEdge n falling raw).Canonical := by
  unfold State.imuEdge
  grind -ring -linarith -lia -ac -order [canon_emit, canon_reach, canon_setSlot, canon_violate, canon_yieldPatch]

theorem canon_imuTake {n : Nat} {data : List Byte} (hc : s.Canonical) : (s.imuTake n data).Canonical := by
  unfold State.imuTake
  grind -ring -linarith -lia -ac -order [canon_setSlot, canon_violate, canon_received, canon_consistent, canon_handOn, canon_egoSample]

theorem canon_imuMiss {n : Nat} (hc : s.Canonical) : (s.imuMiss n).Canonical := by
  unfold State.imuMiss
  grind -ring -linarith -lia -ac -order [canon_countSat, canon_reach, canon_setSlot]

/-! ### Machine/Operands.lean -/

theorem canon_elemAt {id : Nat} {b : List Byte} {c : Coord} (hc : s.Canonical) : (s.elemAt id b c).2.Canonical := by
  unfold State.elemAt
  grind -ring -linarith -lia -ac -order [canon_busRead]

theorem canon_readElem {id : Nat} {b : List Byte} {c : Coord} (hc : s.Canonical) : (s.readElem id b c).2.Canonical :=
  canon_ite_snd (canon_elemAt hc) (canon_ite_snd (canon_elemAt hc) hc)

theorem canon_storeUnits {id : Nat} {x0 : List (Nat × List Byte)} (hc : s.Canonical) : (s.storeUnits id x0).2.Canonical := by
  induction x0 generalizing s with
  | nil => exact hc
  | cons p r ih =>
    have hw := canon_busWrite (id := id) (a := p.1) (bs := p.2) hc
    unfold State.storeUnits
    dsimp only
    split
    · exact ih hw
    · exact hw

/-! ### Machine/Dml.lean -/

theorem canon_addRef {h : Nat} (hc : s.Canonical) : (s.addRef h).Canonical := canon_update hc

theorem canon_dropRef {h : Nat} (hc : s.Canonical) : (s.dropRef h).Canonical := by
  unfold State.dropRef
  grind -ring -linarith -lia -ac -order [canon_update]

theorem canon_addRefs {hs : List Nat} (hc : s.Canonical) : (s.addRefs hs).Canonical := canon_foldl _ _ _ hc (fun _ _ h => canon_addRef h)

theorem canon_dropRefs {hs : List Nat} (hc : s.Canonical) : (s.dropRefs hs).Canonical := canon_foldl _ _ _ hc (fun _ _ h => canon_dropRef h)

theorem canon_descStatus {h code : Nat} (hc : s.Canonical) : (s.descStatus h code).Canonical :=
  canon_setBit _ _ _ _ (canon_setFld _ _ _ _ _ (canon_setFld _ _ _ _ _ hc))

theorem canon_doDescCreate {id h : Nat} (hc : s.Canonical) : (s.doDescCreate id h).Canonical := by
  unfold State.doDescCreate
  exact canon_ite (canon_descStatus (canon_update hc)) (canon_descStatus hc)

theorem canon_doDescDestroy {id h : Nat} (hc : s.Canonical) : (s.doDescDestroy id h).Canonical := by
  unfold State.doDescDestroy
  grind -ring -linarith -lia -ac -order [canon_descStatus, canon_update]

theorem canon_setChan {n : Nat} {c : Chan} (hc : s.Canonical) : (s.setChan n c).Canonical :=
  canon_setBit _ _ _ _ (canon_setReg _ _ _ (canon_setReg _ _ _ (canon_setFld _ _ _ _ _ (canon_setBit _ _ _ _ (canon_setBit _ _ _ _
    (canon_ite (canon_update hc) (canon_setFld _ _ _ _ _ (canon_update hc))))))))

theorem canon_setSset {n : Nat} {x : StreamSet} (hc : s.Canonical) : (s.setSset n x).Canonical := canon_update hc

theorem canon_setTile {t : Nat} {x : Tile} (hc : s.Canonical) : (s.setTile t x).Canonical := canon_update hc

theorem canon_grant {x0 : Waiter} (hc : s.Canonical) : (s.grant x0).Canonical := by
  unfold State.grant
  grind -ring -linarith -lia -ac -order [canon_setChan, canon_setSset, canon_setTile, canon_update]

theorem canon_serveOne {w : SigWait} (hc : s.Canonical) : (s.serveOne w).Canonical :=
  canon_ite (canon_grant (canon_setReg _ _ _ (canon_update hc))) hc

theorem canon_serve {sig : Nat} (hc : s.Canonical) : (s.serve sig).Canonical := canon_foldl _ _ _ hc (fun _ _ h => canon_serveOne h)

theorem canon_waitOn {w : SigWait} (hc : s.Canonical) : (s.waitOn w).Canonical := canon_ite hc (canon_serve (canon_update hc))

theorem canon_noWait {who : Waiter} (hc : s.Canonical) : (s.noWait who).Canonical := canon_update hc

theorem canon_raiseSig {sig inc : Nat} (hc : s.Canonical) : (s.raiseSig sig inc).Canonical :=
  canon_sigVectors (canon_serve (canon_ite (canon_setReg _ _ _ hc) (canon_ite (canon_setBit _ _ _ _ (canon_setReg _ _ _ hc)) (canon_event _
    _ _ _ _ _ (canon_update (canon_setBit _ _ _ _ (canon_setReg _ _ _ hc)))))))

theorem canon_doSignalRaise {id sig inc : Nat} (hc : s.Canonical) : (s.doSignalRaise id sig inc).Canonical :=
  canon_ite (canon_ite (canon_failHost _ _ (canon_refuseAccess _ _ _ _ _ hc)) (canon_emit _ _ (canon_refuseAccess _ _ _ _ _ hc)))
    (canon_ite hc (canon_raiseSig hc))

theorem canon_readIdx {id : Nat} {b : List Byte} (hc : s.Canonical) : (s.readIdx id b).2.Canonical := by
  refine canon_foldl_pair _ _ (Except.ok [], s) hc fun p k h => ?_
  have hx := canon_elemAt (id := id) (b := b) (c := [(k : Int)]) h
  grind -ring -linarith -lia -ac -order

theorem canon_readPlan {id : Nat} {j : MoveJob} {plan : List (Option Coord × Coord)} (hc : s.Canonical) : (s.readPlan id j plan).2.Canonical := by
  refine canon_foldl_pair _ _ (Except.ok ([], 0), s) hc fun p q h => ?_
  have hx (c : Coord) := canon_elemAt (id := id) (b := j.src) (c := c) h
  grind -ring -linarith -lia -ac -order

theorem canon_moveUnits {id : Nat} {j : MoveJob} (hc : s.Canonical) : (s.moveUnits id j).2.Canonical := by
  unfold State.moveUnits
  grind -ring -linarith -lia -ac -order [canon_countSat, canon_readIdx, canon_readPlan]

theorem canon_doMove {id : Nat} {j : MoveJob} (hc : s.Canonical) : (s.doMove id j).2.Canonical := by
  unfold State.doMove
  grind -ring -linarith -lia -ac -order [canon_storeUnits, canon_moveUnits]

theorem canon_partMove {id : Nat} {j : MoveJob} (hc : s.Canonical) : (s.partMove id j).Canonical := by
  unfold State.partMove
  grind -ring -linarith -lia -ac -order [canon_draw, canon_storeUnits, canon_moveUnits]

theorem canon_setQueue {n : Nat} {q : List Item} (hc : s.Canonical) : (s.setQueue n q).Canonical :=
  canon_setFld _ _ _ _ _ (canon_setSset hc)

theorem canon_startSet {n : Nat} {item : Option Item} (hc : s.Canonical) : (s.startSet n item).Canonical :=
  canon_setBit _ _ _ _ (canon_setSset hc)

theorem canon_armSet {n : Nat} (hc : s.Canonical) : (s.armSet n).Canonical := by
  unfold State.armSet
  grind -ring -linarith -lia -ac -order [canon_waitOn, canon_setQueue, canon_startSet]

theorem canon_promote {n : Nat} (hc : s.Canonical) : (s.promote n).Canonical :=
  canon_armSet (canon_setBit _ _ _ _ (canon_setBit _ _ _ _ (canon_setRegBytes _ _ _ hc)))

theorem canon_setEnd {n code : Nat} {done : Bool} (hc : s.Canonical) : (s.setEnd n code done).Canonical := by
  unfold State.setEnd
  grind -ring -linarith -lia -ac -order [canon_setBit, canon_countWrap, canon_status, canon_dropRefs, canon_setSset, canon_raiseSig,
    canon_setQueue, canon_armSet, canon_promote]

theorem canon_ingress {n row : Nat} {bs : List Byte} (hc : s.Canonical) : (s.ingress n row bs).Canonical :=
  canon_ite hc (canon_ite (canon_startSet hc) (canon_ite (canon_ite (canon_update (canon_setQueue hc)) (canon_setQueue hc)) (canon_ite
    (canon_overrun (canon_update hc)) (canon_update hc))))

theorem canon_runDeferred (hc : s.Canonical) : s.runDeferred.Canonical :=
  canon_foldl _ _ _ (canon_update hc) (fun _ _ h => canon_ite (canon_armSet h) h)

theorem canon_stepTrigger {n : Nat} (hc : s.Canonical) : (s.stepTrigger n).Canonical :=
  canon_ite hc (canon_startSet (canon_setSset (canon_reach hc)))

theorem canon_takeRow {n : Nat} {x : Item} (hc : s.Canonical) : (s.takeRow n x).Canonical := canon_setSset hc

theorem canon_storeItem {n : Nat} {x : Item} (hc : s.Canonical) : (s.storeItem n x).2.Canonical := canon_storeUnits (canon_takeRow hc)

theorem canon_partItem {n : Nat} {x : Item} (hc : s.Canonical) : (s.partItem n x).Canonical :=
  canon_storeUnits (canon_draw (canon_takeRow hc))

theorem canon_setDone {n : Nat} (hc : s.Canonical) : (s.setDone n).Canonical := by
  unfold State.setDone
  grind -ring -linarith -lia -ac -order [canon_doMove, canon_setEnd, canon_storeItem]

theorem canon_setDeadline {n : Nat} (hc : s.Canonical) : (s.setDeadline n).Canonical := by
  unfold State.setDeadline
  grind -ring -linarith -lia -ac -order [canon_countSat, canon_reach, canon_event, canon_setSset, canon_partMove, canon_setEnd,
    canon_partItem, canon_update]

theorem canon_doShadow {n w : Nat} {v : W32} (hc : s.Canonical) : (s.doShadow n w v).Canonical :=
  canon_ite (canon_setBit _ _ _ _ hc) (canon_setReg _ _ _ hc)

theorem canon_doCommit {n : Nat} (hc : s.Canonical) : (s.doCommit n).Canonical := by
  have htaken := canon_status _ (Reg.DML_SS_ST n) DONE (canon_setBit _ (Reg.DML_SS_ST n) 9 true
    (canon_addRefs (hs := ssHandles (s.ssShd n)) hc))
  exact canon_ite (canon_setBit _ _ _ _ hc) (canon_ite (canon_ite htaken (canon_promote htaken)) (canon_status _ _ _ hc))

theorem canon_fetchProg {id a x0 : Nat} (hc : s.Canonical) : (s.fetchProg id a x0).2.Canonical := by
  induction x0 generalizing s a with
  | zero => exact hc
  | succ n ih =>
    have hx := canon_busRead (id := id) (a := a) (n := 32) hc
    change State.Canonical (match s.busRead id a 32 with
      | (.error e, s) => (.error e, s)
      | (.ok x, s) =>
        if inOp x == 6 then (.ok [x], s)
        else
          match s.fetchProg id (a + 32) n with
          | (.ok r, s) => (.ok (x :: r), s)
          | (.error e, s) => (.error e, s) : Except Nat (List (List Byte)) × State).2
    split
    · next heq => rw [heq] at hx; exact hx
    · next x u heq =>
      rw [heq] at hx
      have hrest := ih (a := a + 32) hx
      split
      · exact hx
      · split
        · next heq => rw [heq] at hrest; exact hrest
        · next heq => rw [heq] at hrest; exact hrest

theorem canon_refuseOwner {id n : Nat} (hc : s.Canonical) : (s.refuseOwner id n).Canonical :=
  canon_ite (canon_failHost _ _ (canon_refuseAccess _ _ _ _ _ hc)) (canon_emit _ _ (canon_refuseAccess _ _ _ _ _ hc))

theorem canon_doGoProg {id n : Nat} (hc : s.Canonical) : (s.doGoProg id n).Canonical := by
  unfold State.doGoProg
  grind -ring -linarith -lia -ac -order [canon_status, canon_addRefs, canon_setChan, canon_fetchProg, canon_refuseOwner]

theorem canon_endProg {n code : Nat} (hc : s.Canonical) : (s.endProg n code).Canonical :=
  canon_status _ _ _ (canon_setChan (canon_noWait (canon_dropRefs hc)))

theorem canon_doAbortProg {id n : Nat} (hc : s.Canonical) : (s.doAbortProg id n).Canonical :=
  canon_ite (canon_refuseOwner hc) (canon_ite hc (canon_endProg (canon_foldl _ _ _ hc (fun _ _ h => canon_partMove h))))

theorem canon_opMove {n : Nat} (hc : s.Canonical) : (s.opMove n).Canonical := by
  unfold State.opMove
  grind -ring -linarith -lia -ac -order [canon_setChan]

theorem canon_opLoop {n : Nat} (hc : s.Canonical) : (s.opLoop n).Canonical := by
  unfold State.opLoop
  grind -ring -linarith -lia -ac -order [canon_setChan]

theorem canon_opWait {n : Nat} (hc : s.Canonical) : (s.opWait n).Canonical := by
  unfold State.opWait
  grind -ring -linarith -lia -ac -order [canon_setChan, canon_waitOn]

theorem canon_opSignal {n : Nat} (hc : s.Canonical) : (s.opSignal n).Canonical := by
  unfold State.opSignal
  grind -ring -linarith -lia -ac -order [canon_setChan, canon_raiseSig]

theorem canon_opFence {n : Nat} (hc : s.Canonical) : (s.opFence n).Canonical := by
  unfold State.opFence
  grind -ring -linarith -lia -ac -order [canon_setChan]

theorem canon_opEnd {n : Nat} (hc : s.Canonical) : (s.opEnd n).Canonical := by
  unfold State.opEnd
  grind -ring -linarith -lia -ac -order [canon_endProg]

theorem canon_moveComplete {n k : Nat} (hc : s.Canonical) : (s.moveComplete n k).Canonical := by
  unfold State.moveComplete
  grind -ring -linarith -lia -ac -order [canon_setChan, canon_doMove, canon_endProg]

theorem canon_waitExpire {n : Nat} (hc : s.Canonical) : (s.waitExpire n).Canonical := by
  unfold State.waitExpire
  grind -ring -linarith -lia -ac -order [canon_reach, canon_setChan, canon_noWait, canon_endProg]

theorem canon_dmlStep (hc : s.Canonical) : s.dmlStep.Canonical := canon_update (canon_setBit _ _ _ _ (canon_setBit _ _ _ _ hc))

/-! ### Machine/TileOps.lean -/

theorem canon_armQueue {t : Nat} {q : TileQueue} (hc : s.Canonical) : (s.armQueue t q).Canonical := by
  unfold State.armQueue
  grind -ring -linarith -lia -ac -order [canon_waitOn]

theorem canon_armTile {t : Nat} (hc : s.Canonical) : (s.armTile t).Canonical := canon_armQueue (canon_armQueue hc)

theorem canon_tileEnqueue {t : Nat} {q : TileQueue} {id : Nat} {c : List Byte} (hc : s.Canonical) : (s.tileEnqueue t q id c).2.Canonical :=
  canon_ite_snd (canon_armTile (canon_addRefs (canon_setTile hc))) hc

theorem canon_doDoorbell {t id : Nat} (hc : s.Canonical) : (s.doDoorbell t id).Canonical :=
  canon_ite (canon_status _ _ _ hc) (canon_ite (canon_status _ _ _ hc) (canon_status _ _ _ (canon_tileEnqueue hc)))

theorem canon_tileStart {t : Nat} {q : TileQueue} {c : TileCmd} (hc : s.Canonical) : (s.tileStart t q c).Canonical :=
  canon_armTile (canon_setTile hc)

theorem canon_tileResult {t : Nat} {codes : List Nat} (hc : s.Canonical) : (s.tileResult t codes).Canonical := by
  unfold State.tileResult
  grind -ring -linarith -lia -ac -order [canon_setTile]

theorem canon_cmdEnd {t : Nat} {cmd : TileCmd} {code : Nat} (hc : s.Canonical) : (s.cmdEnd t cmd code).Canonical :=
  canon_ite (canon_emit _ _ (canon_dropRefs (canon_setReg _ _ _ hc))) (canon_raiseSig (canon_emit _ _ (canon_dropRefs (canon_setReg _ _ _
    hc))))

/-! ### Machine/Tac.lean -/

theorem canon_setSeqF {n off w v : Nat} (hc : s.Canonical) : (s.setSeqF n off w v).Canonical := canon_poke _ _ _ _ hc

theorem canon_setSeqFlag {n k : Nat} {v : Bool} (hc : s.Canonical) : (s.setSeqFlag n k v).Canonical := canon_setSeqF hc

theorem canon_setSeqSt {n st : Nat} (hc : s.Canonical) : (s.setSeqSt n st).Canonical := canon_setSeqF hc

theorem canon_takePage {c : Nat} {floor : Bool} (hc : s.Canonical) : (s.takePage c floor).2.Canonical :=
  canon_ite_snd hc (canon_update (canon_draw hc))

theorem canon_takeBlock (hc : s.Canonical) : s.takeBlock.2.Canonical := canon_ite_snd hc (canon_update (canon_draw hc))

theorem canon_flockJudge {f : Nat} (hc : s.Canonical) : (s.flockJudge f).Canonical :=
  canon_ite (canon_event _ _ _ _ _ _ (canon_setFld _ _ _ _ _ hc)) (canon_ite (canon_update (canon_setFld _ _ _ _ _ hc)) hc)

theorem canon_charge {f n : Nat} (hc : s.Canonical) : (s.charge f n).Canonical := canon_setReg _ _ _ hc

theorem canon_uncharge {f n : Nat} (hc : s.Canonical) : (s.uncharge f n).Canonical := canon_flockJudge (canon_setReg _ _ _ hc)

theorem canon_returnRetired {r : Retire} (hc : s.Canonical) : (s.returnRetired r).Canonical :=
  canon_foldl _ _ _ (canon_ite hc (canon_update hc)) (fun _ _ h => canon_uncharge (canon_update h))

theorem canon_sweepRetired (hc : s.Canonical) : s.sweepRetired.Canonical :=
  canon_foldl _ _ _ (canon_update hc) (fun _ _ h => canon_returnRetired h)

theorem canon_retireVersion {n : Nat} {pages : List (Nat × Nat)} (hc : s.Canonical) : (s.retireVersion n pages).Canonical := canon_update hc

theorem canon_recount {n : Nat} (hc : s.Canonical) : (s.recount n).Canonical := canon_setSeqF (canon_setSeqF (canon_setSeqF hc))

theorem canon_heldNew {n : Nat} (hc : s.Canonical) : (s.heldNew n).Canonical := canon_update hc

theorem canon_edit {n : Nat} {new : List Nat} {gone : List (Nat × Nat)} {t : State} (hc : s.Canonical) (e : (s.edit n new gone) = some t) :
    t.Canonical := by
  unfold State.edit at e
  grind -ring -linarith -lia -ac -order [canon_store, canon_setSeqF, canon_takeBlock, canon_sweepRetired, canon_retireVersion,
    canon_recount, canon_heldNew]

theorem canon_activeAdd {d : Int} (hc : s.Canonical) : (s.activeAdd d).Canonical := canon_setReg _ _ _ hc

theorem canon_flockSeqAdd {f : Nat} {d : Int} (hc : s.Canonical) : (s.flockSeqAdd f d).Canonical := canon_setFld _ _ _ _ _ hc

theorem canon_doOpen {n tid f : Nat} (hc : s.Canonical) : (s.doOpen n tid f).2.Canonical :=
  canon_ite_snd (canon_flockSeqAdd (canon_activeAdd (canon_setSeqF (canon_setSeqF (canon_zero _ _ _ hc))))) hc

theorem canon_doFallow {n : Nat} (hc : s.Canonical) : (s.doFallow n).2.Canonical := canon_ite_snd (canon_activeAdd (canon_setSeqSt hc)) hc

theorem canon_doActivate {n : Nat} (hc : s.Canonical) : (s.doActivate n).2.Canonical :=
  canon_ite_snd hc (canon_ite_snd hc (canon_ite (canon_setSeqFlag (canon_setSeqFlag (canon_activeAdd (canon_setSeqSt hc))))
    (canon_activeAdd (canon_setSeqSt hc))))

theorem canon_doClose {n : Nat} (hc : s.Canonical) : (s.doClose n).2.Canonical :=
  canon_ite_snd hc (canon_sweepRetired (canon_update (canon_zero _ _ _ (canon_retireVersion (canon_flockSeqAdd (canon_ite (canon_activeAdd
    hc) hc))))))

theorem canon_doPgt {n op arg : Nat} (hc : s.Canonical) : (s.doPgt n op arg).2.Canonical := by
  unfold State.doPgt
  grind -ring -linarith -lia -ac -order [canon_takePage, canon_charge, canon_edit]

theorem canon_setQuotas {f q lim : Nat} (hc : s.Canonical) : (s.setQuotas f q lim).Canonical := canon_setReg _ _ _ (canon_setReg _ _ _ hc)

theorem canon_doFlockCreate {f q lim : Nat} (hc : s.Canonical) : (s.doFlockCreate f q lim).2.Canonical :=
  canon_ite_snd (canon_rtCount (canon_setFld _ _ _ _ _ (canon_setQuotas hc))) (canon_ite (canon_rtCount hc) (canon_rtRefuse (canon_rtCount
    hc)))

theorem canon_doSetQuota {f q lim : Nat} (hc : s.Canonical) : (s.doSetQuota f q lim).2.Canonical :=
  canon_ite_snd hc (canon_ite_snd (canon_flockJudge (canon_setQuotas hc)) (canon_ite_snd (canon_rtCount hc) (canon_ite_snd
    (canon_flockJudge (canon_rtCount (canon_setQuotas hc))) (canon_rtRefuse (canon_rtCount hc)))))

theorem canon_doDisable {f : Nat} (hc : s.Canonical) : (s.doDisable f).2.Canonical := canon_ite_snd hc (canon_setFld _ _ _ _ _ hc)

theorem canon_tacReg {st busy : Nat} {op : State → Nat × State} (hc : s.Canonical) (hf : (op s).2.Canonical) :
    (s.tacReg st busy op).Canonical :=
  canon_unlessBusy _ _ _ _ hc (canon_status _ _ _ hf)

theorem canon_tacCmd {id off st busy : Nat} {op : State → Nat × State} (hc : s.Canonical) (hf : (op s).2.Canonical) :
    (s.tacCmd id off st busy op).Canonical :=
  canon_ite (canon_hostCmd hc (canon_tacReg hc hf)) (canon_ite hc (canon_ite (canon_emit _ _ (canon_refuseAccess _ _ _ _ _ hc)) (canon_emit
    _ _ hf)))

theorem canon_seqCmd {id : BitVec 10} {op : State → Nat × State} (hc : s.Canonical) (hf : (op s).2.Canonical) :
    (s.seqCmd id op).Canonical :=
  canon_tacCmd hc hf

theorem canon_pgtStatus {n code : Nat} (hc : s.Canonical) : (s.pgtStatus n code).Canonical := canon_setFld _ _ _ _ _ (canon_status _ _ _ hc)

theorem canon_pgtWait {w : PgtWait} (hc : s.Canonical) : (s.pgtWait w).Canonical := canon_update hc

theorem canon_pgtReg {n op arg : Nat} (hc : s.Canonical) : (s.pgtReg n op arg).Canonical := by
  unfold State.pgtReg
  grind -ring -linarith -lia -ac -order [canon_setBit, canon_unlessBusy, canon_doPgt, canon_pgtStatus, canon_pgtWait]

theorem canon_pgtCmd {id n op arg : Nat} (hc : s.Canonical) : (s.pgtCmd id n op arg).Canonical := by
  unfold State.pgtCmd
  grind -ring -linarith -lia -ac -order [canon_emit, canon_refuseAccess, canon_hostCmd, canon_doPgt, canon_pgtWait, canon_pgtReg]

theorem canon_retryPgt (hc : s.Canonical) : s.retryPgt.Canonical := by
  unfold State.retryPgt
  grind -ring -linarith -lia -ac -order [canon_setBit, canon_emit, canon_doPgt, canon_pgtStatus, canon_foldl, canon_update]

theorem canon_flockCmd {id : BitVec 10} {op : State → Nat × State} (hc : s.Canonical) (hf : (op s).2.Canonical) :
    (s.flockCmd id op).Canonical :=
  canon_tacCmd hc hf

theorem canon_recycle {n : Nat} {t : State} (hc : s.Canonical) (e : (s.recycle n) = some t) : t.Canonical := by
  unfold State.recycle at e
  grind -ring -linarith -lia -ac -order [canon_edit]

theorem canon_newPage {n : Nat} {t : State} (hc : s.Canonical) (e : (s.newPage n) = some t) : t.Canonical := by
  unfold State.newPage at e
  grind -ring -linarith -lia -ac -order [canon_takePage, canon_charge, canon_edit]

theorem canon_makeRoom {n : Nat} {t : State} (hc : s.Canonical) (e : (s.makeRoom n) = some t) : t.Canonical := by
  unfold State.makeRoom at e
  split at e
  · exact Option.some.inj e ▸ hc
  · split at e
    · exact canon_recycle hc e
    · split at e
      · next heq => exact Option.some.inj e ▸ canon_newPage hc heq
      · split at e
        · obtain ⟨u, hu, rfl⟩ := Option.map_eq_some_iff.1 e
          exact canon_countSat _ _ _ _ _ (canon_setSeqFlag (canon_recycle hc hu))
        · exact nomatch e

theorem canon_starve {n : Nat} (hc : s.Canonical) : (s.starve n).Canonical := canon_update (canon_countSat _ _ _ _ _ (canon_setSeqFlag hc))

theorem canon_putEntry {n a time sensor : Nat} {late : Bool} (hc : s.Canonical) : (s.putEntry n a time sensor late).Canonical :=
  canon_update (canon_recount (canon_setSeqF (canon_setSeqF (canon_setSeqF (canon_store _ _ _ hc)))))

theorem canon_doAppend {n time sensor : Nat} {late : Bool} (hc : s.Canonical) : (s.doAppend n time sensor late).2.Canonical := by
  unfold State.doAppend
  grind -ring -linarith -lia -ac -order [canon_sweepRetired, canon_makeRoom, canon_starve, canon_putEntry]

theorem canon_entriesValid {n : Nat} (hc : s.Canonical) : (s.entriesValid n).Canonical := by
  unfold State.entriesValid
  grind -ring -linarith -lia -ac -order [canon_poke, canon_recount, canon_foldl, canon_update]

theorem canon_entriesHole {n : Nat} (hc : s.Canonical) : (s.entriesHole n).Canonical := by
  unfold State.entriesHole
  grind -ring -linarith -lia -ac -order [canon_poke, canon_countSat, canon_foldl, canon_update]

theorem canon_reclaimGate (hc : s.Canonical) : s.reclaimGate.Canonical := canon_update hc

theorem canon_reclaimOne {n : Nat} {t : State} (hc : s.Canonical) (e : (s.reclaimOne n) = some t) : t.Canonical := by
  unfold State.reclaimOne at e
  grind -ring -linarith -lia -ac -order [canon_countWrap, canon_setSeqFlag, canon_edit, canon_update]

theorem canon_reclaimLoop {x0 : Nat} (hc : s.Canonical) : (s.reclaimLoop x0).Canonical := by
  induction x0 generalizing s with
  | zero => exact hc
  | succ n ih =>
    have hgate := canon_reclaimGate hc
    unfold State.reclaimLoop
    dsimp only
    split
    · exact hgate
    · split
      · next heq => exact ih (canon_reclaimOne hgate heq)
      · exact hgate

theorem canon_logStuck (hc : s.Canonical) : s.logStuck.Canonical :=
  canon_foldl _ _ _ hc (fun _ _ h => canon_ite (canon_event _ _ _ _ _ _ (canon_update h)) h)

theorem canon_readPage {n : Nat} {p : Nat} (hc : s.Canonical) : (s.readPage n p).Canonical := by
  unfold State.readPage
  grind -ring -linarith -lia -ac -order [canon_countWrap, canon_update]

theorem canon_stageable {n : Nat} {new : List Nat} (hc : s.Canonical) : (s.stageable n new).2.2.Canonical := by
  have hfold (l : List (Nat × Nat)) (f : List Nat × Nat × State → Nat × Nat → List Nat × Nat × State)
      (hf : ∀ r e, r.2.2.Canonical → (f r e).2.2.Canonical) (r : List Nat × Nat × State) (h : r.2.2.Canonical) : (l.foldl f r).2.2.Canonical := by
    induction l generalizing r with
    | nil => exact h
    | cons e l ih => exact ih _ (hf _ _ h)
  refine hfold _ _ (fun r e h => ?_) ([], 0, s) hc
  obtain ⟨l, bad, u⟩ := r
  have hread := canon_checkRead (id := idTac) (a := e.2) (n := 32) (kindX := 0) h
  dsimp only
  split
  · exact h
  · split
    · exact hread
    · split
      · exact canon_countSat _ _ _ _ _ hread
      · exact hread

theorem canon_walkStart {n tile : Nat} {ahead : Bool} (hc : s.Canonical) : (s.walkStart n tile ahead).Canonical := by
  unfold State.walkStart
  grind -ring -linarith -lia -ac -order [canon_setSeqF, canon_readPage, canon_stageable, canon_foldl, canon_update]

theorem canon_tacStep (hc : s.Canonical) : s.tacStep.Canonical :=
  canon_update (canon_setBit _ _ _ _ (canon_setBit _ _ _ _ (canon_setReg _ _ _ (canon_foldl _ _ _ hc (fun _ _ h => canon_setSeqFlag
    (canon_setSeqF h))))))

theorem canon_tacRebuild (hc : s.Canonical) : s.tacRebuild.Canonical :=
  canon_foldl _ _ _ (canon_foldl _ _ _ (canon_setReg _ _ _ (canon_foldl _ _ _ (canon_update hc) (fun _ _ h => canon_setFld _ _ _ _ _
    (canon_setReg _ _ _ h)))) (fun _ _ h => canon_foldl _ _ _ (canon_activeAdd (canon_flockSeqAdd (canon_ite h (canon_update h)))) (fun _ _
    h' => canon_charge (canon_update h')))) (fun _ _ h => canon_flockJudge h)

/-! ### Machine/FoldRec.lean -/

theorem canon_setTrk {n : Nat} {b : List Byte} (hc : s.Canonical) : (s.setTrk n b).Canonical := canon_store _ _ _ hc

theorem canon_freeTrk {n : Nat} (hc : s.Canonical) : (s.freeTrk n).Canonical := canon_zero _ _ _ hc

theorem canon_trkPut {n off w v : Nat} (hc : s.Canonical) : (s.trkPut n off w v).Canonical := canon_setTrk hc

theorem canon_setStateTime {n t : Nat} (hc : s.Canonical) : (s.setStateTime n t).Canonical := canon_update hc

/-! ### Machine/Bse.lean -/

theorem canon_submit {id : Nat} {b : List Byte} (hc : s.Canonical) : (s.submit id b).2.Canonical :=
  canon_ite_snd (canon_ite (canon_waitOn (canon_update hc)) (canon_update hc)) hc

theorem canon_portSubmit {id : Nat} {desc : List Byte} (hc : s.Canonical) : (s.portSubmit id desc).Canonical :=
  canon_ite hc (canon_ite (canon_emit _ _ (canon_refuseAccess _ _ _ _ _ hc)) (canon_ite (canon_submit hc) (canon_emit _ _ (canon_submit
    hc))))

theorem canon_keyframe {k : KeyframeObs} (hc : s.Canonical) : (s.keyframe k).Canonical := by
  unfold State.keyframe
  grind -ring -linarith -lia -ac -order [canon_reach, canon_newKeyframe, canon_portSubmit]

theorem canon_doBatchDoorbell {id : Nat} (hc : s.Canonical) : (s.doBatchDoorbell id).Canonical := by
  unfold State.doBatchDoorbell
  grind -ring -linarith -lia -ac -order [canon_setFld, canon_status, canon_submit]

theorem canon_setProb {q k : Nat} {p : ProbSt} (hc : s.Canonical) : (s.setProb q k p).Canonical := canon_update hc

theorem canon_setLane {l : Nat} {x : Lane} (hc : s.Canonical) : (s.setLane l x).Canonical := canon_update hc

theorem canon_freeLane {q k : Nat} (hc : s.Canonical) : (s.freeLane q k).Canonical := canon_update hc

theorem canon_endProb {x : Batch} {k status : Nat} {result : List Byte} (hc : s.Canonical) : (s.endProb x k status result).Canonical :=
  canon_ite (canon_ite (canon_raiseTrackDoubt (canon_ite (canon_trkPut (canon_freeLane (canon_setProb (canon_busWrite hc))))
    (canon_freeLane (canon_setProb (canon_busWrite hc))))) (canon_ite (canon_trkPut (canon_freeLane (canon_setProb (canon_busWrite hc))))
    (canon_freeLane (canon_setProb (canon_busWrite hc))))) (canon_freeLane (canon_setProb (canon_busWrite hc)))

theorem canon_failProb {x : Batch} {k status : Nat} (hc : s.Canonical) : (s.failProb x k status).Canonical := canon_endProb hc

theorem canon_shiftDone {x : Batch} {slot age sats : Nat} (hc : s.Canonical) : (s.shiftDone x slot age sats).Canonical :=
  canon_ite (canon_ite (canon_raiseTrackDoubt (canon_update (canon_countSat _ _ _ _ _ (canon_update (canon_countSat _ _ _ _ _
    (canon_countSat _ _ _ _ _ hc)))))) (canon_update (canon_countSat _ _ _ _ _ (canon_update (canon_countSat _ _ _ _ _ (canon_countSat _ _
    _ _ _ hc)))))) (canon_update (canon_countSat _ _ _ _ _ (canon_countSat _ _ _ _ _ hc)))

theorem canon_abandon {x : Batch} {k : Nat} {mayShift : Bool} (hc : s.Canonical) : (s.abandon x k mayShift).Canonical :=
  canon_ite (canon_failProb (canon_countSat _ _ _ _ _ hc)) (canon_ite (canon_endProb (canon_shiftDone (canon_setStateTime (canon_setTrk
    (canon_countSat _ _ _ _ _ hc))))) (canon_endProb (canon_shiftDone (canon_busWrite (canon_countSat _ _ _ _ _ hc)))))

theorem canon_problemStart {l : Nat} (hc : s.Canonical) : (s.problemStart l).Canonical := by
  unfold State.problemStart
  grind -ring -linarith -lia -ac -order [canon_checkRead, canon_setProb, canon_setLane, canon_failProb, canon_abandon]

theorem canon_laneFault {l : Nat} (hc : s.Canonical) : (s.laneFault l).Canonical :=
  canon_ite (canon_event _ _ _ _ _ _ (canon_setBit _ _ _ _ (canon_setLane (canon_event _ _ _ _ _ _ (canon_countSat _ _ _ _ _ hc)))))
    (canon_setLane (canon_event _ _ _ _ _ _ (canon_countSat _ _ _ _ _ hc)))

theorem canon_solveProb {x : Batch} {k : Nat} {cut : Option Nat} {retried : Bool} (hc : s.Canonical) : (s.solveProb x k cut retried).Canonical := by
  unfold State.solveProb
  extract_lets h p n sig pa rej l
  split
  next w iters fin _ =>
  refine canon_ite (canon_abandon (canon_countSat _ _ _ _ _ hc)) ?_
  split
  next xs rows _ =>
  extract_lets sats sat part code flags s₁ s₂ s₃ s₄ s₅ hdr
  have h₁ : s₁.Canonical := canon_countSat _ _ _ _ _ hc
  have h₂ : s₂.Canonical := canon_ite (canon_countSat _ _ _ _ _ h₁) h₁
  have h₃ : s₃.Canonical := canon_ite (canon_countSat _ _ _ _ _ h₂) h₂
  have h₄ : s₄.Canonical := canon_ite (canon_countSat _ _ _ _ _ h₃) h₃
  exact canon_endProb (canon_ite (canon_ite (canon_setStateTime (canon_setTrk h₄)) h₄) (canon_ite h₄ (canon_busWrite h₄)))

theorem canon_takeInjection {l : Nat} (hc : s.Canonical) : (s.takeInjection l).Canonical :=
  canon_ite (canon_countSat _ _ _ _ _ (canon_setLane hc)) hc

theorem canon_problemDone {l : Nat} {r : ProblemOutcome} (hc : s.Canonical) : (s.problemDone l r).Canonical := by
  unfold State.problemDone
  grind -ring -linarith -lia -ac -order [canon_failProb, canon_abandon, canon_laneFault, canon_solveProb, canon_takeInjection]

theorem canon_batchCutoff {tag : Nat} (hc : s.Canonical) : (s.batchCutoff tag).Canonical := by
  unfold State.batchCutoff
  grind -ring -linarith -lia -ac -order [canon_draw, canon_reach, canon_failProb, canon_abandon, canon_foldl, canon_update]

theorem canon_batchDone {tag : Nat} (hc : s.Canonical) : (s.batchDone tag).Canonical := by
  unfold State.batchDone
  grind -ring -linarith -lia -ac -order [canon_setReg, canon_emit, canon_raiseSig, canon_update]

theorem canon_doBseInject {w : W32} (hc : s.Canonical) : (s.doBseInject w).Canonical := canon_ite (canon_setLane hc) hc

theorem canon_bseStep (hc : s.Canonical) : s.bseStep.Canonical := canon_update (canon_setBit _ _ _ _ (canon_setBit _ _ _ _ hc))

/-! ### Machine/Fold.lean -/

theorem canon_fldCmd {op : State → Nat × State} (hc : s.Canonical) (hf : (op s).2.Canonical) : (s.fldCmd op).2.Canonical :=
  canon_ite_snd hf (canon_refuseAccess _ _ _ _ _ hc)

theorem canon_setLstate {n st : Nat} (hc : s.Canonical) : (s.setLstate n st).Canonical := canon_update (canon_trkPut hc)

theorem canon_retire {n : Nat} {pub : Bool} (hc : s.Canonical) : (s.retire n pub).Canonical := canon_setTrk (canon_setLstate hc)

theorem canon_toFallow {n : Nat} (hc : s.Canonical) : (s.toFallow n).Canonical := canon_setLstate (canon_fldCmd hc (canon_doFallow hc))

theorem canon_timeTrans {n : Nat} (hc : s.Canonical) : (s.timeTrans n).Canonical := by
  unfold State.timeTrans
  dsimp only
  split
  · exact canon_ite (canon_setLstate hc) (canon_ite (canon_retire hc) hc)
  · exact canon_ite (canon_retire hc) (canon_ite (canon_toFallow hc) (canon_ite (canon_setLstate hc) hc))
  · exact canon_ite (canon_retire hc) (canon_ite (canon_toFallow hc) hc)
  · exact canon_ite (canon_retire hc) hc
  · exact hc

theorem canon_handEvent {gid : Nat} (hc : s.Canonical) : (s.handEvent gid).Canonical :=
  canon_ite hc (canon_event _ _ _ _ _ _ (canon_update hc))

theorem canon_abortHand {n : Nat} (hc : s.Canonical) : (s.abortHand n).Canonical := by
  unfold State.abortHand
  grind -ring -linarith -lia -ac -order [canon_countSat, canon_sendDev, canon_setTrk, canon_handEvent, canon_update]

theorem canon_killNow {n : Nat} (hc : s.Canonical) : (s.killNow n).2.Canonical :=
  canon_ite_snd (canon_abortHand hc) (canon_ite_snd (canon_abortHand hc) (canon_retire (canon_abortHand hc)))

/-- FLD_CP's words, whole or not, read zero after reset. -/
theorem resetOf_inFldCp {off : Nat} (hlo : Reg.FLD_CP 0 ≤ off) (hhi : off < Reg.FLD_CP 32768) : resetOf off = 0 := by
  have hrows : ∀ d ∈ regDefsFLD, 0 < d.stride ∧ (d.base + d.n * d.stride ≤ 0x910000 ∨ d.reset = 0) := by decide
  have hblock : off / 0x100000 = 9 := by
    unfold Reg.FLD_CP at hlo hhi
    omega
  unfold resetOf regDef?
  rw [hblock]
  split
  · next d hd =>
    obtain ⟨hstride, hbefore | hzero⟩ := hrows d (List.mem_of_find?_eq_some hd)
    · have hcovers := List.find?_some hd
      simp only [RegDef.covers, Bool.and_eq_true, decide_eq_true_eq] at hcovers
      obtain ⟨⟨⟨hbase, hrow⟩, -⟩, -⟩ := hcovers
      have hend := (Nat.div_lt_iff_lt_mul hstride).1 hrow
      unfold Reg.FLD_CP at hlo
      omega
    · exact hzero
  · rfl

/-- A change that raises no counter lists no register at its reset value. -/
theorem cpEntry_ne_reset {f : Nat → Nat → Nat → Nat} (hf : ∀ i j v, f i j v ≤ v) {p q : Nat × W32} (hp : p.2 ≠ resetOf p.1)
    (h : cpEntry f p = some q) : q.2 ≠ resetOf q.1 := by
  unfold cpEntry at h
  split at h
  · next hin =>
    simp only [Bool.and_eq_true, decide_eq_true_eq] at hin
    dsimp only at h
    split at h
    · exact nomatch h
    · next hne =>
      obtain rfl := Option.some.inj h
      rw [resetOf_inFldCp hin.1 hin.2]
      intro hzero
      have hword := congrArg BitVec.toNat hzero
      have hlow (w : W32) (lo : Nat) : fieldOf w lo 16 < 65536 := Nat.mod_lt _ (by decide)
      have hlt : cpWord f ((p.1 - Reg.FLD_CP 0) / 2) p.2 < 2 ^ 32 := by
        unfold cpWord
        generalize (p.1 - Reg.FLD_CP 0) / 2 = k
        have h0 := hf (k / 256) (k % 256) (fieldOf p.2 0 16)
        have h1 := hf ((k + 1) / 256) ((k + 1) % 256) (fieldOf p.2 16 16)
        have l0 := hlow p.2 0
        have l1 := hlow p.2 16
        omega
      rw [BitVec.toNat_ofNat, Nat.mod_eq_of_lt hlt] at hword
      simp [hword] at hne
  · obtain rfl := Option.some.inj h
    exact hp

theorem SMap.sorted_filterMap {β : Type} {F : Nat × β → Option (Nat × β)} (hF : ∀ p q, F p = some q → q.1 = p.1) {m : SMap β}
    (hm : SMap.sorted m = true) : SMap.sorted (m.filterMap F) = true := by
  rw [SMap.sorted_iff] at hm ⊢
  refine List.pairwise_filterMap.2 (hm.imp fun {p q} hpq a ha b hb => ?_)
  rw [hF p a ha, hF q b hb]
  exact hpq

theorem canon_mapCp {f : Nat → Nat → Nat → Nat} (hc : s.Canonical) (hf : ∀ i j v, f i j v ≤ v) : (s.mapCp f).Canonical := by
  obtain ⟨hmem, hregs⟩ := hc
  refine ⟨hmem, ?_⟩
  simp only [RegFile.wf, SMap.wf, Bool.and_eq_true, List.all_eq_true, decide_eq_true_eq] at hregs ⊢
  obtain ⟨hsorted, hlisted⟩ := hregs
  rw [mapCp_regs]
  refine ⟨SMap.sorted_filterMap (cpEntry_key f) hsorted, fun q hq => ?_⟩
  obtain ⟨p, hp, hpq⟩ := List.mem_filterMap.1 hq
  exact cpEntry_ne_reset hf (hlisted p hp) hpq

theorem canon_trackCmds (hc : s.Canonical) : s.trackCmds.Canonical := by
  unfold State.trackCmds
  refine canon_foldl _ _ _ ⟨hc.1, hc.2⟩ fun s c h => canon_setBit _ _ _ _ (canon_status _ _ _ ?_)
  cases c with
  | kill n => exact canon_killNow h
  | clear x =>
    refine canon_mapCp h fun i j v => ?_
    split
    · exact Nat.zero_le v
    · exact le_rfl

theorem canon_takeNotices (hc : s.Canonical) : s.takeNotices.Canonical :=
  canon_foldl _ _ _ (canon_update hc) (fun _ _ h => canon_ite (canon_retire h) h)

theorem canon_freeRetired (hc : s.Canonical) : s.freeRetired.Canonical :=
  canon_foldl _ _ _ hc (fun _ _ h => canon_update (canon_freeTrk (canon_fldCmd h (canon_doClose h))))

theorem canon_doTrackCmd {w : W32} (hc : s.Canonical) : (s.doTrackCmd w).Canonical := by
  unfold State.doTrackCmd
  grind -ring -linarith -lia -ac -order [canon_setBit, canon_status, canon_unlessBusy, canon_update]

theorem canon_trackTimeout {n st : Nat} {deadline : State → List Byte → Nat} (hc : s.Canonical) :
    (s.trackTimeout n st deadline).Canonical :=
  canon_ite (canon_timeTrans (canon_reach hc)) hc

theorem canon_contraDecay (hc : s.Canonical) : s.contraDecay.Canonical := by
  unfold State.contraDecay
  exact canon_ite (canon_update (canon_mapCp hc fun _ _ v => Nat.sub_le v 1)) hc

theorem canon_kvAppend {n time sensor : Nat} {late : Bool} (hc : s.Canonical) : (s.kvAppend n time sensor late).Canonical :=
  canon_ite hc (canon_emit _ _ (canon_ite (canon_setTrk (canon_doAppend (canon_ite (canon_countSat _ _ _ _ _ hc) hc))) (canon_doAppend
    (canon_ite (canon_countSat _ _ _ _ _ hc) hc))))

theorem canon_copyTruncated (hc : s.Canonical) : s.copyTruncated.Canonical :=
  canon_foldl _ _ _ hc (fun _ _ h => canon_ite h (canon_setTrk h))

theorem canon_noteLate {x : Det} (hc : s.Canonical) : (s.noteLate x).Canonical := canon_update hc

theorem canon_lateDrop {x : Det} (hc : s.Canonical) : (s.lateDrop x).Canonical :=
  canon_ite (canon_countSat _ _ _ _ _ hc) (canon_event _ _ _ _ _ _ (canon_update (canon_countSat _ _ _ _ _ hc)))

theorem canon_stepDet {c : Prop} [Decidable c] (x : Det) (hc : s.Canonical) :
    (if c then (s.noteLate x).lateDrop x
      else { s.noteLate x with fld := { (s.noteLate x).fld with step := (s.noteLate x).fld.step ++ [x] } }).Canonical := by
  have hnote := canon_noteLate (x := x) hc
  exact canon_ite (canon_lateDrop hnote) (canon_update hnote)

theorem canon_takeDets (hc : s.Canonical) : s.takeDets.Canonical := by
  unfold State.takeDets
  exact canon_foldl _ _ _ (canon_update (canon_countSat _ _ _ _ _ hc)) fun _ x h => canon_stepDet x h

theorem canon_takeHeld (hc : s.Canonical) : s.takeHeld.Canonical := by
  unfold State.takeHeld
  exact canon_foldl _ _ _ (canon_update hc) fun _ p h => canon_stepDet p.2 h

theorem canon_credStep (hc : s.Canonical) : s.credStep.Canonical :=
  canon_foldl _ _ _ (canon_update hc) (fun _ _ h => canon_ite (canon_exclude (canon_update h)) (canon_update h))

theorem canon_freshFlags (hc : s.Canonical) : s.freshFlags.Canonical := canon_foldl _ _ _ hc (fun _ _ h => canon_ite h (canon_setTrk h))

theorem canon_fldCutoff (hc : s.Canonical) : s.fldCutoff.Canonical :=
  canon_ite hc (canon_ite (canon_update (canon_takeDets hc)) (canon_update (canon_credStep (canon_takeHeld (canon_takeDets
    (canon_freshFlags (canon_foldl _ _ _ (canon_takeNotices (canon_trackCmds hc)) (fun _ _ h => canon_timeTrans h))))))))

theorem canon_markCells {n a b : Nat} (hc : s.Canonical) : (s.markCells n a b).Canonical := canon_update hc

theorem canon_contradict {n : Nat} {d : List Byte} (hc : s.Canonical) : (s.contradict n d).Canonical :=
  canon_ite hc (canon_markCells (canon_ite (canon_update (canon_ite hc (canon_countSat _ _ _ _ _ (canon_setTrk hc)))) (canon_update
    (canon_countSat _ _ _ _ _ (canon_update (canon_ite hc (canon_countSat _ _ _ _ _ (canon_setTrk hc))))))))

theorem canon_contraExclude (hc : s.Canonical) : s.contraExclude.Canonical := canon_foldl _ _ _ hc (fun _ _ h => canon_exclude h)

theorem canon_applyDet {n : Nat} {x : Det} (hc : s.Canonical) : (s.applyDet n x).Canonical := by
  unfold State.applyDet
  exact canon_contradict (canon_update (canon_ite (canon_countWrap (canon_setTrk hc)) (canon_setTrk hc)))

theorem canon_setPrice {n : Nat} {v : Int} (hc : s.Canonical) : (s.setPrice n v).Canonical := canon_store _ _ _ hc

theorem canon_comp {a : Assoc'} (ids : List Nat) (g : List GPair) (hc : a.s.Canonical) : (a.comp ids g).s.Canonical := by
  unfold Assoc'.comp
  extract_lets s slots warm r s₁ s₂
  have h₂ : s₂.Canonical := canon_foldl _ _ _ (canon_countSat _ _ _ _ _ hc) fun _ _ h => canon_setPrice h
  exact canon_ite (canon_countSat _ _ _ _ _ h₂) h₂

theorem canon_batch {a : Assoc'} (live : List Nat) (b : List (Nat × Det)) (hc : a.s.Canonical) : (a.batch live b).s.Canonical := by
  have hcomps (ids : List Nat) (l : List (List GPair)) (a : Assoc') (h : a.s.Canonical) : (l.foldl (fun a g => a.comp ids g) a).s.Canonical := by
    induction l generalizing a with
    | nil => exact h
    | cons g l ih => exact ih _ (canon_comp ids g h)
  exact hcomps _ _ _ (canon_countSat _ _ _ _ _ hc)

theorem canon_associate {phases : Nat} (hc : s.Canonical) : (s.associate phases).Canonical := by
  have hbatches (live : List Nat) (l : List (List (Nat × Det))) (a : Assoc') (h : a.s.Canonical) :
      (l.foldl (fun a b => a.batch live b) a).s.Canonical := by
    induction l generalizing a with
    | nil => exact h
    | cons b l ih => exact ih _ (canon_batch live b h)
  have hslots (live : List Nat) (f : Nat → List (List (Nat × Det))) (l : List Nat) (a : Assoc') (h : a.s.Canonical) :
      (l.foldl (fun a n => (f n).foldl (fun a b => a.batch live b) a) a).s.Canonical := by
    induction l generalizing a with
    | nil => exact h
    | cons n l ih => exact ih _ (hbatches live _ _ h)
  unfold State.associate
  extract_lets ds slots live a s₁ s₂ s₃
  have h₁ : s₁.Canonical := canon_setReg _ _ _ (canon_setReg _ _ _ (hslots live _ _ _ hc))
  have h₃ : s₃.Canonical := canon_foldl _ _ _ (canon_setBit _ _ _ _ h₁) fun _ _ h => canon_applyDet h
  exact canon_update h₃

theorem canon_reidentify (hc : s.Canonical) : s.reidentify.Canonical := by
  unfold State.reidentify
  grind -ring -linarith -lia -ac -order [canon_doActivate, canon_setTrk, canon_fldCmd, canon_setLstate, canon_applyDet, canon_foldl,
    canon_update]

theorem canon_takeHead (hc : s.Canonical) : s.takeHead.Canonical := canon_ite (canon_update hc) (canon_update hc)

theorem canon_openTrack {flock : Nat} (hc : s.Canonical) : (s.openTrack flock).2.Canonical := by
  unfold State.openTrack
  grind -ring -linarith -lia -ac -order [canon_doOpen, canon_fldCmd, canon_takeHead, canon_update]

theorem canon_newTrack {n flock : Nat} {x : Det} (hc : s.Canonical) : (s.newTrack n flock x).Canonical :=
  canon_applyDet (canon_update (canon_setTrk (canon_draw hc)))

theorem canon_births {l : List (Nat × Det)} (hc : s.Canonical) : (s.births l).Canonical := by
  unfold State.births
  refine canon_foldl_pair _ _ (0, s) hc fun r p h => ?_
  have hopen := canon_openTrack (flock := recFlock (r.2.slot (dtSlot p.2.bytes)).record) h
  dsimp only
  split
  · exact h
  · split
    · next heq =>
      rw [heq] at hopen
      exact canon_update (canon_countWrap (canon_newTrack hopen))
    · next heq =>
      rw [heq] at hopen
      exact canon_setBit _ _ _ _ (canon_countSat _ _ _ _ _ hopen)

theorem canon_stepBirths (hc : s.Canonical) : s.stepBirths.Canonical := canon_births (canon_update hc)

theorem canon_sendClaims (hc : s.Canonical) : s.sendClaims.Canonical := by
  unfold State.sendClaims
  grind -ring -linarith -lia -ac -order [canon_sendDev, canon_foldl]

theorem canon_foldBatches {p : FoldPlan} {recs : List (List Byte)} {deadline step : Nat} (hc : s.Canonical) :
    (s.foldBatches p recs deadline step).Canonical :=
  canon_foldl _ _ _ hc (fun _ _ h => canon_portSubmit (canon_busWrite h))

theorem canon_issueUpdates {deadline : Nat} (hc : s.Canonical) : (s.issueUpdates deadline).Canonical := canon_foldBatches hc

theorem canon_issuePredictions (hc : s.Canonical) : s.issuePredictions.Canonical := canon_foldBatches hc

theorem canon_issueAppends (hc : s.Canonical) : s.issueAppends.Canonical :=
  canon_foldl _ _ _ hc (fun _ _ h => canon_foldl _ _ _ h (fun _ _ h' => canon_kvAppend h'))

theorem canon_countAppendDrop (hc : s.Canonical) : s.countAppendDrop.Canonical := canon_countSat _ _ _ _ _ hc

theorem canon_assocClose {phases : Nat} (hc : s.Canonical) : (s.assocClose phases).Canonical :=
  canon_ite hc (canon_setBit _ _ _ _ (canon_setBit _ _ _ _ (canon_ite (canon_countAppendDrop (canon_contraExclude (canon_stepBirths
    (canon_reidentify (canon_sendClaims (canon_associate (canon_setReg _ _ _ hc))))))) (canon_setReg _ _ _ hc))))

theorem canon_decodeDone {n : Nat} {row : List Byte} (hc : s.Canonical) : (s.decodeDone n row).Canonical := canon_ite hc (canon_setTrk hc)

theorem canon_decodeMissed {n : Nat} (hc : s.Canonical) : (s.decodeMissed n).Canonical :=
  canon_ite hc (canon_ite (canon_raiseTrackDoubt (canon_countSat _ _ _ _ _ (canon_setTrk hc))) (canon_countSat _ _ _ _ _ (canon_setTrk
    hc)))

theorem canon_filterLists (hc : s.Canonical) : s.filterLists.Canonical :=
  canon_update (canon_setReg _ _ _ (canon_foldl _ _ _ hc (fun _ _ h => canon_ite h (canon_setTrk h))))

theorem canon_foldResume (hc : s.Canonical) : s.foldResume.Canonical := by
  unfold State.foldResume
  refine canon_update (canon_foldl _ _ _ hc fun s n h => canon_ite h (canon_freeTrk ?_))
  have hcount := canon_event _ 0x09 2 0x0901 0 (leBytes 4 (tkId (s.trk n))) (canon_countSat _ Reg.FLD_CRC_FAIL 0 32 1 h)
  exact canon_fldCmd hcount (canon_doClose hcount)

/-! ### Machine/TileMath.lean -/

theorem canon_readElems {id : Nat} {b : List Byte} {x0 : List Coord} (hc : s.Canonical) : (s.readElems id b x0).2.Canonical := by
  induction x0 generalizing s with
  | nil => exact hc
  | cons c r ih =>
    have hx := canon_readElem (id := id) (b := b) (c := c) hc
    unfold State.readElems
    grind -ring -linarith -lia -ac -order

theorem canon_storeElems {id : Nat} {b : List Byte} {xs : List (Coord × Nat)} (hc : s.Canonical) : (s.storeElems id b xs).2.Canonical :=
  canon_storeUnits hc

theorem canon_readGrid {id : Nat} {b : List Byte} {x0 : Grid Coord} (hc : s.Canonical) : (s.readGrid id b x0).2.Canonical := by
  induction x0 generalizing s with
  | nil => exact hc
  | cons r rs ih =>
    have hx := canon_readElems (id := id) (b := b) (x0 := r) hc
    unfold State.readGrid
    grind -ring -linarith -lia -ac -order

theorem canon_readGroups {id : Nat} {b : List Byte} {x0 : List (Grid Coord)} (hc : s.Canonical) : (s.readGroups id b x0).2.Canonical := by
  induction x0 generalizing s with
  | nil => exact hc
  | cons r rs ih =>
    have hx := canon_readGrid (id := id) (b := b) (x0 := r) hc
    unfold State.readGroups
    grind -ring -linarith -lia -ac -order

theorem canon_blockIn {t : Nat} {c : List Byte} {sh : Shape} {k : Block} (hc : s.Canonical) : (s.blockIn t c sh k).2.Canonical := by
  unfold State.blockIn
  extract_lets ms ns ls gs
  have ha := canon_readGroups (id := t) (b := s.descB (tcA c)) (x0 := gs.map (fun g => ms.map (fun m => ls.map (sh.aAt g m)))) hc
  split
  · next heq => rw [heq] at ha; exact ha
  · next a u heq =>
    rw [heq] at ha
    have hb := canon_readGrid (id := t) (b := u.descB (tcB c)) (x0 := ns.map (fun n => ls.map (sh.bAt n))) ha
    split
    · next heq => rw [heq] at hb; exact hb
    · next b u heq =>
      rw [heq] at hb
      extract_lets db
      have hbias := canon_ite_snd (c := tcFlag c 4 = true) (q := (.ok [], u))
        (canon_readElems (id := t) (b := db) (x0 := ns.map (fun n => coord2 db n 0)) hb) hb
      split
      · next heq => rw [heq] at hbias; exact hbias
      · next bias u heq =>
        rw [heq] at hbias
        have hold := canon_ite_snd (c := tcFlag c 2 = true) (q := (.ok [], u))
          (canon_readGrid (id := t) (b := u.descB (tcC c)) (x0 := ms.map (fun m => ns.map (sh.cAt m))) hbias) hbias
        split
        · next heq => rw [heq] at hold; exact hold
        · next heq => rw [heq] at hold; exact hold

theorem canon_matBlock {t : Nat} {c : List Byte} {sh : Shape} {f : TileFault} {j : Nat} {k : Block} (hc : s.Canonical) :
    (s.matBlock t c sh f j k).2.Canonical := by
  unfold State.matBlock
  grind -ring -linarith -lia -ac -order [canon_storeElems, canon_blockIn]

theorem canon_countSats {t n : Nat} (hc : s.Canonical) : (s.countSats t n).2.Canonical := canon_ite_snd hc (canon_countSat _ _ _ _ _ hc)

theorem canon_tileRetry {t : Nat} (hc : s.Canonical) : (s.tileRetry t).Canonical :=
  canon_ite (canon_countSat _ _ _ _ _ hc) (canon_event _ _ _ _ _ _ (canon_setTile (canon_countSat _ _ _ _ _ hc)))

theorem canon_noteFix {t : Nat} {x0 : Fix} (hc : s.Canonical) : (s.noteFix t x0).Canonical := by
  unfold State.noteFix
  grind -ring -linarith -lia -ac -order [canon_countSat, canon_tileRetry]

theorem canon_eachBlock {t : Nat} {work : Nat → State → BlockEnd × State} {l : List Nat} (hc : s.Canonical) (hf : ∀ j s, s.Canonical → (work j s).2.Canonical) : (State.eachBlock t work l s).2.Canonical := by
  induction l generalizing s with
  | nil => exact hc
  | cons j r ih =>
    have hwork := hf j s hc
    have hcount := canon_countSats (t := t) (n := (work j s).1.sats) (canon_noteFix (t := t) (x0 := (work j s).1.fix) hwork)
    unfold State.eachBlock
    dsimp only
    split
    · exact hwork
    · split
      · exact hcount
      · exact ih hcount

theorem canon_matWork {t : Nat} {c : List Byte} {sh : Shape} {f : TileFault} {lim : Option Nat} (hc : s.Canonical) :
    (s.matWork t c sh f lim).2.Canonical :=
  canon_eachBlock hc (fun _ _ h => canon_matBlock h)

theorem canon_operand {t h : Nat} (hc : s.Canonical) : (s.operand t h).2.Canonical := canon_ite_snd hc (canon_readElems hc)

theorem canon_vecBlock {t : Nat} {c : List Byte} {p : List VecOp × List VecOp} {f : TileFault} {a b : List Nat} {j : Nat} {v : VecState} {k
    : Nat} (hc : s.Canonical) : (s.vecBlock t c p f a b j v k).2.2.Canonical := by
  unfold State.vecBlock
  grind -ring -linarith -lia -ac -order [canon_storeElems]

theorem canon_vecBlocks {t : Nat} {c : List Byte} {p : List VecOp × List VecOp} {f : TileFault} {a b l : List Nat} {v : VecState} {k : Nat} (hc : s.Canonical) : (State.vecBlocks t c p f a b l v k s).2.Canonical := by
  induction l generalizing s v k with
  | nil => exact hc
  | cons j r ih =>
    have hwork := canon_vecBlock (t := t) (c := c) (p := p) (f := f) (a := a) (b := b) (j := j) (v := v) (k := k) hc
    have hcount := fun l => canon_countSats (t := t) (n := l) (canon_noteFix (t := t) (x0 := (s.vecBlock t c p f a b j v k).1.fix) hwork)
    unfold State.vecBlocks
    dsimp only
    split
    · exact hwork
    · split
      · exact hcount _
      · exact ih (hcount _)

theorem canon_vecWork {t : Nat} {c : List Byte} {f : TileFault} {lim : Option Nat} (hc : s.Canonical) : (s.vecWork t c f lim).2.Canonical := by
  unfold State.vecWork
  grind -ring -linarith -lia -ac -order [canon_operand, canon_vecBlocks]

theorem canon_cmdWork {t : Nat} {c : List Byte} {f : TileFault} {lim : Option Nat} (hc : s.Canonical) : (s.cmdWork t c f lim).2.Canonical :=
  canon_ite_snd (canon_matWork hc) (canon_ite_snd (canon_matWork hc) (canon_vecWork hc))

theorem canon_kernelWork {t : Nat} {f : TileFault} {l : List (List Byte × Nat)} {lim : Option Nat} (hc : s.Canonical) : (State.kernelWork t f l lim s).2.Canonical := by
  induction l generalizing s lim with
  | nil => exact hc
  | cons p r ih =>
    have hwork := canon_cmdWork (t := t) (c := p.1) (f := faultInList f p.2) (lim := lim) hc
    unfold State.kernelWork
    exact canon_ite_snd hwork (ih hwork)

theorem canon_copyKv {t src dst stage n : Nat} (hc : s.Canonical) : (s.copyKv t src dst stage n).2.Canonical := by
  unfold State.copyKv
  grind -ring -linarith -lia -ac -order [canon_busRead, canon_busWrite]

theorem canon_attAppend {t row : Nat} {c rec : List Byte} (hc : s.Canonical) : (s.attAppend t row c rec).2.Canonical := by
  unfold State.attAppend
  exact canon_ite_snd hc (canon_foldl_pair _ _ (DONE, s) hc fun _ _ h => canon_ite_snd h (canon_copyKv h))

theorem canon_attRow {t row : Nat} {c : List Byte} (hc : s.Canonical) : (s.attRow t row c).2.Canonical := by
  unfold State.attRow
  extract_lets sz da dc
  have hrec := canon_busRead (id := t) (a := byteAddr (s.descB (atWalk c)) [0, (row : Int)]) (n := 256) hc
  split
  · next heq => rw [heq] at hrec; exact hrec
  · next rec u heq =>
    rw [heq] at hrec
    have happ := canon_attAppend (t := t) (row := row) (c := c) (rec := rec) hrec
    generalize u.attAppend t row c rec = app at happ ⊢
    dsimp only
    split
    · exact happ
    · generalize hslices : List.foldl _ (([] : List (Except Nat (List Byte))), app.2) _ = slices
      have hsl : slices.2.Canonical := hslices ▸ canon_foldl_pair _ _ _ happ fun r k h => by
        have hread (a : Nat) := canon_busRead (id := t) (a := a) (n := sz) h
        split
        · next heq => exact (congrArg (·.2.Canonical) heq).mp (hread _)
        · next heq => exact (congrArg (·.2.Canonical) heq).mp (hread _)
      split
      · exact hsl
      · have hq := canon_readElems (id := t) (b := da) (x0 := (List.range (tcK c)).map (fun k => coord2 da k row)) hsl
        split
        · next heq => rw [heq] at hq; exact hq
        · next heq => rw [heq] at hq; exact canon_storeElems hq

theorem canon_attBlock {t : Nat} {c : List Byte} {f : TileFault} {j : Nat} (hc : s.Canonical) : (s.attBlock t c f j).2.Canonical :=
  canon_ite_snd hc (canon_attRow hc)

theorem canon_attWork {t : Nat} {c : List Byte} {f : TileFault} {lim : Option Nat} (hc : s.Canonical) : (s.attWork t c f lim).2.Canonical :=
  canon_eachBlock hc (fun _ _ h => canon_attBlock h)

/-! ### Machine/Tile.lean -/

theorem canon_setCond {b : Nat} {v : Bool} (hc : s.Canonical) : (s.setCond b v).Canonical :=
  canon_ite (canon_setBit _ _ _ _ (canon_setBit _ _ _ _ hc)) (canon_setBit _ _ _ _ hc)

theorem canon_decodeLost {n : Nat} (hc : s.Canonical) : (s.decodeLost n).Canonical :=
  canon_decodeMissed (canon_entriesHole (canon_update hc))

theorem canon_attendEnd {t : Nat} {cmd : TileCmd} {code : Nat} (hc : s.Canonical) : (s.attendEnd t cmd code).Canonical := by
  unfold State.attendEnd
  grind -ring -linarith -lia -ac -order [canon_entriesValid, canon_decodeDone, canon_decodeLost, canon_update]

theorem canon_cmdComplete {t : Nat} {cmd : TileCmd} {code : Nat} (hc : s.Canonical) : (s.cmdComplete t cmd code).Canonical :=
  canon_attendEnd (canon_cmdEnd hc)

theorem canon_tileFinish {t code : Nat} (hc : s.Canonical) : (s.tileFinish t code).Canonical := by
  unfold State.tileFinish
  grind -ring -linarith -lia -ac -order [canon_setTile, canon_armTile, canon_cmdComplete]

theorem canon_tileComplete {t : Nat} (hc : s.Canonical) : (s.tileComplete t).Canonical := by
  unfold State.tileComplete
  grind -ring -linarith -lia -ac -order [canon_tileFinish]

theorem canon_setDeadBit {t : Nat} {v : Bool} (hc : s.Canonical) : (s.setDeadBit t v).Canonical :=
  canon_ite (canon_setBit _ _ _ _ hc) (canon_setBit _ _ _ _ hc)

theorem canon_noSpareLeft (hc : s.Canonical) : s.noSpareLeft.Canonical := canon_event _ _ _ _ _ _ (canon_setBit _ _ _ _ (canon_update hc))

theorem canon_startSwap {dead : Nat} (hc : s.Canonical) : (s.startSwap dead).Canonical := by
  unfold State.startSwap
  grind -ring -linarith -lia -ac -order [canon_setFld, canon_setBit, canon_setPower, canon_setTile, canon_noSpareLeft, canon_update]

theorem canon_nextSwap (hc : s.Canonical) : s.nextSwap.Canonical := by
  unfold State.nextSwap
  grind -ring -linarith -lia -ac -order [canon_startSwap, canon_update]

theorem canon_raiseSwap {k : Nat} (hc : s.Canonical) : (s.raiseSwap k).Canonical := canon_setCond (canon_update hc)

theorem canon_tileDeath {t cause : Nat} (hc : s.Canonical) : (s.tileDeath t cause).Canonical := by
  unfold State.tileDeath
  grind -ring -linarith -lia -ac -order [canon_setPower, canon_event, canon_setRevoked, canon_setTile, canon_noWait, canon_cmdComplete,
    canon_setDeadBit, canon_nextSwap, canon_raiseSwap, canon_foldl, canon_update]

theorem canon_spareWake (hc : s.Canonical) : s.spareWake.Canonical := by
  unfold State.spareWake
  grind -ring -linarith -lia -ac -order [canon_setTile, canon_update]

theorem canon_grantRules {dead spare : Nat} (hc : s.Canonical) : (s.grantRules dead spare).Canonical := canon_update hc

theorem canon_spareBist {passed : Bool} (hc : s.Canonical) : (s.spareBist passed).Canonical := by
  unfold State.spareBist
  grind -ring -linarith -lia -ac -order [canon_setBit, canon_startSwap, canon_tileDeath, canon_grantRules, canon_update]

theorem canon_reloadTile {t : Nat} (hc : s.Canonical) : (s.reloadTile t).Canonical :=
  canon_foldl _ _ _ hc (fun _ _ h => canon_store _ _ _ h)

theorem canon_spareLoad (hc : s.Canonical) : s.spareLoad.Canonical := by
  unfold State.spareLoad
  grind -ring -linarith -lia -ac -order [canon_store, canon_setTile, canon_foldl, canon_update]

theorem canon_swapComplete (hc : s.Canonical) : s.swapComplete.Canonical :=
  canon_nextSwap (canon_ite (canon_setCond (canon_event _ _ _ _ _ _ (canon_setBit _ _ _ _ (canon_update hc)))) (canon_update (canon_event _
    _ _ _ _ _ (canon_setBit _ _ _ _ (canon_update hc)))))

theorem canon_tcaStep (hc : s.Canonical) : s.tcaStep.Canonical := by
  unfold State.tcaStep
  grind -ring -linarith -lia -ac -order [canon_setFld, canon_setTile, canon_swapComplete, canon_foldl, canon_update]

theorem canon_heartbeatMiss {t : Nat} (hc : s.Canonical) : (s.heartbeatMiss t).Canonical := by
  unfold State.heartbeatMiss
  extract_lets x s₁ n s₂
  have h₂ : s₂.Canonical := canon_setFld _ _ _ _ _ (canon_countSat _ _ _ _ _ (canon_setTile hc))
  exact canon_ite hc (canon_ite (canon_tileDeath h₂) h₂)

theorem canon_tileUncorr {t : Nat} (hc : s.Canonical) : (s.tileUncorr t).2.Canonical := by
  unfold State.tileUncorr
  grind -ring -linarith -lia -ac -order [canon_setFld, canon_countSat, canon_event, canon_raiseStepDoubt, canon_setTile, canon_tileDeath]

theorem canon_useInjection {t : Nat} (hc : s.Canonical) : (s.useInjection t).Canonical :=
  canon_ite (canon_countSat _ _ _ _ _ (canon_setTile hc)) hc

theorem canon_tileWork {t : Nat} {c : List Byte} {late : Option Nat} {total : Nat} {work : Option Nat → State → WorkEnd × State} (hc :
    s.Canonical) (hf : ∀ l s, s.Canonical → (work l s).2.Canonical) : (s.tileWork t c late total work).Canonical := by
  unfold State.tileWork
  grind -ring -linarith -lia -ac -order [canon_reach, canon_tileResult, canon_tileFinish, canon_tileUncorr, canon_useInjection]

theorem canon_tileOp {t op : Nat} {work : List Byte → State → State} (hc : s.Canonical) (hf : ∀ c s, s.Canonical → (work c s).Canonical) :
    (s.tileOp t op work).Canonical := by
  unfold State.tileOp
  grind -ring -linarith -lia -ac -order [canon_tileStart]

theorem canon_opWork {t : Nat} {c : List Byte} {f : TileFault} {lim : Option Nat} (hc : s.Canonical) : (s.opWork t c f lim).2.Canonical :=
  canon_ite_snd (canon_attWork hc) (canon_ite_snd (canon_kernelWork hc) (canon_cmdWork hc))

theorem canon_tileCompute {t op : Nat} {f : TileFault} {late : Option Nat} (hc : s.Canonical) : (s.tileCompute t op f late).Canonical :=
  canon_tileOp hc (fun _ _ h => canon_tileWork h (fun _ _ h' => canon_opWork h'))

theorem canon_tileDeadline {t : Nat} (hc : s.Canonical) : (s.tileDeadline t).Canonical := by
  unfold State.tileDeadline
  grind -ring -linarith -lia -ac -order [canon_reach, canon_setTile, canon_noWait, canon_armTile, canon_cmdComplete, canon_tileFinish]

theorem canon_doTileInject {t : Nat} {w : W32} (hc : s.Canonical) : (s.doTileInject t w).Canonical := canon_ite (canon_setTile hc) hc

theorem canon_doBistReq {t : Nat} (hc : s.Canonical) : (s.doBistReq t).Canonical :=
  canon_unlessBusy _ _ _ _ hc (canon_ite (canon_status _ _ _ hc) (canon_setBit _ _ _ _ (canon_setBit _ _ _ _ (canon_setFld _ _ _ _ _
    (canon_update hc)))))

theorem canon_bistDone {passed : Bool} (hc : s.Canonical) : (s.bistDone passed).Canonical := by
  unfold State.bistDone
  grind -ring -linarith -lia -ac -order [canon_setBit, canon_msix, canon_setRevoked, canon_status, canon_setTile, canon_setDeadBit,
    canon_update]

theorem canon_issueAttend {w : Walk} {c : List Byte} (hc : s.Canonical) : (s.issueAttend w c).2.Canonical :=
  canon_tileEnqueue (canon_foldl _ _ _ (canon_busWrite (canon_countSat _ _ _ _ _ hc)) (fun _ _ h => canon_busWrite h))

theorem canon_walkEnd {n : Nat} (hc : s.Canonical) : (s.walkEnd n).Canonical := by
  unfold State.walkEnd
  split
  · refine canon_ite hc (canon_retryPgt (canon_sweepRetired (canon_ite ?_ (canon_update hc))))
    have hissue (w : Walk) (u : State) (h : u.Canonical) :=
      canon_foldl_pair (fun (a, s) c => if a != DONE then (a, s) else s.issueAttend w c) u.content.attend (DONE, u) h
        fun r c h => canon_ite_snd h (canon_issueAttend h)
    exact canon_ite (canon_decodeLost (hissue _ _ (canon_update (canon_update hc)))) (hissue _ _ (canon_update (canon_update hc)))
  · exact hc

/-! ### Machine/Fallback.lean -/

theorem canon_setFb {m : SMap FbTrk} (hc : s.Canonical) : (s.setFb m).Canonical := canon_setFld _ _ _ _ _ (canon_update hc)

theorem canon_fbDrop (hc : s.Canonical) : s.fbDrop.Canonical := canon_countSat _ _ _ _ _ hc

theorem canon_fbApply {k : Nat} {t : FbTrk} {m : FbMeas} (hc : s.Canonical) : (s.fbApply k t m).Canonical :=
  canon_ite (canon_fbDrop hc) (canon_setFb hc)

theorem canon_fbStart {k : Nat} {m : FbMeas} (hc : s.Canonical) : (s.fbStart k m).Canonical := canon_setFb (canon_update hc)

theorem canon_fbBirth {m : FbMeas} {d2 : Int} (hc : s.Canonical) : (s.fbBirth m d2).Canonical := by
  unfold State.fbBirth
  grind -ring -linarith -lia -ac -order [canon_fbDrop, canon_fbStart]

theorem canon_takeCluster (hc : s.Canonical) : s.takeCluster.2.Canonical := by
  refine canon_foldl_pair _ _ ([], s) hc fun r n h => ?_
  have hget := canon_fifoGet (k := 31) (id := idIslB) h
  dsimp only
  split
  · next heq => rw [heq] at hget; exact hget
  · next heq => rw [heq] at hget; exact hget

theorem canon_fbMeasure {b : List Byte} (hc : s.Canonical) : (s.fbMeasure b).Canonical := by
  unfold State.fbMeasure
  grind -ring -linarith -lia -ac -order [canon_fbApply, canon_fbBirth]

theorem canon_fbCluster {slot : Nat} (hc : s.Canonical) : (s.fbCluster slot).Canonical := by
  unfold State.fbCluster
  grind -ring -linarith -lia -ac -order [canon_takeCluster, canon_fbMeasure]

theorem canon_fbMotion {m : MotionSample} (hc : s.Canonical) : (s.fbMotion m).Canonical :=
  canon_ite hc (canon_setBit _ _ _ _ (canon_update hc))

theorem canon_fbPartner {n : Nat} {b : List Byte} (hc : s.Canonical) : (s.fbPartner n b).Canonical := by
  unfold State.fbPartner
  grind -ring -linarith -lia -ac -order [canon_fbApply, canon_foldl]

theorem canon_fbTimeout {k : Nat} (hc : s.Canonical) : (s.fbTimeout k).Canonical := by
  unfold State.fbTimeout
  grind -ring -linarith -lia -ac -order [canon_reach, canon_setFb]

theorem canon_drLost (hc : s.Canonical) : s.drLost.Canonical := canon_ite hc (canon_setCond (canon_setBit _ _ _ _ (canon_reach hc)))

/-! ### Machine/Safety.lean -/

theorem canon_setFlt {low : Bool} (hc : s.Canonical) : (s.setFlt low).Canonical :=
  canon_ite hc (canon_msix (canon_emit _ _ (canon_setBit _ _ _ _ (canon_update hc))))

theorem canon_freshCheck (hc : s.Canonical) : s.freshCheck.Canonical := canon_setCond (canon_update hc)

theorem canon_setPair {p : PairId} {x : IslPair} (hc : s.Canonical) : (s.setPair p x).Canonical := by
  unfold State.setPair
  grind -ring -linarith -lia -ac -order [canon_setBit, canon_setCond, canon_update]

theorem canon_pairDown {p : PairId} (hc : s.Canonical) : (s.pairDown p).Canonical :=
  canon_ite hc (canon_event _ _ _ _ _ _ (canon_setFlt (canon_setPair hc)))

theorem canon_pairUp {p : PairId} (hc : s.Canonical) : (s.pairUp p).Canonical :=
  canon_ite hc (canon_event _ _ _ _ _ _ (canon_freshCheck (canon_setPair hc)))

theorem canon_pairMiss {p : PairId} (hc : s.Canonical) : (s.pairMiss p).Canonical :=
  canon_ite hc (canon_ite (canon_pairDown (canon_setPair hc)) (canon_setPair hc))

theorem canon_hbStep (hc : s.Canonical) : s.hbStep.Canonical := canon_ite (canon_emit _ _ (canon_update (canon_reach hc))) hc

theorem canon_safeReqPin {level : Bool} (hc : s.Canonical) : (s.safeReqPin level).Canonical :=
  canon_ite hc (canon_event _ _ _ _ _ _ (canon_setBit _ _ _ _ (canon_update hc)))

theorem canon_windowFault {k kind : Nat} (hc : s.Canonical) : (s.windowFault k kind).Canonical :=
  canon_ite hc (canon_ite (canon_raiseStepDoubt (canon_countSat _ _ _ _ _ hc)) (canon_event _ _ _ _ _ _ (canon_update (canon_raiseStepDoubt
    (canon_countSat _ _ _ _ _ hc)))))

theorem canon_wdLate {k n : Nat} {sched : Int} (hc : s.Canonical) : (s.wdLate k n sched).Canonical :=
  canon_ite hc (canon_windowFault (canon_update hc))

theorem canon_wdMissing {k : Nat} {g : WdSignal} (hc : s.Canonical) : (s.wdMissing k g).Canonical :=
  canon_ite hc (canon_windowFault (canon_update (canon_reach hc)))

theorem canon_checkOne {n : Nat} (hc : s.Canonical) : (s.checkOne n).Canonical := by
  unfold State.checkOne
  grind -ring -linarith -lia -ac -order [canon_event, canon_raiseTrackDoubt, canon_update]

theorem canon_missingObjects (hc : s.Canonical) : s.missingObjects.Canonical := canon_countSat _ _ _ _ _ (canon_update hc)

theorem canon_checker {n : Nat} (hc : s.Canonical) : (s.checker n).Canonical :=
  canon_ite hc (canon_missingObjects (canon_foldl _ _ _ hc (fun _ _ h => canon_checkOne h)))

theorem canon_readConds (hc : s.Canonical) : s.readConds.Canonical := by
  unfold State.readConds
  extract_lets _ s₁ s₂ _ _ s₃ s₄ s₅ _ s₆ s₇ s₈ s₉ s₁₀ s₁₁
  have h₃ : s₃.Canonical := canon_update (canon_setCond (canon_setCond hc))
  have h₄ : s₄.Canonical := canon_ite (canon_setCond h₃) (canon_ite (canon_setCond h₃) h₃)
  have h₆ : s₆.Canonical := canon_setCond (canon_setCond h₄)
  have h₇ : s₇.Canonical := canon_ite (canon_setCond h₆) (canon_ite (canon_setCond h₆) h₆)
  have h₈ : s₈.Canonical := canon_setFld _ _ _ _ _ h₇
  have h₉ : s₉.Canonical := canon_ite (canon_freshCheck h₈) h₈
  have h₁₀ : s₁₀.Canonical := canon_setCond h₉
  have h₁₁ : s₁₁.Canonical := canon_ite (canon_setCond h₁₀) h₁₀
  exact canon_setCond h₁₁

theorem canon_safCmdEnd {code : Nat} (hc : s.Canonical) : (s.safCmdEnd code).Canonical :=
  canon_setBit _ _ _ _ (canon_status _ _ _ (canon_update hc))

theorem canon_safeState {on : Bool} (hc : s.Canonical) : (s.safeState on).Canonical :=
  canon_event _ _ _ _ _ _ (canon_setBit _ _ _ _ (canon_update hc))

theorem canon_startRestart (hc : s.Canonical) : s.startRestart.Canonical := canon_safeState (canon_update hc)

theorem canon_enterFallback {i : Nat} (hc : s.Canonical) : (s.enterFallback i).Canonical :=
  canon_ite (canon_setCond (canon_setCond hc)) (canon_startRestart (canon_setCond hc))

theorem canon_endRestart {i : Nat} (hc : s.Canonical) : (s.endRestart i).Canonical := by
  unfold State.endRestart
  grind -ring -linarith -lia -ac -order [canon_setFld, canon_countSat, canon_setCond, canon_safCmdEnd, canon_safeState, canon_update]

theorem canon_judgeCmd (hc : s.Canonical) : s.judgeCmd.Canonical := by
  unfold State.judgeCmd
  grind -ring -linarith -lia -ac -order [canon_setReg, canon_setCond, canon_safCmdEnd, canon_startRestart]

theorem canon_judgeDoubts {i : Nat} {doubt : Bool} (hc : s.Canonical) : (s.judgeDoubts i doubt).Canonical :=
  canon_ite (canon_enterFallback (canon_ite (canon_setCond (canon_setFld _ _ _ _ _ (canon_setFld _ _ _ _ _ (canon_update (canon_update
    hc))))) (canon_setFld _ _ _ _ _ (canon_setFld _ _ _ _ _ (canon_update (canon_update hc)))))) (canon_ite (canon_setCond (canon_setFld _
    _ _ _ _ (canon_setFld _ _ _ _ _ (canon_update (canon_update hc))))) (canon_setFld _ _ _ _ _ (canon_setFld _ _ _ _ _ (canon_update
    (canon_update hc)))))

theorem canon_verdict {i : Nat} (hc : s.Canonical) : (s.verdict i).Canonical := by
  unfold State.verdict
  grind -ring -linarith -lia -ac -order [canon_setFld, canon_setBit, canon_event, canon_msix, canon_setFlt, canon_readConds,
    canon_endRestart, canon_judgeCmd, canon_judgeDoubts, canon_update]

theorem canon_holdExpiry {c : Nat} (hc : s.Canonical) : (s.holdExpiry c).Canonical :=
  canon_ite (canon_setCond hc) (canon_ite (canon_setCond hc) hc)

theorem canon_doSafCmd {op level : Nat} (hc : s.Canonical) : (s.doSafCmd op level).Canonical :=
  canon_unlessBusy _ _ _ _ hc (canon_ite (canon_status _ _ _ hc) (canon_ite (canon_status _ _ _ hc) (canon_setBit _ _ _ _ (canon_update
    hc))))

theorem canon_sendCan {frames : List (List Byte)} (hc : s.Canonical) : (s.sendCan frames).Canonical :=
  canon_ite hc (canon_ite (canon_foldl _ _ _ (canon_update (canon_countSat _ _ _ _ _ hc)) (fun _ _ h => canon_countWrap (canon_emit _ _
    h))) (canon_update (canon_countSat _ _ _ _ _ hc)))

theorem canon_safetyChannel {i : Nat} {atT : Bool} (hc : s.Canonical) : (s.safetyChannel i atT).Canonical := canon_sendCan (canon_update hc)

/-! ### Machine/Delta.lean -/

theorem canon_sendPair {type step flags : Nat} {payload : List Byte} (hc : s.Canonical) : (s.sendPair type step flags payload).Canonical := by
  unfold State.sendPair
  grind -ring -linarith -lia -ac -order [canon_linkSendFlags]

theorem canon_deltaBase (hc : s.Canonical) : s.deltaBase.Canonical := canon_ite hc (canon_update hc)

theorem canon_deltaMark (hc : s.Canonical) : s.deltaMark.Canonical := canon_update hc

theorem canon_sendDelta {type : Nat} {payload : List Byte} (hc : s.Canonical) : (s.sendDelta type payload).Canonical :=
  canon_sendPair (canon_update hc)

theorem canon_deltaKvs (hc : s.Canonical) : s.deltaKvs.Canonical :=
  canon_ite hc (canon_foldl _ _ _ hc (fun _ _ h => canon_foldl _ _ _ h (fun _ _ h' => canon_sendDelta h')))

theorem canon_deltaRecs (hc : s.Canonical) : s.deltaRecs.Canonical :=
  canon_ite hc (canon_deltaMark (canon_foldl _ _ _ (canon_foldl _ _ _ hc (fun _ _ h => canon_ite (canon_sendDelta h) h)) (fun _ _ h =>
    canon_ite (canon_sendDelta h) h)))

theorem canon_sendStepEnd {i : Nat} (hc : s.Canonical) : (s.sendStepEnd i).Canonical := canon_ite hc (canon_update (canon_sendPair hc))

theorem canon_sendCopies {i x0 x1 : Nat} (hc : s.Canonical) : (s.sendCopies i x0 x1).Canonical := by
  induction x0 generalizing s x1 with
  | zero => exact hc
  | succ n ih =>
    unfold State.sendCopies
    split
    · exact hc
    · split
      · exact canon_update hc
      · exact canon_ite hc (ih (canon_update (canon_sendPair hc)))

theorem canon_syncSend {i : Nat} (hc : s.Canonical) : (s.syncSend i).Canonical := canon_ite (canon_sendCopies hc) hc

theorem canon_raiseEpoch {e : Nat} (hc : s.Canonical) : (s.raiseEpoch e).Canonical := canon_event _ _ _ _ _ _ (canon_setReg _ _ _ hc)

theorem canon_dropDelta (hc : s.Canonical) : s.dropDelta.Canonical := canon_update hc

theorem canon_countFailover {step primary : Nat} (hc : s.Canonical) : (s.countFailover step primary).Canonical :=
  canon_event _ _ _ _ _ _ (canon_countSat _ _ _ _ _ hc)

theorem canon_promoteMirror {step : Nat} (hc : s.Canonical) : (s.promoteMirror step).Canonical :=
  canon_countFailover (canon_deltaMark (canon_foldl _ _ _ (canon_ite (canon_update (canon_update (canon_dropDelta (canon_raiseEpoch hc))))
    (canon_update (canon_dropDelta (canon_raiseEpoch hc)))) (fun _ _ h => canon_setReg _ _ _ h)))

theorem canon_handoffNow {k : Nat} (hc : s.Canonical) : (s.handoffNow k).Canonical :=
  canon_ite (canon_promoteMirror hc) (canon_ite (canon_countFailover (canon_dropDelta (canon_update hc))) (canon_update hc))

theorem canon_handoffDue (hc : s.Canonical) : s.handoffDue.Canonical := by
  unfold State.handoffDue
  grind -ring -linarith -lia -ac -order [canon_handoffNow]

theorem canon_handMark {i : Nat} (hc : s.Canonical) : (s.handMark i).Canonical := by
  unfold State.handMark
  grind -ring -linarith -lia -ac -order [canon_setTrk, canon_foldl, canon_update]

theorem canon_handSend {i : Nat} (hc : s.Canonical) : (s.handSend i).Canonical :=
  canon_foldl _ _ _ hc (fun _ _ h => canon_sendDev (canon_ite (canon_countWrap h) h))

theorem canon_handTaken {h : Handing} (hc : s.Canonical) : (s.handTaken h).Canonical :=
  canon_ite (canon_ite (canon_retire (canon_update hc)) (canon_update hc)) hc

theorem canon_handLost {h : Handing} (hc : s.Canonical) : (s.handLost h).Canonical := canon_ite (canon_handTaken hc) (canon_abortHand hc)

theorem canon_handCutoff {i : Nat} (hc : s.Canonical) : (s.handCutoff i).Canonical :=
  canon_foldl _ _ _ hc (fun _ _ h => canon_ite (canon_handLost h) (canon_ite (canon_handTaken h) h))

theorem canon_sendList {i : Nat} {bytes : List Byte} (hc : s.Canonical) : (s.sendList i bytes).Canonical := by
  unfold State.sendList
  grind -ring -linarith -lia -ac -order [canon_linkSendFlags, canon_foldl]

/-! ### Machine/Cadence.lean -/

theorem canon_putSched {idx : Nat} (hc : s.Canonical) : (s.putSched idx).Canonical := by
  unfold State.putSched
  grind -ring -linarith -lia -ac -order [canon_setReg, canon_setFld, canon_foldl, canon_update]

theorem canon_setT0 {t : Time} (hc : s.Canonical) : (s.setT0 t).Canonical := canon_update (canon_setRegBytes _ _ _ hc)

theorem canon_cadenceSwitch (hc : s.Canonical) : s.cadenceSwitch.Canonical := by
  unfold State.cadenceSwitch
  split
  · exact hc
  · next idx k _ =>
    extract_lets tk s₁ s₂ _ s₃
    have h₁ : s₁.Canonical := canon_putSched hc
    have h₂ : s₂.Canonical := canon_ite (canon_setT0 h₁) h₁
    have h₃ : s₃.Canonical := canon_setBit _ _ _ _ (canon_status _ _ _ (canon_update h₂))
    exact canon_ite (canon_tellEpoch h₃) h₃

theorem canon_csqRefuse (hc : s.Canonical) : s.csqRefuse.Canonical := canon_emit _ _ hc

theorem canon_startGates {k : Nat} (hc : s.Canonical) : (s.startGates k).Canonical := canon_update hc

theorem canon_doRun (hc : s.Canonical) : s.doRun.Canonical := by
  unfold State.doRun
  extract_lets _ s₁ s₂ k _ _ s₃ s₄ s₅ _ _ s₆
  have h₁ : s₁.Canonical := by
    dsimp only [s₁]
    split
    · exact canon_update hc
    · exact canon_ite hc (canon_setT0 hc)
  have h₂ : s₂.Canonical := by
    dsimp only [s₂]
    split
    · exact canon_ite (canon_cadenceSwitch h₁) h₁
    · exact h₁
  have h₃ : s₃.Canonical := canon_update (canon_foldl _ _ _ h₂ fun _ _ h => canon_reloadTile h)
  have h₆ : s₆.Canonical := canon_update (canon_renumber (canon_startGates h₃))
  exact canon_ite (canon_csqRefuse hc) (canon_setCond (canon_setFld _ _ _ _ _ (canon_setBit _ _ _ _ (canon_setBit _ _ _ _ h₆))))

theorem canon_doStop (hc : s.Canonical) : s.doStop.Canonical :=
  canon_ite (canon_setBit _ _ _ _ hc) (canon_ite (canon_setBit _ _ _ _ (canon_status _ _ _ (canon_update (canon_update (canon_setBit _ _ _
    _ hc))))) (canon_update (canon_setBit _ _ _ _ hc)))

theorem canon_csqCtrl {w : W32} (hc : s.Canonical) : (s.csqCtrl w).Canonical :=
  canon_ite (canon_doRun (canon_setFld _ _ _ _ _ hc)) (canon_doStop (canon_setFld _ _ _ _ _ hc))

theorem canon_cycleStopped (hc : s.Canonical) : s.cycleStopped.Canonical := by
  unfold State.cycleStopped
  grind -ring -linarith -lia -ac -order [canon_setFld, canon_setBit, canon_renumber, canon_setFlt, canon_update]

theorem canon_cadenceReq {idx : Nat} (hc : s.Canonical) : (s.cadenceReq idx).Canonical := by
  unfold State.cadenceReq
  grind -ring -linarith -lia -ac -order [canon_setReg, canon_setBit, canon_status, canon_unlessBusy, canon_rtRefuse, canon_rtCount,
    canon_cadenceSwitch, canon_update]

theorem canon_switchDue (hc : s.Canonical) : s.switchDue.Canonical := by
  unfold State.switchDue
  grind -ring -linarith -lia -ac -order [canon_reach, canon_cadenceSwitch]

theorem canon_ingestCutoff (hc : s.Canonical) : s.ingestCutoff.Canonical := by
  unfold State.ingestCutoff
  grind -ring -linarith -lia -ac -order [canon_reach, canon_paeStep, canon_egoCutoff, canon_sqiCheck, canon_runDeferred, canon_dmlStep,
    canon_tacStep, canon_bseStep, canon_fldCutoff, canon_tcaStep, canon_deltaBase, canon_handoffDue, canon_handCutoff, canon_cadenceSwitch,
    canon_foldl, canon_update]

theorem canon_tileWindows {k : Nat} {v : Bool} (hc : s.Canonical) : (s.tileWindows k v).Canonical :=
  canon_foldl _ _ _ hc (fun _ _ h => canon_ite (canon_setTile h) h)

theorem canon_formLists (hc : s.Canonical) : s.formLists.Canonical :=
  canon_ite (canon_update hc) (canon_update (canon_countSat _ _ _ _ _ hc))

theorem canon_sealStep (hc : s.Canonical) : s.sealStep.Canonical := by
  unfold State.sealStep
  grind -ring -linarith -lia -ac -order [canon_setRegBytes, canon_raiseStepDoubt, canon_filterLists, canon_verdict, canon_safetyChannel,
    canon_handMark, canon_formLists, canon_update]

theorem canon_openWork {k : Nat} (hc : s.Canonical) : (s.openWork k).Canonical := by
  unfold State.openWork
  grind -ring -linarith -lia -ac -order [canon_issueUpdates, canon_issueAppends]

theorem canon_stageOpen {k : Nat} (hc : s.Canonical) : (s.stageOpen k).Canonical :=
  canon_ite hc (canon_ite (canon_sealStep (canon_openWork (canon_tileWindows (canon_wdLate (canon_update (canon_reach hc))))))
    (canon_openWork (canon_tileWindows (canon_wdLate (canon_update (canon_reach hc))))))

theorem canon_stageWork {k : Nat} {w : StageWork} (hc : s.Canonical) : (s.stageWork k w).Canonical := by
  unfold State.stageWork
  grind -ring -linarith -lia -ac -order [canon_copyTruncated, canon_issuePredictions, canon_assocClose, canon_checker, canon_deltaKvs,
    canon_deltaRecs]

theorem canon_stageLate {k : Nat} (hc : s.Canonical) : (s.stageLate k).Canonical :=
  canon_windowFault (canon_countSat _ _ _ _ _ (canon_update hc))

theorem canon_stageClose {k : Nat} {w : StageWork} (hc : s.Canonical) : (s.stageClose k w).Canonical :=
  canon_ite hc (canon_stageWork (canon_ite (canon_tileWindows (canon_wdLate (canon_update (canon_reach hc)))) (canon_stageLate
    (canon_tileWindows (canon_wdLate (canon_update (canon_reach hc)))))))

theorem canon_stageComplete {k : Nat} (hc : s.Canonical) : (s.stageComplete k).Canonical :=
  canon_ite hc (canon_tileWindows (canon_ite (canon_windowFault (canon_ite (canon_countSat _ _ _ _ _ (canon_ite (canon_stageLate
    (canon_update hc)) (canon_update hc))) (canon_ite (canon_stageLate (canon_update hc)) (canon_update hc)))) (canon_ite (canon_countSat _
    _ _ _ _ (canon_ite (canon_stageLate (canon_update hc)) (canon_update hc))) (canon_ite (canon_stageLate (canon_update hc)) (canon_update
    hc)))))

theorem canon_nextSeq {o : Nat} (hc : s.Canonical) : (s.nextSeq o).2.Canonical := canon_setReg _ _ _ hc

theorem canon_csqWrite {a : Nat} {bs : List Byte} (hc : s.Canonical) : (s.csqWrite a bs).Canonical := canon_busWrite hc

theorem canon_commitList {a i : Nat} {list : List Byte} (hc : s.Canonical) : (s.commitList a i list).Canonical :=
  canon_csqWrite (canon_csqWrite (canon_csqWrite hc))

theorem canon_ringOut (hc : s.Canonical) : s.ringOut.Canonical := by
  unfold State.ringOut
  extract_lets prod full u
  clear_value full prod
  have hu : u.Canonical := canon_ite (canon_setBit _ _ _ _ (canon_countSat _ _ _ _ _ (canon_countWrap hc))) hc
  clear_value u
  have hseq := canon_nextSeq (o := 0) hu
  refine canon_ite hc (canon_ite (canon_setBit _ _ _ _ (canon_countSat _ _ _ _ _ hc)) ?_)
  split
  next heq =>
    rw [heq] at hseq
    exact canon_msix (canon_emit _ _ (canon_countWrap (canon_commitList hseq)))

theorem canon_csLate {n : Nat} (hc : s.Canonical) : (s.csLate n).Canonical :=
  canon_ite hc (canon_setBit _ _ _ _ (canon_countSat _ _ _ _ _ hc))

theorem canon_csDiscard (hc : s.Canonical) : s.csDiscard.Canonical := canon_csLate (canon_update hc)

theorem canon_csOut (hc : s.Canonical) : s.csOut.Canonical :=
  canon_ite hc (canon_foldl _ _ _ hc (fun _ _ h => canon_ite (canon_update (canon_nextSeq h)) (canon_csLate (canon_nextSeq h))))

theorem canon_pfOut (hc : s.Canonical) : s.pfOut.Canonical :=
  canon_ite hc (canon_ite (canon_countSat _ _ _ _ _ hc) (canon_msix (canon_emit _ _ (canon_fifoFlush (canon_fifoBytes (canon_nextSeq
    hc))))))

theorem canon_fbOut (hc : s.Canonical) : s.fbOut.Canonical := canon_ite hc (canon_emit _ _ (canon_countWrap hc))

theorem canon_mainOut (hc : s.Canonical) : s.mainOut.Canonical :=
  canon_ite (canon_csDiscard (canon_setBit _ _ _ _ (canon_setBit _ _ _ _ hc))) (canon_setFld _ _ _ _ _ (canon_setReg _ _ _ (canon_setReg64
    (canon_setFld _ _ _ _ _ (canon_setBit _ _ _ _ (canon_setBit _ _ _ _ (canon_pfOut (canon_csOut (canon_ringOut (canon_csDiscard
    (canon_setBit _ _ _ _ (canon_setBit _ _ _ _ hc))))))))))))

theorem canon_giveUpRole (hc : s.Canonical) : s.giveUpRole.Canonical :=
  canon_ite hc (canon_update (canon_countFailover (canon_sendPair hc)))

theorem canon_pubDone (hc : s.Canonical) : s.pubDone.Canonical :=
  canon_ite hc (canon_update (canon_update (canon_setBit _ _ _ _ (canon_accel (canon_giveUpRole hc)))))

theorem canon_restartChannel (hc : s.Canonical) : s.restartChannel.Canonical :=
  canon_ite hc (canon_update (canon_safetyChannel (canon_reach hc)))

theorem canon_publication (hc : s.Canonical) : s.publication.Canonical := by
  unfold State.publication
  extract_lets c i s₁ s₂ s₃ _ _ _ s₄ s₅ s₆
  have h₂ : s₂.Canonical := canon_ite (canon_raiseStepDoubt (canon_reach hc)) (canon_reach hc)
  have h₄ : s₄.Canonical := canon_update (canon_safetyChannel (canon_fbOut (canon_mainOut h₂)))
  have h₅ : s₅.Canonical := canon_ite (canon_freeRetired h₄) h₄
  have h₆ : s₆.Canonical := canon_sendStepEnd (canon_handSend h₅)
  exact canon_ite (canon_ite hc (canon_restartChannel hc)) (canon_pubDone (canon_sendList (canon_syncSend h₆)))

theorem canon_csSent (hc : s.Canonical) : s.csSent.Canonical := by
  unfold State.csSent
  split
  · exact hc
  · next x r _ =>
    refine canon_ite hc ?_
    extract_lets q f
    have hstamp := canon_seqStamp (f := f) hc
    split
    next seq u heq =>
    rw [heq] at hstamp
    extract_lets frame _ u₁ u₂ s₁ s₂
    have h₁ : u₁.Canonical := canon_update hstamp
    have h₂ : u₂.Canonical := by
      dsimp only [u₂]
      split
      · exact canon_sendProtected h₁
      · exact canon_ite hc (canon_emit _ _ h₁)
    have h₃ : s₁.Canonical := canon_countWrap (canon_emit _ _ h₂)
    exact canon_ite hc (canon_pubDone (canon_ite (canon_csLate h₃) h₃))

theorem canon_ringCons {v : W32} (hc : s.Canonical) : (s.ringCons v).Canonical :=
  canon_ite (canon_setReg _ _ _ hc) (canon_setBit _ _ _ _ hc)

theorem canon_pfRead {wide : Bool} (hc : s.Canonical) : (s.pfRead wide).Canonical := by
  unfold State.pfRead
  grind -ring -linarith -lia -ac -order [canon_setReg, canon_emit, canon_failHost, canon_fifoGet]

theorem canon_ethLink {q : Nat} {up : Bool} (hc : s.Canonical) : (s.ethLink q up).Canonical :=
  canon_ite hc (canon_ite (canon_setFld _ _ _ _ _ (canon_setBit _ _ _ _ (canon_setBit _ _ _ _ (canon_draw hc)))) (canon_ite (canon_pubDone
    (canon_csLate (canon_update (canon_ite (canon_setFld _ _ _ _ _ (canon_draw (canon_setBit _ _ _ _ hc))) (canon_setBit _ _ _ _ hc)))))
    (canon_ite (canon_setFld _ _ _ _ _ (canon_draw (canon_setBit _ _ _ _ hc))) (canon_setBit _ _ _ _ hc))))

/-! ### Machine/Fcu.lean -/

theorem canon_setFcu {f : Nat} {x : Fcu} (hc : s.Canonical) : (s.setFcu f x).Canonical := canon_update hc

theorem canon_fcuLoss {slot : Nat} (hc : s.Canonical) : (s.fcuLoss slot).Canonical := by
  unfold State.fcuLoss
  grind -ring -linarith -lia -ac -order [canon_setFcu]

theorem canon_fcuPoint {f : Nat} {p : Pt} (hc : s.Canonical) : (s.fcuPoint f p).Canonical := by
  unfold State.fcuPoint
  grind -ring -linarith -lia -ac -order [canon_setFcu]

theorem canon_fcuRev {f : Nat} (hc : s.Canonical) : (s.fcuRev f).Canonical := canon_setFcu hc

theorem canon_fcuBegin {f rev col : Nat} (hc : s.Canonical) : (s.fcuBegin f rev col).Canonical := canon_setFcu hc

theorem canon_fcuEmit {slot : Nat} (hc : s.Canonical) : (s.fcuEmit slot).Canonical := by
  unfold State.fcuEmit
  grind -ring -linarith -lia -ac -order [canon_countSat, canon_countWrap, canon_fcuPump, canon_setFcu, canon_update]

theorem canon_dropPacket {slot : Nat} (hc : s.Canonical) : (s.dropPacket slot).Canonical := canon_fcuLoss hc

theorem canon_passPoints {slot : Nat} {b : List Byte} (hc : s.Canonical) : (s.passPoints slot b).Canonical := by
  unfold State.passPoints
  grind -ring -linarith -lia -ac -order [canon_yieldFcu, canon_handOn, canon_fcuPoint, canon_fcuRev, canon_fcuBegin, canon_dropPacket,
    canon_foldl, canon_update]

theorem canon_judgePacket {slot : Nat} {arr : Time} {b : List Byte} (hc : s.Canonical) : (s.judgePacket slot arr b).Canonical := by
  unfold State.judgePacket
  extract_lets x seq adv s₁ s₂ s₃
  have h₁ : s₁.Canonical := canon_setSlot hc
  have h₂ : s₂.Canonical := canon_ite (canon_dropPacket (canon_countSat _ _ _ _ _ h₁)) h₁
  have h₃ : s₃.Canonical := canon_passPoints (canon_consistent h₂)
  exact canon_ite (canon_dropPacket (canon_violate hc)) (canon_ite (canon_dropPacket (canon_inconsistent (canon_countSat _ _ _ _ _ h₂)))
    (canon_ite (canon_dropPacket (canon_violate h₂)) (canon_ite (canon_calStep h₃) h₃)))

theorem canon_pointPacket {d : Datagram} (hc : s.Canonical) : (s.pointPacket d).Canonical := by
  unfold State.pointPacket
  grind -ring -linarith -lia -ac -order [canon_reach, canon_violate, canon_yieldPatch, canon_received, canon_unmatched, canon_dropPacket,
    canon_judgePacket]

/-! ### Machine/Partner.lean -/

theorem canon_partnerDets {slot : Nat} {b : List Byte} (hc : s.Canonical) : (s.partnerDets slot b).Canonical :=
  canon_foldl _ _ _ hc (fun _ _ h => canon_detReady h)

theorem canon_judgeList {slot : Nat} {arr : Time} {b : List Byte} (hc : s.Canonical) : (s.judgeList slot arr b).Canonical := by
  unfold State.judgeList
  extract_lets x seq id back s₁ out s₂
  have h₁ : s₁.Canonical := canon_setSlot hc
  have h₂ : s₂.Canonical := canon_consistent (canon_received h₁)
  exact canon_ite (canon_violate (canon_received hc)) (canon_ite (canon_violate (canon_received h₁))
    (canon_ite h₁ (canon_ite (canon_partnerDets (canon_handOn h₂)) h₂)))

theorem canon_partnerList {d : Datagram} (hc : s.Canonical) : (s.partnerList d).Canonical := by
  unfold State.partnerList
  grind -ring -linarith -lia -ac -order [canon_reach, canon_violate, canon_yieldPatch, canon_received, canon_unmatched, canon_judgeList]

/-! ### Machine/Slots.lean -/

theorem canon_silence {n : Nat} (hc : s.Canonical) : (s.silence n).Canonical := canon_ite (canon_setSlot (canon_reach hc)) hc

theorem canon_leave {n : Nat} (hc : s.Canonical) : (s.leave n).Canonical := canon_ite (canon_releaseSlot (canon_reach hc)) hc

theorem canon_holdOver {k : Nat} (hc : s.Canonical) : (s.holdOver k).Canonical :=
  canon_ite (canon_sendEcho (canon_sendHello (canon_endHold hc))) (canon_endHold hc)

theorem canon_autoDue {n : Nat} (hc : s.Canonical) : (s.autoDue n).Canonical := by
  unfold State.autoDue
  grind -ring -linarith -lia -ac -order [canon_setSlot, canon_endHold, canon_releaseSlot]

theorem canon_slotCmd {n : Nat} {f : State → Nat × State} (hc : s.Canonical) (hf : ∀ s, s.Canonical → (f s).2.Canonical) :
    (s.slotCmd n f).Canonical := by
  unfold State.slotCmd
  grind -ring -linarith -lia -ac -order [canon_setFld, canon_status, canon_unlessBusy, canon_autoDue]

theorem canon_doAdmit {n : Nat} (hc : s.Canonical) : (s.doAdmit n).Canonical := canon_slotCmd hc (fun _ h => canon_admitRec h)

theorem canon_doSlotRelease {n : Nat} (hc : s.Canonical) : (s.doSlotRelease n).Canonical :=
  canon_slotCmd hc (fun _ h => canon_ite_snd (canon_releaseSlot h) h)

theorem canon_doReadmit {n : Nat} (hc : s.Canonical) : (s.doReadmit n).Canonical :=
  canon_slotCmd hc (fun _ h => canon_ite_snd (canon_ite (canon_calEvent (canon_setCal (canon_startAdmitting h))) (canon_startAdmitting h))
    h)

theorem canon_doSlotQuar {n : Nat} (hc : s.Canonical) : (s.doSlotQuar n).Canonical :=
  canon_slotCmd hc (fun _ h => canon_ite_snd (canon_quarSlot h) h)

theorem canon_setPath {k : Nat} {x : PatchPath} (hc : s.Canonical) : (s.setPath k x).Canonical := canon_update hc

theorem canon_patchDue {k : Nat} (hc : s.Canonical) : (s.patchDue k).Canonical := by
  unfold State.patchDue
  grind -ring -linarith -lia -ac -order [canon_reach, canon_setPath]

theorem canon_patchInject {k : Nat} (hc : s.Canonical) : (s.patchInject k).Canonical := by
  unfold State.patchInject
  grind -ring -linarith -lia -ac -order [canon_draw, canon_setPath]

theorem canon_patchForce (hc : s.Canonical) : s.patchForce.Canonical := canon_update (canon_countSat _ _ _ _ _ hc)

theorem canon_patchPass {k : Nat} {x : PatchPath} (hc : s.Canonical) : (s.patchPass k x).Canonical := by
  unfold State.patchPass
  grind -ring -linarith -lia -ac -order [canon_setBit, canon_countSat, canon_setSlot, canon_admitPass, canon_setPath, canon_foldl,
    canon_update]

theorem canon_patchFail {k : Nat} {x : PatchPath} (hc : s.Canonical) : (s.patchFail k x).Canonical :=
  canon_ite (canon_setPath (canon_ite (canon_setBit _ _ _ _ (canon_update (canon_countSat _ _ _ _ _ hc))) (canon_countSat _ _ _ _ _ hc)))
    (canon_foldl _ _ _ (canon_setPath (canon_ite (canon_setBit _ _ _ _ (canon_update (canon_countSat _ _ _ _ _ hc))) (canon_countSat _ _ _
    _ _ hc))) (fun _ _ h => canon_exclude h))

theorem canon_patchPrivate {k : Nat} {x : PatchPath} (hc : s.Canonical) : (s.patchPrivate k x).Canonical := by
  unfold State.patchPrivate
  grind -ring -linarith -lia -ac -order [canon_update]

theorem canon_patchEval {k : Nat} {lost : Bool} {flip : BitVec 32} (hc : s.Canonical) : (s.patchEval k lost flip).Canonical := by
  unfold State.patchEval
  grind -ring -linarith -lia -ac -order [canon_reach, canon_setPath, canon_patchForce, canon_patchPass, canon_patchFail,
    canon_patchPrivate, canon_update]

/-! ### Machine/Link.lean -/

theorem canon_requestCopy (hc : s.Canonical) : s.requestCopy.Canonical := canon_sendPair (canon_update (canon_dropDelta hc))

theorem canon_enterSyncing (hc : s.Canonical) : s.enterSyncing.Canonical := canon_requestCopy (canon_update hc)

theorem canon_takeEpoch {e : Nat} (hc : s.Canonical) : (s.takeEpoch e).Canonical :=
  canon_ite hc (canon_ite (canon_enterSyncing (canon_raiseEpoch hc)) (canon_raiseEpoch hc))

theorem canon_agreed {p : Nat} (hc : s.Canonical) : (s.agreed p).Canonical := canon_setLinkPort hc

theorem canon_hear {n : Nat} (hc : s.Canonical) : (s.hear n).Canonical := canon_update hc

theorem canon_foundGroup (hc : s.Canonical) : s.foundGroup.Canonical :=
  canon_update (canon_foldl _ _ _ hc (fun _ _ h => canon_hear (canon_setMember h)))

theorem canon_admitMember {n : Nat} (hc : s.Canonical) : (s.admitMember n).Canonical :=
  canon_ite (canon_hear hc) (canon_event _ _ _ _ _ _ (canon_hear (canon_setMember hc)))

theorem canon_lead {p : Nat} (hc : s.Canonical) : (s.lead p).Canonical :=
  canon_tellEpoch (canon_agreed (canon_ite (canon_foundGroup (canon_raiseEpoch hc)) (canon_admitMember (canon_raiseEpoch hc))))

theorem canon_agreeEpoch {p : Nat} (hc : s.Canonical) : (s.agreeEpoch p).Canonical :=
  canon_ite (canon_lead hc) (canon_ite (canon_sendEpoch (canon_agreed hc)) hc)

theorem canon_bringUp {p x0 : Nat} (hc : s.Canonical) : (s.bringUp p x0).Canonical := by
  induction x0 generalizing s with
  | zero => exact hc
  | succ n ih =>
    unfold State.bringUp
    grind -ring -linarith -lia -ac -order [canon_setLinkPort, canon_sendEcho, canon_linkSend, canon_agreeEpoch]

theorem canon_startBringUp {p : Nat} {ask : Bool} (hc : s.Canonical) : (s.startBringUp p ask).Canonical :=
  canon_ite (canon_setLinkPort hc) (canon_sendHello (canon_setLinkPort hc))

theorem canon_linkLock {p : Nat} (hc : s.Canonical) : (s.linkLock p).Canonical := canon_ite hc (canon_startBringUp (canon_setLinkPort hc))

theorem canon_linkDown {p : Nat} (hc : s.Canonical) : (s.linkDown p).Canonical := canon_setLinkPort hc

theorem canon_linkAdmit {p : Nat} (hc : s.Canonical) : (s.linkAdmit p).Canonical := canon_ite (canon_setLinkPort hc) hc

theorem canon_linkSeq {p lseq : Nat} (hc : s.Canonical) : (s.linkSeq p lseq).2.Canonical :=
  canon_ite_snd (canon_linkCtl (canon_setLinkPort hc)) (canon_ite_snd (canon_linkCtl hc) (canon_ite_snd (canon_linkCtl hc) (canon_linkCtl
    (canon_violate hc))))

theorem canon_linkTake {p type : Nat} {h : LinkHdr} {pl : List Byte} {f : State → State} (hc : s.Canonical) (hf : ∀ s, s.Canonical → (f
    s).Canonical) : (s.linkTake p type h pl f).Canonical := by
  unfold State.linkTake
  grind -ring -linarith -lia -ac -order [canon_countSat, canon_linkPost, canon_takeEpoch]

theorem canon_linkRx {p type : Nat} {h : LinkHdr} {pl : List Byte} {f : State → State} (hc : s.Canonical) (hf : ∀ s, s.Canonical → (f s).Canonical) : (s.linkRx p type h pl f).Canonical := by
  have hseq := canon_ite_snd (c := (type == 1) = true) (p := (true, s)) hc (canon_linkSeq (p := p) (lseq := h.lseq.toNat) hc)
  have hhear := canon_hear (n := h.srcDev.toNat) hseq
  unfold State.linkRx
  exact canon_ite hc (canon_ite (canon_linkCtl (canon_countSat _ _ _ _ _ hc)) (canon_ite (canon_linkCtl (canon_violate hc))
    (canon_ite hseq (canon_ite (canon_violate hseq) (canon_ite hseq (canon_ite (canon_violate hseq)
      (canon_linkAdmit (canon_linkTake (canon_ite (canon_setLinkPort hhear) hhear) hf))))))))

theorem canon_replay {p : Nat} (hc : s.Canonical) : (s.replay p).Canonical :=
  canon_ite hc (canon_ite (canon_linkDown hc) (canon_foldl _ _ _ (canon_countSat _ _ _ _ _ (canon_setLinkPort hc)) (fun _ _ h => canon_emit
    _ _ h)))

theorem canon_linkAck {p n : Nat} (hc : s.Canonical) : (s.linkAck p n).Canonical := canon_ite hc (canon_linkPump (canon_setLinkPort hc))

theorem canon_readmitMember {n : Nat} (hc : s.Canonical) : (s.readmitMember n).Canonical :=
  canon_ite hc (canon_tellEpoch (canon_raiseEpoch (canon_admitMember hc)))

theorem canon_onHello {p : Nat} {h : LinkHdr} {m : Hello} (hc : s.Canonical) : (s.onHello p h m).Canonical :=
  canon_ite (canon_ite (canon_readmitMember hc) hc) (canon_ite (canon_violate (canon_setLinkPort hc)) (canon_bringUp (canon_ite
    (canon_readmitMember (canon_ite (canon_sendHello (canon_setLinkPort hc)) (canon_setLinkPort hc))) (canon_ite (canon_sendHello
    (canon_setLinkPort hc)) (canon_setLinkPort hc)))))

theorem canon_onEcho {p : Nat} {reply crcOk : Bool} (hc : s.Canonical) : (s.onEcho p reply crcOk).Canonical :=
  canon_ite (canon_sendEcho hc) (canon_ite (canon_bringUp (canon_setLinkPort hc)) (canon_event _ _ _ _ _ _ (canon_draw (canon_setLinkPort
    hc))))

theorem canon_onFeat {p : Nat} {feats : BitVec 256} (hc : s.Canonical) : (s.onFeat p feats).Canonical :=
  canon_ite (canon_foldl _ _ _ hc (fun _ _ h => canon_ite h (canon_setLinkPort h))) (canon_ite (canon_agreeEpoch (canon_linkSend hc))
    (canon_bringUp (canon_setLinkPort hc)))

theorem canon_dropFold (hc : s.Canonical) : s.dropFold.Canonical :=
  canon_update (canon_foldl _ _ _ (canon_foldl _ _ _ hc (fun _ _ h => canon_doClose h)) (fun _ _ h => canon_freeTrk h))

theorem canon_groupT0 {t : Time} {n : Nat} (hc : s.Canonical) : (s.groupT0 t n).Canonical :=
  canon_ite hc (canon_ite (canon_update (canon_setT0 hc)) (canon_setT0 hc))

theorem canon_helloRoot (hc : s.Canonical) : s.helloRoot.Canonical := by
  unfold State.helloRoot
  grind -ring -linarith -lia -ac -order [canon_linkSendFlags]

theorem canon_epochRole (hc : s.Canonical) : s.epochRole.Canonical :=
  canon_ite (canon_ite (canon_enterSyncing hc) hc) (canon_ite hc (canon_ite (canon_hear (canon_update hc)) (canon_helloRoot (canon_update
    (canon_dropFold hc)))))

theorem canon_onEpoch {m : EpochMsg} (hc : s.Canonical) : (s.onEpoch m).Canonical :=
  canon_ite (canon_countSat _ _ _ _ _ hc) (canon_epochRole (canon_foldl _ _ _ (canon_groupT0 (canon_setReg64 (canon_takeEpoch hc))) (fun _
    _ h => canon_ite (canon_bringUp (canon_agreed h)) h)))

theorem canon_markResync {l : List Nat} (hc : s.Canonical) : (s.markResync l).Canonical := canon_update hc

theorem canon_deltaFrame {p : Nat} {ok : Bool} {slots : List Nat} {bytes : List Byte} {put : Slk → Slk} (hc : s.Canonical) :
    (s.deltaFrame p ok slots bytes put).Canonical :=
  canon_ite hc (canon_ite (canon_markResync (canon_violate hc)) (canon_update hc))

theorem canon_takeSlot {n : Nat} (hc : s.Canonical) : (s.takeSlot n).Canonical := canon_ite (canon_update hc) (canon_update hc)

theorem canon_giveSlot {n : Nat} (hc : s.Canonical) : (s.giveSlot n).Canonical := canon_update (canon_freeTrk hc)

theorem canon_putTrack {n : Nat} {b : List Byte} {t : Nat} (hc : s.Canonical) : (s.putTrack n b t).Canonical :=
  canon_ite (canon_ite hc (canon_giveSlot hc)) (canon_update (canon_setTrk (canon_ite (canon_takeSlot hc) hc)))

theorem canon_seqFollow {n : Nat} {b : List Byte} (hc : s.Canonical) : (s.seqFollow n b).Canonical := by
  unfold State.seqFollow
  grind -ring -linarith -lia -ac -order [canon_doOpen, canon_doFallow, canon_doActivate, canon_doClose, canon_fldCmd]

theorem canon_installEntry {n : Nat} {e_1 : List Byte} {t : State} (hc : s.Canonical) (e : (s.installEntry n e_1) = some t) : t.Canonical := by
  unfold State.installEntry at e
  obtain ⟨u, hroom, e⟩ := Option.bind_eq_some_iff.1 e
  obtain ⟨a, -, rfl⟩ := Option.map_eq_some_iff.1 e
  exact canon_sweepRetired (canon_recount (canon_setSeqF (canon_setSeqF (canon_setSeqF (canon_store _ _ _ (canon_makeRoom hc hroom))))))

theorem canon_hotCompare {r : DeltaRec} (hc : s.Canonical) : (s.hotCompare r).Canonical :=
  canon_ite hc (canon_ite (canon_event _ _ _ _ _ _ (canon_update (canon_update (canon_countSat _ _ _ _ _ hc)))) (canon_update
    (canon_countSat _ _ _ _ _ hc)))

theorem canon_applyRec {i : Nat} {r : DeltaRec} (hc : s.Canonical) : (s.applyRec i r).Canonical :=
  canon_update (canon_seqFollow (canon_putTrack (canon_hotCompare hc)))

theorem canon_applyDrop {q : SeqItem} (hc : s.Canonical) : (s.applyDrop q).Canonical := canon_ite hc (canon_doPgt hc)

theorem canon_applyKv {k : KvItem} (hc : s.Canonical) : (s.applyKv k).Canonical := by
  unfold State.applyKv
  grind -ring -linarith -lia -ac -order [canon_markResync, canon_installEntry]

theorem canon_checkSeq {q : SeqItem} (hc : s.Canonical) : (s.checkSeq q).Canonical := canon_ite hc (canon_markResync hc)

theorem canon_applyDelta {i : Nat} (hc : s.Canonical) : (s.applyDelta i).Canonical :=
  canon_foldl _ _ _ (canon_foldl _ _ _ (canon_foldl _ _ _ (canon_foldl _ _ _ hc (fun _ _ h => canon_applyRec h)) (fun _ _ h =>
    canon_applyDrop h)) (fun _ _ h => canon_applyKv h)) (fun _ _ h => canon_checkSeq h)

theorem canon_becomeMirror (hc : s.Canonical) : s.becomeMirror.Canonical :=
  canon_ite (canon_update (canon_foldl _ _ _ hc (fun _ _ h => canon_giveSlot (canon_fldCmd h (canon_doClose h))))) hc

theorem canon_onStepEnd {i : Nat} {m : StepEnd} (hc : s.Canonical) : (s.onStepEnd i m).Canonical :=
  canon_ite hc (canon_ite (canon_enterSyncing hc) (canon_ite (canon_sendPair (canon_becomeMirror (canon_countWrap (canon_update
    (canon_dropDelta (canon_applyDelta hc)))))) (canon_becomeMirror (canon_countWrap (canon_update (canon_dropDelta (canon_applyDelta
    hc)))))))

theorem canon_setMirrorLost {v : Bool} (hc : s.Canonical) : (s.setMirrorLost v).Canonical :=
  canon_ite hc (canon_event _ _ _ _ _ _ (canon_update hc))

theorem canon_onDeltaAck (hc : s.Canonical) : s.onDeltaAck.Canonical :=
  canon_ite hc (canon_setMirrorLost (canon_update (canon_countWrap hc)))

theorem canon_copyTrack {n : Nat} {c : TrackCopy} (hc : s.Canonical) : (s.copyTrack n c).Canonical := by
  have hinstall (l : List (List Byte)) (r : State × Bool) (h : r.1.Canonical) :
      (l.foldl (fun (r : State × Bool) e =>
        match r.1.installEntry n e with
        | some s => (s, r.2)
        | none => (r.1, false)) r).1.Canonical := by
    induction l generalizing r with
    | nil => exact h
    | cons e l ih =>
      refine ih _ ?_
      dsimp only
      split
      · next heq => exact canon_installEntry h heq
      · exact h
  unfold State.copyTrack
  extract_lets s₁ s₂ s₃
  have h₁ : s₁.Canonical := canon_ite hc (canon_fldCmd hc (canon_doClose hc))
  have h₃ : s₃.Canonical := by
    have h₂ : s₂.Canonical := canon_seqFollow (canon_putTrack h₁)
    dsimp only [s₃]
    split
    · exact canon_ite h₂ (canon_setSeqF h₂)
    · exact h₂
  have hall := hinstall c.entries (s₃, true) h₃
  exact canon_ite (canon_update hall) (canon_markResync (canon_update hall))

theorem canon_onSyncData {p : Nat} {h : LinkHdr} {c : TrackCopy} (hc : s.Canonical) : (s.onSyncData p h c).Canonical :=
  canon_ite (canon_ite (canon_update hc) hc) (canon_ite hc (canon_ite (canon_markResync (canon_violate hc)) (canon_ite (canon_update
    (canon_ite (canon_update (canon_copyTrack hc)) hc)) (canon_ite (canon_update (canon_copyTrack hc)) hc))))

theorem canon_loseMember {n : Nat} (hc : s.Canonical) : (s.loseMember n).Canonical :=
  canon_ite hc (canon_sendDev (canon_tellEpoch (canon_event _ _ _ _ _ _ (canon_raiseEpoch (canon_setMember (canon_reach hc))))))

theorem canon_mringPut {m i : Nat} {list : List Byte} (hc : s.Canonical) : (s.mringPut m i list).Canonical :=
  canon_ite (canon_countSat _ _ _ _ _ hc) (canon_ite (canon_countWrap (canon_busWrite (canon_busWrite (canon_busWrite hc)))) (canon_msix
    (canon_update (canon_countWrap (canon_busWrite (canon_busWrite (canon_busWrite hc)))))))

theorem canon_onList {h : LinkHdr} {bytes : List Byte} (hc : s.Canonical) : (s.onList h bytes).Canonical :=
  canon_ite hc (canon_ite (canon_mringPut (canon_update hc)) (canon_update hc))

theorem canon_mringCons {m : Nat} {v : W32} (hc : s.Canonical) : (s.mringCons m v).Canonical :=
  canon_ite (canon_setReg _ _ _ hc) (canon_setBit _ _ _ _ hc)

theorem canon_onDetFwd {p : Nat} {h : LinkHdr} {dets : List FwdDet} (hc : s.Canonical) : (s.onDetFwd p h dets).Canonical :=
  canon_ite (canon_violate hc) (canon_foldl _ _ _ hc (fun _ _ h => canon_ite h (canon_ite (canon_countSat _ _ _ _ _ h) (canon_detEnter
    h))))

theorem canon_onDetClaim {p : Nat} {claims : List Claim} (hc : s.Canonical) : (s.onDetClaim p claims).Canonical :=
  canon_ite (canon_violate hc) (canon_update hc)

theorem canon_borderHold (hc : s.Canonical) : s.borderHold.Canonical := canon_ite hc (canon_births (canon_update hc))

theorem canon_installAll {n : Nat} {x0 : List (List Byte)} (hc : s.Canonical) : (s.installAll n x0).Canonical := by
  have hinstall (l : List (List Byte)) (o : Option State) (ho : ∀ u, o = some u → u.Canonical) (t : State)
      (h : l.foldl (fun o e => o.bind (fun s => s.installEntry n e)) o = some t) : t.Canonical := by
    induction l generalizing o with
    | nil => exact ho t h
    | cons e l ih =>
      refine ih _ (fun u hu => ?_) h
      obtain ⟨v, hv, hu⟩ := Option.bind_eq_some_iff.1 hu
      exact canon_installEntry (ho v hv) hu
  induction x0 generalizing s with
  | nil => exact hc
  | cons e r ih =>
    unfold State.installAll
    split
    · next heq => exact hinstall _ _ (fun u hu => Option.some.inj hu ▸ hc) _ heq
    · exact ih (canon_setSeqFlag hc)

theorem canon_dropInstall {gid : Nat} (hc : s.Canonical) : (s.dropInstall gid).Canonical := by
  unfold State.dropInstall
  grind -ring -linarith -lia -ac -order [canon_doClose, canon_fldCmd, canon_giveSlot, canon_update]

theorem canon_handAnswer {n gid step status : Nat} (hc : s.Canonical) : (s.handAnswer n gid step status).Canonical := canon_sendDev hc

theorem canon_installHand {src step : Nat} {c : TrackCopy} (hc : s.Canonical) : (s.installHand src step c).2.Canonical := by
  unfold State.installHand
  grind -ring -linarith -lia -ac -order [canon_countWrap, canon_setTrk, canon_openTrack, canon_installAll, canon_dropInstall, canon_update]

theorem canon_onHand {p : Nat} {h : LinkHdr} {c : TrackCopy} (hc : s.Canonical) : (s.onHand p h c).Canonical :=
  canon_ite (canon_handAnswer (canon_violate hc)) (canon_handAnswer (canon_installHand hc))

theorem canon_onHandAck {src gid status : Nat} (hc : s.Canonical) : (s.onHandAck src gid status).Canonical := by
  unfold State.onHandAck
  grind -ring -linarith -lia -ac -order [canon_countSat, canon_setTrk, canon_handEvent, canon_update]

theorem canon_handDeadline {n k : Nat} {f : State → Handing → State} (hc : s.Canonical) (hf : ∀ s g, s.Canonical → (f s g).Canonical) :
    (s.handDeadline n k f).Canonical := by
  unfold State.handDeadline
  grind -ring -linarith -lia -ac -order [canon_reach]

theorem canon_doSlkCmd {w : W32} (hc : s.Canonical) : (s.doSlkCmd w).Canonical := by
  unfold State.doSlkCmd
  grind -ring -linarith -lia -ac -order [canon_status, canon_unlessBusy, canon_setVrec, canon_setLinkPort, canon_sendPair,
    canon_enterSyncing, canon_startBringUp, canon_update]

/-! ### Machine/LathCheck.lean -/

theorem canon_lthRead {a n : Nat} (hc : s.Canonical) : (s.lthRead a n).2.Canonical := canon_ite_snd hc (canon_busRead hc)

theorem canon_weightsFrom {k : Nat} {x0 : List (List Byte)} (hc : s.Canonical) : (s.weightsFrom k x0).2.Canonical := by
  induction x0 generalizing s k with
  | nil => exact hc
  | cons r rs ih =>
    have hread := canon_lthRead (a := u r 0 8) (n := u r 8 8) hc
    unfold State.weightsFrom
    split
    · next heq => rw [heq] at hread; exact hread
    · next heq => rw [heq] at hread; exact canon_ite_snd (ih hread) hread

theorem canon_afterRegs {img : List Byte} (hc : s.Canonical) : (s.afterRegs img).Canonical :=
  canon_foldl _ _ _ hc (fun _ _ h => canon_setReg _ _ _ h)

/-! ### Machine/Lath.lean -/

theorem canon_retainedWrite {a : Nat} {bs : List Byte} (hc : s.Canonical) : (s.retainedWrite a bs).2.Canonical :=
  canon_updateMem hc.1 (canon_rawStore hc)

theorem canon_retainedRead {a n : Nat} (hc : s.Canonical) : (s.retainedRead a n).2.Canonical := canon_ite_snd hc (canon_checkRead hc)

theorem canon_putReason {f : Option Fail} (hc : s.Canonical) : (s.putReason f).Canonical := by
  unfold State.putReason
  grind -ring -linarith -lia -ac -order [canon_setReg, canon_draw]

theorem canon_lthDone {status : Nat} (hc : s.Canonical) : (s.lthDone status).Canonical :=
  canon_msix (canon_setBit _ _ _ _ (canon_status _ _ _ (canon_update hc)))

theorem canon_loadStop {status : Nat} {f : Option Fail} (hc : s.Canonical) : (s.loadStop status f).Canonical :=
  canon_lthDone (canon_countSat _ _ _ _ _ (canon_putReason (canon_setReg _ _ _ (canon_update hc))))

theorem canon_loadRefuse {f : Fail} (hc : s.Canonical) : (s.loadRefuse f).Canonical :=
  canon_countSat _ _ _ _ _ (canon_putReason (canon_status _ _ _ hc))

theorem canon_doLoad (hc : s.Canonical) : s.doLoad.Canonical := by
  unfold State.doLoad
  grind -ring -linarith -lia -ac -order [canon_setReg, canon_setFld, canon_setBit, canon_unlessBusy, canon_lthRead, canon_retainedWrite,
    canon_loadStop, canon_loadRefuse, canon_update]

theorem canon_discardTile {t : Nat} {code : Nat} (hc : s.Canonical) : (s.discardTile t code).Canonical :=
  canon_foldl _ _ _ (canon_setTile (canon_noWait (canon_noWait hc))) (fun _ _ h => canon_cmdComplete h)

theorem canon_discardBatch {x : Batch} {code : Nat} (hc : s.Canonical) : (s.discardBatch x code).Canonical :=
  canon_ite (canon_emit _ _ (canon_setReg _ _ _ (canon_noWait (canon_update hc)))) (canon_raiseSig (canon_emit _ _ (canon_setReg _ _ _
    (canon_noWait (canon_update hc)))))

theorem canon_discardWork (hc : s.Canonical) : s.discardWork.Canonical :=
  canon_update (canon_foldl _ _ _ (canon_foldl _ _ _ (canon_foldl _ _ _ hc (fun _ _ h => canon_ite h (canon_endProg (canon_foldl _ _ _ h
    (fun _ _ h' => canon_partMove h'))))) (fun _ _ h => canon_discardTile h)) (fun _ _ h => canon_discardBatch h))

theorem canon_clearDescs (hc : s.Canonical) : s.clearDescs.Canonical := canon_update (canon_clearRegs _ _ _ hc)

theorem canon_emptyRings (hc : s.Canonical) : s.emptyRings.Canonical :=
  canon_ite (canon_foldl _ _ _ hc (fun _ _ h => canon_store _ _ _ h)) (canon_foldl _ _ _ (canon_foldl _ _ _ hc (fun _ _ h => canon_store _
    _ _ h)) (fun _ _ h => canon_store _ _ _ h))

theorem canon_resetFold (hc : s.Canonical) : s.resetFold.Canonical :=
  canon_update (canon_setReg _ _ _ (canon_foldl _ _ _ (canon_wipe _ _ _ (canon_wipe _ _ _ (canon_wipe _ _ _ (canon_wipe _ _ _ hc)))) (fun _
    _ h => canon_setReg _ _ _ (canon_setReg _ _ _ h))))

theorem canon_lthReg {off : Nat} {v : W32} (hc : s.Canonical) : (s.lthReg off v).Canonical :=
  canon_ite (canon_setFld _ _ _ _ _ hc) (canon_setReg _ _ _ hc)

theorem canon_applyHurdles {ct : Content} (hc : s.Canonical) : (s.applyHurdles ct).Canonical := canon_update hc

theorem canon_applyRegs {img : List Byte} {resume : Bool} (hc : s.Canonical) : (s.applyRegs img resume).Canonical :=
  canon_update (canon_foldl _ _ _ (canon_update hc) (fun _ _ h => canon_ite h (canon_lthReg h)))

theorem canon_placeTiles {ct : Content} {less : Bool} (hc : s.Canonical) : (s.placeTiles ct less).Canonical := by
  unfold State.placeTiles
  exact canon_foldl _ _ _ hc fun _ _ h => canon_setPower (canon_setTile (canon_ite h (canon_updateMem (memZero_wf _ _ _ h.1) h)))

theorem canon_loadTiles {ct : Content} (hc : s.Canonical) : (s.loadTiles ct).Canonical :=
  canon_foldl _ _ _ hc (fun _ _ h => canon_ite (canon_store _ _ _ h) h)

theorem canon_swapDead {ct : Content} (hc : s.Canonical) : (s.swapDead ct).Canonical :=
  canon_nextSwap (canon_update (canon_foldl _ _ _ (canon_update (canon_setCond (canon_setReg _ _ _ hc))) (fun _ _ h => canon_ite
    (canon_raiseSwap h) h)))

theorem canon_applyTables {ct : Content} (hc : s.Canonical) : (s.applyTables ct).Canonical :=
  canon_foldl _ _ _ (canon_update (canon_update hc)) (fun _ _ h => canon_armSet (canon_addRefs (canon_setRegBytes _ _ _ (canon_setRegBytes
    _ _ _ h))))

theorem canon_applySlots {img : List Byte} {ct : Content} (hc : s.Canonical) : (s.applySlots img ct).Canonical :=
  canon_foldl _ _ _ (canon_foldl _ _ _ (canon_clearExp (canon_clearRegs _ _ _ (canon_setBit _ _ _ _ (canon_foldl _ _ _ (canon_update hc)
    (fun _ _ h => canon_calEvent h))))) (fun _ _ h => canon_setFld _ _ _ _ _ h)) (fun _ _ h => canon_setRegBytes _ _ _ h)

theorem canon_applyFusion {ct : Content} {resume : Bool} (hc : s.Canonical) : (s.applyFusion ct resume).Canonical := by
  unfold State.applyFusion
  grind -ring -linarith -lia -ac -order [canon_setReg, canon_setFld, canon_setRegBytes, canon_setQuotas, canon_putSched, canon_foldl,
    canon_update]

theorem canon_ownPasture (hc : s.Canonical) : s.ownPasture.Canonical := by
  unfold State.ownPasture
  grind -ring -linarith -lia -ac -order [canon_setReg]

theorem canon_applyLinks {img : List Byte} {ct : Content} (hc : s.Canonical) : (s.applyLinks img ct).Canonical :=
  canon_foldl _ _ _ (canon_ownPasture (canon_setFld _ _ _ _ _ (canon_setReg _ _ _ (canon_update (canon_update hc))))) (fun _ _ h =>
    canon_setLinkPort h)

theorem canon_applySections {img : List Byte} {ct : Content} {resume : Bool} (hc : s.Canonical) :
    (s.applySections img ct resume).Canonical :=
  canon_swapDead (canon_update (canon_refreshDoms (canon_followSource (canon_applyLinks (canon_applyFusion (canon_applySlots
    (canon_applyTables (canon_loadTiles (canon_placeTiles (canon_update (canon_setBit _ _ _ _ (canon_ite (canon_applyRegs
    (canon_applyHurdles hc)) (canon_resetFold (canon_applyRegs (canon_applyHurdles hc)))))))))))))))

theorem canon_enterApplied (hc : s.Canonical) : s.enterApplied.Canonical :=
  canon_pllStops (canon_setDomains (canon_update (canon_setReg _ _ _ hc)))

theorem canon_applyImage {img : List Byte} {ct : Content} (hc : s.Canonical) : (s.applyImage img ct).Canonical :=
  canon_enterApplied (canon_update (canon_emptyRings (canon_applySections (canon_foldl _ _ _ (canon_update (canon_clearDescs
    (canon_discardWork (canon_setReg _ _ _ hc)))) (fun _ _ h => canon_setReg _ _ _ h)))))

theorem canon_runLoad (hc : s.Canonical) : s.runLoad.Canonical := by
  have hstop (u : State) (p : Nat) (code : Nat) (f : Option Fail) (h : u.Canonical) :
      ((u.setFld Reg.LTH_CMD_ST 8 4 p).loadStop code f).Canonical := canon_loadStop (canon_setFld _ _ _ _ _ h)
  unfold State.runLoad
  extract_lets img phase stop
  have hread := canon_retainedRead (a := s.stagingBase) (n := img.length) hc
  split
  · next heq => rw [heq] at hread; exact hstop _ _ _ _ hread
  · next u heq =>
    rw [heq] at hread
    split
    · exact hstop _ _ _ _ hread
    · split
      · exact hstop _ _ _ _ hread
      · split
        · exact hstop _ _ _ _ hread
        · next plain _ =>
          extract_lets ct u₁
          have h₁ : u₁.Canonical := canon_setReg _ _ _ hread
          split
          · exact hstop _ _ _ _ h₁
          · have hweights := canon_weightsFrom (k := 0) (x0 := records plain 0x000B) h₁
            split
            · next heq => rw [heq] at hweights; exact hstop _ _ _ _ hweights
            · next heq => rw [heq] at hweights; exact hstop _ _ _ _ hweights
            · next heq =>
              rw [heq] at hweights
              split
              · exact hstop _ _ _ _ hweights
              · extract_lets u₂
                have h₂ : u₂.Canonical := canon_setFld _ _ _ _ _ hweights
                have hagain := canon_retainedRead (a := u₂.stagingBase) (n := plain.length) h₂
                split
                · next heq => rw [heq] at hagain; exact canon_update (canon_setReg _ _ _ (canon_update (canon_loadStop hagain)))
                · next heq =>
                  rw [heq] at hagain
                  exact canon_lthDone (canon_countSat _ _ _ _ _ (canon_setReg _ _ _ (canon_applyImage hagain)))

theorem canon_loadEnd (hc : s.Canonical) : s.loadEnd.Canonical := canon_ite (canon_runLoad hc) hc

theorem canon_doAbort (hc : s.Canonical) : s.doAbort.Canonical := canon_ite (canon_loadStop hc) hc

theorem canon_doRbAdvance (hc : s.Canonical) : s.doRbAdvance.Canonical :=
  canon_unlessBusy _ _ _ _ hc (canon_ite (canon_status _ _ _ hc) (canon_ite (canon_lthDone hc) (canon_setBit _ _ _ _ (canon_update hc))))

theorem canon_rbDone (hc : s.Canonical) : s.rbDone.Canonical := canon_ite hc (canon_lthDone (canon_update hc))

theorem canon_toNone  (hc : s.Canonical) : s.toNone.Canonical := by
  unfold State.toNone
  extract_lets _ s₁ s₂ _ _ s₃ s₄
  have h₂ : s₂.Canonical := canon_foldl _ _ _ (canon_update hc) fun _ _ h => canon_setPower h
  have h₃ : s₃.Canonical := canon_updateMem (memZero_wf _ _ _ h₂.1) h₂
  exact canon_pllStops (canon_setDomains (canon_setReg _ _ _ h₃))

theorem canon_doUnload (hc : s.Canonical) : s.doUnload.Canonical :=
  canon_unlessBusy _ _ _ _ hc (canon_ite (canon_status _ _ _ hc) (canon_lthDone (canon_toNone (canon_emptyRings (canon_resetFold
    (canon_clearDescs (canon_discardWork hc)))))))

theorem canon_resumeFail (hc : s.Canonical) : s.resumeFail.Canonical :=
  canon_lthDone (canon_putReason (canon_event _ _ _ _ _ _ (canon_toNone (canon_update hc))))

theorem canon_resume (hc : s.Canonical) : s.resume.Canonical := by
  unfold State.resume
  grind -ring -linarith -lia -ac -order [canon_tacRebuild, canon_foldResume, canon_doRun, canon_weightsFrom, canon_retainedRead,
    canon_lthDone, canon_clearDescs, canon_applySections, canon_enterApplied, canon_resumeFail, canon_update]

/-! ### Machine/Integrity.lean -/

theorem canon_sramFilled (hc : s.Canonical) : s.sramFilled.Canonical :=
  canon_ite (canon_setBit _ _ _ _ (canon_setBit _ _ _ _ hc)) (canon_newDramKey (canon_setBit _ _ _ _ hc))

theorem canon_dramFilled (hc : s.Canonical) : s.dramFilled.Canonical :=
  canon_setFld _ _ _ _ _ (canon_setBit _ _ _ _ (canon_update (canon_draw hc)))

theorem canon_memFill {sram dram : Bool} (hc : s.Canonical) : (s.memFill sram dram).Canonical :=
  canon_ite hc (canon_ite (canon_dramFilled (canon_ite (canon_sramFilled hc) hc)) (canon_ite (canon_sramFilled hc) hc))

theorem canon_lapTarget {v code sev : Nat} (hc : s.Canonical) : (s.lapTarget v code sev).Canonical :=
  canon_ite hc (canon_event _ _ _ _ _ _ (canon_setReg _ _ _ hc))

theorem canon_lapUnit (hc : s.Canonical) : s.lapUnit.Canonical :=
  canon_ite (canon_update hc) (canon_ite (canon_lapTarget (canon_update (canon_countWrap (canon_setReg _ _ _ hc)))) (canon_update
    (canon_countWrap (canon_setReg _ _ _ hc))))

theorem canon_scrubFinds {id array loc n : Nat} (hc : s.Canonical) : (s.scrubFinds id array loc n).Canonical :=
  canon_ite hc (canon_ite (canon_corrected (canon_ite (canon_countSat _ _ _ _ _ hc) hc)) (canon_uncorrectable (canon_ite (canon_countSat _
    _ _ _ _ hc) hc)))

theorem canon_scrub {l : MemLoc} (hc : s.Canonical) : (s.scrub l).Canonical := by
  unfold State.scrub
  grind -ring -linarith -lia -ac -order [canon_lapUnit, canon_scrubFinds]

theorem canon_islandScrub {off n : Nat} (hc : s.Canonical) : (s.islandScrub off n).Canonical := canon_ite hc (canon_scrubFinds hc)

theorem canon_adaptPeriod (hc : s.Canonical) : s.adaptPeriod.Canonical :=
  canon_ite hc (canon_ite (canon_lapTarget (canon_update (canon_update (canon_reach hc)))) (canon_update (canon_reach hc)))

theorem canon_ceReport (hc : s.Canonical) : s.ceReport.Canonical :=
  canon_ite hc (canon_ite (canon_update (canon_reach hc)) (canon_event _ _ _ _ _ _ (canon_update (canon_reach hc))))

theorem canon_swapRow {a row : Nat} (hc : s.Canonical) : (s.swapRow a row).Canonical := canon_update (canon_ite (canon_zero _ _ _ hc) hc)

theorem canon_doRetire (hc : s.Canonical) : s.doRetire.Canonical :=
  canon_unlessBusy _ _ _ _ hc (canon_ite (canon_status _ _ _ hc) (canon_status _ _ _ (canon_ite (canon_event _ _ _ _ _ _ (canon_ite
    (canon_swapRow (canon_countWrap (canon_update hc))) (canon_countWrap (canon_update hc)))) (canon_ite (canon_swapRow (canon_countWrap
    (canon_update hc))) (canon_countWrap (canon_update hc))))))

theorem canon_doMemInject {w : W32} (hc : s.Canonical) : (s.doMemInject w).Canonical := canon_ite (canon_update hc) hc

theorem canon_portOverrun {p : Nat} (hc : s.Canonical) : (s.portOverrun p).Canonical :=
  canon_foldl _ _ _ hc (fun _ _ h => canon_foldl _ _ _ h (fun _ _ h' => canon_ite h' (canon_overrun h')))

theorem canon_fifoWrite {f : FifoId} {w : W64} (hc : s.Canonical) : (s.fifoWrite f w).Canonical := by
  unfold State.fifoWrite
  grind -ring -linarith -lia -ac -order [canon_fifoPut, canon_portOverrun]

theorem canon_fifoRead {f : FifoId} (hc : s.Canonical) : (s.fifoRead f).Canonical := by
  unfold State.fifoRead
  grind -ring -linarith -lia -ac -order [canon_emit, canon_hostAccessN, canon_fifoGet, canon_pfRead]

/-! ### Machine/SecOps.lean -/

theorem canon_setOtp {o : Otp} (hc : s.Canonical) : (s.setOtp o).Canonical := canon_update hc

theorem canon_secRefusal {kind status : Nat} (hc : s.Canonical) : (s.secRefusal kind status).Canonical :=
  canon_ite (canon_event _ _ _ _ _ _ (canon_update hc)) hc

theorem canon_lifeEvent {old : Nat} (hc : s.Canonical) : (s.lifeEvent old).Canonical := canon_event _ _ _ _ _ _ hc

theorem canon_showIdentity (hc : s.Canonical) : s.showIdentity.Canonical := by
  unfold State.showIdentity
  grind -ring -linarith -lia -ac -order [canon_setReg, canon_foldl]

theorem canon_newIdentity {gen : Nat} (hc : s.Canonical) : (s.newIdentity gen).Canonical := by
  unfold State.newIdentity
  exact canon_showIdentity (canon_update (canon_setOtp (canon_draw hc)))

theorem canon_useChallenge (hc : s.Canonical) : s.useChallenge.Canonical :=
  canon_update (canon_foldl _ _ _ hc (fun _ _ h => canon_setReg _ _ _ h))

theorem canon_zeroiseKeys (hc : s.Canonical) : s.zeroiseKeys.Canonical := canon_update (canon_useChallenge hc)

theorem canon_zeroiseLive  (hc : s.Canonical) : s.zeroiseLive.Canonical := by
  unfold State.zeroiseLive
  extract_lets s₁ _ _ s₂ s₃ s₄ s₅
  have h₂ : s₂.Canonical := canon_cycleStopped (canon_update (canon_doStop (canon_zeroiseKeys hc)))
  have h₃ : s₃.Canonical := canon_ite (canon_lthDone h₂) h₂
  have h₄ : s₄.Canonical := canon_ite h₃ (canon_toNone (canon_resetFold (canon_clearDescs (canon_discardWork h₃))))
  have h₅ : s₅.Canonical := canon_setEvtEn h₄
  exact canon_updateMem (SMap.wf_filter _ h₅.1) (canon_newDramKey (canon_setBit _ _ _ _ h₅))

theorem canon_unlock {level slot : Nat} (hc : s.Canonical) : (s.unlock level slot).Canonical :=
  canon_event _ _ _ _ _ _ (canon_update (canon_ite (canon_update (canon_setCond (canon_setReg _ _ _ (canon_zeroiseLive hc)))) hc))

theorem canon_revokeSlot {k : Nat} (hc : s.Canonical) : (s.revokeSlot k).Canonical := canon_event _ _ _ _ _ _ (canon_setOtp hc)

theorem canon_reprov (hc : s.Canonical) : s.reprov.Canonical := canon_lifeEvent (canon_newIdentity (canon_setOtp hc))

theorem canon_signedRun {b : List Byte} (hc : s.Canonical) : (s.signedRun b).2.Canonical := by
  unfold State.signedRun
  grind -ring -linarith -lia -ac -order [canon_useChallenge, canon_unlock, canon_revokeSlot, canon_reprov]

theorem canon_provRun {b : List Byte} (hc : s.Canonical) : (s.provRun b).2.Canonical :=
  canon_ite_snd hc (canon_lifeEvent (canon_setOtp (canon_newIdentity hc)))

theorem canon_importRun {b : List Byte} (hc : s.Canonical) : (s.importRun b).2.Canonical := canon_ite_snd hc (canon_update hc)

theorem canon_attestRun (hc : s.Canonical) : s.attestRun.2.Canonical := by
  unfold State.attestRun
  grind -ring -linarith -lia -ac -order [canon_draw, canon_busWrite]

theorem canon_cutBurn (hc : s.Canonical) : s.cutBurn.Canonical := by
  unfold State.cutBurn
  grind -ring -linarith -lia -ac -order [canon_draw, canon_setOtp, canon_signedRun, canon_provRun]

/-! ### Machine/Boot.lean -/

theorem canon_resetPins {old : State} {cold : Bool} (hc : s.Canonical) : (s.resetPins old cold).Canonical := by
  unfold State.resetPins
  grind -ring -linarith -lia -ac -order [canon_setBit, canon_emit, canon_update]

theorem canon_coldReset {pin : Bool} {cause : Nat} (hc : s.Canonical) : (s.coldReset pin cause).Canonical :=
  canon_resetPins (canon_powerOn (canon_cutBurn hc))

theorem canon_bistResult {tiles : List (Fin 34)} {lanes : List (Fin 32)} (hc : s.Canonical) : (s.bistResult tiles lanes).Canonical :=
  canon_update (canon_foldl _ _ _ (canon_foldl _ _ _ hc (fun _ _ h => canon_ite (canon_setBit _ _ _ _ h) (canon_setBit _ _ _ _ h))) (fun _
    _ h => canon_setBit _ _ _ _ h))

theorem canon_startUp {sel : BitVec 2} {o : BootOutcome} (hc : s.Canonical) : (s.startUp sel o).Canonical :=
  canon_showIdentity (canon_update (canon_setReg _ _ _ (canon_setReg _ _ _ (canon_draw (canon_draw (canon_bistResult (canon_update
    (canon_pllStops (canon_setDomains hc)))))))))

theorem canon_warmReset {cause : Nat} (hc : s.Canonical) : (s.warmReset cause).Canonical :=
  canon_resetPins (canon_update (canon_pllStops (canon_setDomains (canon_warm (canon_cutBurn hc)))))

/-! ### Machine/Sec.lean -/

theorem canon_alarmNote {k : Nat} (hc : s.Canonical) : (s.alarmNote k).Canonical :=
  canon_ite (canon_setRegBytes _ _ _ (canon_countSat _ _ _ _ _ hc)) (canon_event _ _ _ _ _ _ (canon_update (canon_setRegBytes _ _ _
    (canon_countSat _ _ _ _ _ hc))))

theorem canon_lockBurn (hc : s.Canonical) : s.lockBurn.Canonical := canon_ite hc (canon_lifeEvent (canon_setOtp hc))

theorem canon_alarmVoid (hc : s.Canonical) : s.alarmVoid.Canonical := by
  unfold State.alarmVoid
  grind -ring -linarith -lia -ac -order [canon_cutBurn, canon_update]

theorem canon_alarm {srcs : List Nat} (hc : s.Canonical) : (s.alarm srcs).Canonical := by
  unfold State.alarm
  refine canon_ite hc ?_
  extract_lets p t _ _
  have ht : t.Canonical := canon_foldl _ _ _ hc fun _ _ h => canon_alarmNote h
  clear_value p t
  split
  · exact canon_alarmVoid ht
  · exact canon_warmReset ht
  · exact canon_startUp (canon_coldReset (canon_zeroiseKeys ht))
  · exact canon_startUp (canon_coldReset (canon_lockBurn (canon_zeroiseKeys ht)))

theorem canon_alarmPolicy {v : W32} (hc : s.Canonical) : (s.alarmPolicy v).Canonical :=
  canon_foldl _ _ _ hc (fun _ _ h => canon_ite h (canon_setFld _ _ _ _ _ h))

theorem canon_doClear (hc : s.Canonical) : s.doClear.2.Canonical := canon_update hc

theorem canon_doBind (hc : s.Canonical) : s.doBind.2.Canonical := canon_ite_snd hc (canon_update hc)

theorem canon_doUnbind (hc : s.Canonical) : s.doUnbind.2.Canonical := canon_ite_snd (canon_update hc) hc

theorem canon_doSelectTx (hc : s.Canonical) : s.doSelectTx.2.Canonical := canon_ite_snd (canon_update hc) hc

theorem canon_doChallenge (hc : s.Canonical) : s.doChallenge.2.Canonical :=
  canon_ite_snd hc (canon_update (canon_foldl _ _ _ hc (fun _ _ h => canon_setReg _ _ _ (canon_draw h))))

theorem canon_secStart {op : Nat} (hc : s.Canonical) : (s.secStart op).Canonical :=
  canon_setBit _ _ _ _ (canon_update (canon_ite_snd hc (canon_busRead hc)))

theorem canon_doSecCmd {w : W32} (hc : s.Canonical) : (s.doSecCmd w).Canonical := by
  unfold State.doSecCmd
  grind -ring -linarith -lia -ac -order [canon_status, canon_unlessBusy, canon_zeroiseLive, canon_doClear, canon_doBind, canon_doUnbind,
    canon_doSelectTx, canon_doChallenge, canon_secStart]

theorem canon_secRun {b : SecBusy} (hc : s.Canonical) : (s.secRun b).2.Canonical := by
  unfold State.secRun
  grind -ring -linarith -lia -ac -order [canon_useChallenge, canon_signedRun, canon_provRun, canon_importRun, canon_attestRun]

theorem canon_authCount {op code : Nat} (hc : s.Canonical) : (s.authCount op code).Canonical :=
  canon_ite (canon_ite (canon_countSat _ _ _ _ _ hc) hc) (canon_ite (canon_update (canon_ite (canon_countSat _ _ _ _ _ hc) hc)) (canon_ite
    (canon_update (canon_ite (canon_countSat _ _ _ _ _ hc) hc)) (canon_alarm (canon_update (canon_ite (canon_countSat _ _ _ _ _ hc) hc)))))

theorem canon_secDone (hc : s.Canonical) : s.secDone.Canonical := by
  unfold State.secDone
  grind -ring -linarith -lia -ac -order [canon_setBit, canon_msix, canon_status, canon_secRefusal, canon_secRun, canon_authCount,
    canon_update]

/-! ### Machine/Power.lean -/

theorem canon_pwrAccept {dest : PwrTo} (hc : s.Canonical) : (s.pwrAccept dest).Canonical := canon_setBit _ _ _ _ (canon_startPwr hc)

theorem canon_doPwrCmd {w : W32} (hc : s.Canonical) : (s.doPwrCmd w).Canonical := by
  unfold State.doPwrCmd
  grind -ring -linarith -lia -ac -order [canon_status, canon_unlessBusy, canon_pwrAccept, canon_update]

theorem canon_enterStandby  (hc : s.Canonical) : s.enterStandby.Canonical := by
  unfold State.enterStandby
  extract_lets act s₁ s₂ s₃ _ s₄
  have h₁ : s₁.Canonical := canon_foldl _ _ _ hc fun _ _ h => canon_setTile (canon_discardTile h)
  have h₂ : s₂.Canonical := canon_foldl _ _ _ h₁ fun _ _ h => canon_linkDown h
  have h₃ : s₃.Canonical := canon_foldl _ _ _ h₂ fun _ _ h => canon_ite h (canon_ethLink h)
  have h₄ : s₄.Canonical := canon_updateMem (memZero_wf _ _ _ h₃.1) h₃
  exact canon_setFld _ _ _ _ _ (canon_pllStops (canon_setDomains h₄))

theorem canon_leaveStandby  (hc : s.Canonical) : s.leaveStandby.Canonical := by
  unfold State.leaveStandby
  extract_lets was s₁ s₂
  have h₁ : s₁.Canonical := canon_foldl _ _ _ hc fun _ _ h => canon_setTile h
  have h₂ : s₂.Canonical := canon_setDomains h₁
  exact canon_updateMem (memZero_wf _ _ _ h₂.1) (canon_setFld _ _ _ _ _ h₂)

theorem canon_wakeStart {src : Nat} (hc : s.Canonical) : (s.wakeStart src).Canonical :=
  canon_emit _ _ (canon_update (canon_setFld _ _ _ _ _ hc))

theorem canon_enterSentinel  (hc : s.Canonical) : s.enterSentinel.Canonical := by
  unfold State.enterSentinel
  extract_lets s₁ _ _ s₂ _ s₃
  have h₁ : s₁.Canonical := canon_setFld _ _ _ _ _ (canon_pllStops (canon_setDomains hc))
  have h₂ : s₂.Canonical := canon_ite h₁ (canon_updateMem rfl (canon_zeroiseKeys h₁))
  exact canon_ite (canon_update h₂) (canon_wakeStart (canon_update h₂))

theorem canon_pwrDone (hc : s.Canonical) : s.pwrDone.Canonical := by
  unfold State.pwrDone
  grind -ring -linarith -lia -ac -order [canon_setBit, canon_msix, canon_status, canon_enterStandby, canon_leaveStandby,
    canon_enterSentinel, canon_update]

theorem canon_wakeBy {src : Nat} (hc : s.Canonical) : (s.wakeBy src).Canonical :=
  canon_ite (canon_ite (canon_update hc) hc) (canon_ite (canon_wakeStart hc) hc)

theorem canon_suppliesOk (hc : s.Canonical) : s.suppliesOk.Canonical :=
  canon_ite (canon_update hc) (canon_ite (canon_update (canon_warmReset (canon_update hc))) (canon_update (canon_setFld _ _ _ _ _
    (canon_startUp (canon_coldReset (canon_update (canon_update hc)))))))

theorem canon_tileRst {t : Nat} (hc : s.Canonical) : (s.tileRst t).Canonical := by
  unfold State.tileRst
  extract_lets s₁ x s₂
  have h₂ : s₂.Canonical := canon_setTile (canon_discardTile hc)
  exact canon_updateMem (memZero_wf _ _ _ h₂.1) h₂

theorem canon_doRstCmd {w : W32} (hc : s.Canonical) : (s.doRstCmd w).Canonical := by
  unfold State.doRstCmd
  grind -ring -linarith -lia -ac -order [canon_setBit, canon_accel, canon_status, canon_unlessBusy, canon_warmReset, canon_tileRst]

/-! ### Machine/Access.lean -/

theorem canon_seqReg {v : W32} (hc : s.Canonical) : (s.seqReg v).Canonical := by
  unfold State.seqReg
  grind -ring -linarith -lia -ac -order [canon_doOpen, canon_doFallow, canon_doActivate, canon_doClose, canon_tacReg]

theorem canon_flockReg {v : W32} (hc : s.Canonical) : (s.flockReg v).Canonical := by
  unfold State.flockReg
  grind -ring -linarith -lia -ac -order [canon_doFlockCreate, canon_doSetQuota, canon_doDisable, canon_tacReg]

theorem canon_slotReg {v : W32} (hc : s.Canonical) : (s.slotReg v).Canonical := by
  unfold State.slotReg
  grind -ring -linarith -lia -ac -order [canon_slotCmd, canon_doAdmit, canon_doSlotRelease, canon_doReadmit, canon_doSlotQuar]

theorem canon_calReg {v : W32} (hc : s.Canonical) : (s.calReg v).Canonical :=
  canon_ite (canon_calCmd hc) (canon_unlessBusy _ _ _ _ hc (canon_status _ _ _ (canon_setFld _ _ _ _ _ hc)))

theorem canon_descReg {id : Nat} {v : W32} (hc : s.Canonical) : (s.descReg id v).Canonical := by
  unfold State.descReg
  grind -ring -linarith -lia -ac -order [canon_descStatus, canon_doDescCreate, canon_doDescDestroy]

theorem canon_chanReg {id n : Nat} {v : W32} (hc : s.Canonical) : (s.chanReg id n v).Canonical :=
  canon_ite (canon_doAbortProg (canon_ite (canon_doGoProg hc) hc)) (canon_ite (canon_doGoProg hc) hc)

theorem canon_featReg {v : W32} (hc : s.Canonical) : (s.featReg v).Canonical :=
  canon_ite (canon_status _ _ _ hc) (canon_ite (canon_doGo hc) (canon_ite (canon_doUnlockFeat hc) hc))

theorem canon_lthCmd {v : W32} (hc : s.Canonical) : (s.lthCmd v).Canonical := by
  unfold State.lthCmd
  grind -ring -linarith -lia -ac -order [canon_status, canon_unlessBusy, canon_doLoad, canon_doAbort, canon_doRbAdvance, canon_doUnload]

theorem canon_runCommand {id off : Nat} {v : W32} (hc : s.Canonical) : (s.runCommand id off v).Canonical := by
  unfold State.runCommand
  exact canon_ite (canon_featReg hc) (canon_ite (canon_doPwrCmd hc) (canon_ite (canon_doRstCmd hc) (canon_ite (canon_slotReg hc) (canon_ite
    (canon_calReg hc) (canon_ite (canon_ite (canon_doBistReq hc) hc) (canon_ite (canon_descReg hc) (canon_ite (canon_doSignalRaise hc)
    (canon_ite (canon_seqReg hc) (canon_ite (canon_pgtReg hc) (canon_ite (canon_flockReg hc) (canon_ite (canon_doTrackCmd hc) (canon_ite
    (canon_ite (canon_doBatchDoorbell hc) hc) (canon_ite (canon_doBseInject hc) (canon_ite (canon_cadenceReq hc) (canon_ite (canon_lthCmd
    hc) (canon_ite (canon_ite (canon_doRetire hc) (canon_unlessBusy _ _ _ _ hc (canon_status _ _ _ hc))) (canon_ite (canon_doMemInject hc)
    (canon_ite (canon_doSafCmd hc) (canon_ite (canon_doSlkCmd hc) (canon_ite (canon_doSecCmd hc) (canon_ite (canon_ite (canon_doDoorbell
    hc) hc) (canon_ite (canon_doTileInject hc) (canon_ite (canon_ite (canon_doCommit hc) hc) (canon_ite (canon_chanReg hc)
    hc))))))))))))))))))))))))

theorem canon_cmdSlot {off : Nat} {v : W32} (hc : s.Canonical) : (s.cmdSlot off v).Canonical :=
  canon_ite (canon_setFld _ _ _ _ _ hc) (canon_ite (canon_setFld _ _ _ _ _ hc) hc)

theorem canon_command {id off : Nat} {v mask : W32} (hc : s.Canonical) : (s.command id off v mask).Canonical := by
  unfold State.command
  grind -ring -linarith -lia -ac -order [canon_status, canon_runCommand, canon_cmdSlot]

theorem canon_writeClear {off : Nat} {v mask : W32} (hc : s.Canonical) : (s.writeClear off v mask).Canonical :=
  canon_ite (canon_setFifo (canon_setReg _ _ _ hc)) (canon_setReg _ _ _ hc)

theorem canon_writeStatus {off : Nat} {v : W32} (hc : s.Canonical) : (s.writeStatus off v).Canonical :=
  canon_ite (canon_setBit _ _ _ _ hc) (canon_ite (canon_setBit _ _ _ _ hc) hc)

theorem canon_tbuCtrl {v : W32} (hc : s.Canonical) : (s.tbuCtrl v).Canonical :=
  canon_ite (canon_doTimeSet (canon_setSrc (canon_setWorkDom (canon_setBit _ _ _ _ hc)))) (canon_setSrc (canon_setWorkDom (canon_setBit _ _
    _ _ hc)))

theorem canon_wroteReg {off : Nat} {was : Bool} (hc : s.Canonical) : (s.wroteReg off was).Canonical :=
  canon_ite (canon_setReg _ _ _ hc) (canon_ite (canon_ppsGate hc) (canon_ite (canon_refreshDoms hc) (canon_ite (canon_followSource hc)
    hc)))

theorem canon_plainWrite {off : Nat} {v mask : W32} (hc : s.Canonical) : (s.plainWrite off v mask).Canonical :=
  canon_wroteReg (canon_setReg _ _ _ hc)

theorem canon_writeRw {off : Nat} {v : W32} {d : RegDef} (hc : s.Canonical) : (s.writeRw off v d).Canonical :=
  canon_ite (canon_tbuCtrl hc) (canon_ite (canon_evtCfg hc) (canon_ite (canon_evtCons hc) (canon_ite (canon_csqCtrl hc) (canon_ite
    (canon_ringCons hc) (canon_ite (canon_alarmPolicy hc) (canon_ite (canon_sigmap hc) (canon_ite (canon_mringCons hc) (canon_ite
    (canon_doShadow hc) (canon_ite hc (canon_plainWrite hc))))))))))

theorem canon_regPut {id off : Nat} {v : W32} (hc : s.Canonical) : (s.regPut id off v).Canonical := by
  unfold State.regPut
  grind -ring -linarith -lia -ac -order [canon_command, canon_writeClear, canon_writeStatus, canon_writeRw]

theorem canon_regTake {id off : Nat} (hc : s.Canonical) : (s.regTake id off).2.Canonical := by
  unfold State.regTake
  grind -ring -linarith -lia -ac -order [canon_setReg, canon_latchLast, canon_fifoGet, canon_snapTime, canon_latchEgo]

theorem canon_regAccess {id : Nat} {write : Bool} {ps : List (Nat × W32)} (hc : s.Canonical) : (s.regAccess id write ps).2.Canonical := by
  unfold State.regAccess
  refine canon_ite_snd (canon_foldl _ _ _ hc fun _ _ h => canon_regPut h) (canon_foldl_pair _ _ (Except.ok [], s) hc fun r p h => ?_)
  have hread := canon_regTake (id := id) (off := p.1) h
  dsimp only
  split
  · exact h
  · split
    · next heq => rw [heq] at hread; exact hread
    · next heq => rw [heq] at hread; exact hread

theorem canon_bar0 {write : Bool} {off size : Nat} {data : BitVec 64} (hc : s.Canonical) : (s.bar0 write off size data).Canonical := by
  unfold State.bar0
  grind -ring -linarith -lia -ac -order [canon_emit, canon_failHost, canon_refuseAccess, canon_darkAccess, canon_regAccess]

theorem canon_malformedTlp (hc : s.Canonical) : s.malformedTlp.Canonical :=
  canon_emit _ _ (canon_ite (canon_event _ _ _ _ _ _ (canon_update (canon_draw hc))) (canon_draw hc))

theorem canon_bar2 {write : Bool} {off len : Nat} {data : List Byte} (hc : s.Canonical) : (s.bar2 write off len data).Canonical := by
  unfold State.bar2
  grind -ring -linarith -lia -ac -order [canon_emit, canon_failHost, canon_busRead, canon_busWrite, canon_malformedTlp]

theorem canon_busDone {id code : Nat} {bs : List Byte} (hc : s.Canonical) : (s.busDone id code bs).Canonical := canon_emit _ _ hc

theorem canon_busRefuse {h : Option Nat} {id : Nat} {k : Kind} {a : Nat} (hc : s.Canonical) : (s.busRefuse h id k a).Canonical :=
  canon_busDone (canon_refuseAccess _ _ _ _ _ hc)

theorem canon_busDev {id : Nat} {k : Kind} {a n : Nat} {data : List Byte} (hc : s.Canonical) : (s.busDev id k a n data).Canonical := by
  unfold State.busDev
  grind -ring -linarith -lia -ac -order [canon_emit, canon_busRead, canon_busWrite, canon_tileEnqueue, canon_busDone, canon_busRefuse]

theorem canon_busBar0 {id : Nat} {k : Kind} {off n : Nat} {data : List Byte} (hc : s.Canonical) : (s.busBar0 id k off n data).Canonical := by
  unfold State.busBar0
  grind -ring -linarith -lia -ac -order [canon_regAccess, canon_busDone, canon_busRefuse]

theorem canon_busPort {id off : Nat} {data : List Byte} (hc : s.Canonical) : (s.busPort id off data).Canonical := by
  unfold State.busPort
  grind -ring -linarith -lia -ac -order [canon_emit, canon_doOpen, canon_doFallow, canon_doActivate, canon_doClose, canon_doPgt,
    canon_doFlockCreate, canon_doSetQuota, canon_doDisable, canon_pgtWait, canon_submit, canon_doTrackCmd, canon_doSlkCmd, canon_lthCmd,
    canon_busDone, canon_busRefuse]

theorem canon_busTxn {t : BusTxn} (hc : s.Canonical) : (s.busTxn t).Canonical := by
  unfold State.busTxn
  grind -ring -linarith -lia -ac -order [canon_checkersDisagree, canon_busDone, canon_busDev, canon_busBar0, canon_busPort]

/-! ### Every command -/

section
variable {t : State}

theorem canon_execStepEndTimeout (hc : s.Canonical) (e : execStepEndTimeout s = .next t) : t.Canonical := by
  cases e
  split
  · exact canon_ite (canon_promoteMirror (canon_reach hc)) hc
  · exact hc

theorem canon_execHandRetryExpiry {slot : BitVec 20} (hc : s.Canonical) (e : execHandRetryExpiry slot s = .next t) : t.Canonical := by
  cases e
  split
  · split
    · next heq => exact canon_update (canon_reachStep hc heq)
    · exact hc
  · exact hc

theorem canon_execHandoffStep (hc : s.Canonical) (e : execHandoffStep s = .next t) : t.Canonical := by
  cases e
  split
  · exact canon_ite (canon_handoffNow (canon_reach hc)) (canon_handoffNow hc)
  · exact hc

/-- Every command keeps memory and register file canonical: the operation it names does. -/
theorem canon_exec {c : Instr} (hc : s.Canonical) (e : exec c s = .next t) : t.Canonical := by
  cases c with
  | hostBar2Request => cases e; exact canon_bar2 hc
  | onDieTransaction => cases e; exact canon_busTxn hc
  | registerWrite => cases e; exact canon_bar0 hc
  | gptpSync => cases e; exact canon_doSync hc
  | gptpSyncMonitored => cases e; exact canon_doSyncMonitored hc
  | gptpAnnounce => cases e; exact canon_doAnnounce hc
  | gptpPdelay => cases e; exact canon_doPdelay hc
  | syncReceiptTimeout => cases e; exact canon_syncTimeout hc
  | holdoverMaxExpiry => cases e; exact canon_holdoverExpiry hc
  | timeBlockSend => cases e; exact canon_timeBlockSend hc
  | timeBlock => cases e; exact canon_doTimeBlock hc
  | timeBlockTimeout => cases e; exact canon_blockTimeout hc
  | delayRequestSend => cases e; exact canon_delaySend hc
  | delayRequest => cases e; exact canon_delayAnswer hc
  | delayResponse => cases e; exact canon_delayTaken hc
  | ppsOutRise => cases e; exact canon_ppsRise hc
  | ppsOutFall => cases e; exact canon_ppsFall hc
  | ppsInEdge => cases e; exact canon_doPpsIn hc
  | ppsInTimeout => cases e; exact canon_ppsTimeout hc
  | timeSnapshot => cases e; exact canon_hostAccess hc (canon_emit _ _ (canon_snapTime hc))
  | timeSet => cases e; exact canon_hostCmd hc (canon_doTimeSet hc)
  | workDomWrite => cases e; exact canon_hostReg hc (canon_setWorkDom hc)
  | tbuSrcWrite => cases e; exact canon_hostReg hc (canon_setSrc hc)
  | csiFrameStart => cases e; exact canon_frameStart hc
  | csiImageLine => cases e; exact canon_imageLine hc
  | csiEmbeddedData => cases e; exact canon_embedded hc
  | csiFrameEnd => cases e; exact canon_frameEnd hc
  | csiLineMarker => cases e; exact canon_ecc1 hc
  | csiUnboundPacket => cases e; exact canon_unboundPacket hc
  | csiBadHeader => cases e; exact canon_badHeader hc
  | ethFrameReceived => cases e; exact canon_ethRx hc
  | ethFrameTransmit => cases e; exact canon_ethTx hc
  | tasGateEvent => cases e; exact canon_tasGate hc
  | pointPacket => cases e; exact canon_pointPacket hc
  | partnerList => cases e; exact canon_partnerList hc
  | canMessage => cases e; exact canon_canRx hc
  | canErrorFrame => cases e; exact canon_canError hc
  | canBusOff => cases e; exact canon_canOff hc
  | canBusRecovery => cases e; exact canon_canBack hc
  | imuDrdyEdge => cases e; exact canon_imuEdge hc
  | imuResponse => cases e; exact canon_imuTake hc
  | imuDrdyMiss => cases e; exact canon_imuMiss hc
  | sqiDegraded => cases e; exact canon_sqi hc
  | slotSilence => cases e; exact canon_silence hc
  | partnerLeave => cases e; exact canon_leave hc
  | quarantineHoldEnd => cases e; exact canon_holdOver hc
  | admission => cases e; exact canon_hostCmd hc (canon_doAdmit hc)
  | slotRelease => cases e; exact canon_hostCmd hc (canon_doSlotRelease hc)
  | slotReadmit => cases e; exact canon_hostCmd hc (canon_doReadmit hc)
  | slotQuarantine => cases e; exact canon_hostCmd hc (canon_doSlotQuar hc)
  | patchDue => cases e; exact canon_patchDue hc
  | patchInject => cases e; exact canon_patchInject hc
  | patchEvaluation => cases e; exact canon_patchEval hc
  | fcuClusterEmit => cases e; exact canon_fcuEmit hc
  | pointDeskew => cases e; exact canon_pointDeskew hc
  | deskewHoldResume => cases e; exact canon_holdResume hc
  | deskewExtrapolate => cases e; exact canon_deskewExtrapolate hc
  | depthImageClose => cases e; exact canon_depthClose hc
  | gridFrameClose => cases e; exact canon_gridClose hc
  | calEstimate => cases e; exact canon_calEstimate hc
  | calReset => cases e; exact canon_hostCmd hc (canon_calCmd hc)
  | freeze => cases e; exact canon_hostCmd hc (canon_calCmd hc)
  | unfreeze => cases e; exact canon_hostCmd hc (canon_calCmd hc)
  | egoKeyframe => cases e; exact canon_keyframe hc
  | egoSmootherResult => cases e; exact canon_smoother hc
  | egoHoldTimeout => cases e; exact canon_egoHoldTimeout hc
  | egoRecordSnapshot => cases e; exact canon_hostAccess hc (canon_emit _ _ (canon_latchEgo hc))
  | tileCommandEnqueue =>
    cases e
    exact canon_ite (canon_emit _ _ (canon_refuseAccess _ _ _ _ _ hc)) (canon_ite (canon_tileEnqueue hc) (canon_emit _ _ (canon_tileEnqueue
      hc)))
  | matmul => cases e; exact canon_tileCompute hc
  | conv => cases e; exact canon_tileCompute hc
  | vector => cases e; exact canon_tileCompute hc
  | kernel => cases e; exact canon_tileCompute hc
  | attend => cases e; exact canon_tileCompute hc
  | sync => cases e; exact canon_tileOp hc (fun _ _ h => canon_tileResult h)
  | bist => cases e; exact canon_tileOp hc (fun _ _ h => canon_ite (canon_tileResult h) (canon_tileDeath h))
  | tileCommandComplete => cases e; exact canon_tileComplete hc
  | tileDeadline => cases e; exact canon_tileDeadline hc
  | tileHeartbeatMiss => cases e; exact canon_heartbeatMiss hc
  | spareWakeDone => cases e; exact canon_spareWake hc
  | spareBistDone => cases e; exact canon_spareBist hc
  | spareLoadDone => cases e; exact canon_spareLoad hc
  | tileInject => cases e; exact canon_hostAccess hc (canon_doTileInject hc)
  | tileDoorbell => cases e; exact canon_hostCmd hc (canon_doDoorbell hc)
  | offlineBistRequest => cases e; exact canon_hostCmd hc (canon_doBistReq hc)
  | offlineBistDone => cases e; exact canon_bistDone hc
  | descCreate => cases e; exact canon_hostCmd hc (canon_doDescCreate hc)
  | descDestroy => cases e; exact canon_hostCmd hc (canon_doDescDestroy hc)
  | signalRaise => cases e; exact canon_hostCmd hc (canon_doSignalRaise hc)
  | setTriggerIngress => cases e; exact canon_ingress hc
  | setTriggerStep => cases e; exact canon_stepTrigger hc
  | setTriggerSignal => cases e; exact canon_ite (canon_startSet hc) hc
  | setTriggerOnce => cases e; exact canon_ite (canon_startSet hc) hc
  | setTransferDone => cases e; exact canon_setDone hc
  | setTransferDeadline => cases e; exact canon_setDeadline hc
  | shadowWrite => cases e; exact canon_hostReg hc (canon_doShadow hc)
  | setCommit => cases e; exact canon_hostCmd hc (canon_doCommit hc)
  | programGo => cases e; exact canon_hostCmd hc (canon_doGoProg hc)
  | programAbort => cases e; exact canon_hostCmd hc (canon_doAbortProg hc)
  | move => cases e; exact canon_opMove hc
  | loop => cases e; exact canon_opLoop hc
  | wait => cases e; exact canon_opWait hc
  | signal => cases e; exact canon_opSignal hc
  | fence => cases e; exact canon_opFence hc
  | endProgram => cases e; exact canon_opEnd hc
  | moveDone => cases e; exact canon_moveComplete hc
  | waitTimeout => cases e; exact canon_waitExpire hc
  | openSeq => cases e; exact canon_seqCmd hc (canon_doOpen hc)
  | fallow => cases e; exact canon_seqCmd hc (canon_doFallow hc)
  | activate => cases e; exact canon_seqCmd hc (canon_doActivate hc)
  | close => cases e; exact canon_seqCmd hc (canon_doClose hc)
  | dropOldest => cases e; exact canon_pgtCmd hc
  | dropAll => cases e; exact canon_pgtCmd hc
  | addPage => cases e; exact canon_pgtCmd hc
  | flockCreate => cases e; exact canon_flockCmd hc (canon_doFlockCreate hc)
  | setQuota => cases e; exact canon_flockCmd hc (canon_doSetQuota hc)
  | disableFlock => cases e; exact canon_flockCmd hc (canon_doDisable hc)
  | kvAppend => cases e; exact canon_kvAppend hc
  | reclaimer => cases e; exact canon_ite hc (canon_retryPgt (canon_logStuck (canon_reclaimGate (canon_reclaimLoop (canon_update hc)))))
  | walkStart => cases e; exact canon_walkStart hc
  | walkEnd => cases e; exact canon_walkEnd hc
  | ingestCutoff => cases e; exact canon_ingestCutoff hc
  | detectionReady => cases e; exact canon_detReady hc
  | trackConfirmTimeout => cases e; exact canon_trackTimeout hc
  | trackCoastTimeout => cases e; exact canon_trackTimeout hc
  | trackFallowTimeout => cases e; exact canon_trackTimeout hc
  | fallowMaxTimeout => cases e; exact canon_trackTimeout hc
  | kill => cases e; exact canon_hostCmd hc (canon_doTrackCmd hc)
  | clearContra => cases e; exact canon_hostCmd hc (canon_doTrackCmd hc)
  | contraDecay => cases e; exact canon_contraDecay hc
  | batchSubmit => cases e; exact canon_portSubmit hc
  | bseDoorbell => cases e; exact canon_hostCmd hc (canon_doBatchDoorbell hc)
  | problemStart => cases e; exact canon_problemStart hc
  | problemDone => cases e; exact canon_problemDone hc
  | batchCutoff => cases e; exact canon_batchCutoff hc
  | batchDone => cases e; exact canon_batchDone hc
  | bseInject => cases e; exact canon_hostAccess hc (canon_doBseInject hc)
  | runStart => cases e; exact canon_hostReg hc (canon_doRun hc)
  | runStop => cases e; exact canon_hostReg hc (canon_doStop hc)
  | cycleStopped => cases e; exact canon_cycleStopped hc
  | stageOpen => cases e; exact canon_stageOpen hc
  | stageClose => cases e; exact canon_stageClose hc
  | stageComplete => cases e; exact canon_stageComplete hc
  | windowWatchdogTimeout => cases e; exact canon_wdMissing hc
  | publicationStart => cases e; exact canon_publication hc
  | csSegmentSent => cases e; exact canon_csSent hc
  | cadenceRequest => cases e; exact canon_hostCmd hc (canon_cadenceReq hc)
  | cadenceSwitch => cases e; exact canon_switchDue hc
  | ringConsWrite => cases e; exact canon_hostReg hc (canon_ringCons hc)
  | pfifoRead => cases e; exact canon_hostAccessN _ _ _ _ _ hc (canon_pfRead hc)
  | load => cases e; exact canon_hostCmd hc (canon_doLoad hc)
  | loadEnd => cases e; exact canon_loadEnd hc
  | abort => cases e; exact canon_hostCmd hc (canon_doAbort hc)
  | rbAdvance => cases e; exact canon_hostCmd hc (canon_doRbAdvance hc)
  | rbAdvanceDone => cases e; exact canon_rbDone hc
  | unload => cases e; exact canon_hostCmd hc (canon_doUnload hc)
  | resumeDone => cases e; exact canon_resume hc
  | memFillDone => cases e; exact canon_memFill hc
  | scrubRead => cases e; exact canon_scrub hc
  | islandScrubRead => cases e; exact canon_islandScrub hc
  | scrubAdaptPeriod => cases e; exact canon_adaptPeriod hc
  | ceRateReport => cases e; exact canon_ceReport hc
  | retireAdd => cases e; exact canon_hostCmd hc (canon_doRetire hc)
  | memInject => cases e; exact canon_hostAccess hc (canon_doMemInject hc)
  | fifoWrite => cases e; exact canon_fifoWrite hc
  | fifoFlush => cases e; exact canon_ite (canon_fifoFlush hc) hc
  | fifoRead => cases e; exact canon_fifoRead hc
  | lockstepMismatch => cases e; exact canon_ite (canon_pairDown hc) hc
  | pairRestartDone => cases e; exact canon_pairUp hc
  | islandPairMiss => cases e; exact canon_pairMiss hc
  | conditionHoldExpiry => cases e; exact canon_holdExpiry hc
  | force => cases e; exact canon_hostCmd hc (canon_doSafCmd hc)
  | release => cases e; exact canon_hostCmd hc (canon_doSafCmd hc)
  | restart => cases e; exact canon_hostCmd hc (canon_doSafCmd hc)
  | fbCluster => cases e; exact canon_fbCluster hc
  | fbMotionSample => cases e; exact canon_fbMotion hc
  | fbPartnerList => cases e; exact canon_fbPartner hc
  | fbTrackTimeout => cases e; exact canon_fbTimeout hc
  | hbToggle => cases e; exact canon_hbStep hc
  | safeReqChange => cases e; exact canon_safeReqPin hc
  | linkLock => cases e; exact canon_linkLock hc
  | linkCtl => cases e; exact canon_linkRx hc (fun _ h => canon_ite (canon_replay (canon_linkAck h)) (canon_linkAck h))
  | linkReplayTimeout => cases e; exact canon_ite hc (canon_replay (canon_reach hc))
  | hello => cases e; exact canon_linkRx hc (fun _ h => canon_onHello h)
  | echo => cases e; exact canon_linkRx hc (fun _ h => canon_onEcho h)
  | feat => cases e; exact canon_linkRx hc (fun _ h => canon_onFeat h)
  | epoch => cases e; exact canon_linkRx hc (fun _ h => canon_onEpoch h)
  | deltaRec => cases e; exact canon_linkRx hc (fun _ h => canon_deltaFrame h)
  | deltaKv => cases e; exact canon_linkRx hc (fun _ h => canon_deltaFrame h)
  | deltaSeq => cases e; exact canon_linkRx hc (fun _ h => canon_deltaFrame h)
  | stepEnd => cases e; exact canon_linkRx hc (fun _ h => canon_onStepEnd h)
  | deltaAck => cases e; exact canon_linkRx hc (fun _ h => canon_onDeltaAck h)
  | syncData => cases e; exact canon_linkRx hc (fun _ h => canon_onSyncData h)
  | handoff => cases e; exact canon_linkRx hc (fun _ h => canon_ite (canon_update h) h)
  | detFwd => cases e; exact canon_linkRx hc (fun _ h => canon_onDetFwd h)
  | detClaim => cases e; exact canon_linkRx hc (fun _ h => canon_onDetClaim h)
  | hand => cases e; exact canon_linkRx hc (fun _ h => canon_onHand h)
  | handAck => cases e; exact canon_linkRx hc (fun _ h => canon_onHandAck h)
  | handAbort => cases e; exact canon_linkRx hc (fun _ h => canon_dropInstall h)
  | listFrame => cases e; exact canon_linkRx hc (fun _ h => canon_onList h)
  | stepEndTimeout => exact canon_execStepEndTimeout hc e
  | deltaAckTimeout => cases e; exact canon_ite (canon_setMirrorLost (canon_update hc)) hc
  | memberTimeout => cases e; exact canon_loseMember hc
  | bellwetherTimeout => cases e; exact canon_ite (canon_enterHoldover (canon_update (canon_reach hc))) hc
  | handAckDeadline => cases e; exact canon_handDeadline hc (fun _ _ h => canon_handTaken h)
  | handAbortDeadline => cases e; exact canon_handDeadline hc (fun _ _ h => canon_handLost h)
  | handRetryExpiry => exact canon_execHandRetryExpiry hc e
  | borderHoldExpiry => cases e; exact canon_borderHold hc
  | switchover => cases e; exact canon_hostCmd hc (canon_doSlkCmd hc)
  | handoffStep => exact canon_execHandoffStep hc e
  | resync => cases e; exact canon_hostCmd hc (canon_doSlkCmd hc)
  | portReadmit => cases e; exact canon_hostCmd hc (canon_doSlkCmd hc)
  | mringConsWrite => cases e; exact canon_hostReg hc (canon_mringCons hc)
  | importKey => cases e; exact canon_hostCmd hc (canon_doSecCmd hc)
  | clearKey => cases e; exact canon_hostCmd hc (canon_doSecCmd hc)
  | bind => cases e; exact canon_hostCmd hc (canon_doSecCmd hc)
  | unbind => cases e; exact canon_hostCmd hc (canon_doSecCmd hc)
  | selectTx => cases e; exact canon_hostCmd hc (canon_doSecCmd hc)
  | challenge => cases e; exact canon_hostCmd hc (canon_doSecCmd hc)
  | unlock => cases e; exact canon_hostCmd hc (canon_doSecCmd hc)
  | revoke => cases e; exact canon_hostCmd hc (canon_doSecCmd hc)
  | reprovision => cases e; exact canon_hostCmd hc (canon_doSecCmd hc)
  | provision => cases e; exact canon_hostCmd hc (canon_doSecCmd hc)
  | attest => cases e; exact canon_hostCmd hc (canon_doSecCmd hc)
  | zeroise => cases e; exact canon_hostCmd hc (canon_doSecCmd hc)
  | secCommandComplete => cases e; exact canon_ite (canon_secDone hc) hc
  | alarmTrip => cases e; exact canon_alarm hc
  | trngHealthFail => cases e; exact canon_ite (canon_alarm (canon_update hc)) hc
  | alarmPolicyWrite => cases e; exact canon_hostReg hc (canon_alarmPolicy hc)
  | standby => cases e; exact canon_hostCmd hc (canon_doPwrCmd hc)
  | wake => cases e; exact canon_hostCmd hc (canon_doPwrCmd hc)
  | sentinel => cases e; exact canon_hostCmd hc (canon_doPwrCmd hc)
  | powerTransitionDone => cases e; exact canon_ite (canon_pwrDone hc) hc
  | tc10Wake => cases e; exact canon_ite (canon_wakeBy hc) hc
  | canWake => cases e; exact canon_ite (canon_wakeBy hc) hc
  | wakeTimerExpiry => cases e; exact canon_ite (canon_wakeBy hc) hc
  | warm => cases e; exact canon_hostCmd hc (canon_doRstCmd hc)
  | accel => cases e; exact canon_hostCmd hc (canon_doRstCmd hc)
  | tileReset => cases e; exact canon_hostCmd hc (canon_doRstCmd hc)
  | porNAssert => cases e; exact canon_ite (canon_update (canon_coldReset hc)) hc
  | porNRelease => cases e; exact canon_ite (canon_startUp (canon_setFld _ _ _ _ _ hc)) hc
  | warmNAssert => cases e; exact canon_ite (canon_warmReset hc) hc
  | perstAssert => cases e; exact canon_ite (canon_event _ _ _ _ _ _ (canon_endpointReset (canon_update hc))) (canon_update hc)
  | perstRelease => cases e; exact canon_ite (canon_ite (canon_wakeBy (canon_update hc)) (canon_update hc)) hc
  | deviceReady => cases e; exact canon_ite (canon_setReg _ _ _ (canon_setBit _ _ _ _ (canon_update hc))) hc
  | pllLock => cases e; exact canon_ite (canon_setBit _ _ _ _ hc) hc
  | tileDomainReady => cases e; exact canon_ite (canon_reloadTile (canon_setTile hc)) hc
  | xtal32kStable => cases e; exact canon_ite hc (canon_update hc)
  | thermalNear =>
    cases e
    exact canon_ite hc (canon_ite (canon_event _ _ _ _ _ _ (canon_update (canon_setReg _ _ _ hc))) (canon_setReg _ _ _ hc))
  | go => cases e; exact canon_hostCmd hc (canon_doGo hc)
  | featureUnlock => cases e; exact canon_hostCmd hc (canon_doUnlockFeat hc)
  | eventLogEntry => cases e; exact canon_ite (canon_eventLogEntry hc) hc
  | evtConsWrite => cases e; exact canon_hostReg hc (canon_evtCons hc)
  | evtCfgWrite => cases e; exact canon_hostReg hc (canon_evtCfg hc)
  | evtLastSnapshot => cases e; exact canon_hostAccess hc (canon_emit _ _ (canon_latchLast hc))
  | sigmapWrite => cases e; exact canon_hostReg hc (canon_sigmap hc)
  | msixModerationEnd => cases e; exact canon_moderationEnd hc
  | msixUnmask => cases e; exact canon_ite (canon_unmask hc) hc
  | busMasterEnable => cases e; exact canon_ite (canon_flushMsix (canon_setBit _ _ _ _ hc)) hc
  | d3hotEntry => cases e; exact canon_ite (canon_setBit _ _ _ _ hc) hc
  | d3hotExit => cases e; exact canon_ite (canon_flushMsix (canon_setBit _ _ _ _ hc)) hc
  | l1EntryRequest => cases e; exact canon_ite (canon_emit _ _ hc) hc
  | functionLevelReset =>
    cases e
    exact canon_ite (canon_event _ _ _ _ _ _ (canon_update (canon_setFld _ _ _ _ _ (canon_endpointReset hc)))) hc
  | pdelayReqSend => cases e; exact canon_pdelaySend hc
  | gmSyncSend => cases e; exact canon_gmSend hc
  | linkDown => cases e; exact canon_linkDown hc
  | ethLinkChange => cases e; exact canon_ethLink hc
  | pcieLinkUp =>
    cases e
    exact canon_ite (canon_ite (canon_emit _ _ (canon_update (canon_update (canon_setFld _ _ _ _ _ (canon_setFld _ _ _ _ _ (canon_draw
      hc)))))) (canon_update (canon_setFld _ _ _ _ _ (canon_setFld _ _ _ _ _ (canon_draw hc))))) hc
  | suppliesInRange => cases e; exact canon_suppliesOk hc
  | suppliesRemoved => cases e; exact canon_update (canon_setFld _ _ _ _ _ (canon_coldReset hc))
  | fbDeadReckoningLost => cases e; exact canon_drLost hc

end

/-- Settles O56: on an empty queue the time counter advances, and otherwise the command at the front, whose effect `canon_exec` gives, runs
on the state with the queue's rest. -/
theorem stepKeepsCanonical : Obligations.StepKeepsCanonical := by
  intro s t hc e
  unfold step at e
  split at e
  · cases e
    exact canon_tick hc
  · exact canon_exec (canon_update hc) e

end Sys2Proof.Machine
end

section
/-! PROOFS. What a group of commands leaves as it was. A frame names the registers a group may change and the blocks it does not; each
operation keeps its frame, and so does a command that is made of operations that do. -/

namespace Sys2Proof.Machine

/-- What a group of commands leaves as it was: device memory, the registers it does not `own`, and `rest`, the state with the blocks it may
change blanked out; the registers, the output, the draws, the host interface and the time base always are. -/
structure Frame where
  own : Nat → Bool
  rest : State → State
  rest_update : ∀ (s : State) (regs : SMap W32) (out : List Out) (free : Nat) (hif : Hif) (tbu : Tbu),
    rest { s with regs := regs, out := out, free := free, hif := hif, tbu := tbu } = rest s

/-- `t` has what the frame leaves as it was from `s`. -/
structure Frame.Keeps (F : Frame) (s t : State) : Prop where
  mem : t.mem = s.mem
  regs : ∀ o, F.own o = false → t.reg o = s.reg o
  rest : F.rest t = F.rest s

section
variable {β : Type} {F : Frame} {s₀ s t : State}

theorem Frame.Keeps.refl : F.Keeps s s := ⟨rfl, fun _ _ => rfl, rfl⟩

theorem Frame.Keeps.trans (h : F.Keeps s₀ s) (h' : F.Keeps s t) : F.Keeps s₀ t :=
  ⟨h'.mem.trans h.mem, fun o ho => (h'.regs o ho).trans (h.regs o ho), h'.rest.trans h.rest⟩

/-- A change of blocks beside memory and the registers. -/
theorem Frame.Keeps.beside (h : F.Keeps s₀ s) (hrest : F.rest t = F.rest s) (hmem : t.mem = s.mem) (hregs : t.regs = s.regs) : F.Keeps s₀ t :=
  h.trans ⟨hmem, fun o _ => reg_congr hregs o, hrest⟩

/-- A change that a narrower frame keeps. -/
theorem Frame.Keeps.widen {G : Frame} (h : F.Keeps s₀ s) (hown : ∀ o, F.own o = false → G.own o = false)
    (hrest : ∀ u, F.rest (G.rest u) = F.rest u) (h' : G.Keeps s t) : F.Keeps s₀ t :=
  h.trans ⟨h'.mem, fun o ho => h'.regs o (hown o ho), hrest t ▸ hrest s ▸ congrArg F.rest h'.rest⟩

theorem keeps_setReg {off : Nat} {v : W32} (ho : F.own off = true) (h : F.Keeps s₀ s) : F.Keeps s₀ (s.setReg off v) :=
  h.trans ⟨rfl, fun _ hn => reg_setReg_ne _ _ (fun e => Bool.false_ne_true (hn.symm.trans (e ▸ ho))),
    F.rest_update s _ s.out s.free s.hif s.tbu⟩

theorem keeps_setFld {off lo w v : Nat} (ho : F.own off = true) (h : F.Keeps s₀ s) : F.Keeps s₀ (s.setFld off lo w v) := keeps_setReg ho h

theorem keeps_setBit {off b : Nat} {v : Bool} (ho : F.own off = true) (h : F.Keeps s₀ s) : F.Keeps s₀ (s.setBit off b v) := keeps_setFld ho h

theorem keeps_countSat {off lo w n : Nat} (ho : F.own off = true) (h : F.Keeps s₀ s) : F.Keeps s₀ (s.countSat off lo w n) :=
  keeps_setFld ho h

theorem keeps_countWrap {off lo w n : Nat} (ho : F.own off = true) (h : F.Keeps s₀ s) : F.Keeps s₀ (s.countWrap off lo w n) :=
  keeps_setFld ho h

theorem keeps_setRegSat {off : Nat} {v : Int} (ho : F.own off = true) (h : F.Keeps s₀ s) : F.Keeps s₀ (s.setRegSat off v) :=
  keeps_setReg ho h

theorem keeps_status {off code : Nat} (ho : F.own off = true) (h : F.Keeps s₀ s) : F.Keeps s₀ (s.status off code) := keeps_setFld ho h

theorem keeps_emit {o : Out} (h : F.Keeps s₀ s) : F.Keeps s₀ (s.emit o) := h.beside (F.rest_update s s.regs _ s.free s.hif s.tbu) rfl rfl

theorem keeps_draw (h : F.Keeps s₀ s) : F.Keeps s₀ s.draw.2 := h.beside (F.rest_update s s.regs s.out _ s.hif s.tbu) rfl rfl

theorem keeps_event {source sev code status : Nat} {data : List Byte} (h : F.Keeps s₀ s) : F.Keeps s₀ (s.event source sev code status data) :=
  h.beside (F.rest_update s s.regs s.out s.free _ s.tbu) rfl rfl

theorem keeps_reach {a : Time} (h : F.Keeps s₀ s) : F.Keeps s₀ (s.reach a) := h.beside (F.rest_update s s.regs s.out s.free s.hif _) rfl rfl

theorem keeps_ite {c : Prop} [Decidable c] (hs : F.Keeps s₀ s) (ht : F.Keeps s₀ t) : F.Keeps s₀ (if c then s else t) := by
  split
  · exact hs
  · exact ht

theorem keeps_ite_snd {c : Prop} [Decidable c] {p q : β × State} (hp : F.Keeps s₀ p.2) (hq : F.Keeps s₀ q.2) :
    F.Keeps s₀ (if c then p else q).2 := by
  split
  · exact hp
  · exact hq

theorem keeps_foldl {f : State → β → State} {l : List β} (h : F.Keeps s₀ s) (hf : ∀ s x, F.Keeps s₀ s → F.Keeps s₀ (f s x)) :
    F.Keeps s₀ (l.foldl f s) := by
  induction l generalizing s with
  | nil => exact h
  | cons x l ih => exact ih (hf s x h)

end

end Sys2Proof.Machine
end

section
/-! PROOFS. The frame of time commands (R43 to R77). -/

namespace Sys2Proof.Machine

/-- The frame of time commands: the registers of TBU, and the blocks that hold instants of the device's time. -/
def timeFrame : Frame where
  own o := o / 0x100000 == 2
  rest s := { s with regs := [], mem := [], out := [], free := 0, hif := {}, aon := {}, tbu := {}, sic := {}, msys := {}, slk := {} }
  rest_update _ _ _ _ _ _ := rfl

theorem timeKeeps_update {s₀ s : State} {out free hif aon tbu sic msys slk} (h : timeFrame.Keeps s₀ s) :
    timeFrame.Keeps s₀ ⟨s.pending, s.regs, s.mem, out, free, s.part, hif, aon, tbu, sic, s.pae, s.ego, s.tca, s.dml, s.tac, s.fld, s.bse,
      s.csq, s.lth, msys, s.saf, slk, s.sec⟩ := h.beside rfl rfl rfl

section
variable {s₀ s : State}

theorem timeKeeps_tbuSet {b : Nat} {v : Bool} (h : timeFrame.Keeps s₀ s) : timeFrame.Keeps s₀ (s.tbuSet b v) :=
  keeps_ite (keeps_setBit rfl (keeps_setBit rfl h)) (keeps_setBit rfl h)

theorem timeKeeps_ppsLow (h : timeFrame.Keeps s₀ s) : timeFrame.Keeps s₀ s.ppsLow := keeps_emit (timeKeeps_update h)

theorem timeKeeps_ppsGate (h : timeFrame.Keeps s₀ s) : timeFrame.Keeps s₀ s.ppsGate := keeps_ite (timeKeeps_ppsLow h) h

theorem timeKeeps_setDom {d : Dom} {g : GptpDom} (h : timeFrame.Keeps s₀ s) : timeFrame.Keeps s₀ (s.setDom d g) := by
  unfold State.setDom
  cases d
  · exact timeKeeps_tbuSet (timeKeeps_update h)
  · exact timeKeeps_tbuSet (timeKeeps_update h)

theorem timeKeeps_setY {y : Int} (h : timeFrame.Keeps s₀ s) : timeFrame.Keeps s₀ (s.setY y) := keeps_setRegSat rfl (timeKeeps_update h)

theorem timeKeeps_servo {θ : Int} {g : Nat} (h : timeFrame.Keeps s₀ s) : timeFrame.Keeps s₀ (s.servo θ g) :=
  keeps_ite h (keeps_ite (timeKeeps_setY h) (keeps_ite (timeKeeps_setY h) (timeKeeps_setY (timeKeeps_update h))))

theorem timeKeeps_lockCount {θ : Int} (h : timeFrame.Keeps s₀ s) : timeFrame.Keeps s₀ (s.lockCount θ) :=
  keeps_ite (timeKeeps_tbuSet (timeKeeps_update h)) (timeKeeps_ppsGate (timeKeeps_tbuSet (timeKeeps_update h)))

theorem timeKeeps_setSlewing {θ : Int} {v : Bool} (h : timeFrame.Keeps s₀ s) : timeFrame.Keeps s₀ (s.setSlewing θ v) :=
  keeps_event (timeKeeps_tbuSet h)

theorem timeKeeps_jumpTime {t : Time} (h : timeFrame.Keeps s₀ s) : timeFrame.Keeps s₀ (s.jumpTime t) := timeKeeps_update h

theorem timeKeeps_stepTime {θ : Int} (h : timeFrame.Keeps s₀ s) : timeFrame.Keeps s₀ (s.stepTime θ) :=
  timeKeeps_ppsGate (timeKeeps_tbuSet (timeKeeps_update (timeKeeps_jumpTime h)))

theorem timeKeeps_heldBack {θ : Int} (h : timeFrame.Keeps s₀ s) : timeFrame.Keeps s₀ (s.heldBack θ) :=
  keeps_ite (keeps_ite (timeKeeps_setY (timeKeeps_lockCount (keeps_countSat rfl h))) (timeKeeps_lockCount (keeps_countSat rfl h)))
    (keeps_ite (keeps_ite (timeKeeps_setY (timeKeeps_setSlewing (timeKeeps_update (timeKeeps_lockCount (keeps_countSat rfl h)))))
    (timeKeeps_setSlewing (timeKeeps_update (timeKeeps_lockCount (keeps_countSat rfl h))))) (timeKeeps_update (timeKeeps_lockCount
    (keeps_countSat rfl h))))

theorem timeKeeps_leaveCoast (h : timeFrame.Keeps s₀ s) : timeFrame.Keeps s₀ s.leaveCoast :=
  keeps_ite (keeps_event (timeKeeps_tbuSet (timeKeeps_tbuSet h))) h

theorem timeKeeps_offsetSample {θ : Int} {g : Nat} (h : timeFrame.Keeps s₀ s) : timeFrame.Keeps s₀ (s.offsetSample θ g) :=
  keeps_ite (timeKeeps_lockCount (timeKeeps_servo (keeps_ite (timeKeeps_setSlewing (timeKeeps_update (timeKeeps_update (keeps_setRegSat rfl
    h)))) (timeKeeps_update (timeKeeps_update (keeps_setRegSat rfl h)))))) (keeps_ite (timeKeeps_heldBack (timeKeeps_update
    (keeps_setRegSat rfl h))) (timeKeeps_stepTime (timeKeeps_update (keeps_setRegSat rfl h))))

theorem timeKeeps_enterHoldover (h : timeFrame.Keeps s₀ s) : timeFrame.Keeps s₀ s.enterHoldover :=
  keeps_ite h (keeps_event (timeKeeps_tbuSet (timeKeeps_update (timeKeeps_setY h))))

theorem timeKeeps_enterFreeRun (h : timeFrame.Keeps s₀ s) : timeFrame.Keeps s₀ s.enterFreeRun :=
  keeps_event (timeKeeps_tbuSet (timeKeeps_tbuSet h))

theorem timeKeeps_relaySync {d : Dom} {m : SyncMsg} (h : timeFrame.Keeps s₀ s) : timeFrame.Keeps s₀ (s.relaySync d m) :=
  keeps_foldl h (fun _ _ h' => keeps_ite (keeps_emit (keeps_draw h')) h')

theorem timeKeeps_sendAnnounce {d : Dom} {a : Announce} {but : Option Nat} (h : timeFrame.Keeps s₀ s) :
    timeFrame.Keeps s₀ (s.sendAnnounce d a but) :=
  keeps_foldl h (fun _ _ h' => keeps_ite (keeps_emit h') h')

theorem timeKeeps_domJudge {θ : Int} (h : timeFrame.Keeps s₀ s) : timeFrame.Keeps s₀ (s.domJudge θ) :=
  keeps_ite (keeps_event (timeKeeps_tbuSet (timeKeeps_update (keeps_setRegSat rfl (timeKeeps_update h))))) (keeps_ite (keeps_event
    (timeKeeps_tbuSet (timeKeeps_update (keeps_setRegSat rfl (timeKeeps_update h))))) (timeKeeps_update (keeps_setRegSat rfl
    (timeKeeps_update h))))

theorem timeKeeps_syncArrives {d : Dom} {m : SyncMsg} (h : timeFrame.Keeps s₀ s) : timeFrame.Keeps s₀ (s.syncArrives d m) :=
  keeps_ite (keeps_setReg rfl (timeKeeps_setDom (timeKeeps_relaySync (keeps_reach h)))) (timeKeeps_setDom (timeKeeps_relaySync (keeps_reach
    h)))

theorem timeKeeps_doSync {m : SyncMsg} (h : timeFrame.Keeps s₀ s) : timeFrame.Keeps s₀ (s.doSync m) :=
  keeps_ite h (keeps_ite (timeKeeps_domJudge (timeKeeps_syncArrives h)) (timeKeeps_offsetSample (timeKeeps_leaveCoast
    (timeKeeps_syncArrives h))))

theorem timeKeeps_autoDomain {d : Dom} (h : timeFrame.Keeps s₀ s) : timeFrame.Keeps s₀ (s.autoDomain d) :=
  keeps_ite h (keeps_event (timeKeeps_update (timeKeeps_tbuSet (keeps_setBit rfl h))))

theorem timeKeeps_doSyncMonitored {m : SyncMsg} (h : timeFrame.Keeps s₀ s) : timeFrame.Keeps s₀ (s.doSyncMonitored m) :=
  keeps_ite h (keeps_ite (timeKeeps_domJudge (timeKeeps_syncArrives h)) (keeps_ite (timeKeeps_syncArrives h) (timeKeeps_autoDomain
    (timeKeeps_domJudge (timeKeeps_syncArrives h)))))

theorem timeKeeps_loseWorking {d : Dom} (h : timeFrame.Keeps s₀ s) : timeFrame.Keeps s₀ (s.loseWorking d) :=
  keeps_ite (timeKeeps_enterHoldover h) h

theorem timeKeeps_doAnnounce {d : Dom} {a : Announce} (h : timeFrame.Keeps s₀ s) : timeFrame.Keeps s₀ (s.doAnnounce d a) :=
  keeps_ite h (keeps_ite (keeps_ite h (timeKeeps_sendAnnounce (timeKeeps_setDom h))) (keeps_ite (timeKeeps_loseWorking (keeps_ite
    (timeKeeps_sendAnnounce (timeKeeps_setDom h)) (timeKeeps_setDom h))) (keeps_ite (timeKeeps_sendAnnounce (timeKeeps_setDom h))
    (timeKeeps_setDom h))))

theorem timeKeeps_doPdelay {q : Nat} {x : DelayTimes} (h : timeFrame.Keeps s₀ s) : timeFrame.Keeps s₀ (s.doPdelay q x) :=
  keeps_ite h (timeKeeps_update (keeps_reach h))

theorem timeKeeps_syncTimeout (h : timeFrame.Keeps s₀ s) : timeFrame.Keeps s₀ s.syncTimeout :=
  keeps_ite h (timeKeeps_loseWorking (timeKeeps_setDom (keeps_reach h)))

theorem timeKeeps_holdoverExpiry (h : timeFrame.Keeps s₀ s) : timeFrame.Keeps s₀ s.holdoverExpiry :=
  keeps_ite (timeKeeps_enterFreeRun (keeps_reach h)) h

theorem timeKeeps_reachPdelay {q : Nat} (h : timeFrame.Keeps s₀ s) : timeFrame.Keeps s₀ (s.reachPdelay q) := by
  unfold State.reachPdelay
  split
  · exact keeps_reach h
  · exact h

theorem timeKeeps_pdelaySend {q : Nat} (h : timeFrame.Keeps s₀ s) : timeFrame.Keeps s₀ (s.pdelaySend q) :=
  keeps_ite (keeps_emit (timeKeeps_update (timeKeeps_reachPdelay h))) h

theorem timeKeeps_gmSend {d : Dom} (h : timeFrame.Keeps s₀ s) : timeFrame.Keeps s₀ (s.gmSend d) :=
  keeps_ite h (keeps_foldl (timeKeeps_setDom h) (fun _ _ h' => keeps_ite (keeps_emit (keeps_emit h')) h'))

theorem timeKeeps_setLport {p : Nat} {l : LinkPort} (h : timeFrame.Keeps s₀ s) : timeFrame.Keeps s₀ (s.setLport p l) := timeKeeps_update h

theorem timeKeeps_blockTimeout (h : timeFrame.Keeps s₀ s) : timeFrame.Keeps s₀ s.blockTimeout :=
  keeps_ite h (timeKeeps_enterHoldover (keeps_reach h))

theorem timeKeeps_delaySend {p : Nat} (h : timeFrame.Keeps s₀ s) : timeFrame.Keeps s₀ (s.delaySend p) :=
  keeps_ite h (keeps_emit (timeKeeps_setLport (keeps_reach h)))

theorem timeKeeps_delayAnswer {p : Nat} {rx : Time} (h : timeFrame.Keeps s₀ s) : timeFrame.Keeps s₀ (s.delayAnswer p rx) :=
  keeps_ite h (keeps_emit (keeps_reach h))

theorem timeKeeps_ppsRise (h : timeFrame.Keeps s₀ s) : timeFrame.Keeps s₀ s.ppsRise :=
  keeps_ite h (keeps_emit (timeKeeps_update (keeps_reach h)))

theorem timeKeeps_ppsFall (h : timeFrame.Keeps s₀ s) : timeFrame.Keeps s₀ s.ppsFall := keeps_ite (timeKeeps_ppsLow (keeps_reach h)) h

theorem timeKeeps_ppsSeconds (h : timeFrame.Keeps s₀ s) : timeFrame.Keeps s₀ s.ppsSeconds :=
  keeps_ite h (timeKeeps_update (timeKeeps_jumpTime h))

theorem timeKeeps_doPpsIn {raw : Time} (h : timeFrame.Keeps s₀ s) : timeFrame.Keeps s₀ (s.doPpsIn raw) :=
  keeps_ite h (keeps_ite (timeKeeps_enterHoldover (timeKeeps_update (keeps_reach h))) (timeKeeps_ppsSeconds (timeKeeps_offsetSample
    (timeKeeps_leaveCoast (timeKeeps_update (keeps_reach h))))))

theorem timeKeeps_ppsTimeout (h : timeFrame.Keeps s₀ s) : timeFrame.Keeps s₀ s.ppsTimeout := by
  unfold State.ppsTimeout
  split
  · exact keeps_ite (timeKeeps_enterHoldover (keeps_reach h)) h
  · exact h

end

/-- Settles O57: every operation a time command names keeps `timeFrame`, and the statement reads off what that frame keeps. -/
theorem timeCommandsKeepTheRest : Obligations.TimeCommandsKeepTheRest := by
  intro c s t hc e
  have h : timeFrame.Keeps s s := .refl
  have hkeeps : timeFrame.Keeps s t := by
    cases c with
    | gptpSync => cases e; exact timeKeeps_doSync h
    | gptpSyncMonitored => cases e; exact timeKeeps_doSyncMonitored h
    | gptpAnnounce => cases e; exact timeKeeps_doAnnounce h
    | gptpPdelay => cases e; exact timeKeeps_doPdelay h
    | syncReceiptTimeout => cases e; exact timeKeeps_syncTimeout h
    | holdoverMaxExpiry => cases e; exact timeKeeps_holdoverExpiry h
    | timeBlockTimeout => cases e; exact timeKeeps_blockTimeout h
    | delayRequestSend => cases e; exact timeKeeps_delaySend h
    | delayRequest => cases e; exact timeKeeps_delayAnswer h
    | pdelayReqSend => cases e; exact timeKeeps_pdelaySend h
    | gmSyncSend => cases e; exact timeKeeps_gmSend h
    | bellwetherTimeout => cases e; exact keeps_ite (timeKeeps_enterHoldover (timeKeeps_update (keeps_reach h))) h
    | ppsInEdge => cases e; exact timeKeeps_doPpsIn h
    | ppsInTimeout => cases e; exact timeKeeps_ppsTimeout h
    | ppsOutRise => cases e; exact timeKeeps_ppsRise h
    | ppsOutFall => cases e; exact timeKeeps_ppsFall h
    | _ => cases hc
  exact ⟨State.sameMemory_of_mem hkeeps.mem, fun o ho => hkeeps.regs o (beq_false_of_ne ho), (congrArg State.sec hkeeps.rest :),
    (congrArg State.saf hkeeps.rest :),
    (congrArg State.lth hkeeps.rest :), (congrArg State.csq hkeeps.rest :), (congrArg State.pending hkeeps.rest :)⟩

end Sys2Proof.Machine
end

section
/-! PROOFS. The frame of link commands (R596 to R629). -/

namespace Sys2Proof.Machine

/-- The frame of link commands: the registers from SLK's up, and the ports of SIC and SLK. -/
def linkFrame : Frame where
  own o := o / 0x1000000 != 0
  rest s := { s with regs := [], mem := [], out := [], free := 0, hif := {}, tbu := {}, sic := {}, slk := {} }
  rest_update _ _ _ _ _ _ := rfl

theorem linkKeeps_update {s₀ s : State} {out free hif tbu sic slk} (h : linkFrame.Keeps s₀ s) :
    linkFrame.Keeps s₀ ⟨s.pending, s.regs, s.mem, out, free, s.part, hif, s.aon, tbu, sic, s.pae, s.ego, s.tca, s.dml, s.tac, s.fld, s.bse,
      s.csq, s.lth, s.msys, s.saf, slk, s.sec⟩ := h.beside rfl rfl rfl

theorem linkFrame_ownsNotBelow {o : Nat} (ho : o < 0x1000000) : linkFrame.own o = false :=
  bne_eq_false_iff_eq.2 (Nat.div_eq_of_lt ho)

/-- Every register of a port of SLK is the frame's own. -/
theorem linkFrame_ownsAbove {lo n : Nat} (hlo : 0x1000000 ≤ lo) : linkFrame.own (lo + n) = true :=
  bne_iff_ne.2 (Nat.div_pos (hlo.trans (Nat.le_add_right lo n)) (by decide)).ne'

section
variable {s₀ s : State}

theorem linkKeeps_setSlot {n : Nat} {x : Slot} (h : linkFrame.Keeps s₀ s) : linkFrame.Keeps s₀ (s.setSlot n x) := linkKeeps_update h

theorem linkKeeps_reachStep {n : Nat} {t : State} (h : linkFrame.Keeps s₀ s) (e : (s.reachStep n) = some t) : linkFrame.Keeps s₀ t := by
  unfold State.reachStep at e
  split at e
  · split at e
    · cases e
      exact h
    · cases e
  · cases e
    exact keeps_reach h

theorem linkKeeps_setVrec {k : Nat} {v : VRec} (h : linkFrame.Keeps s₀ s) : linkFrame.Keeps s₀ (s.setVrec k v) := linkKeeps_update h

theorem linkKeeps_quarEvent {k : Nat} (h : linkFrame.Keeps s₀ s) : linkFrame.Keeps s₀ (s.quarEvent k) := keeps_event h

theorem linkKeeps_quarSlot {n : Nat} (h : linkFrame.Keeps s₀ s) : linkFrame.Keeps s₀ (s.quarSlot n) :=
  keeps_ite h (linkKeeps_quarEvent (linkKeeps_setSlot (linkKeeps_setVrec h)))

theorem linkKeeps_quarPort {k : Nat} (h : linkFrame.Keeps s₀ s) : linkFrame.Keeps s₀ (s.quarPort k) :=
  keeps_foldl (linkKeeps_quarEvent (linkKeeps_update (linkKeeps_setVrec h))) (fun _ _ h' => keeps_ite (linkKeeps_quarEvent
    (linkKeeps_setSlot h')) (keeps_ite (linkKeeps_setSlot h') h'))

theorem linkKeeps_quarLink {k : Nat} (h : linkFrame.Keeps s₀ s) : linkFrame.Keeps s₀ (s.quarLink k) :=
  linkKeeps_quarEvent (linkKeeps_update (linkKeeps_setVrec h))

theorem linkKeeps_quarantine {k : Nat} (h : linkFrame.Keeps s₀ s) : linkFrame.Keeps s₀ (s.quarantine k) :=
  keeps_ite (linkKeeps_quarSlot h) (keeps_ite (linkKeeps_quarPort h) (linkKeeps_quarLink h))

theorem linkKeeps_violate {k kind : Nat} (h : linkFrame.Keeps s₀ s) : linkFrame.Keeps s₀ (s.violate k kind) := by
  unfold State.violate
  extract_lets v step s₁ v' s₂ s₃
  have h₁ : linkFrame.Keeps s₀ s₁ := keeps_ite h (keeps_event h)
  have h₂ : linkFrame.Keeps s₀ s₂ := linkKeeps_setVrec h₁
  have h₃ : linkFrame.Keeps s₀ s₃ := keeps_ite (keeps_countSat (linkFrame_ownsAbove (by decide)) h₂) h₂
  exact keeps_ite h₃ (keeps_ite (linkKeeps_quarantine h₃) (keeps_ite (linkKeeps_quarantine h₃) h₃))

theorem linkKeeps_setLinkPort {p : Nat} {x : LinkPort} (h : linkFrame.Keeps s₀ s) : linkFrame.Keeps s₀ (s.setLinkPort p x) :=
  linkKeeps_update h

theorem linkKeeps_setMember {n : Nat} {v : Bool} (h : linkFrame.Keeps s₀ s) : linkFrame.Keeps s₀ (s.setMember n v) := by
  refine keeps_setBit ?_ h
  split <;> rfl

theorem linkKeeps_linkCtl {p : Nat} {nak : Bool} {lseq : Nat} (h : linkFrame.Keeps s₀ s) : linkFrame.Keeps s₀ (s.linkCtl p nak lseq) :=
  keeps_emit h

theorem linkKeeps_linkPump {p : Nat} {x0 : Nat} (h : linkFrame.Keeps s₀ s) : linkFrame.Keeps s₀ (s.linkPump p x0) := by
  induction x0 generalizing s with
  | zero => exact h
  | succ n ih =>
    unfold State.linkPump
    extract_lets x
    split
    · exact h
    · exact keeps_ite (ih (keeps_emit (linkKeeps_setLinkPort h))) h

theorem linkKeeps_linkPost {f : LinkOut} (h : linkFrame.Keeps s₀ s) : linkFrame.Keeps s₀ (s.linkPost f) :=
  keeps_ite (linkKeeps_linkPump (linkKeeps_setLinkPort h)) h

theorem linkKeeps_linkSendFlags {p type src dst step flags : Nat} {payload : List Byte} (h : linkFrame.Keeps s₀ s) :
    linkFrame.Keeps s₀ (s.linkSendFlags p type src dst step flags payload) :=
  linkKeeps_linkPost h

theorem linkKeeps_linkSendFrom {p type src dst step : Nat} {payload : List Byte} (h : linkFrame.Keeps s₀ s) :
    linkFrame.Keeps s₀ (s.linkSendFrom p type src dst step payload) :=
  linkKeeps_linkSendFlags h

theorem linkKeeps_linkSend {p type dst step : Nat} {payload : List Byte} (h : linkFrame.Keeps s₀ s) :
    linkFrame.Keeps s₀ (s.linkSend p type dst step payload) :=
  linkKeeps_linkSendFrom h

theorem linkKeeps_sendHello {p : Nat} {ask : Bool} (h : linkFrame.Keeps s₀ s) : linkFrame.Keeps s₀ (s.sendHello p ask) :=
  linkKeeps_linkSendFlags h

theorem linkKeeps_sendEcho {p : Nat} {reply : Bool} (h : linkFrame.Keeps s₀ s) : linkFrame.Keeps s₀ (s.sendEcho p reply) :=
  linkKeeps_linkSend h

theorem linkKeeps_sendDev {n type step : Nat} {payload : List Byte} (h : linkFrame.Keeps s₀ s) :
    linkFrame.Keeps s₀ (s.sendDev n type step payload) := by
  unfold State.sendDev
  split
  · exact linkKeeps_linkSend h
  · exact h

theorem linkKeeps_sendAll {type step : Nat} {payload : List Byte} (h : linkFrame.Keeps s₀ s) :
    linkFrame.Keeps s₀ (s.sendAll type step payload) :=
  keeps_foldl h (fun _ _ h' => keeps_ite (linkKeeps_sendDev h') h')

theorem linkKeeps_sendEpoch {p : Nat} (h : linkFrame.Keeps s₀ s) : linkFrame.Keeps s₀ (s.sendEpoch p) := linkKeeps_linkSend h

theorem linkKeeps_tellEpoch (h : linkFrame.Keeps s₀ s) : linkFrame.Keeps s₀ s.tellEpoch := linkKeeps_sendAll h

theorem linkKeeps_setLport {p : Nat} {l : LinkPort} (h : linkFrame.Keeps s₀ s) : linkFrame.Keeps s₀ (s.setLport p l) := linkKeeps_update h

theorem linkKeeps_delayTaken {p : Nat} {x : DelayTimes} (h : linkFrame.Keeps s₀ s) : linkFrame.Keeps s₀ (s.delayTaken p x) := by
  unfold State.delayTaken
  extract_lets _ s₁ d l'
  have h₁ : linkFrame.Keeps s₀ s₁ := keeps_reach h
  exact keeps_ite h (keeps_ite (linkKeeps_violate h₁) (keeps_setRegSat (linkFrame_ownsAbove (by decide)) (linkKeeps_setLport h₁)))

theorem linkKeeps_sendPair {type step flags : Nat} {payload : List Byte} (h : linkFrame.Keeps s₀ s) :
    linkFrame.Keeps s₀ (s.sendPair type step flags payload) := by
  unfold State.sendPair
  split
  · exact linkKeeps_linkSendFlags h
  · exact h

theorem linkKeeps_raiseEpoch {e : Nat} (h : linkFrame.Keeps s₀ s) : linkFrame.Keeps s₀ (s.raiseEpoch e) := keeps_event (keeps_setReg rfl h)

theorem linkKeeps_dropDelta (h : linkFrame.Keeps s₀ s) : linkFrame.Keeps s₀ s.dropDelta := linkKeeps_update h

theorem linkKeeps_requestCopy (h : linkFrame.Keeps s₀ s) : linkFrame.Keeps s₀ s.requestCopy :=
  linkKeeps_sendPair (linkKeeps_update (linkKeeps_dropDelta h))

theorem linkKeeps_enterSyncing (h : linkFrame.Keeps s₀ s) : linkFrame.Keeps s₀ s.enterSyncing := linkKeeps_requestCopy (linkKeeps_update h)

theorem linkKeeps_takeEpoch {e : Nat} (h : linkFrame.Keeps s₀ s) : linkFrame.Keeps s₀ (s.takeEpoch e) :=
  keeps_ite h (keeps_ite (linkKeeps_enterSyncing (linkKeeps_raiseEpoch h)) (linkKeeps_raiseEpoch h))

theorem linkKeeps_agreed {p : Nat} (h : linkFrame.Keeps s₀ s) : linkFrame.Keeps s₀ (s.agreed p) := linkKeeps_setLinkPort h

theorem linkKeeps_hear {n : Nat} (h : linkFrame.Keeps s₀ s) : linkFrame.Keeps s₀ (s.hear n) := linkKeeps_update h

theorem linkKeeps_foundGroup (h : linkFrame.Keeps s₀ s) : linkFrame.Keeps s₀ s.foundGroup :=
  linkKeeps_update (keeps_foldl h (fun _ _ h' => linkKeeps_hear (linkKeeps_setMember h')))

theorem linkKeeps_admitMember {n : Nat} (h : linkFrame.Keeps s₀ s) : linkFrame.Keeps s₀ (s.admitMember n) :=
  keeps_ite (linkKeeps_hear h) (keeps_event (linkKeeps_hear (linkKeeps_setMember h)))

theorem linkKeeps_lead {p : Nat} (h : linkFrame.Keeps s₀ s) : linkFrame.Keeps s₀ (s.lead p) :=
  linkKeeps_tellEpoch (linkKeeps_agreed (keeps_ite (linkKeeps_foundGroup (linkKeeps_raiseEpoch h)) (linkKeeps_admitMember
    (linkKeeps_raiseEpoch h))))

theorem linkKeeps_agreeEpoch {p : Nat} (h : linkFrame.Keeps s₀ s) : linkFrame.Keeps s₀ (s.agreeEpoch p) :=
  keeps_ite (linkKeeps_lead h) (keeps_ite (linkKeeps_sendEpoch (linkKeeps_agreed h)) h)

theorem linkKeeps_bringUp {p : Nat} {x0 : Nat} (h : linkFrame.Keeps s₀ s) : linkFrame.Keeps s₀ (s.bringUp p x0) := by
  induction x0 generalizing s with
  | zero => exact h
  | succ n ih =>
    have hgo (x : LinkPort) : linkFrame.Keeps s₀ (s.setLinkPort p x) := linkKeeps_setLinkPort h
    unfold State.bringUp
    refine keeps_ite h ?_
    extract_lets
    split
    · exact keeps_ite (ih (linkKeeps_sendEcho (hgo _))) h
    · exact keeps_ite (ih (linkKeeps_linkSend (hgo _))) h
    · exact keeps_ite (ih (linkKeeps_agreeEpoch (hgo _))) h
    · exact keeps_ite (hgo _) h
    · exact h

theorem linkKeeps_startBringUp {p : Nat} {ask : Bool} (h : linkFrame.Keeps s₀ s) : linkFrame.Keeps s₀ (s.startBringUp p ask) :=
  keeps_ite (linkKeeps_setLinkPort h) (linkKeeps_sendHello (linkKeeps_setLinkPort h))

theorem linkKeeps_linkLock {p : Nat} (h : linkFrame.Keeps s₀ s) : linkFrame.Keeps s₀ (s.linkLock p) :=
  keeps_ite h (linkKeeps_startBringUp (linkKeeps_setLinkPort h))

theorem linkKeeps_linkDown {p : Nat} (h : linkFrame.Keeps s₀ s) : linkFrame.Keeps s₀ (s.linkDown p) := linkKeeps_setLinkPort h

theorem linkKeeps_linkAdmit {p : Nat} (h : linkFrame.Keeps s₀ s) : linkFrame.Keeps s₀ (s.linkAdmit p) :=
  keeps_ite (linkKeeps_setLinkPort h) h

theorem linkKeeps_linkSeq {p lseq : Nat} (h : linkFrame.Keeps s₀ s) : linkFrame.Keeps s₀ (s.linkSeq p lseq).2 :=
  keeps_ite_snd (linkKeeps_linkCtl (linkKeeps_setLinkPort h)) (keeps_ite_snd (linkKeeps_linkCtl h) (keeps_ite_snd (linkKeeps_linkCtl h)
    (linkKeeps_linkCtl (linkKeeps_violate h))))

theorem linkKeeps_linkTake {p type : Nat} {h : LinkHdr} {pl : List Byte} {f : State → State} (hk : linkFrame.Keeps s₀ s) (hf : ∀ s,
    linkFrame.Keeps s₀ s → linkFrame.Keeps s₀ (f s)) : linkFrame.Keeps s₀ (s.linkTake p type h pl f) := by
  unfold State.linkTake
  extract_lets dst
  refine keeps_ite ?_ (keeps_ite hk (keeps_ite (keeps_countSat rfl hk) (hf _ (keeps_ite (linkKeeps_takeEpoch hk) hk))))
  split
  · exact linkKeeps_linkPost hk
  · exact hk

theorem linkKeeps_linkRx {p type : Nat} {h : LinkHdr} {pl : List Byte} {f : State → State} (hk : linkFrame.Keeps s₀ s) (hf : ∀ s,
    linkFrame.Keeps s₀ s → linkFrame.Keeps s₀ (f s)) : linkFrame.Keeps s₀ (s.linkRx p type h pl f) := by
  have hseq := keeps_ite_snd (c := (type == 1) = true) (p := (true, s)) hk (linkKeeps_linkSeq (p := p) (lseq := h.lseq.toNat) hk)
  have hhear := linkKeeps_hear (n := h.srcDev.toNat) hseq
  unfold State.linkRx
  exact keeps_ite hk (keeps_ite (linkKeeps_linkCtl (keeps_countSat (linkFrame_ownsAbove (by decide)) hk))
    (keeps_ite (linkKeeps_linkCtl (linkKeeps_violate hk)) (keeps_ite hseq (keeps_ite (linkKeeps_violate hseq)
      (keeps_ite hseq (keeps_ite (linkKeeps_violate hseq)
        (linkKeeps_linkAdmit (linkKeeps_linkTake (keeps_ite (linkKeeps_setLinkPort hhear) hhear) hf))))))))

theorem linkKeeps_replay {p : Nat} (h : linkFrame.Keeps s₀ s) : linkFrame.Keeps s₀ (s.replay p) :=
  keeps_ite h (keeps_ite (linkKeeps_linkDown h) (keeps_foldl (keeps_countSat (linkFrame_ownsAbove (by decide)) (linkKeeps_setLinkPort h))
    (fun _ _ h' => keeps_emit h')))

theorem linkKeeps_linkAck {p n : Nat} (h : linkFrame.Keeps s₀ s) : linkFrame.Keeps s₀ (s.linkAck p n) :=
  keeps_ite h (linkKeeps_linkPump (linkKeeps_setLinkPort h))

theorem linkKeeps_readmitMember {n : Nat} (h : linkFrame.Keeps s₀ s) : linkFrame.Keeps s₀ (s.readmitMember n) :=
  keeps_ite h (linkKeeps_tellEpoch (linkKeeps_raiseEpoch (linkKeeps_admitMember h)))

theorem linkKeeps_onHello {p : Nat} {h : LinkHdr} {m : Hello} (hk : linkFrame.Keeps s₀ s) : linkFrame.Keeps s₀ (s.onHello p h m) :=
  keeps_ite (keeps_ite (linkKeeps_readmitMember hk) hk) (keeps_ite (linkKeeps_violate (linkKeeps_setLinkPort hk)) (linkKeeps_bringUp
    (keeps_ite (linkKeeps_readmitMember (keeps_ite (linkKeeps_sendHello (linkKeeps_setLinkPort hk)) (linkKeeps_setLinkPort hk))) (keeps_ite
    (linkKeeps_sendHello (linkKeeps_setLinkPort hk)) (linkKeeps_setLinkPort hk)))))

theorem linkKeeps_onEcho {p : Nat} {reply crcOk : Bool} (h : linkFrame.Keeps s₀ s) : linkFrame.Keeps s₀ (s.onEcho p reply crcOk) :=
  keeps_ite (linkKeeps_sendEcho h) (keeps_ite (linkKeeps_bringUp (linkKeeps_setLinkPort h)) (keeps_event (keeps_draw (linkKeeps_setLinkPort
    h))))

theorem linkKeeps_onFeat {p : Nat} {feats : BitVec 256} (h : linkFrame.Keeps s₀ s) : linkFrame.Keeps s₀ (s.onFeat p feats) :=
  keeps_ite (keeps_foldl h (fun _ _ h' => keeps_ite h' (linkKeeps_setLinkPort h'))) (keeps_ite (linkKeeps_agreeEpoch (linkKeeps_linkSend
    h)) (linkKeeps_bringUp (linkKeeps_setLinkPort h)))

theorem linkKeeps_markResync {l : List Nat} (h : linkFrame.Keeps s₀ s) : linkFrame.Keeps s₀ (s.markResync l) := linkKeeps_update h

theorem linkKeeps_deltaFrame {p : Nat} {ok : Bool} {slots : List Nat} {bytes : List Byte} {put : Slk → Slk} (h : linkFrame.Keeps s₀ s) :
    linkFrame.Keeps s₀ (s.deltaFrame p ok slots bytes put) :=
  keeps_ite h (keeps_ite (linkKeeps_markResync (linkKeeps_violate h)) (linkKeeps_update h))

theorem linkKeeps_setMirrorLost {v : Bool} (h : linkFrame.Keeps s₀ s) : linkFrame.Keeps s₀ (s.setMirrorLost v) :=
  keeps_ite h (keeps_event (linkKeeps_update h))

theorem linkKeeps_onDeltaAck (h : linkFrame.Keeps s₀ s) : linkFrame.Keeps s₀ s.onDeltaAck :=
  keeps_ite h (linkKeeps_setMirrorLost (linkKeeps_update (keeps_countWrap rfl h)))

theorem linkKeeps_loseMember {n : Nat} (h : linkFrame.Keeps s₀ s) : linkFrame.Keeps s₀ (s.loseMember n) :=
  keeps_ite h (linkKeeps_sendDev (linkKeeps_tellEpoch (keeps_event (linkKeeps_raiseEpoch (linkKeeps_setMember (keeps_reach h))))))

theorem linkKeeps_onDetClaim {p : Nat} {claims : List Claim} (h : linkFrame.Keeps s₀ s) : linkFrame.Keeps s₀ (s.onDetClaim p claims) :=
  keeps_ite (linkKeeps_violate h) (linkKeeps_update h)

end

/-- Settles O59: every operation a link command names keeps `linkFrame`, and the statement reads off what that frame keeps. -/
theorem linkCommandsKeepTheRest : Obligations.LinkCommandsKeepTheRest := by
  intro c s t hc e
  have h : linkFrame.Keeps s s := .refl
  have hkeeps : linkFrame.Keeps s t := by
    cases c with
    | hello => cases e; exact linkKeeps_linkRx h (fun _ h' => linkKeeps_onHello h')
    | handoff => cases e; exact linkKeeps_linkRx h (fun _ h' => keeps_ite (linkKeeps_update h') h')
    | linkReplayTimeout => cases e; exact keeps_ite h (linkKeeps_replay (keeps_reach h))
    | deltaSeq => cases e; exact linkKeeps_linkRx h (fun _ h' => linkKeeps_deltaFrame h')
    | memberTimeout => cases e; exact linkKeeps_loseMember h
    | deltaAck => cases e; exact linkKeeps_linkRx h (fun _ h' => linkKeeps_onDeltaAck h')
    | deltaKv => cases e; exact linkKeeps_linkRx h (fun _ h' => linkKeeps_deltaFrame h')
    | linkCtl => cases e; exact linkKeeps_linkRx h (fun _ h' => keeps_ite (linkKeeps_replay (linkKeeps_linkAck h')) (linkKeeps_linkAck h'))
    | deltaRec => cases e; exact linkKeeps_linkRx h (fun _ h' => linkKeeps_deltaFrame h')
    | feat => cases e; exact linkKeeps_linkRx h (fun _ h' => linkKeeps_onFeat h')
    | echo => cases e; exact linkKeeps_linkRx h (fun _ h' => linkKeeps_onEcho h')
    | detClaim => cases e; exact linkKeeps_linkRx h (fun _ h' => linkKeeps_onDetClaim h')
    | handRetryExpiry =>
      cases e
      split
      · split
        · next heq => exact linkKeeps_update (linkKeeps_reachStep h heq)
        · exact h
      · exact h
    | delayResponse => cases e; exact linkKeeps_delayTaken h
    | linkLock => cases e; exact linkKeeps_linkLock h
    | linkDown => cases e; exact linkKeeps_linkDown h
    | deltaAckTimeout => cases e; exact keeps_ite (linkKeeps_setMirrorLost (linkKeeps_update h)) h
    | _ => cases hc
  exact ⟨State.sameMemory_of_mem hkeeps.mem, fun o ho => hkeeps.regs o (linkFrame_ownsNotBelow ho), (congrArg State.pending hkeeps.rest :),
    (congrArg State.part hkeeps.rest :), (congrArg State.pae hkeeps.rest :), (congrArg State.ego hkeeps.rest :), (congrArg State.tca
    hkeeps.rest :), (congrArg State.dml hkeeps.rest :), (congrArg State.tac hkeeps.rest :), (congrArg State.fld hkeeps.rest :), (congrArg
    State.bse hkeeps.rest :), (congrArg State.csq hkeeps.rest :), (congrArg State.lth hkeeps.rest :), (congrArg State.msys hkeeps.rest :),
    (congrArg State.saf hkeeps.rest :), (congrArg State.sec hkeeps.rest :), (congrArg State.aon hkeeps.rest :)⟩

end Sys2Proof.Machine
end

section
/-! PROOFS. The frame of host, power and island events (R556 to R594, R675 to R699, R732 to R738). -/

namespace Sys2Proof.Machine

/-- The frame of host, power and island events: the registers of HIF, AON and SAF, and those blocks. -/
def hostFrame : Frame where
  own o := [0, 1, 14].contains (o / 0x100000)
  rest s := { s with regs := [], mem := [], out := [], free := 0, hif := {}, aon := {}, tbu := {}, saf := {} }
  rest_update _ _ _ _ _ _ := rfl

theorem hostKeeps_update {s₀ s : State} {out free hif aon tbu saf} (h : hostFrame.Keeps s₀ s) :
    hostFrame.Keeps s₀ ⟨s.pending, s.regs, s.mem, out, free, s.part, hif, aon, tbu, s.sic, s.pae, s.ego, s.tca, s.dml, s.tac, s.fld, s.bse,
      s.csq, s.lth, s.msys, saf, s.slk, s.sec⟩ := h.beside rfl rfl rfl

section
variable {s₀ s : State}

theorem hostKeeps_msix {v : Nat} (h : hostFrame.Keeps s₀ s) : hostFrame.Keeps s₀ (s.msix v) := keeps_ite (hostKeeps_update h) (keeps_emit h)

theorem hostKeeps_flushMsix (h : hostFrame.Keeps s₀ s) : hostFrame.Keeps s₀ s.flushMsix :=
  keeps_foldl h (fun _ _ h' => keeps_ite (keeps_emit (hostKeeps_update h')) h')

theorem hostKeeps_moderationEnd (h : hostFrame.Keeps s₀ s) : hostFrame.Keeps s₀ s.moderationEnd := by
  unfold State.moderationEnd
  split
  · exact hostKeeps_msix (hostKeeps_update (keeps_reach h))
  · exact h

theorem hostKeeps_unmask {v : Nat} (h : hostFrame.Keeps s₀ s) : hostFrame.Keeps s₀ (s.unmask v) :=
  keeps_ite (keeps_emit (hostKeeps_update (hostKeeps_update h))) (hostKeeps_update h)

theorem hostKeeps_setCond {b : Nat} {v : Bool} (h : hostFrame.Keeps s₀ s) : hostFrame.Keeps s₀ (s.setCond b v) :=
  keeps_ite (keeps_setBit rfl (keeps_setBit rfl h)) (keeps_setBit rfl h)

theorem hostKeeps_setFb {m : SMap FbTrk} (h : hostFrame.Keeps s₀ s) : hostFrame.Keeps s₀ (s.setFb m) :=
  keeps_setFld rfl (hostKeeps_update h)

theorem hostKeeps_fbDrop (h : hostFrame.Keeps s₀ s) : hostFrame.Keeps s₀ s.fbDrop := keeps_countSat rfl h

theorem hostKeeps_fbApply {k : Nat} {t : FbTrk} {m : FbMeas} (h : hostFrame.Keeps s₀ s) : hostFrame.Keeps s₀ (s.fbApply k t m) :=
  keeps_ite (hostKeeps_fbDrop h) (hostKeeps_setFb h)

theorem hostKeeps_fbMotion {m : MotionSample} (h : hostFrame.Keeps s₀ s) : hostFrame.Keeps s₀ (s.fbMotion m) :=
  keeps_ite h (keeps_setBit rfl (hostKeeps_update h))

theorem hostKeeps_fbPartner {n : Nat} {b : List Byte} (h : hostFrame.Keeps s₀ s) : hostFrame.Keeps s₀ (s.fbPartner n b) := by
  unfold State.fbPartner
  refine keeps_ite h (keeps_foldl h fun u k h' => ?_)
  dsimp only
  split
  · exact hostKeeps_fbApply h'
  · exact h'

theorem hostKeeps_fbTimeout {k : Nat} (h : hostFrame.Keeps s₀ s) : hostFrame.Keeps s₀ (s.fbTimeout k) := by
  unfold State.fbTimeout
  split
  · exact hostKeeps_setFb (keeps_reach h)
  · exact h

theorem hostKeeps_drLost (h : hostFrame.Keeps s₀ s) : hostFrame.Keeps s₀ s.drLost :=
  keeps_ite h (hostKeeps_setCond (keeps_setBit rfl (keeps_reach h)))

theorem hostKeeps_setFlt {low : Bool} (h : hostFrame.Keeps s₀ s) : hostFrame.Keeps s₀ (s.setFlt low) :=
  keeps_ite h (hostKeeps_msix (keeps_emit (keeps_setBit rfl (hostKeeps_update h))))

theorem hostKeeps_freshCheck (h : hostFrame.Keeps s₀ s) : hostFrame.Keeps s₀ s.freshCheck := hostKeeps_setCond (hostKeeps_update h)

theorem hostKeeps_setPair {p : PairId} {x : IslPair} (h : hostFrame.Keeps s₀ s) : hostFrame.Keeps s₀ (s.setPair p x) := by
  unfold State.setPair
  split
  · exact hostKeeps_setCond (keeps_setBit rfl (hostKeeps_update h))
  · exact hostKeeps_setCond (keeps_setBit rfl (hostKeeps_update h))

theorem hostKeeps_pairDown {p : PairId} (h : hostFrame.Keeps s₀ s) : hostFrame.Keeps s₀ (s.pairDown p) :=
  keeps_ite h (keeps_event (hostKeeps_setFlt (hostKeeps_setPair h)))

theorem hostKeeps_pairUp {p : PairId} (h : hostFrame.Keeps s₀ s) : hostFrame.Keeps s₀ (s.pairUp p) :=
  keeps_ite h (keeps_event (hostKeeps_freshCheck (hostKeeps_setPair h)))

theorem hostKeeps_pairMiss {p : PairId} (h : hostFrame.Keeps s₀ s) : hostFrame.Keeps s₀ (s.pairMiss p) :=
  keeps_ite h (keeps_ite (hostKeeps_pairDown (hostKeeps_setPair h)) (hostKeeps_setPair h))

theorem hostKeeps_hbStep (h : hostFrame.Keeps s₀ s) : hostFrame.Keeps s₀ s.hbStep :=
  keeps_ite (keeps_emit (hostKeeps_update (keeps_reach h))) h

theorem hostKeeps_safeReqPin {level : Bool} (h : hostFrame.Keeps s₀ s) : hostFrame.Keeps s₀ (s.safeReqPin level) :=
  keeps_ite h (keeps_event (keeps_setBit rfl (hostKeeps_update h)))

theorem hostKeeps_holdExpiry {c : Nat} (h : hostFrame.Keeps s₀ s) : hostFrame.Keeps s₀ (s.holdExpiry c) :=
  keeps_ite (hostKeeps_setCond h) (keeps_ite (hostKeeps_setCond h) h)

theorem hostKeeps_wakeStart {src : Nat} (h : hostFrame.Keeps s₀ s) : hostFrame.Keeps s₀ (s.wakeStart src) :=
  keeps_emit (hostKeeps_update (keeps_setFld rfl h))

theorem hostKeeps_wakeBy {src : Nat} (h : hostFrame.Keeps s₀ s) : hostFrame.Keeps s₀ (s.wakeBy src) :=
  keeps_ite (keeps_ite (hostKeeps_update h) h) (keeps_ite (hostKeeps_wakeStart h) h)

end

/-- Settles O60: every operation such an event names keeps `hostFrame`, and the statement reads off what that frame keeps. -/
theorem hostPowerAndIslandEventsKeepTheRest : Obligations.HostPowerAndIslandEventsKeepTheRest := by
  intro c s t hc e
  have h : hostFrame.Keeps s s := .refl
  have hkeeps : hostFrame.Keeps s t := by
    cases c with
    | pcieLinkUp =>
      cases e
      exact keeps_ite (keeps_ite (keeps_emit (hostKeeps_update (hostKeeps_update (keeps_setFld rfl (keeps_setFld rfl (keeps_draw h))))))
        (hostKeeps_update (keeps_setFld rfl (keeps_setFld rfl (keeps_draw h))))) h
    | busMasterEnable => cases e; exact keeps_ite (hostKeeps_flushMsix (keeps_setBit rfl h)) h
    | d3hotEntry => cases e; exact keeps_ite (keeps_setBit rfl h) h
    | d3hotExit => cases e; exact keeps_ite (hostKeeps_flushMsix (keeps_setBit rfl h)) h
    | l1EntryRequest => cases e; exact keeps_ite (keeps_emit h) h
    | msixUnmask => cases e; exact keeps_ite (hostKeeps_unmask h) h
    | msixModerationEnd => cases e; exact hostKeeps_moderationEnd h
    | pllLock => cases e; exact keeps_ite (keeps_setBit rfl h) h
    | canWake => cases e; exact keeps_ite (hostKeeps_wakeBy h) h
    | perstRelease => cases e; exact keeps_ite (keeps_ite (hostKeeps_wakeBy (hostKeeps_update h)) (hostKeeps_update h)) h
    | tc10Wake => cases e; exact keeps_ite (hostKeeps_wakeBy h) h
    | wakeTimerExpiry => cases e; exact keeps_ite (hostKeeps_wakeBy h) h
    | thermalNear => cases e; exact keeps_ite h (keeps_ite (keeps_event (hostKeeps_update (keeps_setReg rfl h))) (keeps_setReg rfl h))
    | xtal32kStable => cases e; exact keeps_ite h (hostKeeps_update h)
    | deviceReady => cases e; exact keeps_ite (keeps_setReg rfl (keeps_setBit rfl (hostKeeps_update h))) h
    | islandPairMiss => cases e; exact hostKeeps_pairMiss h
    | lockstepMismatch => cases e; exact keeps_ite (hostKeeps_pairDown h) h
    | pairRestartDone => cases e; exact hostKeeps_pairUp h
    | safeReqChange => cases e; exact hostKeeps_safeReqPin h
    | hbToggle => cases e; exact hostKeeps_hbStep h
    | fbMotionSample => cases e; exact hostKeeps_fbMotion h
    | fbTrackTimeout => cases e; exact hostKeeps_fbTimeout h
    | fbPartnerList => cases e; exact hostKeeps_fbPartner h
    | fbDeadReckoningLost => cases e; exact hostKeeps_drLost h
    | conditionHoldExpiry => cases e; exact hostKeeps_holdExpiry h
    | _ => cases hc
  exact ⟨State.sameMemory_of_mem hkeeps.mem, fun o ho => hkeeps.regs o (Bool.eq_false_iff.2 fun hown => ho (List.contains_iff_mem.1 hown)),
    (congrArg State.pending hkeeps.rest :), (congrArg State.part hkeeps.rest :), (congrArg State.sic hkeeps.rest :), (congrArg State.pae
    hkeeps.rest :), (congrArg State.ego hkeeps.rest :), (congrArg State.tca hkeeps.rest :), (congrArg State.dml hkeeps.rest :), (congrArg
    State.tac hkeeps.rest :), (congrArg State.fld hkeeps.rest :), (congrArg State.bse hkeeps.rest :), (congrArg State.csq hkeeps.rest :),
    (congrArg State.lth hkeeps.rest :), (congrArg State.msys hkeeps.rest :), (congrArg State.slk hkeeps.rest :), (congrArg State.sec
    hkeeps.rest :)⟩

end Sys2Proof.Machine
end

section
/-! PROOFS. A frame of the Salarur Link as it comes in (R598, R599, R605). -/

namespace Sys2Proof.Machine

/-- The state that has taken and acknowledged a frame whose LSEQ it expects; an acknowledgement frame itself is not (R599). -/
def State.acked (s : State) (p type : Nat) (h : LinkHdr) : State :=
  if type == 1 then s
  else (s.setLinkPort p { s.linkPort p with rxSeq := ((s.linkPort p).rxSeq + 1) % 2 ^ 32 }).linkCtl p false h.lseq.toNat

/-- The state that has heard the sender of a frame, a good one more of a port in readmission (R13, R619). -/
def State.heardOn (s : State) (p : Nat) (h : LinkHdr) : State :=
  let t := s.hear h.srcDev.toNat
  let x := t.linkPort p
  if x.held && x.quar && (t.vrec (304 + p)).hold.isNone then t.setLinkPort p { x with good := x.good + 1 } else t

section
variable (s : State) {p type : Nat} {h : LinkHdr} {pl : List Byte} {f : State → State}

/-- Whether a sender is proper depends on the configuration and on what the port knows of its peer. -/
theorem srcOk_congr {t : State} (hregs : t.regs = s.regs) (hphase : (t.linkPort p).phase = (s.linkPort p).phase)
    (hexpect : (t.linkPort p).expect = (s.linkPort p).expect) (hpeer : (t.linkPort p).peer = (s.linkPort p).peer) :
    t.srcOk p type h = s.srcOk p type h := by
  have hfld (o lo w : Nat) : t.fld' o lo w = s.fld' o lo w := by simp only [State.fld', reg_congr hregs]
  simp only [State.srcOk, State.travels, State.farHello, State.arrivesOver, State.linkRole, State.slkConfig, State.devNo, State.dimX,
      State.dimY,
    hfld, hphase, hexpect, hpeer]
  rfl

theorem srcOk_acked : (s.acked p type h).srcOk p type h = s.srcOk p type h := by
  unfold State.acked
  split
  · rfl
  · have hport (x : LinkPort) : ((s.setLinkPort p x).linkCtl p false h.lseq.toNat).linkPort p = x := linkPort_setLinkPort s p x
    exact srcOk_congr s rfl (by rw [hport]) (by rw [hport]) (by rw [hport])

/-- A damaged frame is counted and answered with a NAK. -/
theorem linkRx_damaged (hon : s.linkOn p = true) (hup : (s.linkPort p).up = true) (hcrc : h.hcrcOk = false ∨ h.pcrcOk = false) :
    s.linkRx p type h pl f = (s.countSat (Reg.SLK_P_CRC p) 0 32 1).linkCtl p true (s.linkPort p).rxSeq := by
  have hbad : (!h.hcrcOk || !h.pcrcOk) = true := by simpa using hcrc
  unfold State.linkRx
  rw [if_neg (by simp [hon, hup]), if_pos hbad]

theorem linkRx_badLength (hon : s.linkOn p = true) (hup : (s.linkPort p).up = true) (hhcrc : h.hcrcOk = true) (hpcrc : h.pcrcOk = true)
    (hlen : h.lenOk = false) : s.linkRx p type h pl f = (s.violate (304 + p) 0x61).linkCtl p true (s.linkPort p).rxSeq := by
  unfold State.linkRx
  rw [if_neg (by simp [hon, hup]), if_neg (by simp [hhcrc, hpcrc]), if_pos (by simp [hlen])]

section
variable (hon : s.linkOn p = true) (hup : (s.linkPort p).up = true) (hhcrc : h.hcrcOk = true) (hpcrc : h.pcrcOk = true)
  (hlenOk : h.lenOk = true) (hlen : h.len ≤ 8192) (halign : h.len % 8 = 0)
include hon hup hhcrc hpcrc hlenOk hlen halign

/-- A whole frame: an acknowledgement goes on as it is, any other by its LSEQ. -/
theorem linkRx_whole {b : Bool} {u : State} (hseq : (if type == 1 then (true, s) else s.linkSeq p h.lseq.toNat) = (b, u)) :
    s.linkRx p type h pl f =
      if !b then u
      else if !h.reservedZero then u.violate (304 + p) 0x60
      else if (s.linkPort p).held && !(type == 1 || type == 2 || type == 6) then u
      else if !u.srcOk p type h then u.violate (304 + p) 0x62
      else ((u.heardOn p h).linkTake p type h pl f).linkAdmit p := by
  unfold State.linkRx
  rw [if_neg (by simp [hon, hup]), if_neg (by simp [hhcrc, hpcrc]), if_neg (by simp [hlenOk, hlen, halign]), hseq]
  rfl

theorem linkRx_repeated (htype : type ≠ 1) (hrep : (s.linkPort p).rxSeq = (h.lseq.toNat + 1) % 2 ^ 32) :
    s.linkRx p type h pl f = s.linkCtl p false h.lseq.toNat := by
  have hlt : h.lseq.toNat < 2 ^ 32 := h.lseq.isLt
  have hback : (h.lseq.toNat + 2 ^ 32 - (s.linkPort p).rxSeq) % 2 ^ 32 = 2 ^ 32 - 1 := by omega
  have hlast : ((s.linkPort p).rxSeq + 2 ^ 32 - 1) % 2 ^ 32 = h.lseq.toNat := by omega
  have hseq : s.linkSeq p h.lseq.toNat = (false, s.linkCtl p false h.lseq.toNat) := by
    unfold State.linkSeq
    dsimp only
    rw [hback, hlast]
    rfl
  rw [linkRx_whole s hon hup hhcrc hpcrc hlenOk hlen halign (b := false) (u := s.linkCtl p false h.lseq.toNat)
    (by rw [if_neg (by simpa using htype), hseq])]
  rfl

/-- A whole frame in order, in form and from its proper source is acknowledged, its sender heard, and its content taken. -/
theorem linkRx_inForm (hseq : type = 1 ∨ h.lseq.toNat = (s.linkPort p).rxSeq) (hres : h.reservedZero = true)
    (hheld : (s.linkPort p).held = false ∨ type = 1 ∨ type = 2 ∨ type = 6) (hsrc : s.srcOk p type h = true) :
    s.linkRx p type h pl f = (((s.acked p type h).heardOn p h).linkTake p type h pl f).linkAdmit p := by
  have hacked : (if type == 1 then (true, s) else s.linkSeq p h.lseq.toNat) = (true, s.acked p type h) := by
    unfold State.acked
    split
    · rfl
    · next htype =>
      have heq : h.lseq.toNat = (s.linkPort p).rxSeq := hseq.resolve_left (by simpa using htype)
      have hzero : (h.lseq.toNat + 2 ^ 32 - (s.linkPort p).rxSeq) % 2 ^ 32 = 0 := by
        rw [heq, Nat.add_sub_cancel_left, Nat.mod_self]
      unfold State.linkSeq
      dsimp only
      rw [hzero]
      rfl
  rw [linkRx_whole s hon hup hhcrc hpcrc hlenOk hlen halign hacked, if_neg (by decide), if_neg (by simp [hres]), if_neg, if_neg]
  · rw [srcOk_acked, hsrc]
    decide
  · rcases hheld with hheld | rfl | rfl | rfl
    · simp [hheld]
    all_goals simp

end

/-! What taking a frame in leaves as it was -/

theorem acked_regs : (s.acked p type h).regs = s.regs := by
  unfold State.acked
  split <;> rfl

theorem acked_mem : (s.acked p type h).mem = s.mem := by
  unfold State.acked
  split <;> rfl

theorem acked_port : ∃ n, (s.acked p type h).linkPort p = { s.linkPort p with rxSeq := n } := by
  unfold State.acked
  split
  · exact ⟨_, rfl⟩
  · exact ⟨_, linkPort_setLinkPort s p _⟩

theorem heardOn_regs : (s.heardOn p h).regs = s.regs := by
  unfold State.heardOn
  dsimp only
  split <;> rfl

theorem heardOn_mem : (s.heardOn p h).mem = s.mem := by
  unfold State.heardOn
  dsimp only
  split <;> rfl

theorem heardOn_port : ∃ n, (s.heardOn p h).linkPort p = { s.linkPort p with good := n } := by
  unfold State.heardOn
  dsimp only
  split
  · exact ⟨_, linkPort_setLinkPort _ p _⟩
  · exact ⟨_, rfl⟩

theorem linkAdmit_notHeld (hheld : (s.linkPort p).held = false) : s.linkAdmit p = s := if_neg (by simp [hheld])

/-- An admissible frame of an older epoch is counted and dropped (R605). -/
theorem linkTake_stale (htype : 0x10 ≤ type) (hphase : (s.linkPort p).phase = 5) (hdst : h.all = true ∨ h.dstDev.toNat = s.devNo)
    (hold : h.epoch.toNat < s.epoch) : s.linkTake p type h pl f = s.countSat Reg.SLK_STALE 0 32 1 := by
  have hmine : (s.travels p type h && !h.all && h.dstDev.toNat != s.devNo) = false := by
    rcases hdst with hall | hdst
    · simp [hall]
    · simp [hdst]
  have hjudged : s.epochJudged p type = true := by
    have hne : type ≠ 2 := by omega
    simp [State.epochJudged, htype, hne]
  unfold State.linkTake
  rw [if_neg (by simp [hmine]), if_neg (by simp [hphase]), if_pos (by simp [hjudged, hold])]

end

/-- Settles O38: a frame is judged in the order of `linkRx`, and each of the four is seen at its own check. -/
theorem linkFramesOutOfFormAreNotTaken : Obligations.LinkFramesOutOfFormAreNotTaken := by
  intro p type h pl f s hon hup
  refine ⟨linkRx_damaged s hon hup, fun hhcrc hpcrc hlen => ⟨linkRx_badLength s hon hup hhcrc hpcrc hlen, (violate_spec s _ _).2.1⟩,
    fun hhcrc hpcrc hlenOk hlen halign => linkRx_repeated s hon hup hhcrc hpcrc hlenOk hlen halign, ?_⟩
  intro htype hhcrc hpcrc hlenOk hlen halign hres hseq hheld hsrc hphase hdst hold
  let u := (s.acked p type h).heardOn p h
  have hregs : u.regs = s.regs := (heardOn_regs _).trans (acked_regs s)
  have hmem : u.mem = s.mem := (heardOn_mem _).trans (acked_mem s)
  obtain ⟨n, hacked⟩ := acked_port s (p := p) (type := type) (h := h)
  obtain ⟨m, hport⟩ := heardOn_port (s.acked p type h) (p := p) (h := h)
  have huphase : (u.linkPort p).phase = 5 := by rw [hport, hacked]; exact hphase
  have huheld : (u.linkPort p).held = false := by rw [hport, hacked]; exact hheld
  have hdev : u.devNo = s.devNo := by simp only [State.devNo, State.fld', reg_congr hregs]
  have hepoch : u.epoch = s.epoch := by simp only [State.epoch, State.regN, reg_congr hregs]
  have hrx : s.linkRx p type h pl f = u.countSat Reg.SLK_STALE 0 32 1 := by
    rw [linkRx_inForm s hon hup hhcrc hpcrc hlenOk hlen halign (.inr hseq) hres (.inl hheld) hsrc,
      linkTake_stale u htype huphase (hdev ▸ hdst) (hepoch ▸ hold)]
    exact linkAdmit_notHeld _ huheld
  rw [hrx]
  refine ⟨?_, State.sameMemory_of_mem hmem, fun o ho => ?_⟩
  · rw [regN_countSat]
    simp only [State.regN, reg_congr hregs]
  · rw [State.countSat, State.setFld, reg_setReg_ne _ _ (by simpa using ho), reg_congr hregs]

end Sys2Proof.Machine
end

section
/-! PROOFS. The messages of the host interface (R689, R690, R697 to R699). -/

namespace Sys2Proof.Machine

/-! ### Messages -/

section
variable (s : State)

/-- The pending message of an unmasked vector is sent where the function may post. -/
def State.sendPending (v : Nat) : State :=
  if s.hif.pba.getLsbD v && !s.hif.masked.getLsbD v && s.mayPost then
    { s with hif := { s.hif with pba := s.hif.pba &&& ~~~(BitVec.ofNat 64 (2 ^ v)) } }.emit (.msix v)
  else s

theorem flushMsix_eq : s.flushMsix = (List.range 64).foldl State.sendPending s := rfl

/-- A bit of a 64-bit mask after one bit is cleared. -/
theorem getLsbD_clear (x : BitVec 64) (v w : Nat) :
    (x &&& ~~~(BitVec.ofNat 64 (2 ^ v))).getLsbD w = (x.getLsbD w && decide (w ≠ v)) := by
  rw [BitVec.getLsbD_and, BitVec.getLsbD_not, BitVec.getLsbD_ofNat, Nat.testBit_two_pow]
  by_cases hw : w < 64
  · by_cases h : v = w
    · simp [h]
    · simp [hw, h, Ne.symm h]
  · simp [BitVec.getLsbD_of_ge x w (Nat.le_of_not_lt hw)]

/-- What sending keeps: registers, memory, masks and the right to post; no pending bit is set, nothing put out is taken back. -/
structure State.Posts (s t : State) : Prop where
  regs : t.regs = s.regs
  mem : t.mem = s.mem
  masked : t.hif.masked = s.hif.masked
  mayPost : t.mayPost = s.mayPost
  pba : ∀ v, t.hif.pba.getLsbD v = true → s.hif.pba.getLsbD v = true
  out : s.out ⊆ t.out

variable {s}

theorem State.Posts.refl : s.Posts s := ⟨rfl, rfl, rfl, rfl, fun _ => id, List.Subset.refl _⟩

theorem State.Posts.trans {t u : State} (h : s.Posts t) (h' : t.Posts u) : s.Posts u :=
  ⟨h'.regs.trans h.regs, h'.mem.trans h.mem, h'.masked.trans h.masked, h'.mayPost.trans h.mayPost, fun v hv => h.pba v (h'.pba v hv),
    List.Subset.trans h.out h'.out⟩

theorem posts_sendPending (v : Nat) : s.Posts (s.sendPending v) := by
  unfold State.sendPending
  split
  · refine ⟨rfl, rfl, rfl, rfl, fun w hw => ?_, List.subset_append_left _ _⟩
    have hw : (s.hif.pba &&& ~~~(BitVec.ofNat 64 (2 ^ v))).getLsbD w = true := hw
    rw [getLsbD_clear, Bool.and_eq_true] at hw
    exact hw.1
  · exact .refl

theorem sendPending_other {v w : Nat} (hw : w ≠ v) (hpend : s.hif.pba.getLsbD w = true) : (s.sendPending v).hif.pba.getLsbD w = true := by
  unfold State.sendPending
  split
  · exact (getLsbD_clear _ v w).trans (by simp [hpend, hw])
  · exact hpend

theorem sendPending_sent {v : Nat} (hpend : s.hif.pba.getLsbD v = true) (hmask : s.hif.masked.getLsbD v = false) (hpost : s.mayPost = true)
    :
    (s.sendPending v).hif.pba.getLsbD v = false ∧ Out.msix v ∈ (s.sendPending v).out := by
  rw [State.sendPending, if_pos (by simp [hpend, hmask, hpost])]
  exact ⟨(getLsbD_clear _ v v).trans (by simp), List.mem_append_right _ (List.mem_singleton.2 rfl)⟩

theorem posts_foldl (l : List Nat) : s.Posts (l.foldl State.sendPending s) := by
  induction l generalizing s with
  | nil => exact .refl
  | cons v l ih => exact (posts_sendPending v).trans ih

theorem foldl_sent {l : List Nat} {v : Nat} (hmem : v ∈ l) (hpend : s.hif.pba.getLsbD v = true) (hmask : s.hif.masked.getLsbD v = false)
    (hpost : s.mayPost = true) :
    (l.foldl State.sendPending s).hif.pba.getLsbD v = false ∧ Out.msix v ∈ (l.foldl State.sendPending s).out := by
  induction l generalizing s with
  | nil => cases hmem
  | cons w l ih =>
    by_cases hvw : v = w
    · subst hvw
      obtain ⟨hclear, hout⟩ := sendPending_sent hpend hmask hpost
      have hrest : (s.sendPending v).Posts (l.foldl State.sendPending (s.sendPending v)) := posts_foldl l
      exact ⟨Bool.eq_false_iff.2 fun h => Bool.false_ne_true (hclear.symm.trans (hrest.pba v h)), hrest.out hout⟩
    · have hstep := posts_sendPending (s := s) w
      exact ih ((List.mem_cons.1 hmem).resolve_left hvw) (sendPending_other hvw hpend) (hstep.masked ▸ hmask) (hstep.mayPost ▸ hpost)

theorem flushMsix_posts : s.Posts s.flushMsix := posts_foldl _

theorem flushMsix_sent {v : Nat} (hv : v < 64) (hpend : s.hif.pba.getLsbD v = true) (hmask : s.hif.masked.getLsbD v = false)
    (hpost : s.mayPost = true) : s.flushMsix.hif.pba.getLsbD v = false ∧ Out.msix v ∈ s.flushMsix.out :=
  foldl_sent (List.mem_range.2 hv) hpend hmask hpost

theorem msix_posted {v : Nat} (hmask : s.hif.masked.getLsbD v = false) (hpost : s.mayPost = true) : s.msix v = s.emit (.msix v) :=
  if_neg (by simp only [hmask, hpost]; decide)

/-- A function in D0 with Bus Master Enable set may post (R689, R690). -/
theorem mayPost_of_up (hup : s.hostUp = true) {t : State} (hhif : t.hif = s.hif) (hmaster : t.bit Reg.HIF_STATUS 9 = true)
    (hd0 : t.bit Reg.HIF_STATUS 8 = false) : t.mayPost = true := by
  simp only [State.hostUp, Bool.and_eq_true, Bool.not_eq_true'] at hup
  simp [State.mayPost, hmaster, hd0, hhif, hup]

/-- A bit of HIF_STATUS is set and the pending messages flushed: no other register changes, and what may be sent is. -/
theorem setStatus_flush (b : Nat) (v : Bool) :
    let t := (s.setBit Reg.HIF_STATUS b v).flushMsix
    s.SameMemory t ∧ s.SameRegsBut t [Reg.HIF_STATUS] ∧ t.reg Reg.HIF_STATUS = (s.setBit Reg.HIF_STATUS b v).reg Reg.HIF_STATUS ∧
      ((s.setBit Reg.HIF_STATUS b v).mayPost = true → ∀ w < 64, s.hif.pba.getLsbD w = true → s.hif.masked.getLsbD w = false →
        t.hif.pba.getLsbD w = false ∧ Out.msix w ∈ t.out) := by
  have hsends := flushMsix_posts (s := s.setBit Reg.HIF_STATUS b v)
  refine ⟨State.sameMemory_of_mem hsends.mem, fun o ho => ?_, reg_congr hsends.regs _,
    fun hpost w hw hpend hmask => flushMsix_sent hw hpend hmask hpost⟩
  rw [reg_congr hsends.regs, reg_setBit_ne _ _ _ (by simpa using ho)]

/-- Unmasking clears the vector's mask alone, and sends its message where one pends and the function may post. -/
theorem unmask_spec (v : Nat) (hup : s.hostUp = true) (hd0 : s.bit Reg.HIF_STATUS 8 = false) :
    (s.unmask v).hif.masked.getLsbD v = false ∧
      (∀ w < 64, w ≠ v → (s.unmask v).hif.masked.getLsbD w = s.hif.masked.getLsbD w) ∧
      (s.hif.pba.getLsbD v = true → s.bit Reg.HIF_STATUS 9 = true →
        (s.unmask v).out = s.out ++ [.msix v] ∧ (s.unmask v).hif.pba.getLsbD v = false) ∧
      (s.hif.pba.getLsbD v = false → (s.unmask v).out = s.out) ∧ s.SameMemory (s.unmask v) ∧ s.SameRegsBut (s.unmask v) [] := by
  have hmask (w : Nat) : (s.unmask v).hif.masked.getLsbD w = (s.hif.masked.getLsbD w && decide (w ≠ v)) := by
    rw [← getLsbD_clear]
    unfold State.unmask
    dsimp only
    split <;> rfl
  have hmem : (s.unmask v).mem = s.mem := by
    unfold State.unmask
    dsimp only
    split <;> rfl
  have hregs : (s.unmask v).regs = s.regs := by
    unfold State.unmask
    dsimp only
    split <;> rfl
  refine ⟨by simp [hmask], fun w _ hw => by simp [hmask, hw], fun hpend hmaster => ?_, fun hpend => ?_, State.sameMemory_of_mem hmem,
    State.sameRegsBut_of_regs [] hregs⟩
  · have hpost : ({ s with hif := { s.hif with masked := s.hif.masked &&& ~~~(BitVec.ofNat 64 (2 ^ v)) } } : State).mayPost = true := by
      simp only [State.hostUp, Bool.and_eq_true, Bool.not_eq_true'] at hup
      exact (by simp [State.mayPost, hmaster, hd0, hup] : s.mayPost = true)
    rw [State.unmask, if_pos (Bool.and_eq_true_iff.2 ⟨hpend, hpost⟩)]
    exact ⟨rfl, (getLsbD_clear _ v v).trans (by simp)⟩
  · rw [State.unmask, if_neg (by simp [hpend])]

theorem exec_moderationEnd (s : State) : exec .msixModerationEnd s = .next s.moderationEnd := rfl

theorem exec_busMasterEnable (s : State) (hup : s.hostUp = true) :
    exec .busMasterEnable s = .next (s.setBit Reg.HIF_STATUS 9 true).flushMsix :=
  congrArg Host.Outcome.next (if_pos hup)

theorem exec_d3hotExit (s : State) (hup : s.hostUp = true) : exec .d3hotExit s = .next (s.setBit Reg.HIF_STATUS 8 false).flushMsix :=
  congrArg Host.Outcome.next (if_pos hup)

theorem exec_msixUnmask (v : Fin 64) (s : State) (hup : s.hostUp = true) (hd0 : s.bit Reg.HIF_STATUS 8 = false) :
    exec (.msixUnmask v) s = .next (s.unmask v) :=
  congrArg Host.Outcome.next (if_pos (by simp [hup, hd0]))

/-- Settles O49: the moderated message goes out at the interval's end, an unmasked vector's pending one at once, and `setStatus_flush` gives
the pending ones of Bus Master Enable and of the return to D0. -/
theorem messagesAreHeldAndSent : Obligations.MessagesAreHeldAndSent := by
  refine ⟨fun s => ⟨fun hcov => ?_, fun t0 hcov hlast hpost hmask => ?_⟩, fun v s hup hd0 => ?_, fun s hup => ⟨?_, ?_, ?_, ?_⟩,
    fun j w s hfree => ⟨fun hgrant => ?_, fun hgrant => ?_⟩⟩
  · rw [exec_moderationEnd, State.moderationEnd, hcov]
  · have hend : s.moderationEnd = { s.reach (t0 + s.modT) with
        hif := { s.hif with covered := false, lastEvent := some (s.reach (t0 + s.modT)).now }, out := s.out ++ [.msix 0] } := by
      rw [State.moderationEnd, hcov, hlast]
      have hpost' : ({ s.reach (t0 + s.modT) with
        hif := { s.hif with covered := false, lastEvent := some (s.reach (t0 + s.modT)).now } } : State).mayPost = true := hpost
      exact msix_posted hmask hpost'
    exact ⟨_, (exec_moderationEnd s).trans (congrArg _ hend), rfl, rfl, rfl, rfl, State.sameMemory_of_mem rfl,
      State.sameRegsBut_of_regs [] rfl⟩
  · refine ⟨_, exec_msixUnmask v s hup hd0, ?_⟩
    exact unmask_spec v.val hup hd0
  · obtain ⟨hmem, hregs, hst, hsent⟩ := setStatus_flush (s := s) 9 true
    refine ⟨_, exec_busMasterEnable s hup, (bit_of_reg hst 9).trans (bit_setBit_same _ _ _ _ (by decide)), hmem, hregs,
      fun v hv hd0 hpend hmask => ?_⟩
    have h8 : (s.setBit Reg.HIF_STATUS 9 true).bit Reg.HIF_STATUS 8 = false :=
      (bit_setBit_other s Reg.HIF_STATUS true (by decide) (by decide)).trans hd0
    have hpost : (s.setBit Reg.HIF_STATUS 9 true).mayPost = true := mayPost_of_up (s := s) hup (State.setBit_hif s _ 9 true)
      (bit_setBit_same _ _ _ _ (by decide)) h8
    exact hsent hpost v hv hpend hmask
  · obtain ⟨hmem, hregs, hst, hsent⟩ := setStatus_flush (s := s) 8 false
    refine ⟨_, exec_d3hotExit s hup, (bit_of_reg hst 8).trans (bit_setBit_same _ _ _ _ (by decide)), hmem, hregs,
      fun v hv hm hpend hmask => ?_⟩
    have h9 : (s.setBit Reg.HIF_STATUS 8 false).bit Reg.HIF_STATUS 9 = true :=
      (bit_setBit_other s Reg.HIF_STATUS false (by decide) (by decide)).trans hm
    have hpost : (s.setBit Reg.HIF_STATUS 8 false).mayPost = true := mayPost_of_up (s := s) hup (State.setBit_hif s _ 8 false)
      h9 (bit_setBit_same _ _ _ _ (by decide))
    exact hsent hpost v hv hpend hmask
  · exact congrArg Host.Outcome.next (if_pos hup)
  · exact congrArg Host.Outcome.next (if_pos hup)
  · exact congrArg Host.Outcome.next ((hostReg_free hfree _).trans (if_pos hgrant))
  · exact congrArg Host.Outcome.next ((hostReg_free hfree _).trans (if_neg (by simp [hgrant])))

end

end Sys2Proof.Machine
end

section
/-! PROOFS. The event log (R705 to R711). -/

namespace Sys2Proof.Machine

/-! ### What a transaction on the network may change -/

/-- The state with what a transaction on the network may change blanked out: registers, memory, draws, events on the wire, the log of tiles'
fenced accesses, the memory system and SAF. -/
def State.busRest (s : State) : State :=
  { s with regs := [], mem := [], free := 0, hif := { s.hif with wire := [] }, tca := {}, msys := {}, saf := {} }

section
variable (s : State)

theorem busRest_logError (addr id kind nsym array bank dq : Nat) : (s.logError addr id kind nsym array bank dq).busRest = s.busRest := by
  unfold State.logError
  extract_lets head newest same e t u v
  have hv : v.busRest = s.busRest := by
    unfold v
    split <;> rfl
  split
  · cases newest <;> rfl
  · exact hv

theorem busRest_corrected (id array loc kindX : Nat) : (s.corrected id array loc kindX).busRest = s.busRest := by
  unfold State.corrected
  dsimp only
  split <;> exact busRest_logError _ _ _ _ _ _ _ _

theorem busRest_uncorrectable (id array loc kindX : Nat) : (s.uncorrectable id array loc kindX).busRest = s.busRest := by
  unfold State.uncorrectable
  extract_lets dram inj t _ _ u addr kind v w
  have hw : w.busRest = s.busRest := busRest_logError u _ _ _ _ _ _ _
  split <;> exact hw

theorem busRest_checkRead (id a n kindX : Nat) : (s.checkRead id a n kindX).2.busRest = s.busRest := by
  unfold State.checkRead
  split
  · rfl
  · refine List.foldlRecOn (motive := fun p : Bool × State => p.2.busRest = s.busRest) _ _ rfl (fun p hp xy _ => ?_)
    obtain ⟨ok, t⟩ := p
    obtain ⟨x, y⟩ := xy
    dsimp -zeta only
    extract_lets d u
    have hu : u.busRest = t.busRest := by
      unfold u
      split <;> rfl
    split
    · exact hp
    · split
      · exact (busRest_corrected u _ _ _ _).trans (hu.trans hp)
      · exact (busRest_uncorrectable u _ _ _ _).trans (hu.trans hp)

theorem busRest_drawSyms (m n : Nat) : (s.drawSyms m n).2.busRest = s.busRest := by
  induction n with
  | zero => rfl
  | succ n ih => exact ih

theorem busRest_rawStore (id a : Nat) (bs : List Byte) : (s.rawStore id a bs).2.busRest = s.busRest := by
  unfold State.rawStore
  extract_lets n bad t u
  have hu : u.busRest = s.busRest := by
    unfold u t
    split
    · rfl
    · exact List.foldlRecOn (motive := fun t : State => (t.store a bs).busRest = s.busRest) _ _ rfl (fun _ ht _ _ => ht)
  split
  · exact busRest_checkRead s id a n 0
  · split
    · split
      · exact (busRest_drawSyms u _ _).trans hu
      · exact hu
    · exact hu

theorem busRest_refuseAccess (h : Option Nat) (id : Nat) (k : Kind) (a : Nat) : (s.refuseAccess h id k a).busRest = s.busRest := by
  unfold State.refuseAccess State.fencedSpeaker
  dsimp only
  split <;> split <;> rfl

theorem busRest_busWrite (id a : Nat) (bs : List Byte) : (s.busWrite id a bs).2.busRest = s.busRest := by
  unfold State.busWrite
  split
  · exact busRest_refuseAccess s _ _ _ _
  split
  · rfl
  split
  · rfl
  split
  · rfl
  exact busRest_rawStore s id a bs

theorem rawStore_code (id a : Nat) (bs : List Byte) : (s.rawStore id a bs).1 = DONE ∨ (s.rawStore id a bs).1 = BUS_ERROR_UNCORRECTABLE := by
  unfold State.rawStore
  dsimp only
  split
  · exact .inr rfl
  · split
    · split <;> exact .inl rfl
    · exact .inl rfl

/-- A write the hurdle admits to pages not retired does not end with the hurdle's refusal. -/
theorem busWrite_admitted {id a : Nat} {bs : List Byte} (hadmit : s.admits id .write a bs.length = true) (hret : s.retiredAt a bs.length =
    false) :
    (s.busWrite id a bs).1 ≠ BUS_ERROR_HURDLE := by
  unfold State.busWrite
  rw [if_neg (by simp [hadmit, hret])]
  split
  · exact (by decide : BUS_ERROR_UNCORRECTABLE ≠ BUS_ERROR_HURDLE)
  split
  · exact (by decide : BUS_ERROR_FENCED ≠ BUS_ERROR_HURDLE)
  split
  · exact (by decide : DONE ≠ BUS_ERROR_HURDLE)
  · rcases rawStore_code s id a bs with h | h <;> rw [h] <;> decide

/-- A write that reaches its bytes stores them; an armed injection leaves damage beside them. -/
theorem busWrite_stored {id a : Nat} {bs : List Byte} (h : s.reaches id .write a bs.length = true) :
    ∃ msys free, s.busWrite id a bs = (DONE, { s.store a bs with msys := msys, free := free }) := by
  have hdraws (t : State) (m n : Nat) : ∃ free, (t.drawSyms m n).2 = { t with free := free } := by
    induction n with
    | zero => exact ⟨_, rfl⟩
    | succ n ih =>
      obtain ⟨free, ih⟩ := ih
      exact ⟨free + 1 + 1, by simp only [State.drawSyms, State.draw, ih]⟩
  simp only [State.reaches, Bool.and_eq_true, Bool.not_eq_true'] at h
  obtain ⟨⟨⟨⟨⟨hadmit, hret⟩, hdram⟩, hfenced⟩, hasleep⟩, hdamage⟩ := h
  unfold State.busWrite
  rw [if_neg (by simp [hadmit, hret]), if_neg (by simp [hdram]), if_neg (by simp [hfenced]), if_neg (by simp [hasleep])]
  unfold State.rawStore
  extract_lets n bad t u
  have hu : u = s.store a bs := by
    unfold u t
    rw [if_pos hdamage]
  rw [if_neg (by simp [bad, hdamage]), hu]
  split
  · next v ia _ =>
    split
    · obtain ⟨free, hfree⟩ := hdraws (s.store a bs) (if (locOf ia).1 == 39 then 72 else 13) (bits v 1 3)
      rcases hloc : locOf ia with ⟨x, y⟩
      rcases hsyms : (s.store a bs).drawSyms (if x == 39 then 72 else 13) (bits v 1 3) with ⟨syms, w⟩
      rw [hloc, hsyms] at hfree
      dsimp only
      rw [hsyms, hfree]
      exact ⟨_, free, rfl⟩
    · exact ⟨s.msys, s.free, rfl⟩
  · exact ⟨s.msys, s.free, rfl⟩


/-! ### The event log -/

/-- The entry put on the wire leaves it, and one of severity 3 is the last entry shown: nothing but the host interface and output changes.
-/
theorem lastEvt_only (e : Evt) : ∃ hif out, s.lastEvt e = { s with hif := hif, out := out } ∧ hif.wire = s.hif.wire ∧ hif.pend = s.hif.pend
    ∧
    (e.sev = 3 → hif.last = words8 e.bytes) := by
  unfold State.lastEvt
  split
  · unfold State.msix
    split <;> exact ⟨_, _, rfl, rfl, rfl, fun _ => rfl⟩
  · next hsev => exact ⟨_, _, rfl, rfl, rfl, fun h => absurd (beq_iff_eq.2 h) hsev⟩

theorem msix_keepsWire (v : Nat) : ∃ hif out, s.msix v = { s with hif := hif, out := out } ∧ hif.wire = s.hif.wire ∧ hif.last = s.hif.last
    := by
  unfold State.msix
  split <;> exact ⟨_, _, rfl, rfl, rfl⟩

theorem raiseEvent_only : ∃ hif out, s.raiseEvent = { s with hif := hif, out := out } ∧ hif.wire = s.hif.wire ∧ hif.last = s.hif.last := by
  unfold State.raiseEvent
  split
  · exact msix_keepsWire s 0
  · split
    · exact msix_keepsWire { s with hif := { s.hif with lastEvent := some s.now } } 0
    · exact ⟨_, _, rfl, rfl, rfl⟩

theorem bytes_length (e : Evt) : e.bytes.length = 32 := by simp [Evt.bytes, htw, length_leBytes]

theorem dropEvt_counts : s.dropEvt.bit Reg.HIF_STATUS_W1C 0 = true ∧ s.dropEvt.regN Reg.HIF_EVT_DROP = satAdd 32 (s.regN Reg.HIF_EVT_DROP)
    1 := by
  refine ⟨bit_setBit_same _ _ _ _ (by decide), ?_⟩
  rw [← regN_countSat, State.dropEvt, State.regN, reg_setBit_ne _ _ _ (by decide), State.regN]

theorem writeEvt_full {e : Evt} (hfull : s.evtFill = s.regN Reg.HIF_EVT_SIZE) : s.writeEvt e = s.dropEvt := if_pos (by simpa using hfull)

/-- An admitted write of an entry leaves the last entry shown as it was. -/
theorem writeEvt_last {e : Evt} (hadmit : s.admits idHost .write s.evtAddr 32 = true) (hret : s.retiredAt s.evtAddr 32 = false) :
    (s.writeEvt e).hif.last = s.hif.last := by
  unfold State.writeEvt
  split
  · rfl
  · have hrest := congrArg (fun t : State => t.hif.last) (busRest_busWrite s idHost s.evtAddr e.bytes)
    have hcode := busWrite_admitted s (bs := e.bytes) (by rwa [bytes_length]) (by rwa [bytes_length])
    split
    next c u heq =>
    rw [heq] at hrest hcode
    rw [if_neg (by simpa using hcode)]
    have hu : u.hif.last = s.hif.last := hrest
    split
    · extract_lets v
      split
      · obtain ⟨hif, out, hraise, -, hlast⟩ := raiseEvent_only v
        rw [hraise]
        exact hlast.trans hu
      · exact hu
    · exact hu

/-- A write of an entry that reaches the log stores it at PROD, which rises by 1. -/
theorem writeEvt_stored {e : Evt} (hroom : s.evtFill ≠ s.regN Reg.HIF_EVT_SIZE) (hreach : s.reaches idHost .write s.evtAddr 32 = true) :
    (s.writeEvt e).mem = (s.store s.evtAddr e.bytes).mem ∧ (s.writeEvt e).regN Reg.HIF_EVT_PROD = (s.regN Reg.HIF_EVT_PROD + 1) % 2 ^ 32 ∧
      (s.writeEvt e).hif.wire = s.hif.wire := by
  obtain ⟨msys, free, hwrite⟩ := busWrite_stored s (bs := e.bytes) (by rwa [bytes_length])
  unfold State.writeEvt
  rw [if_neg (by simpa using hroom), hwrite]
  dsimp -zeta only
  rw [if_neg (by decide), if_pos (by decide)]
  extract_lets _ u
  have hprod : u.regN Reg.HIF_EVT_PROD = (s.regN Reg.HIF_EVT_PROD + 1) % 2 ^ 32 :=
    regN_countWrap { s.store s.evtAddr e.bytes with msys := msys, free := free } Reg.HIF_EVT_PROD 1
  split
  · obtain ⟨hif, out, hraise, hwire, -⟩ := raiseEvent_only u
    rw [hraise]
    exact ⟨rfl, hprod, hwire⟩
  · exact ⟨rfl, hprod, rfl⟩

/-- What an entry that reaches HIF leaves, by what becomes of it. -/
theorem enterEvt_spec (e : Evt) (hlast : e.sev = 3 → s.hif.last = words8 e.bytes) :
    let t := s.enterEvt e
    (e.sev = 3 → (s.bit Reg.HIF_EVT_CFG 0 = false ∨ s.evtFill = s.regN Reg.HIF_EVT_SIZE ∨
        (s.admits idHost .write s.evtAddr 32 = true ∧ s.retiredAt s.evtAddr 32 = false)) → t.hif.last = words8 e.bytes) ∧
      (s.bit Reg.HIF_EVT_CFG 0 = false → t.hif.wire = s.hif.wire ∧ s.SameMemory t ∧
        (s.hif.pend.length < 64 → t.hif.pend = s.hif.pend ++ [e]) ∧
        (64 ≤ s.hif.pend.length → t.hif.pend = s.hif.pend ∧ t.bit Reg.HIF_STATUS_W1C 0 = true ∧
          t.regN Reg.HIF_EVT_DROP = satAdd 32 (s.regN Reg.HIF_EVT_DROP) 1)) ∧
      (s.bit Reg.HIF_EVT_CFG 0 = true → s.evtFill = s.regN Reg.HIF_EVT_SIZE → s.SameMemory t ∧ t.bit Reg.HIF_STATUS_W1C 0 = true ∧
        t.regN Reg.HIF_EVT_DROP = satAdd 32 (s.regN Reg.HIF_EVT_DROP) 1) ∧
      (s.bit Reg.HIF_EVT_CFG 0 = true → s.evtFill ≠ s.regN Reg.HIF_EVT_SIZE → s.reaches idHost .write s.evtAddr 32 = true →
        t.bytesAt s.evtAddr 32 = e.bytes ∧ t.regN Reg.HIF_EVT_PROD = (s.regN Reg.HIF_EVT_PROD + 1) % 2 ^ 32 ∧
        t.hif.wire = s.hif.wire ∧ s.SameMemoryOutside t s.evtAddr 32) := by
  have hdrop := dropEvt_counts s
  cases hen : s.bit Reg.HIF_EVT_CFG 0 with
  | false =>
    have henter : s.enterEvt e = s.holdEvt e := if_neg (by simp [hen])
    rw [henter]
    by_cases hlen : s.hif.pend.length < 64
    · have hhold : s.holdEvt e = { s with hif := { s.hif with pend := s.hif.pend ++ [e] } } := if_pos hlen
      rw [hhold]
      exact ⟨fun hsev _ => hlast hsev, fun _ => ⟨rfl, State.sameMemory_of_mem rfl, fun _ => rfl, fun h => absurd hlen (Nat.not_lt.2 h)⟩,
        fun h => absurd h Bool.false_ne_true, fun h => absurd h Bool.false_ne_true⟩
    · have hhold : s.holdEvt e = s.dropEvt := if_neg hlen
      rw [hhold]
      exact ⟨fun hsev _ => hlast hsev, fun _ => ⟨rfl, State.sameMemory_of_mem rfl, fun h => absurd h hlen, fun _ => ⟨rfl, hdrop⟩⟩,
        fun h => absurd h Bool.false_ne_true, fun h => absurd h Bool.false_ne_true⟩
  | true =>
    have henter : s.enterEvt e = s.writeEvt e := if_pos hen
    rw [henter]
    refine ⟨fun hsev hcase => ?_, fun h => absurd h.symm Bool.false_ne_true, fun _ hfull => ?_, fun _ hroom hreach => ?_⟩
    · rcases hcase with h | hfull | ⟨hadmit, hret⟩
      · exact absurd h.symm Bool.false_ne_true
      · rw [writeEvt_full s hfull]
        exact hlast hsev
      · exact (writeEvt_last s hadmit hret).trans (hlast hsev)
    · rw [writeEvt_full s hfull]
      exact ⟨State.sameMemory_of_mem rfl, hdrop⟩
    · obtain ⟨hmem, hprod, hwire⟩ := writeEvt_stored s hroom hreach (e := e)
      have hsame := State.sameMemory_of_mem hmem
      refine ⟨?_, hprod, hwire, fun x hx => (hsame x).trans (byteAt_store_out s e.bytes _ x (by rwa [bytes_length]))⟩
      rw [bytesAt_congr fun x _ _ => hsame x]
      have hstored := bytesAt_store s (a := s.evtAddr) (k := 0) (n := 32) (bs := e.bytes) (by simp [bytes_length])
      rwa [List.drop_zero, List.take_of_length_le (bytes_length e).le] at hstored

theorem exec_eventLogEntry (hon : s.powered 91 = true) : exec .eventLogEntry s = .next s.eventLogEntry :=
  congrArg Host.Outcome.next (if_pos hon)

/-- The consumer's index as the forward distance from CONS judges it (R708). -/
theorem exec_evtConsWrite {v : W32} (hfree : s.hostFree Reg.HIF_EVT_CONS = true) : exec (.evtConsWrite v) s = .next (s.evtCons v) :=
  congrArg Host.Outcome.next (hostReg_free hfree _)

theorem exec_evtCfgWrite {v : W32} (hfree : s.hostFree Reg.HIF_EVT_CFG = true) : exec (.evtCfgWrite v) s = .next (s.evtCfg v) :=
  congrArg Host.Outcome.next (hostReg_free hfree _)

/-- A bit set to what it holds leaves its register as it was. -/
theorem reg_setBit_self {o b : Nat} {v : Bool} (h : s.bit o b = v) : (s.setBit o b v).reg o = s.reg o := by
  have hv : (if v then 1 else 0) % 2 ^ 1 = bits (s.reg o).toNat b 1 := by
    have hlt : bits (s.reg o).toNat b 1 < 2 := Nat.mod_lt _ (by decide)
    have hbit : (bits (s.reg o).toNat b 1 == 1) = v := h
    cases v
    · have := beq_eq_false_iff_ne.1 hbit
      simp only [Bool.false_eq_true, if_false]
      omega
    · have := beq_iff_eq.1 hbit
      simp only [if_true]
      omega
  have hle : bits (s.reg o).toNat b 1 * 2 ^ b ≤ (s.reg o).toNat :=
    (Nat.mul_le_mul_right _ (Nat.mod_le _ _)).trans (Nat.div_mul_le_self _ _)
  rw [State.setBit, State.setFld, reg_setReg_same, setBits, hv, Nat.sub_add_cancel hle, BitVec.ofNat_toNat, BitVec.setWidth_eq]

/-- A write of HIF_EVT_CFG that flushes nothing: only the host interface beside the register and the copy of EN, and no pending entry. -/
theorem evtCfg_flushless {v : W32} (hidle : s.hif.pend = [] ∨ v.getLsbD 0 = false ∨ s.bit Reg.HIF_EVT_CFG 0 = true) :
    ∃ hif, s.evtCfg v = { (s.setReg Reg.HIF_EVT_CFG (v &&& 0xFFFF0007)).setEvtEn (v.getLsbD 0) with hif := hif } ∧ hif.pend = s.hif.pend :=
        by
  unfold State.evtCfg
  extract_lets was t
  split
  · next h =>
    obtain ⟨hv, hwas⟩ := Bool.and_eq_true_iff.1 h
    have hoff : s.bit Reg.HIF_EVT_CFG 0 = false := by simpa [was] using hwas
    have hpend : s.hif.pend = [] := by
      rcases hidle with hpend | hclear | hon
      · exact hpend
      · exact absurd (hv.symm.trans hclear) Bool.false_ne_true.symm
      · exact absurd (hoff.symm.trans hon) Bool.false_ne_true
    have ht : t.hif.pend = [] := hpend
    rw [ht]
    exact ⟨_, rfl, hpend.symm⟩
  · exact ⟨_, rfl, rfl⟩

theorem fieldOf_bit (w : W32) (b : Nat) : fieldOf w b 1 = if w.getLsbD b then 1 else 0 := by
  rw [BitVec.getLsbD, Nat.testBit_eq_decide_div_mod_eq, fieldOf, pow_one]
  split
  · next h => exact of_decide_eq_true h
  · next h =>
    have : ¬w.toNat / 2 ^ b % 2 = 1 := fun h' => h (decide_eq_true h')
    omega

/-- EN and its copy follow the word written. -/
theorem setEvtEn_regs {v : W32} {t : State} (hregs : t.regs = ((s.setReg Reg.HIF_EVT_CFG (v &&& 0xFFFF0007)).setEvtEn (v.getLsbD 0)).regs) :
    t.reg Reg.HIF_EVT_CFG = v &&& 0xFFFF0007 ∧ t.bit Reg.HIF_STATUS 10 = v.getLsbD 0 ∧ s.SameRegsBut t [Reg.HIF_EVT_CFG, Reg.HIF_STATUS] :=
        by
  have hreg := reg_congr hregs
  refine ⟨?_, ?_, fun o ho => ?_⟩
  · rw [hreg, State.setEvtEn, reg_setBit_ne _ _ _ (by decide), reg_setBit_self, reg_setReg_same]
    have hbit : (v &&& 0xFFFF0007).getLsbD 0 = v.getLsbD 0 := by simp
    rw [State.bit, State.fld', reg_setReg_same, fieldOf_bit, hbit]
    cases v.getLsbD 0 <;> rfl
  · exact (bit_of_reg (hreg _) 10).trans (bit_setBit_same _ _ _ _ (by decide))
  · have hne : o ≠ Reg.HIF_EVT_CFG ∧ o ≠ Reg.HIF_STATUS := by simpa using ho
    rw [hreg, State.setEvtEn, reg_setBit_ne _ _ _ hne.2, reg_setBit_ne _ _ _ hne.1, reg_setReg_ne _ _ hne.1]

/-- The latch of eight registers in a row. -/
theorem latch_spec {l : List Nat} (hl : l.Nodup) (t : State) :
    let r := l.foldl (fun s k => s.setReg (Reg.HIF_EVT_LAST k) (s.hif.last.getD k 0)) t
    (∀ k ∈ l, r.reg (Reg.HIF_EVT_LAST k) = t.hif.last.getD k 0) ∧ r.hif = t.hif ∧ r.mem = t.mem ∧ r.out = t.out ∧
      t.SameRegsBut r (l.map Reg.HIF_EVT_LAST) := by
  induction l generalizing t with
  | nil => exact ⟨fun _ h => absurd h List.not_mem_nil, rfl, rfl, rfl, fun _ _ => rfl⟩
  | cons k l ih =>
    obtain ⟨hk, hl⟩ := List.nodup_cons.1 hl
    obtain ⟨hreg, hhif, hmem, hout, hrest⟩ := ih hl (t.setReg (Reg.HIF_EVT_LAST k) (t.hif.last.getD k 0))
    refine ⟨fun j hj => ?_, hhif, hmem, hout, fun o ho => ?_⟩
    · rcases List.mem_cons.1 hj with rfl | hj
      · have hout' : Reg.HIF_EVT_LAST j ∉ l.map Reg.HIF_EVT_LAST := by
          intro hmem
          obtain ⟨i, hi, he⟩ := List.mem_map.1 hmem
          have : i = j := by simp only [Reg.HIF_EVT_LAST] at he; omega
          exact hk (this ▸ hi)
        exact (hrest _ hout').trans (reg_setReg_same _ _ _)
      · exact hreg j hj
    · obtain ⟨hne, ho⟩ := not_or.1 (List.mem_cons.not.1 ho)
      exact (hrest o ho).trans (reg_setReg_ne _ _ hne)

/-- Settles O50: an entry leaves the wire by `lastEvt_only` and goes where `enterEvt_spec` says. -/
theorem eventLogKeepsItsEntries : Obligations.EventLogKeepsItsEntries := by
  refine ⟨fun e s hon hnext => ⟨_, exec_eventLogEntry s hon, ?_⟩, fun v s hfree => ⟨fun h => ?_, fun h => ?_⟩, fun v s hfree hidle => ?_,
    fun s hopen => ?_⟩
  · have hentry : s.eventLogEntry = ({ s with hif := { s.hif with wire := s.hif.wire.erase e } }.lastEvt e).enterEvt e := by
      unfold State.eventLogEntry
      rw [hnext]
    obtain ⟨hif, out, hlast, hwire, hpend, hshown⟩ := lastEvt_only { s with hif := { s.hif with wire := s.hif.wire.erase e } } e
    have hspec := enterEvt_spec { s with hif := hif, out := out } e hshown
    dsimp only at hspec
    rw [hwire, hpend] at hspec
    rw [hentry, hlast]
    exact hspec
  · rw [exec_evtConsWrite s hfree]
    exact congrArg _ (if_pos (decide_eq_true h))
  · rw [exec_evtConsWrite s hfree]
    exact congrArg _ (if_neg (by simpa [consOk] using h))
  · obtain ⟨hif, hcfg, hpend⟩ := evtCfg_flushless s hidle
    obtain ⟨hreg, hen, hrest⟩ := setEvtEn_regs s (t := s.evtCfg v) (by rw [hcfg])
    exact ⟨_, exec_evtCfgWrite s hfree, hreg, hen, by rw [hcfg]; exact hpend, State.sameMemory_of_mem (by rw [hcfg]; rfl), hrest⟩
  · obtain ⟨hreg, hhif, hmem, hout, hrest⟩ := latch_spec (List.nodup_range (n := 8)) s
    refine ⟨_, congrArg Host.Outcome.next (hostAccess_open hopen _), fun k hk => hreg k (List.mem_range.2 hk), ?_, State.sameMemory_of_mem
        hmem, hrest⟩
    change s.latchLast.out ++ [_] = _
    rw [State.regN, show s.latchLast.reg (Reg.HIF_EVT_LAST 0) = _ from hreg 0 (by decide), show s.latchLast.out = s.out from hout]

end

end Sys2Proof.Machine
end

section
/-! PROOFS. Register requests on BAR0 (R717 to R724). -/

namespace Sys2Proof.Machine

/-! ### BAR0 requests (R693) -/

section
variable {s : State} {off : Nat} {d : BitVec 64}

theorem refusedKinds_one {id : Nat} {write : Bool} {p : Nat × W32} (hadmit : s.admitsReg 36 id (reqKind write p) p.1 4 = true) :
    s.refusedKinds id write [p] = [] :=
  List.filter_eq_nil_iff.2 (List.forall_mem_singleton.2 (by simp [hadmit]))

/-- A 32-bit host request that reaches its register acts on it alone. -/
theorem bar0_open {write : Bool} (halign : off % 4 = 0) (hopen : s.hostOpen (reqKind write (off, d.setWidth 32)) off = true) :
    s.bar0 write off 4 d =
      match s.regAccess idHost write [(off, d.setWidth 32)] with
      | (.ok bs, s) => if write then s else s.emit (.host .sc bs)
      | (.error _, s) => s.failHost .ca := by
  simp only [State.hostOpen, State.hostOpenN, Bool.and_eq_true, Bool.not_eq_true', Option.isNone_iff_eq_none] at hopen
  obtain ⟨⟨⟨⟨hup, hd0⟩, hhalt⟩, hadmit⟩, hdark⟩ := hopen
  have hsize : sizeOk off 4 = true := by simp [sizeOk, halign]
  have hps : halves off 4 d = [(off, d.setWidth 32)] := rfl
  have hkinds : s.refusedKinds idHost write [(off, d.setWidth 32)] = [] := refusedKinds_one hadmit
  unfold State.bar0
  rw [if_neg (by simp [hup]), if_neg (by simp [hd0]), if_neg (by simp [hsize, hhalt])]
  dsimp only
  rw [hps, hkinds]
  dsimp only
  rw [if_neg (by simp [hdark])] <;> rfl

/-- A write that reaches its register. -/
theorem bar0_write (halign : off % 4 = 0) (hopen : s.hostOpen (writeKind off (d.setWidth 32)) off = true) :
    s.bar0 true off 4 d = s.regPut idHost off (d.setWidth 32) := by
  rw [bar0_open (write := true) halign hopen]
  simp only [State.regAccess, if_true, List.foldl_cons, List.foldl_nil]

/-- A read that reaches a register without an effect of its own. -/
theorem bar0_read (halign : off % 4 = 0) (hopen : s.hostOpen .read off = true)
    (hplain : off ∉ [Reg.CSQ_PF_DATA, Reg.TBU_TIME_SNAP 0, Reg.EGO_LAST_REC 0, Reg.HIF_EVT_LAST 0]) :
    s.bar0 false off 4 d = s.emit (.host .sc (leBytes 4 (s.regRead off).toNat)) := by
  simp only [List.mem_cons, List.not_mem_nil, or_false, not_or] at hplain
  obtain ⟨hfifo, hsnap, hego, hlast⟩ := hplain
  have htake : s.regTake idHost off = (.ok (s.regRead off), s) := by
    unfold State.regTake
    rw [if_neg (by simpa using hfifo)]
    dsimp only
    rw [if_neg (by simpa using hsnap), if_neg (by simpa using hego), if_neg (by simpa using hlast)]
  rw [bar0_open (write := false) halign hopen]
  simp only [State.regAccess, Bool.false_eq_true, if_false, List.foldl_cons, List.foldl_nil, htake, List.nil_append]

theorem bar0_aborted {write : Bool} {size : Nat} (hup : s.hostUp = true) (hd0 : s.bit Reg.HIF_STATUS 8 = false)
    (hsize : (size ≠ 4 ∧ size ≠ 8) ∨ off % size ≠ 0) : s.bar0 write off size d = s.failHost .ca := by
  have hbad : sizeOk off size = false := by
    rcases hsize with ⟨h4, h8⟩ | hrem
    · simp [sizeOk, h4, h8]
    · simp [sizeOk, hrem]
  unfold State.bar0
  rw [if_neg (by simp [hup]), if_neg (by simp [hd0]), if_pos (by simp [hbad])]

/-- A write of an RW or RWL register that is not frozen, nor locked by the image, comes to `writeRw`. -/
theorem regPut_rw {v : W32} {r : RegDef} (hdef : regDef? off = some r) (hacc : r.acc = .rw ∨ r.acc = .rwl) (hfree : s.frozen off = false)
    (hlock : r.acc = .rwl → s.lth.rwl = false) : s.regPut idHost off v = s.writeRw off v r := by
  unfold State.regPut
  rw [hdef]
  dsimp only
  rcases hacc with h | h
  · rw [h]
    exact if_neg (by simp [hfree])
  · rw [h]
    exact if_neg (by simp [hfree, hlock h])


/-- The registers of the statement take any word their own checks admit. -/
def plainRegs : List Nat :=
  [Reg.AON_WAKE_CFG, Reg.TBU_PPS_CFG, Reg.SIC_VIOL, Reg.PAE_GRID_CELL, Reg.EGO_KF_DT, Reg.TCA_ABFT_TOL, Reg.TAC_CACHE_CFG,
      Reg.FLD_BIRTH_MAX,
    Reg.CSQ_CS_CFG, Reg.MEM_SCRUB_ADAPT, Reg.SAF_HOLD, Reg.SEC_SRC_LO, Reg.SLK_PORT_CFG]

/-- Each of them is RW or RWL. -/
theorem plainRegs_access {r : RegDef} (hoff : off ∈ plainRegs) (hdef : regDef? off = some r) : r.acc = .rw ∨ r.acc = .rwl := by
  have hall : ∀ o ∈ plainRegs, ((regDef? o).map (·.acc) = some .rw ∨ (regDef? o).map (·.acc) = some .rwl) := by decide
  simpa [hdef] using hall off hoff

/-- A write of the register comes to a rule of its own, is cut to a feature, or has an effect beside the register (R718 to R724). -/
def ownRule (off : Nat) : Bool :=
  let n := (off - 0x701000) / 128
  [Reg.TBU_CTRL, Reg.HIF_EVT_CFG, Reg.HIF_EVT_CONS, Reg.CSQ_CTRL, Reg.CSQ_RING_CONS, Reg.SEC_ALARM_POL, Reg.HIF_EVT_BASE_LO,
      Reg.HIF_EVT_BASE_HI,
    Reg.HIF_EVT_SIZE, Reg.SLK_CTRL, Reg.SIC_CTRL, Reg.FLD_CTRL, Reg.TCA_CTRL, Reg.MEM_SCRUB_LAP, Reg.TBU_DOMA_CFG,
        Reg.TBU_DOMB_CFG].contains off ||
  (decide (Reg.HIF_SIGMAP 0 ≤ off) && decide (off ≤ Reg.HIF_SIGMAP 55)) ||
  (decide (Reg.SLK_MRING_CONS 0 ≤ off) && decide (off ≤ Reg.SLK_MRING_CONS 63)) ||
  (decide (n < 16) && decide (Reg.DML_SS_SHD n 0 ≤ off) && decide ((off - Reg.DML_SS_SHD n 0) / 4 < 8)) ||
  (decide (Reg.HIF_FEAT_DRV 0 ≤ off) && decide (off ≤ Reg.HIF_FEAT_DRV 7))

/-- A register without a rule of its own takes a word its checks admit; TBU_PPS_CFG gates PPS_OUT besides (R74). -/
theorem writeRw_plain {v : W32} {r : RegDef} (hrule : ownRule off = false) :
    s.writeRw off v r = if !r.chks.all (Chk.ok v) then s
      else if off = Reg.TBU_PPS_CFG then (s.setReg off ((s.reg off &&& ~~~r.mask) ||| (v &&& r.mask))).ppsGate
      else s.setReg off ((s.reg off &&& ~~~r.mask) ||| (v &&& r.mask)) := by
  simp only [ownRule, Bool.or_eq_false_iff, List.contains_cons, List.contains_nil] at hrule
  obtain ⟨⟨⟨⟨⟨htbu, hcfg, hcons, hcsq, hring, halarm, hlo, hhi, hsize, hslk, hsic, hfld, htca, hlap, hdoma, hdomb, -⟩, hsigmap⟩, hmring⟩,
      hset⟩,
    hfeat⟩ := hrule
  have hignores : s.ignores off = false := by simp [State.ignores, hfeat, hlo, hhi, hsize]
  have habsent : s.configAbsent off v = false := by simp [State.configAbsent, hslk]
  have hbits : s.featBits off v = v := by simp [State.featBits, hsic, hfld, hcsq, hslk, htca]
  have hwrite : s.plainWrite off v r.mask = if off = Reg.TBU_PPS_CFG then (s.setReg off ((s.reg off &&& ~~~r.mask) ||| (v &&&
      r.mask))).ppsGate
      else s.setReg off ((s.reg off &&& ~~~r.mask) ||| (v &&& r.mask)) := by
    simp only [State.plainWrite, State.wroteReg, hbits, hlap, hdoma, hdomb, hslk, Bool.or_self, Bool.false_eq_true, if_false, beq_iff_eq]
  unfold State.writeRw
  simp only [htbu, hcfg, hcons, hcsq, hring, halarm, hsigmap, hmring, hset, hignores, habsent, Bool.or_false, Bool.false_eq_true, if_false,
      hwrite]

theorem plainRegs_noRule (hoff : off ∈ plainRegs) : ownRule off = false := by
  have hall : ∀ o ∈ plainRegs, ownRule o = false := by decide
  exact hall off hoff

theorem exec_registerWrite (write : Bool) (o : BitVec 25) (size : Nat) (d : BitVec 64) (s : State) :
    exec (.registerWrite write o size d) s = .next (s.bar0 write o.toNat size d) := rfl

end

/-- Settles O51: a request that reaches its register comes to `regPut` or `regTake`, and these follow the access type. -/
theorem registerRequestsFollowTheirAccessType : Obligations.RegisterRequestsFollowTheirAccessType := by
  refine ⟨fun write off size d s hup hd0 hsize => ?_, fun off d s halign hopen hplain => ?_, fun off d s halign hopen => ?_⟩
  · rw [exec_registerWrite, bar0_aborted hup hd0 hsize]
  · rw [exec_registerWrite, bar0_read halign hopen hplain]
    refine ⟨rfl, fun hnone => ?_⟩
    have hread : s.regRead off.toNat = 0 := by rw [State.regRead, hnone]
    have hbytes : leBytes 4 (0 : W32).toNat = [0, 0, 0, 0] := by decide
    rw [hread, hbytes]
  · rw [exec_registerWrite, bar0_write halign hopen]
    refine ⟨fun hnone => ?_, fun r hdef => ⟨fun hacc => ?_, fun hacc hoff => ?_, fun hacc hfrozen => ?_, fun hacc hlock => ?_,
      fun hoff hfree hlock => ?_⟩⟩
    · rw [State.regPut, hnone]
    · rw [State.regPut, hdef]
      rcases hacc with h | h <;> simp only [h]
    · rw [State.regPut, hdef]
      simp only [hacc, State.writeClear]
      rw [if_neg (by simp [hoff])]
    · rw [State.regPut, hdef]
      rcases hacc with h | h <;> simp only [h, hfrozen, beq_self_eq_true, Bool.and_self, Bool.true_or, if_true]
    · have hhost : (idHost != idLth) = true := by decide
      rw [State.regPut, hdef]
      simp only [hacc, hlock, hhost, Bool.and_self, Bool.or_true, if_true]
    · rw [regPut_rw hdef (plainRegs_access hoff hdef) hfree (fun _ => hlock), writeRw_plain (plainRegs_noRule hoff)]
      refine ⟨fun hbad => congrArg _ (if_pos (by rw [hbad]; rfl)), fun hok => congrArg _ ((if_neg (by rw [hok]; decide)).trans ?_)⟩
      rfl

end Sys2Proof.Machine
end

section
/-! PROOFS. What a burn that is cut, a warm reset, a power-on reset and a start leave as it was (R637 to R641, R648, R679 to R681). -/

namespace Sys2Proof.Machine

section
variable {s t u : State}

/-! ### The register file and memory after a reset (R535, R726) -/

/-- A register that a reset takes back reads its reset value, and the others what they read. -/
theorem reg_regsAfter {blk keep : Nat → Bool} (h : t.regs = s.regsAfter blk keep) (o : Nat) :
    t.reg o = if (!blk (o / 0x100000) || isRws o || keep o) = true then s.reg o else resetOf o := by
  rw [State.reg, h, State.regsAfter, SMap.get, SMap.find?_filter W32 s.regs (fun k => !blk (k / 0x100000) || isRws k || keep k)]
  cases !blk (o / 0x100000) || isRws o || keep o <;> rfl

/-- A byte read after the memory below DRAM is filled with zero. -/
theorem byteAt_dramKept (h : t.mem = memZero s.mem 0 dramBase) (a : Nat) : t.byteAt a = if dramBase ≤ a then s.byteAt a else 0 := by
  have hz : t.byteAt a = (s.zero 0 dramBase).byteAt a := congrArg (SMap.get 0 · a) h
  rw [hz, byteAt_zero]
  simp only [Nat.zero_le, true_and, Nat.zero_add, ← Nat.not_le, ite_not]

/-! ### Power domains (Table 16.1) -/

theorem setDomains_regs (s : State) (l : List Nat) : s.SameRegsBut (s.setDomains l) ((List.range 4).map Reg.AON_DOM) :=
  List.foldlRecOn (motive := fun t => s.SameRegsBut t ((List.range 4).map Reg.AON_DOM)) _ _ (fun _ _ => rfl) fun _ ht _ hw =>
    ht.trans (sameRegsBut_setReg _ _ (List.mem_map_of_mem hw))

theorem pllStops_regs (s : State) : s.SameRegsBut s.pllStops [Reg.AON_PLL_ST] :=
  List.foldlRecOn (motive := fun t => s.SameRegsBut t [Reg.AON_PLL_ST]) _ _ (fun _ _ => rfl) fun t ht k _ => by
    split
    · exact ht
    · exact ht.trans (sameRegsBut_setReg _ _ (by decide))

/-- The number whose bits are those below `n` that a predicate picks. -/
theorem testBit_maskSum (p : Nat → Bool) (n : Nat) :
    (((List.range n).filter p).map (2 ^ ·)).sum < 2 ^ n ∧
      ∀ b, (((List.range n).filter p).map (2 ^ ·)).sum.testBit b = (decide (b < n) && p b) := by
  induction n with
  | zero => exact ⟨Nat.one_pos, fun b => by simp⟩
  | succ n ih =>
    obtain ⟨hlt, hbit⟩ := ih
    rw [List.range_succ, List.filter_append, List.map_append, List.sum_append]
    generalize (((List.range n).filter p).map (2 ^ ·)).sum = v at hlt hbit
    cases hp : p n with
    | false =>
      have hnil : ([n].filter p) = [] := by simp [hp]
      rw [hnil, List.map_nil, List.sum_nil, Nat.add_zero, Nat.pow_succ]
      refine ⟨by omega, fun b => ?_⟩
      rw [hbit]
      rcases Nat.lt_trichotomy b n with h | rfl | h
      · simp [h, Nat.lt_succ_of_lt h]
      · simp [hp]
      · simp [Nat.not_lt.2 (Nat.le_of_lt h), Nat.not_lt.2 (Nat.succ_le_of_lt h)]
    | true =>
      have hone : ([n].filter p) = [n] := by simp [hp]
      rw [hone, List.map_singleton, List.sum_singleton, Nat.pow_succ]
      refine ⟨by omega, fun b => ?_⟩
      rcases Nat.lt_trichotomy b n with h | rfl | h
      · rw [Nat.add_comm, Nat.testBit_two_pow_add_gt h, hbit]
        simp [h, Nat.lt_succ_of_lt h]
      · rw [Nat.add_comm, Nat.testBit_two_pow_add_eq, hbit]
        simp [hp]
      · rw [Nat.testBit_lt_two_pow (Nat.lt_of_lt_of_le (by omega : v + 2 ^ n < 2 ^ (n + 1)) (Nat.pow_le_pow_right (by decide) h))]
        simp [Nat.not_lt.2 (Nat.succ_le_of_lt h)]

/-- The word that a fold writes to each of a list of registers is what they then read. -/
theorem reg_setDomains (s : State) (l : List Nat) {w : Nat} (hw : w < 4) :
    (s.setDomains l).reg (Reg.AON_DOM w) =
      BitVec.ofNat 32 (((List.range 32).filter (fun b => l.contains (32 * w + b))).map (2 ^ ·)).sum := by
  have hne (a b : Nat) (h : a ≠ b) : Reg.AON_DOM a ≠ Reg.AON_DOM b := by unfold Reg.AON_DOM; omega
  have hw' : w = 0 ∨ w = 1 ∨ w = 2 ∨ w = 3 := by omega
  have hlist : List.range 4 = [0, 1, 2, 3] := rfl
  rw [State.setDomains, hlist]
  simp only [List.foldl_cons, List.foldl_nil]
  rcases hw' with rfl | rfl | rfl | rfl
  · rw [reg_setReg_ne _ _ (hne _ _ (by decide)), reg_setReg_ne _ _ (hne _ _ (by decide)), reg_setReg_ne _ _ (hne _ _ (by decide)),
      reg_setReg_same]
  · rw [reg_setReg_ne _ _ (hne _ _ (by decide)), reg_setReg_ne _ _ (hne _ _ (by decide)), reg_setReg_same]
  · rw [reg_setReg_ne _ _ (hne _ _ (by decide)), reg_setReg_same]
  · rw [reg_setReg_same]

theorem powered_setDomains (s : State) (l : List Nat) {d : Nat} (hd : d < 128) : (s.setDomains l).powered d = l.contains d := by
  have hw : d / 32 < 4 := by omega
  have hb : d % 32 < 32 := Nat.mod_lt _ (by decide)
  rw [State.powered, State.bit, State.fld', fieldOf_bit, reg_setDomains s l hw, BitVec.getLsbD_ofNat, (testBit_maskSum _ 32).2,
      Nat.div_add_mod]
  by_cases h : d ∈ l <;> simp [h, hb]

end

/-! ### What an interrupted burn leaves as it was (R497, R648, R659) -/

/-- The frame of a burn: the challenge and the identity's public key; and of SEC the fuses, the identity, its KEK and the challenge's use.
-/
def burnFrame : Frame where
  own o := (Reg.SEC_CHAL 0 ≤ o && o < Reg.SEC_CHAL 8) || (Reg.SEC_ID_PUB 0 ≤ o && o < Reg.SEC_ID_PUB 24)
  rest s := { s with
    regs := [], mem := [], out := [], free := 0, hif := {}, tbu := {}
    sec := { s.sec with otp := {}, kek := false, ident := none, challenge := false } }
  rest_update _ _ _ _ _ _ := rfl

section
variable {s₀ s : State}

theorem burnKeeps_sec (h : burnFrame.Keeps s₀ s) (otp : Otp) (kek : Bool) (ident : Option Nat) (challenge : Bool) :
    burnFrame.Keeps s₀ { s with sec := { s.sec with otp := otp, kek := kek, ident := ident, challenge := challenge } } :=
  h.beside rfl rfl rfl

theorem burnKeeps_setOtp (h : burnFrame.Keeps s₀ s) (o : Otp) : burnFrame.Keeps s₀ (s.setOtp o) := burnKeeps_sec h _ _ _ _

/-- Words written to consecutive registers that the frame owns. -/
theorem keeps_words {F : Frame} {n : Nat} {r : Nat → Nat} {v : State → Nat → W32} (hown : ∀ j < n, F.own (r j) = true) (h : F.Keeps s₀ s) :
    F.Keeps s₀ ((List.range n).foldl (fun s j => s.setReg (r j) (v s j)) s) :=
  List.foldlRecOn (motive := F.Keeps s₀) _ _ h fun _ ht _ hj => keeps_setReg (hown _ (List.mem_range.1 hj)) ht

theorem burnKeeps_useChallenge (h : burnFrame.Keeps s₀ s) : burnFrame.Keeps s₀ s.useChallenge :=
  burnKeeps_sec (keeps_words (v := fun _ _ => 0) (by decide) h) _ _ _ _

theorem burnKeeps_showIdentity (h : burnFrame.Keeps s₀ s) : burnFrame.Keeps s₀ s.showIdentity := by
  unfold State.showIdentity
  split
  · exact h
  · exact keeps_words (by decide) h

theorem newIdentity_eq (s : State) (gen : Nat) :
    s.newIdentity gen = { s.draw.2 with sec := { s.sec with
      otp := { s.sec.otp with idWraps := SMap.insert s.sec.otp.idWraps gen s.draw.1 }, ident := some s.draw.1, kek := true } }.showIdentity
          := rfl

theorem burnKeeps_newIdentity (h : burnFrame.Keeps s₀ s) (gen : Nat) : burnFrame.Keeps s₀ (s.newIdentity gen) := by
  rw [newIdentity_eq]
  exact burnKeeps_showIdentity ((keeps_draw h).beside rfl rfl rfl)

theorem burnKeeps_reprov (h : burnFrame.Keeps s₀ s) : burnFrame.Keeps s₀ s.reprov :=
  keeps_event (burnKeeps_newIdentity (burnKeeps_setOtp h _) _)

theorem burnKeeps_revokeSlot (h : burnFrame.Keeps s₀ s) (k : Nat) : burnFrame.Keeps s₀ (s.revokeSlot k) := keeps_event (burnKeeps_setOtp h
    _)

theorem burnKeeps_provRun (h : burnFrame.Keeps s₀ s) (b : List Byte) : burnFrame.Keeps s₀ (s.provRun b).2 :=
  keeps_ite_snd h (keeps_event (burnKeeps_setOtp (burnKeeps_newIdentity h 0) _))

/-- A record that is not an UNLOCK changes fuses, identity and challenge only. -/
theorem burnKeeps_signedRun (h : burnFrame.Keeps s₀ s) {b : List Byte} (hop : u b 4 1 ≠ 1) : burnFrame.Keeps s₀ (s.signedRun b).2 := by
  have hused := burnKeeps_useChallenge h
  unfold State.signedRun
  refine keeps_ite_snd hused ?_
  dsimp only
  split
  next h1 => exact absurd h1 hop
  · exact burnKeeps_revokeSlot hused _
  · exact burnKeeps_reprov hused

theorem burnKeeps_lifeEvent (h : burnFrame.Keeps s₀ s) (old : Nat) : burnFrame.Keeps s₀ (s.lifeEvent old) := keeps_event h

theorem burnKeeps_lockBurn (h : burnFrame.Keeps s₀ s) : burnFrame.Keeps s₀ s.lockBurn :=
  keeps_ite h (burnKeeps_lifeEvent (burnKeeps_setOtp h _) _)

/-- The state in which the burn of the roll-back fuses is cut. -/
def State.cutRoll (s : State) : State :=
  let top := max s.sec.otp.rollback (rollbackOf s.lth.applied)
  if s.lth.busyOp == 3 then
    s.draw.2.setOtp { s.sec.otp with rollback := s.sec.otp.rollback + s.draw.1 % (top - s.sec.otp.rollback + 1) }
  else s.draw.2

/-- The state in which a SEC command under way is cut, `v` the draw that says how far it had come. -/
def State.cutCommand (s : State) (v : Nat) (b : SecBusy) : State :=
  if b.err.isSome || b.void then s
  else if b.op == 8 && s.provCode b.bytes == DONE then
    if v % 3 == 0 then s else if v % 3 == 1 then s.setOtp { s.sec.otp with signers := provSigners b.bytes } else (s.provRun b.bytes).2
  else if b.op == 7 && u b.bytes 4 1 != 1 && s.signedCode b.bytes == DONE then
    if v % 3 == 0 then s
    else if v % 3 == 1 then
      if u b.bytes 4 1 == 3 then s.setOtp { s.sec.otp with lockGen := s.sec.otp.lockGen + 1 } else s
    else (s.signedRun b.bytes).2
  else s

theorem cutBurn_eq (s : State) : s.cutBurn = (s.cutRoll.sec.busy).elim s.cutRoll (s.cutRoll.cutCommand s.draw.1) := by
  have hv : Config.freeNat s.free % 3 = 0 ∨ Config.freeNat s.free % 3 = 1 ∨ Config.freeNat s.free % 3 = 2 := by omega
  unfold State.cutBurn
  change (match s.cutRoll.sec.busy with | some b => _ | none => s.cutRoll) = _
  cases s.cutRoll.sec.busy with
  | none => rfl
  | some b =>
    dsimp only [Option.elim_some]
    unfold State.cutCommand
    rcases hv with h | h | h <;> simp only [State.draw, h] <;> rfl

theorem burnKeeps_cutRoll (h : burnFrame.Keeps s₀ s) : burnFrame.Keeps s₀ s.cutRoll := keeps_ite (burnKeeps_setOtp (keeps_draw h) _)
    (keeps_draw h)

theorem burnKeeps_cutCommand (h : burnFrame.Keeps s₀ s) (v : Nat) (b : SecBusy) : burnFrame.Keeps s₀ (s.cutCommand v b) := by
  unfold State.cutCommand
  refine keeps_ite h (keeps_ite (keeps_ite h (keeps_ite (burnKeeps_setOtp h _) (burnKeeps_provRun h _))) ?_)
  split
  next hop =>
    have hop' : u b.bytes 4 1 ≠ 1 := by
      simp only [Bool.and_eq_true, bne_iff_ne] at hop
      exact hop.1.2
    exact keeps_ite h (keeps_ite (keeps_ite (burnKeeps_setOtp h _) h) (burnKeeps_signedRun h hop'))
  · exact h

theorem burnKeeps_cutBurn (h : burnFrame.Keeps s₀ s) : burnFrame.Keeps s₀ s.cutBurn := by
  rw [cutBurn_eq]
  cases s.cutRoll.sec.busy with
  | none => exact burnKeeps_cutRoll h
  | some b => exact burnKeeps_cutCommand (burnKeeps_cutRoll h) _ b

/-- With no SEC command under way only the burn of the roll-back fuses is cut. -/
theorem cutBurn_noCommand (hbusy : s.sec.busy = none) : s.cutBurn = s.cutRoll := by
  have hroll : s.cutRoll.sec.busy = none := by
    rw [← hbusy]
    exact congrArg (·.sec.busy) (burnKeeps_cutRoll (s := s) Frame.Keeps.refl).rest
  rw [cutBurn_eq, hroll]
  rfl

/-- With no SEC command under way and no image being applied, a cut burn only draws. -/
theorem cutBurn_idle (hbusy : s.sec.busy = none) (hop : s.lth.busyOp ≠ 3) : s.cutBurn = s.draw.2 := by
  rw [cutBurn_noCommand hbusy, State.cutRoll, if_neg (by simpa using hop)]

end

section
variable {s t : State}

/-! ### What a warm and a power-on reset leave (R679 to R681, Table 16.5) -/

/-- The pins return to reset: of the registers only FLT_N's state changes. -/
theorem resetPins_only (s old : State) (cold : Bool) :
    ∃ saf out, s.resetPins old cold = { s.setBit Reg.SAF_STATUS 3 true with saf := saf, out := out } := by
  have hstep {x : State} (c : Bool) (o : Out) : ∃ out, (if c then x else x.emit o) = { x with out := out } := by
    cases c
    · exact ⟨_, rfl⟩
    · exact ⟨_, rfl⟩
  have hstep' {x : State} (c : Bool) (o : Out) : ∃ out, (if c then x.emit o else x) = { x with out := out } := by
    cases c
    · exact ⟨_, rfl⟩
    · exact ⟨_, rfl⟩
  unfold State.resetPins
  dsimp only
  obtain ⟨_, h₁⟩ := hstep (x := State.setBit _ Reg.SAF_STATUS 3 true) old.saf.fltLow (.pin 1 false)
  rw [h₁]
  obtain ⟨_, h₂⟩ := hstep' old.tbu.ppsHigh (.pin 0 false)
  rw [h₂]
  obtain ⟨_, h₃⟩ := hstep' (cold && old.saf.hb) (.pin 2 false)
  rw [h₃]
  obtain ⟨_, h₄⟩ := hstep' (cold && old.aon.wakeLow) (.pin 3 true)
  rw [h₄]
  exact ⟨_, _, rfl⟩

section
variable (old : State) (cold : Bool)

@[simp] theorem resetPins_mem : (s.resetPins old cold).mem = s.mem := by
  obtain ⟨_, _, h⟩ := resetPins_only s old cold
  rw [h, State.setBit_mem]

@[simp] theorem resetPins_sec : (s.resetPins old cold).sec = s.sec := by
  obtain ⟨_, _, h⟩ := resetPins_only s old cold
  rw [h, State.setBit_sec]

@[simp] theorem resetPins_aon : (s.resetPins old cold).aon = s.aon := by
  obtain ⟨_, _, h⟩ := resetPins_only s old cold
  rw [h, State.setBit_aon]

theorem resetPins_regs : s.SameRegsBut (s.resetPins old cold) [Reg.SAF_STATUS] := by
  obtain ⟨_, _, h⟩ := resetPins_only s old cold
  rw [h]
  exact (sameRegsBut_setReg _ _ (List.mem_singleton_self _)).congr rfl

end

/-- Power domains and PLLs set: nothing but the registers that show them changes. -/
theorem setDomains_pllStops (s : State) (l : List Nat) :
    ∃ regs, (s.setDomains l).pllStops = { s with regs := regs } :=
  ⟨_, ((repowers_setDomains s l).trans (repowers_pllStops _)).only⟩

/-- The registers that power domains and PLLs show themselves in. -/
def powerRegs : List Nat := Reg.AON_PLL_ST :: (List.range 4).map Reg.AON_DOM

theorem setDomains_pllStops_regs (s : State) (l : List Nat) : s.SameRegsBut (s.setDomains l).pllStops powerRegs :=
  ((setDomains_regs s l).mono (List.subset_cons_self _ _)).trans ((pllStops_regs _).mono (by decide))

theorem powered_pllStops (s : State) (l : List Nat) {d : Nat} (hd : d < 128) : (s.setDomains l).pllStops.powered d = l.contains d := by
  have hw : ∀ w < 4, Reg.AON_DOM w ∉ [Reg.AON_PLL_ST] := by decide
  rw [← powered_setDomains s l hd]
  exact (pllStops_regs _).bit (hw _ (by omega)) _

theorem powered_congr (h : ∀ w < 4, t.reg (Reg.AON_DOM w) = s.reg (Reg.AON_DOM w)) {d : Nat} (hd : d < 128) : t.powered d = s.powered d :=
  bit_of_reg (h _ (by omega)) _

/-! #### A warm reset -/

/-- The state a warm reset restarts from: it sets the cause and the power state in what it keeps. -/
def State.warmKept (s : State) : State :=
  { State.reset with
    pending := s.pending, out := s.out, free := s.free, part := s.part
    regs := s.regsAfter (fun b => b != 1) secKept
    mem := memZero s.mem 0 dramBase
    sec := { otp := s.sec.otp, keys := s.sec.keys, kek := s.sec.kek, ident := s.sec.ident, idFail := s.sec.idFail,
             debugForce := s.sec.debugForce }
    hif := { perstLow := s.hif.perstLow }
    saf := { safeReq := s.saf.safeReq }
    msys := { keyed := s.msys.keyed, key := s.msys.key, retired := s.msys.retired, damage := s.msys.damage.filter (fun d => 38 ≤ d.array) }
    aon := { supplies := s.aon.supplies, porLow := false, xtalOk := s.aon.xtalOk, bootSel := s.aon.bootSel, wakeLow := s.aon.wakeLow }
    tca := { State.reset.tca with tiles := s.tilesFresh } }

theorem warm_eq (s : State) (cause : Nat) :
    s.warm cause = (s.warmKept.setBit Reg.AON_RST_CAUSE cause true).setFld Reg.AON_PWR_STATE 0 9 3 := rfl

/-- The state a warm reset starts up in, before the pins. -/
def State.warmBoot (s : State) (cause : Nat) : State :=
  let t := ((s.cutBurn.warm cause).setDomains baseDomains).pllStops
  { t with aon := { t.aon with booting := true, bootFrom := t.now }, sec := { t.sec with halt := s.cutBurn.sec.halt } }

theorem warmReset_eq (s : State) (cause : Nat) : s.warmReset cause = (s.warmBoot cause).resetPins s.cutBurn false := rfl

theorem warmKept_reg (s : State) (o : Nat) :
    s.warmKept.reg o = if (o / 0x100000 == 1 || isRws o || secKept o) = true then s.reg o else resetOf o := by
  refine (reg_regsAfter (s := s) (blk := fun b => b != 1) (keep := secKept) rfl o).trans ?_
  rw [bne, Bool.not_not]

theorem warm_reg (s : State) (cause : Nat) {o : Nat} (hcause : o ≠ Reg.AON_RST_CAUSE) (hpwr : o ≠ Reg.AON_PWR_STATE) :
    (s.warm cause).reg o = if (o / 0x100000 == 1 || isRws o || secKept o) = true then s.reg o else resetOf o := by
  rw [warm_eq, reg_setFld_ne _ _ _ _ hpwr, reg_setBit_ne _ _ _ hcause, warmKept_reg]

theorem warmReset_parts (s : State) (cause : Nat) :
    (s.warmReset cause).mem = memZero s.mem 0 dramBase ∧ (s.warmReset cause).sec.keys = s.sec.keys ∧
      (s.warmReset cause).aon.booting = true ∧ (s.warmReset cause).aon.supplies = s.aon.supplies := by
  have hk : burnFrame.Keeps s s.cutBurn := burnKeeps_cutBurn .refl
  obtain ⟨_, hpower⟩ := setDomains_pllStops (s.cutBurn.warm cause) baseDomains
  rw [warmReset_eq, resetPins_mem, resetPins_sec, resetPins_aon, State.warmBoot, hpower]
  exact ⟨congrArg (memZero · 0 dramBase) hk.mem, congrArg (·.sec.keys) hk.rest, rfl, congrArg (·.aon.supplies) hk.rest⟩

/-- The registers that a warm reset sets itself. -/
def warmRegs : List Nat := Reg.SAF_STATUS :: powerRegs

theorem warmReset_regs (s : State) (cause : Nat) : (s.cutBurn.warm cause).SameRegsBut (s.warmReset cause) warmRegs := by
  have hboot : (s.cutBurn.warm cause).SameRegsBut (s.warmBoot cause) powerRegs := (setDomains_pllStops_regs _ baseDomains).congr rfl
  rw [warmReset_eq]
  exact (hboot.mono (List.subset_cons_self _ _)).trans ((resetPins_regs _ _).mono (by decide))

theorem warmReset_powered (s : State) (cause : Nat) {d : Nat} (hd : d < 128) : (s.warmReset cause).powered d = baseDomains.contains d := by
  have hne : ∀ w < 4, Reg.AON_DOM w ∉ [Reg.SAF_STATUS] := by decide
  rw [← powered_pllStops (s.cutBurn.warm cause) baseDomains hd, warmReset_eq]
  exact powered_congr (fun w hw => resetPins_regs _ _ _ (hne w hw)) hd

/-- A warm reset records its cause. -/
theorem warmReset_cause (s : State) {cause : Nat} (hc : cause < 32) : (s.warmReset cause).bit Reg.AON_RST_CAUSE cause = true := by
  rw [(warmReset_regs s cause).bit (by decide), warm_eq, State.bit, fld_setFld_ne _ _ _ _ _ _ (by decide)]
  exact bit_setBit_same _ _ _ _ hc

/-- Registers of the other blocks return to reset, but for what a reset keeps. -/
theorem warmReset_reset (s : State) (cause : Nat) {o : Nat} (hset : o ∉ warmRegs) (hcause : o ≠ Reg.AON_RST_CAUSE)
    (hpwr : o ≠ Reg.AON_PWR_STATE) (hkept : (o / 0x100000 == 1 || isRws o || secKept o) = false) : (s.warmReset cause).reg o = resetOf o :=
        by
  rw [warmReset_regs s cause o hset, warm_reg _ _ hcause hpwr, hkept]
  rfl

/-- Registers of AON stay. -/
theorem warmReset_aon (s : State) (cause : Nat) {o : Nat} (hset : o ∉ warmRegs) (hcause : o ≠ Reg.AON_RST_CAUSE)
    (hpwr : o ≠ Reg.AON_PWR_STATE) (hblk : o / 0x100000 = 1) : (s.warmReset cause).reg o = s.reg o := by
  rw [warmReset_regs s cause o hset, warm_reg _ _ hcause hpwr, hblk]
  refine (burnKeeps_cutBurn Frame.Keeps.refl).regs o ?_
  have hlt : o < 0x200000 := by omega
  simp only [burnFrame, Bool.or_eq_false_iff, Bool.and_eq_false_iff, decide_eq_false_iff_not]
  unfold Reg.SEC_CHAL Reg.SEC_ID_PUB
  exact ⟨.inl (by omega), .inl (by omega)⟩

theorem lthState_of_reg (h : t.reg Reg.LTH_STATE = resetOf Reg.LTH_STATE) : t.lthState = 0 := by
  rw [State.lthState, State.fld', h]
  decide

theorem warmReset_lthState (s : State) (cause : Nat) : (s.warmReset cause).lthState = 0 :=
  lthState_of_reg (warmReset_reset s cause (by decide) (by decide) (by decide) (by decide))

theorem warmReset_byteAt (s : State) (cause a : Nat) : (s.warmReset cause).byteAt a = if dramBase ≤ a then s.byteAt a else 0 :=
  byteAt_dramKept (warmReset_parts s cause).1 a

/-! #### A power-on reset -/

theorem powerOn_reg (s : State) (pin : Bool) (cause : Nat) {o : Nat} (hcause : o ≠ Reg.AON_RST_CAUSE) (hlast : isAlarmLast o = false) :
    (s.powerOn pin cause).reg o = resetOf o := by
  unfold State.powerOn
  refine (reg_setReg_ne _ _ hcause).trans ?_
  cases pin with
  | true => rfl
  | false => 
    rw [State.reg, SMap.get]
    simp only [Bool.false_eq_true, if_false]
    rw [SMap.find?_filter W32 s.regs isAlarmLast, hlast]
    rfl

theorem coldReset_eq (s : State) (pin : Bool) (cause : Nat) :
    s.coldReset pin cause = (s.cutBurn.powerOn pin cause).resetPins s.cutBurn true := rfl

theorem coldReset_parts (s : State) (pin : Bool) (cause : Nat) :
    (s.coldReset pin cause).mem = [] ∧ (s.coldReset pin cause).sec = { otp := s.cutBurn.sec.otp } ∧
      (s.coldReset pin cause).aon = { supplies := s.aon.supplies, porLow := pin, xtalOk := s.aon.xtalOk } := by
  have haon : s.cutBurn.aon = s.aon := (congrArg State.aon (burnKeeps_cutBurn (s := s) .refl).rest :)
  rw [coldReset_eq, resetPins_mem, resetPins_sec, resetPins_aon, ← haon]
  exact ⟨rfl, rfl, rfl⟩

theorem coldReset_regs (s : State) (pin : Bool) (cause : Nat) :
    (s.cutBurn.powerOn pin cause).SameRegsBut (s.coldReset pin cause) [Reg.SAF_STATUS] := by
  rw [coldReset_eq]
  exact resetPins_regs _ _

theorem coldReset_reset (s : State) (pin : Bool) (cause : Nat) {o : Nat} (hset : o ≠ Reg.SAF_STATUS) (hcause : o ≠ Reg.AON_RST_CAUSE)
    (hlast : isAlarmLast o = false) : (s.coldReset pin cause).reg o = resetOf o :=
  (coldReset_regs s pin cause o (fun h => hset (List.mem_singleton.1 h))).trans (powerOn_reg _ pin cause hcause hlast)

/-- A power-on reset leaves its cause alone recorded. -/
theorem coldReset_cause (s : State) (pin : Bool) (cause : Nat) :
    (s.coldReset pin cause).reg Reg.AON_RST_CAUSE = BitVec.ofNat 32 (2 ^ cause) := by
  rw [coldReset_regs s pin cause _ (by decide)]
  exact reg_setReg_same _ _ _

theorem byteAt_nil (h : t.mem = []) (a : Nat) : t.byteAt a = 0 := by rw [State.byteAt, h]; rfl

theorem coldReset_lthState (s : State) (pin : Bool) (cause : Nat) : (s.coldReset pin cause).lthState = 0 :=
  lthState_of_reg (coldReset_reset s pin cause (by decide) (by decide) (by decide))

end

/-! ### A power-on start (R637 to R641) -/

/-- The frame of the boot steps: the findings of the BIST, the nonce and the identity's public key; of SEC what boot decides, and the
tiles. -/
def bootFrame : Frame where
  own o := [Reg.TCA_DEAD_MAP0, Reg.TCA_DEAD_MAP1, Reg.BSE_LANE_MAP, Reg.SEC_BOOT_NONCE_LO, Reg.SEC_BOOT_NONCE_HI].contains o ||
    (Reg.SEC_ID_PUB 0 ≤ o && o < Reg.SEC_ID_PUB 24)
  rest s := { s with
    regs := [], mem := [], out := [], free := 0, hif := {}, tbu := {}, tca := {}
    sec := { s.sec with halt := none, idFail := false, kek := false, ident := none } }
  rest_update _ _ _ _ _ _ := rfl

section
variable {s₀ s : State}

theorem bootKeeps_bistResult (h : bootFrame.Keeps s₀ s) (tiles : List (Fin 34)) (lanes : List (Fin 32)) :
    bootFrame.Keeps s₀ (s.bistResult tiles lanes) := by
  unfold State.bistResult
  refine Frame.Keeps.beside (keeps_foldl (keeps_foldl h fun _ _ h' => ?_) fun _ _ h' => keeps_setBit rfl h') rfl rfl rfl
  exact keeps_ite (keeps_setBit rfl h') (keeps_setBit rfl h')

theorem bootKeeps_showIdentity (h : bootFrame.Keeps s₀ s) : bootFrame.Keeps s₀ s.showIdentity := by
  unfold State.showIdentity
  split
  · exact h
  · exact keeps_words (by decide) h

/-- The state whose BIST a power-on start runs. -/
def State.bootStart (s : State) (sel : BitVec 2) : State :=
  let t := (s.setDomains baseDomains).pllStops
  { t with aon := { t.aon with porLow := false, booting := true, bootFrom := t.now, bootSel := sel } }

/-- The state that shows the nonce of a power-on start. -/
def State.bootNonce (s : State) (sel : BitVec 2) (o : BootOutcome) : State :=
  let t := (s.bootStart sel).bistResult o.tileFail o.laneFail
  (t.draw.2.draw.2.setReg Reg.SEC_BOOT_NONCE_LO (BitVec.ofNat 32 t.draw.1)).setReg Reg.SEC_BOOT_NONCE_HI (BitVec.ofNat 32 t.draw.2.draw.1)

theorem bootKeeps_bootNonce (s : State) (sel : BitVec 2) (o : BootOutcome) : bootFrame.Keeps (s.bootStart sel) (s.bootNonce sel o) :=
  keeps_setReg rfl (keeps_setReg rfl (keeps_draw (keeps_draw (bootKeeps_bistResult .refl _ _))))

theorem startUp_eq (s : State) (sel : BitVec 2) (o : BootOutcome) : ∃ idFail kek ident halt,
    s.startUp sel o = State.showIdentity { s.bootNonce sel o with
      sec := { (s.bootNonce sel o).sec with halt := halt, idFail := idFail, kek := kek, ident := ident } } ∧
    (((s.bootStart sel).bistResult o.tileFail o.laneFail).sec.otp.broken = true → halt = some 1) :=
  ⟨_, _, _, _, rfl, fun h => if_pos h⟩

theorem bootKeeps_startUp (s : State) (sel : BitVec 2) (o : BootOutcome) : bootFrame.Keeps (s.bootStart sel) (s.startUp sel o) := by
  obtain ⟨_, _, _, _, heq, -⟩ := startUp_eq s sel o
  rw [heq]
  exact bootKeeps_showIdentity ((bootKeeps_bootNonce s sel o).beside rfl rfl rfl)

theorem showIdentity_regs (s : State) : ∃ regs, s.showIdentity = { s with regs := regs } := by
  unfold State.showIdentity
  split
  · exact ⟨_, rfl⟩
  · refine ⟨_, List.foldlRecOn (motive := s.OnlyRegs) _ _ (.refl s) fun _ ht _ _ => ht.setReg _ _⟩

theorem showIdentity_sameRegs (s : State) : s.SameRegsBut s.showIdentity ((List.range 24).map Reg.SEC_ID_PUB) := by
  unfold State.showIdentity
  split
  · exact fun _ _ => rfl
  · exact List.foldlRecOn (motive := fun t => s.SameRegsBut t ((List.range 24).map Reg.SEC_ID_PUB)) _ _ (fun _ _ => rfl) fun _ ht _ hj =>
      ht.trans (sameRegsBut_setReg _ _ (List.mem_map_of_mem hj))

/-! #### What start-up leaves -/

section
variable (s) (sel : BitVec 2) (o : BootOutcome)

theorem startUp_mem : (s.startUp sel o).mem = s.mem := by
  obtain ⟨_, hpower⟩ := setDomains_pllStops s baseDomains
  rw [(bootKeeps_startUp s sel o).mem, State.bootStart, hpower]

theorem startUp_aon : (s.startUp sel o).aon = { s.aon with porLow := false, booting := true, bootFrom := s.now, bootSel := sel } := by
  obtain ⟨_, hpower⟩ := setDomains_pllStops s baseDomains
  have haon : (s.startUp sel o).aon = (s.bootStart sel).aon := (congrArg State.aon (bootKeeps_startUp s sel o).rest :)
  rw [haon, State.bootStart, hpower]

theorem startUp_sec : (s.startUp sel o).sec.otp = s.sec.otp ∧ (s.startUp sel o).sec.keys = s.sec.keys := by
  obtain ⟨_, hpower⟩ := setDomains_pllStops s baseDomains
  have hotp : (s.startUp sel o).sec.otp = (s.bootStart sel).sec.otp := (congrArg (·.sec.otp) (bootKeeps_startUp s sel o).rest :)
  have hkeys : (s.startUp sel o).sec.keys = (s.bootStart sel).sec.keys := (congrArg (·.sec.keys) (bootKeeps_startUp s sel o).rest :)
  rw [hotp, hkeys, State.bootStart, hpower]
  exact ⟨rfl, rfl⟩

theorem startUp_halt (h : s.sec.otp.broken = true) : (s.startUp sel o).sec.halt = some 1 := by
  obtain ⟨_, hpower⟩ := setDomains_pllStops s baseDomains
  have hbist : bootFrame.Keeps (s.bootStart sel) ((s.bootStart sel).bistResult o.tileFail o.laneFail) := bootKeeps_bistResult .refl _ _
  have hotp : ((s.bootStart sel).bistResult o.tileFail o.laneFail).sec.otp = s.sec.otp := by
    have hotp : ((s.bootStart sel).bistResult o.tileFail o.laneFail).sec.otp = (s.bootStart sel).sec.otp := (congrArg (·.sec.otp)
        hbist.rest :)
    rw [hotp, State.bootStart, hpower]
  obtain ⟨_, _, _, _, heq, hbroken⟩ := startUp_eq s sel o
  obtain ⟨_, hshow⟩ := showIdentity_regs ({ s.bootNonce sel o with
      sec := { (s.bootNonce sel o).sec with halt := _, idFail := _, kek := _, ident := _ } } : State)
  rw [heq, hshow]
  exact hbroken (hotp ▸ h)

/-- Registers that neither the domains nor the boot steps set stay. -/
theorem startUp_reg {r : Nat} (hpower : r ∉ powerRegs) (hown : bootFrame.own r = false) : (s.startUp sel o).reg r = s.reg r :=
  ((bootKeeps_startUp s sel o).regs r hown).trans (((setDomains_pllStops_regs s baseDomains).congr (u := s.bootStart sel) rfl) r hpower)

theorem startUp_powered {d : Nat} (hd : d < 128) : (s.startUp sel o).powered d = baseDomains.contains d := by
  have hown : ∀ w < 4, bootFrame.own (Reg.AON_DOM w) = false := by decide
  rw [← powered_pllStops s baseDomains hd]
  exact powered_congr (fun w hw => (bootKeeps_startUp s sel o).regs _ (hown w hw)) hd

end

/-! #### Tiles that failed (R242) -/

theorem deadBit_congr {t : State} (h0 : t.reg Reg.TCA_DEAD_MAP0 = s.reg Reg.TCA_DEAD_MAP0) (h1 : t.reg Reg.TCA_DEAD_MAP1 = s.reg
    Reg.TCA_DEAD_MAP1)
    (k : Nat) : t.deadBit k = s.deadBit k := by
  rw [State.deadBit, State.deadBit, bit_of_reg h0, bit_of_reg h1]

/-- The state in which a tile is marked DEAD. -/
def State.markDead (s : State) (t : Fin 34) : State :=
  if t.val < 32 then s.setBit Reg.TCA_DEAD_MAP0 t.val true else s.setBit Reg.TCA_DEAD_MAP1 (t.val - 32) true

theorem deadBit_markDead (s : State) (t k : Fin 34) (h : k = t ∨ s.deadBit k.val = true) : (s.markDead t).deadBit k.val = true := by
  have hk := k.isLt
  have ht := t.isLt
  unfold State.markDead State.deadBit
  unfold State.deadBit at h
  by_cases hkl : k.val < 32 <;> by_cases htl : t.val < 32 <;> simp only [hkl, htl, if_true, if_false] at h ⊢
  · by_cases he : k = t
    · rw [he]; exact bit_setBit_same _ _ _ _ htl
    · rw [bit_setBit_other _ _ _ htl (fun e => he (Fin.ext e))]
      exact h.resolve_left he
  · rw [bit_setBit_ne _ _ _ _ (by decide)]
    exact h.resolve_left fun e => htl (e ▸ hkl)
  · rw [bit_setBit_ne _ _ _ _ (by decide)]
    exact h.resolve_left fun e => hkl (e ▸ htl)
  · by_cases he : k = t
    · rw [he]; exact bit_setBit_same _ _ _ _ (by omega)
    · rw [bit_setBit_other _ _ _ (by omega) (fun e => he (Fin.ext (by omega)))]
      exact h.resolve_left he

theorem deadBit_marked (l : List (Fin 34)) (s : State) (k : Fin 34) (h : k ∈ l ∨ s.deadBit k.val = true) :
    (l.foldl State.markDead s).deadBit k.val = true := by
  induction l generalizing s with
  | nil => exact h.resolve_left (List.not_mem_nil)
  | cons t l ih =>
    refine ih (s.markDead t) ?_
    rcases h with h | h
    · rcases List.mem_cons.1 h with rfl | h
      · exact .inr (deadBit_markDead s k k (.inl rfl))
      · exact .inl h
    · exact .inr (deadBit_markDead s t k (.inr h))

theorem deadBit_startUp (s : State) (sel : BitVec 2) (o : BootOutcome) {k : Fin 34} (hk : k ∈ o.tileFail) :
    (s.startUp sel o).deadBit k.val = true := by
  have hlanes : ∀ l : List (Fin 32), ∀ t : State,
      t.SameRegsBut (l.foldl (fun s x => s.setBit Reg.BSE_LANE_MAP x.val true) t) [Reg.BSE_LANE_MAP] := fun l t =>
    List.foldlRecOn (motive := fun u => t.SameRegsBut u [Reg.BSE_LANE_MAP]) _ _ (fun _ _ => rfl) fun _ hu _ _ =>
      hu.trans (sameRegsBut_setReg _ _ (List.mem_singleton_self _))
  have hmarked := deadBit_marked o.tileFail (s.bootStart sel) k (.inl hk)
  have hl := hlanes o.laneFail (o.tileFail.foldl State.markDead (s.bootStart sel))
  have hbist : ((s.bootStart sel).bistResult o.tileFail o.laneFail).deadBit k.val = true :=
    (deadBit_congr (hl _ (by decide)) (hl _ (by decide)) _).trans hmarked
  obtain ⟨_, _, _, _, heq, -⟩ := startUp_eq s sel o
  have hshow : ((s.bootStart sel).bistResult o.tileFail o.laneFail).SameRegsBut (s.startUp sel o)
      (Reg.SEC_BOOT_NONCE_LO :: Reg.SEC_BOOT_NONCE_HI :: (List.range 24).map Reg.SEC_ID_PUB) := by
    rw [heq]
    refine State.SameRegsBut.trans ?_ ((showIdentity_sameRegs _).mono (by decide))
    exact ((sameRegsBut_setReg _ _ (by decide)).trans (sameRegsBut_setReg _ _ (by decide))).congr rfl
  exact (deadBit_congr (hshow _ (by decide)) (hshow _ (by decide)) _).trans hbist

end

end Sys2Proof.Machine
end

section
/-! PROOFS. Each reset clears and keeps its parts (R669, R679 to R683, Table 16.5). -/

namespace Sys2Proof.Machine

section
variable {s t u : State}

/-! ### An accelerator-domain reset (R682, Table 16.5) -/

/-- Of memory, time, the fallback, SEC and the registers outside LTH nothing changes. -/
structure State.LoaderOnly (s t : State) : Prop where
  mem : t.mem = s.mem
  tbu : t.tbu = s.tbu
  fb : t.saf.fb = s.saf.fb
  sec : t.sec = s.sec
  regs : ∀ o, o / 0x100000 ≠ 12 → t.reg o = s.reg o

theorem State.LoaderOnly.refl (s : State) : s.LoaderOnly s := ⟨rfl, rfl, rfl, rfl, fun _ _ => rfl⟩

theorem State.LoaderOnly.trans (h : s.LoaderOnly t) (h' : t.LoaderOnly u) : s.LoaderOnly u :=
  ⟨h'.mem.trans h.mem, h'.tbu.trans h.tbu, h'.fb.trans h.fb, h'.sec.trans h.sec, fun o ho => (h'.regs o ho).trans (h.regs o ho)⟩

theorem State.LoaderOnly.setReg (h : s.LoaderOnly t) {o : Nat} (ho : o / 0x100000 = 12) (v : W32) : s.LoaderOnly (t.setReg o v) :=
  h.trans ⟨rfl, rfl, rfl, rfl, fun _ hn => reg_setReg_ne _ _ (fun e => hn (e ▸ ho))⟩

theorem State.LoaderOnly.msix (h : s.LoaderOnly t) (v : Nat) : s.LoaderOnly (t.msix v) := by
  obtain ⟨_, _, he⟩ := msix_only t v
  rw [he]
  exact h.trans ⟨rfl, rfl, rfl, rfl, fun _ _ => rfl⟩

theorem State.LoaderOnly.setLth (h : s.LoaderOnly t) (lth : Lth) : s.LoaderOnly { t with lth := lth } :=
  h.trans ⟨rfl, rfl, rfl, rfl, fun _ _ => rfl⟩

theorem State.LoaderOnly.setSaf (h : s.LoaderOnly t) (lth : Lth) {saf : Saf} (hfb : saf.fb = s.saf.fb) :
    s.LoaderOnly { t with lth := lth, saf := saf } :=
  ⟨h.mem, h.tbu, hfb, h.sec, h.regs⟩

theorem loaderOnly_lthAccel (s : State) : s.LoaderOnly s.lthAccel := by
  have hend (c : Nat) : s.LoaderOnly (((((s.setFld Reg.LTH_CMD_ST 0 8 c).setBit Reg.LTH_CMD_ST 16 false).setReg Reg.LTH_REASON 0).countSat
      Reg.LTH_LOAD_CNT 16 16 1).msix 2) :=
    (((((State.LoaderOnly.refl s).setReg rfl _).setReg rfl _).setReg rfl _).setReg rfl _).msix 2
  unfold State.lthAccel
  dsimp only
  split
  · split
    · exact ((hend _).setReg (o := Reg.LTH_STATE) rfl _).setLth _
    · exact ((hend _).setReg (o := Reg.LTH_STATE) rfl _).setLth _
  · exact ((hend _).setReg (o := Reg.LTH_STATE) rfl _).setSaf _ rfl
  · exact ((State.LoaderOnly.refl s).setReg (o := Reg.LTH_STATE) rfl _).setLth _
  · exact ((State.LoaderOnly.refl s).setReg (o := Reg.LTH_STATE) rfl _).setLth _
  · exact .refl s

theorem lthAccel_applied (h : s.lthState = 3) : s.lthAccel.lthState = 4 := by
  unfold State.lthAccel
  rw [h]
  exact (congrArg (fieldOf · 0 3) (reg_setReg_same s Reg.LTH_STATE 4)).trans (by decide)

end

section
variable (s : State)

/-- The state an accelerator-domain reset leaves before LTH's part of it, its cycle ended. -/
def State.accelKept (s : State) : State :=
  { s with
    regs := s.regsAfter (fun b => (3 ≤ b && b ≤ 11) || b == 13 || b == 15 || b == 16) (fun off => csqKept off || secKept off)
    mem := memZero s.mem 0 dramBase
    sic := {}, pae := {}, ego := {}
    tca := { tiles := s.tilesFresh, noSpare := s.tca.noSpare }
    dml := {}, tac := {}, bse := {}
    fld := { gens := s.fld.gens }
    csq := { t0 := s.csq.t0, t0Set := s.csq.t0Set, sched := s.csq.sched, scheds := s.csq.scheds, pub := s.csq.pub, next := s.csq.next }
    slk := {}
    saf := { s.saf with fifos := s.saf.fifos.filter (fun p => 31 ≤ p.1) }
    sec := { s.sec with challenge := false, assocs := [], txAn := [], busy := none }
    msys := { keyed := s.msys.keyed, key := s.msys.key, retired := s.msys.retired, damage := s.msys.damage.filter (fun d => 38 ≤ d.array) }
        }

/-- The state whose LTH an accelerator-domain reset resets. -/
def State.accelIdle (s : State) : State := if s.accelKept.pwr == 4 then s.accelKept.setFld Reg.AON_PWR_STATE 0 3 3 else s.accelKept

theorem accel_eq : s.accel = s.accelIdle.lthAccel := rfl

theorem accelIdle_regs : s.accelKept.SameRegsBut s.accelIdle [Reg.AON_PWR_STATE] := by
  unfold State.accelIdle
  split
  · exact sameRegsBut_setReg _ _ (List.mem_singleton_self _)
  · exact fun _ _ => rfl

theorem accelIdle_parts : s.accelIdle.mem = s.accelKept.mem ∧ s.accelIdle.tbu = s.tbu ∧ s.accelIdle.saf.fb = s.saf.fb ∧
    s.accelIdle.sec.keys = s.sec.keys := by
  unfold State.accelIdle
  split <;> exact ⟨rfl, rfl, rfl, rfl⟩

theorem accel_byteAt (a : Nat) : s.accel.byteAt a = if dramBase ≤ a then s.byteAt a else 0 := by
  refine byteAt_dramKept ?_ a
  rw [accel_eq, (loaderOnly_lthAccel _).mem, (accelIdle_parts s).1]
  rfl

theorem accel_parts : s.accel.tbu = s.tbu ∧ s.accel.saf.fb = s.saf.fb ∧ s.accel.sec.keys = s.sec.keys := by
  obtain ⟨-, htbu, hfb, hkeys⟩ := accelIdle_parts s
  have hl := loaderOnly_lthAccel s.accelIdle
  rw [accel_eq]
  exact ⟨hl.tbu.trans htbu, hl.fb.trans hfb, (congrArg Sec.keys hl.sec).trans hkeys⟩

/-- Registers of LTH stay until its own part of the reset. -/
theorem accelIdle_lthState : s.accelIdle.lthState = s.lthState := by
  have hreg : s.accelIdle.reg Reg.LTH_STATE = s.reg Reg.LTH_STATE := by
    rw [accelIdle_regs s _ (by decide)]
    exact (reg_regsAfter (s := s) (blk := fun b => (3 ≤ b && b ≤ 11) || b == 13 || b == 15 || b == 16)
      (keep := fun off => csqKept off || secKept off) rfl _).trans (if_pos (by decide))
  rw [State.lthState, State.lthState, State.fld', State.fld', hreg]

theorem accel_applied (h : s.lthState = 3) : s.accel.lthState = 4 := by
  rw [accel_eq]
  exact lthAccel_applied ((accelIdle_lthState s).trans h)

/-! ### The endpoint's own resets (R683, R691) -/

/-- What the endpoint shows after its reset, READY aside. -/
theorem endpointReset_regs {o : Nat} (hne : o ≠ Reg.HIF_STATUS) : s.endpointReset.reg o =
    if (!(o / 0x100000 == 0) || isRws o || (Reg.HIF_EVT_LAST 0 ≤ o && o ≤ Reg.HIF_EVT_LAST 7)) = true then s.reg o else resetOf o := by
  unfold State.endpointReset
  dsimp only
  rw [reg_setBit_ne _ _ _ hne]
  exact reg_regsAfter (s := s) (blk := fun b => b == 0) (keep := fun off => Reg.HIF_EVT_LAST 0 ≤ off && off ≤ Reg.HIF_EVT_LAST 7) rfl _

theorem endpointReset_reg {o : Nat} (ho : o / 0x100000 ≠ 0) : s.endpointReset.reg o = s.reg o := by
  have hne : o ≠ Reg.HIF_STATUS := fun h => ho (by rw [h]; decide)
  rw [endpointReset_regs s hne, if_pos (by simp [ho])]

/-- Of the registers of HIF only READY and what the log last showed stay. -/
theorem endpointReset_reset {o : Nat} (ho : o / 0x100000 = 0) (hne : o ≠ Reg.HIF_STATUS)
    (hkept : (isRws o || (Reg.HIF_EVT_LAST 0 ≤ o && o ≤ Reg.HIF_EVT_LAST 7)) = false) : s.endpointReset.reg o = resetOf o := by
  rw [endpointReset_regs s hne, ho, Bool.or_assoc, hkept]
  exact if_neg (by decide)

theorem endpointReset_locked : s.endpointReset.locked = false ∧ s.endpointReset.bit Reg.HIF_FEAT_ST 16 = false := by
  have h : s.endpointReset.reg Reg.HIF_FEAT_ST = resetOf Reg.HIF_FEAT_ST := endpointReset_reset s (by decide) (by decide) (by decide)
  rw [State.locked, State.bit, State.bit, State.fld', State.fld', h]
  decide

theorem endpointReset_mem : s.endpointReset.mem = s.mem := rfl

end

/-! ### Settling O46 -/

section
variable (s : State)

theorem exec_suppliesRemoved : exec .suppliesRemoved s =
    .next { (s.coldReset true 0).setFld Reg.AON_PWR_STATE 0 3 0 with
      aon := { (s.coldReset true 0).aon with supplies := false, xtalOk := false } } := rfl

theorem exec_porNAssert (h : s.aon.supplies = true) :
    exec .porNAssert s = .next { s.coldReset true 0 with aon := { (s.coldReset true 0).aon with xtalOk := false } } :=
  congrArg Host.Outcome.next (if_pos h)

theorem exec_porNRelease (b : BitVec 2) (o : BootOutcome) (hlow : s.aon.porLow = true) (hsup : s.aon.supplies = true) :
    exec (.porNRelease b o) s = .next ((s.setFld Reg.AON_PWR_STATE 0 9 3).startUp b o) :=
  congrArg Host.Outcome.next (if_pos (by rw [hlow, hsup]; rfl))

theorem exec_warmNAssert {ns : Nat} (hns : 1000 ≤ ns) (hlow : s.aon.porLow = false) (hpwr : s.pwr ≠ 1) :
    exec (.warmNAssert ns) s = .next (s.warmReset 1) :=
  congrArg Host.Outcome.next (if_pos (by simp [hns, hlow, hpwr]))

theorem exec_perstAssert (h : s.powered 91 = true) :
    exec .perstAssert s = .next (({ s with hif := { s.hif with perstLow := true } } : State).endpointReset.event 0x00 1 0x0003 0 []) :=
  congrArg Host.Outcome.next (if_pos h)

theorem exec_functionLevelReset (h : s.hostUp = true) : ∃ hif,
    exec .functionLevelReset s = .next { s.endpointReset.setFld Reg.HIF_STATUS 1 7 (s.fld' Reg.HIF_STATUS 1 7) with hif := hif } ∧
      hif.linkUp = true ∧ hif.pend = s.hif.pend :=
  ⟨_, congrArg Host.Outcome.next (if_pos h), rfl, rfl⟩

section
variable {s} (hopen : s.hostOpen .command Reg.AON_RST_CMD = true) (hfree : s.bit Reg.AON_RST_ST 16 = false)
include hopen hfree

theorem exec_warm : exec .warm s = .next ((s.status Reg.AON_RST_ST DONE).warmReset 4) := by
  refine congrArg Host.Outcome.next ((hostCmd_open hopen _).trans ?_)
  rw [State.doRstCmd, State.unlessBusy, hfree]
  rfl

theorem exec_accel (hidle : s.bit Reg.CSQ_STATUS 0 = false) :
    exec .accel s = .next ((s.accel.setBit Reg.AON_RST_CAUSE 6 true).status Reg.AON_RST_ST DONE) := by
  refine congrArg Host.Outcome.next ((hostCmd_open hopen _).trans ?_)
  rw [State.doRstCmd, State.unlessBusy, hfree]
  exact (if_neg (Bool.eq_false_iff.1 hidle) : (if s.bit Reg.CSQ_STATUS 0 = true then _ else _) = _)

theorem exec_tileReset {n : BitVec 6} (hn : n.toNat < 34) (hst : (s.tile n.toNat).st = .active) (hidle : s.bit Reg.CSQ_STATUS 0 = false) :
    exec (.tileReset n) s = .next ((s.tileRst n.toNat).status Reg.AON_RST_ST DONE) := by
  have hop : fieldOf (BitVec.ofNat 32 (3 + 256 * n.toNat)) 0 2 = 3 := by
    simp only [fieldOf, BitVec.toNat_ofNat]
    omega
  have htile : fieldOf (BitVec.ofNat 32 (3 + 256 * n.toNat)) 8 6 = n.toNat := by
    simp only [fieldOf, BitVec.toNat_ofNat]
    omega
  refine congrArg Host.Outcome.next ((hostCmd_open hopen _).trans ?_)
  rw [State.doRstCmd, State.unlessBusy, hfree]
  simp only [Bool.false_eq_true, if_false, hop, htile]
  rw [if_neg (by omega), if_neg (by simp [hst, hidle])]

end

end

theorem fld_congr {s t : State} (h : t.regs = s.regs) (o lo w : Nat) : t.fld' o lo w = s.fld' o lo w := by
  rw [State.fld', State.fld', reg_congr h]

section
variable (s : State)

/-- The parts of a power-on reset with no burn in progress: all but the fuses is cleared. -/
theorem coldReset_cleared (hbusy : s.sec.busy = none) (hop : s.lth.busyOp ≠ 3) (pin : Bool) (cause : Nat) :
    (s.coldReset pin cause).sec = { otp := s.sec.otp } ∧ (s.coldReset pin cause).lthState = 0 ∧ ∀ a, (s.coldReset pin cause).byteAt a = 0
        := by
  obtain ⟨hmem, hsec, -⟩ := coldReset_parts s pin cause
  rw [cutBurn_idle hbusy hop] at hsec
  exact ⟨hsec, coldReset_lthState s pin cause, byteAt_nil hmem⟩

theorem suppliesRemoved_spec (hbusy : s.sec.busy = none) (hop : s.lth.busyOp ≠ 3) :
    ∃ t, exec .suppliesRemoved s = .next t ∧ t.pwr = 0 ∧ t.aon.supplies = false ∧ t.sec = { otp := s.sec.otp } ∧ t.lthState = 0 ∧
      ∀ a, t.byteAt a = 0 := by
  obtain ⟨hsec, hlth, hmem⟩ := coldReset_cleared s hbusy hop true 0
  refine ⟨_, exec_suppliesRemoved s, ?_, rfl, hsec, ?_, hmem⟩
  · exact (fld_congr (s := (s.coldReset true 0).setFld Reg.AON_PWR_STATE 0 3 0) rfl _ _ _).trans (fld_setFld_same _ _ 0 3 0 (by decide))
  · exact ((fld_congr (s := (s.coldReset true 0).setFld Reg.AON_PWR_STATE 0 3 0) rfl _ _ _).trans
      (fld_setFld_ne _ _ _ _ _ _ (by decide))).trans hlth

theorem porNAssert_spec (hbusy : s.sec.busy = none) (hop : s.lth.busyOp ≠ 3) (hsup : s.aon.supplies = true) :
    ∃ t, exec .porNAssert s = .next t ∧ t.aon.porLow = true ∧ t.sec = { otp := s.sec.otp } ∧ t.lthState = 0 ∧
      t.reg Reg.AON_RST_CAUSE = 1 ∧ ∀ a, t.byteAt a = 0 := by
  obtain ⟨hsec, hlth, hmem⟩ := coldReset_cleared s hbusy hop true 0
  obtain ⟨-, -, haon⟩ := coldReset_parts s true 0
  exact ⟨_, exec_porNAssert s hsup, congrArg Aon.porLow haon, hsec, hlth, coldReset_cause s true 0, hmem⟩

theorem pwr_idle : (s.setFld Reg.AON_PWR_STATE 0 9 3).pwr = 3 := by
  have hlt := (s.reg Reg.AON_PWR_STATE).isLt
  simp only [State.pwr, State.fld', State.setFld, reg_setReg_same, fieldOf, setBits, bits, BitVec.toNat_ofNat]
  omega

theorem porNRelease_spec (b : BitVec 2) (o : BootOutcome) (hlow : s.aon.porLow = true) (hsup : s.aon.supplies = true) :
    ∃ t, exec (.porNRelease b o) s = .next t ∧ t.pwr = 3 ∧ t.aon.porLow = false ∧ t.aon.bootSel = b ∧ t.aon.booting = true ∧
      (∀ d < 128, t.powered d = baseDomains.contains d) ∧ (s.sec.otp.broken = true → t.sec.halt = some 1) ∧
      ∀ k ∈ o.tileFail, t.deadBit k.val = true := by
  have haon := startUp_aon (s.setFld Reg.AON_PWR_STATE 0 9 3) b o
  refine ⟨_, exec_porNRelease s b o hlow hsup, ?_, congrArg Aon.porLow haon, congrArg Aon.bootSel haon, congrArg Aon.booting haon,
    fun d hd => startUp_powered _ b o hd, fun h => startUp_halt _ b o h, fun k hk => deadBit_startUp _ b o hk⟩
  rw [State.pwr, State.fld', startUp_reg _ b o (by decide) (by decide)]
  exact pwr_idle s

theorem warmNAssert_spec {ns : Nat} (hns : 1000 ≤ ns) (hlow : s.aon.porLow = false) (hpwr : s.pwr ≠ 1) :
    ∃ t, exec (.warmNAssert ns) s = .next t ∧ t.bit Reg.AON_RST_CAUSE 1 = true ∧ t.lthState = 0 ∧ t.sec.keys = s.sec.keys ∧
      t.aon.booting = true ∧ (∀ a, t.byteAt a = if dramBase ≤ a then s.byteAt a else 0) := by
  obtain ⟨-, hkeys, hboot, -⟩ := warmReset_parts s 1
  exact ⟨_, exec_warmNAssert s hns hlow hpwr, warmReset_cause s (by decide), warmReset_lthState s 1, hkeys, hboot, warmReset_byteAt s 1⟩

theorem perstAssert_spec (h : s.powered 91 = true) :
    ∃ t, exec .perstAssert s = .next t ∧ t.hif.perstLow = true ∧ t.hif.linkUp = false ∧ t.locked = false ∧ s.SameMemory t ∧
      ∀ o, 0x100000 ≤ o → t.reg o = s.reg o :=
  ⟨_, exec_perstAssert s h, rfl, rfl, (endpointReset_locked _).1, State.sameMemory_of_mem rfl, fun o ho => endpointReset_reg _ (by omega)⟩

theorem functionLevelReset_spec (h : s.hostUp = true) :
    ∃ t, exec .functionLevelReset s = .next t ∧ t.hif.linkUp = true ∧ t.locked = false ∧ t.hif.pend = s.hif.pend ∧ s.SameMemory t ∧
      ∀ o, 0x100000 ≤ o → t.reg o = s.reg o := by
  obtain ⟨hif, he, hlink, hpend⟩ := exec_functionLevelReset s h
  have hreg {o : Nat} (ho : o ≠ Reg.HIF_STATUS) :
      State.reg { s.endpointReset.setFld Reg.HIF_STATUS 1 7 (s.fld' Reg.HIF_STATUS 1 7) with hif := hif } o = s.endpointReset.reg o :=
    (reg_congr (s := s.endpointReset.setFld Reg.HIF_STATUS 1 7 (s.fld' Reg.HIF_STATUS 1 7)) rfl o).trans (reg_setFld_ne _ _ _ _ ho)
  exact ⟨_, he, hlink, (bit_of_reg (hreg (by decide)) 17).trans (endpointReset_locked s).1, hpend, State.sameMemory_of_mem rfl,
    fun o ho => (hreg (by unfold Reg.HIF_STATUS; omega)).trans (endpointReset_reg s (by omega))⟩

/-- A tile right after its reset: ACTIVE, and nothing runs or waits in it. -/
def Tile.afresh (x : Tile) : Tile := { st := .active, serves := x.serves, nextOrd := x.nextOrd, fencedLog := x.fencedLog }

theorem tileRst_tile (n : Nat) : (s.tileRst n).tile n = ((s.discardTile n DEADLINE_ABANDONED).tile n).afresh :=
  tile_setTile (s.discardTile n DEADLINE_ABANDONED) n ((s.discardTile n DEADLINE_ABANDONED).tile n).afresh

section
variable (hopen : s.hostOpen .command Reg.AON_RST_CMD = true) (hfree : s.bit Reg.AON_RST_ST 16 = false)
include hopen hfree

theorem warm_spec : ∃ t, exec .warm s = .next t ∧ t.bit Reg.AON_RST_CAUSE 4 = true ∧ t.lthState = 0 ∧ t.sec.keys = s.sec.keys ∧
    t.fld' Reg.AON_RST_ST 0 8 = DONE ∧ (∀ a, t.byteAt a = if dramBase ≤ a then s.byteAt a else 0) ∧
    t.reg Reg.AON_WAKE_CFG = s.reg Reg.AON_WAKE_CFG := by
  obtain ⟨-, hkeys, -, -⟩ := warmReset_parts (s.status Reg.AON_RST_ST DONE) 4
  refine ⟨_, exec_warm hopen hfree, warmReset_cause _ (by decide), warmReset_lthState _ 4, hkeys, ?_, warmReset_byteAt _ 4, ?_⟩
  · rw [State.fld', warmReset_aon _ 4 (by decide) (by decide) (by decide) (by decide)]
    exact fld_status s Reg.AON_RST_ST DONE (by decide)
  · rw [warmReset_aon _ 4 (by decide) (by decide) (by decide) (by decide)]
    exact reg_setFld_ne _ _ _ _ (by decide)

theorem accel_spec (hidle : s.bit Reg.CSQ_STATUS 0 = false) :
    ∃ t, exec .accel s = .next t ∧ t.bit Reg.AON_RST_CAUSE 6 = true ∧ t.fld' Reg.AON_RST_ST 0 8 = DONE ∧ t.tbu = s.tbu ∧
      t.saf.fb = s.saf.fb ∧ t.sec.keys = s.sec.keys ∧ (∀ a, t.byteAt a = if dramBase ≤ a then s.byteAt a else 0) ∧
      (s.lthState = 3 → t.lthState = 4) := by
  obtain ⟨htbu, hfb, hkeys⟩ := accel_parts s
  refine ⟨_, exec_accel hopen hfree hidle, ?_, fld_status _ _ _ (by decide), htbu, hfb, hkeys, accel_byteAt s, fun h => ?_⟩
  · exact (bit_of_reg (reg_setFld_ne _ _ _ _ (by decide)) 6).trans (bit_setBit_same _ _ _ _ (by decide))
  · refine Eq.trans ?_ (accel_applied s h)
    exact (fld_setFld_ne _ _ _ _ _ _ (by decide)).trans (fld_setFld_ne _ _ _ _ _ _ (by decide))

theorem tileReset_spec (n : BitVec 6) (hn : n.toNat < 34) (hst : (s.tile n.toNat).st = .active) (hidle : s.bit Reg.CSQ_STATUS 0 = false) :
    ∃ t, exec (.tileReset n) s = .next t ∧ (t.tile n.toNat).st = .active ∧ (t.tile n.toNat).run = none ∧
      (t.tile n.toNat).stageQ = [] ∧ (t.tile n.toNat).bgQ = [] ∧ n.toNat ∈ t.tca.reload ∧ t.fld' Reg.AON_RST_ST 0 8 = DONE ∧
      ∀ a, n.toNat * 0x100000 ≤ a → a < n.toNat * 0x100000 + 0x100000 → t.byteAt a = 0 := by
  refine ⟨_, exec_tileReset hopen hfree hn hst hidle, ?_⟩
  have htile : ((s.tileRst n.toNat).status Reg.AON_RST_ST DONE).tile n.toNat = _ := tileRst_tile s n.toNat
  rw [htile]
  refine ⟨rfl, rfl, rfl, rfl, List.mem_append_right _ (List.mem_singleton_self _), fld_status _ _ _ (by decide), fun a hlo hhi => ?_⟩
  exact (byteAt_zero (s.discardTile n.toNat DEADLINE_ABANDONED) (n.toNat * 0x100000) 0x100000 a).trans (if_pos ⟨hlo, hhi⟩)

end
end

/-- Settles O46: each reset clears and keeps its parts of Table 16.5. -/
theorem resetsClearAndKeepTheirParts : Obligations.ResetsClearAndKeepTheirParts :=
  ⟨fun s hbusy hop => ⟨suppliesRemoved_spec s hbusy hop, porNAssert_spec s hbusy hop, fun h => congrArg Host.Outcome.next (if_neg (by simp
      [h]))⟩,
    fun b o s => ⟨fun h => congrArg Host.Outcome.next (if_neg (by rcases h with h | h <;> simp [h])), porNRelease_spec s b o⟩,
    fun ns s => ⟨fun h => congrArg Host.Outcome.next (if_neg (by rcases h with h | h | h <;> simp [h])), warmNAssert_spec s⟩,
    fun s hopen hfree => ⟨warm_spec s hopen hfree, accel_spec s hopen hfree, tileReset_spec s hopen hfree⟩,
    perstAssert_spec, functionLevelReset_spec⟩

end Sys2Proof.Machine
end

section
/-! PROOFS. Wake sources and the supplies (R675, R735). -/

namespace Sys2Proof.Machine

/-! ### Wake sources (R675, R735) -/

section
variable (s : State)

/-- WAKE_N driven low in Sentinel by a source that comes first. -/
theorem wakeBy_first {src : Nat} (hpwr : s.pwr = 1) (htrans : s.inTransition = false) (hpend : s.aon.wakePend = 0) :
    s.wakeBy src = s.wakeStart src := by
  unfold State.wakeBy
  rw [htrans, hpwr, hpend]
  rfl

theorem exec_canWake (n : Fin 4) (us : Nat) : exec (.canWake n us) s =
    .next (if s.bit Reg.AON_WAKE_CFG (1 + n.val) && decide (s.fld' Reg.AON_WAKE_CFG 8 6 < us) then s.wakeBy 2 else s) := rfl

theorem exec_wakeTimerExpiry : exec .wakeTimerExpiry s =
    .next (if s.bit Reg.AON_WAKE_CFG 6 && s.regN Reg.AON_WAKE_TIMER != 0 then s.wakeBy 4 else s) := rfl

theorem exec_perstRelease (hlow : s.hif.perstLow = true) (hcfg : s.bit Reg.AON_WAKE_CFG 5 = true) :
    exec .perstRelease s = .next (({ s with hif := { s.hif with perstLow := false } } : State).wakeBy 3) :=
  congrArg Host.Outcome.next ((if_pos hlow).trans (if_pos hcfg))

theorem exec_suppliesInRange_idle (h : s.pwr ≠ 1 ∨ s.aon.wakePend = 0) :
    exec .suppliesInRange s = .next { s with aon := { s.aon with supplies := true } } :=
  congrArg Host.Outcome.next (if_pos (by
    have : (s.pwr != 1 || s.aon.wakePend == 0) = true := by simpa using h
    exact this))

/-- The state with its supplies in range. -/
def State.supplied (s : State) : State := { s with aon := { s.aon with supplies := true } }

theorem exec_suppliesInRange_warm (hpwr : s.pwr = 1) (hpend : s.aon.wakePend ≠ 0) (hkeep : s.aon.dramKeep = true) : ∃ msys,
    exec .suppliesInRange s = .next { s.supplied.warmReset 7 with msys := msys } :=
  ⟨_, congrArg Host.Outcome.next ((if_neg (by
    have : ¬ (s.pwr != 1 || s.aon.wakePend == 0) = true := by simp [hpwr, hpend]
    exact this)).trans (if_pos hkeep))⟩

/-- The power-on start of a wake with DRAM not kept. -/
def State.wakeCold (s : State) : State :=
  (({ s with aon := { s.aon with supplies := true, wakeLow := false } } : State).coldReset false 7).startUp s.aon.bootSel
    { halt := none, idFail := false, tileFail := [], laneFail := [] }

theorem exec_suppliesInRange_cold (hpwr : s.pwr = 1) (hpend : s.aon.wakePend ≠ 0) (hkeep : s.aon.dramKeep = false) :
    exec .suppliesInRange s = .next { s.wakeCold.setFld Reg.AON_WAKE_SRC 0 4 s.aon.wakePend with
      aon := { s.wakeCold.aon with wakeLow := s.aon.wakeLow } } :=
  congrArg Host.Outcome.next ((if_neg (by
    have : ¬ (s.pwr != 1 || s.aon.wakePend == 0) = true := by simp [hpwr, hpend]
    exact this)).trans (if_neg (Bool.eq_false_iff.1 hkeep)))

theorem suppliesInRange_warm (hpwr : s.pwr = 1) (hpend : s.aon.wakePend ≠ 0) (hkeep : s.aon.dramKeep = true) :
    ∃ t, exec .suppliesInRange s = .next t ∧ t.aon.supplies = true ∧ t.aon.booting = true ∧ t.bit Reg.AON_RST_CAUSE 7 = true ∧
      (∀ d < 128, t.powered d = baseDomains.contains d) ∧ t.lthState = 0 ∧ t.sec.keys = s.sec.keys ∧
      ∀ a, dramBase ≤ a → t.byteAt a = s.byteAt a := by
  obtain ⟨_, he⟩ := exec_suppliesInRange_warm s hpwr hpend hkeep
  obtain ⟨-, hkeys, hboot, hsup⟩ := warmReset_parts s.supplied 7
  exact ⟨_, he, hsup, hboot, warmReset_cause s.supplied (by decide), fun d hd => warmReset_powered s.supplied 7 hd,
    warmReset_lthState s.supplied 7, hkeys, fun a ha => (warmReset_byteAt s.supplied 7 a).trans (if_pos ha)⟩

theorem suppliesInRange_cold (hpwr : s.pwr = 1) (hpend : s.aon.wakePend ≠ 0) (hkeep : s.aon.dramKeep = false) :
    ∃ t, exec .suppliesInRange s = .next t ∧ t.aon.supplies = true ∧ t.aon.booting = true ∧ t.bit Reg.AON_RST_CAUSE 7 = true ∧
      (∀ d < 128, t.powered d = baseDomains.contains d) ∧ t.lthState = 0 ∧ t.sec.keys = [] ∧ (∀ a, t.byteAt a = 0) ∧
      t.fld' Reg.AON_WAKE_SRC 0 4 = s.aon.wakePend % 16 := by
  obtain ⟨hmem, hsec, haon⟩ := coldReset_parts ({ s with aon := { s.aon with supplies := true, wakeLow := false } } : State) false 7
  have hstart := startUp_aon (({ s with aon := { s.aon with supplies := true, wakeLow := false } } : State).coldReset false 7) s.aon.bootSel
    { halt := none, idFail := false, tileFail := [], laneFail := [] }
  rw [haon] at hstart
  have hregs {r : Nat} (hr : r ≠ Reg.AON_WAKE_SRC) : (s.wakeCold.setFld Reg.AON_WAKE_SRC 0 4 s.aon.wakePend).reg r = s.wakeCold.reg r :=
    reg_setFld_ne _ _ _ _ hr
  have hcause : s.wakeCold.reg Reg.AON_RST_CAUSE = 0x80 := (startUp_reg _ _ _ (by decide) (by decide)).trans (coldReset_cause _ false 7)
  have hlth : s.wakeCold.reg Reg.LTH_STATE = resetOf Reg.LTH_STATE := (startUp_reg _ _ _ (by decide) (by decide)).trans
    (coldReset_reset _ false 7 (by decide) (by decide) (by decide))
  have hne : ∀ w < 4, Reg.AON_DOM w ≠ Reg.AON_WAKE_SRC := by decide
  refine ⟨_, exec_suppliesInRange_cold s hpwr hpend hkeep, congrArg Aon.supplies hstart, congrArg Aon.booting hstart, ?_, fun d hd => ?_,
      ?_, ?_,
    byteAt_nil ((startUp_mem _ _ _).trans hmem), ?_⟩
  · refine (bit_of_reg ((reg_congr (t := s.wakeCold.setFld Reg.AON_WAKE_SRC 0 4 s.aon.wakePend) rfl _).trans (hregs (by decide))) 7).trans
      ?_
    rw [State.bit, State.fld', hcause]
    decide
  · exact (powered_congr (s := s.wakeCold) (fun w hw => (reg_congr (t := s.wakeCold.setFld Reg.AON_WAKE_SRC 0 4 s.aon.wakePend) rfl _).trans
      (hregs (hne w hw))) hd).trans (startUp_powered _ _ _ hd)
  · exact lthState_of_reg (((reg_congr (t := s.wakeCold.setFld Reg.AON_WAKE_SRC 0 4 s.aon.wakePend) rfl _).trans (hregs (by decide))).trans
      hlth)
  · exact (startUp_sec _ _ _).2.trans (congrArg Sec.keys hsec)
  · exact (fld_congr (s := s.wakeCold.setFld Reg.AON_WAKE_SRC 0 4 s.aon.wakePend) rfl _ _ _).trans (fld_setFld_same _ _ 0 4 _ (by decide))

end

/-- Settles O45: an enabled source wakes the device from Sentinel, and the supplies start it. -/
theorem wakeSourcesStartTheDevice : Obligations.WakeSourcesStartTheDevice := by
  refine ⟨fun s hpwr htrans hpend => ⟨fun h => ?_, fun n us hcfg hlong => ?_, fun hcfg hlow => ?_, fun hcfg htimer => ?_⟩,
    fun s => ⟨fun h => ?_, fun n us h => ?_, fun h => ?_⟩, exec_suppliesInRange_idle, fun s hpwr hpend => ?_⟩
  · exact congrArg Host.Outcome.next ((if_pos h).trans (wakeBy_first s hpwr htrans hpend))
  · rw [exec_canWake, if_pos (by simp [hcfg, hlong]), wakeBy_first s hpwr htrans hpend]
    rfl
  · rw [exec_perstRelease s hlow hcfg]
    exact congrArg Host.Outcome.next (wakeBy_first ({ s with hif := { s.hif with perstLow := false } } : State) hpwr htrans hpend)
  · rw [exec_wakeTimerExpiry, if_pos (by simp [hcfg, htimer]), wakeBy_first s hpwr htrans hpend]
    rfl
  · exact congrArg Host.Outcome.next (if_neg (Bool.eq_false_iff.1 h))
  · rw [exec_canWake, if_neg (by rcases h with h | h <;> simp [h])]
  · rw [exec_wakeTimerExpiry, if_neg (by rcases h with h | h <;> simp [h])]
  · cases hkeep : s.aon.dramKeep with
    | true =>
      obtain ⟨t, he, hsup, hboot, hcause, hdom, hlth, hkeys, hmem⟩ := suppliesInRange_warm s hpwr hpend hkeep
      exact ⟨t, he, hsup, hboot, hcause, hdom, hlth, fun _ => ⟨hkeys, hmem⟩, nofun⟩
    | false =>
      obtain ⟨t, he, hsup, hboot, hcause, hdom, hlth, hkeys, hmem, hsrc⟩ := suppliesInRange_cold s hpwr hpend hkeep
      exact ⟨t, he, hsup, hboot, hcause, hdom, hlth, nofun, fun _ => ⟨hkeys, hmem, hsrc⟩⟩

end Sys2Proof.Machine
end

section
/-! PROOFS. The feature handshake (R700 to R702, R715). -/

namespace Sys2Proof.Machine

/-! ### The feature handshake (R700 to R702) -/

section
variable {s : State}

theorem lowestMissing_none {a b : Nat} (h : ∀ k < 256, (a.testBit k && !b.testBit k) = false) : lowestMissing a b = none :=
  List.find?_range_eq_none.2 fun k hk => by rw [h k hk]; rfl

theorem lowestMissing_some {a b k : Nat} (hk : k < 256) (h : (a.testBit k && !b.testBit k) = true)
    (hlow : ∀ j < k, (a.testBit j && !b.testBit j) = false) : lowestMissing a b = some k :=
  List.find?_range_eq_some.2 ⟨h, List.mem_range.2 hk, fun j hj => by rw [hlow j hj]; rfl⟩

theorem lowestUnmet_none {d : Nat} (h : ∀ k < 256, (k == 6 && d.testBit 6 && !d.testBit 5) = false) : lowestUnmet d = none :=
  if_neg (Bool.eq_false_iff.1 (h 6 (by decide)))

theorem lowestUnmet_some {d k : Nat} (h : (k == 6 && d.testBit 6 && !d.testBit 5) = true) : lowestUnmet d = some k := by
  simp only [Bool.and_eq_true, beq_iff_eq] at h
  obtain ⟨⟨rfl, h6⟩, h5⟩ := h
  exact if_pos (by rw [h6, h5]; rfl)

/-- What fails a check of the handshake at a feature bit. -/
def State.featFails (s : State) (check k : Nat) : Bool :=
  match check with
  | 1 => s.featDrv.testBit k && !s.featDev.testBit k
  | 2 => s.featMand.testBit k && !s.featDrv.testBit k
  | 3 => k == 6 && s.featDrv.testBit 6 && !s.featDrv.testBit 5
  | _ => s.featReq.testBit k && !s.featDrv.testBit k

theorem featCheck_none (h : ∀ c, 1 ≤ c → c ≤ 4 → ∀ k < 256, s.featFails c k = false) : s.featCheck = none := by
  unfold State.featCheck
  rw [lowestMissing_none (h 1 (by decide) (by decide))]
  dsimp only
  rw [lowestMissing_none (h 2 (by decide) (by decide))]
  dsimp only
  rw [lowestUnmet_none (h 3 (by decide) (by decide))]
  dsimp only
  rw [lowestMissing_none (h 4 (by decide) (by decide))]
  rfl

/-- The first check that fails reports the lowest bit that fails it. -/
theorem featCheck_some {c k : Nat} (hc1 : 1 ≤ c) (hc4 : c ≤ 4) (hk : k < 256) (hfail : s.featFails c k = true)
    (hlow : ∀ j < k, s.featFails c j = false) (hbefore : ∀ d, 1 ≤ d → d < c → ∀ j < 256, s.featFails d j = false) :
    s.featCheck = some (c, k) := by
  have hc : c = 1 ∨ c = 2 ∨ c = 3 ∨ c = 4 := by omega
  unfold State.featCheck
  rcases hc with rfl | rfl | rfl | rfl
  · rw [lowestMissing_some hk hfail hlow]
  · rw [lowestMissing_none (hbefore 1 (by decide) (by decide))]
    dsimp only
    rw [lowestMissing_some hk hfail hlow]
  · rw [lowestMissing_none (hbefore 1 (by decide) (by decide))]
    dsimp only
    rw [lowestMissing_none (hbefore 2 (by decide) (by decide))]
    dsimp only
    rw [lowestUnmet_some hfail]
  · rw [lowestMissing_none (hbefore 1 (by decide) (by decide))]
    dsimp only
    rw [lowestMissing_none (hbefore 2 (by decide) (by decide))]
    dsimp only
    rw [lowestUnmet_none (hbefore 3 (by decide) (by decide))]
    dsimp only
    rw [lowestMissing_some hk hfail hlow]
    rfl

/-! #### GO and UNLOCK -/

theorem doGo_refused (h : s.bit Reg.HIF_FEAT_ST 16 = true ∨ s.locked = true) : s.doGo = s.status Reg.HIF_FEAT_ST REFUSED_STATE :=
  if_pos (by rcases h with h | h <;> simp [h])

theorem doGo_checked (hbusy : s.bit Reg.HIF_FEAT_ST 16 = false) (hlock : s.locked = false) : s.doGo =
    match s.featCheck with
    | some (c, b) =>
      ((s.status Reg.HIF_FEAT_ST REFUSED_FEATURE).setFld Reg.HIF_FEAT_ST 8 8 b).event 0x00 1 0x0002 0 (leBytes 1 c ++ leBytes 1 b)
    | none =>
      ((s.status Reg.HIF_FEAT_ST DONE).setBit Reg.HIF_FEAT_ST 17 true).event 0x00 0 0x0001 0 (s.regBytes (Reg.HIF_FEAT_DRV 0) 2) := by
  unfold State.doGo
  rw [hbusy, hlock]
  rfl

theorem wire_event (s : State) (src sev code st : Nat) (data : List Byte) :
    (s.event src sev code st data).hif.wire.length = s.hif.wire.length + 1 := List.length_append

theorem fld_event (s : State) (src sev code st : Nat) (data : List Byte) (o lo w : Nat) :
    (s.event src sev code st data).fld' o lo w = s.fld' o lo w := rfl

theorem bit_event (s : State) (src sev code st : Nat) (data : List Byte) (o b : Nat) : (s.event src sev code st data).bit o b = s.bit o b
    := rfl

/-- A set that passes its checks is locked. -/
theorem doGo_passes (hbusy : s.bit Reg.HIF_FEAT_ST 16 = false) (hlock : s.locked = false) (hcheck : s.featCheck = none) :
    s.doGo.locked = true ∧ s.doGo.fld' Reg.HIF_FEAT_ST 0 8 = DONE ∧ s.SameMemory s.doGo ∧ s.SameRegsBut s.doGo [Reg.HIF_FEAT_ST] ∧
      s.doGo.hif.wire.length = s.hif.wire.length + 1 := by
  rw [doGo_checked hbusy hlock, hcheck]
  dsimp only
  refine ⟨?_, ?_, State.sameMemory_of_mem (by rw [State.event_mem, State.setBit_mem, State.status_mem]), ?_, wire_event _ _ _ _ _ _⟩
  · rw [State.locked, bit_event]
    exact bit_setBit_same (s.status Reg.HIF_FEAT_ST DONE) Reg.HIF_FEAT_ST 17 true (by decide)
  · rw [fld_event, fld_setBit_other _ _ _ (by decide) (by decide)]
    exact fld_status s Reg.HIF_FEAT_ST DONE (by decide)
  · exact ((sameRegsBut_setReg _ _ (List.mem_singleton_self _)).trans (sameRegsBut_setReg _ _ (List.mem_singleton_self _))).congr
      (State.event_regs ..)

/-- A set that fails a check is refused with the check's lowest bit, and locks nothing. -/
theorem doGo_fails (hbusy : s.bit Reg.HIF_FEAT_ST 16 = false) (hlock : s.locked = false) {c k : Nat} (hk : k < 256)
    (hcheck : s.featCheck = some (c, k)) :
    s.doGo.locked = false ∧ s.doGo.fld' Reg.HIF_FEAT_ST 0 8 = REFUSED_FEATURE ∧ s.doGo.fld' Reg.HIF_FEAT_ST 8 8 = k ∧ s.SameMemory s.doGo ∧
      s.SameRegsBut s.doGo [Reg.HIF_FEAT_ST] ∧ s.doGo.hif.wire.length = s.hif.wire.length + 1 := by
  rw [doGo_checked hbusy hlock, hcheck]
  dsimp only
  refine ⟨?_, ?_, ?_, State.sameMemory_of_mem rfl, ?_, wire_event _ _ _ _ _ _⟩
  · rw [State.locked, bit_event, State.bit, fld_setFld_disjoint _ _ _ _ _ _ _ (by decide) (by decide), State.status,
      fld_setFld_disjoint _ _ _ _ _ _ _ (by decide) (by decide)]
    exact hlock
  · rw [fld_event, fld_setFld_disjoint _ _ _ _ _ _ _ (by decide) (by decide)]
    exact fld_status s Reg.HIF_FEAT_ST REFUSED_FEATURE (by decide)
  · rw [fld_event, fld_setFld_same _ _ _ _ _ (by decide)]
    exact Nat.mod_eq_of_lt hk
  · exact ((sameRegsBut_setReg _ _ (List.mem_singleton_self _)).trans (sameRegsBut_setReg _ _ (List.mem_singleton_self _))).congr rfl

theorem doUnlockFeat_refused (h : s.lthState ≠ 0) : s.doUnlockFeat = s.status Reg.HIF_FEAT_ST REFUSED_STATE := if_pos (by simp [h])

theorem doUnlockFeat_done (h : s.lthState = 0) (hbusy : s.bit Reg.HIF_FEAT_ST 16 = false) :
    s.doUnlockFeat = (s.status Reg.HIF_FEAT_ST DONE).setBit Reg.HIF_FEAT_ST 17 false := if_neg (by simp [h, hbusy])

/-- A write of both GO and UNLOCK is refused. -/
theorem regPut_goUnlock (s : State) : s.regPut idHost Reg.HIF_FEAT_CTRL 3 = s.status Reg.HIF_FEAT_ST REFUSED_STATE := by
  have hcmd : s.regPut idHost Reg.HIF_FEAT_CTRL 3 = s.command idHost Reg.HIF_FEAT_CTRL 3 3 := rfl
  have hmask : (3 : W32) &&& ~~~(3 : W32) = 0 := by decide
  rw [hcmd, State.command, hmask]
  rfl

/-- The registers whose writes come to a rule of their own. -/
def ownWrite (off : Nat) : Bool :=
  let n := (off - 0x701000) / 128
  [Reg.TBU_CTRL, Reg.HIF_EVT_CFG, Reg.HIF_EVT_CONS, Reg.CSQ_CTRL, Reg.CSQ_RING_CONS, Reg.SEC_ALARM_POL].contains off ||
  (decide (Reg.HIF_SIGMAP 0 ≤ off) && decide (off ≤ Reg.HIF_SIGMAP 55)) ||
  (decide (Reg.SLK_MRING_CONS 0 ≤ off) && decide (off ≤ Reg.SLK_MRING_CONS 63)) ||
  (decide (n < 16) && decide (Reg.DML_SS_SHD n 0 ≤ off) && decide ((off - Reg.DML_SS_SHD n 0) / 4 < 8))

theorem writeRw_ignored {off : Nat} (hrule : ownWrite off = false) (hign : s.ignores off = true) (v : W32) (r : RegDef) :
    s.writeRw off v r = s := by
  simp only [ownWrite, Bool.or_eq_false_iff, List.contains_cons, List.contains_nil] at hrule
  obtain ⟨⟨⟨⟨htbu, hcfg, hcons, hcsq, hring, halarm, -⟩, hsigmap⟩, hmring⟩, hset⟩ := hrule
  unfold State.writeRw
  simp only [htbu, hcfg, hcons, hcsq, hring, halarm, hsigmap, hmring, hset, hign, Bool.or_true, Bool.true_or, Bool.false_eq_true, if_true,
    if_false]

theorem ignores_featDrv (hlock : s.locked = true) (k : Fin 8) : s.ignores (Reg.HIF_FEAT_DRV k) = true := by
  have hin : ∀ k : Fin 8, (decide (Reg.HIF_FEAT_DRV 0 ≤ Reg.HIF_FEAT_DRV k) && decide (Reg.HIF_FEAT_DRV k ≤ Reg.HIF_FEAT_DRV 7)) = true :=
      by
    decide
  rw [State.ignores, hin k, hlock]
  rfl

/-- While LOCKED the requested set takes no write. -/
theorem regPut_featDrv (hlock : s.locked = true) (k : Fin 8) (v : W32) : s.regPut idHost (Reg.HIF_FEAT_DRV k) v = s := by
  have hacc : ∀ k : Fin 8, (regDef? (Reg.HIF_FEAT_DRV k)).map (·.acc) = some .rw := by decide
  obtain ⟨r, hr, hrw⟩ := Option.map_eq_some_iff.1 (hacc k)
  have hput : s.regPut idHost (Reg.HIF_FEAT_DRV k) v = if s.frozen (Reg.HIF_FEAT_DRV k) then s else s.writeRw (Reg.HIF_FEAT_DRV k) v r := by
    unfold State.regPut
    rw [hr]
    dsimp only
    rw [hrw]
    rfl
  have hown : ∀ k : Fin 8, ownWrite (Reg.HIF_FEAT_DRV k) = false := by decide
  rw [hput, writeRw_ignored (hown k) (ignores_featDrv hlock k), ite_self]

theorem writeKind_featDrv (k : Fin 8) (v : W32) : writeKind (Reg.HIF_FEAT_DRV k) v = .write := by
  have hno : ∀ k : Fin 8, ((cmdStatus (Reg.HIF_FEAT_DRV k)).isSome || Reg.HIF_FEAT_DRV k == Reg.DML_SIG_RAISE) = false ∧
      (Reg.HIF_FEAT_DRV k == Reg.TBU_CTRL) = false := by decide
  obtain ⟨hcmd, hctrl⟩ := hno k
  rw [writeKind, hcmd, hctrl]
  rfl

/-- The resets return LOCKED and BUSY of the handshake to zero with their register. -/
theorem unlocked_of_reg {t : State} (h : t.reg Reg.HIF_FEAT_ST = resetOf Reg.HIF_FEAT_ST) : t.locked = false ∧ t.bit Reg.HIF_FEAT_ST 16 =
    false := by
  rw [State.locked, State.bit, State.bit, State.fld', State.fld', h]
  decide

theorem warmReset_unlocked (s : State) (cause : Nat) :
    (s.warmReset cause).locked = false ∧ (s.warmReset cause).bit Reg.HIF_FEAT_ST 16 = false :=
  unlocked_of_reg (warmReset_reset s cause (by decide) (by decide) (by decide) (by decide))

theorem exec_featureUnlock (hopen : s.hostOpen .command Reg.HIF_FEAT_CTRL = true) : exec .featureUnlock s = .next s.doUnlockFeat :=
  congrArg Host.Outcome.next (hostCmd_open hopen _)

theorem exec_go (hopen : s.hostOpen .command Reg.HIF_FEAT_CTRL = true) : exec .go s = .next s.doGo :=
  congrArg Host.Outcome.next (hostCmd_open hopen _)

/-- A 32-bit write of a register that the host reaches. -/
theorem exec_write {off : Nat} {d : BitVec 64} (hoff : off < 2 ^ 25) (halign : off % 4 = 0)
    (hopen : s.hostOpen (writeKind off (d.setWidth 32)) off = true) :
    exec (.registerWrite true (BitVec.ofNat 25 off) 4 d) s = .next (s.regPut idHost off (d.setWidth 32)) := by
  rw [exec_registerWrite, BitVec.toNat_ofNat, Nat.mod_eq_of_lt hoff, bar0_write halign hopen]

end

/-- Settles O48: the handshake judges by its checks in order, and each reset clears its lock. -/
theorem featureHandshakeLocksAndUnlocks : Obligations.FeatureHandshakeLocksAndUnlocks := by
  refine ⟨fun s hopen => ⟨fun h => ?_, fun hbusy hlock => ⟨fun hpass => ?_, fun c k hc1 hc4 hk hfail hlow hbefore => ?_⟩, fun h => ?_, fun
      h hbusy => ?_,
    fun d hd => ?_⟩, fun k d s hopen hlock => ?_, fun s => ⟨fun h => ?_, fun h => ?_, fun ns hns hlow hpwr => ?_, fun h => ?_, fun hopen
        hfree => ?_⟩⟩
  · rw [exec_go hopen, doGo_refused h]
  · exact ⟨_, exec_go hopen, doGo_passes hbusy hlock (featCheck_none hpass)⟩
  · exact ⟨_, exec_go hopen, doGo_fails hbusy hlock hk (featCheck_some hc1 hc4 hk hfail hlow hbefore)⟩
  · rw [exec_featureUnlock hopen, doUnlockFeat_refused h]
  · rw [exec_featureUnlock hopen, doUnlockFeat_done h hbusy]
  · rw [exec_write (by decide) (by decide) (by rw [hd]; exact hopen), hd, regPut_goUnlock]
  · have hoff : ∀ k : Fin 8, Reg.HIF_FEAT_DRV k < 2 ^ 25 ∧ Reg.HIF_FEAT_DRV k % 4 = 0 := by decide
    rw [exec_write (hoff k).1 (hoff k).2 (by rw [writeKind_featDrv]; exact hopen), regPut_featDrv hlock]
  · exact ⟨_, exec_perstAssert s h, endpointReset_locked _⟩
  · obtain ⟨hif, he, -, -⟩ := exec_functionLevelReset s h
    have hreg : State.reg { s.endpointReset.setFld Reg.HIF_STATUS 1 7 (s.fld' Reg.HIF_STATUS 1 7) with hif := hif } Reg.HIF_FEAT_ST =
        s.endpointReset.reg Reg.HIF_FEAT_ST :=
      (reg_congr (t := s.endpointReset.setFld Reg.HIF_STATUS 1 7 (s.fld' Reg.HIF_STATUS 1 7)) rfl _).trans (reg_setFld_ne _ _ _ _ (by
          decide))
    exact ⟨_, he, unlocked_of_reg (hreg.trans (endpointReset_reset s (by decide) (by decide) (by decide)))⟩
  · exact ⟨_, exec_warmNAssert s hns hlow hpwr, warmReset_unlocked s 1⟩
  · exact ⟨_, exec_porNAssert s h, unlocked_of_reg (coldReset_reset s true 0 (by decide) (by decide) (by decide))⟩
  · exact ⟨_, exec_warm hopen hfree, warmReset_unlocked _ 4⟩

end Sys2Proof.Machine
end

section
/-! PROOFS. Alarms (R639, R656 to R660). -/

namespace Sys2Proof.Machine

/-! ### Alarms (R639, R656 to R660) -/

/-- The frame of an alarm's note: the registers from SEC_ALARM_CNT on, and of SEC when the source was logged. -/
def noteFrame : Frame where
  own o := decide (Reg.SEC_ALARM_CNT 0 ≤ o)
  rest s := { s with regs := [], mem := [], out := [], free := 0, hif := {}, tbu := {}, sec := { s.sec with logSrc := [] } }
  rest_update _ _ _ _ _ _ := rfl

/-- Bytes written to consecutive registers that the frame owns. -/
theorem keeps_setRegBytes {F : Frame} {s₀ : State} (s : State) (off : Nat) (bs : List Byte) (hown : ∀ o, off ≤ o → F.own o = true)
    (h : F.Keeps s₀ s) : F.Keeps s₀ (s.setRegBytes off bs) := by
  induction s, off, bs using State.setRegBytes.induct with
  | case1 s off a b c d bs ih =>
    unfold State.setRegBytes
    exact ih (fun o ho => hown o (by omega)) (keeps_setReg (hown off (Nat.le_refl _)) h)
  | case2 s off bs hbs =>
    unfold State.setRegBytes
    split
    · exact absurd rfl (hbs _ _ _ _ _)
    · exact h

section
variable {s₀ s : State}

/-- The state in which an alarm is counted and recorded. -/
def State.alarmMark (s : State) (k : Nat) : State :=
  let t := s.countSat (Reg.SEC_ALARM_CNT k) 0 32 1
  t.setRegBytes (Reg.SEC_ALARM_LAST 0) (patch (htw t.now) 0 (leBytes 1 (setBits (u (htw t.now) 0 1) 0 3 k)))

/-- The state that remembers when alarms were logged. -/
def State.logged (s : State) (log : SMap Time) : State := { s with sec := { s.sec with logSrc := log } }

/-- An alarm is marked, and logged besides, LOG at most once per second. -/
theorem alarmNote_eq (s : State) (k : Nat) : ∃ log bs,
    s.alarmNote k = s.alarmMark k ∨ s.alarmNote k = ((s.alarmMark k).logged log).event 0x0F 3 0x0F01 0 bs := by
  unfold State.alarmNote
  dsimp only
  split
  · exact ⟨[], [], .inl rfl⟩
  · exact ⟨_, _, .inr rfl⟩

theorem noteKeeps_logged (h : noteFrame.Keeps s₀ s) (log : SMap Time) : noteFrame.Keeps s₀ (s.logged log) := h.beside rfl rfl rfl

theorem noteKeeps_alarmMark (h : noteFrame.Keeps s₀ s) (k : Nat) : noteFrame.Keeps s₀ (s.alarmMark k) := by
  have hcnt : noteFrame.own (Reg.SEC_ALARM_CNT k) = true := decide_eq_true (by unfold Reg.SEC_ALARM_CNT; omega)
  have hlast : ∀ o, Reg.SEC_ALARM_LAST 0 ≤ o → noteFrame.own o = true := fun o ho => decide_eq_true (by
    have h0 : Reg.SEC_ALARM_CNT 0 ≤ Reg.SEC_ALARM_LAST 0 := by decide
    exact h0.trans ho)
  exact keeps_setRegBytes _ _ _ hlast (keeps_countSat hcnt h)

theorem noteKeeps_alarmNote (h : noteFrame.Keeps s₀ s) (k : Nat) : noteFrame.Keeps s₀ (s.alarmNote k) := by
  obtain ⟨_, _, he | he⟩ := alarmNote_eq s k
  · exact he ▸ noteKeeps_alarmMark h k
  · rw [he]
    exact keeps_event (noteKeeps_logged (noteKeeps_alarmMark h k) _)

/-- The alarms that trip together, noted. -/
def State.alarmNotes (s : State) (srcs : List Nat) : State := srcs.foldl (fun s k => s.alarmNote k) s

theorem noteKeeps_alarmNotes (srcs : List Nat) : noteFrame.Keeps s (s.alarmNotes srcs) :=
  keeps_foldl .refl fun _ k h => noteKeeps_alarmNote h k

theorem alarmNote_count (s : State) (j : Nat) {k : Nat} (hj : j < 6) (hk : k < 6) :
    (s.alarmNote j).regN (Reg.SEC_ALARM_CNT k) =
      if k = j then satAdd 32 (s.regN (Reg.SEC_ALARM_CNT k)) 1 else s.regN (Reg.SEC_ALARM_CNT k) := by
  have hlow : Reg.SEC_ALARM_CNT k < Reg.SEC_ALARM_LAST 0 := by unfold Reg.SEC_ALARM_CNT Reg.SEC_ALARM_LAST; omega
  have hmark : (s.alarmMark j).reg (Reg.SEC_ALARM_CNT k) = (s.countSat (Reg.SEC_ALARM_CNT j) 0 32 1).reg (Reg.SEC_ALARM_CNT k) :=
    (setRegBytes_keeps _ (Reg.SEC_ALARM_LAST 0) _).2 _ hlow
  have hnote : (s.alarmNote j).reg (Reg.SEC_ALARM_CNT k) = (s.countSat (Reg.SEC_ALARM_CNT j) 0 32 1).reg (Reg.SEC_ALARM_CNT k) := by
    obtain ⟨_, _, he | he⟩ := alarmNote_eq s j
    · rw [he, hmark]
    · rw [he, ← hmark]
      exact reg_congr rfl _
  rw [State.regN, hnote]
  split
  next h =>
    subst h
    exact regN_countSat s _ 1
  next h =>
    have hne : Reg.SEC_ALARM_CNT k ≠ Reg.SEC_ALARM_CNT j := by unfold Reg.SEC_ALARM_CNT; omega
    exact congrArg BitVec.toNat (reg_setFld_ne s _ _ _ hne)

/-- Each source that trips is counted once. -/
theorem alarmNotes_count {srcs : List Nat} (hnd : srcs.Nodup) (hlt : ∀ j ∈ srcs, j < 6) (s : State) {k : Nat} (hk : k < 6) :
    (s.alarmNotes srcs).regN (Reg.SEC_ALARM_CNT k) =
      if k ∈ srcs then satAdd 32 (s.regN (Reg.SEC_ALARM_CNT k)) 1 else s.regN (Reg.SEC_ALARM_CNT k) := by
  induction srcs generalizing s with
  | nil => rfl
  | cons j srcs ih =>
    obtain ⟨hnot, hnd⟩ := List.nodup_cons.1 hnd
    refine (ih hnd (fun i hi => hlt i (List.mem_cons_of_mem _ hi)) (s.alarmNote j)).trans ?_
    rw [alarmNote_count s j (hlt j (List.mem_cons_self ..)) hk]
    by_cases hkj : k = j
    · subst hkj
      simp [hnot]
    · simp [hkj]

/-! #### What the highest policy does -/

/-- The highest effective policy of sources. -/
def State.topPolicy (s : State) (srcs : List Nat) : Nat := srcs.foldl (fun m k => max m (s.alarmEff k)) 0

section
variable {srcs : List Nat} (hsrcs : srcs ≠ []) (hlow : s.aon.porLow = false)
include hsrcs hlow

theorem alarm_eq : s.alarm srcs =
    match s.topPolicy srcs with
    | 0 => (s.alarmNotes srcs).alarmVoid
    | 1 => (s.alarmNotes srcs).warmReset 2
    | 2 => ((s.alarmNotes srcs).zeroiseKeys.coldReset false 3).startUp (s.alarmNotes srcs).zeroiseKeys.aon.bootSel
        { halt := none, idFail := false, tileFail := [], laneFail := [] }
    | _ => ((s.alarmNotes srcs).zeroiseKeys.lockBurn.coldReset false 3).startUp (s.alarmNotes srcs).zeroiseKeys.lockBurn.aon.bootSel
        { halt := none, idFail := false, tileFail := [], laneFail := [] } := by
  have hgo : ¬ (srcs.isEmpty || s.aon.porLow) = true := by simp [hsrcs, hlow]
  unfold State.alarm
  exact if_neg hgo

theorem alarm_log (h : s.topPolicy srcs = 0) : s.alarm srcs = (s.alarmNotes srcs).alarmVoid := by
  simp only [alarm_eq hsrcs hlow, h]

theorem alarm_reset (h : s.topPolicy srcs = 1) : s.alarm srcs = (s.alarmNotes srcs).warmReset 2 := by
  simp only [alarm_eq hsrcs hlow, h]

/-- ZEROISE and LOCK come to a power-on reset of the device without its keys; LOCK burns before. -/
theorem alarm_cold (h : 2 ≤ s.topPolicy srcs) : ∃ x sel o, s.alarm srcs = (x.coldReset false 3).startUp sel o ∧
    (s.topPolicy srcs = 3 → x = (s.alarmNotes srcs).zeroiseKeys.lockBurn) := by
  rw [alarm_eq hsrcs hlow]
  obtain ⟨p, hp⟩ : ∃ p, s.topPolicy srcs = p + 2 := ⟨_, (Nat.sub_add_cancel h).symm⟩
  rw [hp]
  cases p with
  | zero => exact ⟨_, _, _, rfl, nofun⟩
  | succ p => exact ⟨_, _, _, rfl, fun _ => rfl⟩

end

/-- A power-on reset of the device's own records its cause, and loses keys and memory. -/
theorem coldStart_parts (x : State) (sel : BitVec 2) (o : BootOutcome) :
    ((x.coldReset false 3).startUp sel o).bit Reg.AON_RST_CAUSE 3 = true ∧ ((x.coldReset false 3).startUp sel o).sec.keys = [] ∧
      (∀ a, ((x.coldReset false 3).startUp sel o).byteAt a = 0) ∧ ((x.coldReset false 3).startUp sel o).sec.otp = x.cutBurn.sec.otp := by
  obtain ⟨hmem, hsec, -⟩ := coldReset_parts x false 3
  obtain ⟨hotp, hkeys⟩ := startUp_sec (x.coldReset false 3) sel o
  have hcause : ((x.coldReset false 3).startUp sel o).reg Reg.AON_RST_CAUSE = 8 :=
    (startUp_reg _ _ _ (by decide) (by decide)).trans (coldReset_cause x false 3)
  refine ⟨?_, hkeys.trans (congrArg Sec.keys hsec), byteAt_nil ((startUp_mem _ _ _).trans hmem), hotp.trans (congrArg (·.otp) hsec)⟩
  rw [State.bit, State.fld', hcause]
  decide

theorem cutRoll_lockGen (s : State) : s.cutRoll.sec.otp.lockGen = s.sec.otp.lockGen := by
  unfold State.cutRoll
  dsimp only
  split <;> rfl

/-- LOCK of an OWNED device burns one LOCK_GEN fuse. -/
theorem lockBurn_lockGen (h : s.life = 1) : s.lockBurn.sec.otp.lockGen = s.sec.otp.lockGen + 1 := by
  unfold State.lockBurn
  rw [h]
  rfl

end

section
variable {s : State}

theorem not_noteOwn {o : Nat} (h : o < Reg.SEC_ALARM_CNT 0) : noteFrame.own o = false := decide_eq_false (by omega)

/-- What the notes of alarms leave as it was. -/
theorem alarmNotes_parts (s : State) (srcs : List Nat) : (s.alarmNotes srcs).mem = s.mem ∧
    (s.alarmNotes srcs).sec = { s.sec with logSrc := (s.alarmNotes srcs).sec.logSrc } := by
  have h := noteKeeps_alarmNotes (s := s) srcs
  have hsec : ({ (s.alarmNotes srcs).sec with logSrc := [] } : Sec) = { s.sec with logSrc := [] } := (congrArg State.sec h.rest :)
  exact ⟨h.mem, congrArg (fun x : Sec => { x with logSrc := (s.alarmNotes srcs).sec.logSrc }) hsec⟩

theorem alarmVoid_idle (h : s.sec.busy = none) : s.alarmVoid = s := by
  unfold State.alarmVoid
  rw [h]

/-- An alarm without a reset ends a burn at most. -/
theorem alarmVoid_cases (s : State) : ∃ b, s.alarmVoid = s ∨ s.alarmVoid = { s.cutBurn with sec := { s.cutBurn.sec with busy := b } } := by
  unfold State.alarmVoid
  split
  · split
    · exact ⟨_, .inr rfl⟩
    · exact ⟨none, .inl rfl⟩
  · exact ⟨none, .inl rfl⟩

theorem alarmVoid_parts (s : State) : s.alarmVoid.sec.trngFail = s.sec.trngFail ∧
    ∀ k < 6, s.alarmVoid.regN (Reg.SEC_ALARM_CNT k) = s.regN (Reg.SEC_ALARM_CNT k) := by
  obtain ⟨b, h | h⟩ := alarmVoid_cases s
  · rw [h]
    exact ⟨rfl, fun _ _ => rfl⟩
  · have hk : burnFrame.Keeps s s.cutBurn := burnKeeps_cutBurn .refl
    have hown : ∀ k < 6, burnFrame.own (Reg.SEC_ALARM_CNT k) = false := by decide
    rw [h]
    exact ⟨(congrArg (·.sec.trngFail) hk.rest :), fun k hlt => congrArg BitVec.toNat ((reg_congr (t := s.cutBurn) rfl _).trans (hk.regs _
        (hown k hlt)))⟩

/-! #### The sources that trip -/

/-- The sources of a trip. -/
def tripped (m : BitVec 6) : List Nat := (List.range 6).filter m.getLsbD

theorem exec_alarmTrip (m : BitVec 6) (hpwr : s.pwr ≠ 1) : exec (.alarmTrip m) s = .next (s.alarm (tripped m)) := by
  have hpred : (fun k => m.getLsbD k && !(k == 2 && s.pwr == 1)) = m.getLsbD := by
    funext k
    simp [hpwr]
  exact congrArg (fun p => Host.Outcome.next (s.alarm ((List.range 6).filter p))) hpred

theorem tripped_ne_nil {m : BitVec 6} (h : m ≠ 0) : tripped m ≠ [] := by
  intro hnil
  refine h (BitVec.eq_of_getLsbD_eq fun k hk => ?_)
  have hno := List.filter_eq_nil_iff.1 hnil k (List.mem_range.2 hk)
  rw [Bool.eq_false_iff.2 hno]
  exact BitVec.getLsbD_zero.symm

theorem mem_tripped {m : BitVec 6} {k : Nat} (hk : k < 6) : k ∈ tripped m ↔ m.getLsbD k = true := by
  simp [tripped, hk]

theorem alarm_counted (m : BitVec 6) {k : Nat} (hk : k < 6) : (s.alarmNotes (tripped m)).regN (Reg.SEC_ALARM_CNT k) =
    if m.getLsbD k then satAdd 32 (s.regN (Reg.SEC_ALARM_CNT k)) 1 else s.regN (Reg.SEC_ALARM_CNT k) := by
  have hnd : (tripped m).Nodup := List.nodup_range.filter _
  rw [alarmNotes_count hnd (fun j hj => List.mem_range.1 (List.mem_filter.1 hj).1) s hk]
  exact if_congr (mem_tripped hk) rfl rfl

/-- LOCK of an OWNED device leaves one LOCK_GEN fuse more. -/
theorem lock_lockGen {srcs : List Nat} (hbusy : s.sec.busy = none) (hlife : s.life = 1) :
    (s.alarmNotes srcs).zeroiseKeys.lockBurn.cutBurn.sec.otp.lockGen = s.sec.otp.lockGen + 1 := by
  obtain ⟨-, hsec⟩ := alarmNotes_parts s srcs
  have hzero : (s.alarmNotes srcs).zeroiseKeys.sec.otp = s.sec.otp ∧ (s.alarmNotes srcs).zeroiseKeys.sec.busy = none := by
    have hotp : (s.alarmNotes srcs).zeroiseKeys.sec.otp = (s.alarmNotes srcs).sec.otp := rfl
    have hnone : (s.alarmNotes srcs).zeroiseKeys.sec.busy = (s.alarmNotes srcs).sec.busy := rfl
    rw [hotp, hnone, hsec]
    exact ⟨rfl, hbusy⟩
  obtain ⟨hotp, hnone⟩ := hzero
  have hlock : burnFrame.Keeps (s.alarmNotes srcs).zeroiseKeys (s.alarmNotes srcs).zeroiseKeys.lockBurn := burnKeeps_lockBurn .refl
  have hnone' : (s.alarmNotes srcs).zeroiseKeys.lockBurn.sec.busy = none := Eq.trans (congrArg (·.sec.busy) hlock.rest :) hnone
  rw [cutBurn_noCommand hnone', cutRoll_lockGen, lockBurn_lockGen ((congrArg Otp.life hotp).trans hlife), hotp]

theorem alarmTrip_spec (m : BitVec 6) (hlow : s.aon.porLow = false) (hpwr : s.pwr ≠ 1) (hbusy : s.sec.busy = none) (p : Nat) (hm : m ≠ 0)
    (hp : p = s.topPolicy (tripped m)) : ∃ t, exec (.alarmTrip m) s = .next t ∧
      (p = 0 → t.sec.keys = s.sec.keys ∧ s.SameMemory t ∧ ∀ k < 6, t.regN (Reg.SEC_ALARM_CNT k) =
        (if m.getLsbD k then satAdd 32 (s.regN (Reg.SEC_ALARM_CNT k)) 1 else s.regN (Reg.SEC_ALARM_CNT k))) ∧
      (p = 1 → t.bit Reg.AON_RST_CAUSE 2 = true ∧ t.lthState = 0 ∧ t.sec.keys = s.sec.keys ∧ ∀ a, dramBase ≤ a → t.byteAt a = s.byteAt a) ∧
      (2 ≤ p → t.bit Reg.AON_RST_CAUSE 3 = true ∧ t.sec.keys = [] ∧ ∀ a, t.byteAt a = 0) ∧
      (p = 3 → s.life = 1 → t.sec.otp.lockGen = s.sec.otp.lockGen + 1) := by
  have hne := tripped_ne_nil hm
  obtain ⟨hmem, hsec⟩ := alarmNotes_parts s (tripped m)
  have hkeys : (s.alarmNotes (tripped m)).sec.keys = s.sec.keys := by rw [hsec]
  refine ⟨_, exec_alarmTrip m hpwr, fun h => ?_, fun h => ?_, fun h => ?_, fun h hlife => ?_⟩
  · have hnone : (s.alarmNotes (tripped m)).sec.busy = none := by rw [hsec]; exact hbusy
    rw [alarm_log hne hlow (hp.symm.trans h), alarmVoid_idle hnone]
    exact ⟨hkeys, State.sameMemory_of_mem hmem, fun k hk => alarm_counted m hk⟩
  · rw [alarm_reset hne hlow (hp.symm.trans h)]
    refine ⟨warmReset_cause _ (by decide), warmReset_lthState _ 2, (warmReset_parts _ 2).2.1.trans hkeys, fun a ha => ?_⟩
    rw [warmReset_byteAt, if_pos ha]
    exact State.sameMemory_of_mem hmem a
  · obtain ⟨x, sel, o, he, -⟩ := alarm_cold hne hlow (hp ▸ h)
    obtain ⟨hcause, hnokeys, hzero, -⟩ := coldStart_parts x sel o
    rw [he]
    exact ⟨hcause, hnokeys, hzero⟩
  · obtain ⟨x, sel, o, he, hx⟩ := alarm_cold hne hlow (hp ▸ h ▸ (by decide : 2 ≤ 3))
    rw [he, (coldStart_parts x sel o).2.2.2, hx (hp.symm.trans h), lock_lockGen hbusy hlife]

/-! #### A failed TRNG -/

theorem exec_trngHealthFail (h : s.powered 89 = true) :
    exec .trngHealthFail s = .next (({ s with sec := { s.sec with trngFail := true } } : State).alarm [2]) :=
  congrArg Host.Outcome.next (if_pos h)

theorem trngHealthFail_spec (hon : s.powered 89 = true) (hlow : s.aon.porLow = false) : ∃ t, exec .trngHealthFail s = .next t ∧
    (s.alarmEff 2 = 0 → t.sec.trngFail = true ∧ t.regN (Reg.SEC_ALARM_CNT 2) = satAdd 32 (s.regN (Reg.SEC_ALARM_CNT 2)) 1) ∧
    (s.alarmEff 2 = 1 → t.bit Reg.AON_RST_CAUSE 2 = true) ∧ (2 ≤ s.alarmEff 2 → t.bit Reg.AON_RST_CAUSE 3 = true) := by
  let f : State := { s with sec := { s.sec with trngFail := true } }
  have hlow' : f.aon.porLow = false := hlow
  have htop : f.topPolicy [2] = s.alarmEff 2 := Nat.zero_max _
  refine ⟨_, exec_trngHealthFail hon, fun h => ?_, fun h => ?_, fun h => ?_⟩
  · obtain ⟨htrng, hcnt⟩ := alarmVoid_parts (f.alarmNotes [2])
    rw [alarm_log (s := f) (List.cons_ne_nil _ _) hlow' (htop.trans h), htrng, hcnt 2 (by decide), (alarmNotes_parts f [2]).2,
      alarmNotes_count (List.nodup_singleton 2) (by decide) f (by decide)]
    exact ⟨rfl, rfl⟩
  · rw [alarm_reset (s := f) (List.cons_ne_nil _ _) hlow' (htop.trans h)]
    exact warmReset_cause _ (by decide)
  · obtain ⟨x, sel, o, he, -⟩ := alarm_cold (s := f) (List.cons_ne_nil _ _) hlow' (htop ▸ h)
    rw [he]
    exact (coldStart_parts x sel o).1

/-! #### Policies -/

/-- The floor that the fuses set for a source. -/
def State.alarmFloor (s : State) (k : Nat) : Nat := bits s.sec.otp.floors.toNat (2 * k) 2

/-- What a write makes of the policy of one source. -/
def State.raisePolicy (v : W32) (s : State) (k : Nat) : State :=
  if max (s.alarmFloor k) (fieldOf v (2 * k) 2) < s.alarmEff k then s else s.setFld Reg.SEC_ALARM_POL (2 * k) 2 (fieldOf v (2 * k) 2)

theorem alarmPolicy_eq (v : W32) : s.alarmPolicy v = (List.range 6).foldl (State.raisePolicy v) s := rfl

theorem raisePolicy_parts (v : W32) (s : State) (k : Nat) : (s.raisePolicy v k).sec = s.sec ∧ (s.raisePolicy v k).mem = s.mem ∧
    s.SameRegsBut (s.raisePolicy v k) [Reg.SEC_ALARM_POL] := by
  unfold State.raisePolicy
  split
  · exact ⟨rfl, rfl, fun _ _ => rfl⟩
  · exact ⟨rfl, rfl, sameRegsBut_setReg _ _ (List.mem_singleton_self _)⟩

theorem raisePolicies_parts (v : W32) (l : List Nat) (s : State) : (l.foldl (State.raisePolicy v) s).sec = s.sec ∧
    (l.foldl (State.raisePolicy v) s).mem = s.mem ∧ s.SameRegsBut (l.foldl (State.raisePolicy v) s) [Reg.SEC_ALARM_POL] :=
  List.foldlRecOn (motive := fun t => t.sec = s.sec ∧ t.mem = s.mem ∧ s.SameRegsBut t [Reg.SEC_ALARM_POL]) _ _ ⟨rfl, rfl, fun _ _ => rfl⟩
    fun t ⟨hsec, hmem, hregs⟩ k _ =>
      have ⟨hsec', hmem', hregs'⟩ := raisePolicy_parts v t k
      ⟨hsec'.trans hsec, hmem'.trans hmem, hregs.trans hregs'⟩

theorem raisePolicy_other (v : W32) (s : State) {j k : Nat} (hj : j < 6) (hne : k ≠ j) :
    (s.raisePolicy v j).fld' Reg.SEC_ALARM_POL (2 * k) 2 = s.fld' Reg.SEC_ALARM_POL (2 * k) 2 := by
  unfold State.raisePolicy
  split
  · rfl
  · exact fld_setFld_disjoint _ _ _ _ _ _ _ (by omega) (by omega)

theorem raisePolicy_same (v : W32) (s : State) {k : Nat} (hk : k < 6) : (s.raisePolicy v k).fld' Reg.SEC_ALARM_POL (2 * k) 2 =
    if max (s.alarmFloor k) (fieldOf v (2 * k) 2) < s.alarmEff k then s.fld' Reg.SEC_ALARM_POL (2 * k) 2 else fieldOf v (2 * k) 2 := by
  unfold State.raisePolicy
  split
  · rfl
  · rw [fld_setFld_same _ _ _ _ _ (by omega)]
    exact Nat.mod_mod _ _

theorem alarmEff_congr {t : State} (hsec : t.sec = s.sec) {k : Nat}
    (hfld : t.fld' Reg.SEC_ALARM_POL (2 * k) 2 = s.fld' Reg.SEC_ALARM_POL (2 * k) 2) : t.alarmEff k = s.alarmEff k := by
  rw [State.alarmEff, State.alarmEff, hsec, hfld]

/-- A write takes the field of each source once. -/
theorem raisePolicies_fld (v : W32) {l : List Nat} (hnd : l.Nodup) (hlt : ∀ j ∈ l, j < 6) (s : State) {k : Nat} (hk : k < 6) :
    (l.foldl (State.raisePolicy v) s).fld' Reg.SEC_ALARM_POL (2 * k) 2 =
      if k ∈ l then (s.raisePolicy v k).fld' Reg.SEC_ALARM_POL (2 * k) 2 else s.fld' Reg.SEC_ALARM_POL (2 * k) 2 := by
  induction l generalizing s with
  | nil => rfl
  | cons j l ih =>
    obtain ⟨hnot, hnd⟩ := List.nodup_cons.1 hnd
    have hj := hlt j (List.mem_cons_self ..)
    refine (ih hnd (fun i hi => hlt i (List.mem_cons_of_mem _ hi)) (s.raisePolicy v j)).trans ?_
    by_cases hkj : k = j
    · subst hkj
      rw [if_neg hnot, if_pos (List.mem_cons_self ..)]
    · have hfld := raisePolicy_other v s hj hkj
      have hsec := (raisePolicy_parts v s j).1
      have hsame : ((s.raisePolicy v j).raisePolicy v k).fld' Reg.SEC_ALARM_POL (2 * k) 2 = (s.raisePolicy v k).fld' Reg.SEC_ALARM_POL (2 *
          k) 2 := by
        rw [raisePolicy_same v _ hk, raisePolicy_same v _ hk, alarmEff_congr hsec hfld, hfld, State.alarmFloor, State.alarmFloor, hsec]
      rw [hsame, hfld]
      exact if_congr (by simp [hkj]) rfl rfl

theorem alarmPolicy_fld (v : W32) (s : State) {k : Nat} (hk : k < 6) : (s.alarmPolicy v).fld' Reg.SEC_ALARM_POL (2 * k) 2 =
    if max (s.alarmFloor k) (fieldOf v (2 * k) 2) < s.alarmEff k then s.fld' Reg.SEC_ALARM_POL (2 * k) 2 else fieldOf v (2 * k) 2 := by
  rw [alarmPolicy_eq, raisePolicies_fld v List.nodup_range (fun j hj => List.mem_range.1 hj) s hk, if_pos (List.mem_range.2 hk),
    raisePolicy_same v s hk]

theorem alarmPolicyWrite_spec (v : W32) (hfree : s.hostFree Reg.SEC_ALARM_POL = true) :
    ∃ t, exec (.alarmPolicyWrite v) s = .next t ∧ s.SameMemory t ∧ s.SameRegsBut t [Reg.SEC_ALARM_POL] ∧
      ∀ k < 6, s.alarmEff k ≤ t.alarmEff k ∧
        (s.alarmEff k ≤ fieldOf v (2 * k) 2 → t.fld' Reg.SEC_ALARM_POL (2 * k) 2 = fieldOf v (2 * k) 2) ∧
        (max (bits s.sec.otp.floors.toNat (2 * k) 2) (fieldOf v (2 * k) 2) < s.alarmEff k →
          t.fld' Reg.SEC_ALARM_POL (2 * k) 2 = s.fld' Reg.SEC_ALARM_POL (2 * k) 2) := by
  obtain ⟨hsec, hmem, hregs⟩ := raisePolicies_parts v (List.range 6) s
  refine ⟨s.alarmPolicy v, congrArg Host.Outcome.next (hostReg_free hfree _), State.sameMemory_of_mem hmem, hregs, fun k hk => ?_⟩
  have hfld := alarmPolicy_fld v s hk
  have heff : (s.alarmPolicy v).alarmEff k = max (s.alarmFloor k) ((s.alarmPolicy v).fld' Reg.SEC_ALARM_POL (2 * k) 2) := by
    rw [State.alarmEff, alarmPolicy_eq, hsec]
    rfl
  refine ⟨?_, fun h => ?_, fun h => hfld.trans (if_pos h)⟩
  · rw [heff, hfld]
    split
    · exact Nat.le_refl _
    next h => exact Nat.not_lt.1 h
  · exact hfld.trans (if_neg (Nat.not_lt.2 (h.trans (Nat.le_max_right _ _))))

end

/-- Settles O43: the highest policy of the sources that trip acts, and no write lowers one. -/
theorem alarmsActByTheirPolicy : Obligations.AlarmsActByTheirPolicy :=
  ⟨fun m s hlow hpwr hbusy => ⟨fun h => by
      subst h
      rw [exec_alarmTrip 0 hpwr]
      rfl, fun p hm hp => alarmTrip_spec m hlow hpwr hbusy p hm hp⟩,
    fun _ => trngHealthFail_spec, fun v _ => alarmPolicyWrite_spec v⟩

end Sys2Proof.Machine
end

section
/-! PROOFS. Power transitions (R669 to R674): a counterexample. -/

namespace Sys2Proof.Machine

/-- A device whose transition to Standby ends while a restart of the device waits for the port of the cycle's published segments: tile 32
serves as ACTIVE, port 1 carries the segments, and its domains 71 and 93 are on. -/
def standbyInRestart : State :=
  { State.reset with
    regs := [(Reg.AON_PWR_STATE, 0x103), (Reg.AON_DOM 2, 0x20000080), (Reg.CSQ_CS_CFG, 0x100)]
    aon := { State.reset.aon with pwrTo := .standby }
    tca := { State.reset.tca with tiles := [(32, { st := .active })] }
    saf := { State.reset.saf with rsPhase := 1 } }


set_option maxRecDepth 20000 in
/-- The port that goes down lets the restart go on, and the accelerator-domain reset leaves tile 32 SPARE. -/
theorem standbyInRestart_tile : (standbyInRestart.pwrDone.tile 32).st = .spare := by decide

theorem exec_powerTransitionDone {s : State} (h : s.inTransition = true) : exec .powerTransitionDone s = .next s.pwrDone :=
  congrArg Host.Outcome.next (if_pos h)

/-- Refutes O44: a tile that was ACTIVE need not be OFF when a transition to Standby ends. The switch port that Standby takes down may be
the one
whose segments a restart of the device waits for (R588), and the restart's accelerator-domain reset leaves a tile as it is before an
image is applied: tile 32 is SPARE (R242). -/
theorem not_powerCommandsHaveTheirEffect : ¬ Obligations.PowerCommandsHaveTheirEffect := by
  rintro ⟨-, -, hdone⟩
  have htrans : standbyInRestart.inTransition = true := by decide
  obtain ⟨t, he, -, -, hstandby, -⟩ := hdone standbyInRestart htrans
  obtain ⟨-, -, -, -, htiles⟩ := hstandby rfl
  have ht : standbyInRestart.pwrDone = t := Host.Outcome.next.inj ((exec_powerTransitionDone htrans).symm.trans he)
  have hoff : (t.tile 32).st = .off := htiles 32 (by decide) (by decide)
  rw [← ht, standbyInRestart_tile] at hoff
  exact absurd hoff (by decide)

end Sys2Proof.Machine
end

section
/-! PROOFS. Crossing FIFOs (R547 to R550). -/

namespace Sys2Proof.Machine

/-! ### Crossing FIFOs (R547 to R550) -/

section
variable (s : State)

theorem fifo_congr {s t : State} (h : t.saf = s.saf) (k : Nat) : t.fifo k = s.fifo k := by rw [State.fifo, State.fifo, h]

theorem put_full {f : XFifo} (h : f.full = true) (w : W64) : f.put w = { f with overflow := true } := if_pos h

theorem overrun_saf (p c n : Nat) : (s.overrun p c n).saf = s.saf := rfl

/-- An overrun of a camera port touches no FIFO. -/
theorem portOverrun_saf (p : Nat) : (s.portOverrun p).saf = s.saf := by
  unfold State.portOverrun
  refine List.foldlRecOn (motive := fun t : State => t.saf = s.saf) _ _ rfl fun t ht c _ => ?_
  refine List.foldlRecOn (motive := fun t : State => t.saf = s.saf) _ _ ht fun u hu f _ => ?_
  split
  · exact hu
  · exact (overrun_saf u p c f.slot).trans hu

theorem exec_fifoWrite (f : FifoId) (w : W64) (hon : s.powered (fifoDomain f) = true) :
    ∃ t, exec (.fifoWrite f w) s = .next t ∧
      ((s.fifo (FifoId.num f)).full = false → t = s.fifoPut (FifoId.num f) w) ∧ t.saf = (s.fifoPut (FifoId.num f) w).saf := by
  have hon' : ¬ (!s.powered (fifoDomain f)) = true := by simp [hon]
  have hexec : exec (.fifoWrite f w) s = .next (s.fifoWrite f w) := rfl
  refine ⟨_, hexec, ?_⟩
  unfold State.fifoWrite
  rw [if_neg hon']
  cases f with
  | sicCsi p =>
    dsimp only
    cases hfull : (s.fifo (FifoId.num (.sicCsi p))).full with
    | false => exact ⟨fun _ => rfl, rfl⟩
    | true => exact ⟨nofun, portOverrun_saf _ _⟩
  | _ => exact ⟨fun _ => rfl, rfl⟩

theorem tookWord_other {k : Nat} (h : k ≠ 31) (g : XFifo) : s.tookWord k g = s.setFifo k g := if_neg (by simpa using h)

theorem tookWord_clusters (g : XFifo) : ∃ saf sic, s.tookWord 31 g = { s with saf := saf, sic := sic } ∧
    (s.tookWord 31 g).fifo 31 = (fcuFill g s.sic.fcuOut).1 ∧ sic.fcuOut = (fcuFill g s.sic.fcuOut).2 := by
  have hpump : s.tookWord 31 g = (s.setFifo 31 g).fcuPump := rfl
  rw [hpump, State.fcuPump, fifo_setFifo]
  exact ⟨_, _, rfl, fifo_setFifo _ 31 _, rfl⟩

theorem fifoGet_word {s : State} {k : Nat} {w : W64} {g : XFifo} (h : (s.fifo k).get = (w, false, g)) (id : Nat) :
    s.fifoGet k id = (.ok w, s.tookWord k g) := by
  rw [State.fifoGet, h]

/-- Only the cluster FIFO has instance number 31. -/
theorem num_eq_clusters (f : FifoId) (h : f ≠ .mboxFcu) : FifoId.num f ≠ 31 := by
  cases f with
  | mboxFcu => exact absurd rfl h
  | sicCsi p => exact Nat.ne_of_lt (show 1 + p.val < 31 by omega)
  | sicEth q => exact Nat.ne_of_lt (show 13 + q.val < 31 by omega)
  | sicCan n => exact Nat.ne_of_lt (show 25 + n.val < 31 by omega)
  | sicImu n => exact Nat.ne_of_lt (show 29 + n.val < 31 by omega)
  | _ => decide

/-- A reader other than the host takes a word that is good. -/
theorem exec_fifoRead {s : State} {f : FifoId} {w : W64} {g : XFifo} (hf : f ≠ .publish) (hon : s.powered (fifoDomain f) = true)
    (hget : (s.fifo (FifoId.num f)).get = (w, false, g)) :
    exec (.fifoRead f) s = .next ((s.tookWord (FifoId.num f) g).emit (.bus (fifoReader f) DONE (leBytes 8 w.toNat))) := by
  have hexec : exec (.fifoRead f) s = .next (s.fifoRead f) := rfl
  have hon' : ¬ (!s.powered (fifoDomain f)) = true := by simp [hon]
  rw [hexec]
  unfold State.fifoRead
  cases f with
  | publish => exact absurd rfl hf
  | _ =>
    dsimp only
    rw [if_neg hon', fifoGet_word hget]

theorem exec_publishRead {s : State} (hopen : s.hostOpenN .read Reg.CSQ_PF_DATA 8 = true) :
    exec (.fifoRead .publish) s = .next (s.pfRead true) := by
  have hexec : exec (.fifoRead .publish) s = .next (s.hostAccessN .read Reg.CSQ_PF_DATA 8 (fun s => s.pfRead true)) := rfl
  rw [hexec, hostAccessN_open hopen]

end

/-- Settles O34: a FIFO's rule says what becomes of a word, and the effects beside it touch no FIFO. -/
theorem crossingFifosPassTheirWords : Obligations.CrossingFifosPassTheirWords := by
  refine ⟨fun f w s hon => ?_, fun f s hon => congrArg Host.Outcome.next (if_pos hon), fun f w g s hf hon hget => ?_, fun w g s hopen hget
      => ?_⟩
  · obtain ⟨t, he, hroom, hsaf⟩ := exec_fifoWrite s f w hon
    refine ⟨t, he, hroom, fun hfull => ?_⟩
    rw [fifo_congr hsaf, State.fifoPut, fifo_setFifo, put_full hfull]
  · refine ⟨_, exec_fifoRead hf hon hget, ?_⟩
    by_cases hk : f = .mboxFcu
    · subst hk
      obtain ⟨saf, sic, he, hfifo, hout⟩ := tookWord_clusters s g
      have he' : s.tookWord (FifoId.num .mboxFcu) g = { s with saf := saf, sic := sic } := he
      refine ⟨fun h => absurd rfl h, fun _ => ⟨hfifo, ?_⟩, ?_, ?_, ?_⟩
      · rw [he']
        exact hout
      · rw [he']
        rfl
      · rw [he']
        exact State.sameMemory_of_mem rfl
      · rw [he']
        exact State.sameRegsBut_of_regs _ rfl
    · rw [tookWord_other s (num_eq_clusters f hk)]
      exact ⟨fun _ => fifo_setFifo s _ g, fun h => absurd h hk, rfl, State.sameMemory_of_mem rfl, State.sameRegsBut_of_regs _ rfl⟩
  · rw [exec_publishRead hopen, State.pfRead, fifoGet_word hget]
    rfl

end Sys2Proof.Machine
end

section
/-! PROOFS. Start-up, clocks and heat (R667, R675, R677, R684, R732, R738). -/

namespace Sys2Proof.Machine

/-! ### Start-up, clocks and heat (R667, R675, R677, R684, R732, R738) -/

section
variable (s : State)

/-- The state whose link has trained at the speed and width of a draw. -/
def State.linkTrained (s : State) : State :=
  let t := (s.draw.2.setFld Reg.HIF_STATUS 1 3 (1 + s.draw.1 % 4)).setFld Reg.HIF_STATUS 4 4 (2 ^ (s.draw.1 / 4 % 4))
  { t with hif := { t.hif with linkUp := true } }

/-- The state that releases WAKE_N where it is low. -/
def State.wakeReleased (s : State) : State :=
  if s.aon.wakeLow then { s with aon := { s.aon with wakeLow := false } }.emit (.pin 3 true) else s

theorem execPcieLinkUp_eq : execPcieLinkUp s =
    .next (if s.powered 91 && !s.hif.perstLow && !s.aon.porLow then s.linkTrained.wakeReleased else s) := rfl

theorem exec_pcieLinkUp (hon : s.powered 91 = true) (hperst : s.hif.perstLow = false) (hpor : s.aon.porLow = false) :
    exec .pcieLinkUp s = .next s.linkTrained.wakeReleased := by
  have hgo : (s.powered 91 && !s.hif.perstLow && !s.aon.porLow) = true := by rw [hon, hperst, hpor]; rfl
  exact (execPcieLinkUp_eq s).trans (congrArg Host.Outcome.next (if_pos hgo))

theorem wakeReleased_only : ∃ aon out, s.wakeReleased = { s with aon := aon, out := out } ∧ aon.wakeLow = false := by
  unfold State.wakeReleased
  split
  · exact ⟨_, _, rfl, rfl⟩
  next h => exact ⟨_, _, rfl, Bool.eq_false_iff.2 h⟩

/-- The link that has trained shows one of the standard's speeds and widths. -/
theorem linkTrained_shows : s.linkTrained.fld' Reg.HIF_STATUS 1 3 ∈ [1, 2, 3, 4] ∧ s.linkTrained.fld' Reg.HIF_STATUS 4 4 ∈ [1, 2, 4, 8] :=
    by
  have hset (lo w : Nat) : s.linkTrained.fld' Reg.HIF_STATUS lo w =
      ((s.draw.2.setFld Reg.HIF_STATUS 1 3 (1 + s.draw.1 % 4)).setFld Reg.HIF_STATUS 4 4 (2 ^ (s.draw.1 / 4 % 4))).fld' Reg.HIF_STATUS lo w
          :=
    fld_congr rfl _ _ _
  have hspeed : s.linkTrained.fld' Reg.HIF_STATUS 1 3 = (1 + s.draw.1 % 4) % 2 ^ 3 := by
    rw [hset, fld_setFld_disjoint _ _ _ _ _ _ _ (by decide) (by decide), fld_setFld_same _ _ _ _ _ (by decide)]
  have hwidth : s.linkTrained.fld' Reg.HIF_STATUS 4 4 = 2 ^ (s.draw.1 / 4 % 4) % 2 ^ 4 := by
    rw [hset, fld_setFld_same _ _ _ _ _ (by decide)]
  have hcase : ∀ k < 4, (1 + k) % 2 ^ 3 ∈ [1, 2, 3, 4] ∧ 2 ^ k % 2 ^ 4 ∈ [1, 2, 4, 8] := by decide
  rw [hspeed, hwidth]
  exact ⟨(hcase _ (Nat.mod_lt _ (by decide))).1, (hcase _ (Nat.mod_lt _ (by decide))).2⟩

theorem linkTrained_regs : s.SameRegsBut s.linkTrained [Reg.HIF_STATUS] :=
  ((sameRegsBut_setReg _ _ (List.mem_singleton_self _)).trans (sameRegsBut_setReg _ _ (List.mem_singleton_self _))).congr rfl

theorem pcieLinkUp_spec (hon : s.powered 91 = true) (hperst : s.hif.perstLow = false) (hpor : s.aon.porLow = false) :
    ∃ t, exec .pcieLinkUp s = .next t ∧ t.hif.linkUp = true ∧ t.aon.wakeLow = false ∧ t.fld' Reg.HIF_STATUS 1 3 ∈ [1, 2, 3, 4] ∧
      t.fld' Reg.HIF_STATUS 4 4 ∈ [1, 2, 4, 8] ∧ s.SameMemory t ∧ s.SameRegsBut t [Reg.HIF_STATUS] := by
  obtain ⟨hspeed, hwidth⟩ := linkTrained_shows s
  obtain ⟨_, _, he, hwake⟩ := wakeReleased_only s.linkTrained
  refine ⟨_, exec_pcieLinkUp s hon hperst hpor, ?_⟩
  rw [he]
  exact ⟨rfl, hwake, hspeed, hwidth, State.sameMemory_of_mem rfl, (linkTrained_regs s).congr rfl⟩

/-! #### READY -/

/-- The state that start-up ends in. -/
def State.readied (s : State) : State :=
  (({ s with aon := { s.aon with booting := false } } : State).setBit Reg.HIF_STATUS 0 true).setReg Reg.AON_BOOT_TIME
    (BitVec.ofNat 32 ((s.now - s.aon.bootFrom) / msT))

theorem exec_deviceReady (hboot : s.aon.booting = true) (hon : s.powered 91 = true) (hpor : s.aon.porLow = false)
    (hready : s.sec.halt.isSome = true ∨ s.fld' Reg.MEM_FILL_ST 0 2 = 3) : exec .deviceReady s = .next s.readied :=
  congrArg Host.Outcome.next (if_pos (by
    rw [hboot, hon, hpor]
    rcases hready with h | h <;> simp [h]))

theorem deviceReady_spec (hboot : s.aon.booting = true) (hon : s.powered 91 = true) (hpor : s.aon.porLow = false)
    (hready : s.sec.halt.isSome = true ∨ s.fld' Reg.MEM_FILL_ST 0 2 = 3) :
    ∃ t, exec .deviceReady s = .next t ∧ t.bit Reg.HIF_STATUS 0 = true ∧ t.aon.booting = false ∧
      t.regN Reg.AON_BOOT_TIME = (s.now - s.aon.bootFrom) / msT % 2 ^ 32 ∧ s.SameMemory t ∧
      s.SameRegsBut t [Reg.HIF_STATUS, Reg.AON_BOOT_TIME] := by
  refine ⟨_, exec_deviceReady s hboot hon hpor hready, ?_, rfl, ?_, State.sameMemory_of_mem rfl, ?_⟩
  · exact (bit_of_reg (reg_setReg_ne _ _ (by decide)) 0).trans (bit_setBit_same _ _ _ _ (by decide))
  · rw [State.regN, State.readied, reg_setReg_same, BitVec.toNat_ofNat]
  · exact State.SameRegsBut.trans (t := ({ s with aon := { s.aon with booting := false } } : State).setBit Reg.HIF_STATUS 0 true)
      (sameRegsBut_setReg _ _ (List.mem_cons_self ..)) (sameRegsBut_setReg _ _ (List.mem_cons_of_mem _ (List.mem_singleton_self _)))

/-! #### Tile domains -/

/-- Nothing but device memory changes. -/
def State.OnlyMem (s t : State) : Prop := ∃ mem, t = { s with mem := mem }

/-- Loading a tile's image stores in device memory and does nothing else. -/
theorem reloadTile_only (k : Nat) : s.OnlyMem (s.reloadTile k) := by
  unfold State.reloadTile
  refine List.foldlRecOn (motive := s.OnlyMem) _ _ ⟨s.mem, rfl⟩ fun t ht x _ => ?_
  obtain ⟨_, rfl⟩ := ht
  exact ⟨_, rfl⟩

theorem exec_tileDomainReady {k : Fin 34} (hon : s.powered k.val = true) (hst : (s.tile k.val).st = .waking) (hswap : s.tca.swap = none)
    (hpll : s.bit Reg.AON_PLL_ST 0 = true) :
    exec (.tileDomainReady k) s = .next ((s.setTile k.val { s.tile k.val with st := .active }).reloadTile k.val) :=
  congrArg Host.Outcome.next (if_pos (by rw [hon, hst, hswap, hpll]; rfl))

theorem tileDomainReady_spec (k : Fin 34) (hon : s.powered k.val = true) (hst : (s.tile k.val).st = .waking) (hswap : s.tca.swap = none)
    (hpll : s.bit Reg.AON_PLL_ST 0 = true) : ∃ t, exec (.tileDomainReady k) s = .next t ∧ (t.tile k.val).st = .active ∧ s.SameRegsBut t [] ∧
      ∀ n, n ≠ k.val → t.tile n = s.tile n := by
  obtain ⟨mem, he⟩ := reloadTile_only (s.setTile k.val { s.tile k.val with st := .active }) k.val
  refine ⟨_, exec_tileDomainReady s hon hst hswap hpll, ?_⟩
  rw [he]
  exact ⟨congrArg Tile.st (tile_setTile s k.val _), State.sameRegsBut_of_regs _ rfl, fun n hn => tile_setTile_ne s _ hn⟩

/-! #### Temperature -/

theorem exec_thermalNear (v : BitVec 16) (hpor : s.aon.porLow = false) : exec (.thermalNear v) s =
    .next (if s.maxJunction - 20 ≤ v.toInt && dueAfter s.aon.thermalAt secT s.now then
      ({ s.setReg Reg.AON_TEMP (v.signExtend 32) with aon := { s.aon with thermalAt := some s.now } } : State).event 0x01 2 0x0101 0
        (leBytes 2 v.toNat)
    else s.setReg Reg.AON_TEMP (v.signExtend 32)) :=
  congrArg Host.Outcome.next (if_neg (Bool.eq_false_iff.1 hpor))

theorem thermalNear_spec (v : BitVec 16) (hpor : s.aon.porLow = false) :
    ∃ t, exec (.thermalNear v) s = .next t ∧ t.reg Reg.AON_TEMP = v.signExtend 32 ∧ s.SameMemory t ∧ s.SameRegsBut t [Reg.AON_TEMP] ∧
      t.hif.wire.length = s.hif.wire.length +
        (if s.maxJunction - 20 ≤ v.toInt ∧ dueAfter s.aon.thermalAt secT s.now = true then 1 else 0) := by
  have hset : s.SameRegsBut (s.setReg Reg.AON_TEMP (v.signExtend 32)) [Reg.AON_TEMP] := sameRegsBut_setReg _ _ (List.mem_singleton_self _)
  refine ⟨_, exec_thermalNear s v hpor, ?_⟩
  by_cases hnear : s.maxJunction - 20 ≤ v.toInt ∧ dueAfter s.aon.thermalAt secT s.now = true
  · rw [if_pos hnear, if_pos (by simpa using hnear)]
    exact ⟨reg_setReg_same s _ _, State.sameMemory_of_mem rfl, hset.congr rfl, List.length_append⟩
  · rw [if_neg hnear, if_neg (by simpa using hnear)]
    exact ⟨reg_setReg_same s _ _, State.sameMemory_of_mem rfl, hset, rfl⟩

end

/-- Settles O47: each event of start-up shows in its register or state. -/
theorem startUpEventsAreRecorded : Obligations.StartUpEventsAreRecorded :=
  ⟨pcieLinkUp_spec, deviceReady_spec,
    fun _ _ => ⟨fun h => congrArg Host.Outcome.next (if_pos h), fun h => congrArg Host.Outcome.next (if_neg (Bool.eq_false_iff.1 h))⟩,
    fun k s => tileDomainReady_spec s k, fun _ h => congrArg Host.Outcome.next (if_neg (Bool.eq_false_iff.1 h)), fun v s =>
        thermalNear_spec s v⟩

end Sys2Proof.Machine
end

section
/-! PROOFS. Memory integrity: errors, laps, retirement and injection (R529, R531, R535 to R546, R554). -/

namespace Sys2Proof.Machine

/-! ### The report of an error (R531, R542, R543) -/

/-- An error is reported: neither the scrubber's place nor what is damaged changes, and the log's registers aside only a STEP doubt's
count. -/
structure State.Reports (s t : State) : Prop where
  pos : t.msys.pos = s.msys.pos
  damage : t.msys.damage = s.msys.damage
  regs : s.SameRegsBut t [Reg.MEM_LOG_HEAD, Reg.MEM_STATUS_W1C, Reg.SAF_DOUBT_CNT]
  lost : t.bit Reg.MEM_STATUS_W1C 0 = s.bit Reg.MEM_STATUS_W1C 0

section
variable {s t u : State}

theorem State.Reports.refl (s : State) : s.Reports s := ⟨rfl, rfl, fun _ _ => rfl, rfl⟩

theorem State.Reports.trans (h : s.Reports t) (h' : t.Reports u) : s.Reports u :=
  ⟨h'.pos.trans h.pos, h'.damage.trans h.damage, h.regs.trans h'.regs, h'.lost.trans h.lost⟩

theorem State.Reports.setBit (s : State) : s.Reports (s.setBit Reg.MEM_STATUS_W1C 1 true) :=
  ⟨rfl, rfl, sameRegsBut_setReg _ _ (by decide), bit_setBit_other _ _ _ (by decide) (by decide)⟩

theorem State.Reports.setHead (s : State) (lo w v : Nat) : s.Reports (s.setFld Reg.MEM_LOG_HEAD lo w v) :=
  ⟨rfl, rfl, sameRegsBut_setReg _ _ (by decide), bit_of_reg (reg_setReg_ne _ _ (by decide)) 0⟩

theorem State.Reports.log (s : State) (log : SMap (List Byte)) (made : Nat) :
    s.Reports { s with msys := { s.msys with log := log, made := made } } := ⟨rfl, rfl, fun _ _ => rfl, rfl⟩

theorem State.Reports.ite {p : Prop} [Decidable p] (ht : s.Reports t) (hu : s.Reports u) : s.Reports (if p then t else u) := by
  split <;> assumption

theorem reports_logError (s : State) (addr id kind nsym array bank dq : Nat) : s.Reports (s.logError addr id kind nsym array bank dq) := by
  unfold State.logError
  extract_lets head newest same e _ t u
  have ht : s.Reports t := .log s _ _
  have hu : s.Reports u := .ite (ht.trans (.setBit t)) ht
  split
  · cases newest <;> exact ⟨rfl, rfl, fun _ _ => rfl, rfl⟩
  · exact (hu.trans (.setHead _ _ _ _)).trans (.setHead _ _ _ _)

theorem reports_raiseStepDoubt (s : State) : s.Reports s.raiseStepDoubt :=
  ⟨rfl, rfl, (sameRegsBut_setReg { s with saf := { s.saf with stepDoubt := true } } _ (by decide)).trans fun _ _ => rfl,
    bit_of_reg (reg_setReg_ne { s with saf := { s.saf with stepDoubt := true } } _ (by decide)) 0⟩

theorem reports_event (s : State) (src sev code st : Nat) (data : List Byte) : s.Reports (s.event src sev code st data) :=
  ⟨rfl, rfl, fun _ _ => rfl, rfl⟩

/-! ### Corrected and uncorrectable errors -/

theorem damageAt_congr (h : t.msys.damage = s.msys.damage) (a n : Nat) : t.damageAt a n = s.damageAt a n := by
  rw [State.damageAt, State.damageAt, h]

/-- A location that has been rewritten is not damaged. -/
theorem damageAt_heal (s : State) (a n : Nat) : (s.heal a n).damageAt a n = 0 := by
  have hnone : (s.heal a n).msys.damage.find? (fun d => d.array == a && d.loc == n) = none := by
    refine List.find?_eq_none.2 fun d hd => ?_
    have hkept : (!(d.array == a && d.loc == n)) = true := (List.mem_filter.1 hd).2
    exact fun h => absurd (h ▸ hkept) (by decide)
  rw [State.damageAt, hnone]

/-- The register that counts the corrected errors of an array. -/
abbrev ceReg (a : Nat) : Nat := if a = 39 then Reg.MEM_CE_DRAM else Reg.MEM_CE_SRAM

/-- A corrected error has been counted and its location rewritten. -/
def State.countCe (s : State) (a n : Nat) : State :=
  let t := (s.heal a n).countSat (if (a == 39) = true then Reg.MEM_CE_DRAM else Reg.MEM_CE_SRAM) 0 32 1
  { t with msys := { t.msys with ce60 := t.msys.ce60 + 1, ce1 := t.msys.ce1 + 1 } }

theorem corrected_reports (s : State) (id a n kind : Nat) : (s.countCe a n).Reports (s.corrected id a n kind) := by
  unfold State.corrected
  extract_lets n dram pins t _ u
  exact State.Reports.ite (reports_logError u _ _ _ _ _ _ _) (reports_logError u _ _ _ _ _ _ _)

theorem countCe_parts (s : State) (a n : Nat) : (s.countCe a n).msys.pos = s.msys.pos ∧ (s.countCe a n).damageAt a n = 0 ∧
    (s.countCe a n).regN (ceReg a) = satAdd 32 (s.regN (ceReg a)) 1 ∧ s.SameRegsBut (s.countCe a n) [ceReg a] := by
  have hreg : (if (a == 39) = true then Reg.MEM_CE_DRAM else Reg.MEM_CE_SRAM) = ceReg a := if_congr (by simp) rfl rfl
  have hcount := regN_countSat (s.heal a n) (ceReg a) 1
  unfold State.countCe
  rw [hreg]
  exact ⟨rfl, (damageAt_congr (s := s.heal a n) rfl a n).trans (damageAt_heal s a n), hcount,
    (sameRegsBut_setReg (s.heal a n) _ (List.mem_singleton_self _)).trans fun _ _ => rfl⟩

/-- An uncorrectable error has been counted and shows in MEM_STATUS_W1C. -/
def State.countUe (s : State) (a : Nat) : State :=
  let t := s.countSat (if (a == 39) = true then Reg.MEM_UE_DRAM else Reg.MEM_UE_SRAM) 0 32 1
  { t.setBit Reg.MEM_STATUS_W1C 0 true with msys := { t.msys with ueAt := some t.now } }

theorem uncorrectable_reports (s : State) (id a n kind : Nat) : (s.countUe a).Reports (s.uncorrectable id a n kind) := by
  unfold State.uncorrectable
  extract_lets dram inj t _ _ u addr kind v w
  have hw : u.Reports w := (reports_logError u _ _ _ _ _ _ _).trans (reports_event v _ _ _ _ _)
  exact .ite (hw.trans (reports_raiseStepDoubt w)) hw

/-! ### What a scrubber read finds (R529, R531) -/

/-- An injected error is counted besides. -/
def State.countInjected (s : State) (a n : Nat) : State := if s.isInjected a n then s.countSat Reg.MEM_INJ_CNT 0 32 1 else s

theorem countInjected_parts (s : State) (a n : Nat) : (s.countInjected a n).msys = s.msys ∧ s.SameRegsBut (s.countInjected a n)
    [Reg.MEM_INJ_CNT] := by
  unfold State.countInjected
  split
  · exact ⟨rfl, sameRegsBut_setReg _ _ (List.mem_singleton_self _)⟩
  · exact ⟨rfl, fun _ _ => rfl⟩

theorem scrubFinds_corrected {id a n d : Nat} (hd : d ≠ 0) (hc : correctable a d = true) :
    s.scrubFinds id a n d = (s.countInjected a n).corrected id a n 4 := (if_neg hd).trans (if_pos hc)

theorem scrubFinds_lost {id a n d : Nat} (hd : d ≠ 0) (hc : correctable a d = false) :
    s.scrubFinds id a n d = (s.countInjected a n).uncorrectable id a n 4 := (if_neg hd).trans (if_neg (Bool.eq_false_iff.1 hc))

/-- What can be corrected is counted and rewritten. -/
theorem scrubFinds_heals {id a n d : Nat} (hd : d ≠ 0) (hc : correctable a d = true) :
    (s.scrubFinds id a n d).damageAt a n = 0 ∧ (s.scrubFinds id a n d).regN (ceReg a) = satAdd 32 (s.regN (ceReg a)) 1 := by
  obtain ⟨-, hinj⟩ := countInjected_parts s a n
  obtain ⟨-, hheal, hcount, -⟩ := countCe_parts (s.countInjected a n) a n
  have hrep := corrected_reports (s.countInjected a n) id a n 4
  have hce : ceReg a = Reg.MEM_CE_DRAM ∨ ceReg a = Reg.MEM_CE_SRAM := by
    unfold ceReg
    split
    · exact .inl rfl
    · exact .inr rfl
  have hfree : ceReg a ∉ [Reg.MEM_LOG_HEAD, Reg.MEM_STATUS_W1C, Reg.SAF_DOUBT_CNT] ∧ ceReg a ∉ [Reg.MEM_INJ_CNT] := by
    rcases hce with h | h <;> rw [h] <;> decide
  rw [scrubFinds_corrected hd hc]
  exact ⟨(damageAt_congr hrep.damage a n).trans hheal, by rw [hrep.regs.regN hfree.1, hcount, hinj.regN hfree.2]⟩

/-- The scrubber's place and its laps are not the errors' affair. -/
theorem scrubFinds_place (s : State) (id a n d : Nat) : (s.scrubFinds id a n d).msys.pos = s.msys.pos ∧
    (s.scrubFinds id a n d).regN Reg.MEM_SKIM_CNT = s.regN Reg.MEM_SKIM_CNT := by
  obtain ⟨hmsys, hinj⟩ := countInjected_parts s a n
  have hpos : (s.countInjected a n).msys.pos = s.msys.pos := congrArg _ hmsys
  by_cases hd : d = 0
  · have he : s.scrubFinds id a n d = s := if_pos hd
    rw [he]
    exact ⟨rfl, rfl⟩
  · cases hc : correctable a d with
    | true =>
      obtain ⟨hcpos, -, -, hcregs⟩ := countCe_parts (s.countInjected a n) a n
      have hrep := corrected_reports (s.countInjected a n) id a n 4
      have hne : Reg.MEM_SKIM_CNT ∉ [ceReg a] := by
        unfold ceReg
        split <;> decide
      rw [scrubFinds_corrected hd hc]
      exact ⟨(hrep.pos.trans hcpos).trans hpos, by rw [hrep.regs.regN (by decide), hcregs.regN hne, hinj.regN (by decide)]⟩
    | false =>
      have hrep := uncorrectable_reports (s.countInjected a n) id a n 4
      have hue : (s.countInjected a n).SameRegsBut ((s.countInjected a n).countUe a)
          [Reg.MEM_UE_DRAM, Reg.MEM_UE_SRAM, Reg.MEM_STATUS_W1C] := by
        unfold State.countUe
        refine (State.SameRegsBut.trans ?_ (sameRegsBut_setReg _ _ (by decide))).congr rfl
        split
        · exact sameRegsBut_setReg _ _ (by decide)
        · exact sameRegsBut_setReg _ _ (by decide)
      rw [scrubFinds_lost hd hc]
      exact ⟨hrep.pos.trans hpos, by rw [hrep.regs.regN (by decide), hue.regN (by decide), hinj.regN (by decide)]⟩

/-! ### Laps (R538, R540) -/

theorem lapTarget_parts (s : State) (v code sev : Nat) : (s.lapTarget v code sev).msys = s.msys ∧ (s.lapTarget v code sev).tbu = s.tbu ∧
    s.SameRegsBut (s.lapTarget v code sev) [Reg.MEM_SCRUB_TARGET] ∧ (s.lapTarget v code sev).regN Reg.MEM_SCRUB_TARGET = v % 2 ^ 32 := by
  unfold State.lapTarget
  split
  next h =>
    rw [beq_iff_eq.1 h]
    exact ⟨rfl, rfl, fun _ _ => rfl, (Nat.mod_eq_of_lt (s.reg Reg.MEM_SCRUB_TARGET).isLt).symm⟩
  · refine ⟨rfl, rfl, (sameRegsBut_setReg _ _ (List.mem_singleton_self _)).congr rfl, ?_⟩
    exact (congrArg BitVec.toNat (reg_setReg_same s Reg.MEM_SCRUB_TARGET (BitVec.ofNat 32 v))).trans (BitVec.toNat_ofNat ..)

theorem lapUnit_inLap (h : s.msys.pos + 1 < lapUnits) : s.lapUnit = { s with msys := { s.msys with pos := s.msys.pos + 1 } } := if_pos h

/-- The registers of the scrubber's laps. -/
def lapRegs : List Nat := [Reg.MEM_SKIM_LAST, Reg.MEM_SKIM_CNT, Reg.MEM_SCRUB_TARGET]

/-- The state in which a lap is complete. -/
def State.lapDone (s : State) : State :=
  let t := (s.setReg Reg.MEM_SKIM_LAST (BitVec.ofNat 32 ((s.now - s.msys.lapFrom) / secT))).countWrap Reg.MEM_SKIM_CNT 0 32 1
  { t with msys := { t.msys with pos := 0, lapFrom := t.now, exceeded := false } }

theorem lapDone_parts (s : State) : s.lapDone.msys.pos = 0 ∧ s.lapDone.msys.damage = s.msys.damage ∧
    s.lapDone.regN Reg.MEM_SKIM_CNT = (s.regN Reg.MEM_SKIM_CNT + 1) % 2 ^ 32 ∧ s.SameRegsBut s.lapDone lapRegs := by
  let last := s.setReg Reg.MEM_SKIM_LAST (BitVec.ofNat 32 ((s.now - s.msys.lapFrom) / secT))
  have hlast : s.SameRegsBut last [Reg.MEM_SKIM_LAST] := sameRegsBut_setReg _ _ (List.mem_singleton_self _)
  have hcnt : s.lapDone.regN Reg.MEM_SKIM_CNT = (last.regN Reg.MEM_SKIM_CNT + 1) % 2 ^ 32 := regN_countWrap last Reg.MEM_SKIM_CNT 1
  refine ⟨rfl, rfl, by rw [hcnt, hlast.regN (by decide)], ?_⟩
  exact State.SameRegsBut.congr (t := last.countWrap Reg.MEM_SKIM_CNT 0 32 1)
    ((hlast.mono (by decide)).trans (sameRegsBut_setReg _ _ (by decide))) rfl

theorem lapUnit_complete (h : lapUnits ≤ s.msys.pos + 1) : s.lapUnit.msys.pos = 0 ∧ s.lapUnit.msys.damage = s.msys.damage ∧
    s.lapUnit.regN Reg.MEM_SKIM_CNT = (s.regN Reg.MEM_SKIM_CNT + 1) % 2 ^ 32 ∧ s.SameRegsBut s.lapUnit lapRegs := by
  obtain ⟨hpos, hdamage, hcnt, hregs⟩ := lapDone_parts s
  have hcase : s.lapUnit = s.lapDone ∨ ∃ v, s.lapUnit = s.lapDone.lapTarget v 0x0D04 0 := by
    unfold State.lapUnit
    rw [if_neg (Nat.not_lt.2 h)]
    dsimp only
    split
    · exact .inr ⟨_, rfl⟩
    · exact .inl rfl
  rcases hcase with he | ⟨v, he⟩
  · rw [he]
    exact ⟨hpos, hdamage, hcnt, hregs⟩
  · obtain ⟨hmsys, -, htarget, -⟩ := lapTarget_parts s.lapDone v 0x0D04 0
    rw [he]
    exact ⟨(congrArg _ hmsys).trans hpos, (congrArg MemSys.damage hmsys).trans hdamage, (htarget.regN (by decide)).trans hcnt,
      hregs.trans (htarget.mono (by decide))⟩

/-- Neither damage nor the counts of errors change with a lap. -/
theorem lapUnit_keeps (s : State) : s.lapUnit.msys.damage = s.msys.damage ∧ s.SameRegsBut s.lapUnit lapRegs := by
  by_cases h : s.msys.pos + 1 < lapUnits
  · rw [lapUnit_inLap h]
    exact ⟨rfl, fun _ _ => rfl⟩
  · obtain ⟨-, hdamage, -, hregs⟩ := lapUnit_complete (Nat.not_lt.1 h)
    exact ⟨hdamage, hregs⟩

end

section
variable (s : State)

/-! ### Settling O33 -/

theorem exec_memFillDone (sram dram : Bool) (hon : s.memOn = true) : exec (.memFillDone sram dram) s =
    .next (let t := if sram && !s.bit Reg.MEM_FILL_ST 0 then s.sramFilled else s
           if dram && t.sec.refill && t.msys.keyed then t.dramFilled else t) :=
  congrArg Host.Outcome.next (if_neg (by simp [hon]))

theorem sramFilled_parts : s.sramFilled.bit Reg.MEM_FILL_ST 0 = true ∧ s.sramFilled.msys.keyed = true := by
  have hset : (s.setBit Reg.MEM_FILL_ST 0 true).bit Reg.MEM_FILL_ST 0 = true := bit_setBit_same _ _ _ _ (by decide)
  unfold State.sramFilled
  dsimp only
  split
  next h => exact ⟨(bit_setBit_other _ _ _ (by decide) (by decide)).trans hset, (Bool.and_eq_true_iff.1 h).1⟩
  · exact ⟨(bit_of_reg (t := (s.setBit Reg.MEM_FILL_ST 0 true).newDramKey) (reg_congr rfl _) 0).trans hset, rfl⟩

theorem memFillDone_sram (hon : s.memOn = true) (hfree : s.bit Reg.MEM_FILL_ST 0 = false) :
    ∃ t, exec (.memFillDone true false) s = .next t ∧ t.bit Reg.MEM_FILL_ST 0 = true ∧ t.msys.keyed = true := by
  refine ⟨_, exec_memFillDone s true false hon, ?_⟩
  rw [hfree]
  exact sramFilled_parts s

theorem memFillDone_dram (hon : s.memOn = true) (hrefill : s.sec.refill = true) (hkeyed : s.msys.keyed = true) :
    ∃ t, exec (.memFillDone false true) s = .next t ∧ t.bit Reg.MEM_FILL_ST 1 = true ∧ t.sec.refill = false := by
  have hgo : (if true && s.sec.refill && s.msys.keyed then s.dramFilled else s) = s.dramFilled := if_pos (by rw [hrefill, hkeyed]; rfl)
  refine ⟨_, (exec_memFillDone s false true hon).trans (congrArg Host.Outcome.next hgo), ?_, rfl⟩
  exact (congrArg (· == 1) (fld_setFld_disjoint _ _ _ _ _ _ _ (by decide) (by decide))).trans (bit_setBit_same _ _ _ _ (by decide))

theorem exec_scrubRead {l : MemLoc} {a n : Nat} (hon : s.memOn = true) (hctrl : s.bit Reg.MEM_CTRL 0 = true) (hloc : s.scrubs l = some (a,
    n)) :
    exec (.scrubRead l) s = .next (s.scrubFinds idScrub a n (s.damageAt a n)).lapUnit := by
  have hexec : exec (.scrubRead l) s = .next (s.scrub l) := rfl
  rw [hexec, State.scrub, if_neg (by simp [hon, hctrl]), hloc]

theorem scrubRead_spec {l : MemLoc} {a n : Nat} (hon : s.memOn = true) (hctrl : s.bit Reg.MEM_CTRL 0 = true) (hloc : s.scrubs l = some (a,
    n)) :
    ∃ t, exec (.scrubRead l) s = .next t ∧ (s.msys.pos + 1 < lapUnits → t.msys.pos = s.msys.pos + 1) ∧
      (lapUnits ≤ s.msys.pos + 1 → t.msys.pos = 0 ∧ t.regN Reg.MEM_SKIM_CNT = (s.regN Reg.MEM_SKIM_CNT + 1) % 2 ^ 32) ∧
      (s.damageAt a n ≠ 0 → correctable a (s.damageAt a n) = true → t.damageAt a n = 0 ∧
        t.regN (ceReg a) = satAdd 32 (s.regN (ceReg a)) 1) := by
  obtain ⟨hpos, hcnt⟩ := scrubFinds_place s idScrub a n (s.damageAt a n)
  refine ⟨_, exec_scrubRead s hon hctrl hloc, fun h => ?_, fun h => ?_, fun hd hc => ?_⟩
  · rw [← hpos] at h ⊢
    rw [lapUnit_inLap h]
  · rw [← hpos] at h
    obtain ⟨hzero, -, hlap, -⟩ := lapUnit_complete h
    exact ⟨hzero, by rw [hlap, hcnt]⟩
  · obtain ⟨hheal, hcount⟩ := scrubFinds_heals (s := s) (id := idScrub) hd hc
    obtain ⟨hdamage, hregs⟩ := lapUnit_keeps (s.scrubFinds idScrub a n (s.damageAt a n))
    have hne : ceReg a ∉ lapRegs := by
      unfold ceReg
      split <;> decide
    exact ⟨(damageAt_congr hdamage a n).trans hheal, (hregs.regN hne).trans hcount⟩

theorem exec_islandScrubRead {o n : Nat} (hon : s.islandOn = true) (ho : o < 0x200000) :
    exec (.islandScrubRead o n) s = .next (s.scrubFinds idIslA 38 o n) := by
  have hexec : exec (.islandScrubRead o n) s = .next (s.islandScrub o n) := rfl
  rw [hexec, State.islandScrub, if_neg (by simp [hon, ho])]

/-- An error that cannot be corrected is counted and shows. -/
theorem scrubFinds_ue {id o n : Nat} (hn : 2 ≤ n) : (s.scrubFinds id 38 o n).regN Reg.MEM_UE_SRAM = satAdd 32 (s.regN Reg.MEM_UE_SRAM) 1 ∧
    (s.scrubFinds id 38 o n).bit Reg.MEM_STATUS_W1C 0 = true := by
  obtain ⟨-, hinj⟩ := countInjected_parts s 38 o
  have hlost : correctable 38 n = false := decide_eq_false (by omega)
  have hrep := uncorrectable_reports (s.countInjected 38 o) id 38 o 4
  let c := (s.countInjected 38 o).countSat Reg.MEM_UE_SRAM 0 32 1
  have hcount : ((s.countInjected 38 o).countUe 38).reg Reg.MEM_UE_SRAM = c.reg Reg.MEM_UE_SRAM :=
    (reg_congr (t := c.setBit Reg.MEM_STATUS_W1C 0 true) rfl _).trans (reg_setBit_ne c _ _ (by decide))
  have hbit : ((s.countInjected 38 o).countUe 38).bit Reg.MEM_STATUS_W1C 0 = true :=
    (bit_of_reg (reg_congr (t := c.setBit Reg.MEM_STATUS_W1C 0 true) rfl _) 0).trans (bit_setBit_same c _ _ _ (by decide))
  rw [scrubFinds_lost (by omega) hlost]
  refine ⟨?_, hrep.lost.trans hbit⟩
  rw [hrep.regs.regN (by decide), State.regN, hcount]
  exact (regN_countSat (s.countInjected 38 o) Reg.MEM_UE_SRAM 1).trans (by rw [hinj.regN (by decide)])

theorem islandScrubRead_spec {o n : Nat} (hon : s.islandOn = true) (ho : o < 0x200000) :
    (n = 0 → exec (.islandScrubRead o n) s = .next s) ∧
    (n = 1 → ∃ t, exec (.islandScrubRead o n) s = .next t ∧ t.regN Reg.MEM_CE_SRAM = satAdd 32 (s.regN Reg.MEM_CE_SRAM) 1) ∧
    (2 ≤ n → ∃ t, exec (.islandScrubRead o n) s = .next t ∧ t.regN Reg.MEM_UE_SRAM = satAdd 32 (s.regN Reg.MEM_UE_SRAM) 1 ∧
      t.bit Reg.MEM_STATUS_W1C 0 = true) := by
  rw [exec_islandScrubRead s hon ho]
  refine ⟨fun h => congrArg Host.Outcome.next (if_pos h), fun h => ⟨_, rfl, ?_⟩, fun h => ⟨_, rfl, scrubFinds_ue s h⟩⟩
  subst h
  exact (scrubFinds_heals (s := s) (id := idIslA) (a := 38) (n := o) (d := 1) (by decide) (by decide)).2

/-! #### The periods of R540 and R543 -/

/-- The state in which a period of R540 has ended. -/
def State.period60 (s : State) : State :=
  let t := s.reach (s.msys.at60 + 60 * secT)
  { t with msys := { t.msys with ce60 := 0, at60 := t.now } }

/-- The state in which a second of R543 has ended. -/
def State.period1 (s : State) : State :=
  let t := s.reach (s.msys.at1 + secT)
  { t with msys := { t.msys with ce1 := 0, at1 := t.now } }

/-- The state that has taken more corrected errors than the threshold in a period. -/
def State.overThreshold (s : State) : State := { s with msys := { s.msys with exceeded := true } }

theorem exec_scrubAdaptPeriod (hon : s.memOn = true) : exec .scrubAdaptPeriod s =
    .next (if s.bit Reg.MEM_CTRL 1 && decide (s.fld' Reg.MEM_SCRUB_ADAPT 0 16 < s.msys.ce60) then
      s.period60.overThreshold.lapTarget (max 10 (s.regN Reg.MEM_SCRUB_TARGET / 4)) 0x0D03 1 else s.period60) :=
  congrArg Host.Outcome.next (if_neg (by simp [hon]))

theorem scrubAdaptPeriod_spec (hon : s.memOn = true) :
    ∃ t, exec .scrubAdaptPeriod s = .next t ∧ t.msys.ce60 = 0 ∧ t.now = max s.now (s.msys.at60 + 60 * secT) ∧ t.msys.at60 = t.now ∧
      t.regN Reg.MEM_SCRUB_TARGET =
        (if s.bit Reg.MEM_CTRL 1 && decide (s.fld' Reg.MEM_SCRUB_ADAPT 0 16 < s.msys.ce60) then max 10 (s.regN Reg.MEM_SCRUB_TARGET / 4)
         else s.regN Reg.MEM_SCRUB_TARGET) ∧ s.SameRegsBut t [Reg.MEM_SCRUB_TARGET] := by
  refine ⟨_, exec_scrubAdaptPeriod s hon, ?_⟩
  split
  · obtain ⟨hmsys, htbu, hregs, htarget⟩ :=
      lapTarget_parts s.period60.overThreshold (max 10 (s.regN Reg.MEM_SCRUB_TARGET / 4)) 0x0D03 1
    have hsmall : max 10 (s.regN Reg.MEM_SCRUB_TARGET / 4) < 2 ^ 32 := by
      have hlt := (s.reg Reg.MEM_SCRUB_TARGET).isLt
      have heq : s.regN Reg.MEM_SCRUB_TARGET = (s.reg Reg.MEM_SCRUB_TARGET).toNat := rfl
      omega
    exact ⟨congrArg MemSys.ce60 hmsys, congrArg Tbu.now htbu, (congrArg MemSys.at60 hmsys).trans (congrArg Tbu.now htbu).symm,
      htarget.trans (Nat.mod_eq_of_lt hsmall), State.SameRegsBut.trans (t := s.period60.overThreshold) (fun _ _ => rfl) hregs⟩
  · exact ⟨rfl, rfl, rfl, rfl, fun _ _ => rfl⟩

theorem exec_ceRateReport (hon : s.memOn = true) : exec .ceRateReport s =
    .next (if s.msys.ce1 = 0 then s.period1 else s.period1.event 0x0D 0 0x0D01 0 (leBytes 4 s.msys.ce1)) :=
  congrArg Host.Outcome.next (if_neg (by simp [hon]))

theorem ceRateReport_spec (hon : s.memOn = true) :
    ∃ t, exec .ceRateReport s = .next t ∧ t.msys.ce1 = 0 ∧ t.now = max s.now (s.msys.at1 + secT) ∧ t.msys.at1 = t.now ∧
      t.hif.wire.length = s.hif.wire.length + (if s.msys.ce1 = 0 then 0 else 1) ∧ s.SameRegsBut t [] := by
  refine ⟨_, exec_ceRateReport s hon, ?_⟩
  split
  · exact ⟨rfl, rfl, rfl, rfl, fun _ _ => rfl⟩
  · exact ⟨rfl, rfl, rfl, List.length_append, fun _ _ => rfl⟩

/-! #### Retirement and injection -/

/-- The state whose list has taken an entry, the retired row swapped out. -/
def State.retireEntry (s : State) (e : Nat) : State :=
  let s := ({ s with msys := { s.msys with retired := s.msys.retired ++ [e] } } : State).countWrap Reg.MEM_RET_CNT 0 11 1
  let s := if bits e 62 2 == 2 then s.swapRow (bits e 40 8) (bits e 0 12) else s
  if bits e 62 2 == 1 && s.inUse (bits e 12 36 * 4096) then s.event 0x0D 2 0x0D05 0 [] else s

theorem exec_retireAdd (hopen : s.hostOpen .command Reg.MEM_RET_CMD = true) (hfree : s.bit Reg.MEM_RET_ST 16 = false)
    (hcode : s.retireCode (s.reg64 Reg.MEM_RET_STAGE_LO) = DONE) (hnew : s.msys.retired.contains (s.reg64 Reg.MEM_RET_STAGE_LO) = false) :
    exec .retireAdd s = .next ((s.retireEntry (s.reg64 Reg.MEM_RET_STAGE_LO)).status Reg.MEM_RET_ST DONE) := by
  have hgo : ¬ (s.retireCode (s.reg64 Reg.MEM_RET_STAGE_LO) != DONE || s.msys.retired.contains (s.reg64 Reg.MEM_RET_STAGE_LO)) = true := by
    rw [hcode, hnew]
    decide
  refine congrArg Host.Outcome.next ((hostCmd_open hopen _).trans ((if_neg (Bool.eq_false_iff.1 hfree)).trans ?_))
  exact if_neg hgo

theorem swapRow_parts (a row : Nat) : (s.swapRow a row).msys.retired = s.msys.retired ∧ (s.swapRow a row).regs = s.regs := by
  unfold State.swapRow
  dsimp only
  split
  · exact ⟨rfl, rfl⟩
  · exact ⟨rfl, rfl⟩

theorem retireEntry_parts (e : Nat) : (s.retireEntry e).msys.retired = s.msys.retired ++ [e] ∧
    (s.retireEntry e).fld' Reg.MEM_RET_CNT 0 11 = (s.fld' Reg.MEM_RET_CNT 0 11 + 1) % 2 ^ 11 := by
  let c := ({ s with msys := { s.msys with retired := s.msys.retired ++ [e] } } : State).countWrap Reg.MEM_RET_CNT 0 11 1
  have hcnt : c.fld' Reg.MEM_RET_CNT 0 11 = (s.fld' Reg.MEM_RET_CNT 0 11 + 1) % 2 ^ 11 := fld_setFld_same _ _ _ _ _ (by decide)
  have hswap : ∀ t : State, t.msys.retired = s.msys.retired ++ [e] ∧ t.regs = c.regs →
      (t.event 0x0D 2 0x0D05 0 []).msys.retired = s.msys.retired ++ [e] ∧ (t.event 0x0D 2 0x0D05 0 []).regs = c.regs := fun _ h => h
  obtain ⟨hret, hregs⟩ := swapRow_parts c (bits e 40 8) (bits e 0 12)
  have hparts : (s.retireEntry e).msys.retired = s.msys.retired ++ [e] ∧ (s.retireEntry e).regs = c.regs := by
    unfold State.retireEntry
    dsimp only
    split
    · split
      · exact hswap _ ⟨hret, hregs⟩
      · exact ⟨hret, hregs⟩
    · split
      · exact ⟨rfl, rfl⟩
      · exact ⟨rfl, rfl⟩
  exact ⟨hparts.1, (fld_congr hparts.2 _ _ _).trans hcnt⟩

theorem retireAdd_spec (hopen : s.hostOpen .command Reg.MEM_RET_CMD = true) (hfree : s.bit Reg.MEM_RET_ST 16 = false)
    (hcode : s.retireCode (s.reg64 Reg.MEM_RET_STAGE_LO) = DONE) (hnew : s.msys.retired.contains (s.reg64 Reg.MEM_RET_STAGE_LO) = false) :
    ∃ t, exec .retireAdd s = .next t ∧ t.msys.retired = s.msys.retired ++ [s.reg64 Reg.MEM_RET_STAGE_LO] ∧
      t.fld' Reg.MEM_RET_ST 0 8 = DONE ∧ t.fld' Reg.MEM_RET_CNT 0 11 = (s.fld' Reg.MEM_RET_CNT 0 11 + 1) % 2 ^ 11 := by
  obtain ⟨hret, hcnt⟩ := retireEntry_parts s (s.reg64 Reg.MEM_RET_STAGE_LO)
  exact ⟨_, exec_retireAdd s hopen hfree hcode hnew, hret, fld_status _ _ _ (by decide), (fld_setFld_ne _ _ _ _ _ _ (by decide)).trans hcnt⟩

/-- Where MEM_INJ_ADDR points. -/
def State.injAddr (s : State) : Nat := s.regN Reg.MEM_INJ_ADDR_LO + 2 ^ 32 * s.fld' Reg.MEM_INJ_ADDR_HI 0 16

theorem exec_memInject {w : W32} (hopen : s.hostOpen .write Reg.MEM_INJECT = true) (hfeat : s.feat 9 = true) (harm : w.getLsbD 8 = true)
    (hmem : (hurdleOf s.injAddr).isSome = true) (hn : 1 ≤ fieldOf w 1 3)
    (hfit : if w.getLsbD 0 then dramBase ≤ s.injAddr else fieldOf w 1 3 ≤ 2 ∧ s.injAddr < dramBase) :
    exec (.memInject w) s = .next { s with msys := { s.msys with inj := some (w.toNat, s.injAddr) } } := by
  have hfits : (if w.getLsbD 0 then 1 ≤ fieldOf w 1 3 && decide (dramBase ≤ s.injAddr)
      else 1 ≤ fieldOf w 1 3 && fieldOf w 1 3 ≤ 2 && decide (s.injAddr < dramBase)) = true := by
    split
    next h =>
      rw [if_pos h] at hfit
      rw [Bool.and_eq_true_iff]
      exact ⟨decide_eq_true hn, decide_eq_true hfit⟩
    next h =>
      rw [if_neg h] at hfit
      obtain ⟨hle, hlt⟩ := hfit
      rw [Bool.and_eq_true_iff, Bool.and_eq_true_iff]
      exact ⟨⟨decide_eq_true hn, decide_eq_true hle⟩, decide_eq_true hlt⟩
  refine congrArg Host.Outcome.next ((hostAccess_open hopen _).trans (if_pos ?_))
  rw [Bool.and_eq_true_iff, Bool.and_eq_true_iff, Bool.and_eq_true_iff]
  exact ⟨⟨⟨hfeat, harm⟩, hfits⟩, hmem⟩

end

/-- Settles O33: each command of memory integrity has its effect. -/
theorem memoryCommandsHaveTheirEffect : Obligations.MemoryCommandsHaveTheirEffect :=
  ⟨memFillDone_sram, memFillDone_dram, fun _ _ _ s hon hctrl hloc => scrubRead_spec s hon hctrl hloc,
    fun _ _ s hon ho => islandScrubRead_spec s hon ho, scrubAdaptPeriod_spec, ceRateReport_spec, retireAdd_spec,
    fun _ s hopen hfeat harm hmem hn hfit => exec_memInject s hopen hfeat harm hmem hn hfit⟩

end Sys2Proof.Machine
end

section
/-! PROOFS. The island: pairs, watchdogs, conditions, outputs and SAF_CMD (R556, R557, R563 to R567, R585, R587, R594). -/

namespace Sys2Proof.Machine

/-! ### The island pairs (R556, R557) -/

/-- The condition that shows a pair down. -/
def pairCond : PairId → Nat
  | .a => 11
  | .b => 14

section
variable (s : State)

/-- A condition set or cleared shows in SAF_COND. -/
theorem cond_setCond {b : Nat} (hb : b < 32) (v : Bool) : (s.setCond b v).bit Reg.SAF_COND b = v := by
  have hset : (s.setBit Reg.SAF_COND b v).bit Reg.SAF_COND b = v := bit_setBit_same _ _ _ _ hb
  unfold State.setCond
  dsimp only
  split
  · exact (bit_setBit_ne _ _ _ _ (by decide)).trans hset
  · exact hset

theorem cond_setCond_ne {b c : Nat} (hb : b < 32) (h : c ≠ b) (v : Bool) : (s.setCond b v).bit Reg.SAF_COND c = s.bit Reg.SAF_COND c := by
  have hset : (s.setBit Reg.SAF_COND b v).bit Reg.SAF_COND c = s.bit Reg.SAF_COND c := bit_setBit_other _ _ _ hb h
  unfold State.setCond
  dsimp only
  split
  · exact (bit_setBit_ne _ _ _ _ (by decide)).trans hset
  · exact hset

@[simp] theorem setCond_saf (b : Nat) (v : Bool) : (s.setCond b v).saf = s.saf := by
  unfold State.setCond
  dsimp only
  split <;> rfl

theorem setPair_pair (p : PairId) (x : IslPair) : (s.setPair p x).pair p = x := by
  cases p with
  | a =>
    have h : (s.setPair .a x).saf = { s.saf with pairA := x } := setCond_saf _ _ _
    exact congrArg Saf.pairA h
  | b =>
    have h : (s.setPair .b x).saf = { s.saf with pairB := x } := setCond_saf _ _ _
    exact congrArg Saf.pairB h

theorem setPair_cond (p : PairId) (x : IslPair) : (s.setPair p x).bit Reg.SAF_COND (pairCond p) = !x.up := by
  cases p with
  | a => exact cond_setCond _ (b := 11) (by decide) _
  | b => exact cond_setCond _ (b := 14) (by decide) _

/-- FLT_N changes no pair and no condition. -/
theorem setFlt_parts (low : Bool) : (s.setFlt low).saf = { s.saf with fltLow := low } ∧ s.SameRegsBut (s.setFlt low) [Reg.SAF_STATUS] := by
  refine ⟨?_, sameRegsBut_setFlt s low⟩
  unfold State.setFlt
  split
  next h => rw [← beq_iff_eq.1 h]
  · obtain ⟨_, _, he⟩ := msix_only (((({ s with saf := { s.saf with fltLow := low } } : State).setBit Reg.SAF_STATUS 3 low).emit (.pin 1
      (!low)))) 3
    rw [he]
    rfl

theorem pairDown_eq {p : PairId} (hup : (s.pair p).up = true) : ∃ x d, x.up = false ∧
    s.pairDown p = ((s.setPair p x).setFlt true).event 0x0E 3 0x0E07 0 d := by
  unfold State.pairDown
  rw [if_neg (by simp [hup])]
  exact ⟨_, _, rfl, rfl⟩

theorem pair_congr {t : State} (ha : t.saf.pairA = s.saf.pairA) (hb : t.saf.pairB = s.saf.pairB) (p : PairId) : t.pair p = s.pair p := by
  cases p with
  | a => exact ha
  | b => exact hb

/-- A pair that was up is down, its condition shows, and FLT_N is low. -/
theorem pairDown_spec {p : PairId} (hup : (s.pair p).up = true) :
    ((s.pairDown p).pair p).up = false ∧ (s.pairDown p).saf.fltLow = true ∧ (s.pairDown p).bit Reg.SAF_COND (pairCond p) = true := by
  obtain ⟨x, d, hx, he⟩ := pairDown_eq s hup
  obtain ⟨hsaf, hregs⟩ := setFlt_parts (s.setPair p x) true
  have hpair : ((s.setPair p x).setFlt true).pair p = x :=
    (pair_congr (s.setPair p x) (congrArg Saf.pairA hsaf :) (congrArg Saf.pairB hsaf :) p).trans (setPair_pair s p x)
  rw [he]
  refine ⟨(congrArg IslPair.up hpair).trans hx, congrArg Saf.fltLow hsaf, ?_⟩
  rw [bit_event, hregs.bit (by decide), setPair_cond, hx]
  rfl

theorem exec_lockstepMismatch (p : PairId) (hon : s.powered 88 = true) : exec (.lockstepMismatch p) s = .next (s.pairDown p) :=
  congrArg Host.Outcome.next (if_pos hon)

/-- A pair that has passed its restart is up, and its check begins. -/
theorem pairUp_spec (p : PairId) (hon : s.powered 88 = true) (hdown : (s.pair p).up = false) (hstuck : (s.pair p).stuck = false) :
    ((s.pairUp p).pair p).up = true ∧ (s.pairUp p).bit Reg.SAF_COND 7 = true ∧ (s.pairUp p).bit Reg.SAF_COND (pairCond p) = false := by
  let x : IslPair := { s.pair p with up := true, missed := 0, missStep := none }
  let f : State := { s.setPair p x with saf := { (s.setPair p x).saf with checkRun := 0 } }
  have he : s.pairUp p = (f.setCond 7 true).event 0x0E 3 0x0E07 0 [BitVec.ofNat 8 (PairId.num p), 1] := by
    unfold State.pairUp
    rw [if_neg (by simp [hon, hdown, hstuck])]
    rfl
  have hsaf : (f.setCond 7 true).saf = f.saf := setCond_saf f 7 true
  have hpair : (f.setCond 7 true).pair p = x :=
    (pair_congr (s.setPair p x) (congrArg Saf.pairA hsaf :) (congrArg Saf.pairB hsaf :) p).trans (setPair_pair s p x)
  have hne : pairCond p ≠ 7 := by cases p <;> decide
  rw [he]
  refine ⟨congrArg IslPair.up hpair, ?_, ?_⟩
  · rw [bit_event, cond_setCond _ (by decide)]
  · rw [bit_event, cond_setCond_ne _ (by decide) hne]
    exact (bit_of_reg (reg_congr rfl _) _).trans (setPair_cond s p x)

theorem exec_pairRestartDone (p : PairId) : exec (.pairRestartDone p) s = .next (s.pairUp p) := rfl

theorem exec_islandPairMiss (p : PairId) : exec (.islandPairMiss p) s = .next (s.pairMiss p) := rfl

/-- A step missed is counted; the second in a row takes the pair down. -/
theorem pairMiss_eq {p : PairId} (hon : s.powered 88 = true) (hup : (s.pair p).up = true) (hother : (s.pair (PairId.other p)).up = true)
    (hnew : (s.pair p).missStep ≠ some s.stepNo) (n : Nat)
    (hn : n = if (s.pair p).missStep == some (s.stepNo - 1) && 1 ≤ s.stepNo then (s.pair p).missed + 1 else 1) :
    s.pairMiss p = if 2 ≤ n then (s.setPair p { s.pair p with missed := n, missStep := some s.stepNo }).pairDown p
      else s.setPair p { s.pair p with missed := n, missStep := some s.stepNo } := by
  subst hn
  unfold State.pairMiss
  rw [if_neg (by simp [hon, hup, hother, hnew])]

theorem islandPairMiss_spec (p : PairId) (hon : s.powered 88 = true) (hup : (s.pair p).up = true)
    (hother : (s.pair (PairId.other p)).up = true) (hnew : (s.pair p).missStep ≠ some s.stepNo) :
    ∃ t, exec (.islandPairMiss p) s = .next t ∧
      (1 ≤ s.stepNo → (s.pair p).missStep = some (s.stepNo - 1) → 1 ≤ (s.pair p).missed → (t.pair p).up = false ∧ t.saf.fltLow = true) ∧
      ((s.pair p).missStep ≠ some (s.stepNo - 1) → (t.pair p).up = true ∧ (t.pair p).missed = 1 ∧ (t.pair p).missStep = some s.stepNo) := by
  refine ⟨_, exec_islandPairMiss s p, fun hstep hlast hmissed => ?_, fun hlast => ?_⟩
  · have hup' : ((s.setPair p { s.pair p with missed := (s.pair p).missed + 1, missStep := some s.stepNo }).pair p).up = true := by
      rw [setPair_pair]
      exact hup
    obtain ⟨hdown, hflt, -⟩ := pairDown_spec _ hup'
    rw [pairMiss_eq s hon hup hother hnew ((s.pair p).missed + 1) (by simp [hlast, hstep]), if_pos (by omega)]
    exact ⟨hdown, hflt⟩
  · rw [pairMiss_eq s hon hup hother hnew 1 (by simp [hlast]), if_neg (by decide), setPair_pair]
    exact ⟨hup, rfl, rfl⟩

/-! ### Outputs, watchdogs and conditions (R563, R566, R585, R587) -/

theorem exec_hbToggle (hon : s.islandOn = true) (hlevel : 1 ≤ s.level) : exec .hbToggle s =
    .next (({ s.reach (s.saf.hbAt + 500 * usT) with
      saf := { s.saf with hb := !s.saf.hb, hbAt := (s.reach (s.saf.hbAt + 500 * usT)).now } } : State).emit (.pin 2 (!s.saf.hb))) :=
  congrArg Host.Outcome.next (if_pos (by rw [hon]; exact decide_eq_true hlevel))

theorem exec_safeReqChange {v : Bool} (hon : s.powered 88 = true) (hv : s.saf.safeReq = v) : exec (.safeReqChange v) s =
    .next ((({ s with saf := { s.saf with safeReq := !v } } : State).setBit Reg.SAF_STATUS 8 (!v)).event 0x0E 1 0x0E0A 0 [if v then 1 else
        0]) :=
  congrArg Host.Outcome.next (if_neg (by rw [hon, hv]; cases v <;> decide))

theorem safeReqChange_spec (v : Bool) (hon : s.powered 88 = true) (hv : s.saf.safeReq = v) :
    ∃ t, exec (.safeReqChange v) s = .next t ∧ t.saf.safeReq = !v ∧ t.bit Reg.SAF_STATUS 8 = !v ∧ s.SameRegsBut t [Reg.SAF_STATUS] := by
  refine ⟨_, exec_safeReqChange s hon hv, rfl, ?_, ?_⟩
  · rw [bit_event]
    exact bit_setBit_same _ _ _ _ (by decide)
  · exact (sameRegsBut_setReg ({ s with saf := { s.saf with safeReq := !v } } : State) _ (List.mem_singleton_self _)).congr rfl

/-- The state in which a signal's fault is counted. -/
def State.faultCounted (s : State) (k : Nat) : State := (s.countSat (Reg.SAF_WD_CNT k) 0 16 1).raiseStepDoubt

theorem windowFault_eq {k kind : Nat} (hup : s.saf.pairA.up = true) (hkind : kind ≠ 0) : ∃ cur hif,
    s.windowFault k kind = { s.faultCounted k with csq := { s.csq with cur := cur }, hif := hif } ∧ cur.wd = s.csq.cur.wd := by
  have hlo : (if kind == 0 then 16 else 0) = 0 := if_neg (by simpa using hkind)
  unfold State.windowFault
  rw [if_neg (by simp [hup]), hlo]
  dsimp only
  split
  · exact ⟨_, _, rfl, rfl⟩
  · exact ⟨_, _, rfl, rfl⟩

/-- A signal that does not come is counted, and a STEP doubt. -/
theorem windowFault_spec {k kind : Nat} (hup : s.saf.pairA.up = true) (hkind : kind ≠ 0) :
    (s.windowFault k kind).saf.stepDoubt = true ∧ (s.windowFault k kind).csq.cur.wd = s.csq.cur.wd ∧
      (s.windowFault k kind).fld' (Reg.SAF_WD_CNT k) 0 16 = satAdd 16 (s.fld' (Reg.SAF_WD_CNT k) 0 16) 1 := by
  have hne : Reg.SAF_WD_CNT k ≠ Reg.SAF_DOUBT_CNT := by
    unfold Reg.SAF_WD_CNT Reg.SAF_DOUBT_CNT
    omega
  have hcount : (s.faultCounted k).fld' (Reg.SAF_WD_CNT k) 0 16 = satAdd 16 (s.fld' (Reg.SAF_WD_CNT k) 0 16) 1 :=
    (fld_setFld_ne _ _ _ _ _ _ hne).trans (fld_countSat s 1 (by decide))
  obtain ⟨cur, hif, he, hwd⟩ := windowFault_eq s hup hkind
  rw [he]
  exact ⟨rfl, hwd, (fld_congr (s := s.faultCounted k) rfl _ _ _).trans hcount⟩

/-- Whether a window's signal has come (R566). -/
def State.signalled (s : State) (k : Nat) : WdSignal → Bool
  | .openSig => s.csq.cur.opened.contains k
  | .closeSig => s.csq.cur.closed.contains k
  | .completion => s.csq.cur.completed.contains k

/-- The state in which a signal of a window is missed, at the time `tbu` of its watchdog. -/
def State.signalMissed (s : State) (tbu : Tbu) (n : Nat) : State :=
  { s with tbu := tbu, csq := { s.csq with cur := { s.csq.cur with wd := n :: s.csq.cur.wd } } }

theorem wdMissing_eq (k : Nat) (g : WdSignal) : ∃ tbu, s.wdMissing k g =
    if !s.csq.cur.active || !s.saf.pairA.up || s.signalled k g || s.csq.cur.wd.contains (3 * k + WdSignal.num g) then s
    else (s.signalMissed tbu (3 * k + WdSignal.num g)).windowFault k (2 + WdSignal.num g) := by
  cases g with
  | openSig => exact ⟨_, rfl⟩
  | closeSig => exact ⟨_, rfl⟩
  | completion => exact ⟨_, rfl⟩

theorem exec_windowWatchdogTimeout (k : Fin 5) (g : WdSignal) : exec (.windowWatchdogTimeout k g) s = .next (s.wdMissing k.val g) := rfl

theorem windowWatchdogTimeout_spec {k : Fin 5} {g : WdSignal} (hactive : s.csq.cur.active = true) (hup : s.saf.pairA.up = true)
    (hcome : s.signalled k.val g = false) (hnew : s.csq.cur.wd.contains (3 * k.val + WdSignal.num g) = false) :
    ∃ t, exec (.windowWatchdogTimeout k g) s = .next t ∧ t.saf.stepDoubt = true ∧
      t.csq.cur.wd.contains (3 * k.val + WdSignal.num g) = true ∧
      t.fld' (Reg.SAF_WD_CNT k.val) 0 16 = satAdd 16 (s.fld' (Reg.SAF_WD_CNT k.val) 0 16) 1 := by
  obtain ⟨tbu, he⟩ := wdMissing_eq s k.val g
  obtain ⟨hdoubt, hwd, hcount⟩ := windowFault_spec (s.signalMissed tbu (3 * k.val + WdSignal.num g)) (k := k.val) (kind := 2 + WdSignal.num
      g) hup
    (by omega)
  rw [hactive, hup, hcome, hnew] at he
  have hgo : s.wdMissing k.val g = (s.signalMissed tbu (3 * k.val + WdSignal.num g)).windowFault k.val (2 + WdSignal.num g) := he
  refine ⟨_, exec_windowWatchdogTimeout s k g, ?_⟩
  rw [hgo, hwd]
  refine ⟨hdoubt, ?_, hcount⟩
  unfold State.signalMissed
  exact List.contains_iff_mem.2 (List.mem_cons_self ..)

theorem exec_conditionHoldExpiry (c : Fin 16) : exec (.conditionHoldExpiry c) s = .next (s.holdExpiry c.val) := rfl

theorem conditionHoldExpiry_spec :
    (s.bit Reg.SAF_COND 0 = true → s.fld' Reg.SAF_HOLD 16 16 ≤ s.saf.startup →
      exec (.conditionHoldExpiry 0) s = .next (s.setBit Reg.SAF_COND 0 false)) ∧
    (s.bit Reg.SAF_COND 7 = true → s.fld' Reg.SAF_HOLD 0 16 ≤ s.saf.checkRun →
      exec (.conditionHoldExpiry 7) s = .next (s.setBit Reg.SAF_COND 7 false)) := by
  refine ⟨fun hset hrun => ?_, fun hset hrun => ?_⟩
  · rw [exec_conditionHoldExpiry, State.holdExpiry, if_pos (by rw [hset]; exact decide_eq_true hrun)]
    rfl
  · rw [exec_conditionHoldExpiry, State.holdExpiry, if_neg (by simp), if_pos (by rw [hset]; exact decide_eq_true hrun)]
    rfl

/-! ### SAF_CMD (R564, R594) -/

/-- A SAF_CMD that waits for the next verdict. -/
def State.safWaits (s : State) (op level : Nat) : State :=
  { s with saf := { s.saf with cmd := some (op, level) } }.setBit Reg.SAF_CMD_ST 16 true

theorem doSafCmd_waits {op level : Nat} (hfree : s.bit Reg.SAF_CMD_ST 16 = false)
    (hform : (!(op == 1 || op == 2 || op == 3) || (op == 1 && 3 < level)) = false) (hcond : (op == 3 && !s.bit Reg.SAF_COND 15) = false) :
    s.doSafCmd op level = s.safWaits op level := by
  rw [State.doSafCmd, State.unlessBusy, if_neg (Bool.eq_false_iff.1 hfree), if_neg (Bool.eq_false_iff.1 hform), if_neg (Bool.eq_false_iff.1
      hcond)]
  rfl

theorem doSafCmd_refused (hfree : s.bit Reg.SAF_CMD_ST 16 = false) (hcond : s.bit Reg.SAF_COND 15 = false) :
    s.doSafCmd 3 0 = s.status Reg.SAF_CMD_ST REFUSED_STATE := by
  rw [State.doSafCmd, State.unlessBusy, if_neg (Bool.eq_false_iff.1 hfree), if_neg (by decide), if_pos (by rw [hcond]; rfl)]

theorem safCmd_spec (hopen : s.hostOpen .command Reg.SAF_CMD = true) (hfree : s.bit Reg.SAF_CMD_ST 16 = false) :
    (∀ l : BitVec 3, l.toNat ≤ 3 →
      exec (.force l) s = .next ({ s with saf := { s.saf with cmd := some (1, l.toNat) } }.setBit Reg.SAF_CMD_ST 16 true)) ∧
    exec .release s = .next ({ s with saf := { s.saf with cmd := some (2, 0) } }.setBit Reg.SAF_CMD_ST 16 true) ∧
    (s.bit Reg.SAF_COND 15 = true →
      exec .restart s = .next ({ s with saf := { s.saf with cmd := some (3, 0) } }.setBit Reg.SAF_CMD_ST 16 true)) ∧
    (s.bit Reg.SAF_COND 15 = false → exec .restart s = .next (s.status Reg.SAF_CMD_ST REFUSED_STATE)) := by
  have hcmd (op level : Nat) : s.hostCmd Reg.SAF_CMD (fun s => s.doSafCmd op level) = s.doSafCmd op level := hostCmd_open hopen _
  refine ⟨fun l hl => ?_, ?_, fun h => ?_, fun h => ?_⟩
  · exact congrArg Host.Outcome.next ((hcmd 1 l.toNat).trans (doSafCmd_waits s hfree (by simp; omega) rfl))
  · exact congrArg Host.Outcome.next ((hcmd 2 0).trans (doSafCmd_waits s hfree rfl rfl))
  · exact congrArg Host.Outcome.next ((hcmd 3 0).trans (doSafCmd_waits s hfree rfl (by rw [h]; rfl)))
  · exact congrArg Host.Outcome.next ((hcmd 3 0).trans (doSafCmd_refused s hfree h))

end

/-- Settles O35: pairs, outputs, watchdogs, conditions and SAF commands have their effect. -/
theorem safetyCommandsHaveTheirEffect : Obligations.SafetyCommandsHaveTheirEffect := by
  refine ⟨fun p s hon hup => ?_, fun p s hon hdown hstuck => ?_, fun p s => islandPairMiss_spec s p,
    fun s hon hlevel => ⟨_, exec_hbToggle s hon hlevel, rfl, rfl, rfl, fun _ _ => rfl⟩, fun v s => safeReqChange_spec s v,
    fun k g s hactive hup hcome hnew => ?_, conditionHoldExpiry_spec, safCmd_spec⟩
  · obtain ⟨hdown, hflt, hcond⟩ := pairDown_spec s hup
    exact ⟨_, exec_lockstepMismatch s p hon, hdown, hflt, by cases p <;> exact hcond⟩
  · obtain ⟨hup, hcheck, hcond⟩ := pairUp_spec s p hon hdown hstuck
    exact ⟨_, exec_pairRestartDone s p, hup, hcheck, by cases p <;> exact hcond⟩
  · exact windowWatchdogTimeout_spec s hactive hup (by cases g <;> exact hcome) hnew

end Sys2Proof.Machine
end

section
/-! PROOFS. The fallback tracker (R563, R579 to R582). -/

namespace Sys2Proof.Machine

/-! ### The fallback's tracks (R580 to R582) -/

section
variable (s : State)

/-- The tracks that are set are the fallback's, and only their count shows. -/
theorem setFb_fb (m : SMap FbTrk) : (s.setFb m).saf.fb = m := rfl

/-- A measurement of an associated track updates it, or is dropped for it. -/
theorem fbApply_cases (k : Nat) (t : FbTrk) (m : FbMeas) :
    s.fbApply k t m = s.fbDrop ∨ ∃ x, x.last = m.time ∧ s.fbApply k t m = s.setFb (SMap.insert s.saf.fb k x) := by
  unfold State.fbApply
  split
  · exact .inl rfl
  · exact .inr ⟨_, rfl, rfl⟩

/-- A measurement without a track starts one, or is dropped. -/
theorem fbStart_fb (k : Nat) (m : FbMeas) : ∃ x, x.st = 1 ∧ x.born = m.time ∧ x.last = m.time ∧ SMap.find? (s.fbStart k m).saf.fb k = some
    x :=
  ⟨_, rfl, rfl, rfl, SMap.find?_insert_same _ _ _⟩

theorem fbBirth_cases (m : FbMeas) (d : Int) : s.fbBirth m d = s.fbDrop ∨ ∃ k, s.fbBirth m d = s.fbStart k m := by
  unfold State.fbBirth
  split
  · exact .inr ⟨_, rfl⟩
  · split
    · split
      · exact .inr ⟨_, rfl⟩
      · exact .inl rfl
    · exact .inl rfl

theorem fbDrop_counts : s.fbDrop.regN Reg.SAF_FB_DROP = satAdd 32 (s.regN Reg.SAF_FB_DROP) 1 := regN_countSat s _ 1

/-- With no track, a cluster has none to update and slot 0 to start one in. -/
theorem fbMatch_empty (h : s.saf.fb = []) (m : FbMeas) : s.fbMatch m = none := by
  unfold State.fbMatch
  rw [h]
  rfl

theorem fbBirth_empty (h : s.saf.fb = []) (m : FbMeas) (d : Int) : s.fbBirth m d = s.fbStart 0 m := by
  unfold State.fbBirth
  rw [h]
  rfl

/-! ### Clusters (R581) -/

/-- What taking a cluster record leaves as it was: the tracks, and every register but those of the error log. -/
structure State.TakesRecord (s t : State) : Prop where
  fb : t.saf.fb = s.saf.fb
  regs : s.SameRegsBut t [Reg.MEM_LOG_HEAD, Reg.MEM_STATUS_W1C, Reg.SAF_DOUBT_CNT]

theorem State.TakesRecord.trans {s t u : State} (h : s.TakesRecord t) (h' : t.TakesRecord u) : s.TakesRecord u :=
  ⟨h'.fb.trans h.fb, h.regs.trans h'.regs⟩

theorem logError_saf (addr id kind nsym array bank dq : Nat) : (s.logError addr id kind nsym array bank dq).saf = s.saf := by
  unfold State.logError
  extract_lets head newest same e _ t u
  have hu : u.saf = s.saf := by
    unfold u
    split <;> rfl
  split
  · cases newest <;> rfl
  · exact hu

theorem takesRecord_fifoGet (k id : Nat) : s.TakesRecord (s.fifoGet k id).2 := by
  have htook (f : XFifo) : s.TakesRecord (s.tookWord k f) := by
    unfold State.tookWord
    split
    · exact ⟨rfl, fun _ _ => rfl⟩
    · exact ⟨rfl, fun _ _ => rfl⟩
  unfold State.fifoGet
  split
  · exact htook _
  next f _ =>
    have hlog : (s.tookWord k f).TakesRecord ((s.tookWord k f).logError 0 id 10 0 0 0 0) :=
      ⟨congrArg Saf.fb (logError_saf _ 0 id 10 0 0 0 0), (reports_logError _ 0 id 10 0 0 0 0).regs⟩
    exact ((htook f).trans hlog).trans ⟨rfl, fun _ _ => rfl⟩

theorem takesRecord_takeCluster : s.TakesRecord s.takeCluster.2 := by
  unfold State.takeCluster
  refine List.foldlRecOn (motive := fun p : List Byte × State => s.TakesRecord p.2) _ _ ⟨rfl, fun _ _ => rfl⟩ fun p hp _ _ => ?_
  have hget := hp.trans (takesRecord_fifoGet p.2 31 idIslB)
  dsimp only
  split
  next h => rwa [h] at hget
  next h => rwa [h] at hget

/-- The measurement of a cluster record. -/
def State.clusterMeas (s : State) (b : List Byte) : FbMeas :=
  let p := s.toDr (u b 0 8) (i b 8 4 * 1024) (i b 12 4 * 1024)
  { time := u b 0 8, x := p.1, y := p.2, sigma := max (s.fld' Reg.SAF_FB_SIGMA 0 16) (max (u b 20 2) (u b 22 2) / 4),
    ext := some (u b 20 2, u b 22 2, u b 24 2), rev := some (u b 28 1, u b 30 2), mod := 2 }

theorem fbMeasure_eq {b : List Byte} (hlen : b.length = 32) : ∃ d, s.fbMeasure b = (s.fbMatch (s.clusterMeas b)).elim
    (if u b 26 2 < s.fld' Reg.SAF_FB_CFG 8 8 then s else s.fbBirth (s.clusterMeas b) d) (fun p => s.fbApply p.1 p.2 (s.clusterMeas b)) := by
  refine ⟨i b 8 4 * 1024 * (i b 8 4 * 1024) + i b 12 4 * 1024 * (i b 12 4 * 1024), ?_⟩
  unfold State.fbMeasure
  rw [if_neg (by simp [hlen])]
  change (match s.fbMatch (s.clusterMeas b) with | some (k, t) => _ | none => _) = _
  cases s.fbMatch (s.clusterMeas b) with
  | none => rfl
  | some p => rfl

/-- A whole cluster record updates or starts a track, or is dropped, or has too few points. -/
theorem fbMeasure_spec {b : List Byte} (hlen : b.length = 32) :
    ((∃ k f, SMap.find? (s.fbMeasure b).saf.fb k = some f ∧ f.last = u b 0 8) ∨
      (s.fbMeasure b).regN Reg.SAF_FB_DROP = satAdd 32 (s.regN Reg.SAF_FB_DROP) 1 ∨ u b 26 2 < s.fld' Reg.SAF_FB_CFG 8 8) ∧
    (s.saf.fb = [] → s.fld' Reg.SAF_FB_CFG 8 8 ≤ u b 26 2 →
      ∃ k f, SMap.find? (s.fbMeasure b).saf.fb k = some f ∧ f.st = 1 ∧ f.born = u b 0 8 ∧ f.last = u b 0 8) := by
  obtain ⟨d, he⟩ := fbMeasure_eq s hlen
  have hm : (s.clusterMeas b).time = u b 0 8 := rfl
  rw [he]
  generalize s.clusterMeas b = m at hm
  refine ⟨?_, fun hfb hpoints => ?_⟩
  · cases hmatch : s.fbMatch m with
    | some p =>
      rcases fbApply_cases s p.1 p.2 m with h | ⟨x, hx, h⟩
      · exact .inr (.inl (by rw [Option.elim_some, h, fbDrop_counts]))
      · exact .inl ⟨p.1, x, by rw [Option.elim_some, h, setFb_fb, SMap.find?_insert_same], hx.trans hm⟩
    | none =>
      rw [Option.elim_none]
      split
      next h => exact .inr (.inr h)
      · rcases fbBirth_cases s m d with h | ⟨k, h⟩
        · exact .inr (.inl (by rw [h, fbDrop_counts]))
        · obtain ⟨x, -, -, hlast, hfind⟩ := fbStart_fb s k m
          exact .inl ⟨k, x, by rw [h, hfind], hlast.trans hm⟩
  · obtain ⟨x, hst, hborn, hlast, hfind⟩ := fbStart_fb s 0 m
    rw [fbMatch_empty s hfb, Option.elim_none, if_neg (Nat.not_lt.2 hpoints), fbBirth_empty s hfb]
    exact ⟨0, x, hfind, hst, hborn.trans hm, hlast.trans hm⟩

theorem exec_fbCluster {n : BitVec 8} {b : List Byte} {u' : State} (hon : s.fbOn = true) (hwait : 4 ≤ (s.fifo 31).drain.length)
    (hslot : s.clusterSlot = n.toNat) (htake : s.takeCluster = (b, u')) : exec (.fbCluster n) s = .next (u'.fbMeasure b) := by
  have hexec : exec (.fbCluster n) s = .next (s.fbCluster n.toNat) := rfl
  rw [hexec, State.fbCluster, if_neg (by simp [hon, hslot, hwait]), htake]

theorem fbCluster_spec (n : BitVec 8) (b : List Byte) (u' : State) (hon : s.fbOn = true) (hwait : 4 ≤ (s.fifo 31).drain.length)
    (hslot : s.clusterSlot = n.toNat) (htake : s.takeCluster = (b, u')) (hlen : b.length = 32) :
    ∃ t, exec (.fbCluster n) s = .next t ∧
      ((∃ k f, SMap.find? t.saf.fb k = some f ∧ f.last = u b 0 8) ∨ t.regN Reg.SAF_FB_DROP = satAdd 32 (s.regN Reg.SAF_FB_DROP) 1 ∨
        u b 26 2 < s.fld' Reg.SAF_FB_CFG 8 8) ∧
      (s.saf.fb = [] → s.fld' Reg.SAF_FB_CFG 8 8 ≤ u b 26 2 →
        ∃ k f, SMap.find? t.saf.fb k = some f ∧ f.st = 1 ∧ f.born = u b 0 8 ∧ f.last = u b 0 8) := by
  have htaken : s.TakesRecord u' := by
    have h := takesRecord_takeCluster s
    rwa [htake] at h
  rw [← htaken.fb, ← htaken.regs.fld (by decide) 8 8, ← htaken.regs.regN (o := Reg.SAF_FB_DROP) (by decide)]
  exact ⟨_, exec_fbCluster s hon hwait hslot htake, fbMeasure_spec u' hlen⟩

/-! ### Motion, partner lists and time (R563, R579, R580, R582) -/

theorem fbMotionSample_spec (m : MotionSample) (hon : s.fbOn = true) (hsaf : s.toSaf m.slot.toNat = true) (hfwd : s.forwards m.slot.toNat =
    true) :
    ∃ t, exec (.fbMotionSample m) s = .next t ∧ t.saf.motionAt = s.now ∧ t.saf.drTime = max s.saf.drTime m.time ∧
      (∀ v, m.speed = some v → t.saf.dr.getD 3 0 = v) ∧ t.bit Reg.SAF_FB_ST 17 = false ∧ s.SameRegsBut t [Reg.SAF_FB_ST] := by
  have hgo : ¬ (!s.fbOn || !s.toSaf m.slot.toNat || !s.forwards m.slot.toNat) = true := by rw [hon, hsaf, hfwd]; decide
  refine ⟨_, congrArg Host.Outcome.next (if_neg hgo), rfl, rfl, fun v hv => ?_, bit_setBit_same _ _ _ _ (by decide),
    (sameRegsBut_setReg _ _ (List.mem_singleton_self _)).trans fun _ _ => rfl⟩
  change m.speed.getD _ = v
  rw [hv]
  rfl

/-- A track is one that was there, or one that a measurement of the instant `time` has updated. -/
def State.UpdatedAt (s t : State) (time : Nat) : Prop :=
  ∀ k f, SMap.find? t.saf.fb k = some f → SMap.find? s.saf.fb k = some f ∨ f.last = time

theorem updatedAt_fbApply {s t : State} {m : FbMeas} (h : s.UpdatedAt t m.time) (j : Nat) (x : FbTrk) : s.UpdatedAt (t.fbApply j x m)
    m.time := by
  rcases fbApply_cases t j x m with he | ⟨y, hy, he⟩
  · rw [he]
    exact h
  · rw [he]
    intro k f hf
    rw [setFb_fb] at hf
    by_cases hk : k = j
    · subst hk
      rw [SMap.find?_insert_same] at hf
      exact .inr (Option.some.inj hf ▸ hy)
    · rw [SMap.find?_insert_ne _ _ hk] at hf
      exact h k f hf

theorem exec_fbPartnerList (n : BitVec 8) (b : List Byte) : exec (.fbPartnerList n b) s = .next (s.fbPartner n.toNat b) := rfl

theorem fbPartnerList_updates (n : Nat) (b : List Byte) : s.UpdatedAt (s.fbPartner n b) (u b 24 8 * 1000000000 + u b 20 4) := by
  unfold State.fbPartner
  split
  · exact fun _ _ h => .inl h
  · refine List.foldlRecOn (motive := fun t => s.UpdatedAt t (u b 24 8 * 1000000000 + u b 20 4)) _ _ (fun _ _ h => .inl h) fun t ht k _ =>
      ?_
    dsimp only
    split
    · exact updatedAt_fbApply (m := ⟨_, _, _, _, _, _, _⟩) ht _ _
    · exact ht

theorem exec_fbTrackTimeout {k : BitVec 8} {f : FbTrk} (hon : s.fbOn = true) (hf : SMap.find? s.saf.fb k.toNat = some f) :
    exec (.fbTrackTimeout k) s =
      .next ((s.reach ((if f.st == 1 then f.born + 300000000 else f.last + s.fld' Reg.SAF_FB_CFG 16 16 * 1000000) * nsT)).setFb
        (SMap.erase s.saf.fb k.toNat)) := by
  have hexec : exec (.fbTrackTimeout k) s = .next (s.fbTimeout k.toNat) := rfl
  rw [hexec, State.fbTimeout, hon, hf]
  rfl

theorem fbTrackTimeout_spec (k : BitVec 8) (f : FbTrk) (hon : s.fbOn = true) (hf : SMap.find? s.saf.fb k.toNat = some f) :
    ∃ t, exec (.fbTrackTimeout k) s = .next t ∧ t.saf.fb = SMap.erase s.saf.fb k.toNat ∧
      t.now = max s.now ((if f.st = 1 then f.born + 300000000 else f.last + s.fld' Reg.SAF_FB_CFG 16 16 * 1000000) * nsT) := by
  refine ⟨_, exec_fbTrackTimeout s hon hf, rfl, ?_⟩
  have hst : (f.st == 1) = true ↔ f.st = 1 := beq_iff_eq
  exact congrArg (fun x => max s.now (x * nsT)) (if_congr hst rfl rfl)

theorem exec_fbDeadReckoningLost (hon : s.fbOn = true) (hstatic : s.egoStatic = false) : exec .fbDeadReckoningLost s =
    .next (((s.reach (s.saf.motionAt + 200 * msT)).setBit Reg.SAF_FB_ST 17 true).setCond 13 true) :=
  congrArg Host.Outcome.next (if_neg (by rw [hon, hstatic]; decide))

theorem fbDeadReckoningLost_spec (hon : s.fbOn = true) (hstatic : s.egoStatic = false) :
    ∃ t, exec .fbDeadReckoningLost s = .next t ∧ t.bit Reg.SAF_FB_ST 17 = true ∧ t.bit Reg.SAF_COND 13 = true ∧
      t.now = max s.now (s.saf.motionAt + 200 * msT) := by
  refine ⟨_, exec_fbDeadReckoningLost s hon hstatic, ?_, cond_setCond _ (by decide) true, ?_⟩
  · rw [(sameRegsBut_setCond _ 13 true).bit (by decide)]
    exact bit_setBit_same _ _ _ _ (by decide)
  · have htbu (t : State) : (t.setCond 13 true).tbu = t.tbu := by
      rw [State.setCond, if_pos rfl, State.setBit_tbu, State.setBit_tbu]
    rw [State.now, htbu, State.setBit_tbu]
    rfl

end

/-- Settles O36: each input of the fallback changes the tracks as its rule says, and time deletes them. -/
theorem fallbackCommandsHaveTheirEffect : Obligations.FallbackCommandsHaveTheirEffect :=
  ⟨fun n b u' s => fbCluster_spec s n b u', fun m s => fbMotionSample_spec s m,
    fun n b s _ _ _ _ _ _ _ => ⟨_, exec_fbPartnerList s n b, fbPartnerList_updates s n.toNat b⟩, fun k f s => fbTrackTimeout_spec s k f,
    fbDeadReckoningLost_spec⟩

end Sys2Proof.Machine
end

section
/-! PROOFS. A frame of the Salarur Link that the device takes (R598, R599, R605), frames queued on ports, and bring-up (R602). -/

namespace Sys2Proof.Machine

/-- The state that the content of a frame in form meets: the frame is acknowledged and its sender heard. -/
def State.frameIn (s : State) (p type : Nat) (h : LinkHdr) : State := (s.acked p type h).heardOn p h

/-- What a frame meets that the device takes to itself: its port is up, it is whole, in order, in form and proper, and of the epoch held. -/
structure State.LinkTaken (s : State) (p type : Nat) (h : LinkHdr) : Prop where
  on : s.linkOn p = true
  up : (s.linkPort p).up = true
  hcrcOk : h.hcrcOk = true
  pcrcOk : h.pcrcOk = true
  lenOk : h.lenOk = true
  len : h.len ≤ 8192
  align : h.len % 8 = 0
  order : type = 1 ∨ h.lseq.toNat = (s.linkPort p).rxSeq
  reserved : h.reservedZero = true
  held : (s.linkPort p).held = false ∨ type = 1 ∨ type = 2 ∨ type = 6
  src : s.srcOk p type h = true
  mine : s.travels p type h = false ∨ h.all = true ∨ h.dstDev.toNat = s.devNo
  phase : type < 0x10 ∨ (s.linkPort p).phase = 5
  epoch : h.epoch.toNat = s.epoch

theorem State.LinkTaken.of_takes {s : State} {p type : Nat} {h : LinkHdr} (htakes : s.linkTakes p type h = true) : s.LinkTaken p type h :=
    by
  unfold State.linkTakes at htakes
  simp only [Bool.and_eq_true, Bool.or_eq_true, beq_iff_eq, decide_eq_true_eq, Bool.not_eq_true', or_assoc] at htakes
  obtain ⟨⟨⟨⟨⟨⟨⟨⟨⟨⟨⟨⟨⟨hon, hup⟩, hhcrc⟩, hpcrc⟩, hlenOk⟩, hlen⟩, halign⟩, hseq⟩, hres⟩, hheld⟩, hsrc⟩, hmine⟩, hphase⟩, hepoch⟩ := htakes
  exact ⟨hon, hup, hhcrc, hpcrc, hlenOk, hlen, halign, hseq, hres, hheld, hsrc, hmine, hphase, hepoch⟩

section
variable (s : State) {p type : Nat} {h : LinkHdr} {pl : List Byte} {f : State → State}

theorem linkAdmit_eq (t : State) (p : Nat) : ∃ ports, t.linkAdmit p = { t with slk := { t.slk with ports := ports } } := by
  unfold State.linkAdmit
  dsimp only
  split
  · exact ⟨_, rfl⟩
  · exact ⟨_, rfl⟩

theorem linkAdmit_port (t : State) (p : Nat) : ∃ a b, (t.linkAdmit p).linkPort p = { t.linkPort p with held := a, quar := b } := by
  unfold State.linkAdmit
  dsimp only
  split
  · exact ⟨_, _, linkPort_setLinkPort t p _⟩
  · exact ⟨_, _, rfl⟩

theorem acked_eq : ∃ ports out, s.acked p type h = { s with slk := { s.slk with ports := ports }, out := out } := by
  unfold State.acked
  split
  · exact ⟨_, _, rfl⟩
  · exact ⟨_, _, rfl⟩

theorem heardOn_eq : ∃ ports heard bell,
    s.heardOn p h = { s with slk := { s.slk with ports := ports, heard := heard, bellLost := bell } } := by
  unfold State.heardOn
  dsimp only
  split
  · exact ⟨_, _, _, rfl⟩
  · exact ⟨_, _, _, rfl⟩

/-- Beside its ports, the device keeps of a frame itself only that its sender was heard. -/
theorem frameIn_eq : ∃ ports heard bell out, s.frameIn p type h =
    { s with slk := { s.slk with ports := ports, heard := heard, bellLost := bell }, out := out } := by
  obtain ⟨ports, out, hacked⟩ := acked_eq s (p := p) (type := type) (h := h)
  obtain ⟨ports', heard, bell, hheard⟩ := heardOn_eq (s.acked p type h) (p := p) (h := h)
  exact ⟨ports', heard, bell, out, by rw [State.frameIn, hheard, hacked]⟩

theorem frameIn_port : ∃ n m, (s.frameIn p type h).linkPort p = { s.linkPort p with rxSeq := n, good := m } := by
  obtain ⟨n, hacked⟩ := acked_port s (p := p) (type := type) (h := h)
  obtain ⟨m, hheard⟩ := heardOn_port (s.acked p type h) (p := p) (h := h)
  exact ⟨n, m, by rw [State.frameIn, hheard, hacked]⟩

theorem frameIn_phase : ((s.frameIn p type h).linkPort p).phase = (s.linkPort p).phase := by
  obtain ⟨_, _, hport⟩ := frameIn_port s (p := p) (type := type) (h := h)
  rw [hport]

theorem frameIn_held : ((s.frameIn p type h).linkPort p).held = (s.linkPort p).held := by
  obtain ⟨_, _, hport⟩ := frameIn_port s (p := p) (type := type) (h := h)
  rw [hport]

theorem frameIn_regs : (s.frameIn p type h).regs = s.regs := (heardOn_regs _).trans (acked_regs s)

theorem frameIn_mem : (s.frameIn p type h).mem = s.mem := (heardOn_mem _).trans (acked_mem s)

theorem heardOn_out : (s.heardOn p h).out = s.out := by
  obtain ⟨_, _, _, e⟩ := heardOn_eq s (p := p) (h := h)
  rw [e]

/-- An acknowledgement frame is not itself acknowledged. -/
theorem frameIn_out_ack : (s.frameIn p 1 h).out = s.out := heardOn_out _

/-- Any other frame is acknowledged before its content is met. -/
theorem frameIn_out (htype : type ≠ 1) : ∃ a : LinkOut, a.type = 1 ∧ (s.frameIn p type h).out = s.out ++ [.link a] := by
  rw [State.frameIn, heardOn_out, State.acked, if_neg (by simpa using htype)]
  exact ⟨⟨p, 1, s.devNo, 0, s.epoch, 0, 0, pad8 ([0] ++ leBytes 4 h.lseq.toNat), 0⟩, rfl, rfl⟩

theorem takeEpoch_held {e : Nat} (he : e = s.epoch) : s.takeEpoch e = s := if_pos he.le

/-- The content of a frame that the device takes to itself is met by the state that has received it. -/
theorem linkRx_takes (htakes : s.linkTakes p type h = true) : s.linkRx p type h pl f = (f (s.frameIn p type h)).linkAdmit p := by
  obtain ⟨hon, hup, hhcrc, hpcrc, hlenOk, hlen, halign, hseq, hres, hheld, hsrc, hmine, hphase, hepoch⟩ := State.LinkTaken.of_takes htakes
  rw [linkRx_inForm s hon hup hhcrc hpcrc hlenOk hlen halign hseq hres hheld hsrc]
  change ((s.frameIn p type h).linkTake p type h pl f).linkAdmit p = _
  congr 1
  let u := s.frameIn p type h
  have hreg : ∀ o, u.reg o = s.reg o := fun o => reg_congr (frameIn_regs s) o
  obtain ⟨n, m, hport⟩ := frameIn_port s (p := p) (type := type) (h := h)
  have huphase : (u.linkPort p).phase = (s.linkPort p).phase := by rw [hport]
  have huexpect : (u.linkPort p).expect = (s.linkPort p).expect := by rw [hport]
  have htravels : u.travels p type h = s.travels p type h := by
    simp only [State.travels, State.farHello, State.slkConfig, State.fld', hreg, huphase, huexpect]
  have hdev : u.devNo = s.devNo := by simp only [State.devNo, State.fld', hreg]
  have huepoch : h.epoch.toNat = u.epoch := by rw [hepoch, State.epoch, State.epoch, State.regN, State.regN, hreg]
  have hnotFar : (u.travels p type h && !h.all && h.dstDev.toNat != u.devNo) = false := by
    rw [htravels, hdev]
    rcases hmine with htr | hall | hdst
    · simp [htr]
    · simp [hall]
    · simp [hdst]
  change u.linkTake p type h pl f = f u
  unfold State.linkTake
  rw [if_neg (by simp [hnotFar]), if_neg, if_neg (by simp [huepoch]), takeEpoch_held u huepoch, ite_self]
  rw [huphase]
  simp only [Bool.and_eq_true, decide_eq_true_eq, bne_iff_ne, ne_eq, not_and, not_not]
  exact fun h16 => hphase.resolve_left (by omega)

/-- What a frame that the device takes leaves, its ports apart, is what its content makes of the state that has received it. -/
theorem linkRx_takes_eq (htakes : s.linkTakes p type h = true) : ∃ ports, s.linkRx p type h pl f =
    { f (s.frameIn p type h) with slk := { (f (s.frameIn p type h)).slk with ports := ports } } := by
  rw [linkRx_takes s htakes]
  exact linkAdmit_eq _ p

end

/-- A port but for the frames it holds for its peer (R599). -/
def LinkPort.core (x : LinkPort) : LinkPort := { x with txSeq := 0, retry := [], txq := [], ackAt := 0 }

/-- The link but for its ports. -/
def Slk.noPorts (k : Slk) : Slk := { k with ports := [] }

/-- Frames are queued on ports: the link keeps its state, and each port what it is but for its queues. -/
structure State.Queues (s t : State) : Prop where
  sends : s.Sends t
  rest : t.slk.noPorts = s.slk.noPorts
  port : ∀ q, (t.linkPort q).core = (s.linkPort q).core

theorem State.Queues.refl (s : State) : s.Queues s := ⟨.refl s, rfl, fun _ => rfl⟩

theorem State.Queues.trans {s t u : State} (h : s.Queues t) (h' : t.Queues u) : s.Queues u :=
  ⟨h.sends.trans h'.sends, h'.rest.trans h.rest, fun q => (h'.port q).trans (h.port q)⟩

theorem State.Queues.ite {s t u : State} {c : Prop} [Decidable c] (ht : s.Queues t) (hu : s.Queues u) : s.Queues (if c then t else u) := by
  split <;> assumption

theorem State.Queues.role {s t : State} (h : s.Queues t) : t.slk.role = s.slk.role := (congrArg Slk.role h.rest :)

section
variable (s : State)

theorem queues_emit (o : Out) : s.Queues (s.emit o) := ⟨⟨_, _, rfl⟩, rfl, fun _ => rfl⟩

theorem queues_setLinkPort {p : Nat} {x : LinkPort} (hx : x.core = (s.linkPort p).core) : s.Queues (s.setLinkPort p x) := by
  refine ⟨⟨_, _, rfl⟩, rfl, fun q => ?_⟩
  by_cases hq : q = p
  · rw [hq, linkPort_setLinkPort, hx]
  · rw [linkPort_setLinkPort_ne s x hq]

theorem queues_linkPump (p fuel : Nat) : s.Queues (s.linkPump p fuel) := by
  induction fuel generalizing s with
  | zero => exact .refl s
  | succ fuel ih =>
    rw [State.linkPump]
    split
    · exact .refl s
    · exact .ite (((queues_setLinkPort s (by rfl)).trans (queues_emit _ _)).trans (ih _)) (.refl s)

theorem queues_linkPost (f : LinkOut) : s.Queues (s.linkPost f) := by
  unfold State.linkPost
  exact .ite ((queues_setLinkPort s (by rfl)).trans (queues_linkPump _ _ _)) (.refl s)

theorem queues_sendDev (n type step : Nat) (payload : List Byte) : s.Queues (s.sendDev n type step payload) := by
  unfold State.sendDev
  split
  · exact queues_linkPost s _
  · exact .refl s

theorem queues_sendPair (type step flags : Nat) (payload : List Byte) : s.Queues (s.sendPair type step flags payload) := by
  unfold State.sendPair
  split
  · exact queues_linkPost s _
  · exact .refl s

theorem queues_tellEpoch : s.Queues s.tellEpoch :=
  List.foldlRecOn (motive := s.Queues) _ _ (.refl s) (fun t ht n _ => ht.trans (.ite (queues_sendDev t n _ _ _) (.refl t)))

/-- A frame that a port with nothing queued may send, and that fits its retry buffer, leaves at once (R599). -/
theorem linkPost_out (f : LinkOut) (hon : s.linkOn f.port = true) (hsends : (s.linkPort f.port).sends f.type = true)
    (hretry : (s.linkPort f.port).retry = []) (htxq : (s.linkPort f.port).txq = []) (hsize : f.size ≤ 131072) :
    (s.linkPost f).out = s.out ++ [.link { f with lseq := (s.linkPort f.port).txSeq }] := by
  unfold State.linkPost
  dsimp only
  rw [if_pos (by simp [hon, hsends]), htxq]
  simp only [List.nil_append, List.length_nil, Nat.zero_add, State.linkPump, linkPort_setLinkPort, hretry, List.map_nil, List.sum_nil]
  rw [if_pos hsize]
  rfl

end

/-- A frame is as long as its payload and 36 bytes. -/
theorem linkOut_size (f : LinkOut) : f.size = f.payload.length + 36 := by
  simp only [LinkOut.size, LinkOut.bytes, LinkOut.header, List.length_append, length_leBytes, List.length_cons, List.length_nil]
  omega

theorem length_pad8_le (b : List Byte) : (pad8 b).length ≤ b.length + 7 := by
  rw [pad8, List.length_append, List.length_replicate]
  omega

/-! ### Bring-up (R602) -/

/-- Bring-up goes on: the phase does not go back, and what the peer has told stays. -/
structure LinkPort.Onward (x y : LinkPort) : Prop where
  phase : x.phase ≤ y.phase
  helloOk : y.helloOk = x.helloOk
  featOk : y.featOk = x.featOk
  peer : y.peer = x.peer

theorem LinkPort.Onward.refl (x : LinkPort) : x.Onward x := ⟨le_rfl, rfl, rfl, rfl⟩

theorem LinkPort.Onward.trans {x y z : LinkPort} (h : x.Onward y) (h' : y.Onward z) : x.Onward z :=
  ⟨h.phase.trans h'.phase, h'.helloOk.trans h.helloOk, h'.featOk.trans h.featOk, h'.peer.trans h.peer⟩

theorem State.Queues.onward {s t : State} (h : s.Queues t) (p : Nat) : (s.linkPort p).Onward (t.linkPort p) :=
  ⟨(congrArg LinkPort.phase (h.port p) :).ge, (congrArg LinkPort.helloOk (h.port p) :), (congrArg LinkPort.featOk (h.port p) :),
    (congrArg LinkPort.peer (h.port p) :)⟩

theorem onward_ite {x : LinkPort} {p : Nat} {t u : State} {c : Prop} [Decidable c] (ht : x.Onward (t.linkPort p)) (hu : x.Onward
    (u.linkPort p)) :
    x.Onward ((if c then t else u).linkPort p) := by
  split <;> assumption

section
variable (s : State) (p : Nat)

theorem onward_setLinkPort {x : LinkPort} (hx : (s.linkPort p).Onward x) : (s.linkPort p).Onward ((s.setLinkPort p x).linkPort p) := by
  rwa [linkPort_setLinkPort]

theorem onward_agreed : (s.linkPort p).Onward ((s.agreed p).linkPort p) := onward_setLinkPort s p ⟨le_rfl, rfl, rfl, rfl⟩

theorem onward_foundGroup : (s.linkPort p).Onward (s.foundGroup.linkPort p) :=
  List.foldlRecOn (motive := fun t : State => (s.linkPort p).Onward (t.linkPort p)) _ _ (.refl _) (fun _ ht _ _ => ht)

theorem ports_admitMember (n : Nat) : (s.admitMember n).slk.ports = s.slk.ports := by
  unfold State.admitMember
  split
  · rfl
  · rw [State.event_slk]
    rfl

theorem onward_admitMember (n : Nat) : (s.linkPort p).Onward ((s.admitMember n).linkPort p) := by
  rw [State.linkPort, State.linkPort, ports_admitMember]
  exact .refl _

theorem slk_raiseEpoch (e : Nat) : (s.raiseEpoch e).slk = s.slk := by
  dsimp only [State.raiseEpoch]
  rw [State.event_slk, State.setReg_slk]

theorem onward_lead : (s.linkPort p).Onward ((s.lead p).linkPort p) := by
  unfold State.lead
  extract_lets top t u
  have ht : t.slk = s.slk := slk_raiseEpoch s _
  have hport : t.linkPort p = s.linkPort p := by rw [State.linkPort, State.linkPort, ht]
  have hu : (s.linkPort p).Onward (u.linkPort p) := hport ▸ onward_ite (onward_foundGroup t p) (onward_admitMember t p _)
  exact (hu.trans (onward_agreed u p)).trans ((queues_tellEpoch _).onward p)

theorem onward_agreeEpoch : (s.linkPort p).Onward ((s.agreeEpoch p).linkPort p) := by
  unfold State.agreeEpoch
  dsimp only
  split
  · exact onward_lead s p
  · split
    · exact (onward_agreed s p).trans ((queues_linkPost _ _).onward p)
    · exact .refl _

/-- The port goes to a later phase. -/
theorem onward_toPhase {n : Nat} (hn : (s.linkPort p).phase ≤ n) :
    (s.linkPort p).Onward ((s.setLinkPort p { s.linkPort p with phase := n }).linkPort p) :=
  onward_setLinkPort s p ⟨hn, rfl, rfl, rfl⟩

theorem onward_bringUp (fuel : Nat) : (s.linkPort p).Onward ((s.bringUp p fuel).linkPort p) := by
  induction fuel generalizing s with
  | zero => exact .refl _
  | succ fuel ih =>
    unfold State.bringUp
    extract_lets x go
    refine onward_ite (.refl _) ?_
    have hgo {n : Nat} (hn : x.phase ≤ n) : x.Onward ((go n).linkPort p) := onward_toPhase s p hn
    split
    · next h => exact onward_ite (((hgo (by omega)).trans ((queues_linkPost _ _).onward p)).trans (ih _)) (.refl _)
    · next h => exact onward_ite (((hgo (by omega)).trans ((queues_linkPost _ _).onward p)).trans (ih _)) (.refl _)
    · next h => exact onward_ite (((hgo (by omega)).trans (onward_agreeEpoch _ p)).trans (ih _)) (.refl _)
    · next h => exact onward_ite (hgo (by omega)) (.refl _)
    · exact .refl _

/-- Bring-up leaves a phase whose condition is met. -/
theorem bringUp_passes (fuel : Nat) (hheld : (s.linkPort p).held = false)
    (hmet : (s.linkPort p).phase = 1 ∧ (s.linkPort p).helloOk = true ∨ (s.linkPort p).phase = 2 ∧ (s.linkPort p).echoOk = true ∨
      (s.linkPort p).phase = 3 ∧ (s.linkPort p).featOk = true) :
    (s.linkPort p).phase + 1 ≤ ((s.bringUp p (fuel + 1)).linkPort p).phase := by
  have hgo (n : Nat) : ((s.setLinkPort p { s.linkPort p with phase := n }).linkPort p).phase = n := by rw [linkPort_setLinkPort]
  unfold State.bringUp
  extract_lets x go
  rw [if_neg (by simp [x, hheld])]
  rcases hmet with ⟨hphase, hok⟩ | ⟨hphase, hok⟩ | ⟨hphase, hok⟩
  · simp only [x, hphase, hok, if_true]
    exact (hgo 2).ge.trans (((queues_linkPost _ _).onward p).trans (onward_bringUp _ p fuel)).phase
  · simp only [x, hphase, hok, if_true]
    exact (hgo 3).ge.trans (((queues_linkPost _ _).onward p).trans (onward_bringUp _ p fuel)).phase
  · simp only [x, hphase, hok, if_true]
    exact (hgo 4).ge.trans ((onward_agreeEpoch _ p).trans (onward_bringUp _ p fuel)).phase

end

end Sys2Proof.Machine
end

section
/-! PROOFS. Ports of the Salarur Link come up, go down, acknowledge and replay, and an EPOCH frame is taken (R596, R599, R602 to R606). -/

namespace Sys2Proof.Machine

section
variable (s : State) (p : Nat)

/-! ### Ports that lock and ports that go down (R596, R602) -/

/-- The port of a lock: nothing of the peer is known, and a hold stays (R602). -/
def LinkPort.fresh (x : LinkPort) (now : Time) : LinkPort :=
  { up := true, phase := 1, held := x.held, quar := x.quar, expect := x.expect, ackAt := now, reqAt := now }

/-- The state in which a port has locked and nothing is sent yet. -/
def State.lockPort (s : State) (p : Nat) (y : LinkPort) : State :=
  (s.setLinkPort p y).setLinkPort p { y with phase := 1, helloOk := false, echoOk := false, featOk := false, epochOk := false, good := 0 }

theorem linkLock_eq (hon : s.linkOn p = true) (hdown : (s.linkPort p).up = false) :
    ∃ v, v.linkPort p = (s.linkPort p).fresh s.now ∧ v.out = s.out ∧ v.regs = s.regs ∧ v.linkOn p = s.linkOn p ∧
      s.linkLock p = if s.linkRole p == 0 then v else v.sendHello p false := by
  let y : LinkPort :=
    { up := true, held := (s.linkPort p).held, quar := (s.linkPort p).quar, expect := (s.linkPort p).expect, ackAt := s.now, reqAt := s.now
        }
  refine ⟨s.lockPort p y, linkPort_setLinkPort _ p _, rfl, rfl, rfl, ?_⟩
  unfold State.linkLock
  dsimp only
  rw [if_neg (by simp [hon, hdown])]
  unfold State.startBringUp
  rw [linkPort_setLinkPort]
  rfl

theorem length_helloBytes : s.helloBytes.length = 88 := by
  simp only [State.helloBytes, List.length_append, List.length_reverse, length_leBytes]

theorem linkLock_spec (hon : s.linkOn p = true) (hdown : (s.linkPort p).up = false) :
    let t := s.linkLock p
    (t.linkPort p).up = true ∧ (t.linkPort p).phase = 1 ∧ (t.linkPort p).rxSeq = 0 ∧ (t.linkPort p).held = (s.linkPort p).held ∧
      (s.linkRole p ≠ 0 → ∃ f, t.out = s.out ++ [.link f] ∧ f.port = p ∧ f.type = 2 ∧ f.lseq = 0) := by
  obtain ⟨v, hport, hout, hregs, hvon, heq⟩ := linkLock_eq s p hon hdown
  have hposts : v.Queues (s.linkLock p) := heq ▸ .ite (.refl v) (queues_linkPost _ _)
  have hcore : ((s.linkLock p).linkPort p).core = ((s.linkPort p).fresh s.now).core := hport ▸ hposts.port p
  refine ⟨(congrArg LinkPort.up hcore :), (congrArg LinkPort.phase hcore :), (congrArg LinkPort.rxSeq hcore :),
    (congrArg LinkPort.held hcore :), fun hrole => ?_⟩
  let f : LinkOut := ⟨p, 2, v.devNo, (v.linkPort p).expect, v.epoch, 0, 0, pad8 v.helloBytes, 0⟩
  have hsize : f.size ≤ 131072 := by
    have hpad := length_pad8_le v.helloBytes
    rw [length_helloBytes] at hpad
    have hlen : f.payload.length = (pad8 v.helloBytes).length := rfl
    rw [linkOut_size]
    omega
  have hsends : (v.linkPort p).sends 2 = true := by
    rw [hport]
    unfold LinkPort.sends LinkPort.fresh
    cases (s.linkPort p).held <;> rfl
  have hsent := linkPost_out v f (hvon.trans hon) hsends (by rw [hport]; rfl) (by rw [hport]; rfl) hsize
  refine ⟨{ f with lseq := (v.linkPort p).txSeq }, ?_, rfl, rfl, ?_⟩
  · rw [heq, if_neg (by simpa using hrole), ← hout]
    exact hsent
  · rw [hport]
    rfl

/-! ### The retry buffer (R599) -/

theorem foldl_emit_link (l : List LinkOut) (t : State) :
    l.foldl (fun s f => s.emit (.link f)) t = { t with out := t.out ++ l.map (fun f => .link f) } := by
  induction l generalizing t with
  | nil => simp
  | cons f l ih =>
    rw [List.foldl_cons, ih, List.map_cons, List.append_cons]
    rfl

/-- A replay sends the retry buffer again, and counts it against the port. -/
theorem replay_sends (hfew : (s.linkPort p).replays < 8) : ((s.replay p).linkPort p).retry = (s.linkPort p).retry ∧
    (s.replay p).out = s.out ++ (s.linkPort p).retry.map (fun f => .link f) ∧ (s.replay p).tbu = s.tbu ∧
    ((s.linkPort p).retry ≠ [] → ((s.replay p).linkPort p).replays = (s.linkPort p).replays + 1) := by
  unfold State.replay
  dsimp only
  split
  · next hnone =>
    rw [List.isEmpty_iff] at hnone
    rw [hnone]
    exact ⟨rfl, (List.append_nil _).symm, rfl, fun h => absurd rfl h⟩
  · let y : LinkPort := { s.linkPort p with replays := (s.linkPort p).replays + 1, ackAt := s.now }
    let v := (s.setLinkPort p y).countSat (Reg.SLK_P_REPLAY p) 0 32 1
    have hport : v.linkPort p = y := linkPort_setLinkPort s p y
    rw [if_neg (by omega), foldl_emit_link]
    exact ⟨(congrArg LinkPort.retry hport :), rfl, rfl, fun _ => (congrArg LinkPort.replays hport :)⟩

/-- After eight replays in vain the port goes down. -/
theorem replay_gives_up (hmany : 8 ≤ (s.linkPort p).replays) (hretry : (s.linkPort p).retry ≠ []) : s.replay p = s.linkDown p := by
  unfold State.replay
  rw [if_neg (by simpa using hretry), if_pos hmany]

/-- An acknowledgement on a port where nothing waits frees what it covers. -/
theorem linkAck_idle (n : Nat) (htxq : (s.linkPort p).txq = []) :
    ((s.linkAck p n).linkPort p).retry = (s.linkPort p).retry.filter (fun f => decide (2 ^ 31 ≤ (n + 2 ^ 32 - f.lseq) % 2 ^ 32)) ∧
      ((s.linkAck p n).linkPort p).replays ≤ (s.linkPort p).replays ∧ (s.linkAck p n).out = s.out := by
  unfold State.linkAck
  extract_lets x left
  split
  · next hall =>
    refine ⟨?_, le_rfl, rfl⟩
    have hlen : left.length = x.retry.length := by simpa using hall
    exact (List.filter_sublist.eq_of_length hlen).symm
  · rw [show x.txq = [] from htxq]
    simp only [State.linkPump, linkPort_setLinkPort]
    exact ⟨rfl, Nat.zero_le _, rfl⟩

/-- LINK_CTL frees what it acknowledges, and a NAK replays the rest. -/
theorem linkCtl_spec (h : LinkHdr) (a : LinkAck) (htakes : s.linkTakes p 1 h = true) (htxq : (s.linkPort p).txq = []) :
    let keep (n : Nat) : List LinkOut := (s.linkPort p).retry.filter (fun f => decide (2 ^ 31 ≤ (n + 2 ^ 32 - f.lseq) % 2 ^ 32))
    let t := s.linkRx p 1 h [] (fun s =>
      if a.nak then (s.linkAck p ((a.upTo.toNat + 2 ^ 32 - 1) % 2 ^ 32)).replay p else s.linkAck p a.upTo.toNat)
    (a.nak = false → (t.linkPort p).retry = keep a.upTo.toNat ∧ t.out = s.out) ∧
      (a.nak = true → (s.linkPort p).replays < 8 → (t.linkPort p).retry = keep ((a.upTo.toNat + 2 ^ 32 - 1) % 2 ^ 32) ∧
        t.out = s.out ++ ((t.linkPort p).retry.map (fun f => .link f))) := by
  intro keep t
  let u := s.frameIn p 1 h
  obtain ⟨n, m, hport⟩ := frameIn_port s (p := p) (type := 1) (h := h)
  have huretry : (u.linkPort p).retry = (s.linkPort p).retry := by rw [hport]
  have hureplays : (u.linkPort p).replays = (s.linkPort p).replays := by rw [hport]
  have huout : u.out = s.out := frameIn_out_ack s
  have hack (n : Nat) := linkAck_idle u p n (by rw [hport]; exact htxq)
  rw [huretry, hureplays, huout] at hack
  have ht : t = ((fun s : State => if a.nak then (s.linkAck p ((a.upTo.toNat + 2 ^ 32 - 1) % 2 ^ 32)).replay p
    else s.linkAck p a.upTo.toNat) u).linkAdmit p := linkRx_takes s htakes
  dsimp only at ht
  have hadmit (v : State) : ((v.linkAdmit p).linkPort p).retry = (v.linkPort p).retry ∧ (v.linkAdmit p).out = v.out := by
    obtain ⟨a, b, hv⟩ := linkAdmit_port v p
    obtain ⟨ports, he⟩ := linkAdmit_eq v p
    exact ⟨by rw [hv], by rw [he]⟩
  constructor
  · intro hnak
    rw [if_neg (by simp [hnak])] at ht
    obtain ⟨hretry, -, hout⟩ := hack a.upTo.toNat
    exact ⟨ht ▸ (hadmit _).1.trans hretry, ht ▸ (hadmit _).2.trans hout⟩
  · intro hnak hfew
    rw [if_pos hnak] at ht
    obtain ⟨hretry, hreplays, hout⟩ := hack ((a.upTo.toNat + 2 ^ 32 - 1) % 2 ^ 32)
    obtain ⟨hkept, hsent, -, -⟩ := replay_sends (u.linkAck p ((a.upTo.toNat + 2 ^ 32 - 1) % 2 ^ 32)) p (by omega)
    have htretry : (t.linkPort p).retry = keep ((a.upTo.toNat + 2 ^ 32 - 1) % 2 ^ 32) := ht ▸ (hadmit _).1.trans (hkept.trans hretry)
    refine ⟨htretry, ?_⟩
    rw [htretry, ht, (hadmit _).2, hsent, hout, hretry]

/-- The retry buffer's time is out: it is sent again, or the port goes down. -/
theorem replayTimeout_spec (hretry : (s.linkPort p).retry ≠ []) :
    let t := (s.reach ((s.linkPort p).ackAt + 10 * usT)).replay p
    t.now = max s.now ((s.linkPort p).ackAt + 10 * usT) ∧
      ((s.linkPort p).replays < 8 → (t.linkPort p).replays = (s.linkPort p).replays + 1 ∧
        t.out = s.out ++ (s.linkPort p).retry.map (fun f => .link f)) ∧
      (8 ≤ (s.linkPort p).replays → (t.linkPort p).up = false ∧ (t.linkPort p).retry = []) := by
  let v := s.reach ((s.linkPort p).ackAt + 10 * usT)
  have hvport : v.linkPort p = s.linkPort p := rfl
  rcases Nat.lt_or_ge (s.linkPort p).replays 8 with hfew | hmany
  · obtain ⟨-, hout, htbu, hcount⟩ := replay_sends v p (hvport ▸ hfew)
    exact ⟨(congrArg Tbu.now htbu :), fun _ => ⟨hcount hretry, hout⟩, fun hmany => absurd hfew (by omega)⟩
  · have hdown : v.replay p = v.linkDown p := replay_gives_up v p (hvport ▸ hmany) hretry
    refine ⟨?_, fun hfew => absurd hmany (by omega), fun _ => ?_⟩
    · rw [hdown]
      rfl
    · rw [hdown, State.linkDown, linkPort_setLinkPort]
      exact ⟨rfl, rfl⟩

/-! ### HELLO, ECHO and FEAT (R602, R603) -/

theorem linkAdmit_onward (t : State) : (t.linkPort p).Onward ((t.linkAdmit p).linkPort p) := by
  obtain ⟨a, b, hport⟩ := linkAdmit_port t p
  rw [hport]
  exact ⟨le_rfl, rfl, rfl, rfl⟩

/-- A port that has what its phase asks for goes on. -/
theorem bringUp_goesOn {x : LinkPort} (hx : (s.linkPort p).core = x.core) (hheld : x.held = false)
    (hmet : x.phase = 1 ∧ x.helloOk = true ∨ x.phase = 2 ∧ x.echoOk = true ∨ x.phase = 3 ∧ x.featOk = true) :
    let t := (s.bringUp p 5).linkAdmit p
    x.Onward (t.linkPort p) ∧ x.phase + 1 ≤ (t.linkPort p).phase := by
  have hphase : (s.linkPort p).phase = x.phase := (congrArg LinkPort.phase hx :)
  have hhello : (s.linkPort p).helloOk = x.helloOk := (congrArg LinkPort.helloOk hx :)
  have hecho : (s.linkPort p).echoOk = x.echoOk := (congrArg LinkPort.echoOk hx :)
  have hfeat : (s.linkPort p).featOk = x.featOk := (congrArg LinkPort.featOk hx :)
  have hon : x.Onward (s.linkPort p) := ⟨hphase.ge, hhello, hfeat, (congrArg LinkPort.peer hx :)⟩
  have hpass := bringUp_passes s p 4 ((congrArg LinkPort.held hx :).trans hheld) (by rwa [hphase, hhello, hecho, hfeat])
  exact ⟨(hon.trans (onward_bringUp s p 5)).trans (linkAdmit_onward p _), hphase ▸ hpass.trans (linkAdmit_onward p _).phase⟩

/-- The HELLO of the device the port expects is kept, and bring-up goes on. -/
theorem hello_spec (h : LinkHdr) (m : Hello) (pl : List Byte) (htakes : s.linkTakes p 2 h = true) (hgood : s.helloGood p h m = true)
    (hheld : (s.linkPort p).held = false) (hphase : (s.linkPort p).phase = 1) :
    let t := s.linkRx p 2 h pl (fun s => s.onHello p h m)
    (t.linkPort p).helloOk = true ∧ (t.linkPort p).peer = m.dev.toNat ∧ 2 ≤ (t.linkPort p).phase := by
  intro t
  let u := s.frameIn p 2 h
  obtain ⟨_, _, hport⟩ := frameIn_port s (p := p) (type := 2) (h := h)
  obtain ⟨_, _, _, _, hu⟩ := frameIn_eq s (p := p) (type := 2) (h := h)
  have huheld : (u.linkPort p).held = false := (frameIn_held s).trans hheld
  have huphase : (u.linkPort p).phase = 1 := (frameIn_phase s).trans hphase
  have hugood : u.helloGood p h m = true := by
    have hdigest : u.slk.digest = s.slk.digest := by rw [show u = _ from hu]
    have hexpect : (u.linkPort p).expect = (s.linkPort p).expect := by rw [hport]
    rw [State.helloGood, hdigest, hexpect]
    exact hgood
  let x : LinkPort := { u.linkPort p with peer := m.dev.toNat, peerFeats := m.feats, peerEpoch := m.epoch.toNat, helloOk := true }
  let v := if h.flags.getLsbD 0 then (u.setLinkPort p x).sendHello p false else u.setLinkPort p x
  have hv : u.onHello p h m = v.bringUp p 5 := by
    unfold State.onHello
    dsimp only
    rw [if_neg (by simp [State.farHello, huphase]), if_neg (by simp [hugood]), if_neg (by simp [huphase])]
  have hx : (v.linkPort p).core = x.core := by
    have hposts : (u.setLinkPort p x).Queues v := .ite (queues_linkPost _ _) (.refl _)
    rw [hposts.port p, linkPort_setLinkPort]
  have ht : t = (v.bringUp p 5).linkAdmit p := (linkRx_takes s htakes).trans (by rw [hv])
  obtain ⟨hon, hpass⟩ := bringUp_goesOn v p hx huheld (.inl ⟨huphase, rfl⟩)
  rw [ht]
  exact ⟨hon.helloOk, hon.peer, by rw [show x.phase = 1 from huphase] at hpass; exact hpass⟩

/-- An ECHO is returned, and the reply to one judged (R602). -/
theorem echo_spec (h : LinkHdr) (reply crcOk : Bool) (htakes : s.linkTakes p 6 h = true) :
    let t := s.linkRx p 6 h [] (fun s => s.onEcho p reply crcOk)
    (reply = false → (s.linkPort p).retry = [] → (s.linkPort p).txq = [] →
      ∃ a f, t.out = s.out ++ [.link a, .link f] ∧ a.type = 1 ∧ f.type = 6 ∧ f.port = p) ∧
    (reply = true → crcOk = true → (s.linkPort p).held = false → (s.linkPort p).phase = 2 → 3 ≤ (t.linkPort p).phase) ∧
    (reply = true → crcOk = false → (t.linkPort p).held = true) := by
  intro t
  let u := s.frameIn p 6 h
  obtain ⟨n, m, hport⟩ := frameIn_port s (p := p) (type := 6) (h := h)
  have ht : t = (u.onEcho p reply crcOk).linkAdmit p := linkRx_takes s htakes
  refine ⟨fun hreply hretry htxq => ?_, fun hreply hcrc hheld hphase => ?_, fun hreply hcrc => ?_⟩
  · obtain ⟨a, ha, hout⟩ := frameIn_out s (p := p) (h := h) (show 6 ≠ 1 by decide)
    let b := fit 1024 Config.prbs31
    let f : LinkOut := ⟨p, 6, u.devNo, (u.linkPort p).expect, u.epoch, 0, 0, pad8 (b ++ leBytes 8 (crc32c b).toNat), 0⟩
    have hsize : f.size ≤ 131072 := by
      have hpad := length_pad8_le (b ++ leBytes 8 (crc32c b).toNat)
      rw [List.length_append, fit_length, length_leBytes] at hpad
      have hlen : f.payload.length = (pad8 (b ++ leBytes 8 (crc32c b).toNat)).length := rfl
      rw [linkOut_size]
      omega
    have hup := (State.LinkTaken.of_takes htakes).up
    have hsends : (u.linkPort p).sends 6 = true := by
      rw [hport]
      unfold LinkPort.sends
      rw [hup]
      cases (s.linkPort p).held <;> rfl
    have huon : u.linkOn p = s.linkOn p := by
      obtain ⟨_, _, _, _, hu⟩ := frameIn_eq s (p := p) (type := 6) (h := h)
      rw [show u = _ from hu]
      rfl
    have huretry : (u.linkPort p).retry = [] := by rw [hport]; exact hretry
    have hutxq : (u.linkPort p).txq = [] := by rw [hport]; exact htxq
    have hsent := linkPost_out u f (huon.trans (State.LinkTaken.of_takes htakes).on) hsends huretry hutxq hsize
    refine ⟨a, { f with lseq := (u.linkPort p).txSeq }, ?_, ha, rfl, rfl⟩
    obtain ⟨ports, he⟩ := linkAdmit_eq (u.onEcho p reply crcOk) p
    rw [ht, he, hreply]
    exact hsent.trans (by rw [hout, List.append_assoc]; rfl)
  · let x : LinkPort := { u.linkPort p with echoOk := true }
    have hv : u.onEcho p reply crcOk = (u.setLinkPort p x).bringUp p 5 := by
      rw [hreply, hcrc]
      rfl
    have hxphase : x.phase = 2 := (frameIn_phase s).trans hphase
    have hxheld : x.held = false := (frameIn_held s).trans hheld
    obtain ⟨-, hpass⟩ := bringUp_goesOn (u.setLinkPort p x) p (x := x) (by rw [linkPort_setLinkPort]) hxheld (.inr (.inl ⟨hxphase, rfl⟩))
    rw [ht, hv]
    rwa [hxphase] at hpass
  · let x : LinkPort := { u.linkPort p with held := true, echoOk := false }
    have hv : (u.onEcho p reply crcOk).linkPort p = x := by
      rw [hreply, hcrc]
      unfold State.onEcho
      rw [if_neg (by decide), if_neg (by decide)]
      dsimp only
      rw [State.linkPort, State.event_slk]
      exact linkPort_setLinkPort u p x
    rw [ht, State.linkAdmit, if_neg (by rw [hv]; simp [x]), hv]

/-- The FEAT of a peer whose device lacks nothing goes on with bring-up. -/
theorem feat_spec (h : LinkHdr) (v : BitVec 256) (htakes : s.linkTakes p 3 h = true)
    (hhas : lowestMissing s.featReq (if s.locked then s.featDrv else 0) = none) (hphase : (s.linkPort p).phase = 3) :
    let t := s.linkRx p 3 h [] (fun s => s.onFeat p v)
    (t.linkPort p).featOk = true ∧ 4 ≤ (t.linkPort p).phase := by
  intro t
  let u := s.frameIn p 3 h
  let x : LinkPort := { u.linkPort p with featOk := true, peerFeats := v }
  have hxphase : x.phase = 3 := (frameIn_phase s).trans hphase
  have hxheld : x.held = false := 
    (frameIn_held s).trans ((State.LinkTaken.of_takes htakes).held.resolve_right (by decide))
  have huhas : lowestMissing u.featReq (if u.locked then u.featDrv else 0) = none := by
    obtain ⟨_, _, _, _, hu⟩ := frameIn_eq s (p := p) (type := 3) (h := h)
    rw [show u = _ from hu]
    exact hhas
  have hv : u.onFeat p v = (u.setLinkPort p x).bringUp p 5 := by
    unfold State.onFeat
    dsimp only
    rw [if_neg (by simp [huhas]), if_neg (by rw [show (u.linkPort p).phase = 3 from hxphase]; decide)]
  obtain ⟨hon, hpass⟩ := bringUp_goesOn (u.setLinkPort p x) p (x := x) (by rw [linkPort_setLinkPort]) hxheld (.inr (.inr ⟨hxphase, rfl⟩))
  have ht : t = ((u.setLinkPort p x).bringUp p 5).linkAdmit p := (linkRx_takes s htakes).trans (by rw [hv])
  rw [ht]
  exact ⟨hon.featOk, by rwa [hxphase] at hpass⟩

end

/-- The link does something on its ports that leaves the device its role. -/
structure State.KeepsRole (s t : State) : Prop where
  sends : s.Sends t
  role : t.slk.role = s.slk.role

theorem State.KeepsRole.refl (s : State) : s.KeepsRole s := ⟨.refl s, rfl⟩

theorem State.KeepsRole.trans {s t u : State} (h : s.KeepsRole t) (h' : t.KeepsRole u) : s.KeepsRole u :=
  ⟨h.sends.trans h'.sends, h'.role.trans h.role⟩

theorem State.KeepsRole.ite {s t u : State} {c : Prop} [Decidable c] (ht : s.KeepsRole t) (hu : s.KeepsRole u) :
    s.KeepsRole (if c then t else u) := by split <;> assumption

theorem State.Queues.keepsRole {s t : State} (h : s.Queues t) : s.KeepsRole t := ⟨h.sends, h.role⟩

theorem State.KeepsRole.reg {s t : State} (h : s.KeepsRole t) (o : Nat) : t.reg o = s.reg o := reg_congr h.sends.regs o

theorem State.KeepsRole.devNo {s t : State} (h : s.KeepsRole t) : t.devNo = s.devNo := by
  simp only [State.devNo, State.fld', h.reg]

section
variable (s : State)

theorem keepsRole_setLinkPort (p : Nat) (x : LinkPort) : s.KeepsRole (s.setLinkPort p x) := ⟨⟨_, _, rfl⟩, rfl⟩

/-- Only device 0 leads; any other sends the epoch it holds, or waits (R604). -/
theorem keepsRole_agreeEpoch (p : Nat) (hdev : s.devNo ≠ 0) : s.KeepsRole (s.agreeEpoch p) := by
  unfold State.agreeEpoch
  dsimp only
  rw [if_neg (by simp [hdev])]
  exact .ite ((keepsRole_setLinkPort s p _).trans (queues_linkPost _ _).keepsRole) (.refl s)

theorem keepsRole_bringUp (p fuel : Nat) (hdev : s.devNo ≠ 0) : s.KeepsRole (s.bringUp p fuel) := by
  induction fuel generalizing s with
  | zero => exact .refl s
  | succ fuel ih =>
    unfold State.bringUp
    extract_lets x go
    refine .ite (.refl s) ?_
    have hgo (n : Nat) : s.KeepsRole (go n) := keepsRole_setLinkPort s p _
    have hon {t : State} (ht : s.KeepsRole t) : s.KeepsRole (t.bringUp p fuel) := ht.trans (ih t (ht.devNo ▸ hdev))
    split
    · exact .ite (hon ((hgo 2).trans (queues_linkPost _ _).keepsRole)) (.refl s)
    · exact .ite (hon ((hgo 3).trans (queues_linkPost _ _).keepsRole)) (.refl s)
    · exact .ite (hon ((hgo 4).trans (keepsRole_agreeEpoch _ p (by rw [(hgo 4).devNo]; exact hdev)))) (.refl s)
    · exact .ite (hgo 5) (.refl s)
    · exact .refl s

/-- A SYNCING device before its request for a copy: what it knew of the pair and the delta it gathered are gone (R610, R613). -/
def State.cleared (s : State) : State :=
  { s with slk := { s.slk with role := roleSYNCING, noAck := 0, mirrorLost := false, peerMirror := false, copyNext := none, handoff := none,
                               recs := [], kvs := [], seqs := [], deltaBytes := [], copies := [], syncDone := false } }

theorem queues_enterSyncing : s.cleared.Queues s.enterSyncing := queues_sendPair _ _ _ _ _

theorem sends_enterSyncing : s.Sends s.enterSyncing := .trans ⟨_, _, rfl⟩ (queues_enterSyncing s).sends

theorem role_enterSyncing : s.enterSyncing.slk.role = roleSYNCING := (queues_enterSyncing s).role

/-! ### What taking an epoch keeps (R605) -/

theorem reg_raiseEpoch (e : Nat) {o : Nat} (ho : o ≠ Reg.SLK_EPOCH) : (s.raiseEpoch e).reg o = s.reg o := by
  dsimp only [State.raiseEpoch]
  rw [reg_congr (State.event_regs ..), reg_setReg_ne _ _ ho]

theorem epoch_raiseEpoch (e : Nat) : (s.raiseEpoch e).epoch = e % 2 ^ 32 := by
  dsimp only [State.raiseEpoch]
  rw [State.epoch, State.regN, reg_congr (State.event_regs ..), reg_setReg_same, BitVec.toNat_ofNat]

theorem csq_raiseEpoch (e : Nat) : (s.raiseEpoch e).csq = s.csq := by
  dsimp only [State.raiseEpoch]
  rw [State.event_csq, State.setReg_csq]

/-- A higher epoch is held from now on; a primary enters SYNCING. -/
theorem takeEpoch_spec {e : Nat} (he : s.epoch ≤ e) (hlt : e < 2 ^ 32) :
    (s.takeEpoch e).epoch = e ∧ (s.takeEpoch e).csq = s.csq ∧ (∀ o ≠ Reg.SLK_EPOCH, (s.takeEpoch e).reg o = s.reg o) ∧
      (s.takeEpoch e).slk.role = if s.epoch < e ∧ s.slk.role = rolePRIMARY then roleSYNCING else s.slk.role := by
  unfold State.takeEpoch
  split
  · next hle =>
    have heq : e = s.epoch := le_antisymm hle he
    exact ⟨heq.symm, rfl, fun _ _ => rfl, (if_neg (by omega)).symm⟩
  · next hgt =>
    have hgt' : s.epoch < e := by omega
    have hraised : (s.raiseEpoch e).epoch = e := (epoch_raiseEpoch s e).trans (Nat.mod_eq_of_lt hlt)
    dsimp only
    rw [slk_raiseEpoch]
    split
    · next hrole =>
      have hsends := sends_enterSyncing (s.raiseEpoch e)
      have hreg (o : Nat) := reg_congr hsends.regs o
      refine ⟨?_, hsends.csq.trans (csq_raiseEpoch s e), fun o ho => (hreg o).trans (reg_raiseEpoch s e ho), ?_⟩
      · rw [State.epoch, State.regN, hreg]
        exact hraised
      · rw [role_enterSyncing, if_pos ⟨hgt', by simpa using hrole⟩]
    · next hrole =>
      refine ⟨hraised, csq_raiseEpoch s e, fun o ho => reg_raiseEpoch s e ho, ?_⟩
      rw [slk_raiseEpoch, if_neg (fun h => hrole (by simpa using h.2))]

/-! ### T_0 of the group (R604) -/

theorem slk_setRegBytes (off : Nat) (bs : List Byte) : (s.setRegBytes off bs).slk = s.slk := by
  induction s, off, bs using State.setRegBytes.induct with
  | case1 s off a b c d bs ih =>
    unfold State.setRegBytes
    exact ih.trans (s.setReg_slk _ _)
  | case2 s off l hl =>
    rw [State.setRegBytes]
    exact hl

theorem groupT0_spec (t : Time) (n : Nat) : (t ≠ 0 → (s.groupT0 t n).csq.t0 = t ∧ (s.groupT0 t n).csq.t0Set = true) ∧
    (s.groupT0 t n).slk = s.slk ∧ ∀ o, Reg.CSQ_T0 4 ≤ o → (s.groupT0 t n).reg o = s.reg o := by
  unfold State.groupT0
  split
  · next h => exact ⟨fun ht => by simpa [ht, and_comm] using h, rfl, fun _ _ => rfl⟩
  · have hcsq : (s.setT0 t).csq.t0 = t ∧ (s.setT0 t).csq.t0Set = true := by rw [setT0_csq]; exact ⟨rfl, rfl⟩
    have hslk : (s.setT0 t).slk = s.slk := by
      dsimp only [State.setT0]
      exact slk_setRegBytes s _ _
    have hreg := fun o (ho : Reg.CSQ_T0 4 ≤ o) => reg_setT0 s t (.inr ho)
    generalize s.setT0 t = u at hcsq hslk hreg
    dsimp only
    split
    · exact ⟨fun _ => hcsq, hslk, hreg⟩
    · exact ⟨fun _ => hcsq, hslk, hreg⟩

/-! ### The role under the new epoch (R605, R606, R621) -/

theorem keepsCsq_flockJudge (f : Nat) : s.KeepsCsq (s.flockJudge f) := by
  unfold State.flockJudge
  dsimp only
  split
  · exact ⟨by rw [State.event_csq, State.setFld_csq]⟩
  · split
    · have hfld := (State.KeepsCsq.refl s).setFld (Reg.TAC_FLOCK_SEQ f) 20 2 1
      generalize s.setFld (Reg.TAC_FLOCK_SEQ f) 20 2 1 = t at hfld ⊢
      exact hfld.trans ⟨rfl⟩
    · exact .refl s

theorem keepsCsq_uncharge (f n : Nat) : s.KeepsCsq (s.uncharge f n) := ((State.KeepsCsq.refl s).setReg _ _).trans (keepsCsq_flockJudge _ f)

theorem keepsCsq_returnRetired (r : Retire) : s.KeepsCsq (s.returnRetired r) := by
  unfold State.returnRetired
  extract_lets _ t
  have ht : s.KeepsCsq t := .ite (.refl s) ⟨rfl⟩
  refine ht.foldl (fun u x => ?_) _
  obtain ⟨a, c⟩ := x
  refine .trans ?_ (keepsCsq_uncharge _ _ _)
  exact ⟨rfl⟩

theorem keepsCsq_sweepRetired : s.KeepsCsq s.sweepRetired := by
  unfold State.sweepRetired
  refine .trans ?_ ((State.KeepsCsq.refl _).foldl keepsCsq_returnRetired _)
  exact ⟨rfl⟩

theorem keepsCsq_doClose (n : Nat) : s.KeepsCsq (s.doClose n).2 := by
  unfold State.doClose
  split
  · exact .refl s
  · extract_lets f t r v _ w
    have ht : s.KeepsCsq t := .ite (.setReg (.refl s) _ _) (.refl s)
    have hadd : s.KeepsCsq (t.flockSeqAdd f (-1)) := ht.setFld _ _ _ _
    have hr : s.KeepsCsq r := hadd.trans ⟨rfl⟩
    have hv : s.KeepsCsq v := hr.trans ⟨State.zero_csq ..⟩
    have hw : s.KeepsCsq w := hv.trans ⟨rfl⟩
    exact hw.trans (keepsCsq_sweepRetired w)

theorem keepsCsq_dropFold : s.KeepsCsq s.dropFold := by
  unfold State.dropFold
  extract_lets t u
  have ht : s.KeepsCsq t := (State.KeepsCsq.refl s).foldl (fun v n => keepsCsq_doClose v n) _
  have hu : s.KeepsCsq u := ht.foldl (fun v n => ⟨State.zero_csq ..⟩) _
  exact hu.trans ⟨rfl⟩

theorem sends_helloRoot : s.Sends s.helloRoot := by
  unfold State.helloRoot
  split
  · exact sends_linkPost s _
  · exact .refl s

theorem keepsCsq_epochRole : s.KeepsCsq s.epochRole := by
  unfold State.epochRole
  dsimp only
  refine .ite (.ite ⟨(sends_enterSyncing s).csq⟩ (.refl s)) (.ite (.refl s) (.ite ⟨rfl⟩ ?_))
  exact (keepsCsq_dropFold s).trans (.trans ⟨rfl⟩ ⟨(sends_helloRoot _).csq⟩)

theorem epochRole_pair (hconf : s.slkConfig = 1) : s.Sends s.epochRole ∧
    s.epochRole.slk.role = if s.slk.role = roleFORMING ∨ s.slk.role = roleSYNCING then roleSYNCING else s.slk.role := by
  unfold State.epochRole
  rw [hconf]
  dsimp only
  by_cases hrole : s.slk.role = roleFORMING ∨ s.slk.role = roleSYNCING
  · rw [if_pos (by decide), if_pos (by simpa using hrole), if_pos hrole]
    exact ⟨sends_enterSyncing s, role_enterSyncing s⟩
  · rw [if_pos (by decide), if_neg (by simpa using hrole), if_neg hrole]
    exact ⟨.refl s, rfl⟩

theorem epochRole_member (hconf : s.slkConfig = 2) (hdev : s.devNo ≠ 0) (hmember : s.member s.devNo = true) :
    s.Sends s.epochRole ∧ s.epochRole.slk.role = roleMEMBER := by
  unfold State.epochRole
  rw [hconf]
  dsimp only
  rw [if_neg (by decide), if_neg (by simpa using hdev), if_pos hmember]
  exact ⟨⟨_, _, rfl⟩, rfl⟩

/-! ### The EPOCH frame -/

/-- The state of an EPOCH frame whose epoch, members and T_0 are taken. -/
def State.epochTaken (s : State) (m : EpochMsg) : State :=
  ((s.takeEpoch m.epoch.toNat).setReg64 Reg.SLK_MEMBERS_LO m.members.toNat).groupT0 m.t0 m.step

/-- The state of an EPOCH frame whose ports have gone on with bring-up. -/
def State.epochPorts (s : State) (m : EpochMsg) : State :=
  (List.range 6).foldl (fun s p => if 1 ≤ (s.linkPort p).phase then (s.agreed p).bringUp p 5 else s) (s.epochTaken m)

theorem onEpoch_eq (m : EpochMsg) (he : s.epoch ≤ m.epoch.toNat) : s.onEpoch m = (s.epochPorts m).epochRole := if_neg (by omega)

theorem keepsRole_epochPorts (m : EpochMsg) (hdev : (s.epochTaken m).devNo ≠ 0) : (s.epochTaken m).KeepsRole (s.epochPorts m) := by
  refine List.foldlRecOn (motive := (s.epochTaken m).KeepsRole) _ _ (.refl _) (fun t ht p _ => ht.trans (.ite ?_ (.refl t)))
  have hagreed : t.KeepsRole (t.agreed p) := keepsRole_setLinkPort t p _
  exact hagreed.trans (keepsRole_bringUp _ p 5 (by rw [hagreed.devNo, ht.devNo]; exact hdev))

/-- The membership map is the frame's, the epoch the frame's, and no other register of the link changes. -/
theorem epochTaken_regs (m : EpochMsg) (he : s.epoch ≤ m.epoch.toNat) :
    (s.epochTaken m).epoch = m.epoch.toNat ∧
      (s.epochTaken m).reg Reg.SLK_MEMBERS_LO = BitVec.ofNat 32 m.members.toNat ∧
      (s.epochTaken m).reg Reg.SLK_MEMBERS_HI = BitVec.ofNat 32 (m.members.toNat / 2 ^ 32) ∧
      (s.epochTaken m).reg Reg.SLK_CTRL = s.reg Reg.SLK_CTRL ∧ (s.epochTaken m).reg Reg.SLK_DEVNO = s.reg Reg.SLK_DEVNO := by
  obtain ⟨hepoch, -, hreg, -⟩ := takeEpoch_spec s he m.epoch.isLt
  obtain ⟨-, -, hT0⟩ := groupT0_spec ((s.takeEpoch m.epoch.toNat).setReg64 Reg.SLK_MEMBERS_LO m.members.toNat) m.t0 m.step
  have hother {o : Nat} (hcsq : Reg.CSQ_T0 4 ≤ o) (hlo : o ≠ Reg.SLK_MEMBERS_LO) (hhi : o ≠ Reg.SLK_MEMBERS_LO + 4) :
      (s.epochTaken m).reg o = (s.takeEpoch m.epoch.toNat).reg o :=
    (hT0 o hcsq).trans ((reg_setReg_ne _ _ hhi).trans (reg_setReg_ne _ _ hlo))
  refine ⟨?_, ?_, ?_, (hother (by decide) (by decide) (by decide)).trans (hreg _ (by decide)),
    (hother (by decide) (by decide) (by decide)).trans (hreg _ (by decide))⟩
  · rw [State.epoch, State.regN, hother (by decide) (by decide) (by decide)]
    exact hepoch
  · exact (hT0 _ (by decide)).trans ((reg_setReg_ne _ _ (by decide)).trans (reg_setReg_same _ _ _))
  · exact (hT0 _ (by decide)).trans (reg_setReg_same _ _ _)

theorem epochTaken_group (m : EpochMsg) (he : s.epoch ≤ m.epoch.toNat) :
    (m.t0 ≠ 0 → (s.epochTaken m).csq.t0 = m.t0 ∧ (s.epochTaken m).csq.t0Set = true) ∧ (s.epochTaken m).slk.role =
      if s.epoch < m.epoch.toNat ∧ s.slk.role = rolePRIMARY then roleSYNCING else s.slk.role := by
  obtain ⟨-, -, -, hrole⟩ := takeEpoch_spec s he m.epoch.isLt
  obtain ⟨ht0, hslk, -⟩ := groupT0_spec ((s.takeEpoch m.epoch.toNat).setReg64 Reg.SLK_MEMBERS_LO m.members.toNat) m.t0 m.step
  exact ⟨ht0, (congrArg Slk.role hslk).trans hrole⟩

end

/-- The two words of a membership map hold it. -/
theorem reg64_members {t : State} {v : BitVec 64} (hlo : t.reg Reg.SLK_MEMBERS_LO = BitVec.ofNat 32 v.toNat)
    (hhi : t.reg Reg.SLK_MEMBERS_HI = BitVec.ofNat 32 (v.toNat / 2 ^ 32)) : t.reg64 Reg.SLK_MEMBERS_LO = v.toNat := by
  have hlt := v.isLt
  rw [State.reg64, State.regN, State.regN, hlo, show Reg.SLK_MEMBERS_LO + 4 = Reg.SLK_MEMBERS_HI from rfl, hhi, BitVec.toNat_ofNat,
    BitVec.toNat_ofNat]
  omega

theorem bit_ofNat {t : State} {o w b : Nat} (hreg : t.reg o = BitVec.ofNat 32 w) (hb : b < 32) : t.bit o b = w.testBit b := by
  have hmod : w.testBit b = (w % 2 ^ 32).testBit b := by rw [Nat.testBit_mod_two_pow, decide_eq_true hb, Bool.true_and]
  rw [hmod, Nat.testBit_eq_decide_div_mod_eq, State.bit, State.fld', fieldOf, hreg, BitVec.toNat_ofNat]
  rfl

theorem member_members {t : State} {v : BitVec 64} {n : Nat} (hlo : t.reg Reg.SLK_MEMBERS_LO = BitVec.ofNat 32 v.toNat)
    (hhi : t.reg Reg.SLK_MEMBERS_HI = BitVec.ofNat 32 (v.toNat / 2 ^ 32)) (hn : v.getLsbD n = true) : t.member n = true := by
  have hlt : n < 64 := BitVec.lt_of_getLsbD hn
  have hmod : n % 32 < 32 := Nat.mod_lt _ (by decide)
  unfold State.member
  split
  · next h32 => rw [bit_ofNat hlo hmod, Nat.mod_eq_of_lt h32]; exact hn
  · next h32 =>
    rw [bit_ofNat hhi hmod, Nat.testBit_div_two_pow, show n % 32 + 32 = n by omega]
    exact hn

section
variable (s : State) (p : Nat)

/-- An EPOCH frame of the epoch held, or a higher one in its content, is taken by a device other than 0. -/
theorem epoch_spec (h : LinkHdr) (m : EpochMsg) (pl : List Byte) (htakes : s.linkTakes p 5 h = true) (he : s.epoch ≤ m.epoch.toNat)
    (hdev : s.devNo ≠ 0) :
    let t := s.linkRx p 5 h pl (fun s => s.onEpoch m)
    (s.slkConfig = 1 → t.epoch = m.epoch.toNat ∧ (s.slk.role = rolePRIMARY → s.epoch < m.epoch.toNat → t.slk.role = roleSYNCING) ∧
      (s.slk.role = roleFORMING → t.slk.role = roleSYNCING)) ∧
    (s.slkConfig = 2 → m.members.getLsbD s.devNo = true → t.epoch = m.epoch.toNat ∧ t.slk.role = roleMEMBER ∧
      t.reg64 Reg.SLK_MEMBERS_LO = m.members.toNat) ∧
    (m.t0 ≠ 0 → t.csq.t0 = m.t0 ∧ t.csq.t0Set = true) := by
  intro t
  let u := s.frameIn p 5 h
  have hureg (o : Nat) : u.reg o = s.reg o := reg_congr (frameIn_regs s) o
  have hurole : u.slk.role = s.slk.role := by
    obtain ⟨_, _, _, _, hu⟩ := frameIn_eq s (p := p) (type := 5) (h := h)
    rw [show u = _ from hu]
  have huepoch : u.epoch = s.epoch := congrArg BitVec.toNat (hureg _)
  have hue : u.epoch ≤ m.epoch.toNat := huepoch ▸ he
  obtain ⟨hepoch, hlo, hhi, hctrl, hdevno⟩ := epochTaken_regs u m hue
  obtain ⟨hcsq, hrole⟩ := epochTaken_group u m hue
  rw [hurole, huepoch] at hrole
  have hvdev : (u.epochTaken m).devNo = s.devNo := by rw [State.devNo, State.devNo, State.fld', State.fld', hdevno, hureg]
  have hkeeps := keepsRole_epochPorts u m (by rw [hvdev]; exact hdev)
  have hwdev : (u.epochPorts m).devNo = s.devNo := hkeeps.devNo.trans hvdev
  have hwconf : (u.epochPorts m).slkConfig = s.slkConfig := by
    rw [State.slkConfig, State.slkConfig, State.fld', State.fld', hkeeps.reg, hctrl, hureg]
  obtain ⟨ports, ht⟩ := linkRx_takes_eq s htakes (pl := pl) (f := fun s => s.onEpoch m)
  rw [onEpoch_eq u m hue] at ht
  have htepoch (hsends : (u.epochPorts m).Sends (u.epochPorts m).epochRole) : t.epoch = m.epoch.toNat := by
    have hreg : t.reg Reg.SLK_EPOCH = (u.epochTaken m).reg Reg.SLK_EPOCH := by
      rw [show t = _ from ht]
      exact (reg_congr hsends.regs _).trans (hkeeps.reg _)
    exact (congrArg BitVec.toNat hreg).trans hepoch
  have htrole : t.slk.role = (u.epochPorts m).epochRole.slk.role := by rw [show t = _ from ht]
  refine ⟨fun hconf => ?_, fun hconf hmem => ?_, fun ht0 => ?_⟩
  · obtain ⟨hsends, hnew⟩ := epochRole_pair (u.epochPorts m) (hwconf.trans hconf)
    refine ⟨htepoch hsends, fun hprimary hlt => ?_, fun hforming => ?_⟩
    · have hsync : (u.epochPorts m).slk.role = roleSYNCING := hkeeps.role.trans (hrole.trans (if_pos ⟨hlt, hprimary⟩))
      exact htrole.trans (hnew.trans (if_pos (.inr hsync)))
    · have hform : (u.epochPorts m).slk.role = roleFORMING :=
        hkeeps.role.trans (hrole.trans (by rw [hforming]; exact if_neg (fun h => absurd h.2 (by decide))))
      exact htrole.trans (hnew.trans (if_pos (.inl hform)))
  · have hwlo := (hkeeps.reg _).trans hlo
    have hwhi := (hkeeps.reg _).trans hhi
    obtain ⟨hsends, hnew⟩ := epochRole_member (u.epochPorts m) (hwconf.trans hconf) (by rw [hwdev]; exact hdev)
      (member_members hwlo hwhi (by rw [hwdev]; exact hmem))
    have htreg (o : Nat) : t.reg o = (u.epochPorts m).reg o := by
      rw [show t = _ from ht]
      exact reg_congr hsends.regs o
    exact ⟨htepoch hsends, htrole.trans hnew, reg64_members ((htreg _).trans hwlo) ((htreg _).trans hwhi)⟩
  · have htcsq : t.csq = (u.epochTaken m).csq := by
      rw [show t = _ from ht]
      exact (keepsCsq_epochRole _).csq.trans hkeeps.sends.csq
    rw [htcsq]
    exact hcsq ht0

end

theorem exec_linkLock (p : Fin 6) (s : State) : exec (.linkLock p) s = .next (s.linkLock p) := rfl
theorem exec_linkDown (p : Fin 6) (s : State) : exec (.linkDown p) s = .next (s.linkDown p) := rfl
theorem exec_linkReplayTimeout (p : Fin 6) (s : State) (h : (s.linkPort p).retry ≠ []) :
    exec (.linkReplayTimeout p) s = .next ((s.reach ((s.linkPort p).ackAt + 10 * usT)).replay p) :=
  congrArg Host.Outcome.next (if_neg (by simpa using h))

/-- Settles O37: a row for the lock, the loss, the acknowledgement, the time-out and each frame of bring-up. -/
theorem linkPortCommandsHaveTheirEffect : Obligations.LinkPortCommandsHaveTheirEffect := by
  refine ⟨fun p s hon hdown => ⟨_, exec_linkLock p s, linkLock_spec s p hon hdown⟩, exec_linkDown,
    fun p h a s htakes htxq => ⟨_, rfl, linkCtl_spec s p h a htakes htxq⟩,
    fun p s hretry => ⟨_, exec_linkReplayTimeout p s hretry, replayTimeout_spec s p hretry⟩,
    fun p h m s htakes hgood hheld hphase => ⟨_, rfl, hello_spec s p h m _ htakes hgood hheld hphase⟩,
    fun p h reply crcOk s htakes => ⟨_, rfl, echo_spec s p h reply crcOk htakes⟩,
    fun p h v s htakes hhas hphase => ⟨_, rfl, feat_spec s p h v htakes hhas hphase⟩,
    fun p h m s htakes he hdev => ⟨_, rfl, epoch_spec s p h m _ htakes he hdev⟩⟩

end Sys2Proof.Machine
end

section
/-! PROOFS. The Fold and the track cache leave the link as it was. -/

namespace Sys2Proof.Machine

/-- The Salarur Link, its ports and what it holds of pair and drove stay. -/
structure State.KeepsSlk (s t : State) : Prop where
  slk : t.slk = s.slk

theorem State.KeepsSlk.refl (s : State) : s.KeepsSlk s := ⟨rfl⟩

theorem State.KeepsSlk.trans {s t r : State} (h : s.KeepsSlk t) (h' : t.KeepsSlk r) : s.KeepsSlk r := ⟨h'.slk.trans h.slk⟩

theorem State.KeepsSlk.ite {s t r : State} {p : Prop} [Decidable p] (ht : s.KeepsSlk t) (hr : s.KeepsSlk r) :
    s.KeepsSlk (if p then t else r) := by split <;> assumption

theorem State.KeepsSlk.iteSnd {α : Type} {s : State} {p q : α × State} {c : Prop} [Decidable c] (hp : s.KeepsSlk p.2)
    (hq : s.KeepsSlk q.2) : s.KeepsSlk (if c then p else q).2 := by split <;> assumption

theorem State.KeepsSlk.foldl {α : Type} {f : State → α → State} {s t : State} (h : s.KeepsSlk t)
    (hf : ∀ (s : State) a, s.KeepsSlk (f s a)) (l : List α) : s.KeepsSlk (l.foldl f t) :=
  List.foldlRecOn (motive := State.KeepsSlk s) l f h (fun u hu a _ => hu.trans (hf u a))

section
variable (s : State) (n : Nat)

theorem keepsSlk_setReg (o : Nat) (v : W32) : s.KeepsSlk (s.setReg o v) := ⟨s.setReg_slk o v⟩
theorem keepsSlk_setFld (o lo w v : Nat) : s.KeepsSlk (s.setFld o lo w v) := ⟨s.setFld_slk o lo w v⟩
theorem keepsSlk_setBit (o b : Nat) (v : Bool) : s.KeepsSlk (s.setBit o b v) := ⟨s.setBit_slk o b v⟩
theorem keepsSlk_countSat (o lo w k : Nat) : s.KeepsSlk (s.countSat o lo w k) := ⟨s.countSat_slk o lo w k⟩
theorem keepsSlk_countWrap (o lo w k : Nat) : s.KeepsSlk (s.countWrap o lo w k) := ⟨s.countWrap_slk o lo w k⟩
theorem keepsSlk_event (a b c d : Nat) (bs : List Byte) : s.KeepsSlk (s.event a b c d bs) := ⟨s.event_slk a b c d bs⟩
theorem keepsSlk_setSeqF (off w v : Nat) : s.KeepsSlk (s.setSeqF n off w v) := ⟨s.poke_slk _ _ _⟩
theorem keepsSlk_setSeqSt (st : Nat) : s.KeepsSlk (s.setSeqSt n st) := ⟨s.poke_slk _ _ _⟩
theorem keepsSlk_setSeqFlag (k : Nat) (v : Bool) : s.KeepsSlk (s.setSeqFlag n k v) := ⟨s.poke_slk _ _ _⟩
theorem keepsSlk_setTrk (b : List Byte) : s.KeepsSlk (s.setTrk n b) := ⟨s.store_slk _ _⟩

/-! ### Sequences and their pages -/

theorem keepsSlk_flockJudge (f : Nat) : s.KeepsSlk (s.flockJudge f) := by
  unfold State.flockJudge
  dsimp only
  split
  · exact (keepsSlk_setFld s _ _ _ _).trans (keepsSlk_event _ _ _ _ _ _)
  · split
    · have hfld := keepsSlk_setFld s (Reg.TAC_FLOCK_SEQ f) 20 2 1
      generalize s.setFld (Reg.TAC_FLOCK_SEQ f) 20 2 1 = t at hfld ⊢
      exact hfld.trans ⟨rfl⟩
    · exact .refl s

theorem keepsSlk_uncharge (f k : Nat) : s.KeepsSlk (s.uncharge f k) := (keepsSlk_setReg s _ _).trans (keepsSlk_flockJudge _ f)

theorem keepsSlk_returnRetired (r : Retire) : s.KeepsSlk (s.returnRetired r) := by
  unfold State.returnRetired
  extract_lets _ t
  have ht : s.KeepsSlk t := .ite (.refl s) ⟨rfl⟩
  refine ht.foldl (fun u x => ?_) _
  obtain ⟨a, c⟩ := x
  refine .trans ?_ (keepsSlk_uncharge _ _ _)
  exact ⟨rfl⟩

theorem keepsSlk_sweepRetired : s.KeepsSlk s.sweepRetired := by
  unfold State.sweepRetired
  refine .trans ?_ ((State.KeepsSlk.refl _).foldl keepsSlk_returnRetired _)
  exact ⟨rfl⟩

theorem keepsSlk_recount : s.KeepsSlk (s.recount n) := by
  unfold State.recount
  dsimp only
  exact ((keepsSlk_setSeqF s n _ _ _).trans (keepsSlk_setSeqF _ n _ _ _)).trans (keepsSlk_setSeqF _ n _ _ _)

/-- The table of a sequence is replaced, and the old one retired. -/
theorem keepsSlk_putTable (b v k : Nat) (gone : List (Nat × Nat)) :
    s.KeepsSlk ((((((s.retireVersion n gone).setSeqF n 8 8 (b + 2 ^ 48 * v)).setSeqF n 6 1 k).recount n).heldNew n).sweepRetired) := by
  have hret : s.KeepsSlk (s.retireVersion n gone) := ⟨rfl⟩
  have hset := (hret.trans (keepsSlk_setSeqF _ n 8 8 (b + 2 ^ 48 * v))).trans (keepsSlk_setSeqF _ n 6 1 k)
  have hheld {t : State} (ht : s.KeepsSlk t) : s.KeepsSlk (t.heldNew n) := ht.trans ⟨rfl⟩
  exact (hheld (hset.trans (keepsSlk_recount _ n))).trans (keepsSlk_sweepRetired _)

theorem keepsSlk_takeBlock : s.KeepsSlk s.takeBlock.2 := by
  unfold State.takeBlock
  dsimp only
  exact .iteSnd (.refl s) ⟨rfl⟩

theorem keepsSlk_edit {new : List Nat} {gone : List (Nat × Nat)} {t : State} (h : s.edit n new gone = some t) : s.KeepsSlk t := by
  unfold State.edit at h
  split at h
  next b s' hb =>
  dsimp only at h
  split at h
  · cases h
    exact keepsSlk_putTable s n _ _ _ _
  · split at h
    · cases h
    · cases h
      have hs' : s.KeepsSlk s' := by
        have := keepsSlk_takeBlock s
        rwa [hb] at this
      exact (hs'.trans ⟨s'.store_slk _ _⟩).trans (keepsSlk_putTable _ n _ _ _ _)

theorem keepsSlk_takePage (c : Nat) (floor : Bool) : s.KeepsSlk (s.takePage c floor).2 := by
  unfold State.takePage
  dsimp only
  exact .iteSnd (.refl s) ⟨rfl⟩

theorem keepsSlk_charge (f k : Nat) : s.KeepsSlk (s.charge f k) := keepsSlk_setReg s _ _

theorem keepsSlk_recycle {t : State} (h : s.recycle n = some t) : s.KeepsSlk t := by
  unfold State.recycle at h
  split at h
  · cases h
  · exact keepsSlk_edit s n h

theorem keepsSlk_newPage {t : State} (h : s.newPage n = some t) : s.KeepsSlk t := by
  unfold State.newPage at h
  dsimp only at h
  split at h
  · cases h
  · split at h
    · cases h
    · refine .trans (.trans (.iteSnd ?_ ?_) (keepsSlk_charge _ _ _)) (keepsSlk_edit _ n h)
      · exact keepsSlk_takePage s _ true
      · exact keepsSlk_takePage s _ false

theorem keepsSlk_makeRoom {t : State} (h : s.makeRoom n = some t) : s.KeepsSlk t := by
  unfold State.makeRoom at h
  split at h
  · cases h
    exact .refl s
  · split at h
    · exact keepsSlk_recycle s n h
    · split at h
      · next u hu =>
        cases h
        exact keepsSlk_newPage s n hu
      · split at h
        · obtain ⟨u, hu, rfl⟩ := Option.map_eq_some_iff.1 h
          exact (keepsSlk_recycle s n hu).trans ((keepsSlk_setSeqFlag u n 1 true).trans (keepsSlk_setFld _ _ _ _ _))
        · cases h

theorem keepsSlk_installEntry {e : List Byte} {t : State} (h : s.installEntry n e = some t) : s.KeepsSlk t := by
  unfold State.installEntry at h
  obtain ⟨u, hu, hput⟩ := Option.bind_eq_some_iff.1 h
  obtain ⟨a, -, rfl⟩ := Option.map_eq_some_iff.1 hput
  have hstore (b : List Byte) : u.KeepsSlk (u.store a b) := ⟨u.store_slk _ _⟩
  have hset {v : State} (hv : u.KeepsSlk v) (off w x : Nat) : u.KeepsSlk (v.setSeqF n off w x) := hv.trans (keepsSlk_setSeqF v n off w x)
  refine (keepsSlk_makeRoom s n hu).trans ?_
  exact ((hset (hset (hset (hstore _) _ _ _) _ _ _) _ _ _).trans (keepsSlk_recount _ n)).trans (keepsSlk_sweepRetired _)

theorem keepsSlk_doPgt (op arg : Nat) : s.KeepsSlk (s.doPgt n op arg).2 := by
  unfold State.doPgt
  split
  · exact .refl s
  · refine .iteSnd (.refl s) (.iteSnd ?_ (.iteSnd (.refl s) ?_))
    · split
      · next h => exact keepsSlk_edit s n h
      · exact .refl s
    · split
      · next a t h =>
        have := keepsSlk_takePage s arg true
        rwa [h] at this
      · next a t h =>
        have ht : s.KeepsSlk t := by
          have := keepsSlk_takePage s arg true
          rwa [h] at this
        split
        · next u hu => exact (ht.trans (keepsSlk_charge t _ _)).trans (keepsSlk_edit _ n hu)
        · exact ht

theorem keepsSlk_activeAdd (d : Int) : s.KeepsSlk (s.activeAdd d) := keepsSlk_setReg s _ _
theorem keepsSlk_flockSeqAdd (f : Nat) (d : Int) : s.KeepsSlk (s.flockSeqAdd f d) := keepsSlk_setFld s _ _ _ _

theorem keepsSlk_doClose : s.KeepsSlk (s.doClose n).2 := by
  unfold State.doClose
  split
  · exact .refl s
  · extract_lets f t r v _ w
    have ht : s.KeepsSlk t := .ite (keepsSlk_activeAdd s _) (.refl s)
    have hr : s.KeepsSlk r := (ht.trans (keepsSlk_flockSeqAdd t f (-1))).trans ⟨rfl⟩
    have hv : s.KeepsSlk v := hr.trans ⟨State.zero_slk ..⟩
    have hw : s.KeepsSlk w := hv.trans ⟨rfl⟩
    exact hw.trans (keepsSlk_sweepRetired w)

theorem keepsSlk_doOpen (tid f : Nat) : s.KeepsSlk (s.doOpen n tid f).2 := by
  unfold State.doOpen
  dsimp only
  have hzero : s.KeepsSlk (s.zero (s.seqAddr n) 64) := ⟨s.zero_slk _ _⟩
  have hset := (hzero.trans (keepsSlk_setSeqF _ n 0 4 tid)).trans (keepsSlk_setSeqF _ n 4 2 (f + 4096))
  exact .iteSnd ((hset.trans (keepsSlk_activeAdd _ 1)).trans (keepsSlk_flockSeqAdd _ f 1)) (.refl s)

theorem keepsSlk_doFallow : s.KeepsSlk (s.doFallow n).2 := by
  unfold State.doFallow
  exact .iteSnd ((keepsSlk_setSeqSt s n 2).trans (keepsSlk_activeAdd _ _)) (.refl s)

theorem keepsSlk_doActivate : s.KeepsSlk (s.doActivate n).2 := by
  unfold State.doActivate
  have hact := (keepsSlk_setSeqSt s n 1).trans (keepsSlk_activeAdd _ 1)
  refine .iteSnd (.refl s) (.iteSnd (.refl s) ?_)
  exact .ite ((hact.trans (keepsSlk_setSeqFlag _ n 2 false)).trans (keepsSlk_setSeqFlag _ n 1 true)) hact

theorem keepsSlk_refuseAccess (h : Option Nat) (id : Nat) (k : Kind) (a : Nat) : s.KeepsSlk (s.refuseAccess h id k a) :=
  ⟨(congrArg State.slk (busRest_refuseAccess s h id k a) :)⟩

theorem keepsSlk_fldCmd {op : State → Nat × State} (h : s.KeepsSlk (op s).2) : s.KeepsSlk (s.fldCmd op).2 := by
  unfold State.fldCmd
  split
  · exact h
  · exact keepsSlk_refuseAccess s (some 37) idFld .command Reg.TAC_CMD_SEQ

/-! ### Records of the Fold -/

theorem keepsSlk_takeSlot : s.KeepsSlk (s.takeSlot n) := .ite ⟨rfl⟩ ⟨rfl⟩

theorem keepsSlk_freeTrk : s.KeepsSlk (s.freeTrk n) := ⟨s.zero_slk _ _⟩

theorem keepsSlk_giveSlot : s.KeepsSlk (s.giveSlot n) := (keepsSlk_freeTrk s n).trans ⟨rfl⟩

theorem keepsSlk_putTrack (b : List Byte) (t : Nat) : s.KeepsSlk (s.putTrack n b t) := by
  unfold State.putTrack
  extract_lets old new u
  have hu : s.KeepsSlk u := (State.KeepsSlk.ite (keepsSlk_takeSlot s n) (.refl s)).trans (keepsSlk_setTrk _ n b)
  exact .ite (.ite (.refl s) (keepsSlk_giveSlot s n)) (hu.trans ⟨rfl⟩)

theorem keepsSlk_seqFollow (b : List Byte) : s.KeepsSlk (s.seqFollow n b) := by
  unfold State.seqFollow
  extract_lets st run t u
  have ht : s.KeepsSlk t := .ite (keepsSlk_fldCmd s (keepsSlk_doClose s n)) (.refl s)
  have hu : s.KeepsSlk u := .ite (ht.trans (keepsSlk_fldCmd t (keepsSlk_doOpen t n _ _))) ht
  exact .ite (hu.trans (keepsSlk_fldCmd u (keepsSlk_doFallow u n))) (.ite (hu.trans (keepsSlk_fldCmd u (keepsSlk_doActivate u n))) hu)

end

end Sys2Proof.Machine
end

section
/-! PROOFS. A pair streams, applies, acknowledges, promotes and switches over (R608 to R618). -/

namespace Sys2Proof.Machine

section
variable (s : State) {p : Nat} {h : LinkHdr} {pl : List Byte}

/-! ### What a received frame leaves (R598) -/

/-- What the link holds of its pair or drove, apart from its ports and whom it heard. -/
def Slk.held (k : Slk) : Slk := { k with ports := [], heard := [], bellLost := false }

theorem frameIn_slk {type : Nat} : (s.frameIn p type h).slk.held = s.slk.held := by
  obtain ⟨_, _, _, _, hu⟩ := frameIn_eq s (p := p) (type := type) (h := h)
  rw [hu]
  rfl

theorem frameIn_role {type : Nat} : (s.frameIn p type h).slk.role = s.slk.role := (congrArg Slk.role (frameIn_slk s) :)

theorem frameIn_takesDelta {type : Nat} : (s.frameIn p type h).takesDelta = s.takesDelta := by
  rw [State.takesDelta, State.takesDelta, frameIn_role]

theorem frameIn_entrySize {type : Nat} : (s.frameIn p type h).entrySize = s.entrySize := by
  rw [State.entrySize, State.entrySize, fld_congr (frameIn_regs s)]

/-! ### The delta is gathered (R609) -/

/-- A delta frame in form joins what is gathered, and nothing else changes. -/
theorem delta_gathers {type : Nat} (htakes : s.linkTakes p type h = true) (hdelta : s.takesDelta = true) {ok : State → Bool}
    (hok : ok (s.frameIn p type h) = true) (slots : List Nat) (bytes : List Byte) (put : Slk → Slk) :
    ∃ ports d, (s.linkRx p type h pl (fun s => s.deltaFrame p (ok s) slots bytes put)).slk =
        { put (s.frameIn p type h).slk with deltaBytes := d, ports := ports } ∧
      s.SameMemory (s.linkRx p type h pl (fun s => s.deltaFrame p (ok s) slots bytes put)) := by
  obtain ⟨ports, ht⟩ := linkRx_takes_eq s htakes (pl := pl) (f := fun s => s.deltaFrame p (ok s) slots bytes put)
  let u := s.frameIn p type h
  have hu : u.deltaFrame p (ok u) slots bytes put = { u with slk := { put u.slk with deltaBytes := u.slk.deltaBytes ++ pad8 bytes } } := by
    unfold State.deltaFrame
    rw [if_neg (by rw [frameIn_takesDelta, hdelta]; decide), if_neg (by rw [hok]; decide)]
  rw [ht]
  dsimp only
  rw [hu]
  exact ⟨_, _, rfl, State.sameMemory_of_mem (frameIn_mem s)⟩

theorem deltaRec_spec (l : List DeltaRec) (htakes : s.linkTakes p 0x10 h = true) (hdelta : s.takesDelta = true)
    (hform : l.all (fun r => recForm r.slot.toNat r.bytes) = true) (slots : List Nat) (bytes : List Byte) :
    let t := s.linkRx p 0x10 h pl (fun s => s.deltaFrame p (l.all (fun r => recForm r.slot.toNat r.bytes)) slots bytes
      (fun k => { k with recs := k.recs ++ l }))
    t.slk.recs = s.slk.recs ++ l ∧ t.slk.role = s.slk.role ∧ s.SameMemory t := by
  obtain ⟨ports, d, ht, hmem⟩ := delta_gathers s htakes hdelta (pl := pl) (ok := fun _ => l.all (fun r => recForm r.slot.toNat r.bytes))
      hform
    slots bytes (fun k => { k with recs := k.recs ++ l })
  have hrecs : (s.frameIn p 0x10 h).slk.recs = s.slk.recs := (congrArg Slk.recs (frameIn_slk s) :)
  exact ⟨(congrArg Slk.recs ht).trans (congrArg (· ++ l) hrecs), (congrArg Slk.role ht).trans (frameIn_role s), hmem⟩

theorem deltaKv_spec (l : List KvItem) (htakes : s.linkTakes p 0x11 h = true) (hdelta : s.takesDelta = true)
    (hform : l.all (fun k => k.bytes.length == s.entrySize) = true) (slots : List Nat) (bytes : List Byte) :
    let t := s.linkRx p 0x11 h pl (fun s => s.deltaFrame p (l.all (fun k => k.bytes.length == s.entrySize)) slots bytes
      (fun k => { k with kvs := k.kvs ++ l }))
    t.slk.kvs = s.slk.kvs ++ l ∧ t.slk.role = s.slk.role ∧ s.SameMemory t := by
  obtain ⟨ports, d, ht, hmem⟩ := delta_gathers s htakes hdelta (pl := pl) (ok := fun s => l.all (fun k => k.bytes.length == s.entrySize))
    (by rw [frameIn_entrySize]; exact hform) slots bytes (fun k => { k with kvs := k.kvs ++ l })
  have hkvs : (s.frameIn p 0x11 h).slk.kvs = s.slk.kvs := (congrArg Slk.kvs (frameIn_slk s) :)
  exact ⟨(congrArg Slk.kvs ht).trans (congrArg (· ++ l) hkvs), (congrArg Slk.role ht).trans (frameIn_role s), hmem⟩

theorem deltaSeq_spec (l : List SeqItem) (htakes : s.linkTakes p 0x12 h = true) (hdelta : s.takesDelta = true)
    (hform : l.all (fun q => q.state.toNat ≤ 2) = true) (slots : List Nat) (bytes : List Byte) :
    let t := s.linkRx p 0x12 h pl (fun s => s.deltaFrame p (l.all (fun q => q.state.toNat ≤ 2)) slots bytes
      (fun k => { k with seqs := k.seqs ++ l }))
    t.slk.seqs = s.slk.seqs ++ l ∧ t.slk.role = s.slk.role ∧ s.SameMemory t := by
  obtain ⟨ports, d, ht, hmem⟩ := delta_gathers s htakes hdelta (pl := pl) (ok := fun _ => l.all (fun q => q.state.toNat ≤ 2)) hform
    slots bytes (fun k => { k with seqs := k.seqs ++ l })
  have hseqs : (s.frameIn p 0x12 h).slk.seqs = s.slk.seqs := (congrArg Slk.seqs (frameIn_slk s) :)
  exact ⟨(congrArg Slk.seqs ht).trans (congrArg (· ++ l) hseqs), (congrArg Slk.role ht).trans (frameIn_role s), hmem⟩

end

/-! ### The delta is applied (R610, R611, R613) -/

/-- A fold of operations that keep the device's role keeps it. -/
theorem foldl_role {α : Type} {f : State → α → State} (hf : ∀ t a, (f t a).slk.role = t.slk.role) (l : List α) (s : State) :
    (l.foldl f s).slk.role = s.slk.role :=
  List.foldlRecOn (motive := fun t : State => t.slk.role = s.slk.role) l f rfl (fun t ht a _ => (hf t a).trans ht)

section
variable (s : State)

theorem State.KeepsSlk.role {s t : State} (h : s.KeepsSlk t) : t.slk.role = s.slk.role := congrArg Slk.role h.slk

theorem role_hotCompare (r : DeltaRec) : (s.hotCompare r).slk.role = s.slk.role := by
  unfold State.hotCompare
  dsimp only
  split
  · rfl
  · split
    · rw [State.event_slk]
    · rfl

theorem role_applyRec (i : Nat) (r : DeltaRec) : (s.applyRec i r).slk.role = s.slk.role := by
  unfold State.applyRec
  dsimp only
  have hput (t : State) := (keepsSlk_putTrack t r.slot.toNat r.bytes (t.tOf i / nsT)).trans (keepsSlk_seqFollow _ r.slot.toNat r.bytes)
  exact (hput (s.hotCompare r)).role.trans (role_hotCompare s r)

theorem role_applyDrop (q : SeqItem) : (s.applyDrop q).slk.role = s.slk.role := by
  unfold State.applyDrop
  dsimp only
  split
  · rfl
  · exact (keepsSlk_doPgt s _ _ _).role

theorem role_applyKv (k : KvItem) : (s.applyKv k).slk.role = s.slk.role := by
  unfold State.applyKv
  dsimp only
  split
  · rfl
  · split
    · next t ht => exact (keepsSlk_installEntry s _ ht).role
    · rfl

theorem role_checkSeq (q : SeqItem) : (s.checkSeq q).slk.role = s.slk.role := by
  unfold State.checkSeq
  dsimp only
  split
  · rfl
  · rfl

theorem role_applyDelta (i : Nat) : (s.applyDelta i).slk.role = s.slk.role := by
  unfold State.applyDelta
  dsimp only
  rw [foldl_role role_checkSeq, foldl_role role_applyKv, foldl_role role_applyDrop, foldl_role (fun t r => role_applyRec t i r)]

/-- A syncing device that has every copy is MIRROR; a device that is not syncing stays as it is. -/
theorem becomeMirror_slk : ∃ role copies done, s.becomeMirror.slk = { s.slk with role := role, copies := copies, syncDone := done } ∧
    (s.slk.role = roleMIRROR → role = roleMIRROR) := by
  unfold State.becomeMirror
  split
  · next hsync =>
    have hrole : s.slk.role ≠ roleMIRROR := fun he => by simp [he, roleMIRROR, roleSYNCING] at hsync
    dsimp only
    have hslk := (State.KeepsSlk.refl s).foldl (f := fun s n => ((s.fldCmd (fun s => s.doClose n)).2).giveSlot n)
      (fun t n => (keepsSlk_fldCmd t (keepsSlk_doClose t n)).trans (keepsSlk_giveSlot _ n))
      (s.tracks.filter (fun n => !s.slk.copies.any (fun (c : Nat × Nat) => c.1 == n)))
    rw [hslk.slk]
    exact ⟨_, _, _, rfl, fun he => absurd he hrole⟩
  · exact ⟨_, _, _, rfl, id⟩

/-- Whether the delta gathered is the whole delta of its step (R610). -/
def State.deltaWhole (s : State) (m : StepEnd) : Prop :=
  crc32c s.slk.deltaBytes = m.dcrc ∧ s.slk.recs.length = m.nrec ∧ s.slk.kvs.length = m.nkv ∧ s.slk.seqs.length = m.nseq

/-- The state whose delta of step i is applied and counted (R608, R610). -/
def State.deltaApplied (s : State) (i : Nat) (m : StepEnd) : State :=
  let s := (s.applyDelta i).dropDelta
  let s := { s with slk := { s.slk with lastStep := some i, lastEgo := m.ego, lastSeqs := m.seqs.map (fun (w : W32) => w.toNat)
                                        heldDets := s.slk.heldDets.filter (fun (p : Nat × Det) => decide (i < p.1)) } }
  s.countWrap Reg.SLK_DELTA_CNT 0 32 1

theorem onStepEnd_eq (i : Nat) (m : StepEnd) (hdelta : s.takesDelta = true) (hwhole : s.deltaWhole m) :
    let u := (s.deltaApplied i m).becomeMirror
    s.onStepEnd i m = if u.slk.role == roleMIRROR then u.sendPair 0x14 i 0 [] else u := by
  obtain ⟨hcrc, hrec, hkv, hseq⟩ := hwhole
  unfold State.onStepEnd
  rw [if_neg (by rw [hdelta]; decide), if_neg (by simp [hcrc, hrec, hkv, hseq])]
  rfl

/-- A whole delta is applied: nothing of it is held any more, and its step is the last one. -/
theorem onStepEnd_whole (i : Nat) (m : StepEnd) (hdelta : s.takesDelta = true) (hwhole : s.deltaWhole m) :
    let t := s.onStepEnd i m
    (t.slk.recs = [] ∧ t.slk.kvs = [] ∧ t.slk.seqs = [] ∧ t.slk.deltaBytes = []) ∧ t.slk.lastStep = some i ∧ t.slk.lastEgo = m.ego ∧
      (s.slk.role = roleMIRROR → t.slk.role = roleMIRROR) := by
  intro t
  let u := (s.deltaApplied i m).becomeMirror
  have ht : t = if u.slk.role == roleMIRROR then u.sendPair 0x14 i 0 [] else u := onStepEnd_eq s i m hdelta hwhole
  have hq : u.Queues t := ht ▸ .ite (queues_sendPair _ _ _ _ _) (.refl _)
  obtain ⟨role, copies, done, hu, hkeep⟩ := becomeMirror_slk (s.deltaApplied i m)
  have hrest : t.slk.noPorts = { (s.deltaApplied i m).slk with role := role, copies := copies, syncDone := done, ports := [] } :=
    hq.rest.trans (by rw [show u.slk = _ from hu]; rfl)
  have hrole : (s.deltaApplied i m).slk.role = s.slk.role := role_applyDelta s i
  exact ⟨⟨(congrArg Slk.recs hrest :), (congrArg Slk.kvs hrest :), (congrArg Slk.seqs hrest :), (congrArg Slk.deltaBytes hrest :)⟩,
    (congrArg Slk.lastStep hrest :), (congrArg Slk.lastEgo hrest :),
    fun hmirror => (congrArg Slk.role hrest : t.slk.role = role).trans (hkeep (hrole.trans hmirror))⟩

/-- A delta that is not whole sends the device to SYNCING. -/
theorem onStepEnd_broken (i : Nat) (m : StepEnd) (hdelta : s.takesDelta = true) (hbroken : ¬ s.deltaWhole m) :
    s.onStepEnd i m = s.enterSyncing := by
  unfold State.onStepEnd
  rw [if_neg (by rw [hdelta]; decide), if_pos]
  by_contra h
  simp only [Bool.or_eq_true, bne_iff_ne, ne_eq, not_or, not_not] at h
  exact hbroken ⟨h.1.1.1, h.1.1.2, h.1.2, h.2⟩

variable {p : Nat} {h : LinkHdr} {pl : List Byte}

theorem stepEnd_spec (m : StepEnd) (htakes : s.linkTakes p 0x13 h = true) (hdelta : s.takesDelta = true) :
    let ok := crc32c s.slk.deltaBytes = m.dcrc ∧ s.slk.recs.length = m.nrec ∧ s.slk.kvs.length = m.nkv ∧ s.slk.seqs.length = m.nseq
    let t := s.linkRx p 0x13 h pl (fun s => s.onStepEnd h.step m)
    t.slk.recs = [] ∧ t.slk.kvs = [] ∧ t.slk.seqs = [] ∧ t.slk.deltaBytes = [] ∧
      (ok → t.slk.lastStep = some h.step ∧ t.slk.lastEgo = m.ego ∧ (s.slk.role = roleMIRROR → t.slk.role = roleMIRROR)) ∧
      (¬ ok → t.slk.role = roleSYNCING ∧ t.slk.lastStep = s.slk.lastStep) := by
  intro ok t
  let u := s.frameIn p 0x13 h
  obtain ⟨ports, ht⟩ := linkRx_takes_eq s htakes (pl := pl) (f := fun s => s.onStepEnd h.step m)
  have hslk : t.slk = { (u.onStepEnd h.step m).slk with ports := ports } := (congrArg State.slk ht :)
  have hudelta : u.takesDelta = true := (frameIn_takesDelta s).trans hdelta
  have hheld : u.slk.held = s.slk.held := frameIn_slk s
  have hwhole : u.deltaWhole m ↔ ok := by
    have hbytes : u.slk.deltaBytes = s.slk.deltaBytes := (congrArg Slk.deltaBytes hheld :)
    have hrecs : u.slk.recs = s.slk.recs := (congrArg Slk.recs hheld :)
    have hkvs : u.slk.kvs = s.slk.kvs := (congrArg Slk.kvs hheld :)
    have hseqs : u.slk.seqs = s.slk.seqs := (congrArg Slk.seqs hheld :)
    rw [State.deltaWhole, hbytes, hrecs, hkvs, hseqs]
  rw [hslk]
  by_cases hok : ok
  · obtain ⟨⟨hrecs, hkvs, hseqs, hbytes⟩, hstep, hego, hrole⟩ := onStepEnd_whole u h.step m hudelta (hwhole.2 hok)
    exact ⟨hrecs, hkvs, hseqs, hbytes, fun _ => ⟨hstep, hego, fun hm => hrole ((frameIn_role s).trans hm)⟩, fun hno => absurd hok hno⟩
  · have hrest := (queues_enterSyncing u).rest
    rw [onStepEnd_broken u h.step m hudelta (mt hwhole.1 hok)]
    refine ⟨(congrArg Slk.recs hrest :), (congrArg Slk.kvs hrest :), (congrArg Slk.seqs hrest :), (congrArg Slk.deltaBytes hrest :),
      fun hyes => absurd hyes hok, fun _ => ⟨role_enterSyncing u, ?_⟩⟩
    have hlast : u.enterSyncing.slk.lastStep = u.slk.lastStep := (congrArg Slk.lastStep hrest :)
    exact hlast.trans (congrArg Slk.lastStep hheld :)

/-! ### Acknowledgements and copies (R612, R613) -/

theorem setMirrorLost_spec (v : Bool) : ∃ hif, s.setMirrorLost v = { s with slk := { s.slk with mirrorLost := v }, hif := hif } := by
  unfold State.setMirrorLost
  split
  · next hsame =>
    have : s.slk.mirrorLost = v := by simpa using hsame
    exact ⟨s.hif, by rw [← this]⟩
  · exact ⟨_, rfl⟩

theorem deltaAck_spec (htakes : s.linkTakes p 0x14 h = true) (hrole : s.slk.role = rolePRIMARY) :
    let t := s.linkRx p 0x14 h pl State.onDeltaAck
    t.slk.noAck = 0 ∧ t.slk.peerMirror = true ∧ t.slk.mirrorLost = false ∧
      t.regN Reg.SLK_DELTA_CNT = (s.regN Reg.SLK_DELTA_CNT + 1) % 2 ^ 32 := by
  intro t
  let u := s.frameIn p 0x14 h
  obtain ⟨ports, ht⟩ := linkRx_takes_eq s htakes (pl := pl) (f := State.onDeltaAck)
  let v : State := { u.countWrap Reg.SLK_DELTA_CNT 0 32 1 with
    slk := { (u.countWrap Reg.SLK_DELTA_CNT 0 32 1).slk with noAck := 0, peerMirror := true } }
  have hv : u.onDeltaAck = v.setMirrorLost false := by
    unfold State.onDeltaAck
    rw [if_neg (by rw [show u.slk.role = _ from frameIn_role s, hrole]; decide)]
  obtain ⟨hif, hlost⟩ := setMirrorLost_spec v false
  have htv : t = { v with slk := { v.slk with mirrorLost := false, ports := ports }, hif := hif } := by
    rw [show t = _ from ht, hv, hlost]
  have hcount : v.regN Reg.SLK_DELTA_CNT = (u.regN Reg.SLK_DELTA_CNT + 1) % 2 ^ 32 := regN_countWrap u _ _
  have hregN : u.regN Reg.SLK_DELTA_CNT = s.regN Reg.SLK_DELTA_CNT := congrArg BitVec.toNat (reg_congr (frameIn_regs s) _)
  rw [htv]
  exact ⟨rfl, rfl, rfl, by rw [← hregN]; exact hcount⟩

theorem deltaAckTimeout_spec (hrole : s.slk.role = rolePRIMARY) (hmissed : 3 ≤ s.slk.noAck) :
    ∃ t, exec .deltaAckTimeout s = .next t ∧ t.slk.peerMirror = false ∧ t.slk.mirrorLost = true := by
  obtain ⟨hif, hlost⟩ := setMirrorLost_spec { s with slk := { s.slk with peerMirror := false } } true
  refine ⟨_, congrArg Host.Outcome.next ((if_pos (by simp [hrole, hmissed])).trans hlost), rfl, rfl⟩

theorem syncData_request (c : TrackCopy) (htakes : s.linkTakes p 0x15 h = true) (hask : h.flags.getLsbD 0 = true)
    (hrole : s.slk.role = rolePRIMARY) :
    let t := s.linkRx p 0x15 h pl (fun s => s.onSyncData p h c)
    t.slk.copyNext = some 0 ∧ t.slk.peerMirror = false := by
  intro t
  let u := s.frameIn p 0x15 h
  obtain ⟨ports, ht⟩ := linkRx_takes_eq s htakes (pl := pl) (f := fun s => s.onSyncData p h c)
  have hu : u.onSyncData p h c = { u with slk := { u.slk with copyNext := some 0, peerMirror := false } } := by
    unfold State.onSyncData
    rw [if_pos hask, if_pos (by rw [show u.slk.role = _ from frameIn_role s, hrole]; decide)]
  rw [show t = _ from ht, hu]
  exact ⟨rfl, rfl⟩

theorem syncData_copy (c : TrackCopy) (htakes : s.linkTakes p 0x15 h = true) (hask : h.flags.getLsbD 0 = false)
    (hrole : s.slk.role = roleSYNCING) (hform : recForm c.slot.toNat c.bytes = true)
    (hentries : c.entries.all (fun e => e.length == s.entrySize) = true)
    (hnewer : ∀ q ∈ s.slk.copies, q.1 = c.slot.toNat → q.2 < c.step) :
    let t := s.linkRx p 0x15 h pl (fun s => s.onSyncData p h c)
    (c.slot.toNat, c.step) ∈ t.slk.copies ∧ (h.flags.getLsbD 1 = true → t.slk.syncDone = true) := by
  intro t
  let u := s.frameIn p 0x15 h
  obtain ⟨ports, ht⟩ := linkRx_takes_eq s htakes (pl := pl) (f := fun s => s.onSyncData p h c)
  let v := u.copyTrack c.slot.toNat c
  let copies := (c.slot.toNat, c.step) :: u.slk.copies.filter (fun (q : Nat × Nat) => q.1 != c.slot.toNat)
  have hucopies : u.slk.copies = s.slk.copies := (congrArg Slk.copies (frameIn_slk s) :)
  have hnew : (!u.slk.copies.any (fun (q : Nat × Nat) => q.1 == c.slot.toNat && decide (c.step ≤ q.2))) = true := by
    rw [hucopies, Bool.not_eq_true', List.any_eq_false]
    intro q hq
    simp only [Bool.and_eq_true, beq_iff_eq, decide_eq_true_eq, not_and, Nat.not_le]
    exact hnewer q hq
  let w : State := { v with slk := { v.slk with copies := copies } }
  have hu : u.onSyncData p h c = if h.flags.getLsbD 1 then { w with slk := { w.slk with syncDone := true } } else w := by
    unfold State.onSyncData
    dsimp only
    rw [if_neg (by rw [hask]; decide), if_neg (by rw [show u.slk.role = _ from frameIn_role s, hrole]; decide), if_neg, if_pos hnew]
    rw [show u.entrySize = _ from frameIn_entrySize s, hentries, hform]
    decide
  have hslk : t.slk = { (if h.flags.getLsbD 1 then { w with slk := { w.slk with syncDone := true } } else w).slk with ports := ports } := by
    rw [show t = _ from ht, hu]
  rw [hslk]
  split
  · exact ⟨List.mem_cons_self, fun _ => rfl⟩
  · next hmore => exact ⟨List.mem_cons_self, fun hlast => absurd hlast hmore⟩

/-! ### Changes of primary (R614 to R618) -/

/-- A change of primary is counted, and changes nothing else but the log (R618). -/
theorem countFailover_spec (step primary : Nat) : let t := s.countFailover step primary
    t.regN Reg.SLK_FAILOVER = satAdd 32 (s.regN Reg.SLK_FAILOVER) 1 ∧ (∀ o ≠ Reg.SLK_FAILOVER, t.reg o = s.reg o) ∧ t.slk = s.slk ∧
      t.tbu = s.tbu ∧ t.mem = s.mem := by
  intro t
  have hregs : t.regs = (s.countSat Reg.SLK_FAILOVER 0 32 1).regs := State.event_regs ..
  refine ⟨?_, fun o ho => (reg_congr hregs o).trans (reg_setReg_ne _ _ ho), ?_, ?_, ?_⟩
  · rw [← regN_countSat]
    exact congrArg BitVec.toNat (reg_congr hregs _)
  · rw [show t.slk = _ from State.event_slk .., State.countSat_slk]
  · rw [show t.tbu = _ from State.event_tbu .., State.countSat_tbu]
  · rw [show t.mem = _ from State.event_mem .., State.countSat_mem]

theorem promoteMirror_spec (k : Nat) : let t := s.promoteMirror k
    t.slk.role = rolePRIMARY ∧ t.slk.handoff = none ∧ t.epoch = (s.epoch + 1) % 2 ^ 32 ∧ t.tbu = s.tbu ∧
      t.regN Reg.SLK_FAILOVER = satAdd 32 (s.regN Reg.SLK_FAILOVER) 1 ∧ t.mem = s.mem := by
  unfold State.promoteMirror
  extract_lets a last held _ b r _ c d t
  have hbslk : b.slk.role = rolePRIMARY ∧ b.slk.handoff = none := ⟨rfl, rfl⟩
  have hc : c.slk = b.slk ∧ c.regs = a.regs ∧ c.tbu = a.tbu ∧ c.mem = a.mem := by
    unfold c
    split
    · exact ⟨rfl, rfl, rfl, rfl⟩
    · exact ⟨rfl, rfl, rfl, rfl⟩
  obtain ⟨hcslk, hcregs, hctbu, hcmem⟩ := hc
  have ha : a.tbu = s.tbu ∧ a.mem = s.mem ∧ a.epoch = (s.epoch + 1) % 2 ^ 32 ∧ a.reg Reg.SLK_FAILOVER = s.reg Reg.SLK_FAILOVER := by
    have htbu : (s.raiseEpoch (s.epoch + 1)).tbu = s.tbu := (State.event_tbu ..).trans (State.setReg_tbu ..)
    have hmem : (s.raiseEpoch (s.epoch + 1)).mem = s.mem := (State.event_mem ..).trans (State.setReg_mem ..)
    exact ⟨htbu, hmem, epoch_raiseEpoch s _, reg_raiseEpoch s _ (by decide)⟩
  obtain ⟨hatbu, hamem, haepoch, hafail⟩ := ha
  have hdreg {o : Nat} (ho : o ≠ Reg.CSQ_SEQ 0 ∧ o ≠ Reg.CSQ_SEQ 1 ∧ o ≠ Reg.CSQ_SEQ 2) : d.reg o = a.reg o := by
    obtain ⟨h0, h1, h2⟩ := ho
    refine .trans ?_ (reg_congr hcregs o)
    exact (reg_setReg_ne _ _ h2).trans ((reg_setReg_ne _ _ h1).trans (reg_setReg_ne _ _ h0))
  obtain ⟨hfail, hreg, hslk, htbu, hmem⟩ := countFailover_spec d.deltaMark k d.devNo
  have hdslk : d.slk = c.slk := rfl
  have htslk : t.slk = d.deltaMark.slk := hslk
  have hepoch : t.reg Reg.SLK_EPOCH = a.reg Reg.SLK_EPOCH := (hreg _ (by decide)).trans (hdreg (by decide))
  have hfailover : d.reg Reg.SLK_FAILOVER = s.reg Reg.SLK_FAILOVER := (hdreg (by decide)).trans hafail
  refine ⟨?_, ?_, (congrArg BitVec.toNat hepoch).trans haepoch, htbu.trans (hctbu.trans hatbu), hfail.trans ?_, hmem.trans (hcmem.trans
      hamem)⟩
  · rw [htslk]
    exact (congrArg Slk.role (hdslk.trans hcslk)).trans hbslk.1
  · rw [htslk]
    exact (congrArg Slk.handoff (hdslk.trans hcslk)).trans hbslk.2
  · rw [State.regN, State.regN, ← hfailover]
    rfl

/-- At its step a planned change swaps the roles of the pair. -/
theorem handoffNow_spec (k : Nat) : let t := s.handoffNow k
    t.slk.handoff = none ∧ (s.slk.role = roleMIRROR → t.slk.role = rolePRIMARY) ∧ (s.slk.role = rolePRIMARY → t.slk.role = roleMIRROR) ∧
      t.tbu = s.tbu ∧ t.mem = s.mem := by
  unfold State.handoffNow
  by_cases hmirror : s.slk.role = roleMIRROR
  · rw [if_pos (by rw [hmirror]; decide)]
    obtain ⟨hrole, hhand, -, htbu, -, hmem⟩ := promoteMirror_spec s k
    exact ⟨hhand, fun _ => hrole, fun hp => absurd (hmirror.symm.trans hp) (by decide), htbu, hmem⟩
  · rw [if_neg (by simpa using hmirror)]
    by_cases hprimary : s.slk.role = rolePRIMARY
    · rw [if_pos (by rw [hprimary]; decide)]
      extract_lets seqs _ v
      obtain ⟨-, -, hslk, htbu, hmem⟩ := countFailover_spec v.dropDelta k v.pairPeer
      exact ⟨(congrArg Slk.handoff hslk :), fun hm => absurd hm hmirror, fun _ => (congrArg Slk.role hslk :), htbu, hmem⟩
    · rw [if_neg (by simpa using hprimary)]
      exact ⟨rfl, fun hm => absurd hm hmirror, fun hp => absurd hp hprimary, rfl, rfl⟩

theorem exec_stepEndTimeout {k : Nat} (hlast : s.slk.lastStep = some k) (hrole : s.slk.role = roleMIRROR) (ht0 : s.csq.t0Set = true) :
    exec .stepEndTimeout s = .next ((s.reach (s.tOf (k + 1) + s.lossTo)).promoteMirror (k + 1)) := by
  refine congrArg Host.Outcome.next ?_
  rw [hlast]
  exact if_pos (by rw [hrole, ht0]; decide)

theorem stepEndTimeout_spec (k : Nat) (hlast : s.slk.lastStep = some k) (hrole : s.slk.role = roleMIRROR) (ht0 : s.csq.t0Set = true) :
    ∃ t, exec .stepEndTimeout s = .next t ∧ t.slk.role = rolePRIMARY ∧ t.epoch = (s.epoch + 1) % 2 ^ 32 ∧
      t.now = max s.now (s.tOf (k + 1) + s.lossTo) ∧ t.regN Reg.SLK_FAILOVER = satAdd 32 (s.regN Reg.SLK_FAILOVER) 1 ∧ s.SameMemory t := by
  obtain ⟨hprimary, -, hepoch, htbu, hfail, hmem⟩ := promoteMirror_spec (s.reach (s.tOf (k + 1) + s.lossTo)) (k + 1)
  exact ⟨_, exec_stepEndTimeout s hlast hrole ht0, hprimary, hepoch, (congrArg Tbu.now htbu :), hfail, State.sameMemory_of_mem hmem⟩

theorem handoff_spec (k : Nat) (htakes : s.linkTakes p 0x16 h = true) (hrole : s.slk.role = roleMIRROR) :
    (s.linkRx p 0x16 h pl (fun s => if s.slk.role == roleMIRROR then { s with slk := { s.slk with handoff := some k } } else
        s)).slk.handoff =
      some k := by
  obtain ⟨ports, ht⟩ := linkRx_takes_eq s htakes (pl := pl)
    (f := fun s => if s.slk.role == roleMIRROR then { s with slk := { s.slk with handoff := some k } } else s)
  rw [ht]
  dsimp only
  rw [if_pos (by rw [frameIn_role s, hrole]; decide)]

theorem handoffStep_spec (k : Nat) (hhand : s.slk.handoff = some k) :
    ∃ t, exec .handoffStep s = .next t ∧ t.slk.handoff = none ∧ (s.slk.role = roleMIRROR → t.slk.role = rolePRIMARY) ∧
      (s.slk.role = rolePRIMARY → t.slk.role = roleMIRROR) ∧ t.now = (if s.csq.next ≤ k then max s.now (s.cOf k) else s.now) ∧
      s.SameMemory t := by
  let u := if s.csq.next ≤ k then s.reach (s.cOf k) else s
  have hexec : exec .handoffStep s = .next (u.handoffNow k) := by
    refine congrArg Host.Outcome.next ?_
    rw [hhand]
    exact (apply_ite (fun s : State => s.handoffNow k) _ _ _).symm
  have hu : u.slk = s.slk ∧ u.now = (if s.csq.next ≤ k then max s.now (s.cOf k) else s.now) ∧ u.mem = s.mem := by
    unfold u
    split
    · exact ⟨rfl, rfl, rfl⟩
    · exact ⟨rfl, rfl, rfl⟩
  obtain ⟨hslk, hnow, hmem⟩ := hu
  obtain ⟨hnone, hmirror, hprimary, htbu, htmem⟩ := handoffNow_spec u k
  rw [hslk] at hmirror hprimary
  exact ⟨_, hexec, hnone, hmirror, hprimary, (congrArg Tbu.now htbu).trans hnow, State.sameMemory_of_mem (htmem.trans hmem)⟩

/-! ### SLK_CMD (R617, R632) -/

section
variable (hopen : s.hostOpen .command Reg.SLK_CMD = true) (hfree : s.bit Reg.SLK_CMD_ST 16 = false)
include hopen

theorem exec_switchover : exec .switchover s = .next (s.doSlkCmd 1) := congrArg Host.Outcome.next (hostCmd_open hopen _)

theorem exec_resync : exec .resync s = .next (s.doSlkCmd 2) := congrArg Host.Outcome.next (hostCmd_open hopen _)

theorem exec_portReadmit (q : BitVec 3) : exec (.portReadmit q) s = .next (s.doSlkCmd (BitVec.ofNat 32 (3 + 256 * q.toNat))) :=
  congrArg Host.Outcome.next (hostCmd_open hopen _)

include hfree

theorem switchover_spec (hrole : s.slk.role = rolePRIMARY) (hmirror : s.slk.peerMirror = true) :
    ∃ t, exec .switchover s = .next t ∧ t.slk.handoff = some s.stepAhead ∧ t.fld' Reg.SLK_CMD_ST 0 8 = DONE := by
  let v : State := { s with slk := { s.slk with handoff := some s.stepAhead } }
  have hq := queues_sendPair v 0x16 s.stepAhead 0 (leBytes 8 s.stepAhead)
  have hdo : s.doSlkCmd 1 = (v.sendPair 0x16 s.stepAhead 0 (leBytes 8 s.stepAhead)).status Reg.SLK_CMD_ST DONE := by
    rw [State.doSlkCmd, State.unlessBusy, hfree, if_neg (by decide)]
    exact if_neg (by simp [hrole, hmirror])
  refine ⟨_, exec_switchover s hopen, ?_, ?_⟩
  · rw [hdo, State.status_slk]
    exact (congrArg Slk.handoff hq.rest :)
  · rw [hdo]
    exact fld_status _ _ _ (by decide)

theorem resync_spec (hrole : s.slk.role = roleMIRROR) :
    ∃ t, exec .resync s = .next t ∧ t.slk.role = roleSYNCING ∧ t.fld' Reg.SLK_CMD_ST 0 8 = DONE := by
  have hdo : s.doSlkCmd 2 = s.enterSyncing.status Reg.SLK_CMD_ST DONE := by
    rw [State.doSlkCmd, State.unlessBusy, hfree, if_neg (by decide)]
    exact if_pos (by rw [hrole]; decide)
  refine ⟨_, exec_resync s hopen, ?_, ?_⟩
  · rw [hdo, State.status_slk]
    exact role_enterSyncing s
  · rw [hdo]
    exact fld_status _ _ _ (by decide)

theorem portReadmit_spec (q : BitVec 3) (hq : q.toNat < 6) (hheld : (s.linkPort q.toNat).held = true) :
    ∃ t, exec (.portReadmit q) s = .next t ∧ (t.linkPort q.toNat).held = false ∧ t.fld' Reg.SLK_CMD_ST 0 8 = DONE := by
  let u := s.setLinkPort q.toNat { s.linkPort q.toNat with held := false, quar := false }
  let v := u.setVrec (304 + q.toNat) { u.vrec (304 + q.toNat) with hold := none }
  have hcode : fieldOf (BitVec.ofNat 32 (3 + 256 * q.toNat)) 0 3 = 3 ∧ fieldOf (BitVec.ofNat 32 (3 + 256 * q.toNat)) 8 3 = q.toNat := by
    rw [fieldOf, fieldOf, BitVec.toNat_ofNat]
    omega
  have hdo : s.doSlkCmd (BitVec.ofNat 32 (3 + 256 * q.toNat)) =
      (if (v.linkPort q.toNat).up then v.startBringUp q.toNat true else v).status Reg.SLK_CMD_ST DONE := by
    rw [State.doSlkCmd, State.unlessBusy, hfree, if_neg (by decide), hcode.1, hcode.2]
    exact if_pos (by simp [hq, hheld])
  have hvheld : (v.linkPort q.toNat).held = false := (congrArg LinkPort.held (linkPort_setLinkPort s q.toNat _) :)
  have hstart : ((v.startBringUp q.toNat true).linkPort q.toNat).held = false := by
    let y := v.linkPort q.toNat
    let x : LinkPort := { y with phase := 1, helloOk := false, echoOk := false, featOk := false, epochOk := false, good := 0 }
    have hq : (v.setLinkPort q.toNat x).Queues (v.startBringUp q.toNat true) := .ite (.refl _) (queues_linkPost _ _)
    have hcore := hq.port q.toNat
    rw [linkPort_setLinkPort] at hcore
    exact (congrArg LinkPort.held hcore :).trans hvheld
  refine ⟨_, exec_portReadmit s hopen q, ?_, ?_⟩
  · rw [hdo, State.linkPort, State.status_slk]
    change ((if (v.linkPort q.toNat).up then v.startBringUp q.toNat true else v).linkPort q.toNat).held = false
    split
    · exact hstart
    · exact hvheld
  · rw [hdo]
    exact fld_status _ _ _ (by decide)

end

end

/-- Settles O39: a row for each frame of the pair, each time-out and each write of SLK_CMD. -/
theorem pairCommandsHaveTheirEffect : Obligations.PairCommandsHaveTheirEffect := by
  refine ⟨fun p h l s htakes hdelta hform => ⟨_, rfl, deltaRec_spec s l htakes hdelta hform _ _⟩,
    fun p h l s htakes hdelta hform => ⟨_, rfl, deltaKv_spec s l htakes hdelta hform _ _⟩,
    fun p h l s htakes hdelta hform => ⟨_, rfl, deltaSeq_spec s l htakes hdelta hform _ _⟩,
    fun p h m s htakes hdelta => ⟨_, rfl, stepEnd_spec s m htakes hdelta⟩,
    fun p h s htakes hrole => ⟨_, rfl, deltaAck_spec s htakes hrole⟩, fun s hrole hmissed => deltaAckTimeout_spec s hrole hmissed,
    fun p h c s htakes => ⟨_, rfl, fun hask hrole => syncData_request s c htakes hask hrole,
      fun hask hrole hform hentries hnewer => syncData_copy s c htakes hask hrole hform hentries hnewer⟩,
    fun k s hlast hrole ht0 => stepEndTimeout_spec s k hlast hrole ht0,
    fun p h k s htakes hrole => ⟨_, rfl, handoff_spec s k htakes hrole⟩, fun k s hhand => handoffStep_spec s k hhand,
    fun s hopen hfree => ⟨fun hrole hmirror => switchover_spec s hopen hfree hrole hmirror, fun hrole => resync_spec s hopen hfree hrole,
      fun q hq hheld => portReadmit_spec s hopen hfree q hq hheld⟩⟩

end Sys2Proof.Machine
end

section
/-! PROOFS. A write to memory leaves the registers of the link (R18, R529, R532, R554). -/

namespace Sys2Proof.Machine

/-- The registers of SLK stay. -/
structure State.KeepsSlkRegs (s t : State) : Prop where
  regs : ∀ o, 0x1000000 ≤ o → t.reg o = s.reg o

theorem State.KeepsSlkRegs.refl (s : State) : s.KeepsSlkRegs s := ⟨fun _ _ => rfl⟩

theorem State.KeepsSlkRegs.trans {s t r : State} (h : s.KeepsSlkRegs t) (h' : t.KeepsSlkRegs r) : s.KeepsSlkRegs r :=
  ⟨fun o ho => (h'.regs o ho).trans (h.regs o ho)⟩

theorem State.KeepsSlkRegs.ite {s t r : State} {p : Prop} [Decidable p] (ht : s.KeepsSlkRegs t) (hr : s.KeepsSlkRegs r) :
    s.KeepsSlkRegs (if p then t else r) := by split <;> assumption

theorem State.KeepsSlkRegs.of_eq {s t : State} (h : t.regs = s.regs) : s.KeepsSlkRegs t := ⟨fun o _ => reg_congr h o⟩

section
variable {s t : State} (h : s.KeepsSlkRegs t) {o : Nat} (ho : o < 0x1000000)
include h ho

theorem State.KeepsSlkRegs.setReg (v : W32) : s.KeepsSlkRegs (t.setReg o v) :=
  ⟨fun o' ho' => (reg_setReg_ne t v (by omega)).trans (h.regs o' ho')⟩

theorem State.KeepsSlkRegs.setFld (lo w v : Nat) : s.KeepsSlkRegs (t.setFld o lo w v) := h.setReg ho _
theorem State.KeepsSlkRegs.setBit (b : Nat) (v : Bool) : s.KeepsSlkRegs (t.setBit o b v) := h.setReg ho _
theorem State.KeepsSlkRegs.countSat (lo w n : Nat) : s.KeepsSlkRegs (t.countSat o lo w n) := h.setReg ho _
theorem State.KeepsSlkRegs.countWrap (lo w n : Nat) : s.KeepsSlkRegs (t.countWrap o lo w n) := h.setReg ho _

end

section
variable (s : State)

theorem keepsSlkRegs_logError (addr id kind nsym array bank dq : Nat) : s.KeepsSlkRegs (s.logError addr id kind nsym array bank dq) := by
  unfold State.logError
  extract_lets head newest same e _ t u
  have ht : s.KeepsSlkRegs t := .of_eq rfl
  have hu : s.KeepsSlkRegs u := .ite (ht.setBit (by decide) _ _) ht
  split
  · cases newest <;> exact .of_eq rfl
  · exact (hu.setFld (by decide) _ _ _).countWrap (by decide) _ _ _

theorem keepsSlkRegs_corrected (id array loc kindX : Nat) : s.KeepsSlkRegs (s.corrected id array loc kindX) := by
  unfold State.corrected
  extract_lets n dram pins t _ u
  have hheal : s.KeepsSlkRegs (s.heal array loc) := .of_eq rfl
  have ht : s.KeepsSlkRegs t := hheal.countSat (by split <;> decide) _ _ _
  have hu : s.KeepsSlkRegs u := ht.trans (.of_eq rfl)
  exact .ite (hu.trans (keepsSlkRegs_logError _ _ _ _ _ _ _ _)) (hu.trans (keepsSlkRegs_logError _ _ _ _ _ _ _ _))

theorem keepsSlkRegs_raiseStepDoubt : s.KeepsSlkRegs s.raiseStepDoubt := by
  refine State.KeepsSlkRegs.countSat ?_ (o := Reg.SAF_DOUBT_CNT) (by decide) _ _ _
  exact .of_eq rfl

theorem keepsSlkRegs_uncorrectable (id array loc kindX : Nat) : s.KeepsSlkRegs (s.uncorrectable id array loc kindX) := by
  unfold State.uncorrectable
  extract_lets dram inj t _ _ u addr kind v w
  have ht : s.KeepsSlkRegs t := (State.KeepsSlkRegs.refl s).countSat (by split <;> decide) _ _ _
  have hset : s.KeepsSlkRegs (t.setBit Reg.MEM_STATUS_W1C 0 true) := ht.setBit (by decide) _ _
  have hu : s.KeepsSlkRegs u := hset.trans (.of_eq rfl)
  have hw : s.KeepsSlkRegs w := (hu.trans (keepsSlkRegs_logError _ _ _ _ _ _ _ _)).trans (.of_eq (State.event_regs ..))
  exact .ite (hw.trans (keepsSlkRegs_raiseStepDoubt w)) hw

theorem keepsSlkRegs_checkRead (id a n kindX : Nat) : s.KeepsSlkRegs (s.checkRead id a n kindX).2 := by
  unfold State.checkRead
  split
  · exact .refl s
  · refine List.foldlRecOn (motive := fun p : Bool × State => s.KeepsSlkRegs p.2) _ _ (.refl s) (fun p hp xy _ => ?_)
    obtain ⟨ok, t⟩ := p
    obtain ⟨x, y⟩ := xy
    dsimp -zeta only
    extract_lets d u
    have hu : s.KeepsSlkRegs u := .ite (hp.countSat (by decide) _ _ _) hp
    split
    · exact hp
    · split
      · exact hu.trans (keepsSlkRegs_corrected u _ _ _ _)
      · exact hu.trans (keepsSlkRegs_uncorrectable u _ _ _ _)

theorem keepsSlkRegs_drawSyms (m n : Nat) : s.KeepsSlkRegs (s.drawSyms m n).2 := by
  induction n with
  | zero => exact .refl s
  | succ n ih => exact ih.trans (.of_eq rfl)

theorem keepsSlkRegs_rawStore (id a : Nat) (bs : List Byte) : s.KeepsSlkRegs (s.rawStore id a bs).2 := by
  unfold State.rawStore
  extract_lets n bad t u
  have ht : s.KeepsSlkRegs t :=
    .ite (.refl s) (List.foldlRecOn (motive := s.KeepsSlkRegs) _ (fun s (x, y) => s.heal x y) (.refl s) (fun _ hv _ _ => hv.trans (.of_eq
        rfl)))
  have hu : s.KeepsSlkRegs u := ht.trans (.of_eq rfl)
  split
  · exact keepsSlkRegs_checkRead s id a n 0
  · split
    · split
      · exact (hu.trans (keepsSlkRegs_drawSyms u _ _)).trans (.of_eq rfl)
      · exact hu
    · exact hu

theorem keepsSlkRegs_refuseAccess (h : Option Nat) (id : Nat) (k : Kind) (a : Nat) : s.KeepsSlkRegs (s.refuseAccess h id k a) := by
  unfold State.refuseAccess State.fencedSpeaker
  split
  · next t ht =>
    have hid : Reg.TCA_T_FENCED t < 0x1000000 := by
      obtain ⟨⟨h34, -⟩, rfl⟩ : (id < 34 ∧ s.revoked id = true) ∧ id = t := by simpa [State.fencedTile] using ht
      unfold Reg.TCA_T_FENCED
      omega
    extract_lets u x v
    have hv : s.KeepsSlkRegs v := ((State.KeepsSlkRegs.refl s).countSat hid _ _ _).countSat (by decide) _ _ _
    exact .ite (hv.trans (.of_eq rfl)) hv
  · have hcount : s.KeepsSlkRegs (s.countSat Reg.SAF_REFUSE_CNT 0 32 1) := (State.KeepsSlkRegs.refl s).countSat (by decide) _ _ _
    exact .ite (hcount.trans (.of_eq rfl)) hcount

theorem keepsSlkRegs_busWrite (id a : Nat) (bs : List Byte) : s.KeepsSlkRegs (s.busWrite id a bs).2 := by
  unfold State.busWrite
  split
  · exact keepsSlkRegs_refuseAccess s _ _ _ _
  split
  · exact .refl s
  split
  · exact .refl s
  split
  · exact .refl s
  exact keepsSlkRegs_rawStore s id a bs

theorem slk_busWrite (id a : Nat) (bs : List Byte) : (s.busWrite id a bs).2.slk = s.slk := (congrArg State.slk (busRest_busWrite s id a bs)
    :)

end

end Sys2Proof.Machine
end

section
/-! PROOFS. A drove loses members, shares detections and hands tracks over (R619 to R629). -/

namespace Sys2Proof.Machine

section
variable (s : State) (n : Nat)

/-! ### Tracks that start leave the link (R372) -/

theorem keepsSlk_fld (f : Fld) : s.KeepsSlk { s with fld := f } := ⟨rfl⟩

theorem keepsSlk_contradict (d : List Byte) : s.KeepsSlk (s.contradict n d) := by
  unfold State.contradict
  extract_lets a b t _ u k _ _ v
  have ht : s.KeepsSlk t := .ite (.refl s) ((keepsSlk_setTrk s n _).trans (keepsSlk_countSat _ _ _ _ _))
  have hu : s.KeepsSlk u := ht.trans ⟨rfl⟩
  have hcount := keepsSlk_countSat u (Reg.FLD_CP (k / 2)) (16 * (k % 2)) 16 1
  have hv : s.KeepsSlk v := .ite hu (hu.trans (hcount.trans ⟨rfl⟩))
  exact .ite (.refl s) (hv.trans ⟨rfl⟩)

theorem keepsSlk_applyDet (x : Det) : s.KeepsSlk (s.applyDet n x) := by
  unfold State.applyDet
  extract_lets d b k late b₁ b₂ b₃ b₄ t u m _ v
  have ht : s.KeepsSlk t := keepsSlk_setTrk s n _
  have hu : s.KeepsSlk u := .ite (ht.trans (keepsSlk_countWrap t _ _ _ _)) ht
  have hv : s.KeepsSlk v := hu.trans (keepsSlk_fld u _)
  exact hv.trans (keepsSlk_contradict v n d)

theorem keepsSlk_newTrack (flock : Nat) (x : Det) : s.KeepsSlk (s.newTrack n flock x) := by
  have hdraw : s.KeepsSlk s.draw.2 := ⟨rfl⟩
  have hput (b : List Byte) : s.KeepsSlk (s.draw.2.setTrk n b) := hdraw.trans (keepsSlk_setTrk s.draw.2 n b)
  unfold State.newTrack
  split
  next v u hu =>
  have hus : s.KeepsSlk u := by
    have := hdraw
    rwa [hu] at this
  extract_lets d st gid b b₁ b₂ b₃ b₄ t _ w
  have ht : s.KeepsSlk t := hus.trans (keepsSlk_setTrk u n _)
  clear_value t
  have hw : s.KeepsSlk w := ht.trans ⟨rfl⟩
  exact hw.trans (keepsSlk_applyDet w n x)

theorem keepsSlk_takeHead : s.KeepsSlk s.takeHead := .ite (keepsSlk_fld s _) (keepsSlk_fld s _)

theorem keepsSlk_openTrack (flock : Nat) : s.KeepsSlk (s.openTrack flock).2 := by
  unfold State.openTrack
  split
  · exact .refl s
  · next n _ =>
    dsimp only
    have hop := keepsSlk_fldCmd s (op := fun t => t.doOpen n ((SMap.get 0 s.fld.gens n + 1) % 4096 * 2 ^ 20 + n) flock)
      (keepsSlk_doOpen s n _ flock)
    generalize s.fldCmd (fun t => t.doOpen n ((SMap.get 0 s.fld.gens n + 1) % 4096 * 2 ^ 20 + n) flock) = r at hop ⊢
    obtain ⟨c, t⟩ := r
    dsimp only at hop ⊢
    split
    · exact (hop.trans (keepsSlk_takeHead t)).trans (keepsSlk_fld _ _)
    · exact hop

/-- Births start tracks, and leave the link as it is. -/
theorem keepsSlk_births (l : List (Nat × Det)) : s.KeepsSlk (s.births l) := by
  unfold State.births
  extract_lets ok key order
  refine List.foldlRecOn (motive := fun r : Nat × State => s.KeepsSlk r.2) order _ (.refl s) (fun r hr p _ => ?_)
  obtain ⟨born, t⟩ := r
  dsimp only
  split
  · exact hr
  · have hopen := hr.trans (keepsSlk_openTrack t (recFlock (t.slot (dtSlot p.2.bytes)).record))
    split
    · next k u hu =>
      rw [hu] at hopen
      have hborn := (hopen.trans (keepsSlk_newTrack u k (recFlock (t.slot (dtSlot p.2.bytes)).record) p.2)).trans
        (keepsSlk_countWrap _ Reg.FLD_BIRTH_CNT 0 32 1)
      exact hborn.trans (keepsSlk_fld _ _)
    · next e u hu =>
      rw [hu] at hopen
      exact (hopen.trans (keepsSlk_countSat u Reg.FLD_BIRTH_REFUSED 0 32 1)).trans (keepsSlk_setBit _ Reg.FLD_STATUS 2 true)

theorem keepsSlk_installEntries (l : List (List Byte)) {o : Option State} {t : State} (ho : ∀ u, o = some u → s.KeepsSlk u)
    (ht : l.foldl (fun (o : Option State) e => o.bind (fun s => s.installEntry n e)) o = some t) : s.KeepsSlk t := by
  induction l generalizing o with
  | nil => exact ho t ht
  | cons e l ih =>
    refine ih (fun v hv => ?_) ht
    obtain ⟨u, hu, hput⟩ := Option.bind_eq_some_iff.1 hv
    exact (ho u hu).trans (keepsSlk_installEntry u n hput)

theorem keepsSlk_installAll (l : List (List Byte)) : s.KeepsSlk (s.installAll n l) := by
  induction l generalizing s with
  | nil => exact .refl s
  | cons e l ih =>
    unfold State.installAll
    split
    · next t ht => exact keepsSlk_installEntries s n _ (fun u hu => by cases hu; exact .refl s) ht
    · exact (keepsSlk_setSeqFlag s n 1 true).trans (ih _)

end

section
variable (s : State) {p : Nat} {h : LinkHdr} {pl : List Byte}

/-! ### Members (R621, R622) -/

theorem memberTimeout_spec (n : BitVec 6) (hrole : s.slk.role = roleBELLWETHER) (hn : n.toNat ≠ 0) (hmember : s.member n.toNat = true) :
    let t := s.loseMember n.toNat
    t.member n.toNat = false ∧ t.epoch = (s.epoch + 1) % 2 ^ 32 ∧ t.now = max s.now (SMap.get 0 s.slk.heard n.toNat + s.memberTo) := by
  intro t
  let r := s.reach (SMap.get 0 s.slk.heard n.toNat + s.memberTo)
  let v := r.setMember n.toNat false
  let u := (v.raiseEpoch (r.epoch + 1)).event 0x10 2 0x1004 0 (leBytes 1 n.toNat)
  have ht : t = (u.tellEpoch).sendDev n.toNat 5 0 u.epochBytes := if_neg (by simp [hrole, hn, hmember])
  have hsends : u.Sends t := ht ▸ (sends_tellEpoch u).trans (sends_sendDev _ _ _ _ _)
  have hureg {o : Nat} (ho : o ≠ Reg.SLK_EPOCH) : t.reg o = v.reg o :=
    (reg_congr hsends.regs o).trans ((reg_congr (State.event_regs ..) o).trans (reg_raiseEpoch v _ ho))
  have hclear : v.member n.toNat = false := bit_setBit_same _ _ _ _ (Nat.mod_lt _ (by decide))
  have hepoch : t.epoch = (v.raiseEpoch (r.epoch + 1)).epoch :=
    congrArg BitVec.toNat ((reg_congr hsends.regs _).trans (reg_congr (State.event_regs ..) _))
  refine ⟨?_, hepoch.trans (epoch_raiseEpoch v _), ?_⟩
  · rw [← hclear]
    refine bit_of_reg (hureg ?_) _
    split <;> decide
  · have hnow : u.tbu = r.tbu := (State.event_tbu ..).trans ((State.event_tbu ..).trans (State.setReg_tbu ..))
    exact congrArg Tbu.now (hsends.tbu.trans hnow)

theorem enterHoldover_keeps : s.enterHoldover.slk = s.slk ∧ s.enterHoldover.now = s.now := by
  unfold State.enterHoldover
  split
  · exact ⟨rfl, rfl⟩
  · refine ⟨?_, ?_⟩
    · rw [State.event_slk]
      rfl
    · rw [State.now, State.event_tbu]
      simp

theorem bellwetherTimeout_spec (hrole : s.slk.role = roleMEMBER) (hheld : s.slk.bellLost = false) :
    ∃ t, exec .bellwetherTimeout s = .next t ∧ t.slk.bellLost = true ∧ t.now = max s.now (SMap.get 0 s.slk.heard 0 + s.memberTo) := by
  let r := s.reach (SMap.get 0 s.slk.heard 0 + s.memberTo)
  let v : State := { r with slk := { r.slk with bellLost := true } }
  obtain ⟨hslk, hnow⟩ := enterHoldover_keeps v
  exact ⟨v.enterHoldover, congrArg Host.Outcome.next (if_pos (by simp [hrole, hheld])), congrArg Slk.bellLost hslk, hnow⟩

/-! ### Lists (R463, R464, R620) -/

theorem slk_msix (v : Nat) : (s.msix v).slk = s.slk := by
  obtain ⟨_, _, e⟩ := msix_only s v
  rw [e]

/-- A whole list leaves the buffer, and goes into the ring. -/
theorem onList_last (bytes : List Byte) (hrole : s.slk.role = roleBELLWETHER) (hmember : s.member h.srcDev.toNat = true)
    (hlast : h.flags.getLsbD 1 = true) : s.onList h bytes =
      { s with slk := { s.slk with listBuf := SMap.erase s.slk.listBuf h.srcDev.toNat } }.mringPut h.srcDev.toNat h.step
        (SMap.get [] s.slk.listBuf h.srcDev.toNat ++ bytes) := by
  unfold State.onList
  dsimp only
  rw [if_neg (by simp [hrole, hmember]), if_pos hlast]

theorem onList_more (bytes : List Byte) (hrole : s.slk.role = roleBELLWETHER) (hmember : s.member h.srcDev.toNat = true)
    (hmore : h.flags.getLsbD 1 = false) : s.onList h bytes = { s with slk := { s.slk with
      listBuf := SMap.insert s.slk.listBuf h.srcDev.toNat (SMap.get [] s.slk.listBuf h.srcDev.toNat ++ bytes) } } := by
  unfold State.onList
  dsimp only
  rw [if_neg (by simp [hrole, hmember]), if_neg (by rw [hmore]; decide)]

theorem mringPut_full (m i : Nat) (list : List Byte)
    (hfull : (s.regN (Reg.SLK_MRING_PROD m) + 2 ^ 32 - s.regN (Reg.SLK_MRING_CONS m)) % 2 ^ 32 = s.regN Reg.SLK_MRING_SLOTS) :
    s.mringPut m i list = s.countSat Reg.SLK_MRING_DROP 0 32 1 := if_pos (by simpa using hfull)

/-- A list that finds room goes into the ring, and PROD counts it. -/
theorem mringPut_room (m i : Nat) (list : List Byte)
    (hroom : ¬ (s.regN (Reg.SLK_MRING_PROD m) + 2 ^ 32 - s.regN (Reg.SLK_MRING_CONS m)) % 2 ^ 32 = s.regN Reg.SLK_MRING_SLOTS) :
    (s.mringPut m i list).regN (Reg.SLK_MRING_PROD m) = (s.regN (Reg.SLK_MRING_PROD m) + 1) % 2 ^ 32 ∧
      (s.mringPut m i list).slk.listBuf = s.slk.listBuf := by
  unfold State.mringPut
  rw [if_neg (by simpa using hroom)]
  extract_lets a old w t u
  have hw (a : Nat) (b : List Byte) (v : State) : v.KeepsSlkRegs (w a b v) ∧ (w a b v).slk = v.slk :=
    ⟨keepsSlkRegs_busWrite v _ _ _, slk_busWrite v _ _ _⟩
  have ht : s.KeepsSlkRegs t ∧ t.slk = s.slk :=
    ⟨((hw _ _ _).1.trans (hw _ _ _).1).trans (hw _ _ _).1, (hw _ _ _).2.trans ((hw _ _ _).2.trans (hw _ _ _).2)⟩
  obtain ⟨hregs, hslk⟩ := ht
  have hu : u.regN (Reg.SLK_MRING_PROD m) = (s.regN (Reg.SLK_MRING_PROD m) + 1) % 2 ^ 32 := by
    rw [show u = t.countWrap _ 0 32 1 from rfl, regN_countWrap, State.regN, State.regN, hregs.regs _ (by unfold Reg.SLK_MRING_PROD; omega)]
  split
  · exact ⟨hu, congrArg Slk.listBuf hslk⟩
  · refine ⟨(congrArg BitVec.toNat (reg_congr (regs_msix _ 5) _)).trans hu, ?_⟩
    rw [slk_msix]
    exact (congrArg Slk.listBuf hslk :)

theorem listFrame_spec (bytes : List Byte) (htakes : s.linkTakes p 0x25 h = true) (hrole : s.slk.role = roleBELLWETHER)
    (hmember : s.member h.srcDev.toNat = true) :
    let m := h.srcDev.toNat
    let full := (s.regN (Reg.SLK_MRING_PROD m) + 2 ^ 32 - s.regN (Reg.SLK_MRING_CONS m)) % 2 ^ 32 = s.regN Reg.SLK_MRING_SLOTS
    let t := s.linkRx p 0x25 h pl (fun s => s.onList h bytes)
    (h.flags.getLsbD 1 = false → SMap.get [] t.slk.listBuf m = SMap.get [] s.slk.listBuf m ++ bytes ∧ s.SameMemory t) ∧
      (h.flags.getLsbD 1 = true → SMap.get [] t.slk.listBuf m = [] ∧
        (full → t.regN Reg.SLK_MRING_DROP = satAdd 32 (s.regN Reg.SLK_MRING_DROP) 1 ∧ s.SameMemory t) ∧
        (¬ full → t.regN (Reg.SLK_MRING_PROD m) = (s.regN (Reg.SLK_MRING_PROD m) + 1) % 2 ^ 32)) := by
  intro m full t
  let u := s.frameIn p 0x25 h
  obtain ⟨ports, ht⟩ := linkRx_takes_eq s htakes (pl := pl) (f := fun s => s.onList h bytes)
  have hreg (o : Nat) : u.regN o = s.regN o := congrArg BitVec.toNat (reg_congr (frameIn_regs s) o)
  have hurole : u.slk.role = roleBELLWETHER := (frameIn_role s).trans hrole
  have humember : u.member h.srcDev.toNat = true := (bit_of_reg (reg_congr (frameIn_regs s) _) _).trans hmember
  have hbuf : u.slk.listBuf = s.slk.listBuf := (congrArg Slk.listBuf (frameIn_slk s) :)
  have htslk : t.slk.listBuf = (u.onList h bytes).slk.listBuf := (congrArg (fun t : State => t.slk.listBuf) ht :)
  have htmem : t.mem = (u.onList h bytes).mem := (congrArg State.mem ht :)
  have htreg (o : Nat) : t.regN o = (u.onList h bytes).regN o := (congrArg (fun t : State => t.regN o) ht :)
  have humem : u.mem = s.mem := frameIn_mem s
  refine ⟨fun hmore => ?_, fun hlast => ?_⟩
  · have hon := onList_more u bytes hurole humember hmore
    rw [hon] at htslk htmem
    refine ⟨?_, State.sameMemory_of_mem (htmem.trans humem)⟩
    rw [htslk, SMap.get, SMap.find?_insert_same, hbuf]
  · let v : State := { u with slk := { u.slk with listBuf := SMap.erase u.slk.listBuf m } }
    have hon : u.onList h bytes = v.mringPut m h.step (SMap.get [] u.slk.listBuf m ++ bytes) := onList_last u bytes hurole humember hlast
    have hempty : SMap.get [] v.slk.listBuf m = [] := by
      rw [show v.slk.listBuf = _ from rfl, SMap.get, SMap.find?_erase_same]
    have hvreg (o : Nat) : v.regN o = s.regN o := hreg o
    by_cases hfull : full
    · have hput := mringPut_full v m h.step (SMap.get [] u.slk.listBuf m ++ bytes) (by rw [hvreg, hvreg, hvreg]; exact hfull)
      rw [hon, hput] at htslk htmem
      refine ⟨by rw [htslk]; exact hempty, fun _ => ⟨?_, State.sameMemory_of_mem (htmem.trans humem)⟩, fun hno => absurd hfull hno⟩
      rw [htreg, hon, hput, regN_countSat, hvreg]
    · obtain ⟨hprod, hlist⟩ := mringPut_room v m h.step (SMap.get [] u.slk.listBuf m ++ bytes) (by rw [hvreg, hvreg, hvreg]; exact hfull)
      refine ⟨by rw [htslk, hon, hlist]; exact hempty, fun hyes => absurd hyes hfull, fun _ => ?_⟩
      rw [htreg, hon, hprod, hvreg]

/-! ### Detections (R624, R625) -/

/-- A forwarded detection enters the intake, or is dropped (R362). -/
def State.fwdEnter (src : Nat) (s : State) (d : FwdDet) : State :=
  if !s.powered 97 then s
  else if !s.detOk d.bytes then s.countSat Reg.FLD_DET_DROP 0 32 1
  else s.detEnter { bytes := d.bytes, ready := s.now, border := if d.border then some (src, s.stepNo) else none, fwd := true }

/-- Detections in form enter the intake in order. -/
theorem intake_fwdEnter (src : Nat) (l : List FwdDet) (hform : ∀ d ∈ l, s.detOk d.bytes = true) (hpow : s.powered 97 = true) :
    (l.foldl (State.fwdEnter src) s).fld.intake.map (·.bytes) = s.fld.intake.map (·.bytes) ++ l.map (·.bytes) := by
  induction l generalizing s with
  | nil => simp
  | cons d l ih =>
    have htake : s.fwdEnter src d =
        s.detEnter { bytes := d.bytes, ready := s.now, border := if d.border then some (src, s.stepNo) else none, fwd := true } := by
      rw [State.fwdEnter, if_neg (by simp [hpow]), if_neg (by simp [hform d List.mem_cons_self])]
    rw [List.foldl_cons, ih (s.fwdEnter src d) (by rw [htake]; exact fun e he => hform e (List.mem_cons_of_mem _ he))
      (by rw [htake]; exact hpow), htake]
    simp [State.detEnter]

theorem detFwd_spec (l : List FwdDet) (htakes : s.linkTakes p 0x20 h = true) (hdrove : s.inDrove = true) (hpow : s.powered 97 = true)
    (hform : l.all (fun d => s.fwdMine d && s.detOk d.bytes) = true) :
    (s.linkRx p 0x20 h pl (fun s => s.onDetFwd p h l)).fld.intake.map (·.bytes) = s.fld.intake.map (·.bytes) ++ l.map (·.bytes) := by
  obtain ⟨ports, ht⟩ := linkRx_takes_eq s htakes (pl := pl) (f := fun s => s.onDetFwd p h l)
  obtain ⟨_, _, _, _, hu⟩ := frameIn_eq s (p := p) (type := 0x20) (h := h)
  have hudrove : (s.frameIn p 0x20 h).inDrove = true := by rw [State.inDrove, frameIn_role]; exact hdrove
  have hmine (d : FwdDet) : (s.frameIn p 0x20 h).fwdMine d = s.fwdMine d := by
    rw [hu]
    rfl
  have hok (b : List Byte) : (s.frameIn p 0x20 h).detOk b = s.detOk b := by
    rw [hu]
    rfl
  have hon : (s.frameIn p 0x20 h).powered 97 = true := by
    rw [hu]
    exact hpow
  have hfld : (s.frameIn p 0x20 h).fld = s.fld := by rw [hu]
  rw [List.all_eq_true] at hform
  simp only [Bool.and_eq_true] at hform
  have htake : (s.frameIn p 0x20 h).onDetFwd p h l = l.foldl (State.fwdEnter h.srcDev.toNat) (s.frameIn p 0x20 h) := by
    refine if_neg ?_
    simp only [hudrove, Bool.not_true, Bool.false_or, Bool.not_eq_true', Bool.not_eq_false, List.all_eq_true]
    exact fun d hd => (hmine d).trans (hform d hd).1
  rw [ht]
  dsimp only
  rw [htake, intake_fwdEnter _ _ l (fun d hd => (hok d.bytes).trans (hform d hd).2) hon, hfld]

theorem detClaim_spec (l : List Claim) (htakes : s.linkTakes p 0x21 h = true) (hdrove : s.inDrove = true)
    (hmine : l.all (fun c => c.origin.toNat == s.devNo) = true) (q : Nat × Det) :
    q ∈ (s.linkRx p 0x21 h pl (fun s => s.onDetClaim p l)).slk.borders ↔ q ∈ s.slk.borders ∧
      ∀ c ∈ l, ¬ (dtSlot q.2.bytes = c.slot.toNat ∧ dtNo q.2.bytes = c.detNo.toNat) := by
  obtain ⟨ports, ht⟩ := linkRx_takes_eq s htakes (pl := pl) (f := fun s => s.onDetClaim p l)
  let u := s.frameIn p 0x21 h
  have hudrove : u.inDrove = true := by rw [State.inDrove, frameIn_role]; exact hdrove
  have hudev : u.devNo = s.devNo := by rw [State.devNo, State.devNo, fld_congr (frameIn_regs s)]
  have hborders : u.slk.borders = s.slk.borders := (congrArg Slk.borders (frameIn_slk s) :)
  rw [List.all_eq_true] at hmine
  have hown : l.any (fun c => c.origin.toNat != u.devNo) = false := by
    rw [List.any_eq_false]
    intro c hc
    have hcown := hmine c hc
    simpa [hudev] using hcown
  rw [ht]
  dsimp only
  unfold State.onDetClaim
  rw [if_neg (by rw [hudrove, hown]; decide)]
  dsimp only
  rw [hborders, List.mem_filter]
  simp

theorem borderHold_spec (hon : s.fldOn = true) (hruns : s.runsStages = true) :
    s.borderHold.slk.borders = s.slk.borders.filter (fun q => decide (s.stepNo < q.1 + 2)) := by
  unfold State.borderHold
  rw [if_neg (by rw [hon, hruns]; decide)]
  split
  next due keep hpart =>
  rw [List.partition_eq_filter_filter, Prod.mk.injEq] at hpart
  extract_lets k _ _ t
  rw [(keepsSlk_births t _).slk]
  change keep = _
  rw [← hpart.2]
  refine List.filter_congr (fun q _ => ?_)
  simp [← decide_not]

/-! ### Tracks handed over (R626 to R629) -/

/-- What the receiver notes of a hand-over: the track's slot and whose it was (R627). -/
theorem dropInstall_none (gid : Nat) (hnone : s.slk.installs.find? (fun r => r.gid == gid) = none) : s.dropInstall gid = s := by
  unfold State.dropInstall
  rw [hnone]

theorem slk_dropInstall (gid : Nat) : (s.dropInstall gid).slk.installs = s.slk.installs.filter (fun q => q.gid != gid) := by
  unfold State.dropInstall
  split
  · next hnone =>
    rw [List.find?_eq_none] at hnone
    exact (List.filter_eq_self.2 (fun q hq => by simpa using hnone q hq)).symm
  · extract_lets _ t
    split
    · exact congrArg Slk.installs ((keepsSlk_fldCmd t (keepsSlk_doClose t _)).trans (keepsSlk_giveSlot _ _)).slk
    · rfl

theorem handAbort_spec {gid : Nat} (htakes : s.linkTakes p 0x24 h = true) :
    (s.linkRx p 0x24 h pl (fun s => s.dropInstall gid)).slk.installs = s.slk.installs.filter (fun q => q.gid != gid) := by
  obtain ⟨ports, ht⟩ := linkRx_takes_eq s htakes (pl := pl) (f := fun s => s.dropInstall gid)
  have hinstalls : (s.frameIn p 0x24 h).slk.installs = s.slk.installs := (congrArg Slk.installs (frameIn_slk s) :)
  rw [ht]
  dsimp only
  rw [slk_dropInstall, hinstalls]

theorem openTrack_opens {n flock : Nat} (hhead : s.freeHead = some n) (hn : n < 0x100000)
    (hadmits : s.admitsReg 37 idFld .command Reg.TAC_CMD_SEQ 4 = true) (hst : s.seqSt n = 0) (hflock : s.flockSt flock = 1)
    (hlim : s.fld' (Reg.TAC_FLOCK_SEQ flock) 0 20 < s.fld' (Reg.TAC_FLOCK_LIM flock) 0 20) (hfull : s.activeFull = false) :
    ∃ t, s.openTrack flock = (.ok n, t) := by
  unfold State.openTrack
  rw [hhead]
  dsimp only
  rw [State.fldCmd, if_pos hadmits, doOpen_done s hst (by omega) hflock hlim hfull]
  exact ⟨_, rfl⟩

theorem installHand_spec {n src step : Nat} {c : TrackCopy} {t : State}
    (hnone : s.slk.installs.find? (fun r => r.gid == tkGid c.bytes) = none) (hopen : s.openTrack (tkFlock c.bytes) = (.ok n, t)) :
    (s.installHand src step c).2.slk.installs.head? = some ⟨tkGid c.bytes, n, src, step⟩ := by
  unfold State.installHand
  dsimp only
  rw [dropInstall_none s _ hnone, hopen]
  dsimp only
  rw [State.countWrap_slk]
  rfl

theorem hand_spec {q : Pasture} {n : Nat} (c : TrackCopy) (htakes : s.linkTakes p 0x22 h = true) (hdrove : s.inDrove = true)
    (hpasture : s.myPasture = some q) (hholds : q.holds (tkX c.bytes 0) (tkX c.bytes 1) = true)
    (hnone : s.slk.installs.find? (fun r => r.gid == tkGid c.bytes) = none) (hhead : s.freeHead = some n) (hn : n < 0x100000)
    (hadmits : s.admitsReg 37 idFld .command Reg.TAC_CMD_SEQ 4 = true) (hst : s.seqSt n = 0) (hflock : s.flockSt (tkFlock c.bytes) = 1)
    (hlim : s.fld' (Reg.TAC_FLOCK_SEQ (tkFlock c.bytes)) 0 20 < s.fld' (Reg.TAC_FLOCK_LIM (tkFlock c.bytes)) 0 20)
    (hfull : s.activeFull = false) :
    (s.linkRx p 0x22 h pl (fun s => s.onHand p h c)).slk.installs.head? = some ⟨tkGid c.bytes, n, h.srcDev.toNat, h.step⟩ := by
  obtain ⟨ports, ht⟩ := linkRx_takes_eq s htakes (pl := pl) (f := fun s => s.onHand p h c)
  obtain ⟨ports', heard, bell, out, hu⟩ := frameIn_eq s (p := p) (type := 0x22) (h := h)
  generalize s.frameIn p 0x22 h = u at ht hu
  have hopen : ∃ t, u.openTrack (tkFlock c.bytes) = (.ok n, t) :=
    openTrack_opens u (by rw [hu]; exact hhead) hn (by rw [hu]; exact hadmits) (by rw [hu]; exact hst) (by rw [hu]; exact hflock)
      (by rw [hu]; exact hlim) (by rw [hu]; exact hfull)
  obtain ⟨v, hopen⟩ := hopen
  have hinstalls := installHand_spec u (src := h.srcDev.toNat) (step := h.step) (by rw [hu]; exact hnone) hopen
  have hmine : u.myPasture = some q := by rw [hu]; exact hpasture
  have hon : u.onHand p h c = (u.installHand h.srcDev.toNat h.step c).2.handAnswer h.srcDev.toNat (tkGid c.bytes) h.step
      (u.installHand h.srcDev.toNat h.step c).1 := by
    unfold State.onHand
    dsimp only
    rw [hmine]
    dsimp only
    rw [if_neg]
    rw [hholds, show u.inDrove = s.inDrove by rw [hu]; rfl, hdrove]
    decide
  rw [ht]
  dsimp only
  rw [hon]
  have hposts := queues_sendDev (u.installHand h.srcDev.toNat h.step c).2 h.srcDev.toNat 0x23 h.step
    (leBytes 8 (tkGid c.bytes) ++ leBytes 1 (u.installHand h.srcDev.toNat h.step c).1)
  have hkept : _ = _ := (congrArg Slk.installs hposts.rest :)
  exact (congrArg List.head? hkept).trans hinstalls

/-- A hand-over is logged once a step, and only the log of it changes. -/
theorem handEvent_spec (gid : Nat) : ∃ log hif, s.handEvent gid = { s with slk := { s.slk with handLog := log }, hif := hif } := by
  unfold State.handEvent
  split
  · exact ⟨_, _, rfl⟩
  · exact ⟨_, _, rfl⟩

theorem handAck_spec {gid st : Nat} {g : Handing} (htakes : s.linkTakes p 0x23 h = true)
    (hfind : s.slk.handing.find? (fun g => g.gid == gid && g.dev == h.srcDev.toNat && !g.acked) = some g) :
    let t := s.linkRx p 0x23 h pl (fun s => s.onHandAck h.srcDev.toNat gid st)
    (isDone st = true → t.slk.handing = s.slk.handing.map (fun q => if q.slot == g.slot then { q with acked := true } else q)) ∧
      (isDone st = false → t.slk.handing = s.slk.handing.filter (fun q => q.slot != g.slot) ∧
        t.slk.retry = (g.slot, s.stepNo + s.fld' Reg.SLK_HAND_CFG 16 16) :: s.slk.retry ∧
        t.regN Reg.SLK_HAND_FAIL = satAdd 32 (s.regN Reg.SLK_HAND_FAIL) 1) := by
  intro t
  obtain ⟨ports, ht⟩ := linkRx_takes_eq s htakes (pl := pl) (f := fun s => s.onHandAck h.srcDev.toNat gid st)
  obtain ⟨ports', heard, bell, out, hu⟩ := frameIn_eq s (p := p) (type := 0x23) (h := h)
  generalize s.frameIn p 0x23 h = u at ht hu
  have hufind : u.slk.handing.find? (fun g => g.gid == gid && g.dev == h.srcDev.toNat && !g.acked) = some g := by rw [hu]; exact hfind
  have hhanding : u.slk.handing = s.slk.handing := by rw [hu]
  have hslk : t.slk = { (u.onHandAck h.srcDev.toNat gid st).slk with ports := ports } := (congrArg State.slk ht :)
  have hreg : t.regs = (u.onHandAck h.srcDev.toNat gid st).regs := (congrArg State.regs ht :)
  refine ⟨fun hdone => ?_, fun hrefused => ?_⟩
  · rw [hslk]
    unfold State.onHandAck
    rw [hufind]
    dsimp only
    rw [if_pos hdone]
    exact congrArg _ hhanding
  · have hretry : u.slk.retry = s.slk.retry := by rw [hu]
    have hagain : u.stepNo + u.fld' Reg.SLK_HAND_CFG 16 16 = s.stepNo + s.fld' Reg.SLK_HAND_CFG 16 16 := by
      rw [hu]
      rfl
    have hfail : u.regN Reg.SLK_HAND_FAIL = s.regN Reg.SLK_HAND_FAIL := by
      rw [hu]
      rfl
    have hrefuse : ∃ v : State, u.onHandAck h.srcDev.toNat gid st = (v.countSat Reg.SLK_HAND_FAIL 0 32 1).handEvent gid ∧ v.regs = u.regs ∧
        v.slk.handing = u.slk.handing.filter (fun q => q.slot != g.slot) ∧
        v.slk.retry = (g.slot, u.stepNo + u.fld' Reg.SLK_HAND_CFG 16 16) :: u.slk.retry := by
      unfold State.onHandAck
      rw [hufind]
      dsimp -zeta only
      rw [if_neg (by rw [hrefused]; decide)]
      extract_lets again _ v w
      have hw : w.regs = v.regs ∧ w.slk = v.slk := by
        unfold w
        split
        · exact ⟨rfl, rfl⟩
        · exact ⟨v.store_regs _ _, v.store_slk _ _⟩
      exact ⟨w, rfl, hw.1, congrArg Slk.handing hw.2, congrArg Slk.retry hw.2⟩
    obtain ⟨v, hon, hvregs, hvhanding, hvretry⟩ := hrefuse
    obtain ⟨log, hif, hlogged⟩ := handEvent_spec (v.countSat Reg.SLK_HAND_FAIL 0 32 1) gid
    rw [hon, hlogged] at hslk hreg
    have hcount : t.regN Reg.SLK_HAND_FAIL = satAdd 32 (v.regN Reg.SLK_HAND_FAIL) 1 :=
      (congrArg BitVec.toNat (reg_congr hreg _)).trans (regN_countSat v _ 1)
    have hvfail : v.regN Reg.SLK_HAND_FAIL = s.regN Reg.SLK_HAND_FAIL := (congrArg BitVec.toNat (reg_congr hvregs _)).trans hfail
    rw [hslk, hcount, hvfail]
    exact ⟨hvhanding.trans (congrArg _ hhanding), hvretry.trans (by rw [hagain, hretry]), rfl⟩

/-- The state without the hand-over of a slot. -/
def State.dropHanding (s : State) (n : Nat) : State :=
  { s with slk := { s.slk with handing := s.slk.handing.filter (fun g => g.slot != n) } }

/-- An abort of a hand-over is noted, logged and counted (R628). -/
theorem abortHand_spec {n : Nat} {g : Handing} (hfind : s.slk.handing.find? (fun g => g.slot == n) = some g) :
    (s.abortHand n).slk.handing = s.slk.handing.filter (fun q => q.slot != n) ∧ (s.abortHand n).tbu = s.tbu ∧
      (s.abortHand n).regN Reg.SLK_HAND_FAIL = satAdd 32 (s.regN Reg.SLK_HAND_FAIL) 1 := by
  let t := s.dropHanding n
  let u := (t.sendDev g.dev 0x24 t.stepNo (leBytes 8 g.gid)).countSat Reg.SLK_HAND_FAIL 0 32 1
  let v := if tkSt (u.trk n) == 0 then u else u.setTrk n (setFlagA (u.trk n) 7 false)
  have habort : s.abortHand n = v.handEvent g.gid := by
    unfold State.abortHand
    rw [hfind]
    rfl
  have hq := queues_sendDev t g.dev 0x24 t.stepNo (leBytes 8 g.gid)
  have hucount : u.regN Reg.SLK_HAND_FAIL = satAdd 32 (s.regN Reg.SLK_HAND_FAIL) 1 :=
    (regN_countSat _ _ 1).trans (congrArg (satAdd 32 · 1) (congrArg BitVec.toNat (reg_congr hq.sends.regs Reg.SLK_HAND_FAIL)))
  have huhanding : u.slk.handing = s.slk.handing.filter (fun q => q.slot != n) := (congrArg Slk.handing hq.rest :)
  have hutbu : u.tbu = s.tbu := hq.sends.tbu
  have hv : v.regs = u.regs ∧ v.slk = u.slk ∧ v.tbu = u.tbu := by
    unfold v
    split
    · exact ⟨rfl, rfl, rfl⟩
    · exact ⟨u.store_regs _ _, u.store_slk _ _, u.store_tbu _ _⟩
  obtain ⟨hregs, hslk, htbu⟩ := hv
  obtain ⟨log, hif, hlogged⟩ := handEvent_spec v g.gid
  rw [habort, hlogged]
  exact ⟨(congrArg Slk.handing hslk).trans huhanding, htbu.trans hutbu, (congrArg BitVec.toNat (reg_congr hregs _)).trans hucount⟩

theorem slk_retire (n : Nat) (pub : Bool) : (s.retire n pub).slk = s.slk := by
  have hst : s.KeepsSlk (s.setLstate n tkRETIRING) := by
    unfold State.setLstate
    exact (keepsSlk_setTrk s n _).trans (keepsSlk_fld _ _)
  unfold State.retire
  exact (hst.trans (keepsSlk_setTrk _ n _)).slk

theorem tbu_retire (n : Nat) (pub : Bool) : (s.retire n pub).tbu = s.tbu := by
  unfold State.retire
  dsimp only
  rw [State.setTrk, State.store_tbu, setLstate_tbu]

/-- A hand-over that was acknowledged is over: the track retires (R628). -/
theorem handTaken_spec (g : Handing) (hacked : g.acked = true) :
    (s.handTaken g).slk.handing = s.slk.handing.filter (fun q => q.slot != g.slot) ∧ (s.handTaken g).tbu = s.tbu ∧
      (tkGid (s.trk g.slot) = g.gid → s.liveTrk g.slot = true → tkSt ((s.handTaken g).trk g.slot) = tkRETIRING) := by
  let t := s.dropHanding g.slot
  have htaken : s.handTaken g = if tkGid (t.trk g.slot) == g.gid && t.liveTrk g.slot then t.retire g.slot false else t := if_pos hacked
  have htrk : t.trk g.slot = s.trk g.slot := trk_congr (s := s) (t := t) rfl rfl g.slot
  by_cases hlive : (tkGid (t.trk g.slot) == g.gid && t.liveTrk g.slot) = true
  · rw [htaken, if_pos hlive]
    exact ⟨congrArg Slk.handing (slk_retire t g.slot false), tbu_retire t g.slot false, fun _ _ => tkSt_retire t g.slot false⟩
  · rw [htaken, if_neg hlive]
    refine ⟨rfl, rfl, fun hgid hst => absurd ?_ hlive⟩
    rw [State.liveTrk, htrk, hgid, beq_self_eq_true, Bool.true_and]
    exact hst

/-- The two cut-offs at which a hand-over in progress is judged (R628). -/
theorem handDeadlines_spec (n : BitVec 20) {g : Handing} (hfind : s.slk.handing.find? (fun g => g.slot == n.toNat) = some g) :
    (∃ t, exec (.handAckDeadline n) s = .next t ∧ t.now = max s.now (s.cOf (g.step + 1)) ∧
      (g.acked = true → t.slk.handing = s.slk.handing.filter (fun q => q.slot != g.slot) ∧
        (tkGid (s.trk g.slot) = g.gid → s.liveTrk g.slot = true → tkSt (t.trk g.slot) = tkRETIRING)) ∧
      (g.acked = false → t.slk.handing = s.slk.handing)) ∧
    (∃ t, exec (.handAbortDeadline n) s = .next t ∧ t.now = max s.now (s.cOf (g.step + 2)) ∧
      t.slk.handing = s.slk.handing.filter (fun q => q.slot != g.slot) ∧
      (g.acked = false → t.regN Reg.SLK_HAND_FAIL = satAdd 32 (s.regN Reg.SLK_HAND_FAIL) 1)) := by
  have hslot : g.slot = n.toNat := by simpa using List.find?_some hfind
  let u (k : Nat) := s.reach (s.cOf (g.step + k))
  have hdue (k : Nat) (f : State → Handing → State) : s.handDeadline n.toNat k f = f (u k) g := by
    unfold State.handDeadline
    rw [hfind]
  have hack : exec (.handAckDeadline n) s = .next ((u 1).handTaken g) := congrArg Host.Outcome.next (hdue 1 _)
  have habort : exec (.handAbortDeadline n) s = .next ((u 2).handLost g) := congrArg Host.Outcome.next (hdue 2 _)
  have htrk : (u 1).trk g.slot = s.trk g.slot := trk_reach s g.slot _
  by_cases hacked : g.acked = true
  · have hlost : (u 2).handLost g = (u 2).handTaken g := if_pos hacked
    obtain ⟨hhanding, htbu, hretires⟩ := handTaken_spec (u 1) g hacked
    obtain ⟨hhanding', htbu', -⟩ := handTaken_spec (u 2) g hacked
    rw [State.liveTrk, htrk] at hretires
    rw [hlost] at habort
    exact ⟨⟨_, hack, congrArg Tbu.now htbu, fun _ => ⟨hhanding, hretires⟩, fun h => absurd hacked (by simp [h])⟩,
      ⟨_, habort, congrArg Tbu.now htbu', hhanding', fun h => absurd hacked (by simp [h])⟩⟩
  · have hkept : (u 1).handTaken g = u 1 := if_neg hacked
    have hlost : (u 2).handLost g = (u 2).abortHand g.slot := if_neg hacked
    obtain ⟨hhanding, htbu, hfail⟩ := abortHand_spec (u 2) (n := g.slot) (g := g) (by rw [hslot]; exact hfind)
    rw [hkept] at hack
    rw [hlost] at habort
    exact ⟨⟨_, hack, rfl, fun h => absurd h hacked, fun _ => rfl⟩, ⟨_, habort, congrArg Tbu.now htbu, hhanding, fun _ => hfail⟩⟩

theorem handRetryExpiry_spec (n : BitVec 20) {r : Nat × Nat} (hfind : s.slk.retry.find? (fun r => r.1 == n.toNat) = some r)
    (hdue : s.csq.running = false ∨ r.2 ≤ s.stepNo) :
    ∃ t, exec (.handRetryExpiry n) s = .next t ∧ t.slk.retry = s.slk.retry.filter (fun q => q.1 != n.toNat) := by
  have hreach : ∃ u, s.reachStep r.2 = some u ∧ u.slk = s.slk := by
    unfold State.reachStep
    split
    · next hrun => exact ⟨s, if_pos (hdue.resolve_left (by simp [hrun])), rfl⟩
    · exact ⟨_, rfl, rfl⟩
  obtain ⟨u, hu, hslk⟩ := hreach
  refine ⟨{ u with slk := { u.slk with retry := u.slk.retry.filter (fun q => q.1 != n.toNat) } }, congrArg Host.Outcome.next ?_, ?_⟩
  · rw [hfind]
    dsimp only
    rw [hu]
  · rw [← hslk]

end

theorem exec_mringConsWrite {s : State} (m : BitVec 6) (v : W32) (hfree : s.hostFree (Reg.SLK_MRING_CONS m.toNat) = true) :
    exec (.mringConsWrite m v) s = .next (s.mringCons m.toNat v) := congrArg Host.Outcome.next (hostReg_free hfree _)

/-- Settles O40: a row for each frame of a drove, each time-out and each deadline of a hand-over. -/
theorem droveCommandsHaveTheirEffect : Obligations.DroveCommandsHaveTheirEffect := by
  refine ⟨fun n s hrole hn hmember => ⟨_, rfl, memberTimeout_spec s n hrole hn hmember⟩,
    fun s hrole hheld => bellwetherTimeout_spec s hrole hheld,
    fun p h b s htakes hrole hmember => ⟨_, rfl, listFrame_spec s b htakes hrole hmember⟩,
    fun m v s hfree => exec_mringConsWrite m v hfree,
    fun p h l s htakes hdrove hpow hform => ⟨_, rfl, detFwd_spec s l htakes hdrove hpow hform⟩,
    fun p h l s htakes hdrove hmine => ⟨_, rfl, detClaim_spec s l htakes hdrove hmine⟩,
    fun s hon hruns => ⟨_, rfl, borderHold_spec s hon hruns⟩, ?_,
    fun p h gid st g s htakes hfind => ⟨_, rfl, handAck_spec s htakes hfind⟩, ?_,
    fun n g s hfind => handDeadlines_spec s n hfind, fun n r s hfind hdue => handRetryExpiry_spec s n hfind hdue⟩
  · intro p h c q n s htakes hdrove hpasture hholds hnone hhead hn hadmits hst hflock hlim hfull
    exact ⟨_, _, rfl, hand_spec s c htakes hdrove hpasture hholds hnone hhead hn hadmits hst hflock hlim hfull, rfl, rfl, rfl, rfl⟩
  · exact fun p h gid s htakes => ⟨_, rfl, handAbort_spec s htakes⟩

end Sys2Proof.Machine
end

section
/-! PROOFS. What ends the work of the device, and what zeroise empties, leaves security as it was (R510, R657). -/

namespace Sys2Proof.Machine

/-- What security holds stays: its slots, associations, identity, fuses and the command it runs. -/
structure State.KeepsSec (s t : State) : Prop where
  sec : t.sec = s.sec

theorem State.KeepsSec.refl (s : State) : s.KeepsSec s := ⟨rfl⟩

theorem State.KeepsSec.trans {s t r : State} (h : s.KeepsSec t) (h' : t.KeepsSec r) : s.KeepsSec r := ⟨h'.sec.trans h.sec⟩

theorem State.KeepsSec.ite {s t r : State} {p : Prop} [Decidable p] (ht : s.KeepsSec t) (hr : s.KeepsSec r) :
    s.KeepsSec (if p then t else r) := by split <;> assumption

/-- A step that answers and leaves a state, taken apart. -/
theorem State.KeepsSec.of_snd {α : Type} {s t : State} {x : α × State} {a : α} (h : s.KeepsSec x.2) (hx : x = (a, t)) : s.KeepsSec t := by
  rwa [hx] at h

theorem State.KeepsSec.foldl {α : Type} {f : State → α → State} {s t : State} (h : s.KeepsSec t)
    (hf : ∀ (s : State) a, s.KeepsSec (f s a)) (l : List α) : s.KeepsSec (l.foldl f t) :=
  List.foldlRecOn (motive := State.KeepsSec s) l f h (fun u hu a _ => hu.trans (hf u a))

section
variable (s : State) (n : Nat)

theorem keepsSec_setReg (o : Nat) (v : W32) : s.KeepsSec (s.setReg o v) := ⟨s.setReg_sec o v⟩
theorem keepsSec_setFld (o lo w v : Nat) : s.KeepsSec (s.setFld o lo w v) := ⟨s.setFld_sec o lo w v⟩
theorem keepsSec_setBit (o b : Nat) (v : Bool) : s.KeepsSec (s.setBit o b v) := ⟨s.setBit_sec o b v⟩
theorem keepsSec_countSat (o lo w k : Nat) : s.KeepsSec (s.countSat o lo w k) := ⟨s.countSat_sec o lo w k⟩
theorem keepsSec_status (o c : Nat) : s.KeepsSec (s.status o c) := ⟨s.status_sec o c⟩
theorem keepsSec_event (a b c d : Nat) (bs : List Byte) : s.KeepsSec (s.event a b c d bs) := ⟨s.event_sec a b c d bs⟩
theorem keepsSec_emit (o : Out) : s.KeepsSec (s.emit o) := ⟨s.emit_sec o⟩
theorem keepsSec_poke (a k v : Nat) : s.KeepsSec (s.poke a k v) := ⟨s.poke_sec a k v⟩
theorem keepsSec_setTrk (b : List Byte) : s.KeepsSec (s.setTrk n b) := ⟨s.store_sec _ _⟩
theorem keepsSec_draw : s.KeepsSec s.draw.2 := ⟨rfl⟩
theorem keepsSec_setTile (x : Tile) : s.KeepsSec (s.setTile n x) := ⟨rfl⟩
theorem keepsSec_setSset (x : StreamSet) : s.KeepsSec (s.setSset n x) := ⟨rfl⟩
theorem keepsSec_noWait (w : Waiter) : s.KeepsSec (s.noWait w) := ⟨rfl⟩
theorem keepsSec_wipe (a k : Nat) : s.KeepsSec (s.wipe a k) := ⟨s.zero_sec a k⟩
theorem keepsSec_msix (v : Nat) : s.KeepsSec (s.msix v) := .ite ⟨rfl⟩ (keepsSec_emit s _)

theorem keepsSec_setFlt (low : Bool) : s.KeepsSec (s.setFlt low) := by
  unfold State.setFlt
  refine .ite (.refl s) (.trans ((State.KeepsSec.trans ?_ (keepsSec_setBit _ _ _ _)).trans (keepsSec_emit _ _)) (keepsSec_msix _ 3))
  exact ⟨rfl⟩

/-! ### Reads and writes of memory (R18, R529, R532, R554) -/

theorem keepsSec_busRead (id a : Nat) : s.KeepsSec (s.busRead id a n).2 := by
  unfold State.busRead
  have hrest {t : State} (h : t.busRest = s.busRest) : s.KeepsSec t := ⟨(congrArg State.sec h :)⟩
  split
  · exact hrest (busRest_refuseAccess s _ _ _ _)
  split
  · exact .refl s
  split
  · exact .refl s
  split
  · exact ⟨rfl⟩
  have hcheck := hrest (busRest_checkRead s id a n 0)
  split <;> next h => exact hcheck.of_snd h

theorem keepsSec_busWrite (id a : Nat) (bs : List Byte) : s.KeepsSec (s.busWrite id a bs).2 :=
  ⟨(congrArg State.sec (busRest_busWrite s id a bs) :)⟩

theorem keepsSec_elemAt (id : Nat) (b : List Byte) (c : Coord) : s.KeepsSec (s.elemAt id b c).2 := by
  unfold State.elemAt
  extract_lets a w
  have hread := keepsSec_busRead s (max 1 (w / 8)) id (a / 2)
  split <;> next h => exact hread.of_snd h

/-- A fold of reads, each of which keeps security, and which an error ends. -/
theorem keepsSec_reads {α β : Type} {f : Except Nat β × State → α → Except Nat β × State} (hf : ∀ (p : Except Nat β × State) (a : α),
    p.2.KeepsSec (f p a).2) (l : List α)
    (x : Except Nat β) : s.KeepsSec (l.foldl f (x, s)).2 :=
  List.foldlRecOn (motive := fun p => s.KeepsSec p.2) l f (.refl s) (fun p hp a _ => hp.trans (hf p a))

theorem keepsSec_readIdx (id : Nat) (b : List Byte) : s.KeepsSec (s.readIdx id b).2 := by
  refine keepsSec_reads s (fun p k => ?_) _ _
  obtain ⟨r, t⟩ := p
  dsimp only
  split
  · exact .refl t
  · have helem := keepsSec_elemAt t id b [(k : Int)]
    split <;> next h => exact helem.of_snd h

theorem keepsSec_readPlan (id : Nat) (j : MoveJob) (plan : List (Option Coord × Coord)) : s.KeepsSec (s.readPlan id j plan).2 := by
  refine keepsSec_reads s (fun p x => ?_) _ _
  obtain ⟨r, t⟩ := p
  obtain ⟨sc, dc⟩ := x
  cases r with
  | error e => exact .refl t
  | ok mn =>
    obtain ⟨m, k⟩ := mn
    dsimp only
    cases sc with
    | none => exact .refl t
    | some c =>
      have helem := keepsSec_elemAt t id j.src c
      dsimp only
      split <;> exact helem

theorem keepsSec_moveUnits (id : Nat) (j : MoveJob) : s.KeepsSec (s.moveUnits id j).2 := by
  unfold State.moveUnits
  have hr : s.KeepsSec (if j.mode == 3 || j.mode == 4 then s.readIdx id j.idx else (.ok [], s)).2 := by
    split
    · exact keepsSec_readIdx s id j.idx
    · exact .refl s
  generalize (if j.mode == 3 || j.mode == 4 then s.readIdx id j.idx else (.ok [], s)) = r at hr ⊢
  obtain ⟨ix, t⟩ := r
  cases ix with
  | error e => exact hr
  | ok ix =>
    dsimp only
    have hplan := keepsSec_readPlan t id j (movePlan j ix)
    split
    · next h => exact hr.trans (hplan.of_snd h)
    · next h => exact (hr.trans (hplan.of_snd h)).trans ((keepsSec_countSat _ _ _ _ _).trans (keepsSec_countSat _ _ _ _ _))

theorem keepsSec_storeUnits (id : Nat) (l : List (Nat × List Byte)) : s.KeepsSec (s.storeUnits id l).2 := by
  induction l generalizing s with
  | nil => exact .refl s
  | cons x l ih =>
    obtain ⟨a, bs⟩ := x
    unfold State.storeUnits
    have hwrite := keepsSec_busWrite s id a bs
    dsimp only
    split
    · exact hwrite.trans (ih _)
    · exact hwrite

theorem keepsSec_partMove (id : Nat) (j : MoveJob) : s.KeepsSec (s.partMove id j) := by
  unfold State.partMove
  dsimp only
  have hunits := (keepsSec_draw s).trans (keepsSec_moveUnits s.draw.2 id j)
  split
  · next h => exact hunits.of_snd h
  · next h => exact (hunits.of_snd h).trans (keepsSec_storeUnits _ id _)

/-! ### Signals and what waits on them (R286 to R289) -/

theorem keepsSec_setChan (c : Chan) : s.KeepsSec (s.setChan n c) := by
  unfold State.setChan
  extract_lets _ t st u v l w
  have ht : s.KeepsSec t := ⟨rfl⟩
  have hu : s.KeepsSec u := .ite ht (ht.trans (keepsSec_setFld t _ _ _ _))
  have hv : s.KeepsSec v := ((hu.trans (keepsSec_setBit _ _ _ _)).trans (keepsSec_setBit _ _ _ _)).trans (keepsSec_setFld _ _ _ _ _)
  exact ((hv.trans (keepsSec_setReg _ _ _)).trans (keepsSec_setReg _ _ _)).trans (keepsSec_setBit _ _ _ _)

theorem keepsSec_grant (w : Waiter) : s.KeepsSec (s.grant w) := by
  unfold State.grant
  split
  · exact keepsSec_setChan s _ _
  · exact ⟨rfl⟩
  · exact keepsSec_setSset s _ _
  · exact keepsSec_setTile s _ _
  · exact keepsSec_setTile s _ _

theorem keepsSec_serveOne (w : SigWait) : s.KeepsSec (s.serveOne w) := by
  unfold State.serveOne
  refine .ite (.trans (.trans ?_ (keepsSec_setReg _ _ _)) (keepsSec_grant _ w.who)) (.refl s)
  exact ⟨rfl⟩

theorem keepsSec_sigVectors (sig : Nat) : s.KeepsSec (s.sigVectors sig) :=
  (State.KeepsSec.refl s).foldl (fun t _ => .ite (keepsSec_msix t _) (.refl t)) _

theorem keepsSec_raiseSig (sig inc : Nat) : s.KeepsSec (s.raiseSig sig inc) := by
  unfold State.raiseSig
  extract_lets c t u _ v
  have ht : s.KeepsSec t := keepsSec_setReg s _ _
  have hu : s.KeepsSec u := ht.trans (keepsSec_setBit t _ _ _)
  have hv : s.KeepsSec v := .ite ht (.ite hu (hu.trans ⟨rfl⟩))
  exact (hv.trans ((State.KeepsSec.refl v).foldl keepsSec_serveOne _)).trans (keepsSec_sigVectors _ sig)

theorem keepsSec_dropRef (h : Nat) : s.KeepsSec (s.dropRef h) := by
  unfold State.dropRef
  split
  · exact .refl s
  · exact .ite ⟨rfl⟩ ⟨rfl⟩

theorem keepsSec_dropRefs (hs : List Nat) : s.KeepsSec (s.dropRefs hs) := (State.KeepsSec.refl s).foldl keepsSec_dropRef hs

/-! ### Work that ends (R219, R287, R313, R369) -/

theorem keepsSec_endProg (code : Nat) : s.KeepsSec (s.endProg n code) :=
  (((keepsSec_dropRefs s _).trans (keepsSec_noWait _ _)).trans (keepsSec_setChan _ n _)).trans (keepsSec_status _ _ _)

theorem keepsSec_recount : s.KeepsSec (s.recount n) :=
  ((keepsSec_poke s _ _ _).trans (keepsSec_poke _ _ _ _)).trans (keepsSec_poke _ _ _ _)

theorem keepsSec_entriesValid : s.KeepsSec (s.entriesValid n) := by
  unfold State.entriesValid
  split
  · exact .refl s
  · extract_lets t
    have ht : s.KeepsSec t := (State.KeepsSec.refl s).foldl (fun u _ => keepsSec_poke u _ _ _) _
    refine .trans (ht.trans ?_) (keepsSec_recount _ n)
    exact ⟨rfl⟩

theorem keepsSec_entriesHole : s.KeepsSec (s.entriesHole n) := by
  unfold State.entriesHole
  split
  · exact .refl s
  · refine .trans ((State.KeepsSec.refl s).foldl (fun t a => ?_) _) ⟨rfl⟩
    exact (keepsSec_poke t _ _ _).trans (keepsSec_countSat _ _ _ _ _)

theorem keepsSec_raiseTrackDoubt : s.KeepsSec (s.raiseTrackDoubt n) :=
  ⟨State.countSat_sec _ Reg.SAF_DOUBT_CNT 0 16 1⟩

theorem keepsSec_decodeMissed : s.KeepsSec (s.decodeMissed n) := by
  unfold State.decodeMissed
  extract_lets m t
  have ht : s.KeepsSec t := (keepsSec_setTrk s n _).trans (keepsSec_countSat _ _ _ _ _)
  exact .ite (.refl s) (.ite (ht.trans (keepsSec_raiseTrackDoubt t n)) ht)

theorem keepsSec_decodeLost : s.KeepsSec (s.decodeLost n) := by
  unfold State.decodeLost
  refine .trans (.trans ?_ (keepsSec_entriesHole _ n)) (keepsSec_decodeMissed _ n)
  exact ⟨rfl⟩

theorem keepsSec_decodeDone (row : List Byte) : s.KeepsSec (s.decodeDone n row) := .ite (.refl s) (keepsSec_setTrk s n _)

theorem keepsSec_attendEnd (c : TileCmd) (code : Nat) : s.KeepsSec (s.attendEnd n c code) := by
  unfold State.attendEnd
  refine .ite (.refl s) ?_
  split
  · exact .refl s
  · extract_lets dc row _ t u
    have ht : s.KeepsSec t := ⟨rfl⟩
    have hu : s.KeepsSec u := .ite ht (ht.trans (keepsSec_entriesValid t _))
    exact .ite (keepsSec_decodeLost s _) (.ite (hu.trans (keepsSec_decodeDone u _ _)) (.refl s))

theorem keepsSec_cmdComplete (c : TileCmd) (code : Nat) : s.KeepsSec (s.cmdComplete n c code) := by
  refine .trans ?_ (keepsSec_attendEnd _ n c code)
  unfold State.cmdEnd
  extract_lets d t u
  have hu : s.KeepsSec u := ((keepsSec_setReg s _ _).trans (keepsSec_dropRefs t _)).trans (keepsSec_emit _ _)
  exact .ite hu (hu.trans (keepsSec_raiseSig u _ _))

theorem keepsSec_discardTile (code : Nat) : s.KeepsSec (s.discardTile n code) := by
  unfold State.discardTile
  extract_lets x cmds t u
  have ht : s.KeepsSec t := (keepsSec_noWait s _).trans (keepsSec_noWait _ _)
  exact (ht.trans (keepsSec_setTile t n _)).foldl (fun v c => keepsSec_cmdComplete v n c code) cmds

theorem keepsSec_discardBatch (x : Batch) (code : Nat) : s.KeepsSec (s.discardBatch x code) := by
  unfold State.discardBatch
  extract_lets _ t u v
  have ht : s.KeepsSec t := ⟨rfl⟩
  have hv : s.KeepsSec v := (ht.trans ((keepsSec_noWait t _).trans (keepsSec_setReg _ _ _))).trans (keepsSec_emit _ _)
  exact .ite hv (hv.trans (keepsSec_raiseSig v _ _))

theorem keepsSec_discardWork : s.KeepsSec s.discardWork := by
  unfold State.discardWork
  extract_lets t u v
  have ht : s.KeepsSec t := (State.KeepsSec.refl s).foldl (fun r n => .ite (.refl r)
    (((State.KeepsSec.refl r).foldl (fun w _ => keepsSec_partMove w _ _) _).trans (keepsSec_endProg _ n _))) _
  have hu : s.KeepsSec u := ht.foldl (fun r n => keepsSec_discardTile r n _) _
  have hv : s.KeepsSec v := hu.foldl (fun r x => keepsSec_discardBatch r x _) _
  clear_value v
  exact hv.trans ⟨rfl⟩

/-! ### The image leaves (R510) -/

theorem keepsSec_clearDescs : s.KeepsSec s.clearDescs := ⟨rfl⟩

theorem keepsSec_resetFold : s.KeepsSec s.resetFold := by
  unfold State.resetFold
  extract_lets base t u v w
  have ht : s.KeepsSec t := keepsSec_wipe s _ _
  have hu : s.KeepsSec u := (ht.trans (keepsSec_wipe t _ _)).trans (keepsSec_wipe _ _ _)
  have hv : s.KeepsSec v := hu.trans (keepsSec_wipe u _ _)
  have hw : s.KeepsSec w := hv.foldl (fun r _ => (keepsSec_setReg r _ _).trans (keepsSec_setReg _ _ _)) _
  exact ⟨hw.sec⟩

theorem keepsSec_toNone : s.KeepsSec s.toNone := by
  unfold State.toNone
  extract_lets _ u v _ _ w x
  have hu : s.KeepsSec u := ⟨rfl⟩
  have hv : s.KeepsSec v := hu.foldl (fun r t => ⟨r.setPower_sec t false⟩) _
  clear_value v
  have hw : s.KeepsSec w := hv.trans ⟨rfl⟩
  have hx : s.KeepsSec x := hw.trans (keepsSec_setReg w _ _)
  obtain ⟨regs, hregs⟩ := setDomains_pllStops x x.idleDomains
  rw [hregs]
  exact hx.trans ⟨rfl⟩

/-! ### The cycle stops (R441 to R443) -/

theorem keepsSec_doStop : s.KeepsSec s.doStop := by
  unfold State.doStop
  extract_lets t _ u
  have ht : s.KeepsSec t := keepsSec_setBit s _ _ _
  have hu : s.KeepsSec u := ht.trans ⟨rfl⟩
  refine .ite ht (.ite (.trans (.trans (hu.trans ?_) (keepsSec_status _ _ _)) (keepsSec_setBit _ _ _ _)) hu)
  exact ⟨rfl⟩

theorem keepsSec_cycleStopped : s.KeepsSec s.cycleStopped := by
  unfold State.cycleStopped
  split
  · exact .refl s
  · refine .ite (.refl s) (.trans (.trans (.trans ?_ (keepsSec_setBit _ _ _ _)) (keepsSec_setFld _ _ _ _ _)) (keepsSec_setFlt _ true))
    exact ⟨rfl⟩

theorem keepsSec_lthDone (code : Nat) : s.KeepsSec (s.lthDone code) := by
  unfold State.lthDone
  refine .trans (.trans (.trans ?_ (keepsSec_status _ _ _)) (keepsSec_setBit _ _ _ _)) (keepsSec_msix _ 2)
  exact ⟨rfl⟩

theorem keepsSec_setEvtEn (v : Bool) : s.KeepsSec (s.setEvtEn v) := (keepsSec_setBit s _ _ _).trans (keepsSec_setBit _ _ _ _)

end

end Sys2Proof.Machine
end

section
/-! PROOFS. SEC commands that end at once (R643, R651, R652, R657, R658, R664). -/

namespace Sys2Proof.Machine

section
variable (s : State)

/-! ### A write of SEC_CMD that is taken (R664) -/

/-- What a SEC command that ends at once leaves: its effect, and its status in SEC_CMD_ST. -/
def State.secEnds (r : Nat × State) : State := r.2.status Reg.SEC_CMD_ST r.1

section
variable {s} (hopen : s.hostOpen .command Reg.SEC_CMD = true) (hfree : s.bit Reg.SEC_CMD_ST 16 = false)
include hopen hfree

/-- A write of SEC_CMD with no command under way does what the command says. -/
theorem secCmd_taken {w : W32} {f : State → State} (h : s.doSecCmd w = s.unlessBusy Reg.SEC_CMD_ST 16 f) :
    s.hostCmd Reg.SEC_CMD (fun s => s.doSecCmd w) = f s := by
  rw [hostCmd_open hopen, h, unlessBusy_free hfree]

theorem exec_clearKey_taken : exec .clearKey s = .next (State.secEnds s.doClear) :=
  congrArg Host.Outcome.next (secCmd_taken hopen hfree (f := fun s => State.secEnds s.doClear) rfl)
theorem exec_bind_taken : exec .bind s = .next (State.secEnds s.doBind) :=
  congrArg Host.Outcome.next (secCmd_taken hopen hfree (f := fun s => State.secEnds s.doBind) rfl)
theorem exec_unbind_taken : exec .unbind s = .next (State.secEnds s.doUnbind) :=
  congrArg Host.Outcome.next (secCmd_taken hopen hfree (f := fun s => State.secEnds s.doUnbind) rfl)
theorem exec_selectTx_taken : exec .selectTx s = .next (State.secEnds s.doSelectTx) :=
  congrArg Host.Outcome.next (secCmd_taken hopen hfree (f := fun s => State.secEnds s.doSelectTx) rfl)
theorem exec_challenge_taken : exec .challenge s = .next (State.secEnds s.doChallenge) :=
  congrArg Host.Outcome.next (secCmd_taken hopen hfree (f := fun s => State.secEnds s.doChallenge) rfl)
theorem exec_zeroise_taken : exec .zeroise s = .next (s.zeroiseLive.status Reg.SEC_CMD_ST DONE) :=
  congrArg Host.Outcome.next (secCmd_taken hopen hfree (f := fun s => s.zeroiseLive.status Reg.SEC_CMD_ST DONE) rfl)

end

/-! ### BIND, UNBIND and SELECT_TX (R652) -/

/-- The association that BIND adds. -/
def State.newAssoc : Assoc :=
  { slot := s.argSlot, port := s.argPort, tx := s.argTx, chan := s.argChan, an := s.argAn, xpn := (SMap.get {} s.sic.ports s.argPort :
      SwPort).xpn }

theorem doBind_form (hslot : 16 ≤ s.argSlot) (hport : s.argPort ≤ 11) (htx : s.argTx = false ∨ s.argChan = 0) (hfeat : s.feat 10 = true)
    (hkey : (SMap.find? s.sec.keys s.argSlot).isSome = true) (hnew : s.sec.assocs.any s.argAssoc = false) :
    s.doBind = (DONE, { s with sec := { s.sec with assocs := s.sec.assocs ++ [s.newAssoc] } }) := by
  have hform : (decide (16 ≤ s.argSlot) && decide (s.argPort ≤ 11) && (!s.argTx || s.argChan == 0)) = true := by
    rcases htx with h | h <;> simp [hslot, hport, h]
  have hst : (s.feat 10 && (SMap.find? s.sec.keys s.argSlot).isSome && !s.sec.assocs.any s.argAssoc) = true := by simp [hfeat, hkey, hnew]
  unfold State.doBind
  dsimp only
  rw [hform, hst]
  rfl

theorem doUnbind_bound (h : s.sec.assocs.any s.argAssoc = true) :
    s.doUnbind = (DONE, { s with sec := { s.sec with assocs := s.sec.assocs.filter (fun a => !s.argAssoc a) } }) := if_pos h

theorem doSelectTx_bound (h : s.sec.assocs.any (fun a => a.port == s.argPort && a.tx && a.an == s.argAn) = true) :
    s.doSelectTx = (DONE, { s with sec := { s.sec with txAn := SMap.insert s.sec.txAn s.argPort s.argAn } }) := if_pos h

/-! ### CHALLENGE (R639, R643) -/

/-- A word of the challenge drawn. -/
def State.drawChallenge (s : State) (j : Nat) : State := s.draw.2.setReg (Reg.SEC_CHAL j) (BitVec.ofNat 32 s.draw.1)

/-- The words of the challenge drawn. -/
def State.challenged : State := (List.range 8).foldl State.drawChallenge s

theorem drawChallenge_parts (j : Nat) : (s.drawChallenge j).sec = s.sec ∧ (s.drawChallenge j).out = s.out ∧ (s.drawChallenge j).mem = s.mem
    :=
  ⟨rfl, rfl, rfl⟩

theorem drawChallenge_regs {j : Nat} (hj : j < 8) : s.SameRegsBut (s.drawChallenge j) ((List.range 8).map Reg.SEC_CHAL) :=
  fun _ ho => reg_setReg_ne s.draw.2 _ (fun e => ho (e ▸ List.mem_map_of_mem (List.mem_range.2 hj)))

theorem challenged_parts : s.challenged.sec = s.sec ∧ s.challenged.out = s.out ∧ s.challenged.mem = s.mem ∧
    s.SameRegsBut s.challenged ((List.range 8).map Reg.SEC_CHAL) := by
  refine List.foldlRecOn (motive := fun t => t.sec = s.sec ∧ t.out = s.out ∧ t.mem = s.mem ∧ s.SameRegsBut t ((List.range 8).map
      Reg.SEC_CHAL))
    _ _ ⟨rfl, rfl, rfl, fun _ _ => rfl⟩ fun t ht j hj => ?_
  obtain ⟨hsec, hout, hmem, hregs⟩ := ht
  obtain ⟨hsec', hout', hmem'⟩ := drawChallenge_parts t j
  exact ⟨hsec'.trans hsec, hout'.trans hout, hmem'.trans hmem, hregs.trans (drawChallenge_regs t (List.mem_range.1 hj))⟩

theorem doChallenge_drawn (h : s.sec.trngFail = false) :
    s.doChallenge = (DONE, { s.challenged with sec := { s.challenged.sec with challenge := true } }) := if_neg (by simp [h])

theorem challenge_spec (h : s.sec.trngFail = false) : ∃ t, State.secEnds s.doChallenge = t ∧ t.sec = { s.sec with challenge := true } ∧
    t.fld' Reg.SEC_CMD_ST 0 8 = DONE ∧ t.out = s.out ∧ s.SameMemory t ∧
    s.SameRegsBut t (Reg.SEC_CMD_ST :: (List.range 8).map Reg.SEC_CHAL) := by
  obtain ⟨hsec, hout, hmem, hregs⟩ := challenged_parts s
  rw [doChallenge_drawn s h]
  generalize s.challenged = u at *
  have hset : ({ u with sec := { u.sec with challenge := true } } : State).regs = u.regs := rfl
  have hmark := (hregs.congr hset).mono (List.subset_cons_self Reg.SEC_CMD_ST _)
  refine ⟨_, rfl, congrArg (fun x : Sec => { x with challenge := true }) hsec, fld_status _ Reg.SEC_CMD_ST DONE (by decide), hout,
    State.sameMemory_of_mem hmem, ?_⟩
  exact hmark.trans (sameRegsBut_setReg _ _ List.mem_cons_self)

theorem doChallenge_stopped (h : s.sec.trngFail = true) : s.doChallenge = (REFUSED_STATE, s) := if_pos h

/-! ### ZEROISE (R657, R658) -/

theorem sec_useChallenge : s.useChallenge.sec = { s.sec with challenge := false } := by
  have hwords := (State.KeepsSec.refl s).foldl (fun t j => keepsSec_setReg t (Reg.SEC_CHAL j) 0) (List.range 8)
  exact congrArg (fun x : Sec => { x with challenge := false }) hwords.sec

theorem sec_zeroiseKeys : s.zeroiseKeys.sec =
    { s.sec with challenge := false, keys := [], kek := false, ident := none, assocs := [], txAn := [] } :=
  congrArg (fun x : Sec => { x with keys := [], kek := false, ident := none, assocs := [], txAn := [] }) (sec_useChallenge s)

/-- The state in which zeroise has emptied the keys and stopped the cycle. -/
def State.zeroiseStopped : State :=
  let s := s.zeroiseKeys.doStop
  let s := { s with csq := { s.csq with cur := { s.csq.cur with active := false }, segs := [] } }.cycleStopped
  if s.lth.busyOp != 0 then s.lthDone REFUSED_STATE else s

/-- The state in which zeroise has taken the image out, and ended the event log's writes. -/
def State.zeroiseBared : State :=
  (if s.zeroiseStopped.lthState == 0 then s.zeroiseStopped
    else s.zeroiseStopped.discardWork.clearDescs.resetFold.toNone).setEvtEn false

theorem zeroiseLive_eq : s.zeroiseLive =
    { (s.zeroiseBared.setBit Reg.MEM_FILL_ST 1 false).newDramKey with
      mem := s.zeroiseBared.mem.filter (fun p => decide (p.1 < dramBase))
      lth := { s.zeroiseBared.lth with img := [], applied := [], blobs := [] } } := rfl

theorem keepsSec_zeroiseStopped : s.zeroiseKeys.KeepsSec s.zeroiseStopped := by
  unfold State.zeroiseStopped
  extract_lets t _ _ u
  have ht : s.zeroiseKeys.KeepsSec t := keepsSec_doStop _
  have hu : s.zeroiseKeys.KeepsSec u := by
    refine (ht.trans ?_).trans (keepsSec_cycleStopped _)
    exact ⟨rfl⟩
  exact .ite (hu.trans (keepsSec_lthDone u _)) hu

theorem keepsSec_zeroiseBared : s.zeroiseKeys.KeepsSec s.zeroiseBared := by
  have hstop := keepsSec_zeroiseStopped s
  have hnone := (((hstop.trans (keepsSec_discardWork _)).trans (keepsSec_clearDescs _)).trans (keepsSec_resetFold _)).trans
      (keepsSec_toNone _)
  exact .trans (.ite hstop hnone) (keepsSec_setEvtEn _ false)

theorem sec_zeroiseLive : s.zeroiseLive.sec = { s.zeroiseKeys.sec with refill := true } :=
  congrArg (fun x : Sec => { x with refill := true }) (keepsSec_zeroiseBared s).sec

theorem setEvtEn_regsBut (v : Bool) : s.SameRegsBut (s.setEvtEn v) [Reg.HIF_EVT_CFG, Reg.HIF_STATUS] :=
  (sameRegsBut_setReg s _ (by decide)).trans (sameRegsBut_setReg _ _ (by decide))

theorem zeroiseBared_lthState : s.zeroiseBared.lthState = 0 := by
  refine ((setEvtEn_regsBut _ false).lthState (by decide)).trans ?_
  split
  next h => exact eq_of_beq h
  next => exact (toNone_imageless _).state

theorem zeroiseBared_evtOff : s.zeroiseBared.bit Reg.HIF_EVT_CFG 0 = false :=
  (bit_of_reg (reg_setBit_ne _ 10 false (by decide)) 0).trans (bit_setBit_same _ _ _ _ (by decide))

theorem zeroiseLive_shown : s.zeroiseLive.regs = (s.zeroiseBared.setBit Reg.MEM_FILL_ST 1 false).regs := rfl

theorem zeroiseLive_regs : s.zeroiseBared.SameRegsBut s.zeroiseLive [Reg.MEM_FILL_ST] :=
  (sameRegsBut_setReg s.zeroiseBared _ (by decide)).congr (zeroiseLive_shown s)

theorem zeroiseLive_lthState : s.zeroiseLive.lthState = 0 := ((zeroiseLive_regs s).lthState (by decide)).trans (zeroiseBared_lthState s)

theorem zeroiseLive_evtOff : s.zeroiseLive.bit Reg.HIF_EVT_CFG 0 = false :=
  ((zeroiseLive_regs s).bit (by decide) 0).trans (zeroiseBared_evtOff s)

theorem zeroiseLive_unfilled : s.zeroiseLive.bit Reg.MEM_FILL_ST 1 = false :=
  (bit_of_reg (reg_congr (zeroiseLive_shown s) _) 1).trans (bit_setBit_same _ _ _ _ (by decide))

theorem zeroiseLive_applied : s.zeroiseLive.lth.applied = [] := by rw [zeroiseLive_eq]

theorem zeroiseLive_byteAt {a : Nat} (ha : dramBase ≤ a) : s.zeroiseLive.byteAt a = 0 := by
  have hgone := SMap.find?_filter Byte s.zeroiseBared.mem (fun k => decide (k < dramBase)) a
  rw [decide_eq_false (Nat.not_lt.2 ha), if_neg Bool.false_ne_true] at hgone
  rw [zeroiseLive_eq, State.byteAt, SMap.get, hgone]

theorem zeroise_spec : ∃ t, s.zeroiseLive.status Reg.SEC_CMD_ST DONE = t ∧
    t.sec.keys = [] ∧ t.sec.kek = false ∧ t.sec.ident = none ∧ t.sec.assocs = [] ∧ t.sec.challenge = false ∧
      t.lthState = 0 ∧ t.lth.applied = [] ∧ t.bit Reg.HIF_EVT_CFG 0 = false ∧ t.bit Reg.MEM_FILL_ST 1 = false ∧ t.sec.refill = true ∧
      (∀ a, dramBase ≤ a → t.byteAt a = 0) ∧ t.fld' Reg.SEC_CMD_ST 0 8 = DONE := by
  have hsec := sec_zeroiseLive s
  rw [sec_zeroiseKeys] at hsec
  have hstate := zeroiseLive_lthState s
  have hevt := zeroiseLive_evtOff s
  have hfill := zeroiseLive_unfilled s
  have himage := zeroiseLive_applied s
  have hmem := fun a => zeroiseLive_byteAt s (a := a)
  generalize s.zeroiseLive = t at *
  have hregs : t.SameRegsBut (t.status Reg.SEC_CMD_ST DONE) [Reg.SEC_CMD_ST] := sameRegsBut_setReg t _ (by decide)
  refine ⟨_, rfl, ?_⟩
  rw [State.status_sec, State.status_lth, hsec]
  exact ⟨rfl, rfl, rfl, rfl, rfl, (hregs.lthState (by decide)).trans hstate, himage, (hregs.bit (by decide) _).trans hevt,
    (hregs.bit (by decide) _).trans hfill, rfl, hmem, fld_status t Reg.SEC_CMD_ST DONE (by decide)⟩

end

/-- Settles O41: a write of SEC_CMD with no command under way ends at once, and each command's effect is read off. -/
theorem securityCommandsThatEndAtOnce : Obligations.SecurityCommandsThatEndAtOnce := by
  intro s hopen hfree
  refine ⟨exec_clearKey_taken hopen hfree, fun hslot hport htx hfeat hkey hnew => ?_, fun h => ?_, fun h => ?_, fun h => ?_, fun h => ?_,
    ?_⟩
  · rw [exec_bind_taken hopen hfree, doBind_form s hslot hport htx hfeat hkey hnew]
    rfl
  · rw [exec_unbind_taken hopen hfree, doUnbind_bound s h]
    rfl
  · rw [exec_selectTx_taken hopen hfree, doSelectTx_bound s h]
    rfl
  · obtain ⟨t, ht, hspec⟩ := challenge_spec s h
    exact ⟨t, (exec_challenge_taken hopen hfree).trans (congrArg Host.Outcome.next ht), hspec⟩
  · rw [exec_challenge_taken hopen hfree, doChallenge_stopped s h]
    rfl
  · obtain ⟨t, ht, hspec⟩ := zeroise_spec s
    exact ⟨t, (exec_zeroise_taken hopen hfree).trans (congrArg Host.Outcome.next ht), hspec⟩

end Sys2Proof.Machine
end

section
/-! PROOFS. SEC commands that take time: what they read, and what they come to (R643 to R651, R663, R664). -/

namespace Sys2Proof.Machine

section
variable (s : State)

/-! ### A long command is accepted (R664) -/

/-- What SEC holds of a long command, from what it read at SEC_SRC. -/
def secRecord (op : Nat) : Except Nat (List Byte) → SecBusy
  | .ok bs => { op := op, bytes := bs }
  | .error e => { op := op, err := some e }

/-- The state in which SEC is busy with a command, `p` what its read answered and left. -/
def State.secBusyWith (op : Nat) (p : Except Nat (List Byte) × State) : State :=
  { p.2 with sec := { p.2.sec with busy := some (secRecord op p.1) } }.setBit Reg.SEC_CMD_ST 16 true

theorem secStart_reads (op : Nat) (h : secReads op ≠ 0) : s.secStart op = State.secBusyWith op (s.busRead idSec s.secSrc (secReads op)) :=
    by
  unfold State.secStart
  dsimp only
  rw [if_neg (by simpa using h)]
  generalize s.busRead idSec s.secSrc (secReads op) = p
  obtain ⟨r, t⟩ := p
  cases r <;> rfl

theorem secStart_attest : s.secStart 9 = State.secBusyWith 9 (.ok [], s) := rfl

theorem secRecord_parts (op : Nat) (r : Except Nat (List Byte)) : (secRecord op r).op = op ∧ (secRecord op r).void = false := by
  cases r <;> exact ⟨rfl, rfl⟩

theorem busRead_mem (id a n : Nat) : (s.busRead id a n).2.mem = s.mem := by
  unfold State.busRead
  split
  · exact (refuseAccess_mem s _ _ _ _).1
  split
  · rfl
  split
  · rfl
  split
  · rfl
  have hcheck := (keepsSeqs_checkRead s id a n 0).mem
  split <;> next h => rwa [h] at hcheck

/-- SEC is busy with a command it has accepted: keys, fuses and memory stand, and it holds the record it could read. -/
def State.SecStarts (s t : State) (op : Nat) : Prop :=
  ∃ b, t.sec.busy = some b ∧ b.op = op ∧ b.void = false ∧ t.bit Reg.SEC_CMD_ST 16 = true ∧
    t.sec.keys = s.sec.keys ∧ t.sec.otp = s.sec.otp ∧ s.SameMemory t ∧
    (∀ bs u, op ≠ 9 → s.busRead idSec s.secSrc (if op = 7 then 256 else 512) = (.ok bs, u) → b.bytes = bs ∧ b.err = none)

theorem secBusyWith_starts (op : Nat) (p : Except Nat (List Byte) × State) (hsec : s.KeepsSec p.2) (hmem : p.2.mem = s.mem)
    (hread : op ≠ 9 → p.1 = (s.busRead idSec s.secSrc (if op = 7 then 256 else 512)).1) : s.SecStarts (State.secBusyWith op p) op := by
  obtain ⟨r, t⟩ := p
  obtain ⟨hop, hvoid⟩ := secRecord_parts op r
  have hbusy : (State.secBusyWith op (r, t)).sec = { t.sec with busy := some (secRecord op r) } := State.setBit_sec _ _ _ _
  have hbit : (State.secBusyWith op (r, t)).bit Reg.SEC_CMD_ST 16 = true := bit_setBit_same _ _ _ _ (by decide)
  have hstored : (State.secBusyWith op (r, t)).mem = t.mem := State.setBit_mem _ _ _ _
  refine ⟨secRecord op r, by rw [hbusy], hop, hvoid, hbit, by rw [hbusy, hsec.sec], by rw [hbusy, hsec.sec],
    State.sameMemory_of_mem (hstored.trans hmem), fun bs v hne hok => ?_⟩
  have hr : r = .ok bs := (hread hne).trans (congrArg Prod.fst hok)
  rw [hr]
  exact ⟨rfl, rfl⟩

theorem secStart_starts (op n : Nat) (hn : secReads op = n) (h : n ≠ 0) (hlen : n = if op = 7 then 256 else 512) :
    s.SecStarts (s.secStart op) op := by
  rw [secStart_reads s op (hn ▸ h), hn, hlen]
  exact secBusyWith_starts s op _ (keepsSec_busRead s _ _ _) (busRead_mem s _ _ _) fun _ => rfl

theorem secStart_starts_attest : s.SecStarts (s.secStart 9) 9 := by
  rw [secStart_attest]
  exact secBusyWith_starts s 9 _ (.refl s) rfl fun h => absurd rfl h

theorem secStarts (hopen : s.hostOpen .command Reg.SEC_CMD = true) (hfree : s.bit Reg.SEC_CMD_ST 16 = false) :
    (∃ t, exec .importKey s = .next t ∧ s.SecStarts t 1) ∧ (∃ t, exec .unlock s = .next t ∧ s.SecStarts t 7) ∧
    (∃ t, exec .revoke s = .next t ∧ s.SecStarts t 7) ∧ (∃ t, exec .reprovision s = .next t ∧ s.SecStarts t 7) ∧
    (∃ t, exec .provision s = .next t ∧ s.SecStarts t 8) ∧ (∃ t, exec .attest s = .next t ∧ s.SecStarts t 9) := by
  have taken {w : W32} {op : Nat} (h : s.doSecCmd w = s.unlessBusy Reg.SEC_CMD_ST 16 fun s => s.secStart op) :
      Host.Outcome.next (s.hostCmd Reg.SEC_CMD fun s => s.doSecCmd w) = (.next (s.secStart op) : Host.Outcome State Fault Refusal) :=
    congrArg Host.Outcome.next (secCmd_taken hopen hfree h)
  have himport := secStart_starts s 1 512 rfl (by decide) rfl
  have hsigned := secStart_starts s 7 256 rfl (by decide) rfl
  have hprov := secStart_starts s 8 512 rfl (by decide) rfl
  exact ⟨⟨_, taken (w := 1) rfl, himport⟩, ⟨_, taken (w := 7) rfl, hsigned⟩, ⟨_, taken (w := 7) rfl, hsigned⟩,
    ⟨_, taken (w := 7) rfl, hsigned⟩, ⟨_, taken (w := 8) rfl, hprov⟩, ⟨_, taken (w := 9) rfl, secStart_starts_attest s⟩⟩

/-! ### A long command ends (R644, R661, R664, R697) -/

/-- The end of a long command after its run: it logs a refusal and counts failed authentications, and SEC_CMD_ST stands. -/
structure State.EndsSec (s t : State) : Prop where
  sec : ∃ log fails, t.sec = { s.sec with log02 := log, authFails := fails }
  shown : t.reg Reg.SEC_CMD_ST = s.reg Reg.SEC_CMD_ST

theorem State.EndsSec.refl : s.EndsSec s := ⟨⟨_, _, rfl⟩, rfl⟩

theorem State.EndsSec.trans {s t r : State} (h : s.EndsSec t) (h' : t.EndsSec r) : s.EndsSec r := by
  obtain ⟨log, fails, hsec⟩ := h.sec
  obtain ⟨log', fails', hsec'⟩ := h'.sec
  exact ⟨⟨log', fails', by rw [hsec', hsec]⟩, h'.shown.trans h.shown⟩

theorem State.EndsSec.ite {s t r : State} {p : Prop} [Decidable p] (ht : s.EndsSec t) (hr : s.EndsSec r) :
    s.EndsSec (if p then t else r) := by split <;> assumption

theorem endsSec_secRefusal (kind code : Nat) : s.EndsSec (s.secRefusal kind code) := .ite ⟨⟨_, s.sec.authFails, rfl⟩, rfl⟩ (.refl s)

theorem endsSec_countFail : s.EndsSec (s.countSat Reg.SEC_AUTH_FAIL 0 32 1) :=
  ⟨⟨s.sec.log02, s.sec.authFails, s.countSat_sec _ _ _ _⟩, reg_setFld_ne s _ _ _ (by decide)⟩

theorem endsSec_fails (n : Nat) : s.EndsSec { s with sec := { s.sec with authFails := n } } := ⟨⟨s.sec.log02, n, rfl⟩, rfl⟩

/-- Short of the third failure in a row, no alarm is raised. -/
theorem endsSec_authCount (op code : Nat) (h : op = 7 → code = REFUSED_AUTH → s.sec.authFails < 2) : s.EndsSec (s.authCount op code) := by
  unfold State.authCount
  extract_lets t
  have ht : s.EndsSec t := .ite (endsSec_countFail s) (.refl s)
  have hfails : t.sec.authFails = s.sec.authFails := by
    unfold t
    split <;> rfl
  split
  · exact ht
  next hop =>
  split
  · exact ht.trans (endsSec_fails t 0)
  next hcode =>
  rw [if_pos (hfails ▸ h (by simpa using hop) (by simpa using hcode))]
  exact ht.trans (endsSec_fails t _)

/-- What a long command that has run leaves: its status, and what follows a refusal. -/
def State.secFinish (s : State) (b : SecBusy) (c : Nat) : State :=
  let t := ((s.status Reg.SEC_CMD_ST c).setBit Reg.SEC_CMD_ST 16 false).msix 2
  (if isDone c || b.op == 9 || b.op == 8 then t else t.secRefusal (u b.bytes (if b.op == 7 then 4 else 5) 1) c).authCount b.op c

/-- The state in which SEC takes up the command it completes. -/
def State.secIdle : State := { s with sec := { s.sec with busy := none } }

theorem secDone_busy {b : SecBusy} (h : s.sec.busy = some b) : s.secDone = (s.secIdle.secRun b).2.secFinish b (s.secIdle.secRun b).1 := by
  unfold State.secDone
  rw [h]
  rfl

theorem secFinish_spec (b : SecBusy) (c : Nat) (h : b.op = 7 → c = REFUSED_AUTH → s.sec.authFails < 2) :
    (∃ log fails, (s.secFinish b c).sec = { s.sec with log02 := log, authFails := fails }) ∧
    (s.secFinish b c).bit Reg.SEC_CMD_ST 16 = false ∧ (s.secFinish b c).fld' Reg.SEC_CMD_ST 0 8 = c % 256 := by
  unfold State.secFinish
  extract_lets t
  have hregs : t.reg Reg.SEC_CMD_ST = ((s.status Reg.SEC_CMD_ST c).setBit Reg.SEC_CMD_ST 16 false).reg Reg.SEC_CMD_ST :=
    reg_congr (regs_msix _ 2) _
  have hsec : t.sec = s.sec := (keepsSec_msix _ 2).sec
  have hends : t.EndsSec (if isDone c || b.op == 9 || b.op == 8 then t else t.secRefusal (u b.bytes (if b.op == 7 then 4 else 5) 1) c) :=
    .ite (.refl t) (endsSec_secRefusal t _ _)
  have hfails (kind : Nat) : (t.secRefusal kind c).sec.authFails = t.sec.authFails := by
    unfold State.secRefusal
    split <;> rfl
  generalize hv : (if isDone c || b.op == 9 || b.op == 8 then t else t.secRefusal (u b.bytes (if b.op == 7 then 4 else 5) 1) c) = v at *
  have hcount : v.EndsSec (v.authCount b.op c) := endsSec_authCount v b.op c fun hop hc => by
    refine lt_of_eq_of_lt ?_ (h hop hc)
    rw [← hsec, ← hv]
    split
    · rfl
    · exact hfails _
  obtain ⟨⟨log, fails, hend⟩, hshown⟩ := hends.trans hcount
  have hreg := hshown.trans hregs
  refine ⟨⟨log, fails, by rw [hend, hsec]⟩, ?_, ?_⟩
  · exact (bit_of_reg hreg 16).trans (bit_setBit_same _ _ _ _ (by decide))
  · rw [State.fld', hreg]
    exact (fld_setBit_other _ _ _ (by decide) (by decide)).trans (fld_status_mod s _ c)

/-! ### What a command that has run its time comes to (R643 to R651, R663) -/

/-- What becomes of the keys when an IMPORT ends with a code. -/
def State.keysAfter (s : State) (bs : List Byte) (c : Nat) : SMap (List Byte) :=
  if c = DONE then SMap.insert s.sec.keys (u bs 6 2) (fit 64 (fit 48 ((s.blobPlain bs).getD []))) else s.sec.keys

/-- The slot of a record is an image's that LTH is taking, or a port's that is bound. -/
def State.slotInUse (s : State) (n : Nat) : Prop :=
  (n < 16 ∧ (s.lthState = 1 ∨ s.lthState = 4)) ∨ (16 ≤ n ∧ s.sec.assocs.any (fun a => a.slot == n) = true)

/-- The verdict on a record that is judged, and what a record that passed does to security. -/
def State.SecJudged (s : State) (b : SecBusy) (c : Nat) (x : Sec) : Prop :=
  (b.op = 1 → c = s.importCode b.bytes ∧ (s.slotInUse (u b.bytes 6 2) → c = REFUSED_STATE) ∧ x.keys = s.keysAfter b.bytes c) ∧
  (b.op = 7 → c = s.signedCode b.bytes) ∧
  (b.op = 7 → c = DONE → u b.bytes 4 1 = 1 → x.debug = max s.sec.debug (u b.bytes 48 1)) ∧
  (b.op = 7 → c = DONE → u b.bytes 4 1 = 2 → x.otp.signers =
    s.sec.otp.signers.map (fun (p : Nat × Signer) => if p.1 == u b.bytes 48 1 then (p.1, { p.2 with revoked := true }) else p)) ∧
  (b.op = 7 → c = DONE → u b.bytes 4 1 = 3 → x.otp.lockGen = s.sec.otp.lockGen + 1) ∧
  (b.op = 8 → c = s.provCode b.bytes ∧ (c = DONE → x.otp.owned = true ∧ x.otp.signers = provSigners b.bytes))

/-- The status of a long command: the error of its read, REFUSED_STATE where an alarm voided it, and the verdict on its record otherwise. -/
def State.SecVerdict (s : State) (b : SecBusy) (c : Nat) (x : Sec) : Prop :=
  (∀ e, b.err = some e → c = e) ∧ (b.err = none → b.void = true → c = REFUSED_STATE) ∧
  (b.err = none → b.void = false → s.SecJudged b c x)

theorem State.SecJudged.verdict {s : State} {b : SecBusy} {c : Nat} {x : Sec} (h : s.SecJudged b c x) (herr : b.err = none)
    (hvoid : b.void = false) : s.SecVerdict b c x :=
  ⟨fun _ he => absurd (herr.symm.trans he) (by simp), fun _ hv => absurd (hvoid.symm.trans hv) (by decide), fun _ _ => h⟩

/-- A run leaves SEC without a command; a signed record has used the challenge up, and failed authentications stand. -/
structure State.SecRan (s : State) (b : SecBusy) (r : Nat × State) : Prop where
  idle : r.2.sec.busy = none
  used : b.op = 7 → r.2.sec.challenge = false
  fails : r.2.sec.authFails = s.sec.authFails
  verdict : s.SecVerdict b r.1 r.2.sec

/-- A record that could not be read, or that an alarm voided. -/
def State.secUnjudged (s : State) (b : SecBusy) : State := if b.op == 7 then s.secIdle.useChallenge else s.secIdle

theorem secUnjudged_ran (b : SecBusy) (c : Nat) (hc : s.SecVerdict b c (s.secUnjudged b).sec) : s.SecRan b (c, s.secUnjudged b) := by
  by_cases hop : b.op = 7
  · have hused : (s.secUnjudged b).sec = { s.sec with busy := none, challenge := false } := by
      rw [State.secUnjudged, if_pos (beq_iff_eq.2 hop), sec_useChallenge]
      rfl
    exact ⟨(by rw [hused] : (s.secUnjudged b).sec.busy = none), fun _ => (by rw [hused] : (s.secUnjudged b).sec.challenge = false),
      (by rw [hused] : (s.secUnjudged b).sec.authFails = s.sec.authFails), hc⟩
  · have hkept : (s.secUnjudged b).sec = { s.sec with busy := none } := by
      rw [State.secUnjudged, if_neg (by simpa using hop)]
      rfl
    exact ⟨(by rw [hkept] : (s.secUnjudged b).sec.busy = none), fun h => absurd h hop,
      (by rw [hkept] : (s.secUnjudged b).sec.authFails = s.sec.authFails), hc⟩

/-! #### IMPORT (R649 to R651) -/

/-- REFUSED_STATE is the highest of the codes that a record can be refused with. -/
theorem topCode_refusedState (form auth : Bool) :
    topCode ((if form then [] else [REFUSED_DESCRIPTOR]) ++ (if auth then [] else [REFUSED_AUTH]) ++ [REFUSED_STATE]) = REFUSED_STATE := by
  cases form <;> cases auth <;> rfl

theorem importCode_inUse (b : List Byte) (h : s.slotInUse (u b 6 2)) : s.importCode b = REFUSED_STATE := by
  have hst : (s.sec.kek && s.sec.ident.isSome && !(slotKind (u b 6 2) == 1 && (s.lthState == 1 || s.lthState == 4)) &&
      !s.sec.assocs.any (fun a => a.slot == u b 6 2)) = false := by
    rcases h with ⟨hslot, hstate⟩ | ⟨-, hbound⟩
    · have hkind : slotKind (u b 6 2) = 1 := if_pos hslot
      rcases hstate with h | h <;> simp [hkind, h]
    · simp [hbound]
  unfold State.importCode
  dsimp only
  rw [hst]
  exact topCode_refusedState _ _

theorem secIdle_importRun (b : List Byte) : ∃ r, s.secIdle.importRun b = r ∧ r.1 = s.importCode b ∧
    r.2.sec = { s.sec with busy := none, keys := s.keysAfter b (s.importCode b) } := by
  have hcode : s.secIdle.importCode b = s.importCode b := rfl
  refine ⟨_, rfl, ?_⟩
  unfold State.importRun State.keysAfter
  dsimp only
  rw [hcode]
  by_cases h : s.importCode b = DONE
  · rw [if_pos h, if_neg (by simp [h])]
    exact ⟨h.symm, rfl⟩
  · rw [if_neg h, if_pos (by simpa using h)]
    exact ⟨rfl, rfl⟩

theorem importRun_ran {b : SecBusy} (herr : b.err = none) (hvoid : b.void = false) (hop : b.op = 1) :
    s.SecRan b (s.secIdle.importRun b.bytes) := by
  obtain ⟨r, hr, hcode, hsec⟩ := secIdle_importRun s b.bytes
  have hsigned : b.op ≠ 7 := by omega
  have hjudged : s.SecJudged b r.1 r.2.sec :=
    ⟨fun _ => ⟨hcode, fun h => hcode.trans (importCode_inUse s _ h), by rw [hsec, hcode]⟩, fun h => absurd h hsigned, fun h => absurd h
        hsigned,
      fun h => absurd h hsigned, fun h => absurd h hsigned, fun h => absurd (hop.symm.trans h) (by decide)⟩
  exact hr ▸ ⟨by rw [hsec], fun h => absurd h hsigned, by rw [hsec], hjudged.verdict herr hvoid⟩

/-! #### Signed records (R643 to R645, R647, R654, R655) -/

theorem keepsSec_showIdentity : s.KeepsSec s.showIdentity := by
  obtain ⟨regs, h⟩ := showIdentity_regs s
  exact h ▸ ⟨rfl⟩

theorem sec_newIdentity (gen : Nat) : (s.newIdentity gen).sec = { s.sec with
    otp := { s.sec.otp with idWraps := SMap.insert s.sec.otp.idWraps gen s.draw.1 }, ident := some s.draw.1, kek := true } := by
  rw [newIdentity_eq]
  exact (keepsSec_showIdentity _).sec

/-- An UNLOCK keeps the command, the failed authentications and a challenge that is used up; it only raises the debug level. -/
theorem unlock_parts (level slot : Nat) (h : s.sec.challenge = false) :
    (s.unlock level slot).sec.busy = s.sec.busy ∧ (s.unlock level slot).sec.challenge = false ∧
      (s.unlock level slot).sec.authFails = s.sec.authFails ∧ (s.unlock level slot).sec.debug = max s.sec.debug level := by
  unfold State.unlock
  rw [State.event_sec]
  split
  · dsimp only
    rw [sec_zeroiseLive, sec_zeroiseKeys]
    exact ⟨rfl, rfl, rfl, rfl⟩
  · exact ⟨rfl, h, rfl, rfl⟩

theorem revokeSlot_parts (k : Nat) : (s.revokeSlot k).sec = { s.sec with otp := { s.sec.otp with
    signers := s.sec.otp.signers.map (fun (p : Nat × Signer) => if p.1 == k then (k, { p.2 with revoked := true }) else p) } } := rfl

theorem reprov_parts : s.reprov.sec.busy = s.sec.busy ∧ s.reprov.sec.challenge = s.sec.challenge ∧ s.reprov.sec.authFails = s.sec.authFails
    ∧
    s.reprov.sec.otp.lockGen = s.sec.otp.lockGen + 1 := by
  unfold State.reprov State.lifeEvent
  dsimp only
  rw [State.event_sec, sec_newIdentity]
  exact ⟨rfl, rfl, rfl, rfl⟩

/-- The state in which a signed record has passed, and is carried out. -/
def State.signedDone (s : State) (b : List Byte) (slot : Nat) : State :=
  match u b 4 1 with
  | 1 => s.unlock (u b 48 1) slot
  | 2 => s.revokeSlot (u b 48 1)
  | _ => s.reprov

theorem signedDone_parts (b : List Byte) (slot : Nat) (h : s.sec.challenge = false) :
    (s.signedDone b slot).sec.busy = s.sec.busy ∧ (s.signedDone b slot).sec.challenge = false ∧
      (s.signedDone b slot).sec.authFails = s.sec.authFails ∧
      (u b 4 1 = 1 → (s.signedDone b slot).sec.debug = max s.sec.debug (u b 48 1)) ∧
      (u b 4 1 = 2 → (s.signedDone b slot).sec.otp.signers =
        s.sec.otp.signers.map (fun (p : Nat × Signer) => if p.1 == u b 48 1 then (p.1, { p.2 with revoked := true }) else p)) ∧
      (u b 4 1 = 3 → (s.signedDone b slot).sec.otp.lockGen = s.sec.otp.lockGen + 1) := by
  unfold State.signedDone
  split
  next hop =>
    obtain ⟨hbusy, hchal, hfails, hdebug⟩ := unlock_parts s (u b 48 1) slot h
    exact ⟨hbusy, hchal, hfails, fun _ => hdebug, fun h => by omega, fun h => by omega⟩
  next hop =>
    have hsigners : (s.revokeSlot (u b 48 1)).sec.otp.signers =
        s.sec.otp.signers.map (fun (p : Nat × Signer) => if p.1 == u b 48 1 then (p.1, { p.2 with revoked := true }) else p) := by
      rw [revokeSlot_parts]
      refine List.map_congr_left fun p _ => ?_
      split
      next hk => rw [eq_of_beq hk]
      next => rfl
    exact ⟨rfl, h, rfl, fun h => by omega, fun _ => hsigners, fun h => by omega⟩
  next hne1 hne2 =>
    obtain ⟨hbusy, hchal, hfails, hgen⟩ := reprov_parts s
    exact ⟨hbusy, hchal.trans h, hfails, fun h => absurd h hne1, fun h => absurd h hne2, fun _ => hgen⟩

theorem secIdle_signedRun (b : List Byte) : ∃ slot, s.secIdle.signedRun b = if s.signedCode b = DONE then
    (DONE, s.secIdle.useChallenge.signedDone b slot) else (s.signedCode b, s.secIdle.useChallenge) := by
  have hcode : s.secIdle.signedCode b = s.signedCode b := rfl
  refine ⟨(s.secIdle.signerSlot ((b.drop 64).take 96) 2).getD 0, ?_⟩
  unfold State.signedRun
  dsimp only
  rw [hcode]
  by_cases h : s.signedCode b = DONE
  · rw [if_pos h, if_neg (by simp [h])]
    rfl
  · rw [if_neg h, if_pos (by simpa using h)]

theorem signedRun_ran {b : SecBusy} (herr : b.err = none) (hvoid : b.void = false) (hop : b.op = 7) :
    s.SecRan b (s.secIdle.signedRun b.bytes) := by
  have hused : s.secIdle.useChallenge.sec = { s.sec with busy := none, challenge := false } := sec_useChallenge s.secIdle
  obtain ⟨slot, hrun⟩ := secIdle_signedRun s b.bytes
  have himport : b.op ≠ 1 := by omega
  have hprov : b.op ≠ 8 := by omega
  rw [hrun]
  by_cases h : s.signedCode b.bytes = DONE
  · have hchal : s.secIdle.useChallenge.sec.challenge = false := by rw [hused]
    obtain ⟨hbusy, hchal', hfails, hdebug, hsigners, hgen⟩ := signedDone_parts s.secIdle.useChallenge b.bytes slot hchal
    rw [hused] at hbusy hfails hdebug hsigners hgen
    rw [if_pos h]
    have hjudged : s.SecJudged b DONE (s.secIdle.useChallenge.signedDone b.bytes slot).sec :=
      ⟨fun h' => absurd h' himport, fun _ => h.symm, fun _ _ => hdebug, fun _ _ => hsigners, fun _ _ => hgen, fun h' => absurd h' hprov⟩
    exact ⟨hbusy, fun _ => hchal', hfails, hjudged.verdict herr hvoid⟩
  · rw [if_neg h]
    have hjudged : s.SecJudged b (s.signedCode b.bytes) s.secIdle.useChallenge.sec :=
      ⟨fun h' => absurd h' himport, fun _ => rfl, fun _ h' => absurd h' h, fun _ h' => absurd h' h, fun _ h' => absurd h' h,
        fun h' => absurd h' hprov⟩
    exact ⟨(by rw [hused] : s.secIdle.useChallenge.sec.busy = none), fun _ => (by rw [hused] : s.secIdle.useChallenge.sec.challenge =
        false),
      (by rw [hused] : s.secIdle.useChallenge.sec.authFails = s.sec.authFails), hjudged.verdict herr hvoid⟩

/-! #### PROVISION and ATTEST (R646, R647, R663) -/

theorem secIdle_provRun (b : List Byte) : ∃ r, s.secIdle.provRun b = r ∧ r.1 = s.provCode b ∧ r.2.sec.busy = none ∧
    r.2.sec.authFails = s.sec.authFails ∧ (s.provCode b = DONE → r.2.sec.otp.owned = true ∧ r.2.sec.otp.signers = provSigners b) := by
  have hcode : s.secIdle.provCode b = s.provCode b := rfl
  have hident := sec_newIdentity s.secIdle 0
  refine ⟨_, rfl, ?_⟩
  unfold State.provRun State.lifeEvent
  dsimp only
  rw [hcode]
  by_cases h : s.provCode b = DONE
  · rw [if_neg (by simp [h])]
    dsimp only
    rw [State.event_sec]
    unfold State.setOtp
    dsimp only
    rw [hident]
    exact ⟨h.symm, rfl, rfl, fun _ => ⟨rfl, rfl⟩⟩
  · rw [if_pos (by simpa using h)]
    exact ⟨rfl, rfl, rfl, fun h' => absurd h' h⟩

theorem provRun_ran {b : SecBusy} (herr : b.err = none) (hvoid : b.void = false) (hop : b.op = 8) :
    s.SecRan b (s.secIdle.provRun b.bytes) := by
  obtain ⟨r, hr, hcode, hbusy, hfails, hdone⟩ := secIdle_provRun s b.bytes
  have hsigned : b.op ≠ 7 := by omega
  have hjudged : s.SecJudged b r.1 r.2.sec :=
    ⟨fun h => absurd (hop.symm.trans h) (by decide), fun h => absurd h hsigned, fun h => absurd h hsigned, fun h => absurd h hsigned,
      fun h => absurd h hsigned, fun _ => ⟨hcode, fun h => hdone (hcode.symm.trans h)⟩⟩
  exact hr ▸ ⟨hbusy, fun h => absurd h hsigned, hfails, hjudged.verdict herr hvoid⟩

theorem keepsSec_attestRun : s.KeepsSec s.attestRun.2 := by
  unfold State.attestRun
  split
  · split
    · exact .refl s
    · exact (keepsSec_draw s).trans (keepsSec_busWrite _ _ _ _)
  · exact .refl s

theorem attestRun_ran {b : SecBusy} (herr : b.err = none) (hvoid : b.void = false) (himport : b.op ≠ 1) (hsigned : b.op ≠ 7)
    (hprov : b.op ≠ 8) : s.SecRan b s.secIdle.attestRun := by
  have hsec := (keepsSec_attestRun s.secIdle).sec
  have hjudged : s.SecJudged b s.secIdle.attestRun.1 s.secIdle.attestRun.2.sec :=
    ⟨fun h => absurd h himport, fun h => absurd h hsigned, fun h => absurd h hsigned, fun h => absurd h hsigned,
      fun h => absurd h hsigned, fun h => absurd h hprov⟩
  exact ⟨by rw [hsec]; rfl, fun h => absurd h hsigned, by rw [hsec]; rfl, hjudged.verdict herr hvoid⟩

/-! #### Any long command -/

theorem secRun_ran (b : SecBusy) : s.SecRan b (s.secIdle.secRun b) := by
  unfold State.secRun
  split
  next e he =>
    exact secUnjudged_ran s b e ⟨fun e' he' => Option.some.inj (he.symm.trans he'), fun h => absurd (he.symm.trans h) (by simp),
      fun h => absurd (he.symm.trans h) (by simp)⟩
  next herr =>
    split
    next hvoid =>
      exact secUnjudged_ran s b _ ⟨fun e he => absurd (herr.symm.trans he) (by simp), fun _ _ => rfl,
        fun _ h => absurd (hvoid.symm.trans h) (by decide)⟩
    next hvoid =>
      have hvoid := Bool.eq_false_iff.2 hvoid
      split
      next hop => exact importRun_ran s herr hvoid hop
      next hop => exact signedRun_ran s herr hvoid hop
      next hop => exact provRun_ran s herr hvoid hop
      next himport hsigned hprov => exact attestRun_ran s herr hvoid himport hsigned hprov

theorem exec_secCommandComplete_busy {b : SecBusy} (hon : s.powered 89 = true) (hbusy : s.sec.busy = some b) :
    exec .secCommandComplete s = .next ((s.secIdle.secRun b).2.secFinish b (s.secIdle.secRun b).1) :=
  congrArg Host.Outcome.next ((if_pos hon).trans (secDone_busy s hbusy))

theorem secCommandComplete_spec {b : SecBusy} (hon : s.powered 89 = true) (hbusy : s.sec.busy = some b)
    (hfails : b.op = 7 → s.sec.authFails < 2) : ∃ t c, exec .secCommandComplete s = .next t ∧ t.sec.busy = none ∧
      t.bit Reg.SEC_CMD_ST 16 = false ∧ t.fld' Reg.SEC_CMD_ST 0 8 = c % 256 ∧ (b.op = 7 → t.sec.challenge = false) ∧
      s.SecVerdict b c t.sec := by
  obtain ⟨hidle, hused, hkept, hverdict⟩ := secRun_ran s b
  rw [exec_secCommandComplete_busy s hon hbusy]
  generalize s.secIdle.secRun b = r at *
  obtain ⟨⟨log, fails, hsec⟩, hbit, hcode⟩ := secFinish_spec r.2 b r.1 fun hop _ => hkept ▸ hfails hop
  refine ⟨_, r.1, rfl, ?_, hbit, hcode, ?_, ?_⟩ <;> rw [hsec]
  · exact hidle
  · exact hused
  · exact hverdict

end

/-- Settles O42: a long command is followed from the write that starts it to its completion, and CLEAR empties its slot at once. -/
theorem securityCommandsThatTakeTime : Obligations.SecurityCommandsThatTakeTime := by
  refine ⟨fun s hopen hfree => secStarts s hopen hfree, fun b s hon hbusy hfails => secCommandComplete_spec s hon hbusy hfails,
    fun s hopen hfree => ⟨_, exec_clearKey_taken hopen hfree, SMap.find?_erase_same _ _, fld_status _ _ DONE (by decide), fun k hk => ?_⟩⟩
  exact SMap.find?_erase_ne _ hk

end Sys2Proof.Machine
end
